-- ==== Sys2Proof/Word.lean ====
section
/-! DEFINITION. The byte and the 64-bit word of the T9 (R12: every register is 64 bits wide). -/
namespace Sys2Proof

/-- One byte of a memory. -/
abbrev Byte := BitVec 8

/-- One 64-bit word: a register, a word of a control word, a Colok payload word (R12). -/
abbrev Word := BitVec 64

end Sys2Proof
end

