-- ==== Sys2Proof/Syntax.lean ====
section
/-! DEFINITION. The commands of the block: one constructor of `Instr` per row of the spec's table of operations and
events, with the row's operands, and the data that commands carry (packets, Colok frames, readings of sensors). -/
namespace Sys2Proof

/-- A fabric packet (R278): five header words and the payload bytes. -/
structure Packet where
  w0 : Word
  w1 : Word
  w2 : Word
  w3 : Word
  w4 : Word
  payload : List Byte
  deriving DecidableEq, Repr

/-- A Colok frame (R397): the four words of the header chunk, the payload words and the CRC of the trailer. -/
structure Frame where
  w0 : Word
  w1 : Word
  w2 : Word
  w3 : Word
  payload : List Word
  crc : BitVec 32
  deriving DecidableEq, Repr

/-- What a port and its engine show over an epoch, read in the work of the mark (R370 to R375, R383). Lists are indexed by lane,
0 to 8. -/
structure PortReading where
  /-- received power and lock-in sum of each drop ring (LOCKIN_SNAP) -/
  rxPower : List Nat
  rxSum : List Int
  /-- equaliser margin of each received lane, 0.1 dB (LANE_MARGIN_SNAP.NOW) -/
  margin : List Nat
  /-- offset of the spare comb's line 0, GHz (OPT_FADE.SPARE_ALIGN) -/
  align : Int
  /-- rings whose sweep has found a peak with the lane's identity: ring (0 to 8 modulator, 9 to 17 drop) and code -/
  found : List (Nat × Nat)
  /-- lanes whose drop ring finds no matching peak in training -/
  noPeak : List Nat
  deriving DecidableEq, Repr

/-- What the sensors and the two management controllers show at an epoch mark (R25, R72, R249, R428, R429, R437). -/
structure Readings where
  /-- each controller writes its heartbeat (R25) -/
  alive0 : Bool
  alive1 : Bool
  /-- each controller has not finished the work of the previous mark (R72) -/
  overrun0 : Bool
  overrun1 : Bool
  /-- mean input power over the last epoch, W, and whether it was above WATTS for the whole epoch -/
  watts : Nat
  aboveEnvelope : Bool
  /-- input voltage and bank voltage, 10 mV -/
  vin : Nat
  vbank : Nat
  /-- die temperatures, °C, D0 to D3 -/
  dieTemp : List Nat
  /-- stack temperatures, °C, S0 to S15 -/
  stackTemp : List Nat
  /-- bytes the flash programmed in the epoch (R453) -/
  flProgrammed : Nat
  /-- the optical ports, P0 to P11, then Colok A and B -/
  ports : List PortReading
  deriving DecidableEq, Repr

/-- The staged pairs of the module (R70): the register pair, and below the instance it belongs to. -/
inductive StagedPair where
  | pcret | thr | ppr | rtSend | steer | lane | pwrThr
  deriving DecidableEq, Repr

/-- A memory access (R232, R242, R257, R259): the die it comes from and its requester number there (R239), the device address,
the bytes to write (none for a read of `len` bytes), and what the memory shows with it: severity 1 CE or 2 UE at a bank and row,
commands reissued for parity, device poison. -/
structure MemReq where
  die : Nat
  requester : Nat
  addr : Nat
  len : Nat
  data : Option (List Byte)
  sev : Nat
  bank : Nat
  row : Nat
  parity : Nat
  poison : Bool
  deriving DecidableEq, Repr

/-- The outcome of a memory controller's training (R254): whether the stack passed, the pseudo-channels that failed, lanes repaired, attempts,
and whether the exit from self refresh met an error (R256). -/
structure Training where
  pass : Bool
  srefError : Bool
  failed : BitVec 32
  lanes : Nat
  attempts : Nat
  deriving DecidableEq, Repr

/-- What a port reads from its engine at DETECT (R387, R358, R390): LD_CAPS, the laser record, and for each ring, modulator rings
first, its calibration in the bits of RING_TX: FSR_CODE in 35:22, CAL_START in 21:8. -/
structure EngineRecord where
  caps : Word
  laser : Nat
  cal : List Word
  deriving DecidableEq, Repr

/-- The commands: one constructor per row of the spec's table of operations and events. -/
inductive Instr where
  /-- EPOCH_MARK (R46) -/
  | epochMark (r : Readings)
  /-- SLOT_BOUNDARY (R46) -/
  | slotBoundary
  /-- EPOCH_PULSE (R56) -/
  | epochPulse
  /-- CADREF_LOST (R56) -/
  | cadrefLost
  /-- CADREF_REGAINED (R56) -/
  | cadrefRegained (phase : Int)
  /-- BEACON_SOURCE_TIMEOUT (R56) -/
  | beaconSourceTimeout (phase : Int)
  /-- FREE_RUN_LIMIT (R56) -/
  | freeRunLimit
  /-- CAD_LOAD (R51) -/
  | cadLoad (epoch : Nat)
  /-- STAGED_PAIR_ARM (R71) -/
  | stagedPairArm (pair : StagedPair) (inst : Nat) (slot : Nat)
  /-- MGMT_TAKEOVER (R25) -/
  | mgmtTakeover
  /-- FAULT_RECORD_WRITE (R38) -/
  | faultRecordWrite (queue : Nat)
  /-- PEAK_ASSERT (R426) -/
  | peakAssert (watts : Nat)
  /-- PEAK_RELEASE (R426) -/
  | peakRelease (slots : Nat)
  /-- CORE_RUN (R107) -/
  | coreRun (site : Nat)
  /-- CORE_STOP (R107) -/
  | coreStop (site : Nat)
  /-- CORE_STOPPED (R107) -/
  | coreStopped (site : Nat)
  /-- CORE_HALTED (R107) -/
  | coreHalted (site : Nat)
  /-- CORE_FREEZE (R99) -/
  | coreFreeze (site : Nat)
  /-- NEXT (R78) -/
  | next (site : Nat) (ecc : Nat)
  /-- LOOP_OPEN (R78) -/
  | loopOpen (site : Nat)
  /-- LOOP_CLOSE (R78) -/
  | loopClose (site : Nat)
  /-- WAIT (R104) -/
  | wait (site : Nat)
  /-- WAIT_RELEASE (R104) -/
  | waitRelease (site : Nat)
  /-- WAIT_TIMEOUT (R105) -/
  | waitTimeout (site : Nat)
  /-- HALT (R78) -/
  | halt (site : Nat)
  /-- LOOP_TRIP_IMM (R80) -/
  | loopTripImm (site : Nat)
  /-- LOOP_TRIP_REG (R80) -/
  | loopTripReg (site : Nat)
  /-- LOOP_STEP (R80) -/
  | loopStep (site : Nat)
  /-- ISSUE_STEP (R83) -/
  | issueStep (site : Nat) (ag : Nat)
  /-- ISSUE (R82) -/
  | issue (site : Nat) (ag : Nat)
  /-- AG_STEP (R83) -/
  | agStep (site : Nat) (ag : Nat)
  /-- AG_RESET (R82) -/
  | agReset (site : Nat) (ag : Nat)
  /-- AG_SELECT (R82) -/
  | agSelect (site : Nat) (ag : Nat)
  /-- FLUSH (R84) -/
  | flush (site : Nat) (ag : Nat)
  /-- ELEMENT_POPPABLE (R96) -/
  | elementPoppable (site : Nat) (queue : Nat)
  /-- LOAD (R86) -/
  | load (site : Nat)
  /-- MAC (R86) -/
  | mac (site : Nat)
  /-- MAC_LOAD (R86) -/
  | macLoad (site : Nat)
  /-- MAC_INIT (R86) -/
  | macInit (site : Nat)
  /-- MAC_INIT_LOAD (R86) -/
  | macInitLoad (site : Nat)
  /-- SWAP (R86) -/
  | swap (site : Nat)
  /-- MOVE (R89) -/
  | move (site : Nat)
  /-- ADD (R155) -/
  | add (site : Nat)
  /-- SUB (R155) -/
  | sub (site : Nat)
  /-- MUL (R155) -/
  | mul (site : Nat)
  /-- FMA (R155) -/
  | fma (site : Nat)
  /-- MAX (R89) -/
  | max (site : Nat)
  /-- MIN (R89) -/
  | min (site : Nat)
  /-- ABS (R89) -/
  | abs (site : Nat)
  /-- NEG (R89) -/
  | neg (site : Nat)
  /-- RECIP (R155) -/
  | recip (site : Nat)
  /-- RSQRT (R155) -/
  | rsqrt (site : Nat)
  /-- EXP2 (R155) -/
  | exp2 (site : Nat)
  /-- LOG2 (R155) -/
  | log2 (site : Nat)
  /-- ROWSUM (R167) -/
  | rowsum (site : Nat)
  /-- ROWMAX (R167) -/
  | rowmax (site : Nat)
  /-- TOP8 (R168) -/
  | top8 (site : Nat)
  /-- CMP_GT (R89) -/
  | cmpGt (site : Nat)
  /-- SELECT (R89) -/
  | select (site : Nat)
  /-- SCALE (R136) -/
  | scale (site : Nat)
  /-- DRAWMASK (R89) -/
  | drawmask (site : Nat)
  /-- PAIR_ADD (R151) -/
  | pairAdd (site : Nat)
  /-- PAIR_MUL (R151) -/
  | pairMul (site : Nat)
  /-- PAIR_SPLIT (R152) -/
  | pairSplit (site : Nat)
  /-- CONV (R138) -/
  | conv (site : Nat)
  /-- FUNCTION_TABLE (R175) -/
  | functionTable (site : Nat)
  /-- DERIVATIVE_TABLE (R175) -/
  | derivativeTable (site : Nat)
  /-- HISTORY_CAPTURE (R147) -/
  | historyCapture (site : Nat)
  /-- RDRAW (R144) -/
  | rdraw (site : Nat)
  /-- LOCAL_SIGNAL (R106) -/
  | localSignal (site : Nat)
  /-- REMOTE_SIGNAL (R106) -/
  | remoteSignal (site : Nat)
  /-- STREAM_START (R110) -/
  | streamStart (site : Nat)
  /-- STREAM_MEM_TO_STORE (R117) -/
  | streamMemToStore (site : Nat)
  /-- STREAM_STORE_TO_MEM (R117) -/
  | streamStoreToMem (site : Nat)
  /-- STREAM_STORE_ATOMIC (R117) -/
  | streamStoreAtomic (site : Nat)
  /-- STREAM_ACC_TO_MEM (R117) -/
  | streamAccToMem (site : Nat)
  /-- STREAM_ACC_ATOMIC (R117) -/
  | streamAccAtomic (site : Nat)
  /-- STREAM_MEM_TO_ACC (R117) -/
  | streamMemToAcc (site : Nat)
  /-- STREAM_COMPLETE (R110) -/
  | streamComplete (site : Nat) (idx : Nat)
  /-- ACC_FLAGS_CLEAR (R166) -/
  | accFlagsClear (site : Nat) (sat : Nat) (poison : Nat)
  /-- COMMIT_NOW (R148) -/
  | commitNow (site : Nat)
  /-- AUTO_RECOMPUTE_DONE (R149) -/
  | autoRecomputeDone (site : Nat)
  /-- RE_START (R181) -/
  | reStart (die : Nat) (job : Nat)
  /-- RE_SELFTEST (R183) -/
  | reSelftest (die : Nat)
  /-- RE_SELFTEST_DONE (R183) -/
  | reSelftestDone (die : Nat) (pass : Bool)
  /-- STATS (R179) -/
  | stats (die : Nat)
  /-- NORM_FWD (R179) -/
  | normFwd (die : Nat)
  /-- NORM_BWD (R179) -/
  | normBwd (die : Nat)
  /-- SMAX_FWD (R179) -/
  | smaxFwd (die : Nat)
  /-- SMAX_BWD (R179) -/
  | smaxBwd (die : Nat)
  /-- TEST_CMP (R184) -/
  | testCmp (die : Nat)
  /-- RE_JOB_DONE (R180) -/
  | reJobDone (die : Nat)
  /-- SEQ_START_ARM (R203) -/
  | seqStartArm (slot : Nat)
  /-- STEP_START (R204) -/
  | stepStart
  /-- RUN_START (R204) -/
  | runStart
  /-- STEP_CORES_HALTED (R204) -/
  | stepCoresHalted
  /-- VERDICT_ENTRY (R209) -/
  | verdictEntry
  /-- COMMIT_SLOT (R204) -/
  | commitSlot
  /-- LATE_VERDICT_ACT (R213) -/
  | lateVerdictAct
  /-- SEQ_MARK (R213) -/
  | seqMark (accept : Bool) (tag : Nat)
  /-- APPLY_START (R204) -/
  | applyStart
  /-- UPD_GROUP_DONE (R221) -/
  | updGroupDone (unit : Nat)
  /-- ROLLBACK_END (R204) -/
  | rollbackEnd
  /-- RESUME (R221) -/
  | resume
  /-- MC_ACCESS (R232) -/
  | mcAccess (req : MemReq)
  /-- MC_ATOMIC_ADD (R170) -/
  | mcAtomicAdd (req : MemReq)
  /-- MAP_LOAD (R237) -/
  | mapLoad
  /-- MAP_LOAD_EFFECT (R237) -/
  | mapLoadEffect
  /-- SOFT_REPAIR (R244) -/
  | softRepair (stack : Nat)
  /-- PC_RETIRE (R245) -/
  | pcRetire (stack : Nat)
  /-- THERMAL_ACTION (R249) -/
  | thermalAction (stack : Nat)
  /-- CATASTROPHIC_TEMPERATURE (R252) -/
  | catastrophicTemperature (stack : Nat)
  /-- MC_TRAIN_DONE (R254) -/
  | mcTrainDone (stack : Nat) (t : Training)
  /-- FAR_ACCESS (R259) -/
  | farAccess (req : MemReq)
  /-- FAR_LINK_DOWN (R260) -/
  | farLinkDown (port : Nat)
  /-- FAR_RETRAIN (R260) -/
  | farRetrain (port : Nat) (ok : Bool)
  /-- PACKET_HOP (R276) -/
  | packetHop (port : Nat) (cls : Nat) (pkt : Packet)
  /-- PKT_WRITE (R279) -/
  | pktWrite
  /-- ATOMIC_ADD (R279) -/
  | atomicAdd
  /-- SIGNAL (R280) -/
  | signal
  /-- RED_CONTRIB (R325) -/
  | redContrib
  /-- RED_RESULT (R333) -/
  | redResult
  /-- PELOTON_ARRIVE (R339) -/
  | pelotonArrive
  /-- PELOTON_RELEASE (R340) -/
  | pelotonRelease
  /-- CARAVAN (R346) -/
  | caravan
  /-- MGMT_REQ (R409) -/
  | mgmtReq
  /-- MGMT_RESP (R409) -/
  | mgmtResp
  /-- AGE_LIMIT (R288) -/
  | ageLimit (port : Nat) (idx : Nat)
  /-- LINK_LOST (R299) -/
  | linkLost (port : Nat)
  /-- PORT_DRAIN_DONE (R299) -/
  | portDrainDone (port : Nat)
  /-- ARB_WATCHDOG (R305) -/
  | arbWatchdog (port : Nat)
  /-- CREDIT_RETURN (R284) -/
  | creditReturn (port : Nat) (buf : Nat) (beats : Nat)
  /-- BANK_COMMIT (R293) -/
  | bankCommit (bank : Nat) (tag : Nat)
  /-- BANK_DISCARD (R292) -/
  | bankDiscard (bank : Nat)
  /-- BANK_RETIRE (R292) -/
  | bankRetire (bank : Nat)
  /-- SEND_SWITCH (R294) -/
  | sendSwitch
  /-- RC_ARM (R316) -/
  | rcArm (ctx : Nat) (slot : Nat)
  /-- RC_ABORT (R317) -/
  | rcAbort (ctx : Nat)
  /-- RC_ACTIVATE (R317) -/
  | rcActivate (ctx : Nat)
  /-- ROUND_CLOSE (R327) -/
  | roundClose (ctx : Nat) (half : Nat)
  /-- ROUND_SEND (R332) -/
  | roundSend (ctx : Nat) (half : Nat)
  /-- ROUND_DONE (R332) -/
  | roundDone (ctx : Nat) (half : Nat)
  /-- PELOTON_MEMBER_ARRIVE (R339) -/
  | pelotonMemberArrive (ctx : Nat)
  /-- PELOTON_MASTER_RELEASE (R340) -/
  | pelotonMasterRelease (ctx : Nat)
  /-- PELOTON_DEADLINE (R340) -/
  | pelotonDeadline (ctx : Nat)
  /-- CARAVAN_FENCE (R347) -/
  | caravanFence (ctx : Nat)
  /-- CARAVAN_PHASE_DONE (R347) -/
  | caravanPhaseDone (ctx : Nat)
  /-- LCW_RECEIVE (R366) -/
  | lcwReceive (port : Nat) (lane : Nat) (cycle : Nat) (lcw : BitVec 128) (corr : Nat) (uncorr : Nat)
  /-- STEER (R376) -/
  | steer (port : Nat)
  /-- LANE_DECLARE (R372) -/
  | laneDeclare (port : Nat)
  /-- STEER_RETRY (R377) -/
  | steerRetry (port : Nat)
  /-- AUTO_SPARE (R379) -/
  | autoSpare (port : Nat)
  /-- MON (R362) -/
  | mon (port : Nat) (f : BitVec 32)
  /-- LMON (R362) -/
  | lmon (port : Nat) (f : BitVec 32)
  /-- REG_DATA (R362) -/
  | regData (port : Nat) (f : BitVec 32)
  /-- ALERT (R362) -/
  | alert (port : Nat) (f : BitVec 32)
  /-- SIDEBAND_LOST (R363) -/
  | sidebandLost (port : Nat)
  /-- SPARE_WARM_TIMEOUT (R383) -/
  | spareWarmTimeout (port : Nat)
  /-- ENGINE_DETECTED (R387) -/
  | engineDetected (port : Nat) (e : EngineRecord)
  /-- LASER_STABLE (R387) -/
  | laserStable (port : Nat)
  /-- TX_ACQ_DONE (R387) -/
  | txAcqDone (port : Nat) (locks : List Nat)
  /-- RX_ACQ_DONE (R387) -/
  | rxAcqDone (port : Nat) (locks : List Nat)
  /-- EQ_DONE (R387) -/
  | eqDone (port : Nat) (refs : List Nat)
  /-- CAPS_AGREED (R389) -/
  | capsAgreed (port : Nat) (caps : Word)
  /-- PING (R388) -/
  | ping (port : Nat) (w : Word) (cycle : Nat)
  /-- ECHO (R388) -/
  | echo (port : Nat) (w : Word) (cycle : Nat)
  /-- TRAIN_PHASE_TIMEOUT (R387) -/
  | trainPhaseTimeout (port : Nat)
  /-- ENGINE_REMOVED (R387) -/
  | engineRemoved (port : Nat)
  /-- OVER_CURRENT (R359) -/
  | overCurrent (port : Nat)
  /-- RETRAIN (R387) -/
  | retrain (port : Nat)
  /-- OPT_SPARE (R393) -/
  | optSpare (port : Nat) (lane : Nat)
  /-- OPT_SWAP (R393) -/
  | optSwap (port : Nat)
  /-- OPT_RETAKE_REFS (R393) -/
  | optRetakeRefs (port : Nat)
  /-- FLOW (R400) -/
  | flow (port : Nat) (f : Frame)
  /-- WRITE (R398) -/
  | write (port : Nat) (f : Frame)
  /-- READ (R398) -/
  | read (port : Nat) (f : Frame)
  /-- WRITE_STREAM (R398) -/
  | writeStream (port : Nat) (f : Frame)
  /-- READ_STREAM (R398) -/
  | readStream (port : Nat) (f : Frame)
  /-- COLOK_SIGNAL (R398) -/
  | colokSignal (port : Nat) (f : Frame)
  /-- CAPS (R402) -/
  | caps (port : Nat) (f : Frame)
  /-- COLOK_RESEND_TIMEOUT (R400) -/
  | colokResendTimeout (port : Nat)
  /-- REQUEST_COMPLETE (R404) -/
  | requestComplete (port : Nat) (idx : Nat)
  /-- COLOK_LINK_LOST (R401) -/
  | colokLinkLost (port : Nat)
  /-- PROXY_TIMEOUT (R409) -/
  | proxyTimeout (idx : Nat)
  /-- DW_ADDR_WRITE (R407) -/
  | dwAddrWrite (port : Nat) (win : Nat) (v : Word)
  /-- DW_DATA_WRITE (R408) -/
  | dwDataWrite (port : Nat) (win : Nat) (v : Word)
  /-- DW_DATA_READ (R407) -/
  | dwDataRead (port : Nat) (win : Nat)
  /-- REGISTER_WRITE (R14) -/
  | registerWrite (addr : Nat) (v : Word)
  /-- SB_WRITE_TRANSFER (R421) -/
  | sbWriteTransfer (index : Nat) (bytes : List Byte)
  /-- SB_READ_TRANSFER (R421) -/
  | sbReadTransfer (n : Nat)
  /-- ENTDAA (R421) -/
  | entdaa (addr : Nat)
  /-- SETDASA (R421) -/
  | setdasa (addr : Nat)
  /-- RSTDAA (R421) -/
  | rstdaa
  /-- ENEC (R421) -/
  | enec
  /-- DISEC (R421) -/
  | disec
  /-- GETPID (R421) -/
  | getpid
  /-- GETBCR (R421) -/
  | getbcr
  /-- GETDCR (R421) -/
  | getdcr
  /-- GETSTATUS (R421) -/
  | getstatus
  /-- GETMWL (R421) -/
  | getmwl
  /-- GETMRL (R421) -/
  | getmrl
  /-- RSTACT (R421) -/
  | rstact (action : Nat)
  /-- ALERT_CAUSE_CLEAR (R423) -/
  | alertCauseClear (bits : Nat)
  /-- POWER_APPLIED (R446) -/
  | powerApplied (vin : Nat)
  /-- VIN_WARN (R425) -/
  | vinWarn (vin : Nat)
  /-- INPUT_LOSS (R441) -/
  | inputLoss (vin : Nat) (vbank : Nat)
  /-- INPUT_RETURN (R443) -/
  | inputReturn (vin : Nat)
  /-- PRSNT_DEBOUNCED (R432) -/
  | prsntDebounced
  /-- PRECHARGE_DONE (R446) -/
  | prechargeDone (vin : Nat)
  /-- PRECHARGE_TIMEOUT (R433) -/
  | prechargeTimeout
  /-- IMAGE_BOOT (R452) -/
  | imageBoot (readFail : Nat)
  /-- TRAIN_DONE (R446) -/
  | trainDone
  /-- ADMIT (R446) -/
  | admitModule
  /-- RETIRE_REQUEST (R434) -/
  | retireRequest
  /-- RETIRE_DRAIN (R435) -/
  | retireDrain
  /-- DIE_CRIT_RETIRE (R429) -/
  | dieCritRetire
  /-- THROTTLE_LEVEL (R427) -/
  | throttleLevel
  /-- MODULE_RESET (R461) -/
  | moduleReset (byPin : Bool) (digestOk : Bool)
  /-- COMPUTE_RESET (R461) -/
  | computeReset
  /-- CORE_RESET (R461) -/
  | coreReset (site : Nat)
  /-- STACK_RESET (R461) -/
  | stackReset (stack : Nat)
  /-- PORT_RESET (R461) -/
  | portReset (port : Nat)
  /-- MANAGEMENT_RESET (R461) -/
  | managementReset (digestOk : Bool)
  /-- MGMT_RESUME (R461) -/
  | mgmtResume
  /-- RESTART (R446) -/
  | restart
  /-- HU_MEASURE (R438) -/
  | huMeasure
  /-- HU_MEASURE_DONE (R438) -/
  | huMeasureDone (dv : Nat)
  /-- LEDGER_COMMIT (R455) -/
  | ledgerCommit
  /-- LEDGER_COMMIT_DONE (R455) -/
  | ledgerCommitDone
  /-- HOLDUP_REFUSE_TIMEOUT (R433) -/
  | holdupRefuseTimeout
  /-- FLASH_ERASE (R453) -/
  | flashErase (bank : Nat)
  /-- FLASH_VERIFY (R453) -/
  | flashVerify (bank : Nat)
  /-- ARM_TRIAL (R453) -/
  | armTrial (bank : Nat)
  /-- DISARM (R467) -/
  | disarm (bank : Nat)
  /-- FL_DATA_WRITE (R453) -/
  | flDataWrite (v : Word)
  /-- FLASH_OP_DONE (R453) -/
  | flashOpDone (ok : Bool)
  /-- ATTEST (R458) -/
  | attest
  /-- SUBMIT (R460) -/
  | submit
  /-- ID_OP_DONE (R458) -/
  | idOpDone
  /-- ID_DATA_ACCESS (R467) -/
  | idDataAccess (write : Bool) (v : Word)
  /-- UNIT_ENABLE (R463) -/
  | unitEnable (unit : Nat)
  /-- UNIT_DRAIN (R463) -/
  | unitDrain (unit : Nat)
  /-- UNIT_DRAIN_END (R463) -/
  | unitDrainEnd (unit : Nat)
  /-- UNIT_INIT_DONE (R463) -/
  | unitInitDone (unit : Nat) (ok : Bool)
  /-- DITHER (R369) -/
  | dither (port : Nat)
  /-- SAMPLE (R370) -/
  | sample (port : Nat)
  /-- MODRST_N_RELEASE (R462) -/
  | modrstNRelease
  /-- SOFT_REPAIR_DONE (R244) -/
  | softRepairDone (stack : Nat)
  deriving DecidableEq, Repr

end Sys2Proof
end

