-- ==== Sys2Proof/Decode.lean ====
section
/-! DEFINITION. The decoder of table words. The T9's table of operations and events gives no row any bits: its commands
are events and register writes and no words of a program, so no word spells a command. -/
namespace Sys2Proof

/-- The command that a word of the table spells: none, since no row has bits. -/
def decodeTableWord (_nbits _w : Nat) : Option Instr := none

end Sys2Proof
end

