-- ==== Sys2Proof/Machine/Fields.lean ====
section
/-! DEFINITION. Device addresses of the registers (R112, R156, R193, R226, R261, R263, R265, R308, R310, R352, R392, R407,
R410 to R412, R416, R419, R466) and the bit fields of each. `A.X` is the device address of register X, `F.X_Y` its field Y.
The sideband file (R422) is no part of the device address space and is keyed from 2^48 up. -/
namespace Sys2Proof.Machine

/-- A field of a register: the register's address and the bit range high:low (R10). -/
structure Field where
  addr : Nat
  hi : Nat
  lo : Nat
  deriving DecidableEq, Repr

/-- Base of the registers of core window n (R410, R411). -/
def coreReg (n : Nat) : Nat := 0x200000F00000 + 0x1000000 * n
/-- The global control page (R410). -/
def pageReg : Nat := 0x300000000000
/-- The step sequencer block (R412). -/
def seqReg : Nat := 0x300000001000
/-- The memory map block (R412). -/
def mapReg : Nat := 0x300000002000
/-- Far-memory port p (R265). -/
def farReg (p : Nat) : Nat := 0x300000002400 + 0x100 * p
/-- Spoke port block p (R410). -/
def spkReg (p : Nat) : Nat := 0x300000010000 + 0x1000 * p
/-- Memory-controller block n (R410). -/
def mcReg (n : Nat) : Nat := 0x300000020000 + 0x1000 * n
/-- The management block (R416). -/
def mgmtReg : Nat := 0x300000030000
/-- Colok port block q (R410). -/
def colokReg (q : Nat) : Nat := 0x300000040000 + 0x1000 * q
/-- The block that holds the optical registers of port p: Spoke ports 0 to 11, Colok A 12, Colok B 13 (R392, R419). -/
def optReg (p : Nat) : Nat := if p < 12 then spkReg p else colokReg (p - 12)
/-- The router block (R410). -/
def rtReg : Nat := 0x300001000000
/-- The collective block (R410). -/
def collReg : Nat := 0x300001100000
/-- Row-engine block of die d (R410). -/
def reReg (d : Nat) : Nat := 0x300002000000 + 0x400000 * d
/-- The sideband register file (R422), outside the device address space. -/
def sbReg : Nat := 0x1000000000000

def A.CORE_CTRL (n : Nat) : Nat := coreReg n + 0x0
def A.CORE_STATE (n : Nat) : Nat := coreReg n + 0x8
def A.CORE_ENTRY (n : Nat) : Nat := coreReg n + 0x10
def A.CORE_FAULT (n : Nat) : Nat := coreReg n + 0x18
def A.CORE_ERR (n : Nat) : Nat := coreReg n + 0x20
def A.CORE_WAIT_LIMIT (n : Nat) : Nat := coreReg n + 0x28
def A.CORE_PERF_SNAP (n : Nat) : Nat := coreReg n + 0x30
def A.LOOP_TRIP (n i : Nat) : Nat := coreReg n + 0x40 + 0x8 * i
def A.LOOP_CNT (n i : Nat) : Nat := coreReg n + 0x80 + 0x8 * i
def A.QCFG (n i : Nat) : Nat := coreReg n + 0x100 + 0x8 * i
def A.QSTAT (n i : Nat) : Nat := coreReg n + 0x180 + 0x8 * i
def A.CNT (n i : Nat) : Nat := coreReg n + 0x200 + 0x8 * i
def A.CNT_TGT (n i : Nat) : Nat := coreReg n + 0x300 + 0x8 * i
def A.AG_BASE (n i j : Nat) : Nat := coreReg n + 0x400 + 0x100 * i + 0x80 * j
def A.AG_MODE (n i j : Nat) : Nat := coreReg n + 0x408 + 0x100 * i + 0x80 * j
def A.AG_LVL (n i j k : Nat) : Nat := coreReg n + 0x410 + 0x100 * i + 0x80 * j + 0x8 * k
def A.SD_ADDR (n i : Nat) : Nat := coreReg n + 0xA00 + 0x20 * i
def A.SD_LOCAL (n i : Nat) : Nat := coreReg n + 0xA08 + 0x20 * i
def A.SD_SHAPE (n i : Nat) : Nat := coreReg n + 0xA10 + 0x20 * i
def A.SD_STRIDE (n i : Nat) : Nat := coreReg n + 0xA18 + 0x20 * i
def A.SIG_DESC (n i : Nat) : Nat := coreReg n + 0xC00 + 0x8 * i
def A.AG_POS (n i : Nat) : Nat := coreReg n + 0xE00 + 0x8 * i
def A.RNG_SEED (n : Nat) : Nat := coreReg n + 0xF00
def A.RNG_COUNT (n : Nat) : Nat := coreReg n + 0xF08
def A.RNG_SNAP (n i : Nat) : Nat := coreReg n + 0xF10 + 0x8 * i
def A.CONV_CTRL (n : Nat) : Nat := coreReg n + 0x1000
def A.CONV_STATUS (n : Nat) : Nat := coreReg n + 0x1008
def A.CONV_BFP (n : Nat) : Nat := coreReg n + 0x1010
def A.CONV_BFP_POS (n : Nat) : Nat := coreReg n + 0x1018
def A.SCALE_CFG (n i : Nat) : Nat := coreReg n + 0x1100 + 0x8 * i
def A.HIST_CFG (n i : Nat) : Nat := coreReg n + 0x1300 + 0x8 * i
def A.CONV_TAG_A (n i : Nat) : Nat := coreReg n + 0x1400 + 0x10 * i
def A.CONV_TAG_B (n i : Nat) : Nat := coreReg n + 0x1408 + 0x10 * i
def A.CONV_TAG_A_SNAP (n i : Nat) : Nat := coreReg n + 0x1500 + 0x10 * i
def A.CONV_TAG_B_SNAP (n i : Nat) : Nat := coreReg n + 0x1508 + 0x10 * i
def A.ACC_FLAGS (n : Nat) : Nat := coreReg n + 0x1800
def A.ACC_TYPE (n : Nat) : Nat := coreReg n + 0x1808
def A.TOP8_STATE (n : Nat) : Nat := coreReg n + 0x1810
def A.TABLE_CFG_F (n : Nat) : Nat := coreReg n + 0x1818
def A.TABLE_CFG_D (n : Nat) : Nat := coreReg n + 0x1820
def A.SCALE_WORD (n i j : Nat) : Nat := coreReg n + 0x8000 + 0x4000 * i + 0x8 * j
def A.HIST_WORD (n i j : Nat) : Nat := coreReg n + 0x10000 + 0x1000 * i + 0x8 * j
def A.FUNC_ENTRY (n i : Nat) : Nat := coreReg n + 0x18000 + 0x8 * i
def A.DERIV_ENTRY (n i : Nat) : Nat := coreReg n + 0x19000 + 0x8 * i
def A.GRADE_MASK : Nat := pageReg + 0x0
def A.CORE_SITE_MAP0 : Nat := pageReg + 0x8
def A.CORE_SITE_MAP1 : Nat := pageReg + 0x10
def A.MODULE_STATE : Nat := pageReg + 0x18
def A.FAULT_HEAD : Nat := pageReg + 0x20
def A.FAULT_LOST : Nat := pageReg + 0x28
def A.CAD_NOW : Nat := pageReg + 0x100
def A.CAD_SLOT : Nat := pageReg + 0x108
def A.CAD_EPOCH : Nat := pageReg + 0x110
def A.CAD_STATUS : Nat := pageReg + 0x118
def A.CAD_CTRL : Nat := pageReg + 0x120
def A.CAD_LOAD : Nat := pageReg + 0x128
def A.CAD_ERR : Nat := pageReg + 0x130
def A.UNIT_STATE (i : Nat) : Nat := pageReg + 0x200 + 0x8 * i
def A.FAULT_RING (i j : Nat) : Nat := pageReg + 0x8000 + 0x20 * i + 0x8 * j
def A.SEQ_CTRL : Nat := seqReg + 0x0
def A.SEQ_STATE : Nat := seqReg + 0x8
def A.SEQ_STEP : Nat := seqReg + 0x10
def A.SEQ_START : Nat := seqReg + 0x18
def A.SEQ_PLAN : Nat := seqReg + 0x20
def A.SEQ_PERIOD : Nat := seqReg + 0x28
def A.SEQ_VCFG : Nat := seqReg + 0x30
def A.SEQ_LATE_ALLOW : Nat := seqReg + 0x38
def A.SEQ_NORM_CFG : Nat := seqReg + 0x40
def A.SEQ_INPUT : Nat := seqReg + 0x48
def A.SEQ_REPORT : Nat := seqReg + 0x50
def A.SEQ_CHECK : Nat := seqReg + 0x58
def A.SEQ_VOTE : Nat := seqReg + 0x60
def A.SEQ_VERDICT : Nat := seqReg + 0x68
def A.SEQ_VSUM0 : Nat := seqReg + 0x70
def A.SEQ_VSUM1 : Nat := seqReg + 0x78
def A.SEQ_NORM : Nat := seqReg + 0x80
def A.VER_ACTIVE : Nat := seqReg + 0x88
def A.SEQ_VWIN_BASE : Nat := seqReg + 0x90
def A.SEQ_VWIN_SIZE : Nat := seqReg + 0x98
def A.SEQ_MARK : Nat := seqReg + 0xA0
def A.SEQ_RETAIN : Nat := seqReg + 0xA8
def A.SEQ_ERR : Nat := seqReg + 0xB0
def A.UPD_STATUS : Nat := seqReg + 0xB8
def A.UPD_CURSOR (i : Nat) : Nat := seqReg + 0x300 + 0x8 * i
def A.UJ_CTRL (i : Nat) : Nat := seqReg + 0x400 + 0x40 * i
def A.UJ_PARAM (i : Nat) : Nat := seqReg + 0x408 + 0x40 * i
def A.UJ_M1 (i : Nat) : Nat := seqReg + 0x410 + 0x40 * i
def A.UJ_M2 (i : Nat) : Nat := seqReg + 0x418 + 0x40 * i
def A.UJ_GRAD (i : Nat) : Nat := seqReg + 0x420 + 0x40 * i
def A.UJ_SCAL (i : Nat) : Nat := seqReg + 0x428 + 0x40 * i
def A.UJ_COUNT (i : Nat) : Nat := seqReg + 0x430 + 0x40 * i
def A.ACT_FOOT (i : Nat) : Nat := seqReg + 0x200 + 0x8 * i
def A.ACT_PEAK_LAST (i : Nat) : Nat := seqReg + 0x240 + 0x8 * i
def A.ACT_CFG : Nat := seqReg + 0x280
def A.ACT_ERR : Nat := seqReg + 0x288
def A.MAP_CTRL : Nat := mapReg + 0x0
def A.MAP_STATUS : Nat := mapReg + 0x8
def A.MAP_ERR : Nat := mapReg + 0x10
def A.MAP_RGN_BASE (i : Nat) : Nat := mapReg + 0x100 + 0x20 * i
def A.MAP_RGN_CFG (i : Nat) : Nat := mapReg + 0x108 + 0x20 * i
def A.MAP_RGN_SIZE (i : Nat) : Nat := mapReg + 0x110 + 0x20 * i
def A.MC_CTRL (n : Nat) : Nat := mcReg n + 0x0
def A.MC_STATUS (n : Nat) : Nat := mcReg n + 0x8
def A.MC_PCMAP (n : Nat) : Nat := mcReg n + 0x10
def A.MC_PCRET_NEXT (n : Nat) : Nat := mcReg n + 0x18
def A.MC_PCRET_ACT (n : Nat) : Nat := mcReg n + 0x20
def A.MC_THR_NEXT (n : Nat) : Nat := mcReg n + 0x28
def A.MC_THR_ACT (n : Nat) : Nat := mcReg n + 0x30
def A.MC_PPR_NEXT (n : Nat) : Nat := mcReg n + 0x38
def A.MC_PPR_ACT (n : Nat) : Nat := mcReg n + 0x40
def A.MC_ARB (n : Nat) : Nat := mcReg n + 0x48
def A.MC_BURST (n : Nat) : Nat := mcReg n + 0x50
def A.MC_REMAP_CFG (n : Nat) : Nat := mcReg n + 0x58
def A.MC_TEMP_CFG (n : Nat) : Nat := mcReg n + 0x60
def A.MC_ECC (n : Nat) : Nat := mcReg n + 0x68
def A.MC_ECC_SNAP (n : Nat) : Nat := mcReg n + 0x70
def A.MC_STAT_SNAP (n : Nat) : Nat := mcReg n + 0x78
def A.MC_ATOM (n : Nat) : Nat := mcReg n + 0x80
def A.MC_REPAIR (n : Nat) : Nat := mcReg n + 0x88
def A.MC_TRAIN (n : Nat) : Nat := mcReg n + 0x90
def A.MC_TEMP_SNAP (n : Nat) : Nat := mcReg n + 0x98
def A.MC_ERRLOG_SNAP (n i : Nat) : Nat := mcReg n + 0x100 + 0x8 * i
def A.FAR_CTRL (n : Nat) : Nat := farReg n + 0x0
def A.FAR_STATUS (n : Nat) : Nat := farReg n + 0x8
def A.FAR_ERR (n : Nat) : Nat := farReg n + 0x10
def A.FAR_ATOM (n : Nat) : Nat := farReg n + 0x18
def A.RT_NODE_ID : Nat := rtReg + 0x0
def A.RT_SEND_NEXT : Nat := rtReg + 0x8
def A.RT_SEND_ACT : Nat := rtReg + 0x10
def A.RT_BANK_CTRL : Nat := rtReg + 0x18
def A.RT_BANK_STATUS : Nat := rtReg + 0x20
def A.RT_AGE : Nat := rtReg + 0x28
def A.RT_LIFE : Nat := rtReg + 0x30
def A.RT_STAT : Nat := rtReg + 0x38
def A.RT_DROP : Nat := rtReg + 0x40
def A.RT_RESET_DROP : Nat := rtReg + 0x48
def A.RT_DRAIN_SUM : Nat := rtReg + 0x50
def A.RT_WDOG : Nat := rtReg + 0x58
def A.RT_GROUP (i j : Nat) : Nat := rtReg + 0x100 + 0x200 * i + 0x8 * j
def A.DERAILLEUR (i j : Nat) : Nat := rtReg + 0x800 + 0x80 * i + 0x8 * j
def A.BR_ARB (i : Nat) : Nat := rtReg + 0x900 + 0x8 * i
def A.BR_BURST (i : Nat) : Nat := rtReg + 0x940 + 0x8 * i
def A.RT_TABLE (i j : Nat) : Nat := rtReg + 0x10000 + 0x20000 * i + 0x8 * j
def A.SPK_CTRL (n : Nat) : Nat := spkReg n + 0x800
def A.SPK_STATE (n : Nat) : Nat := spkReg n + 0x808
def A.SPK_ARB_CLS0 (n : Nat) : Nat := spkReg n + 0x810
def A.SPK_ARB_CLS1 (n : Nat) : Nat := spkReg n + 0x818
def A.SPK_BURST (n : Nat) : Nat := spkReg n + 0x820
def A.SPK_DRAIN (n : Nat) : Nat := spkReg n + 0x828
def A.SPK_CREDIT_SNAP (n : Nat) : Nat := spkReg n + 0x850
def A.SPK_CONG_SNAP (n i : Nat) : Nat := spkReg n + 0x830 + 0x8 * i
def A.SPK_BUF_SNAP (n i : Nat) : Nat := spkReg n + 0x858 + 0x8 * i
def A.SPK_CAD_DELAY (n : Nat) : Nat := optReg n + 0x0
def A.OPT_CTRL (n : Nat) : Nat := optReg n + 0x8
def A.OPT_STATE (n : Nat) : Nat := optReg n + 0x10
def A.OPT_LOOP (n : Nat) : Nat := optReg n + 0x18
def A.OPT_THRESH (n : Nat) : Nat := optReg n + 0x20
def A.OPT_FADE (n : Nat) : Nat := optReg n + 0x28
def A.OPT_ERR (n : Nat) : Nat := optReg n + 0x30
def A.OPT_CMD (n : Nat) : Nat := optReg n + 0x38
def A.LD_CAPS (n : Nat) : Nat := optReg n + 0x40
def A.LINK_VER (n : Nat) : Nat := optReg n + 0x48
def A.SPK_STEER_NEXT (n : Nat) : Nat := optReg n + 0x50
def A.SPK_STEER_ACT (n : Nat) : Nat := optReg n + 0x58
def A.SPK_LANE_NEXT (n : Nat) : Nat := optReg n + 0x60
def A.SPK_LANE_ACT (n : Nat) : Nat := optReg n + 0x68
def A.SPK_STEER_STATUS (n : Nat) : Nat := optReg n + 0x70
def A.LANE_STATE (n i : Nat) : Nat := optReg n + 0x100 + 0x8 * i
def A.RING_TX (n i : Nat) : Nat := optReg n + 0x180 + 0x8 * i
def A.RING_RX (n i : Nat) : Nat := optReg n + 0x200 + 0x8 * i
def A.LANE_FEC_SNAP (n i : Nat) : Nat := optReg n + 0x280 + 0x8 * i
def A.LOCKIN_SNAP (n i : Nat) : Nat := optReg n + 0x300 + 0x8 * i
def A.LANE_MARGIN_SNAP (n i : Nat) : Nat := optReg n + 0x380 + 0x8 * i
def A.COLL_LAYOUT : Nat := collReg + 0x0
def A.COLL_ERR : Nat := collReg + 0x8
def A.RC_CFG (i : Nat) : Nat := collReg + 0x800 + 0x100 * i
def A.RC_SEG (i : Nat) : Nat := collReg + 0x808 + 0x100 * i
def A.RC_START (i : Nat) : Nat := collReg + 0x810 + 0x100 * i
def A.RC_DL (i : Nat) : Nat := collReg + 0x818 + 0x100 * i
def A.RC_OUT (i : Nat) : Nat := collReg + 0x820 + 0x100 * i
def A.RC_OUT_ADDR (i : Nat) : Nat := collReg + 0x828 + 0x100 * i
def A.RC_REC_ADDR (i : Nat) : Nat := collReg + 0x830 + 0x100 * i
def A.RC_DONE (i : Nat) : Nat := collReg + 0x838 + 0x100 * i
def A.RC_EXP (i : Nat) : Nat := collReg + 0x840 + 0x100 * i
def A.RC_ARR (i : Nat) : Nat := collReg + 0x848 + 0x100 * i
def A.RC_CARAVAN (i : Nat) : Nat := collReg + 0x850 + 0x100 * i
def A.RC_STATUS (i : Nat) : Nat := collReg + 0x858 + 0x100 * i
def A.RC_RESULT (i : Nat) : Nat := collReg + 0x860 + 0x100 * i
def A.RC_ERR (i : Nat) : Nat := collReg + 0x868 + 0x100 * i
def A.RC_IN (i j : Nat) : Nat := collReg + 0x880 + 0x100 * i + 0x8 * j
def A.EXPT (i j k : Nat) : Nat := collReg + 0x20000 + 0x2000 * i + 0x1000 * j + 0x8 * k
def A.RE_CTRL (n : Nat) : Nat := reReg n + 0x0
def A.RE_STATUS (n : Nat) : Nat := reReg n + 0x8
def A.RE_EPS (n : Nat) : Nat := reReg n + 0x10
def A.RE_TOL (n : Nat) : Nat := reReg n + 0x18
def A.RE_ERR (n : Nat) : Nat := reReg n + 0x20
def A.RE_TEST_FIRST (n : Nat) : Nat := reReg n + 0x28
def A.RE_IN (n i : Nat) : Nat := reReg n + 0x100 + 0x40 * i
def A.RE_OUT (n i : Nat) : Nat := reReg n + 0x108 + 0x40 * i
def A.RE_GRAD (n i : Nat) : Nat := reReg n + 0x110 + 0x40 * i
def A.RE_PARAM (n i : Nat) : Nat := reReg n + 0x118 + 0x40 * i
def A.RE_SHAPE (n i : Nat) : Nat := reReg n + 0x120 + 0x40 * i
def A.RE_DONE (n i : Nat) : Nat := reReg n + 0x128 + 0x40 * i
def A.MGMT_STATUS : Nat := mgmtReg + 0x0
def A.MGMT_ERR : Nat := mgmtReg + 0x8
def A.MGMT_PROXY : Nat := mgmtReg + 0x10
def A.TELEMETRY (i j : Nat) : Nat := mgmtReg + 0x4000 + 0x800 * i + 0x8 * j
def A.PWR_CTRL : Nat := mgmtReg + 0x800
def A.PWR_STATUS : Nat := mgmtReg + 0x808
def A.PWR_ENV : Nat := mgmtReg + 0x810
def A.PWR_THR_NEXT : Nat := mgmtReg + 0x818
def A.PWR_THR_ACT : Nat := mgmtReg + 0x820
def A.HU_STATUS : Nat := mgmtReg + 0x828
def A.HU_MEAS : Nat := mgmtReg + 0x830
def A.PWR_STAT : Nat := mgmtReg + 0x838
def A.RST_CTRL : Nat := mgmtReg + 0x840
def A.RST_STATUS : Nat := mgmtReg + 0x848
def A.JOIN_CTRL : Nat := mgmtReg + 0x850
def A.BOOT_STATUS : Nat := mgmtReg + 0x858
def A.LEDGER_STATUS : Nat := mgmtReg + 0x860
def A.FL_CTRL : Nat := mgmtReg + 0x868
def A.FL_STATUS : Nat := mgmtReg + 0x870
def A.FL_ADDR : Nat := mgmtReg + 0x878
def A.FL_DATA : Nat := mgmtReg + 0x880
def A.ID_CTRL : Nat := mgmtReg + 0x888
def A.ID_STATUS : Nat := mgmtReg + 0x890
def A.ID_NONCE (i : Nat) : Nat := mgmtReg + 0x898 + 0x8 * i
def A.ID_PTR : Nat := mgmtReg + 0x8B8
def A.ID_DATA : Nat := mgmtReg + 0x8C0
def A.PWR_TEMP : Nat := mgmtReg + 0x8C8
def A.PWR_TEMP_CFG : Nat := mgmtReg + 0x8D0
def A.COLOK_CTRL (n : Nat) : Nat := colokReg n + 0x800
def A.COLOK_STATE (n : Nat) : Nat := colokReg n + 0x808
def A.COLOK_SEQ (n : Nat) : Nat := colokReg n + 0x810
def A.COLOK_MBOX (n : Nat) : Nat := colokReg n + 0x818
def A.COLOK_STAT (n : Nat) : Nat := colokReg n + 0x820
def A.COLOK_STAT2 (n : Nat) : Nat := colokReg n + 0x828
def A.DW_ADDR (n i : Nat) : Nat := colokReg n + 0xC00 + 0x40 * i
def A.DW_CTRL (n i : Nat) : Nat := colokReg n + 0xC08 + 0x40 * i
def A.DW_DATA (n i : Nat) : Nat := colokReg n + 0xC10 + 0x40 * i
def A.DW_COUNT (n i : Nat) : Nat := colokReg n + 0xC18 + 0x40 * i
def A.SB_DEVID : Nat := sbReg + 0x0
def A.SB_VER : Nat := sbReg + 0x1
def A.SB_GRADE (i : Nat) : Nat := sbReg + 0x2 + 0x1 * i
def A.SB_STATE : Nat := sbReg + 0xA
def A.ALERT_CAUSE : Nat := sbReg + 0xB
def A.ALERT_MASK : Nat := sbReg + 0xC
def A.SB_POWER : Nat := sbReg + 0xD
def A.SB_VIN : Nat := sbReg + 0xF
def A.SB_HOLDUP : Nat := sbReg + 0x11
def A.SB_TEMP : Nat := sbReg + 0x12
def A.SB_ATTN : Nat := sbReg + 0x13
def A.SB_CTRL : Nat := sbReg + 0x14
def A.SB_SERIAL (i : Nat) : Nat := sbReg + 0x18 + 0x1 * i

def F.CORE_CTRL_MODE (n : Nat) : Field := ⟨A.CORE_CTRL n, 2, 2⟩
def F.CORE_CTRL_STOP (n : Nat) : Field := ⟨A.CORE_CTRL n, 1, 1⟩
def F.CORE_CTRL_RUN (n : Nat) : Field := ⟨A.CORE_CTRL n, 0, 0⟩
def F.CORE_STATE_REP_IDX (n : Nat) : Field := ⟨A.CORE_STATE n, 39, 29⟩
def F.CORE_STATE_PC (n : Nat) : Field := ⟨A.CORE_STATE n, 28, 16⟩
def F.CORE_STATE_STATE (n : Nat) : Field := ⟨A.CORE_STATE n, 2, 0⟩
def F.CORE_ENTRY_ENTRY_PC (n : Nat) : Field := ⟨A.CORE_ENTRY n, 12, 0⟩
def F.CORE_FAULT_FIRST_CODE (n : Nat) : Field := ⟨A.CORE_FAULT n, 63, 48⟩
def F.CORE_FAULT_COUNT (n : Nat) : Field := ⟨A.CORE_FAULT n, 47, 32⟩
def F.CORE_FAULT_PC (n : Nat) : Field := ⟨A.CORE_FAULT n, 31, 19⟩
def F.CORE_FAULT_REP_IDX (n : Nat) : Field := ⟨A.CORE_FAULT n, 18, 8⟩
def F.CORE_ERR_CW_CORR (n : Nat) : Field := ⟨A.CORE_ERR n, 63, 48⟩
def F.CORE_ERR_HOST_REJECT (n : Nat) : Field := ⟨A.CORE_ERR n, 47, 32⟩
def F.CORE_ERR_SEQ_ERR (n : Nat) : Field := ⟨A.CORE_ERR n, 31, 16⟩
def F.CORE_ERR_RESIDUE (n : Nat) : Field := ⟨A.CORE_ERR n, 15, 0⟩
def F.CORE_WAIT_LIMIT_LIMIT (n : Nat) : Field := ⟨A.CORE_WAIT_LIMIT n, 31, 0⟩
def F.CORE_PERF_SNAP_ISSUED (n : Nat) : Field := ⟨A.CORE_PERF_SNAP n, 63, 32⟩
def F.CORE_PERF_SNAP_WAITED (n : Nat) : Field := ⟨A.CORE_PERF_SNAP n, 31, 0⟩
def F.LOOP_TRIP_TRIP (n i : Nat) : Field := ⟨A.LOOP_TRIP n i, 31, 0⟩
def F.LOOP_CNT_CNT (n i : Nat) : Field := ⟨A.LOOP_CNT n i, 31, 0⟩
def F.QCFG_DEPTH (n i : Nat) : Field := ⟨A.QCFG n i, 6, 0⟩
def F.QSTAT_PUSH_TAG (n i : Nat) : Field := ⟨A.QSTAT n i, 31, 28⟩
def F.QSTAT_POP_TAG (n i : Nat) : Field := ⟨A.QSTAT n i, 27, 24⟩
def F.QSTAT_IN_FLIGHT (n i : Nat) : Field := ⟨A.QSTAT n i, 23, 16⟩
def F.QSTAT_POPPABLE (n i : Nat) : Field := ⟨A.QSTAT n i, 15, 8⟩
def F.CNT_LIMIT (n i : Nat) : Field := ⟨A.CNT n i, 63, 32⟩
def F.CNT_VALUE (n i : Nat) : Field := ⟨A.CNT n i, 31, 0⟩
def F.CNT_TGT_TARGET (n i : Nat) : Field := ⟨A.CNT_TGT n i, 31, 0⟩
def F.AG_BASE_HI (n i j : Nat) : Field := ⟨A.AG_BASE n i j, 63, 48⟩
def F.AG_BASE_LO (n i j : Nat) : Field := ⟨A.AG_BASE n i j, 47, 32⟩
def F.AG_BASE_BASE (n i j : Nat) : Field := ⟨A.AG_BASE n i j, 15, 0⟩
def F.AG_MODE_QUEUE (n i j : Nat) : Field := ⟨A.AG_MODE n i j, 7, 4⟩
def F.AG_MODE_WIDTH (n i j : Nat) : Field := ⟨A.AG_MODE n i j, 3, 2⟩
def F.AG_MODE_TRANSPOSE (n i j : Nat) : Field := ⟨A.AG_MODE n i j, 1, 1⟩
def F.AG_LVL_STRIDE (n i j k : Nat) : Field := ⟨A.AG_LVL n i j k, 51, 32⟩
def F.AG_LVL_COUNT (n i j k : Nat) : Field := ⟨A.AG_LVL n i j k, 15, 0⟩
def F.SD_ADDR_ADDR (n i : Nat) : Field := ⟨A.SD_ADDR n i, 47, 0⟩
def F.SD_LOCAL_KIND (n i : Nat) : Field := ⟨A.SD_LOCAL n i, 63, 60⟩
def F.SD_LOCAL_SC (n i : Nat) : Field := ⟨A.SD_LOCAL n i, 59, 57⟩
def F.SD_LOCAL_TILE (n i : Nat) : Field := ⟨A.SD_LOCAL n i, 20, 16⟩
def F.SD_LOCAL_LOCAL (n i : Nat) : Field := ⟨A.SD_LOCAL n i, 15, 0⟩
def F.SD_SHAPE_ROWS (n i : Nat) : Field := ⟨A.SD_SHAPE n i, 63, 48⟩
def F.SD_SHAPE_ROW_LEN (n i : Nat) : Field := ⟨A.SD_SHAPE n i, 47, 32⟩
def F.SD_STRIDE_MEM_STRIDE (n i : Nat) : Field := ⟨A.SD_STRIDE n i, 63, 32⟩
def F.SD_STRIDE_LOCAL_STRIDE (n i : Nat) : Field := ⟨A.SD_STRIDE n i, 15, 0⟩
def F.SIG_DESC_KIND (n i : Nat) : Field := ⟨A.SIG_DESC n i, 63, 60⟩
def F.SIG_DESC_COUNTER (n i : Nat) : Field := ⟨A.SIG_DESC n i, 59, 55⟩
def F.SIG_DESC_NODE_ID (n i : Nat) : Field := ⟨A.SIG_DESC n i, 51, 36⟩
def F.SIG_DESC_DIE (n i : Nat) : Field := ⟨A.SIG_DESC n i, 35, 34⟩
def F.SIG_DESC_LCORE (n i : Nat) : Field := ⟨A.SIG_DESC n i, 33, 29⟩
def F.SIG_DESC_STREAM (n i : Nat) : Field := ⟨A.SIG_DESC n i, 28, 25⟩
def F.SIG_DESC_INCREMENT (n i : Nat) : Field := ⟨A.SIG_DESC n i, 15, 0⟩
def F.AG_POS_ADDR (n i : Nat) : Field := ⟨A.AG_POS n i, 23, 0⟩
def F.RNG_SEED_SEED (n : Nat) : Field := ⟨A.RNG_SEED n, 63, 0⟩
def F.RNG_COUNT_COUNT (n : Nat) : Field := ⟨A.RNG_COUNT n, 63, 0⟩
def F.RNG_SNAP_COUNT (n i : Nat) : Field := ⟨A.RNG_SNAP n i, 63, 0⟩
def F.CONV_CTRL_FREE_BANK (n : Nat) : Field := ⟨A.CONV_CTRL n, 1, 1⟩
def F.CONV_CTRL_COMMIT_NOW (n : Nat) : Field := ⟨A.CONV_CTRL n, 0, 0⟩
def F.CONV_STATUS_LAST_COMMIT (n : Nat) : Field := ⟨A.CONV_STATUS n, 63, 48⟩
def F.CONV_STATUS_LC_VALID (n : Nat) : Field := ⟨A.CONV_STATUS n, 47, 47⟩
def F.CONV_STATUS_WRITE_DROP (n : Nat) : Field := ⟨A.CONV_STATUS n, 31, 16⟩
def F.CONV_STATUS_AUTO_BUSY (n : Nat) : Field := ⟨A.CONV_STATUS n, 1, 1⟩
def F.CONV_BFP_CTX (n : Nat) : Field := ⟨A.CONV_BFP n, 63, 60⟩
def F.CONV_BFP_START (n : Nat) : Field := ⟨A.CONV_BFP n, 31, 0⟩
def F.CONV_BFP_POS_BLOCK (n : Nat) : Field := ⟨A.CONV_BFP_POS n, 31, 0⟩
def F.SCALE_CFG_AUTO (n i : Nat) : Field := ⟨A.SCALE_CFG n i, 15, 15⟩
def F.SCALE_CFG_DIR (n i : Nat) : Field := ⟨A.SCALE_CFG n i, 14, 14⟩
def F.SCALE_CFG_MODE (n i : Nat) : Field := ⟨A.SCALE_CFG n i, 13, 12⟩
def F.SCALE_CFG_FMT (n i : Nat) : Field := ⟨A.SCALE_CFG n i, 11, 8⟩
def F.SCALE_CFG_MARGIN (n i : Nat) : Field := ⟨A.SCALE_CFG n i, 7, 5⟩
def F.SCALE_CFG_HSET (n i : Nat) : Field := ⟨A.SCALE_CFG n i, 2, 0⟩
def F.HIST_CFG_WINDOW (n i : Nat) : Field := ⟨A.HIST_CFG n i, 3, 2⟩
def F.HIST_CFG_MODE (n i : Nat) : Field := ⟨A.HIST_CFG n i, 1, 0⟩
def F.CONV_TAG_A_SAT_COUNT (n i : Nat) : Field := ⟨A.CONV_TAG_A n i, 63, 32⟩
def F.CONV_TAG_A_FLUSH_COUNT (n i : Nat) : Field := ⟨A.CONV_TAG_A n i, 31, 0⟩
def F.CONV_TAG_B_POISON_COUNT (n i : Nat) : Field := ⟨A.CONV_TAG_B n i, 31, 0⟩
def F.CONV_TAG_A_SNAP_SAT_COUNT (n i : Nat) : Field := ⟨A.CONV_TAG_A_SNAP n i, 63, 32⟩
def F.CONV_TAG_A_SNAP_FLUSH_COUNT (n i : Nat) : Field := ⟨A.CONV_TAG_A_SNAP n i, 31, 0⟩
def F.CONV_TAG_B_SNAP_POISON_COUNT (n i : Nat) : Field := ⟨A.CONV_TAG_B_SNAP n i, 31, 0⟩
def F.ACC_FLAGS_POISON (n : Nat) : Field := ⟨A.ACC_FLAGS n, 63, 32⟩
def F.ACC_FLAGS_SAT (n : Nat) : Field := ⟨A.ACC_FLAGS n, 31, 0⟩
def F.ACC_TYPE_INT (n : Nat) : Field := ⟨A.ACC_TYPE n, 31, 0⟩
def F.TOP8_STATE_CHUNK (n : Nat) : Field := ⟨A.TOP8_STATE n, 15, 0⟩
def F.TABLE_CFG_F_OFMT (n : Nat) : Field := ⟨A.TABLE_CFG_F n, 19, 16⟩
def F.TABLE_CFG_F_ISEL (n : Nat) : Field := ⟨A.TABLE_CFG_F n, 13, 8⟩
def F.TABLE_CFG_F_EMIN (n : Nat) : Field := ⟨A.TABLE_CFG_F n, 7, 0⟩
def F.TABLE_CFG_D_OFMT (n : Nat) : Field := ⟨A.TABLE_CFG_D n, 19, 16⟩
def F.TABLE_CFG_D_ISEL (n : Nat) : Field := ⟨A.TABLE_CFG_D n, 13, 8⟩
def F.TABLE_CFG_D_EMIN (n : Nat) : Field := ⟨A.TABLE_CFG_D n, 7, 0⟩
def F.SCALE_WORD_SLOTS (n i j : Nat) : Field := ⟨A.SCALE_WORD n i j, 63, 0⟩
def F.HIST_WORD_VALUES (n i j : Nat) : Field := ⟨A.HIST_WORD n i j, 63, 0⟩
def F.FUNC_ENTRY_B (n i : Nat) : Field := ⟨A.FUNC_ENTRY n i, 63, 32⟩
def F.FUNC_ENTRY_A (n i : Nat) : Field := ⟨A.FUNC_ENTRY n i, 31, 0⟩
def F.DERIV_ENTRY_B (n i : Nat) : Field := ⟨A.DERIV_ENTRY n i, 63, 32⟩
def F.DERIV_ENTRY_A (n i : Nat) : Field := ⟨A.DERIV_ENTRY n i, 31, 0⟩
def F.GRADE_MASK_STEPPING : Field := ⟨A.GRADE_MASK, 55, 48⟩
def F.GRADE_MASK_CORES_ENABLED : Field := ⟨A.GRADE_MASK, 47, 40⟩
def F.GRADE_MASK_VFP32_EN : Field := ⟨A.GRADE_MASK, 35, 35⟩
def F.GRADE_MASK_CPAIR_EN : Field := ⟨A.GRADE_MASK, 34, 34⟩
def F.GRADE_MASK_FAR1_EN : Field := ⟨A.GRADE_MASK, 33, 33⟩
def F.GRADE_MASK_FAR0_EN : Field := ⟨A.GRADE_MASK, 32, 32⟩
def F.GRADE_MASK_GRADE_CODE : Field := ⟨A.GRADE_MASK, 15, 0⟩
def F.CORE_SITE_MAP0_SITE_EN_LO : Field := ⟨A.CORE_SITE_MAP0, 63, 0⟩
def F.CORE_SITE_MAP1_SITE_EN_HI : Field := ⟨A.CORE_SITE_MAP1, 35, 0⟩
def F.MODULE_STATE_STATE : Field := ⟨A.MODULE_STATE, 2, 0⟩
def F.FAULT_HEAD_NEXT_SEQ : Field := ⟨A.FAULT_HEAD, 63, 48⟩
def F.FAULT_HEAD_INDEX : Field := ⟨A.FAULT_HEAD, 9, 0⟩
def F.FAULT_LOST_COUNT : Field := ⟨A.FAULT_LOST, 31, 0⟩
def F.CAD_NOW_COUNT : Field := ⟨A.CAD_NOW, 63, 0⟩
def F.CAD_SLOT_SLOT : Field := ⟨A.CAD_SLOT, 55, 0⟩
def F.CAD_EPOCH_EPOCH : Field := ⟨A.CAD_EPOCH, 63, 16⟩
def F.CAD_EPOCH_TICK_IN_EPOCH : Field := ⟨A.CAD_EPOCH, 15, 0⟩
def F.CAD_STATUS_SRC_PORT : Field := ⟨A.CAD_STATUS, 15, 12⟩
def F.CAD_STATUS_HOPS : Field := ⟨A.CAD_STATUS, 11, 8⟩
def F.CAD_STATUS_ALIGNED : Field := ⟨A.CAD_STATUS, 2, 2⟩
def F.CAD_STATUS_SYNC : Field := ⟨A.CAD_STATUS, 1, 0⟩
def F.CAD_CTRL_BEACON_EN : Field := ⟨A.CAD_CTRL, 1, 1⟩
def F.CAD_CTRL_REF_EN : Field := ⟨A.CAD_CTRL, 0, 0⟩
def F.CAD_LOAD_EPOCH_NUMBER : Field := ⟨A.CAD_LOAD, 47, 0⟩
def F.CAD_ERR_EPOCH_MISMATCH : Field := ⟨A.CAD_ERR, 63, 48⟩
def F.CAD_ERR_REF_LOSS : Field := ⟨A.CAD_ERR, 47, 32⟩
def F.CAD_ERR_BEACON_DISAGREE : Field := ⟨A.CAD_ERR, 31, 16⟩
def F.CAD_ERR_SOURCE_SWITCH : Field := ⟨A.CAD_ERR, 15, 0⟩
def F.UNIT_STATE_UNIT (i : Nat) : Field := ⟨A.UNIT_STATE i, 63, 48⟩
def F.UNIT_STATE_DRAIN (i : Nat) : Field := ⟨A.UNIT_STATE i, 5, 5⟩
def F.UNIT_STATE_ENABLE (i : Nat) : Field := ⟨A.UNIT_STATE i, 4, 4⟩
def F.UNIT_STATE_ENABLE_PENDING (i : Nat) : Field := ⟨A.UNIT_STATE i, 3, 3⟩
def F.UNIT_STATE_STATE (i : Nat) : Field := ⟨A.UNIT_STATE i, 2, 0⟩
def F.FAULT_RING_WORD (i j : Nat) : Field := ⟨A.FAULT_RING i j, 63, 0⟩
def F.SEQ_CTRL_RESUME : Field := ⟨A.SEQ_CTRL, 3, 3⟩
def F.SEQ_CTRL_HOLD : Field := ⟨A.SEQ_CTRL, 2, 2⟩
def F.SEQ_CTRL_AUTO_NEXT : Field := ⟨A.SEQ_CTRL, 1, 1⟩
def F.SEQ_CTRL_APPLY_MODE : Field := ⟨A.SEQ_CTRL, 0, 0⟩
def F.SEQ_STATE_INPUT_OK : Field := ⟨A.SEQ_STATE, 10, 10⟩
def F.SEQ_STATE_MISSED : Field := ⟨A.SEQ_STATE, 9, 9⟩
def F.SEQ_STATE_FAILED : Field := ⟨A.SEQ_STATE, 8, 8⟩
def F.SEQ_STATE_PSTATE : Field := ⟨A.SEQ_STATE, 6, 4⟩
def F.SEQ_STATE_STATE : Field := ⟨A.SEQ_STATE, 2, 0⟩
def F.SEQ_STEP_RETRIES : Field := ⟨A.SEQ_STEP, 55, 48⟩
def F.SEQ_STEP_PEND_VALID : Field := ⟨A.SEQ_STEP, 32, 32⟩
def F.SEQ_STEP_PEND_TAG : Field := ⟨A.SEQ_STEP, 31, 16⟩
def F.SEQ_STEP_TAG : Field := ⟨A.SEQ_STEP, 15, 0⟩
def F.SEQ_START_ARMED : Field := ⟨A.SEQ_START, 63, 63⟩
def F.SEQ_START_START_SLOT : Field := ⟨A.SEQ_START, 55, 0⟩
def F.SEQ_PLAN_RB_GAP : Field := ⟨A.SEQ_PLAN, 55, 48⟩
def F.SEQ_PLAN_COMMIT_OFF : Field := ⟨A.SEQ_PLAN, 47, 32⟩
def F.SEQ_PLAN_VERDICT_OFF : Field := ⟨A.SEQ_PLAN, 31, 16⟩
def F.SEQ_PLAN_RUN_OFF : Field := ⟨A.SEQ_PLAN, 15, 0⟩
def F.SEQ_PERIOD_RETRY_LIMIT : Field := ⟨A.SEQ_PERIOD, 39, 32⟩
def F.SEQ_PERIOD_PERIOD : Field := ⟨A.SEQ_PERIOD, 31, 0⟩
def F.SEQ_VCFG_VDL : Field := ⟨A.SEQ_VCFG, 47, 32⟩
def F.SEQ_VCFG_NCTX : Field := ⟨A.SEQ_VCFG, 27, 24⟩
def F.SEQ_VCFG_VCTX : Field := ⟨A.SEQ_VCFG, 23, 20⟩
def F.SEQ_VCFG_VOTERS : Field := ⟨A.SEQ_VCFG, 16, 0⟩
def F.SEQ_LATE_ALLOW_ALLOW : Field := ⟨A.SEQ_LATE_ALLOW, 31, 0⟩
def F.SEQ_NORM_CFG_LOSS_EN : Field := ⟨A.SEQ_NORM_CFG, 36, 36⟩
def F.SEQ_NORM_CFG_NORM_SIG_EN : Field := ⟨A.SEQ_NORM_CFG, 35, 35⟩
def F.SEQ_NORM_CFG_CNTSEL : Field := ⟨A.SEQ_NORM_CFG, 34, 32⟩
def F.SEQ_NORM_CFG_MAXNORM : Field := ⟨A.SEQ_NORM_CFG, 31, 0⟩
def F.SEQ_INPUT_READY_VALID : Field := ⟨A.SEQ_INPUT, 16, 16⟩
def F.SEQ_INPUT_READY_TAG : Field := ⟨A.SEQ_INPUT, 15, 0⟩
def F.SEQ_REPORT_ADDR : Field := ⟨A.SEQ_REPORT, 47, 0⟩
def F.SEQ_CHECK_LATE : Field := ⟨A.SEQ_CHECK, 63, 32⟩
def F.SEQ_CHECK_PFAIL : Field := ⟨A.SEQ_CHECK, 31, 16⟩
def F.SEQ_CHECK_CSUM : Field := ⟨A.SEQ_CHECK, 15, 0⟩
def F.SEQ_VOTE_CAUSE : Field := ⟨A.SEQ_VOTE, 7, 0⟩
def F.SEQ_VERDICT_REPLAYED : Field := ⟨A.SEQ_VERDICT, 18, 18⟩
def F.SEQ_VERDICT_ACCEPT : Field := ⟨A.SEQ_VERDICT, 17, 17⟩
def F.SEQ_VERDICT_VALID : Field := ⟨A.SEQ_VERDICT, 16, 16⟩
def F.SEQ_VERDICT_TAG : Field := ⟨A.SEQ_VERDICT, 15, 0⟩
def F.SEQ_VSUM0_LATE_SUM : Field := ⟨A.SEQ_VSUM0, 63, 34⟩
def F.SEQ_VSUM0_REJECT_SUM : Field := ⟨A.SEQ_VSUM0, 33, 17⟩
def F.SEQ_VSUM0_PRESENT : Field := ⟨A.SEQ_VSUM0, 16, 0⟩
def F.SEQ_VSUM1_CAUSE_SUMS : Field := ⟨A.SEQ_VSUM1, 63, 0⟩
def F.SEQ_NORM_CLIP : Field := ⟨A.SEQ_NORM, 63, 32⟩
def F.SEQ_NORM_NORM : Field := ⟨A.SEQ_NORM, 31, 0⟩
def F.VER_ACTIVE_VER_TAG : Field := ⟨A.VER_ACTIVE, 31, 16⟩
def F.VER_ACTIVE_PROV_VALID : Field := ⟨A.VER_ACTIVE, 1, 1⟩
def F.VER_ACTIVE_ACTIVE : Field := ⟨A.VER_ACTIVE, 0, 0⟩
def F.SEQ_VWIN_BASE_BASE : Field := ⟨A.SEQ_VWIN_BASE, 47, 0⟩
def F.SEQ_VWIN_SIZE_SIZE : Field := ⟨A.SEQ_VWIN_SIZE, 47, 0⟩
def F.SEQ_MARK_GO : Field := ⟨A.SEQ_MARK, 63, 63⟩
def F.SEQ_MARK_ACCEPT : Field := ⟨A.SEQ_MARK, 16, 16⟩
def F.SEQ_MARK_TAG : Field := ⟨A.SEQ_MARK, 15, 0⟩
def F.SEQ_RETAIN_LAST_COMMIT : Field := ⟨A.SEQ_RETAIN, 63, 48⟩
def F.SEQ_RETAIN_APPLY_TAG : Field := ⟨A.SEQ_RETAIN, 47, 32⟩
def F.SEQ_RETAIN_LC_VALID : Field := ⟨A.SEQ_RETAIN, 5, 5⟩
def F.SEQ_RETAIN_APPLY_LOST : Field := ⟨A.SEQ_RETAIN, 4, 4⟩
def F.SEQ_RETAIN_APPLY_PENDING : Field := ⟨A.SEQ_RETAIN, 3, 3⟩
def F.SEQ_RETAIN_RET_VALID : Field := ⟨A.SEQ_RETAIN, 0, 0⟩
def F.SEQ_ERR_VWIN_WRITE : Field := ⟨A.SEQ_ERR, 63, 56⟩
def F.SEQ_ERR_MARK_IGNORED : Field := ⟨A.SEQ_ERR, 55, 48⟩
def F.SEQ_ERR_SPEC_DROP : Field := ⟨A.SEQ_ERR, 47, 32⟩
def F.SEQ_ERR_WRITE_DROP : Field := ⟨A.SEQ_ERR, 31, 24⟩
def F.SEQ_ERR_START_MISSED : Field := ⟨A.SEQ_ERR, 15, 8⟩
def F.SEQ_ERR_START_REFUSED : Field := ⟨A.SEQ_ERR, 7, 0⟩
def F.UPD_STATUS_RETIRED : Field := ⟨A.UPD_STATUS, 63, 48⟩
def F.UPD_STATUS_NONFINITE : Field := ⟨A.UPD_STATUS, 47, 32⟩
def F.UPD_STATUS_LOST : Field := ⟨A.UPD_STATUS, 17, 17⟩
def F.UPD_STATUS_RUNNING : Field := ⟨A.UPD_STATUS, 16, 16⟩
def F.UPD_STATUS_DONE : Field := ⟨A.UPD_STATUS, 15, 0⟩
def F.UPD_CURSOR_JVALID (i : Nat) : Field := ⟨A.UPD_CURSOR i, 63, 63⟩
def F.UPD_CURSOR_JOB (i : Nat) : Field := ⟨A.UPD_CURSOR i, 57, 53⟩
def F.UPD_CURSOR_GROUP (i : Nat) : Field := ⟨A.UPD_CURSOR i, 39, 0⟩
def F.UJ_CTRL_EN (i : Nat) : Field := ⟨A.UJ_CTRL i, 63, 63⟩
def F.UJ_CTRL_GFMT (i : Nat) : Field := ⟨A.UJ_CTRL i, 4, 4⟩
def F.UJ_CTRL_MFMT (i : Nat) : Field := ⟨A.UJ_CTRL i, 3, 3⟩
def F.UJ_CTRL_RULE (i : Nat) : Field := ⟨A.UJ_CTRL i, 2, 0⟩
def F.UJ_PARAM_ADDR (i : Nat) : Field := ⟨A.UJ_PARAM i, 47, 0⟩
def F.UJ_M1_ADDR (i : Nat) : Field := ⟨A.UJ_M1 i, 47, 0⟩
def F.UJ_M2_ADDR (i : Nat) : Field := ⟨A.UJ_M2 i, 47, 0⟩
def F.UJ_GRAD_ADDR (i : Nat) : Field := ⟨A.UJ_GRAD i, 47, 0⟩
def F.UJ_SCAL_ADDR (i : Nat) : Field := ⟨A.UJ_SCAL i, 47, 0⟩
def F.UJ_COUNT_COUNT (i : Nat) : Field := ⟨A.UJ_COUNT i, 39, 0⟩
def F.ACT_FOOT_PEAK (i : Nat) : Field := ⟨A.ACT_FOOT i, 63, 32⟩
def F.ACT_FOOT_CURRENT (i : Nat) : Field := ⟨A.ACT_FOOT i, 31, 0⟩
def F.ACT_PEAK_LAST_PEAK (i : Nat) : Field := ⟨A.ACT_PEAK_LAST i, 31, 0⟩
def F.ACT_CFG_UNIT_LOG2 : Field := ⟨A.ACT_CFG, 4, 0⟩
def F.ACT_ERR_UNDER : Field := ⟨A.ACT_ERR, 63, 32⟩
def F.ACT_ERR_FOREIGN : Field := ⟨A.ACT_ERR, 31, 0⟩
def F.MAP_CTRL_LOAD : Field := ⟨A.MAP_CTRL, 0, 0⟩
def F.MAP_STATUS_GEN : Field := ⟨A.MAP_STATUS, 63, 56⟩
def F.MAP_STATUS_LAST_REFUSE : Field := ⟨A.MAP_STATUS, 42, 40⟩
def F.MAP_STATUS_LOAD_PENDING : Field := ⟨A.MAP_STATUS, 32, 32⟩
def F.MAP_STATUS_PCS_IN_MAP : Field := ⟨A.MAP_STATUS, 9, 0⟩
def F.MAP_ERR_MISS : Field := ⟨A.MAP_ERR, 63, 32⟩
def F.MAP_ERR_REFUSED : Field := ⟨A.MAP_ERR, 31, 16⟩
def F.MAP_RGN_BASE_BASE (i : Nat) : Field := ⟨A.MAP_RGN_BASE i, 47, 0⟩
def F.MAP_RGN_CFG_EN (i : Nat) : Field := ⟨A.MAP_RGN_CFG i, 63, 63⟩
def F.MAP_RGN_CFG_MODE (i : Nat) : Field := ⟨A.MAP_RGN_CFG i, 62, 62⟩
def F.MAP_RGN_CFG_DIE (i : Nat) : Field := ⟨A.MAP_RGN_CFG i, 61, 60⟩
def F.MAP_RGN_CFG_PC_START (i : Nat) : Field := ⟨A.MAP_RGN_CFG i, 41, 32⟩
def F.MAP_RGN_CFG_SPAN (i : Nat) : Field := ⟨A.MAP_RGN_CFG i, 9, 0⟩
def F.MAP_RGN_SIZE_SIZE (i : Nat) : Field := ⟨A.MAP_RGN_SIZE i, 47, 0⟩
def F.MC_CTRL_ENABLE (n : Nat) : Field := ⟨A.MC_CTRL n, 1, 1⟩
def F.MC_CTRL_DRAIN (n : Nat) : Field := ⟨A.MC_CTRL n, 0, 0⟩
def F.MC_STATUS_SREF (n : Nat) : Field := ⟨A.MC_STATUS n, 7, 7⟩
def F.MC_STATUS_KEPT (n : Nat) : Field := ⟨A.MC_STATUS n, 6, 6⟩
def F.MC_STATUS_THERM (n : Nat) : Field := ⟨A.MC_STATUS n, 5, 4⟩
def F.MC_STATUS_ENABLE_PENDING (n : Nat) : Field := ⟨A.MC_STATUS n, 3, 3⟩
def F.MC_STATUS_STATE (n : Nat) : Field := ⟨A.MC_STATUS n, 2, 0⟩
def F.MC_PCMAP_RETIRED (n : Nat) : Field := ⟨A.MC_PCMAP n, 63, 32⟩
def F.MC_PCMAP_MAPPED (n : Nat) : Field := ⟨A.MC_PCMAP n, 31, 0⟩
def F.MC_PCRET_NEXT_RETIRE (n : Nat) : Field := ⟨A.MC_PCRET_NEXT n, 31, 0⟩
def F.MC_PCRET_ACT_ARMED (n : Nat) : Field := ⟨A.MC_PCRET_ACT n, 63, 63⟩
def F.MC_PCRET_ACT_STAGE_LATE (n : Nat) : Field := ⟨A.MC_PCRET_ACT n, 62, 56⟩
def F.MC_PCRET_ACT_ACT_SLOT (n : Nat) : Field := ⟨A.MC_PCRET_ACT n, 55, 0⟩
def F.MC_THR_NEXT_REFX (n : Nat) : Field := ⟨A.MC_THR_NEXT n, 3, 2⟩
def F.MC_THR_NEXT_STOP (n : Nat) : Field := ⟨A.MC_THR_NEXT n, 1, 1⟩
def F.MC_THR_NEXT_THROTTLE (n : Nat) : Field := ⟨A.MC_THR_NEXT n, 0, 0⟩
def F.MC_THR_ACT_ARMED (n : Nat) : Field := ⟨A.MC_THR_ACT n, 63, 63⟩
def F.MC_THR_ACT_STAGE_LATE (n : Nat) : Field := ⟨A.MC_THR_ACT n, 62, 56⟩
def F.MC_THR_ACT_ACT_SLOT (n : Nat) : Field := ⟨A.MC_THR_ACT n, 55, 0⟩
def F.MC_PPR_NEXT_PC (n : Nat) : Field := ⟨A.MC_PPR_NEXT n, 28, 24⟩
def F.MC_PPR_NEXT_BANK (n : Nat) : Field := ⟨A.MC_PPR_NEXT n, 23, 18⟩
def F.MC_PPR_NEXT_ROW (n : Nat) : Field := ⟨A.MC_PPR_NEXT n, 17, 0⟩
def F.MC_PPR_ACT_ARMED (n : Nat) : Field := ⟨A.MC_PPR_ACT n, 63, 63⟩
def F.MC_PPR_ACT_STAGE_LATE (n : Nat) : Field := ⟨A.MC_PPR_ACT n, 62, 56⟩
def F.MC_PPR_ACT_ACT_SLOT (n : Nat) : Field := ⟨A.MC_PPR_ACT n, 55, 0⟩
def F.MC_ARB_CLASS (n : Nat) : Field := ⟨A.MC_ARB n, 63, 0⟩
def F.MC_BURST_LIMIT (n : Nat) : Field := ⟨A.MC_BURST n, 63, 0⟩
def F.MC_REMAP_CFG_WINDOW (n : Nat) : Field := ⟨A.MC_REMAP_CFG n, 15, 8⟩
def F.MC_REMAP_CFG_CE_THRESH (n : Nat) : Field := ⟨A.MC_REMAP_CFG n, 7, 0⟩
def F.MC_TEMP_CFG_FLOOR (n : Nat) : Field := ⟨A.MC_TEMP_CFG n, 45, 32⟩
def F.MC_TEMP_CFG_HYST (n : Nat) : Field := ⟨A.MC_TEMP_CFG n, 23, 16⟩
def F.MC_TEMP_CFG_CRIT (n : Nat) : Field := ⟨A.MC_TEMP_CFG n, 15, 8⟩
def F.MC_TEMP_CFG_HOT (n : Nat) : Field := ⟨A.MC_TEMP_CFG n, 7, 0⟩
def F.MC_ECC_CE (n : Nat) : Field := ⟨A.MC_ECC n, 63, 32⟩
def F.MC_ECC_UE (n : Nat) : Field := ⟨A.MC_ECC n, 31, 16⟩
def F.MC_ECC_LOG_LOST (n : Nat) : Field := ⟨A.MC_ECC n, 15, 8⟩
def F.MC_ECC_CA_PARITY (n : Nat) : Field := ⟨A.MC_ECC n, 7, 0⟩
def F.MC_ECC_SNAP_CE (n : Nat) : Field := ⟨A.MC_ECC_SNAP n, 63, 32⟩
def F.MC_ECC_SNAP_UE (n : Nat) : Field := ⟨A.MC_ECC_SNAP n, 31, 16⟩
def F.MC_ECC_SNAP_LOG_LOST (n : Nat) : Field := ⟨A.MC_ECC_SNAP n, 15, 8⟩
def F.MC_ECC_SNAP_CA_PARITY (n : Nat) : Field := ⟨A.MC_ECC_SNAP n, 7, 0⟩
def F.MC_STAT_SNAP_GRANULES (n : Nat) : Field := ⟨A.MC_STAT_SNAP n, 63, 32⟩
def F.MC_STAT_SNAP_THROTTLED (n : Nat) : Field := ⟨A.MC_STAT_SNAP n, 31, 0⟩
def F.MC_ATOM_SAT (n : Nat) : Field := ⟨A.MC_ATOM n, 63, 32⟩
def F.MC_ATOM_RETIRED (n : Nat) : Field := ⟨A.MC_ATOM n, 31, 0⟩
def F.MC_REPAIR_FIELD_ROWS (n : Nat) : Field := ⟨A.MC_REPAIR n, 63, 48⟩
def F.MC_REPAIR_REPAIRS (n : Nat) : Field := ⟨A.MC_REPAIR n, 47, 32⟩
def F.MC_REPAIR_LEDGER_PENDING (n : Nat) : Field := ⟨A.MC_REPAIR n, 31, 0⟩
def F.MC_TRAIN_PASS (n : Nat) : Field := ⟨A.MC_TRAIN n, 63, 63⟩
def F.MC_TRAIN_LANES (n : Nat) : Field := ⟨A.MC_TRAIN n, 47, 40⟩
def F.MC_TRAIN_ATTEMPTS (n : Nat) : Field := ⟨A.MC_TRAIN n, 39, 32⟩
def F.MC_TRAIN_FAILED (n : Nat) : Field := ⟨A.MC_TRAIN n, 31, 0⟩
def F.MC_TEMP_SNAP_MAX (n : Nat) : Field := ⟨A.MC_TEMP_SNAP n, 15, 8⟩
def F.MC_TEMP_SNAP_NOW (n : Nat) : Field := ⟨A.MC_TEMP_SNAP n, 7, 0⟩
def F.MC_ERRLOG_SNAP_VALID (n i : Nat) : Field := ⟨A.MC_ERRLOG_SNAP n i, 63, 63⟩
def F.MC_ERRLOG_SNAP_SEV (n i : Nat) : Field := ⟨A.MC_ERRLOG_SNAP n i, 62, 61⟩
def F.MC_ERRLOG_SNAP_PC (n i : Nat) : Field := ⟨A.MC_ERRLOG_SNAP n i, 60, 56⟩
def F.MC_ERRLOG_SNAP_BANK (n i : Nat) : Field := ⟨A.MC_ERRLOG_SNAP n i, 55, 50⟩
def F.MC_ERRLOG_SNAP_ROW (n i : Nat) : Field := ⟨A.MC_ERRLOG_SNAP n i, 49, 32⟩
def F.MC_ERRLOG_SNAP_ON_LIST (n i : Nat) : Field := ⟨A.MC_ERRLOG_SNAP n i, 31, 31⟩
def F.MC_ERRLOG_SNAP_TICK (n i : Nat) : Field := ⟨A.MC_ERRLOG_SNAP n i, 30, 0⟩
def F.FAR_CTRL_RETRAIN (n : Nat) : Field := ⟨A.FAR_CTRL n, 0, 0⟩
def F.FAR_STATUS_CAP (n : Nat) : Field := ⟨A.FAR_STATUS n, 47, 32⟩
def F.FAR_STATUS_WIDTH (n : Nat) : Field := ⟨A.FAR_STATUS n, 31, 24⟩
def F.FAR_STATUS_SPEED (n : Nat) : Field := ⟨A.FAR_STATUS n, 23, 16⟩
def F.FAR_STATUS_STATE (n : Nat) : Field := ⟨A.FAR_STATUS n, 2, 0⟩
def F.FAR_ERR_POISON (n : Nat) : Field := ⟨A.FAR_ERR n, 63, 48⟩
def F.FAR_ERR_BEYOND (n : Nat) : Field := ⟨A.FAR_ERR n, 47, 32⟩
def F.FAR_ERR_RETIRED (n : Nat) : Field := ⟨A.FAR_ERR n, 31, 16⟩
def F.FAR_ERR_LINK_DOWN (n : Nat) : Field := ⟨A.FAR_ERR n, 15, 0⟩
def F.FAR_ATOM_SAT (n : Nat) : Field := ⟨A.FAR_ATOM n, 63, 32⟩
def F.RT_NODE_ID_VALID : Field := ⟨A.RT_NODE_ID, 16, 16⟩
def F.RT_NODE_ID_ID : Field := ⟨A.RT_NODE_ID, 15, 0⟩
def F.RT_SEND_NEXT_EPOCH : Field := ⟨A.RT_SEND_NEXT, 1, 0⟩
def F.RT_SEND_ACT_ARMED : Field := ⟨A.RT_SEND_ACT, 63, 63⟩
def F.RT_SEND_ACT_STAGE_LATE : Field := ⟨A.RT_SEND_ACT, 62, 56⟩
def F.RT_SEND_ACT_ACT_SLOT : Field := ⟨A.RT_SEND_ACT, 55, 0⟩
def F.RT_BANK_CTRL_COMMIT : Field := ⟨A.RT_BANK_CTRL, 63, 63⟩
def F.RT_BANK_CTRL_DISCARD : Field := ⟨A.RT_BANK_CTRL, 62, 62⟩
def F.RT_BANK_CTRL_BANK : Field := ⟨A.RT_BANK_CTRL, 8, 8⟩
def F.RT_BANK_CTRL_TAG : Field := ⟨A.RT_BANK_CTRL, 1, 0⟩
def F.RT_BANK_STATUS_WRITE_DROP : Field := ⟨A.RT_BANK_STATUS, 63, 48⟩
def F.RT_BANK_STATUS_LAST_REFUSE : Field := ⟨A.RT_BANK_STATUS, 39, 37⟩
def F.RT_BANK_STATUS_SEND_VALID : Field := ⟨A.RT_BANK_STATUS, 34, 34⟩
def F.RT_BANK_STATUS_SEND_EPOCH : Field := ⟨A.RT_BANK_STATUS, 33, 32⟩
def F.RT_BANK_STATUS_B1_STATE : Field := ⟨A.RT_BANK_STATUS, 11, 10⟩
def F.RT_BANK_STATUS_B1_TAG : Field := ⟨A.RT_BANK_STATUS, 9, 8⟩
def F.RT_BANK_STATUS_B0_STATE : Field := ⟨A.RT_BANK_STATUS, 3, 2⟩
def F.RT_BANK_STATUS_B0_TAG : Field := ⟨A.RT_BANK_STATUS, 1, 0⟩
def F.RT_AGE_A (v : Nat) : Field := ⟨A.RT_AGE, 16 * v + 15, 16 * v⟩
def F.RT_LIFE_SLOTS : Field := ⟨A.RT_LIFE, 15, 0⟩
def F.RT_STAT_UNROUTABLE : Field := ⟨A.RT_STAT, 63, 48⟩
def F.RT_STAT_EPOCH_STALE : Field := ⟨A.RT_STAT, 47, 32⟩
def F.RT_STAT_HDR_CHECK : Field := ⟨A.RT_STAT, 31, 16⟩
def F.RT_STAT_LOCAL_RETIRED : Field := ⟨A.RT_STAT, 15, 0⟩
def F.RT_DROP_AGE : Field := ⟨A.RT_DROP, 63, 48⟩
def F.RT_DROP_PORT_RESET : Field := ⟨A.RT_DROP, 47, 32⟩
def F.RT_DROP_PORT_DOWN : Field := ⟨A.RT_DROP, 31, 16⟩
def F.RT_DROP_WDOG : Field := ⟨A.RT_DROP, 15, 0⟩
def F.RT_RESET_DROP_COUNT : Field := ⟨A.RT_RESET_DROP, 31, 0⟩
def F.RT_DRAIN_SUM_D (v : Nat) : Field := ⟨A.RT_DRAIN_SUM, 16 * v + 15, 16 * v⟩
def F.RT_WDOG_BRIDGE : Field := ⟨A.RT_WDOG, 31, 16⟩
def F.RT_WDOG_PORT : Field := ⟨A.RT_WDOG, 15, 0⟩
def F.RT_GROUP_VALID (i j : Nat) : Field := ⟨A.RT_GROUP i j, 63, 63⟩
def F.RT_GROUP_LOCAL (i j : Nat) : Field := ⟨A.RT_GROUP i j, 62, 62⟩
def F.RT_GROUP_CLASS (i j : Nat) : Field := ⟨A.RT_GROUP i j, 27, 16⟩
def F.RT_GROUP_PORTS (i j : Nat) : Field := ⟨A.RT_GROUP i j, 11, 0⟩
def F.DERAILLEUR_VALID (i j : Nat) : Field := ⟨A.DERAILLEUR i j, 63, 63⟩
def F.DERAILLEUR_ALT_EN (i j : Nat) : Field := ⟨A.DERAILLEUR i j, 62, 62⟩
def F.DERAILLEUR_CLASS (i j : Nat) : Field := ⟨A.DERAILLEUR i j, 61, 61⟩
def F.DERAILLEUR_PORT (i j : Nat) : Field := ⟨A.DERAILLEUR i j, 59, 56⟩
def F.DERAILLEUR_ALT_PORT (i j : Nat) : Field := ⟨A.DERAILLEUR i j, 55, 52⟩
def F.DERAILLEUR_POS (i j : Nat) : Field := ⟨A.DERAILLEUR i j, 51, 48⟩
def F.DERAILLEUR_LENM1 (i j : Nat) : Field := ⟨A.DERAILLEUR i j, 47, 44⟩
def F.DERAILLEUR_NBR_ID (i j : Nat) : Field := ⟨A.DERAILLEUR i j, 31, 16⟩
def F.DERAILLEUR_MEMBERS (i j : Nat) : Field := ⟨A.DERAILLEUR i j, 15, 0⟩
def F.BR_ARB_CLASS (i : Nat) : Field := ⟨A.BR_ARB i, 63, 0⟩
def F.BR_BURST_LIMIT (i : Nat) : Field := ⟨A.BR_BURST i, 63, 0⟩
def F.SPK_CTRL_ENABLE (n : Nat) : Field := ⟨A.SPK_CTRL n, 1, 1⟩
def F.SPK_CTRL_DRAIN (n : Nat) : Field := ⟨A.SPK_CTRL n, 0, 0⟩
def F.SPK_STATE_FAR_ID (n : Nat) : Field := ⟨A.SPK_STATE n, 63, 48⟩
def F.SPK_STATE_FAR_PORT (n : Nat) : Field := ⟨A.SPK_STATE n, 47, 44⟩
def F.SPK_STATE_FAR_VALID (n : Nat) : Field := ⟨A.SPK_STATE n, 43, 43⟩
def F.SPK_STATE_ENABLE_PENDING (n : Nat) : Field := ⟨A.SPK_STATE n, 3, 3⟩
def F.SPK_STATE_STATE (n : Nat) : Field := ⟨A.SPK_STATE n, 2, 0⟩
def F.SPK_ARB_CLS0_CLASS (n : Nat) : Field := ⟨A.SPK_ARB_CLS0 n, 63, 0⟩
def F.SPK_ARB_CLS1_CLASS (n : Nat) : Field := ⟨A.SPK_ARB_CLS1 n, 63, 0⟩
def F.SPK_BURST_LIMIT (n : Nat) : Field := ⟨A.SPK_BURST n, 63, 0⟩
def F.SPK_DRAIN_D (n v : Nat) : Field := ⟨A.SPK_DRAIN n, 16 * v + 15, 16 * v⟩
def F.SPK_CREDIT_SNAP_C (n v : Nat) : Field := ⟨A.SPK_CREDIT_SNAP n, 16 * v + 15, 16 * v⟩
def F.SPK_CONG_SNAP_SENT (n i : Nat) : Field := ⟨A.SPK_CONG_SNAP n i, 63, 32⟩
def F.SPK_CONG_SNAP_WAITED (n i : Nat) : Field := ⟨A.SPK_CONG_SNAP n i, 31, 0⟩
def F.SPK_BUF_SNAP_PEAK (n i : Nat) : Field := ⟨A.SPK_BUF_SNAP n i, 39, 32⟩
def F.SPK_BUF_SNAP_FULL (n i : Nat) : Field := ⟨A.SPK_BUF_SNAP n i, 31, 0⟩
def F.SPK_CAD_DELAY_VALID (n : Nat) : Field := ⟨A.SPK_CAD_DELAY n, 31, 31⟩
def F.SPK_CAD_DELAY_DELAY (n : Nat) : Field := ⟨A.SPK_CAD_DELAY n, 23, 0⟩
def F.OPT_CTRL_RX_ADC_BITS (n : Nat) : Field := ⟨A.OPT_CTRL n, 11, 8⟩
def F.OPT_CTRL_TX_DAC_BITS (n : Nat) : Field := ⟨A.OPT_CTRL n, 7, 4⟩
def F.OPT_CTRL_AUTO_SPARE (n : Nat) : Field := ⟨A.OPT_CTRL n, 3, 3⟩
def F.OPT_CTRL_SWAP_EN (n : Nat) : Field := ⟨A.OPT_CTRL n, 2, 2⟩
def F.OPT_CTRL_LOCK_EN (n : Nat) : Field := ⟨A.OPT_CTRL n, 1, 1⟩
def F.OPT_CTRL_RETRAIN (n : Nat) : Field := ⟨A.OPT_CTRL n, 0, 0⟩
def F.OPT_STATE_PHASE (n : Nat) : Field := ⟨A.OPT_STATE n, 63, 60⟩
def F.OPT_STATE_FAIL_REASON (n : Nat) : Field := ⟨A.OPT_STATE n, 59, 56⟩
def F.OPT_STATE_SPARE_USE (n : Nat) : Field := ⟨A.OPT_STATE n, 55, 52⟩
def F.OPT_STATE_SPARE_PERM (n : Nat) : Field := ⟨A.OPT_STATE n, 51, 51⟩
def F.OPT_STATE_ACTIVE_LASER (n : Nat) : Field := ⟨A.OPT_STATE n, 50, 50⟩
def F.OPT_STATE_SPARE_LASER (n : Nat) : Field := ⟨A.OPT_STATE n, 49, 48⟩
def F.OPT_STATE_ATTEMPTS (n : Nat) : Field := ⟨A.OPT_STATE n, 47, 41⟩
def F.OPT_STATE_LANE_OK (n : Nat) : Field := ⟨A.OPT_STATE n, 40, 32⟩
def F.OPT_STATE_TRAIN_EPOCHS (n : Nat) : Field := ⟨A.OPT_STATE n, 15, 0⟩
def F.OPT_LOOP_TX_TARGET (n : Nat) : Field := ⟨A.OPT_LOOP n, 63, 48⟩
def F.OPT_LOOP_DITHER_AMP (n : Nat) : Field := ⟨A.OPT_LOOP n, 47, 40⟩
def F.OPT_LOOP_GAIN_SHIFT (n : Nat) : Field := ⟨A.OPT_LOOP n, 39, 36⟩
def F.OPT_LOOP_MAX_STEP (n : Nat) : Field := ⟨A.OPT_LOOP n, 35, 24⟩
def F.OPT_THRESH_WARM_DB (n : Nat) : Field := ⟨A.OPT_THRESH n, 63, 56⟩
def F.OPT_THRESH_SWAP_DB (n : Nat) : Field := ⟨A.OPT_THRESH n, 55, 48⟩
def F.OPT_THRESH_MARGIN_DB (n : Nat) : Field := ⟨A.OPT_THRESH n, 47, 40⟩
def F.OPT_THRESH_LOS_DB (n : Nat) : Field := ⟨A.OPT_THRESH n, 39, 32⟩
def F.OPT_THRESH_UC_SLOT (n : Nat) : Field := ⟨A.OPT_THRESH n, 31, 24⟩
def F.OPT_FADE_MON_DROP (n : Nat) : Field := ⟨A.OPT_FADE n, 63, 56⟩
def F.OPT_FADE_MARGIN_DROP (n : Nat) : Field := ⟨A.OPT_FADE n, 55, 48⟩
def F.OPT_FADE_FADE (n : Nat) : Field := ⟨A.OPT_FADE n, 47, 40⟩
def F.OPT_FADE_SPARE_ALIGN (n : Nat) : Field := ⟨A.OPT_FADE n, 39, 32⟩
def F.OPT_ERR_SB_CRC (n : Nat) : Field := ⟨A.OPT_ERR n, 63, 48⟩
def F.OPT_ERR_LOCK_SKIP (n : Nat) : Field := ⟨A.OPT_ERR n, 47, 32⟩
def F.OPT_ERR_MIRAGE (n : Nat) : Field := ⟨A.OPT_ERR n, 31, 24⟩
def F.OPT_ERR_LOCK_LOST (n : Nat) : Field := ⟨A.OPT_ERR n, 23, 16⟩
def F.OPT_ERR_TRAIN_FAIL (n : Nat) : Field := ⟨A.OPT_ERR n, 15, 8⟩
def F.OPT_ERR_STEER_RETRY (n : Nat) : Field := ⟨A.OPT_ERR n, 7, 0⟩
def F.OPT_CMD_GO (n : Nat) : Field := ⟨A.OPT_CMD n, 63, 63⟩
def F.OPT_CMD_ACTION (n : Nat) : Field := ⟨A.OPT_CMD n, 62, 60⟩
def F.OPT_CMD_LANE (n : Nat) : Field := ⟨A.OPT_CMD n, 3, 0⟩
def F.LD_CAPS_IF_MAJOR (n : Nat) : Field := ⟨A.LD_CAPS n, 63, 56⟩
def F.LD_CAPS_IF_MINOR (n : Nat) : Field := ⟨A.LD_CAPS n, 55, 48⟩
def F.LD_CAPS_TYPE (n : Nat) : Field := ⟨A.LD_CAPS n, 47, 40⟩
def F.LD_CAPS_LANES (n : Nat) : Field := ⟨A.LD_CAPS n, 39, 36⟩
def F.LD_CAPS_LASERS (n : Nat) : Field := ⟨A.LD_CAPS n, 35, 34⟩
def F.LD_CAPS_POWER_MAX (n : Nat) : Field := ⟨A.LD_CAPS n, 31, 16⟩
def F.LD_CAPS_SERIAL (n : Nat) : Field := ⟨A.LD_CAPS n, 15, 0⟩
def F.LINK_VER_MAJOR (n : Nat) : Field := ⟨A.LINK_VER n, 55, 48⟩
def F.LINK_VER_MINOR (n : Nat) : Field := ⟨A.LINK_VER n, 47, 40⟩
def F.LINK_VER_FAR_TAB (n : Nat) : Field := ⟨A.LINK_VER n, 39, 8⟩
def F.LINK_VER_LD_MINOR (n : Nat) : Field := ⟨A.LINK_VER n, 7, 4⟩
def F.LINK_VER_VALID (n : Nat) : Field := ⟨A.LINK_VER n, 0, 0⟩
def F.SPK_STEER_NEXT_OP (n : Nat) : Field := ⟨A.SPK_STEER_NEXT n, 7, 4⟩
def F.SPK_STEER_NEXT_LANE (n : Nat) : Field := ⟨A.SPK_STEER_NEXT n, 3, 0⟩
def F.SPK_STEER_ACT_ARMED (n : Nat) : Field := ⟨A.SPK_STEER_ACT n, 63, 63⟩
def F.SPK_STEER_ACT_STAGE_LATE (n : Nat) : Field := ⟨A.SPK_STEER_ACT n, 62, 56⟩
def F.SPK_STEER_ACT_ACT_SLOT (n : Nat) : Field := ⟨A.SPK_STEER_ACT n, 55, 0⟩
def F.SPK_LANE_NEXT_RX_FAIL (n : Nat) : Field := ⟨A.SPK_LANE_NEXT n, 17, 9⟩
def F.SPK_LANE_NEXT_TX_FAIL (n : Nat) : Field := ⟨A.SPK_LANE_NEXT n, 8, 0⟩
def F.SPK_LANE_ACT_ARMED (n : Nat) : Field := ⟨A.SPK_LANE_ACT n, 63, 63⟩
def F.SPK_LANE_ACT_STAGE_LATE (n : Nat) : Field := ⟨A.SPK_LANE_ACT n, 62, 56⟩
def F.SPK_LANE_ACT_ACT_SLOT (n : Nat) : Field := ⟨A.SPK_LANE_ACT n, 55, 0⟩
def F.SPK_STEER_STATUS_OP (n : Nat) : Field := ⟨A.SPK_STEER_STATUS n, 63, 60⟩
def F.SPK_STEER_STATUS_LANE (n : Nat) : Field := ⟨A.SPK_STEER_STATUS n, 59, 56⟩
def F.SPK_STEER_STATUS_STATE (n : Nat) : Field := ⟨A.SPK_STEER_STATUS n, 55, 54⟩
def F.SPK_STEER_STATUS_SOURCE (n : Nat) : Field := ⟨A.SPK_STEER_STATUS n, 53, 52⟩
def F.SPK_STEER_STATUS_RETRIES (n : Nat) : Field := ⟨A.SPK_STEER_STATUS n, 47, 40⟩
def F.SPK_STEER_STATUS_SLOT (n : Nat) : Field := ⟨A.SPK_STEER_STATUS n, 39, 0⟩
def F.LANE_STATE_ROLE (n i : Nat) : Field := ⟨A.LANE_STATE n i, 63, 60⟩
def F.LANE_STATE_HEALTH (n i : Nat) : Field := ⟨A.LANE_STATE n i, 59, 58⟩
def F.LANE_STATE_LAST_ID (n i : Nat) : Field := ⟨A.LANE_STATE n i, 55, 52⟩
def F.LANE_STATE_RPT_IN (n i : Nat) : Field := ⟨A.LANE_STATE n i, 51, 48⟩
def F.LANE_STATE_LCW_BAD (n i : Nat) : Field := ⟨A.LANE_STATE n i, 47, 32⟩
def F.RING_TX_CODE (n i : Nat) : Field := ⟨A.RING_TX n i, 63, 50⟩
def F.RING_TX_TRAINED (n i : Nat) : Field := ⟨A.RING_TX n i, 49, 36⟩
def F.RING_TX_FSR_CODE (n i : Nat) : Field := ⟨A.RING_TX n i, 35, 22⟩
def F.RING_TX_CAL_START (n i : Nat) : Field := ⟨A.RING_TX n i, 21, 8⟩
def F.RING_TX_MIRAGE (n i : Nat) : Field := ⟨A.RING_TX n i, 1, 1⟩
def F.RING_TX_LOCKED (n i : Nat) : Field := ⟨A.RING_TX n i, 0, 0⟩
def F.RING_RX_CODE (n i : Nat) : Field := ⟨A.RING_RX n i, 63, 50⟩
def F.RING_RX_TRAINED (n i : Nat) : Field := ⟨A.RING_RX n i, 49, 36⟩
def F.RING_RX_FSR_CODE (n i : Nat) : Field := ⟨A.RING_RX n i, 35, 22⟩
def F.RING_RX_CAL_START (n i : Nat) : Field := ⟨A.RING_RX n i, 21, 8⟩
def F.RING_RX_MIRAGE (n i : Nat) : Field := ⟨A.RING_RX n i, 1, 1⟩
def F.RING_RX_LOCKED (n i : Nat) : Field := ⟨A.RING_RX n i, 0, 0⟩
def F.LANE_FEC_SNAP_CORR (n i : Nat) : Field := ⟨A.LANE_FEC_SNAP n i, 63, 32⟩
def F.LANE_FEC_SNAP_UNCORR (n i : Nat) : Field := ⟨A.LANE_FEC_SNAP n i, 31, 0⟩
def F.LOCKIN_SNAP_RX_SUM (n i : Nat) : Field := ⟨A.LOCKIN_SNAP n i, 63, 32⟩
def F.LOCKIN_SNAP_RX_POWER (n i : Nat) : Field := ⟨A.LOCKIN_SNAP n i, 31, 0⟩
def F.LANE_MARGIN_SNAP_REF (n i : Nat) : Field := ⟨A.LANE_MARGIN_SNAP n i, 47, 32⟩
def F.LANE_MARGIN_SNAP_NOW (n i : Nat) : Field := ⟨A.LANE_MARGIN_SNAP n i, 31, 16⟩
def F.LANE_MARGIN_SNAP_FAR (n i : Nat) : Field := ⟨A.LANE_MARGIN_SNAP n i, 15, 0⟩
def F.COLL_LAYOUT_OPEN : Field := ⟨A.COLL_LAYOUT, 39, 32⟩
def F.COLL_LAYOUT_CUR : Field := ⟨A.COLL_LAYOUT, 7, 0⟩
def F.COLL_ERR_LAYOUT_STALE : Field := ⟨A.COLL_ERR, 63, 48⟩
def F.COLL_ERR_WRITE_DROP : Field := ⟨A.COLL_ERR, 15, 0⟩
def F.RC_CFG_KIND (i : Nat) : Field := ⟨A.RC_CFG i, 63, 62⟩
def F.RC_CFG_ROLE (i : Nat) : Field := ⟨A.RC_CFG i, 61, 61⟩
def F.RC_CFG_STEP_REL (i : Nat) : Field := ⟨A.RC_CFG i, 60, 60⟩
def F.RC_CFG_PMODE (i : Nat) : Field := ⟨A.RC_CFG i, 59, 58⟩
def F.RC_CFG_PATH (i : Nat) : Field := ⟨A.RC_CFG i, 57, 57⟩
def F.RC_CFG_HOME (i : Nat) : Field := ⟨A.RC_CFG i, 55, 54⟩
def F.RC_CFG_AXIS (i : Nat) : Field := ⟨A.RC_CFG i, 53, 52⟩
def F.RC_CFG_STAGE (i : Nat) : Field := ⟨A.RC_CFG i, 51, 51⟩
def F.RC_CFG_LOCAL_EN (i : Nat) : Field := ⟨A.RC_CFG i, 50, 50⟩
def F.RC_CFG_NORM (i : Nat) : Field := ⟨A.RC_CFG i, 49, 49⟩
def F.RC_CFG_AUTO (i : Nat) : Field := ⟨A.RC_CFG i, 48, 48⟩
def F.RC_CFG_NIN (i : Nat) : Field := ⟨A.RC_CFG i, 47, 44⟩
def F.RC_CFG_ROUNDS (i : Nat) : Field := ⟨A.RC_CFG i, 31, 16⟩
def F.RC_CFG_RSTRIDE (i : Nat) : Field := ⟨A.RC_CFG i, 15, 0⟩
def F.RC_SEG_BASE (i : Nat) : Field := ⟨A.RC_SEG i, 38, 32⟩
def F.RC_SEG_RSIZE (i : Nat) : Field := ⟨A.RC_SEG i, 13, 0⟩
def F.RC_START_ARMED (i : Nat) : Field := ⟨A.RC_START i, 63, 63⟩
def F.RC_START_ABORT (i : Nat) : Field := ⟨A.RC_START i, 62, 62⟩
def F.RC_START_LAST_REFUSE (i : Nat) : Field := ⟨A.RC_START i, 61, 59⟩
def F.RC_START_START (i : Nat) : Field := ⟨A.RC_START i, 55, 0⟩
def F.RC_DL_DL (i : Nat) : Field := ⟨A.RC_DL i, 47, 0⟩
def F.RC_OUT_FWD (i : Nat) : Field := ⟨A.RC_OUT i, 63, 63⟩
def F.RC_OUT_BCAST (i : Nat) : Field := ⟨A.RC_OUT i, 62, 62⟩
def F.RC_OUT_STORE (i : Nat) : Field := ⟨A.RC_OUT i, 61, 61⟩
def F.RC_OUT_CHAIN (i : Nat) : Field := ⟨A.RC_OUT i, 60, 60⟩
def F.RC_OUT_CHAIN_CTX (i : Nat) : Field := ⟨A.RC_OUT i, 59, 56⟩
def F.RC_OUT_OUT_CTX (i : Nat) : Field := ⟨A.RC_OUT i, 55, 52⟩
def F.RC_OUT_FMASK (i : Nat) : Field := ⟨A.RC_OUT i, 51, 51⟩
def F.RC_OUT_GROUP (i : Nat) : Field := ⟨A.RC_OUT i, 49, 44⟩
def F.RC_OUT_OUT_POS (i : Nat) : Field := ⟨A.RC_OUT i, 43, 40⟩
def F.RC_OUT_OUT_DDL (i : Nat) : Field := ⟨A.RC_OUT i, 31, 16⟩
def F.RC_OUT_OUT_NODE (i : Nat) : Field := ⟨A.RC_OUT i, 15, 0⟩
def F.RC_OUT_ADDR_ADDR (i : Nat) : Field := ⟨A.RC_OUT_ADDR i, 47, 0⟩
def F.RC_REC_ADDR_ADDR (i : Nat) : Field := ⟨A.RC_REC_ADDR i, 47, 0⟩
def F.RC_DONE_EN (i : Nat) : Field := ⟨A.RC_DONE i, 63, 63⟩
def F.RC_DONE_EVERY (i : Nat) : Field := ⟨A.RC_DONE i, 62, 62⟩
def F.RC_DONE_DIEMASK (i : Nat) : Field := ⟨A.RC_DONE i, 59, 56⟩
def F.RC_DONE_COUNTER (i : Nat) : Field := ⟨A.RC_DONE i, 55, 51⟩
def F.RC_DONE_LCMASK (i : Nat) : Field := ⟨A.RC_DONE i, 47, 24⟩
def F.RC_DONE_INCREMENT (i : Nat) : Field := ⟨A.RC_DONE i, 15, 0⟩
def F.RC_EXP_NEXP (i : Nat) : Field := ⟨A.RC_EXP i, 47, 40⟩
def F.RC_EXP_MARGIN (i : Nat) : Field := ⟨A.RC_EXP i, 34, 32⟩
def F.RC_EXP_GRAN (i : Nat) : Field := ⟨A.RC_EXP i, 3, 0⟩
def F.RC_ARR_EN (i : Nat) : Field := ⟨A.RC_ARR i, 63, 63⟩
def F.RC_ARR_DIE (i : Nat) : Field := ⟨A.RC_ARR i, 59, 58⟩
def F.RC_ARR_LCORE (i : Nat) : Field := ⟨A.RC_ARR i, 57, 53⟩
def F.RC_ARR_COUNTER (i : Nat) : Field := ⟨A.RC_ARR i, 52, 48⟩
def F.RC_ARR_STEP (i : Nat) : Field := ⟨A.RC_ARR i, 47, 32⟩
def F.RC_ARR_TARGET (i : Nat) : Field := ⟨A.RC_ARR i, 31, 0⟩
def F.RC_CARAVAN_LIST_ADDR (i : Nat) : Field := ⟨A.RC_CARAVAN i, 47, 0⟩
def F.RC_CARAVAN_NEW_GEN (i : Nat) : Field := ⟨A.RC_CARAVAN i, 63, 56⟩
def F.RC_CARAVAN_PCTX (i : Nat) : Field := ⟨A.RC_CARAVAN i, 55, 52⟩
def F.RC_STATUS_ROUND (i : Nat) : Field := ⟨A.RC_STATUS i, 63, 48⟩
def F.RC_STATUS_LGEN (i : Nat) : Field := ⟨A.RC_STATUS i, 47, 40⟩
def F.RC_STATUS_TAG (i : Nat) : Field := ⟨A.RC_STATUS i, 39, 24⟩
def F.RC_STATUS_PGEN (i : Nat) : Field := ⟨A.RC_STATUS i, 23, 8⟩
def F.RC_STATUS_STATE (i : Nat) : Field := ⟨A.RC_STATUS i, 1, 0⟩
def F.RC_RESULT_WORD2 (i : Nat) : Field := ⟨A.RC_RESULT i, 63, 0⟩
def F.RC_ERR_STRAY (i : Nat) : Field := ⟨A.RC_ERR i, 63, 48⟩
def F.RC_ERR_BROKEN (i : Nat) : Field := ⟨A.RC_ERR i, 47, 32⟩
def F.RC_ERR_START_MISSED (i : Nat) : Field := ⟨A.RC_ERR i, 31, 16⟩
def F.RC_ERR_REFUSED (i : Nat) : Field := ⟨A.RC_ERR i, 15, 0⟩
def F.RC_IN_VALID (i j : Nat) : Field := ⟨A.RC_IN i j, 63, 63⟩
def F.RC_IN_SRC_ID (i j : Nat) : Field := ⟨A.RC_IN i j, 31, 16⟩
def F.RC_IN_MASK (i j : Nat) : Field := ⟨A.RC_IN i j, 15, 0⟩
def F.EXPT_ENTRIES (i j k : Nat) : Field := ⟨A.EXPT i j k, 63, 0⟩
def F.RE_CTRL_SELFTEST (n : Nat) : Field := ⟨A.RE_CTRL n, 8, 8⟩
def F.RE_CTRL_START_EN (n : Nat) : Field := ⟨A.RE_CTRL n, 4, 4⟩
def F.RE_CTRL_JOB (n : Nat) : Field := ⟨A.RE_CTRL n, 3, 0⟩
def F.RE_STATUS_CUR_JOB (n : Nat) : Field := ⟨A.RE_STATUS n, 19, 16⟩
def F.RE_STATUS_QUEUED (n : Nat) : Field := ⟨A.RE_STATUS n, 15, 8⟩
def F.RE_STATUS_SELFTEST_PASS (n : Nat) : Field := ⟨A.RE_STATUS n, 2, 2⟩
def F.RE_STATUS_STATE (n : Nat) : Field := ⟨A.RE_STATUS n, 1, 0⟩
def F.RE_EPS_EPS (n : Nat) : Field := ⟨A.RE_EPS n, 31, 0⟩
def F.RE_TOL_BITS (n : Nat) : Field := ⟨A.RE_TOL n, 4, 0⟩
def F.RE_ERR_TEST_MISMATCH (n : Nat) : Field := ⟨A.RE_ERR n, 63, 48⟩
def F.RE_ERR_START_DROP (n : Nat) : Field := ⟨A.RE_ERR n, 47, 32⟩
def F.RE_ERR_FOREIGN_DROP (n : Nat) : Field := ⟨A.RE_ERR n, 31, 16⟩
def F.RE_ERR_WRITE_DROP (n : Nat) : Field := ⟨A.RE_ERR n, 15, 8⟩
def F.RE_ERR_ADDR_ERR (n : Nat) : Field := ⟨A.RE_ERR n, 7, 0⟩
def F.RE_TEST_FIRST_ROW (n : Nat) : Field := ⟨A.RE_TEST_FIRST n, 15, 0⟩
def F.RE_IN_ADDR (n i : Nat) : Field := ⟨A.RE_IN n i, 47, 0⟩
def F.RE_OUT_ADDR (n i : Nat) : Field := ⟨A.RE_OUT n i, 47, 0⟩
def F.RE_GRAD_ADDR (n i : Nat) : Field := ⟨A.RE_GRAD n i, 47, 0⟩
def F.RE_PARAM_ADDR (n i : Nat) : Field := ⟨A.RE_PARAM n i, 47, 0⟩
def F.RE_SHAPE_OP (n i : Nat) : Field := ⟨A.RE_SHAPE n i, 63, 60⟩
def F.RE_SHAPE_FMT (n i : Nat) : Field := ⟨A.RE_SHAPE n i, 59, 56⟩
def F.RE_SHAPE_CENTER (n i : Nat) : Field := ⟨A.RE_SHAPE n i, 55, 55⟩
def F.RE_SHAPE_PARAM_EN (n i : Nat) : Field := ⟨A.RE_SHAPE n i, 54, 54⟩
def F.RE_SHAPE_STAT_SLOT (n i : Nat) : Field := ⟨A.RE_SHAPE n i, 48, 32⟩
def F.RE_SHAPE_LEN64 (n i : Nat) : Field := ⟨A.RE_SHAPE n i, 31, 16⟩
def F.RE_SHAPE_ROWS (n i : Nat) : Field := ⟨A.RE_SHAPE n i, 15, 0⟩
def F.RE_DONE_EN (n i : Nat) : Field := ⟨A.RE_DONE n i, 15, 15⟩
def F.RE_DONE_COUNTER (n i : Nat) : Field := ⟨A.RE_DONE n i, 12, 8⟩
def F.RE_DONE_LCORE (n i : Nat) : Field := ⟨A.RE_DONE n i, 4, 0⟩
def F.MGMT_STATUS_TAKEOVER_EPOCH : Field := ⟨A.MGMT_STATUS, 63, 48⟩
def F.MGMT_STATUS_ROLES : Field := ⟨A.MGMT_STATUS, 3, 2⟩
def F.MGMT_STATUS_SEC_UP : Field := ⟨A.MGMT_STATUS, 1, 1⟩
def F.MGMT_STATUS_PRI_UP : Field := ⟨A.MGMT_STATUS, 0, 0⟩
def F.MGMT_ERR_OVERRUN : Field := ⟨A.MGMT_ERR, 63, 48⟩
def F.MGMT_ERR_EVQ_LOST : Field := ⟨A.MGMT_ERR, 47, 32⟩
def F.MGMT_ERR_HB_MISS : Field := ⟨A.MGMT_ERR, 31, 16⟩
def F.MGMT_PROXY_HELD : Field := ⟨A.MGMT_PROXY, 39, 32⟩
def F.MGMT_PROXY_TIMEOUT : Field := ⟨A.MGMT_PROXY, 31, 0⟩
def F.TELEMETRY_WORD (i j : Nat) : Field := ⟨A.TELEMETRY i j, 63, 0⟩
def F.PWR_CTRL_RESTART : Field := ⟨A.PWR_CTRL, 2, 2⟩
def F.PWR_CTRL_RETIRE : Field := ⟨A.PWR_CTRL, 1, 1⟩
def F.PWR_STATUS_INPUT_W : Field := ⟨A.PWR_STATUS, 63, 48⟩
def F.PWR_STATUS_VIN : Field := ⟨A.PWR_STATUS, 47, 32⟩
def F.PWR_STATUS_PEAK : Field := ⟨A.PWR_STATUS, 23, 23⟩
def F.PWR_STATUS_LEVEL : Field := ⟨A.PWR_STATUS, 22, 20⟩
def F.PWR_STATUS_HOLD_CAUSE : Field := ⟨A.PWR_STATUS, 19, 16⟩
def F.PWR_ENV_RETIRE_WAIT : Field := ⟨A.PWR_ENV, 47, 32⟩
def F.PWR_ENV_WATTS : Field := ⟨A.PWR_ENV, 15, 0⟩
def F.PWR_THR_NEXT_LEVEL : Field := ⟨A.PWR_THR_NEXT, 2, 0⟩
def F.PWR_THR_ACT_ARMED : Field := ⟨A.PWR_THR_ACT, 63, 63⟩
def F.PWR_THR_ACT_STAGE_LATE : Field := ⟨A.PWR_THR_ACT, 62, 56⟩
def F.PWR_THR_ACT_ACT_SLOT : Field := ⟨A.PWR_THR_ACT, 55, 0⟩
def F.HU_STATUS_V_BANK : Field := ⟨A.HU_STATUS, 63, 48⟩
def F.HU_STATUS_ENERGY : Field := ⟨A.HU_STATUS, 47, 32⟩
def F.HU_STATUS_CHARGING : Field := ⟨A.HU_STATUS, 2, 2⟩
def F.HU_STATUS_DEGRADED : Field := ⟨A.HU_STATUS, 1, 1⟩
def F.HU_STATUS_MEAS_VALID : Field := ⟨A.HU_STATUS, 0, 0⟩
def F.HU_MEAS_CAP : Field := ⟨A.HU_MEAS, 63, 48⟩
def F.HU_MEAS_AGE : Field := ⟨A.HU_MEAS, 47, 0⟩
def F.PWR_STAT_PEAK_EPOCHS : Field := ⟨A.PWR_STAT, 63, 32⟩
def F.PWR_STAT_THR_EPOCHS : Field := ⟨A.PWR_STAT, 31, 16⟩
def F.PWR_STAT_ADMIT_REFUSED : Field := ⟨A.PWR_STAT, 15, 0⟩
def F.RST_CTRL_GO : Field := ⟨A.RST_CTRL, 63, 63⟩
def F.RST_CTRL_DOMAIN : Field := ⟨A.RST_CTRL, 10, 8⟩
def F.RST_CTRL_INDEX : Field := ⟨A.RST_CTRL, 7, 0⟩
def F.RST_STATUS_DOMAIN : Field := ⟨A.RST_STATUS, 55, 52⟩
def F.RST_STATUS_CAUSE : Field := ⟨A.RST_STATUS, 51, 48⟩
def F.RST_STATUS_EPOCH : Field := ⟨A.RST_STATUS, 47, 0⟩
def F.JOIN_CTRL_ADMIT : Field := ⟨A.JOIN_CTRL, 0, 0⟩
def F.BOOT_STATUS_MAJOR : Field := ⟨A.BOOT_STATUS, 63, 56⟩
def F.BOOT_STATUS_MINOR : Field := ⟨A.BOOT_STATUS, 55, 48⟩
def F.BOOT_STATUS_SVN : Field := ⟨A.BOOT_STATUS, 47, 32⟩
def F.BOOT_STATUS_KEY_ID : Field := ⟨A.BOOT_STATUS, 31, 24⟩
def F.BOOT_STATUS_BOOTS : Field := ⟨A.BOOT_STATUS, 23, 16⟩
def F.BOOT_STATUS_TRIAL : Field := ⟨A.BOOT_STATUS, 3, 3⟩
def F.BOOT_STATUS_FALLBACK : Field := ⟨A.BOOT_STATUS, 2, 2⟩
def F.BOOT_STATUS_OWNER_ONLY : Field := ⟨A.BOOT_STATUS, 1, 1⟩
def F.BOOT_STATUS_BANK : Field := ⟨A.BOOT_STATUS, 0, 0⟩
def F.LEDGER_STATUS_SEQ : Field := ⟨A.LEDGER_STATUS, 63, 32⟩
def F.LEDGER_STATUS_USED : Field := ⟨A.LEDGER_STATUS, 31, 24⟩
def F.LEDGER_STATUS_REFUSED : Field := ⟨A.LEDGER_STATUS, 23, 16⟩
def F.LEDGER_STATUS_PENDING : Field := ⟨A.LEDGER_STATUS, 0, 0⟩
def F.FL_CTRL_GO : Field := ⟨A.FL_CTRL, 63, 63⟩
def F.FL_CTRL_OP : Field := ⟨A.FL_CTRL, 58, 56⟩
def F.FL_CTRL_BANK : Field := ⟨A.FL_CTRL, 0, 0⟩
def F.FL_STATUS_FREE : Field := ⟨A.FL_STATUS, 63, 48⟩
def F.FL_STATUS_LAST_RESULT : Field := ⟨A.FL_STATUS, 39, 32⟩
def F.FL_STATUS_VERIFIED : Field := ⟨A.FL_STATUS, 1, 1⟩
def F.FL_STATUS_BUSY : Field := ⟨A.FL_STATUS, 0, 0⟩
def F.FL_ADDR_OFFSET : Field := ⟨A.FL_ADDR, 26, 0⟩
def F.FL_DATA_DATA : Field := ⟨A.FL_DATA, 63, 0⟩
def F.ID_CTRL_GO : Field := ⟨A.ID_CTRL, 63, 63⟩
def F.ID_CTRL_OP : Field := ⟨A.ID_CTRL, 62, 60⟩
def F.ID_STATUS_LEN : Field := ⟨A.ID_STATUS, 63, 48⟩
def F.ID_STATUS_RESULT : Field := ⟨A.ID_STATUS, 47, 40⟩
def F.ID_STATUS_DONE : Field := ⟨A.ID_STATUS, 1, 1⟩
def F.ID_STATUS_BUSY : Field := ⟨A.ID_STATUS, 0, 0⟩
def F.ID_NONCE_NONCE (i : Nat) : Field := ⟨A.ID_NONCE i, 63, 0⟩
def F.ID_PTR_SEL : Field := ⟨A.ID_PTR, 63, 62⟩
def F.ID_PTR_WORD : Field := ⟨A.ID_PTR, 15, 0⟩
def F.ID_DATA_DATA : Field := ⟨A.ID_DATA, 63, 0⟩
def F.PWR_TEMP_CRIT_RETIRE : Field := ⟨A.PWR_TEMP, 63, 56⟩
def F.PWR_TEMP_TF : Field := ⟨A.PWR_TEMP, 34, 32⟩
def F.PWR_TEMP_D (v : Nat) : Field := ⟨A.PWR_TEMP, 8 * v + 7, 8 * v⟩
def F.PWR_TEMP_CFG_DIE_HYST : Field := ⟨A.PWR_TEMP_CFG, 23, 16⟩
def F.PWR_TEMP_CFG_DIE_CRIT : Field := ⟨A.PWR_TEMP_CFG, 15, 8⟩
def F.PWR_TEMP_CFG_DIE_HOT : Field := ⟨A.PWR_TEMP_CFG, 7, 0⟩
def F.COLOK_CTRL_RETRAIN (n : Nat) : Field := ⟨A.COLOK_CTRL n, 2, 2⟩
def F.COLOK_CTRL_ENABLE (n : Nat) : Field := ⟨A.COLOK_CTRL n, 1, 1⟩
def F.COLOK_CTRL_DRAIN (n : Nat) : Field := ⟨A.COLOK_CTRL n, 0, 0⟩
def F.COLOK_STATE_MAJOR (n : Nat) : Field := ⟨A.COLOK_STATE n, 63, 56⟩
def F.COLOK_STATE_MINOR (n : Nat) : Field := ⟨A.COLOK_STATE n, 55, 48⟩
def F.COLOK_STATE_FAR_TAB (n : Nat) : Field := ⟨A.COLOK_STATE n, 47, 16⟩
def F.COLOK_STATE_VER_VALID (n : Nat) : Field := ⟨A.COLOK_STATE n, 8, 8⟩
def F.COLOK_STATE_ENABLE_PENDING (n : Nat) : Field := ⟨A.COLOK_STATE n, 3, 3⟩
def F.COLOK_STATE_STATE (n : Nat) : Field := ⟨A.COLOK_STATE n, 2, 0⟩
def F.COLOK_SEQ_TX_NEXT (n : Nat) : Field := ⟨A.COLOK_SEQ n, 63, 32⟩
def F.COLOK_SEQ_RX_EXPECT (n : Nat) : Field := ⟨A.COLOK_SEQ n, 31, 0⟩
def F.COLOK_MBOX_HELD (n : Nat) : Field := ⟨A.COLOK_MBOX n, 7, 0⟩
def F.COLOK_STAT_FCS_ERR (n : Nat) : Field := ⟨A.COLOK_STAT n, 63, 48⟩
def F.COLOK_STAT_RESENT (n : Nat) : Field := ⟨A.COLOK_STAT n, 47, 32⟩
def F.COLOK_STAT_BUSY (n : Nat) : Field := ⟨A.COLOK_STAT n, 31, 16⟩
def F.COLOK_STAT_UNMAPPED (n : Nat) : Field := ⟨A.COLOK_STAT n, 15, 0⟩
def F.COLOK_STAT2_MALFORMED (n : Nat) : Field := ⟨A.COLOK_STAT2 n, 63, 48⟩
def F.COLOK_STAT2_REJECTED (n : Nat) : Field := ⟨A.COLOK_STAT2 n, 47, 32⟩
def F.COLOK_STAT2_TIMEOUT (n : Nat) : Field := ⟨A.COLOK_STAT2 n, 31, 16⟩
def F.COLOK_STAT2_LINK_DOWN (n : Nat) : Field := ⟨A.COLOK_STAT2 n, 15, 0⟩
def F.DW_ADDR_ADDR (n i : Nat) : Field := ⟨A.DW_ADDR n i, 47, 0⟩
def F.DW_CTRL_INC (n i : Nat) : Field := ⟨A.DW_CTRL n i, 15, 0⟩
def F.DW_DATA_DATA (n i : Nat) : Field := ⟨A.DW_DATA n i, 63, 0⟩
def F.DW_COUNT_ERRS (n i : Nat) : Field := ⟨A.DW_COUNT n i, 63, 32⟩
def F.DW_COUNT_WORDS (n i : Nat) : Field := ⟨A.DW_COUNT n i, 31, 0⟩
def F.SB_DEVID_DEVID : Field := ⟨A.SB_DEVID, 7, 0⟩
def F.SB_VER_VER : Field := ⟨A.SB_VER, 7, 0⟩
def F.SB_GRADE_BYTE (i : Nat) : Field := ⟨A.SB_GRADE i, 7, 0⟩
def F.SB_STATE_STATE : Field := ⟨A.SB_STATE, 2, 0⟩
def F.ALERT_CAUSE_CAUSE : Field := ⟨A.ALERT_CAUSE, 5, 0⟩
def F.ALERT_MASK_MASK : Field := ⟨A.ALERT_MASK, 5, 0⟩
def F.SB_POWER_WATTS : Field := ⟨A.SB_POWER, 15, 0⟩
def F.SB_VIN_VIN : Field := ⟨A.SB_VIN, 15, 0⟩
def F.SB_HOLDUP_JOULES : Field := ⟨A.SB_HOLDUP, 7, 0⟩
def F.SB_TEMP_TEMP : Field := ⟨A.SB_TEMP, 7, 0⟩
def F.SB_ATTN_CAUSE : Field := ⟨A.SB_ATTN, 1, 0⟩
def F.SB_CTRL_RETIRE_REQ : Field := ⟨A.SB_CTRL, 0, 0⟩
def F.SB_SERIAL_BYTE (i : Nat) : Field := ⟨A.SB_SERIAL i, 7, 0⟩

end Sys2Proof.Machine
end

