-- ==== Sys2Proof/Machine/RegRows.lean ====
section
/-! DEFINITION. One row per register of the spec's field tables: its place in its block, the bits of each access code
(R14), the bits whose reset entry is "image" or "kept", its reset value and what Plovjan's image sets. -/
namespace Sys2Proof.Machine

/-- A register of a block: offset, up to three index strides with their counts, and its field masks. -/
structure RegRow where
  name : String
  off : Nat
  s1 : Nat
  n1 : Nat
  s2 : Nat
  n2 : Nat
  s3 : Nat
  n3 : Nat
  rw : Nat
  rwl : Nat
  w1c : Nat
  image : Nat
  kept : Nat
  reset : Nat
  plov : Nat
  undef : Bool
  deriving DecidableEq, Repr

def coreRows0 : List RegRow := [
  ⟨"CORE_CTRL", 0x0, 0x0, 1, 0x0, 1, 0x0, 1, 0x4, 0x0, 0x0, 0x0, 0x0, 0x0, 0x0, false⟩,
  ⟨"CORE_STATE", 0x8, 0x0, 1, 0x0, 1, 0x0, 1, 0x0, 0x0, 0x0, 0x0, 0x0, 0x0, 0x0, false⟩,
  ⟨"CORE_ENTRY", 0x10, 0x0, 1, 0x0, 1, 0x0, 1, 0x1FFF, 0x0, 0x0, 0x0, 0x0, 0x0, 0x0, false⟩,
  ⟨"CORE_FAULT", 0x18, 0x0, 1, 0x0, 1, 0x0, 1, 0x0, 0x0, 0x0, 0x0, 0x0, 0x0, 0x0, false⟩,
  ⟨"CORE_ERR", 0x20, 0x0, 1, 0x0, 1, 0x0, 1, 0x0, 0x0, 0x0, 0x0, 0x0, 0x0, 0x0, false⟩,
  ⟨"CORE_WAIT_LIMIT", 0x28, 0x0, 1, 0x0, 1, 0x0, 1, 0xFFFFFFFF, 0x0, 0x0, 0xFFFFFFFF, 0x0, 0x0, 0x0, false⟩,
  ⟨"CORE_PERF_SNAP", 0x30, 0x0, 1, 0x0, 1, 0x0, 1, 0x0, 0x0, 0x0, 0x0, 0x0, 0x0, 0x0, false⟩,
  ⟨"LOOP_TRIP", 0x40, 0x8, 6, 0x0, 1, 0x0, 1, 0xFFFFFFFF, 0x0, 0x0, 0x0, 0x0, 0x0, 0x0, false⟩,
  ⟨"LOOP_CNT", 0x80, 0x8, 6, 0x0, 1, 0x0, 1, 0x0, 0x0, 0x0, 0x0, 0x0, 0x0, 0x0, false⟩,
  ⟨"QCFG", 0x100, 0x8, 16, 0x0, 1, 0x0, 1, 0x7F, 0x0, 0x0, 0x0, 0x0, 0x8, 0x0, false⟩,
  ⟨"QSTAT", 0x180, 0x8, 16, 0x0, 1, 0x0, 1, 0x0, 0x0, 0x0, 0x0, 0x0, 0x0, 0x0, false⟩,
  ⟨"CNT", 0x200, 0x8, 32, 0x0, 1, 0x0, 1, 0xFFFFFFFFFFFFFFFF, 0x0, 0x0, 0x0, 0x0, 0xFFFFFFFF00000000, 0x0, false⟩]

def coreRows1 : List RegRow := [
  ⟨"CNT_TGT", 0x300, 0x8, 32, 0x0, 1, 0x0, 1, 0xFFFFFFFF, 0x0, 0x0, 0x0, 0x0, 0x0, 0x0, false⟩,
  ⟨"AG_BASE", 0x400, 0x100, 6, 0x80, 2, 0x0, 1, 0xFFFFFFFF0000FFFF, 0x0, 0x0, 0x0, 0x0, 0xFFFF000000000000, 0x0, false⟩,
  ⟨"AG_MODE", 0x408, 0x100, 6, 0x80, 2, 0x0, 1, 0xFE, 0x0, 0x0, 0x0, 0x0, 0x4, 0x0, false⟩,
  ⟨"AG_LVL", 0x410, 0x100, 6, 0x80, 2, 0x8, 6, 0xFFFFF0000FFFF, 0x0, 0x0, 0x0, 0x0, 0x1, 0x0, false⟩,
  ⟨"SD_ADDR", 0xA00, 0x20, 16, 0x0, 1, 0x0, 1, 0xFFFFFFFFFFFF, 0x0, 0x0, 0x0, 0x0, 0x0, 0x0, false⟩,
  ⟨"SD_LOCAL", 0xA08, 0x20, 16, 0x0, 1, 0x0, 1, 0xFE000000001FFFFF, 0x0, 0x0, 0x0, 0x0, 0x0, 0x0, false⟩,
  ⟨"SD_SHAPE", 0xA10, 0x20, 16, 0x0, 1, 0x0, 1, 0xFFFFFFFF00000000, 0x0, 0x0, 0x0, 0x0, 0x0, 0x0, false⟩,
  ⟨"SD_STRIDE", 0xA18, 0x20, 16, 0x0, 1, 0x0, 1, 0xFFFFFFFF0000FFFF, 0x0, 0x0, 0x0, 0x0, 0x0, 0x0, false⟩,
  ⟨"SIG_DESC", 0xC00, 0x8, 64, 0x0, 1, 0x0, 1, 0xFF8FFFFFFE00FFFF, 0x0, 0x0, 0x0, 0x0, 0x1, 0x0, false⟩,
  ⟨"AG_POS", 0xE00, 0x8, 6, 0x0, 1, 0x0, 1, 0x0, 0x0, 0x0, 0x0, 0x0, 0x0, 0x0, false⟩,
  ⟨"RNG_SEED", 0xF00, 0x0, 1, 0x0, 1, 0x0, 1, 0xFFFFFFFFFFFFFFFF, 0x0, 0x0, 0xFFFFFFFFFFFFFFFF, 0x0, 0x0, 0x0, false⟩,
  ⟨"RNG_COUNT", 0xF08, 0x0, 1, 0x0, 1, 0x0, 1, 0x0, 0x0, 0x0, 0x0, 0x0, 0x0, 0x0, false⟩]

def coreRows2 : List RegRow := [
  ⟨"RNG_SNAP", 0xF10, 0x8, 2, 0x0, 1, 0x0, 1, 0x0, 0x0, 0x0, 0x0, 0x0, 0x0, 0x0, false⟩,
  ⟨"CONV_CTRL", 0x1000, 0x0, 1, 0x0, 1, 0x0, 1, 0x2, 0x0, 0x0, 0x0, 0x0, 0x0, 0x0, false⟩,
  ⟨"CONV_STATUS", 0x1008, 0x0, 1, 0x0, 1, 0x0, 1, 0x0, 0x0, 0x0, 0x0, 0x0, 0x0, 0x0, false⟩,
  ⟨"CONV_BFP", 0x1010, 0x0, 1, 0x0, 1, 0x0, 1, 0xF0000000FFFFFFFF, 0x0, 0x0, 0x0, 0x0, 0x0, 0x0, false⟩,
  ⟨"CONV_BFP_POS", 0x1018, 0x0, 1, 0x0, 1, 0x0, 1, 0x0, 0x0, 0x0, 0x0, 0x0, 0x0, 0x0, false⟩,
  ⟨"SCALE_CFG", 0x1100, 0x8, 64, 0x0, 1, 0x0, 1, 0xFFE7, 0x0, 0x0, 0x0, 0x0, 0x0, 0x0, false⟩,
  ⟨"HIST_CFG", 0x1300, 0x8, 8, 0x0, 1, 0x0, 1, 0xF, 0x0, 0x0, 0x0, 0x0, 0x0, 0x0, false⟩,
  ⟨"CONV_TAG_A", 0x1400, 0x10, 16, 0x0, 1, 0x0, 1, 0x0, 0x0, 0x0, 0x0, 0x0, 0x0, 0x0, false⟩,
  ⟨"CONV_TAG_B", 0x1408, 0x10, 16, 0x0, 1, 0x0, 1, 0x0, 0x0, 0x0, 0x0, 0x0, 0x0, 0x0, false⟩,
  ⟨"CONV_TAG_A_SNAP", 0x1500, 0x10, 16, 0x0, 1, 0x0, 1, 0x0, 0x0, 0x0, 0x0, 0x0, 0x0, 0x0, false⟩,
  ⟨"CONV_TAG_B_SNAP", 0x1508, 0x10, 16, 0x0, 1, 0x0, 1, 0x0, 0x0, 0x0, 0x0, 0x0, 0x0, 0x0, false⟩,
  ⟨"ACC_FLAGS", 0x1800, 0x0, 1, 0x0, 1, 0x0, 1, 0x0, 0x0, 0xFFFFFFFFFFFFFFFF, 0x0, 0x0, 0x0, 0x0, false⟩]

def coreRows3 : List RegRow := [
  ⟨"ACC_TYPE", 0x1808, 0x0, 1, 0x0, 1, 0x0, 1, 0x0, 0x0, 0x0, 0x0, 0x0, 0x0, 0x0, false⟩,
  ⟨"TOP8_STATE", 0x1810, 0x0, 1, 0x0, 1, 0x0, 1, 0x0, 0x0, 0x0, 0x0, 0x0, 0x0, 0x0, false⟩,
  ⟨"TABLE_CFG_F", 0x1818, 0x0, 1, 0x0, 1, 0x0, 1, 0xF3FFF, 0x0, 0x0, 0x0, 0x0, 0xA00F8, 0x0, false⟩,
  ⟨"TABLE_CFG_D", 0x1820, 0x0, 1, 0x0, 1, 0x0, 1, 0xF3FFF, 0x0, 0x0, 0x0, 0x0, 0xA00F8, 0x0, false⟩,
  ⟨"SCALE_WORD", 0x8000, 0x4000, 2, 0x8, 2048, 0x0, 1, 0xFFFFFFFFFFFFFFFF, 0x0, 0x0, 0x0, 0x0, 0x7F007F007F007F0, 0x0, false⟩,
  ⟨"HIST_WORD", 0x10000, 0x1000, 8, 0x8, 384, 0x0, 1, 0xFFFFFFFFFFFFFFFF, 0x0, 0x0, 0x0, 0x0, 0x0, 0x0, false⟩,
  ⟨"FUNC_ENTRY", 0x18000, 0x8, 512, 0x0, 1, 0x0, 1, 0xFFFFFFFFFFFFFFFF, 0x0, 0x0, 0x0, 0x0, 0x0, 0x0, false⟩,
  ⟨"DERIV_ENTRY", 0x19000, 0x8, 512, 0x0, 1, 0x0, 1, 0xFFFFFFFFFFFFFFFF, 0x0, 0x0, 0x0, 0x0, 0x0, 0x0, false⟩]

def coreRows : List RegRow := coreRows0 ++ coreRows1 ++ coreRows2 ++ coreRows3

def pageRows0 : List RegRow := [
  ⟨"GRADE_MASK", 0x0, 0x0, 1, 0x0, 1, 0x0, 1, 0x0, 0x0, 0x0, 0x0, 0x0, 0xB1000000000000, 0x0, false⟩,
  ⟨"CORE_SITE_MAP0", 0x8, 0x0, 1, 0x0, 1, 0x0, 1, 0x0, 0x0, 0x0, 0x0, 0x0, 0x0, 0x0, false⟩,
  ⟨"CORE_SITE_MAP1", 0x10, 0x0, 1, 0x0, 1, 0x0, 1, 0x0, 0x0, 0x0, 0x0, 0x0, 0x0, 0x0, false⟩,
  ⟨"MODULE_STATE", 0x18, 0x0, 1, 0x0, 1, 0x0, 1, 0x0, 0x0, 0x0, 0x0, 0x0, 0x3, 0x0, false⟩,
  ⟨"FAULT_HEAD", 0x20, 0x0, 1, 0x0, 1, 0x0, 1, 0x0, 0x0, 0x0, 0x0, 0x0, 0x0, 0x0, false⟩,
  ⟨"FAULT_LOST", 0x28, 0x0, 1, 0x0, 1, 0x0, 1, 0x0, 0x0, 0x0, 0x0, 0x0, 0x0, 0x0, false⟩,
  ⟨"CAD_NOW", 0x100, 0x0, 1, 0x0, 1, 0x0, 1, 0x0, 0x0, 0x0, 0x0, 0x0, 0x0, 0x0, false⟩,
  ⟨"CAD_SLOT", 0x108, 0x0, 1, 0x0, 1, 0x0, 1, 0x0, 0x0, 0x0, 0x0, 0x0, 0x0, 0x0, false⟩,
  ⟨"CAD_EPOCH", 0x110, 0x0, 1, 0x0, 1, 0x0, 1, 0x0, 0x0, 0x0, 0x0, 0x0, 0x0, 0x0, false⟩,
  ⟨"CAD_STATUS", 0x118, 0x0, 1, 0x0, 1, 0x0, 1, 0x0, 0x0, 0x0, 0x0, 0x0, 0xFF00, 0x0, false⟩,
  ⟨"CAD_CTRL", 0x120, 0x0, 1, 0x0, 1, 0x0, 1, 0x0, 0x3, 0x0, 0x3, 0x0, 0x0, 0x0, false⟩,
  ⟨"CAD_LOAD", 0x128, 0x0, 1, 0x0, 1, 0x0, 1, 0x0, 0x0, 0x0, 0x0, 0x0, 0x0, 0x0, false⟩]

def pageRows1 : List RegRow := [
  ⟨"CAD_ERR", 0x130, 0x0, 1, 0x0, 1, 0x0, 1, 0x0, 0x0, 0x0, 0x0, 0x0, 0x0, 0x0, false⟩,
  ⟨"UNIT_STATE", 0x200, 0x8, 187, 0x0, 1, 0x0, 1, 0x0, 0x0, 0x0, 0x0, 0x0, 0x0, 0x0, false⟩,
  ⟨"FAULT_RING", 0x8000, 0x20, 1024, 0x8, 4, 0x0, 1, 0x0, 0x0, 0x0, 0x0, 0x0, 0x0, 0x0, false⟩]

def pageRows : List RegRow := pageRows0 ++ pageRows1

def seqRows0 : List RegRow := [
  ⟨"SEQ_CTRL", 0x0, 0x0, 1, 0x0, 1, 0x0, 1, 0x7, 0x0, 0x0, 0x0, 0x1, 0x0, 0x0, false⟩,
  ⟨"SEQ_STATE", 0x8, 0x0, 1, 0x0, 1, 0x0, 1, 0x0, 0x0, 0x0, 0x0, 0x0, 0x0, 0x0, false⟩,
  ⟨"SEQ_STEP", 0x10, 0x0, 1, 0x0, 1, 0x0, 1, 0xFFFF, 0x0, 0x0, 0x0, 0x1FFFFFFFF, 0x0, 0x0, false⟩,
  ⟨"SEQ_START", 0x18, 0x0, 1, 0x0, 1, 0x0, 1, 0x80FFFFFFFFFFFFFF, 0x0, 0x0, 0x0, 0x0, 0x0, 0x0, false⟩,
  ⟨"SEQ_PLAN", 0x20, 0x0, 1, 0x0, 1, 0x0, 1, 0xFFFFFFFFFFFFFF, 0x0, 0x0, 0x0, 0x0, 0x10000000000000, 0x0, false⟩,
  ⟨"SEQ_PERIOD", 0x28, 0x0, 1, 0x0, 1, 0x0, 1, 0xFFFFFFFFFF, 0x0, 0x0, 0x0, 0x0, 0x300000000, 0x0, false⟩,
  ⟨"SEQ_VCFG", 0x30, 0x0, 1, 0x0, 1, 0x0, 1, 0xFFFF0FF1FFFF, 0x0, 0x0, 0x0, 0x0, 0x1, 0x0, false⟩,
  ⟨"SEQ_LATE_ALLOW", 0x38, 0x0, 1, 0x0, 1, 0x0, 1, 0xFFFFFFFF, 0x0, 0x0, 0x0, 0x0, 0x0, 0x0, false⟩,
  ⟨"SEQ_NORM_CFG", 0x40, 0x0, 1, 0x0, 1, 0x0, 1, 0x1FFFFFFFFF, 0x0, 0x0, 0x0, 0x0, 0x7F800000, 0x0, false⟩,
  ⟨"SEQ_INPUT", 0x48, 0x0, 1, 0x0, 1, 0x0, 1, 0x1FFFF, 0x0, 0x0, 0x0, 0x0, 0x0, 0x0, false⟩,
  ⟨"SEQ_REPORT", 0x50, 0x0, 1, 0x0, 1, 0x0, 1, 0xFFFFFFFFFFFF, 0x0, 0x0, 0x0, 0x0, 0x0, 0x0, false⟩,
  ⟨"SEQ_CHECK", 0x58, 0x0, 1, 0x0, 1, 0x0, 1, 0x0, 0x0, 0x0, 0x0, 0x0, 0x0, 0x0, false⟩]

def seqRows1 : List RegRow := [
  ⟨"SEQ_VOTE", 0x60, 0x0, 1, 0x0, 1, 0x0, 1, 0x0, 0x0, 0x0, 0x0, 0x0, 0x0, 0x0, false⟩,
  ⟨"SEQ_VERDICT", 0x68, 0x0, 1, 0x0, 1, 0x0, 1, 0x0, 0x0, 0x0, 0x0, 0x7FFFF, 0x0, 0x0, false⟩,
  ⟨"SEQ_VSUM0", 0x70, 0x0, 1, 0x0, 1, 0x0, 1, 0x0, 0x0, 0x0, 0x0, 0xFFFFFFFFFFFFFFFF, 0x0, 0x0, false⟩,
  ⟨"SEQ_VSUM1", 0x78, 0x0, 1, 0x0, 1, 0x0, 1, 0x0, 0x0, 0x0, 0x0, 0xFFFFFFFFFFFFFFFF, 0x0, 0x0, false⟩,
  ⟨"SEQ_NORM", 0x80, 0x0, 1, 0x0, 1, 0x0, 1, 0x0, 0x0, 0x0, 0x0, 0xFFFFFFFFFFFFFFFF, 0x0, 0x0, false⟩,
  ⟨"VER_ACTIVE", 0x88, 0x0, 1, 0x0, 1, 0x0, 1, 0x1, 0x0, 0x0, 0x0, 0xFFFF0003, 0x0, 0x0, false⟩,
  ⟨"SEQ_VWIN_BASE", 0x90, 0x0, 1, 0x0, 1, 0x0, 1, 0xFFFFFFFFFFFF, 0x0, 0x0, 0x0, 0xFFFFFFFFFFFF, 0x0, 0x0, false⟩,
  ⟨"SEQ_VWIN_SIZE", 0x98, 0x0, 1, 0x0, 1, 0x0, 1, 0xFFFFFFFFFFFF, 0x0, 0x0, 0x0, 0xFFFFFFFFFFFF, 0x0, 0x0, false⟩,
  ⟨"SEQ_MARK", 0xA0, 0x0, 1, 0x0, 1, 0x0, 1, 0x0, 0x0, 0x0, 0x0, 0x0, 0x0, 0x0, false⟩,
  ⟨"SEQ_RETAIN", 0xA8, 0x0, 1, 0x0, 1, 0x0, 1, 0x0, 0x0, 0x0, 0x0, 0xFFFFFFFF00000039, 0x0, 0x0, false⟩,
  ⟨"SEQ_ERR", 0xB0, 0x0, 1, 0x0, 1, 0x0, 1, 0x0, 0x0, 0x0, 0x0, 0x0, 0x0, 0x0, false⟩,
  ⟨"UPD_STATUS", 0xB8, 0x0, 1, 0x0, 1, 0x0, 1, 0x0, 0x0, 0x0, 0x0, 0x20000, 0x0, 0x0, false⟩]

def seqRows2 : List RegRow := [
  ⟨"UPD_CURSOR", 0x300, 0x8, 16, 0x0, 1, 0x0, 1, 0x0, 0x0, 0x0, 0x0, 0x83E000FFFFFFFFFF, 0x0, 0x0, false⟩,
  ⟨"UJ_CTRL", 0x400, 0x40, 32, 0x0, 1, 0x0, 1, 0x800000000000001F, 0x0, 0x0, 0x0, 0x800000000000001F, 0x0, 0x0, false⟩,
  ⟨"UJ_PARAM", 0x408, 0x40, 32, 0x0, 1, 0x0, 1, 0xFFFFFFFFFFFF, 0x0, 0x0, 0x0, 0xFFFFFFFFFFFF, 0x0, 0x0, false⟩,
  ⟨"UJ_M1", 0x410, 0x40, 32, 0x0, 1, 0x0, 1, 0xFFFFFFFFFFFF, 0x0, 0x0, 0x0, 0xFFFFFFFFFFFF, 0x0, 0x0, false⟩,
  ⟨"UJ_M2", 0x418, 0x40, 32, 0x0, 1, 0x0, 1, 0xFFFFFFFFFFFF, 0x0, 0x0, 0x0, 0xFFFFFFFFFFFF, 0x0, 0x0, false⟩,
  ⟨"UJ_GRAD", 0x420, 0x40, 32, 0x0, 1, 0x0, 1, 0xFFFFFFFFFFFF, 0x0, 0x0, 0x0, 0xFFFFFFFFFFFF, 0x0, 0x0, false⟩,
  ⟨"UJ_SCAL", 0x428, 0x40, 32, 0x0, 1, 0x0, 1, 0xFFFFFFFFFFFF, 0x0, 0x0, 0x0, 0xFFFFFFFFFFFF, 0x0, 0x0, false⟩,
  ⟨"UJ_COUNT", 0x430, 0x40, 32, 0x0, 1, 0x0, 1, 0xFFFFFFFFFF, 0x0, 0x0, 0x0, 0xFFFFFFFFFF, 0x0, 0x0, false⟩,
  ⟨"ACT_FOOT", 0x200, 0x8, 8, 0x0, 1, 0x0, 1, 0x0, 0x0, 0x0, 0x0, 0x0, 0x0, 0x0, false⟩,
  ⟨"ACT_PEAK_LAST", 0x240, 0x8, 8, 0x0, 1, 0x0, 1, 0x0, 0x0, 0x0, 0x0, 0x0, 0x0, 0x0, false⟩,
  ⟨"ACT_CFG", 0x280, 0x0, 1, 0x0, 1, 0x0, 1, 0x0, 0x1F, 0x0, 0x0, 0x0, 0x14, 0x0, false⟩,
  ⟨"ACT_ERR", 0x288, 0x0, 1, 0x0, 1, 0x0, 1, 0x0, 0x0, 0x0, 0x0, 0x0, 0x0, 0x0, false⟩]

def seqRows : List RegRow := seqRows0 ++ seqRows1 ++ seqRows2

def mapRows0 : List RegRow := [
  ⟨"MAP_CTRL", 0x0, 0x0, 1, 0x0, 1, 0x0, 1, 0x0, 0x0, 0x0, 0x0, 0x0, 0x0, 0x0, false⟩,
  ⟨"MAP_STATUS", 0x8, 0x0, 1, 0x0, 1, 0x0, 1, 0x0, 0x0, 0x0, 0x0, 0x0, 0x0, 0x0, false⟩,
  ⟨"MAP_ERR", 0x10, 0x0, 1, 0x0, 1, 0x0, 1, 0x0, 0x0, 0x0, 0x0, 0x0, 0x0, 0x0, false⟩,
  ⟨"MAP_RGN_BASE", 0x100, 0x20, 16, 0x0, 1, 0x0, 1, 0xFFFFFFFFFFFF, 0x0, 0x0, 0xFFFFFFFFFFFF, 0x0, 0x0, 0x0, false⟩,
  ⟨"MAP_RGN_CFG", 0x108, 0x20, 16, 0x0, 1, 0x0, 1, 0xF00003FF000003FF, 0x0, 0x0, 0xF00003FF000003FF, 0x0, 0x0, 0x0, false⟩,
  ⟨"MAP_RGN_SIZE", 0x110, 0x20, 16, 0x0, 1, 0x0, 1, 0x0, 0x0, 0x0, 0x0, 0x0, 0x0, 0x0, false⟩]

def mapRows : List RegRow := mapRows0

def mcRows0 : List RegRow := [
  ⟨"MC_CTRL", 0x0, 0x0, 1, 0x0, 1, 0x0, 1, 0x0, 0x0, 0x0, 0x0, 0x0, 0x0, 0x0, false⟩,
  ⟨"MC_STATUS", 0x8, 0x0, 1, 0x0, 1, 0x0, 1, 0x0, 0x0, 0x0, 0x0, 0x0, 0x0, 0x0, false⟩,
  ⟨"MC_PCMAP", 0x10, 0x0, 1, 0x0, 1, 0x0, 1, 0x0, 0x0, 0x0, 0x0, 0x0, 0x0, 0x0, false⟩,
  ⟨"MC_PCRET_NEXT", 0x18, 0x0, 1, 0x0, 1, 0x0, 1, 0x0, 0x0, 0x0, 0x0, 0x0, 0x0, 0x0, false⟩,
  ⟨"MC_PCRET_ACT", 0x20, 0x0, 1, 0x0, 1, 0x0, 1, 0x0, 0x0, 0x0, 0x0, 0x0, 0x0, 0x0, false⟩,
  ⟨"MC_THR_NEXT", 0x28, 0x0, 1, 0x0, 1, 0x0, 1, 0x0, 0x0, 0x0, 0x0, 0x0, 0x0, 0x0, false⟩,
  ⟨"MC_THR_ACT", 0x30, 0x0, 1, 0x0, 1, 0x0, 1, 0x0, 0x0, 0x0, 0x0, 0x0, 0x0, 0x0, false⟩,
  ⟨"MC_PPR_NEXT", 0x38, 0x0, 1, 0x0, 1, 0x0, 1, 0x0, 0x0, 0x0, 0x0, 0x0, 0x0, 0x0, false⟩,
  ⟨"MC_PPR_ACT", 0x40, 0x0, 1, 0x0, 1, 0x0, 1, 0x0, 0x0, 0x0, 0x0, 0x0, 0x0, 0x0, false⟩,
  ⟨"MC_ARB", 0x48, 0x0, 1, 0x0, 1, 0x0, 1, 0xFFFFFFFFFFFFFFFF, 0x0, 0x0, 0xFFFFFFFFFFFFFFFF, 0x0, 0x0, 0x3915555555555555, false⟩,
  ⟨"MC_BURST", 0x50, 0x0, 1, 0x0, 1, 0x0, 1, 0xFFFFFFFFFFFFFFFF, 0x0, 0x0, 0xFFFFFFFFFFFFFFFF, 0x0, 0x0, 0x10001000100010, false⟩,
  ⟨"MC_REMAP_CFG", 0x58, 0x0, 1, 0x0, 1, 0x0, 1, 0xFFFF, 0x0, 0x0, 0xFFFF, 0x0, 0x0, 0xC804, false⟩]

def mcRows1 : List RegRow := [
  ⟨"MC_TEMP_CFG", 0x60, 0x0, 1, 0x0, 1, 0x0, 1, 0x3FFF00FFFFFF, 0x0, 0x0, 0x3FFF00FFFFFF, 0x0, 0x0, 0x1E000003695F, false⟩,
  ⟨"MC_ECC", 0x68, 0x0, 1, 0x0, 1, 0x0, 1, 0x0, 0x0, 0x0, 0x0, 0x0, 0x0, 0x0, false⟩,
  ⟨"MC_ECC_SNAP", 0x70, 0x0, 1, 0x0, 1, 0x0, 1, 0x0, 0x0, 0x0, 0x0, 0x0, 0x0, 0x0, false⟩,
  ⟨"MC_STAT_SNAP", 0x78, 0x0, 1, 0x0, 1, 0x0, 1, 0x0, 0x0, 0x0, 0x0, 0x0, 0x0, 0x0, false⟩,
  ⟨"MC_ATOM", 0x80, 0x0, 1, 0x0, 1, 0x0, 1, 0x0, 0x0, 0x0, 0x0, 0x0, 0x0, 0x0, false⟩,
  ⟨"MC_REPAIR", 0x88, 0x0, 1, 0x0, 1, 0x0, 1, 0x0, 0x0, 0x0, 0x0, 0x0, 0x0, 0x0, false⟩,
  ⟨"MC_TRAIN", 0x90, 0x0, 1, 0x0, 1, 0x0, 1, 0x0, 0x0, 0x0, 0x0, 0x0, 0x0, 0x0, false⟩,
  ⟨"MC_TEMP_SNAP", 0x98, 0x0, 1, 0x0, 1, 0x0, 1, 0x0, 0x0, 0x0, 0x0, 0x0, 0x0, 0x0, false⟩,
  ⟨"MC_ERRLOG_SNAP", 0x100, 0x8, 16, 0x0, 1, 0x0, 1, 0x0, 0x0, 0x0, 0x0, 0x0, 0x0, 0x0, false⟩]

def mcRows : List RegRow := mcRows0 ++ mcRows1

def farRows0 : List RegRow := [
  ⟨"FAR_CTRL", 0x0, 0x0, 1, 0x0, 1, 0x0, 1, 0x0, 0x0, 0x0, 0x0, 0x0, 0x0, 0x0, false⟩,
  ⟨"FAR_STATUS", 0x8, 0x0, 1, 0x0, 1, 0x0, 1, 0x0, 0x0, 0x0, 0x0, 0x0, 0x0, 0x0, false⟩,
  ⟨"FAR_ERR", 0x10, 0x0, 1, 0x0, 1, 0x0, 1, 0x0, 0x0, 0x0, 0x0, 0x0, 0x0, 0x0, false⟩,
  ⟨"FAR_ATOM", 0x18, 0x0, 1, 0x0, 1, 0x0, 1, 0x0, 0x0, 0x0, 0x0, 0x0, 0x0, 0x0, false⟩]

def farRows : List RegRow := farRows0

def rtRows0 : List RegRow := [
  ⟨"RT_NODE_ID", 0x0, 0x0, 1, 0x0, 1, 0x0, 1, 0x1FFFF, 0x0, 0x0, 0x0, 0x0, 0x0, 0x0, false⟩,
  ⟨"RT_SEND_NEXT", 0x8, 0x0, 1, 0x0, 1, 0x0, 1, 0x3, 0x0, 0x0, 0x0, 0x0, 0x0, 0x0, false⟩,
  ⟨"RT_SEND_ACT", 0x10, 0x0, 1, 0x0, 1, 0x0, 1, 0x80FFFFFFFFFFFFFF, 0x0, 0x0, 0x0, 0x0, 0x0, 0x0, false⟩,
  ⟨"RT_BANK_CTRL", 0x18, 0x0, 1, 0x0, 1, 0x0, 1, 0x0, 0x0, 0x0, 0x0, 0x0, 0x0, 0x0, false⟩,
  ⟨"RT_BANK_STATUS", 0x20, 0x0, 1, 0x0, 1, 0x0, 1, 0x0, 0x0, 0x0, 0x0, 0x0, 0x0, 0x0, false⟩,
  ⟨"RT_AGE", 0x28, 0x0, 1, 0x0, 1, 0x0, 1, 0xFFFFFFFFFFFFFFFF, 0x0, 0x0, 0xFFFFFFFFFFFFFFFF, 0x0, 0x0, 0x400040001000100, false⟩,
  ⟨"RT_LIFE", 0x30, 0x0, 1, 0x0, 1, 0x0, 1, 0xFFFF, 0x0, 0x0, 0x0, 0x0, 0x80, 0x0, false⟩,
  ⟨"RT_STAT", 0x38, 0x0, 1, 0x0, 1, 0x0, 1, 0x0, 0x0, 0x0, 0x0, 0x0, 0x0, 0x0, false⟩,
  ⟨"RT_DROP", 0x40, 0x0, 1, 0x0, 1, 0x0, 1, 0x0, 0x0, 0x0, 0x0, 0x0, 0x0, 0x0, false⟩,
  ⟨"RT_RESET_DROP", 0x48, 0x0, 1, 0x0, 1, 0x0, 1, 0x0, 0x0, 0x0, 0x0, 0xFFFFFFFF, 0x0, 0x0, false⟩,
  ⟨"RT_DRAIN_SUM", 0x50, 0x0, 1, 0x0, 1, 0x0, 1, 0x0, 0x0, 0x0, 0x0, 0x0, 0x0, 0x0, false⟩,
  ⟨"RT_WDOG", 0x58, 0x0, 1, 0x0, 1, 0x0, 1, 0xFFFFFFFF, 0x0, 0x0, 0xFFFFFFFF, 0x0, 0x0, 0x100010, false⟩]

def rtRows1 : List RegRow := [
  ⟨"RT_GROUP", 0x100, 0x200, 2, 0x8, 64, 0x0, 1, 0xC00000000FFF0FFF, 0x0, 0x0, 0x0, 0x0, 0x0, 0x0, true⟩,
  ⟨"DERAILLEUR", 0x800, 0x80, 2, 0x8, 16, 0x0, 1, 0xEFFFF000FFFFFFFF, 0x0, 0x0, 0x0, 0x0, 0x0, 0x0, true⟩,
  ⟨"BR_ARB", 0x900, 0x8, 8, 0x0, 1, 0x0, 1, 0xFFFFFFFFFFFFFFFF, 0x0, 0x0, 0xFFFFFFFFFFFFFFFF, 0x0, 0x0, 0xE45555555555555, false⟩,
  ⟨"BR_BURST", 0x940, 0x8, 8, 0x0, 1, 0x0, 1, 0xFFFFFFFFFFFFFFFF, 0x0, 0x0, 0xFFFFFFFFFFFFFFFF, 0x0, 0x0, 0x0, false⟩,
  ⟨"RT_TABLE", 0x10000, 0x20000, 2, 0x8, 16384, 0x0, 1, 0xEF0FEF0FEF0FEF0F, 0x0, 0x0, 0x0, 0x0, 0x0, 0x0, true⟩]

def rtRows : List RegRow := rtRows0 ++ rtRows1

def spkRows0 : List RegRow := [
  ⟨"SPK_CTRL", 0x800, 0x0, 1, 0x0, 1, 0x0, 1, 0x0, 0x0, 0x0, 0x0, 0x0, 0x0, 0x0, false⟩,
  ⟨"SPK_STATE", 0x808, 0x0, 1, 0x0, 1, 0x0, 1, 0x0, 0x0, 0x0, 0x0, 0x0, 0x0, 0x0, false⟩,
  ⟨"SPK_ARB_CLS0", 0x810, 0x0, 1, 0x0, 1, 0x0, 1, 0xFFFFFFFFFFFFFFFF, 0x0, 0x0, 0xFFFFFFFFFFFFFFFF, 0x0, 0x0, 0xE4E4E4E4E4E4E4E4, false⟩,
  ⟨"SPK_ARB_CLS1", 0x818, 0x0, 1, 0x0, 1, 0x0, 1, 0xFFFFFFFFFFFFFFFF, 0x0, 0x0, 0xFFFFFFFFFFFFFFFF, 0x0, 0x0, 0xE4E4E4E4E4E4E4E4, false⟩,
  ⟨"SPK_BURST", 0x820, 0x0, 1, 0x0, 1, 0x0, 1, 0xFFFFFFFFFFFFFFFF, 0x0, 0x0, 0xFFFFFFFFFFFFFFFF, 0x0, 0x0, 0x11001100110011, false⟩,
  ⟨"SPK_DRAIN", 0x828, 0x0, 1, 0x0, 1, 0x0, 1, 0x0, 0x0, 0x0, 0x0, 0x0, 0x0, 0x0, false⟩,
  ⟨"SPK_CREDIT_SNAP", 0x850, 0x0, 1, 0x0, 1, 0x0, 1, 0x0, 0x0, 0x0, 0x0, 0x0, 0x0, 0x0, false⟩,
  ⟨"SPK_CONG_SNAP", 0x830, 0x8, 4, 0x0, 1, 0x0, 1, 0x0, 0x0, 0x0, 0x0, 0x0, 0x0, 0x0, false⟩,
  ⟨"SPK_BUF_SNAP", 0x858, 0x8, 8, 0x0, 1, 0x0, 1, 0x0, 0x0, 0x0, 0x0, 0x0, 0x0, 0x0, false⟩]

def spkRows : List RegRow := spkRows0

def optRows0 : List RegRow := [
  ⟨"SPK_CAD_DELAY", 0x0, 0x0, 1, 0x0, 1, 0x0, 1, 0x0, 0x0, 0x0, 0x0, 0x0, 0x0, 0x0, false⟩,
  ⟨"OPT_CTRL", 0x8, 0x0, 1, 0x0, 1, 0x0, 1, 0xFFE, 0x0, 0x0, 0xFFC, 0x0, 0x2, 0x76C, false⟩,
  ⟨"OPT_STATE", 0x10, 0x0, 1, 0x0, 1, 0x0, 1, 0x0, 0x0, 0x0, 0x0, 0x0, 0xF0000000000000, 0x0, false⟩,
  ⟨"OPT_LOOP", 0x18, 0x0, 1, 0x0, 1, 0x0, 1, 0xFFFFFFFFFF000000, 0x0, 0x0, 0xFFFFFFFFFF000000, 0x0, 0x0, 0x144040000000, false⟩,
  ⟨"OPT_THRESH", 0x20, 0x0, 1, 0x0, 1, 0x0, 1, 0xFFFFFFFFFF000000, 0x0, 0x0, 0xFFFFFFFFFF000000, 0x0, 0x0, 0xF191E3C08000000, false⟩,
  ⟨"OPT_FADE", 0x28, 0x0, 1, 0x0, 1, 0x0, 1, 0x0, 0x0, 0x0, 0x0, 0x0, 0x0, 0x0, false⟩,
  ⟨"OPT_ERR", 0x30, 0x0, 1, 0x0, 1, 0x0, 1, 0x0, 0x0, 0x0, 0x0, 0x0, 0x0, 0x0, false⟩,
  ⟨"OPT_CMD", 0x38, 0x0, 1, 0x0, 1, 0x0, 1, 0x0, 0x0, 0x0, 0x0, 0x0, 0x0, 0x0, false⟩,
  ⟨"LD_CAPS", 0x40, 0x0, 1, 0x0, 1, 0x0, 1, 0x0, 0x0, 0x0, 0x0, 0x0, 0x0, 0x0, false⟩,
  ⟨"LINK_VER", 0x48, 0x0, 1, 0x0, 1, 0x0, 1, 0x0, 0x0, 0x0, 0x0, 0x0, 0x0, 0x0, false⟩,
  ⟨"SPK_STEER_NEXT", 0x50, 0x0, 1, 0x0, 1, 0x0, 1, 0x0, 0x0, 0x0, 0x0, 0x0, 0x0, 0x0, false⟩,
  ⟨"SPK_STEER_ACT", 0x58, 0x0, 1, 0x0, 1, 0x0, 1, 0x0, 0x0, 0x0, 0x0, 0x0, 0x0, 0x0, false⟩]

def optRows1 : List RegRow := [
  ⟨"SPK_LANE_NEXT", 0x60, 0x0, 1, 0x0, 1, 0x0, 1, 0x0, 0x0, 0x0, 0x0, 0x0, 0x0, 0x0, false⟩,
  ⟨"SPK_LANE_ACT", 0x68, 0x0, 1, 0x0, 1, 0x0, 1, 0x0, 0x0, 0x0, 0x0, 0x0, 0x0, 0x0, false⟩,
  ⟨"SPK_STEER_STATUS", 0x70, 0x0, 1, 0x0, 1, 0x0, 1, 0x0, 0x0, 0x0, 0x0, 0x0, 0x0, 0x0, false⟩,
  ⟨"LANE_STATE", 0x100, 0x8, 9, 0x0, 1, 0x0, 1, 0x0, 0x0, 0x0, 0x0, 0x0, 0xF0F0000000000000, 0x0, false⟩,
  ⟨"RING_TX", 0x180, 0x8, 9, 0x0, 1, 0x0, 1, 0x0, 0x0, 0x0, 0x0, 0x0, 0x0, 0x0, false⟩,
  ⟨"RING_RX", 0x200, 0x8, 9, 0x0, 1, 0x0, 1, 0x0, 0x0, 0x0, 0x0, 0x0, 0x0, 0x0, false⟩,
  ⟨"LANE_FEC_SNAP", 0x280, 0x8, 9, 0x0, 1, 0x0, 1, 0x0, 0x0, 0x0, 0x0, 0x0, 0x0, 0x0, false⟩,
  ⟨"LOCKIN_SNAP", 0x300, 0x8, 9, 0x0, 1, 0x0, 1, 0x0, 0x0, 0x0, 0x0, 0x0, 0x0, 0x0, false⟩,
  ⟨"LANE_MARGIN_SNAP", 0x380, 0x8, 9, 0x0, 1, 0x0, 1, 0x0, 0x0, 0x0, 0x0, 0x0, 0x0, 0x0, false⟩]

def optRows : List RegRow := optRows0 ++ optRows1

def collRows0 : List RegRow := [
  ⟨"COLL_LAYOUT", 0x0, 0x0, 1, 0x0, 1, 0x0, 1, 0xFF, 0x0, 0x0, 0x0, 0x0, 0x0, 0x0, false⟩,
  ⟨"COLL_ERR", 0x8, 0x0, 1, 0x0, 1, 0x0, 1, 0x0, 0x0, 0x0, 0x0, 0x0, 0x0, 0x0, false⟩,
  ⟨"RC_CFG", 0x800, 0x100, 16, 0x0, 1, 0x0, 1, 0xFEFFF000FFFFFFFF, 0x0, 0x0, 0x0, 0x0, 0x0, 0x0, false⟩,
  ⟨"RC_SEG", 0x808, 0x100, 16, 0x0, 1, 0x0, 1, 0x7F00003FFF, 0x0, 0x0, 0x0, 0x0, 0x0, 0x0, false⟩,
  ⟨"RC_START", 0x810, 0x100, 16, 0x0, 1, 0x0, 1, 0x80FFFFFFFFFFFFFF, 0x0, 0x0, 0x0, 0x0, 0x0, 0x0, false⟩,
  ⟨"RC_DL", 0x818, 0x100, 16, 0x0, 1, 0x0, 1, 0xFFFFFFFFFFFF, 0x0, 0x0, 0x0, 0x0, 0x0, 0x0, false⟩,
  ⟨"RC_OUT", 0x820, 0x100, 16, 0x0, 1, 0x0, 1, 0xFFFBFF00FFFFFFFF, 0x0, 0x0, 0x0, 0x0, 0x0, 0x0, false⟩,
  ⟨"RC_OUT_ADDR", 0x828, 0x100, 16, 0x0, 1, 0x0, 1, 0xFFFFFFFFFFFF, 0x0, 0x0, 0x0, 0x0, 0x0, 0x0, false⟩,
  ⟨"RC_REC_ADDR", 0x830, 0x100, 16, 0x0, 1, 0x0, 1, 0xFFFFFFFFFFFF, 0x0, 0x0, 0x0, 0x0, 0x0, 0x0, false⟩,
  ⟨"RC_DONE", 0x838, 0x100, 16, 0x0, 1, 0x0, 1, 0xCFF8FFFFFF00FFFF, 0x0, 0x0, 0x0, 0x0, 0x80000000000001, 0x0, false⟩,
  ⟨"RC_EXP", 0x840, 0x100, 16, 0x0, 1, 0x0, 1, 0xFF070000000F, 0x0, 0x0, 0x0, 0x0, 0x0, 0x0, false⟩,
  ⟨"RC_ARR", 0x848, 0x100, 16, 0x0, 1, 0x0, 1, 0x8FFFFFFFFFFFFFFF, 0x0, 0x0, 0x0, 0x0, 0x0, 0x0, false⟩]

def collRows1 : List RegRow := [
  ⟨"RC_CARAVAN", 0x850, 0x100, 16, 0x0, 1, 0x0, 1, 0xFFF0FFFFFFFFFFFF, 0x0, 0x0, 0x0, 0x0, 0x0, 0x0, false⟩,
  ⟨"RC_STATUS", 0x858, 0x100, 16, 0x0, 1, 0x0, 1, 0x0, 0x0, 0x0, 0x0, 0x0, 0x0, 0x0, false⟩,
  ⟨"RC_RESULT", 0x860, 0x100, 16, 0x0, 1, 0x0, 1, 0x0, 0x0, 0x0, 0x0, 0x0, 0x0, 0x0, false⟩,
  ⟨"RC_ERR", 0x868, 0x100, 16, 0x0, 1, 0x0, 1, 0x0, 0x0, 0x0, 0x0, 0x0, 0x0, 0x0, false⟩,
  ⟨"RC_IN", 0x880, 0x100, 16, 0x8, 16, 0x0, 1, 0x80000000FFFFFFFF, 0x0, 0x0, 0x0, 0x0, 0x0, 0x0, false⟩,
  ⟨"EXPT", 0x20000, 0x2000, 16, 0x1000, 2, 0x8, 512, 0xFFFFFFFFFFFFFFFF, 0x0, 0x0, 0x0, 0x0, 0x0, 0x0, false⟩]

def collRows : List RegRow := collRows0 ++ collRows1

def reRows0 : List RegRow := [
  ⟨"RE_CTRL", 0x0, 0x0, 1, 0x0, 1, 0x0, 1, 0x0, 0x0, 0x0, 0x0, 0x0, 0x0, 0x0, false⟩,
  ⟨"RE_STATUS", 0x8, 0x0, 1, 0x0, 1, 0x0, 1, 0x0, 0x0, 0x0, 0x0, 0x0, 0x0, 0x0, false⟩,
  ⟨"RE_EPS", 0x10, 0x0, 1, 0x0, 1, 0x0, 1, 0xFFFFFFFF, 0x0, 0x0, 0xFFFFFFFF, 0x0, 0x0, 0x0, false⟩,
  ⟨"RE_TOL", 0x18, 0x0, 1, 0x0, 1, 0x0, 1, 0x1F, 0x0, 0x0, 0x0, 0x0, 0xA, 0x0, false⟩,
  ⟨"RE_ERR", 0x20, 0x0, 1, 0x0, 1, 0x0, 1, 0x0, 0x0, 0x0, 0x0, 0x0, 0x0, 0x0, false⟩,
  ⟨"RE_TEST_FIRST", 0x28, 0x0, 1, 0x0, 1, 0x0, 1, 0x0, 0x0, 0x0, 0x0, 0x0, 0xFFFF, 0x0, false⟩,
  ⟨"RE_IN", 0x100, 0x40, 16, 0x0, 1, 0x0, 1, 0xFFFFFFFFFFFF, 0x0, 0x0, 0x0, 0x0, 0x0, 0x0, false⟩,
  ⟨"RE_OUT", 0x108, 0x40, 16, 0x0, 1, 0x0, 1, 0xFFFFFFFFFFFF, 0x0, 0x0, 0x0, 0x0, 0x0, 0x0, false⟩,
  ⟨"RE_GRAD", 0x110, 0x40, 16, 0x0, 1, 0x0, 1, 0xFFFFFFFFFFFF, 0x0, 0x0, 0x0, 0x0, 0x0, 0x0, false⟩,
  ⟨"RE_PARAM", 0x118, 0x40, 16, 0x0, 1, 0x0, 1, 0xFFFFFFFFFFFF, 0x0, 0x0, 0x0, 0x0, 0x0, 0x0, false⟩,
  ⟨"RE_SHAPE", 0x120, 0x40, 16, 0x0, 1, 0x0, 1, 0xFFC1FFFFFFFFFFFF, 0x0, 0x0, 0x0, 0x0, 0xA80000000000000, 0x0, false⟩,
  ⟨"RE_DONE", 0x128, 0x40, 16, 0x0, 1, 0x0, 1, 0x9F1F, 0x0, 0x0, 0x0, 0x0, 0x0, 0x0, false⟩]

def reRows : List RegRow := reRows0

def mgmtRows0 : List RegRow := [
  ⟨"MGMT_STATUS", 0x0, 0x0, 1, 0x0, 1, 0x0, 1, 0x0, 0x0, 0x0, 0x0, 0x0, 0x0, 0x0, false⟩,
  ⟨"MGMT_ERR", 0x8, 0x0, 1, 0x0, 1, 0x0, 1, 0x0, 0x0, 0x0, 0x0, 0x0, 0x0, 0x0, false⟩,
  ⟨"MGMT_PROXY", 0x10, 0x0, 1, 0x0, 1, 0x0, 1, 0xFFFFFFFF, 0x0, 0x0, 0xFFFFFFFF, 0x0, 0x0, 0xC350, false⟩,
  ⟨"TELEMETRY", 0x4000, 0x800, 2, 0x8, 256, 0x0, 1, 0x0, 0x0, 0x0, 0x0, 0x0, 0x0, 0x0, false⟩,
  ⟨"PWR_CTRL", 0x800, 0x0, 1, 0x0, 1, 0x0, 1, 0x0, 0x0, 0x0, 0x0, 0x0, 0x0, 0x0, false⟩,
  ⟨"PWR_STATUS", 0x808, 0x0, 1, 0x0, 1, 0x0, 1, 0x0, 0x0, 0x0, 0x0, 0x0, 0x0, 0x0, false⟩,
  ⟨"PWR_ENV", 0x810, 0x0, 1, 0x0, 1, 0x0, 1, 0x0, 0x0, 0x0, 0xFFFF0000FFFF, 0x0, 0x0, 0x7D000000000, false⟩,
  ⟨"PWR_THR_NEXT", 0x818, 0x0, 1, 0x0, 1, 0x0, 1, 0x0, 0x0, 0x0, 0x0, 0x0, 0x0, 0x0, false⟩,
  ⟨"PWR_THR_ACT", 0x820, 0x0, 1, 0x0, 1, 0x0, 1, 0x0, 0x0, 0x0, 0x0, 0x0, 0x0, 0x0, false⟩,
  ⟨"HU_STATUS", 0x828, 0x0, 1, 0x0, 1, 0x0, 1, 0x0, 0x0, 0x0, 0x0, 0x0, 0x0, 0x0, false⟩,
  ⟨"HU_MEAS", 0x830, 0x0, 1, 0x0, 1, 0x0, 1, 0x0, 0x0, 0x0, 0x0, 0xFFFFFFFFFFFFFFFF, 0x0, 0x0, false⟩,
  ⟨"PWR_STAT", 0x838, 0x0, 1, 0x0, 1, 0x0, 1, 0x0, 0x0, 0x0, 0x0, 0x0, 0x0, 0x0, false⟩]

def mgmtRows1 : List RegRow := [
  ⟨"RST_CTRL", 0x840, 0x0, 1, 0x0, 1, 0x0, 1, 0x0, 0x0, 0x0, 0x0, 0x0, 0x0, 0x0, false⟩,
  ⟨"RST_STATUS", 0x848, 0x0, 1, 0x0, 1, 0x0, 1, 0x0, 0x0, 0x0, 0x0, 0xFFFFFFFFFFFFFF, 0x0, 0x0, false⟩,
  ⟨"JOIN_CTRL", 0x850, 0x0, 1, 0x0, 1, 0x0, 1, 0x0, 0x0, 0x0, 0x0, 0x0, 0x0, 0x0, false⟩,
  ⟨"BOOT_STATUS", 0x858, 0x0, 1, 0x0, 1, 0x0, 1, 0x0, 0x0, 0x0, 0x0, 0xFFFFFFFFFFFF000F, 0x0, 0x0, false⟩,
  ⟨"LEDGER_STATUS", 0x860, 0x0, 1, 0x0, 1, 0x0, 1, 0x0, 0x0, 0x0, 0x0, 0xFFFFFFFFFF000000, 0x0, 0x0, false⟩,
  ⟨"FL_CTRL", 0x868, 0x0, 1, 0x0, 1, 0x0, 1, 0x0, 0x0, 0x0, 0x0, 0x0, 0x0, 0x0, false⟩,
  ⟨"FL_STATUS", 0x870, 0x0, 1, 0x0, 1, 0x0, 1, 0x0, 0x0, 0x0, 0x0, 0x0, 0x400000000000000, 0x0, false⟩,
  ⟨"FL_ADDR", 0x878, 0x0, 1, 0x0, 1, 0x0, 1, 0x7FFFFFF, 0x0, 0x0, 0x0, 0x0, 0x0, 0x0, false⟩,
  ⟨"FL_DATA", 0x880, 0x0, 1, 0x0, 1, 0x0, 1, 0x0, 0x0, 0x0, 0x0, 0x0, 0x0, 0x0, false⟩,
  ⟨"ID_CTRL", 0x888, 0x0, 1, 0x0, 1, 0x0, 1, 0x0, 0x0, 0x0, 0x0, 0x0, 0x0, 0x0, false⟩,
  ⟨"ID_STATUS", 0x890, 0x0, 1, 0x0, 1, 0x0, 1, 0x0, 0x0, 0x0, 0x0, 0x0, 0x0, 0x0, false⟩,
  ⟨"ID_NONCE", 0x898, 0x8, 4, 0x0, 1, 0x0, 1, 0xFFFFFFFFFFFFFFFF, 0x0, 0x0, 0x0, 0x0, 0x0, 0x0, false⟩]

def mgmtRows2 : List RegRow := [
  ⟨"ID_PTR", 0x8B8, 0x0, 1, 0x0, 1, 0x0, 1, 0xC00000000000FFFF, 0x0, 0x0, 0x0, 0x0, 0x0, 0x0, false⟩,
  ⟨"ID_DATA", 0x8C0, 0x0, 1, 0x0, 1, 0x0, 1, 0xFFFFFFFFFFFFFFFF, 0x0, 0x0, 0x0, 0x0, 0x0, 0x0, false⟩,
  ⟨"PWR_TEMP", 0x8C8, 0x0, 1, 0x0, 1, 0x0, 1, 0x0, 0x0, 0x0, 0x0, 0x0, 0x0, 0x0, false⟩,
  ⟨"PWR_TEMP_CFG", 0x8D0, 0x0, 1, 0x0, 1, 0x0, 1, 0xFFFFFF, 0x0, 0x0, 0xFFFFFF, 0x0, 0x0, 0x3695F, false⟩]

def mgmtRows : List RegRow := mgmtRows0 ++ mgmtRows1 ++ mgmtRows2

def colokRows0 : List RegRow := [
  ⟨"COLOK_CTRL", 0x800, 0x0, 1, 0x0, 1, 0x0, 1, 0x0, 0x0, 0x0, 0x0, 0x0, 0x0, 0x0, false⟩,
  ⟨"COLOK_STATE", 0x808, 0x0, 1, 0x0, 1, 0x0, 1, 0x0, 0x0, 0x0, 0x0, 0x0, 0x0, 0x0, false⟩,
  ⟨"COLOK_SEQ", 0x810, 0x0, 1, 0x0, 1, 0x0, 1, 0x0, 0x0, 0x0, 0x0, 0x0, 0x0, 0x0, false⟩,
  ⟨"COLOK_MBOX", 0x818, 0x0, 1, 0x0, 1, 0x0, 1, 0x0, 0x0, 0x0, 0x0, 0x0, 0x0, 0x0, false⟩,
  ⟨"COLOK_STAT", 0x820, 0x0, 1, 0x0, 1, 0x0, 1, 0x0, 0x0, 0x0, 0x0, 0x0, 0x0, 0x0, false⟩,
  ⟨"COLOK_STAT2", 0x828, 0x0, 1, 0x0, 1, 0x0, 1, 0x0, 0x0, 0x0, 0x0, 0x0, 0x0, 0x0, false⟩,
  ⟨"DW_ADDR", 0xC00, 0x40, 4, 0x0, 1, 0x0, 1, 0xFFFFFFFFFFFF, 0x0, 0x0, 0x0, 0x0, 0x0, 0x0, false⟩,
  ⟨"DW_CTRL", 0xC08, 0x40, 4, 0x0, 1, 0x0, 1, 0xFFFF, 0x0, 0x0, 0x0, 0x0, 0x8, 0x0, false⟩,
  ⟨"DW_DATA", 0xC10, 0x40, 4, 0x0, 1, 0x0, 1, 0xFFFFFFFFFFFFFFFF, 0x0, 0x0, 0x0, 0x0, 0x0, 0x0, false⟩,
  ⟨"DW_COUNT", 0xC18, 0x40, 4, 0x0, 1, 0x0, 1, 0x0, 0x0, 0x0, 0x0, 0x0, 0x0, 0x0, false⟩]

def colokRows : List RegRow := colokRows0

def sbRows0 : List RegRow := [
  ⟨"SB_DEVID", 0x0, 0x0, 1, 0x0, 1, 0x0, 1, 0x0, 0x0, 0x0, 0x0, 0x0, 0x9A, 0x0, false⟩,
  ⟨"SB_VER", 0x1, 0x0, 1, 0x0, 1, 0x0, 1, 0x0, 0x0, 0x0, 0x0, 0x0, 0x10, 0x0, false⟩,
  ⟨"SB_GRADE", 0x2, 0x1, 8, 0x0, 1, 0x0, 1, 0x0, 0x0, 0x0, 0x0, 0x0, 0x0, 0x0, false⟩,
  ⟨"SB_STATE", 0xA, 0x0, 1, 0x0, 1, 0x0, 1, 0x0, 0x0, 0x0, 0x0, 0x0, 0x3, 0x0, false⟩,
  ⟨"ALERT_CAUSE", 0xB, 0x0, 1, 0x0, 1, 0x0, 1, 0x0, 0x0, 0x3F, 0x0, 0x0, 0x0, 0x0, false⟩,
  ⟨"ALERT_MASK", 0xC, 0x0, 1, 0x0, 1, 0x0, 1, 0x3F, 0x0, 0x0, 0x0, 0x0, 0x3F, 0x0, false⟩,
  ⟨"SB_POWER", 0xD, 0x0, 1, 0x0, 1, 0x0, 1, 0x0, 0x0, 0x0, 0x0, 0x0, 0x0, 0x0, false⟩,
  ⟨"SB_VIN", 0xF, 0x0, 1, 0x0, 1, 0x0, 1, 0x0, 0x0, 0x0, 0x0, 0x0, 0x0, 0x0, false⟩,
  ⟨"SB_HOLDUP", 0x11, 0x0, 1, 0x0, 1, 0x0, 1, 0x0, 0x0, 0x0, 0x0, 0x0, 0x0, 0x0, false⟩,
  ⟨"SB_TEMP", 0x12, 0x0, 1, 0x0, 1, 0x0, 1, 0x0, 0x0, 0x0, 0x0, 0x0, 0x0, 0x0, false⟩,
  ⟨"SB_ATTN", 0x13, 0x0, 1, 0x0, 1, 0x0, 1, 0x0, 0x0, 0x0, 0x0, 0x0, 0x0, 0x0, false⟩,
  ⟨"SB_CTRL", 0x14, 0x0, 1, 0x0, 1, 0x0, 1, 0x0, 0x0, 0x0, 0x0, 0x0, 0x0, 0x0, false⟩]

def sbRows1 : List RegRow := [
  ⟨"SB_SERIAL", 0x18, 0x1, 8, 0x0, 1, 0x0, 1, 0x0, 0x0, 0x0, 0x0, 0x0, 0x0, 0x0, false⟩]

def sbRows : List RegRow := sbRows0 ++ sbRows1


end Sys2Proof.Machine
end

