-- ==== Sys2Proof/Config.lean ====
section
/-! DEFINITION. What an implementation fixes and the spec leaves open: the free values. No constant here has a body, so
no proof can see a value. -/
namespace Sys2Proof.Config

/-- A value the spec leaves open, drawn fresh each time: applied to `State.freeCtr`. -/
opaque freeWord : Nat → BitVec 64

/-- What a byte of a memory reads as once its contents have been lost (power loss, R444), by loss and address. -/
opaque undefByte : Nat → Nat → BitVec 8

/-- What a byte that a rolled-back step wrote reads as (R196), by draw and address. -/
opaque rolledByte : Nat → Nat → BitVec 8

/-- What a register whose contents a reset leaves undefined reads as, by reset and address (R272, R292). -/
opaque undefReg : Nat → Nat → BitVec 64

/-- SHAKE256 with a 64-byte output (R447, R450, R454, R458): the spec names the function and does not define it. -/
opaque shake256 : List (BitVec 8) → Nat → BitVec 8

/-- SLH-DSA-SHAKE-256s signature byte `i` of a message by the module's key (R457, R458). -/
opaque slhSign : List (BitVec 8) → Nat → BitVec 8

/-- SLH-DSA-SHAKE-256s verification: key, message, signature (R450, R460). -/
opaque slhVerify : List (BitVec 8) → List (BitVec 8) → List (BitVec 8) → Bool

/-- Plovjan's public key in ROM (R452: KEY_ID 0). -/
opaque plovjanKey : List (BitVec 8)

/-- The module's device certificate, byte `i` (R457), and its length in bytes (at most 40 KiB). -/
opaque certByte : Nat → BitVec 8
opaque certLen : Nat

/-- The value the settings section of an image gives the image fields of a register (R447): section, GRADE_CODE, which the settings that
depend on the grade are keyed on (R9), address. The spec does not give the section's format. -/
opaque imageSetting : List (BitVec 8) → Nat → Nat → BitVec 64

/-- Whether the settings section of an image gives the register a value at all. -/
opaque imageHas : List (BitVec 8) → Nat → Nat → Bool

/-- The FP32 or pair value the 16-bit immediate broadcasts to at VFMT 0 and 2 (R89): VFMT, immediate. -/
opaque immBroadcast : Nat → Nat → BitVec 64

/-- The result of a vector operation on operands for which the spec states none (a NaN in MAX, MIN, ABS or NEG, zeros of
opposite sign, the logarithm of zero, an operation at a VFMT it does not have): VOP, VFMT, operands. -/
opaque vecOpen : Nat → Nat → Nat → Nat → BitVec 64

/-- Which of the results within 2 units in the last place an approximating operation gives (R155): VOP, VFMT, operand. -/
opaque ulpOffset : Nat → Nat → Nat → Nat

/-- The lane CMP_GT writes for a true and a false comparison (R89 names the operation only): result, VFMT. -/
opaque cmpCode : Bool → Nat → BitVec 64

/-- The pair PAIR_ADD or PAIR_MUL gives within its bound (R151): VOP and the two operands. -/
opaque pairPick : Nat → Nat → Nat → BitVec 64

/-- Whether a read of a scale slot during an AUTO recompute returns its new value (R149): draw, slot. -/
opaque autoSeen : Nat → Nat → Bool

/-- sign(x) of sign-momentum for an x that is no number (R220 names −1, 0 and +1 only): the FP32 bits. -/
opaque signOfNan : Nat → BitVec 32

/-- Whether a NodeID that is neither this module nor a neighbour names a member of an axis stage (R316: check 6 does not say how
the module tells): axis, stage, NodeID. -/
opaque namesMember : Nat → Nat → Nat → Bool

/-- Soft repairs a bank of a stack can take (R245 names the resource and gives no number). -/
opaque repairRows : Nat

/-- The next code of the spare comb's line heater (R383 names the loop and gives no rule for its step): code, lock-in sum. -/
opaque lineHeater : Nat → Int → BitVec 14

/-- The device behind a far-memory port (R257): capacity in units of 256 MiB, lanes, GT/s. -/
opaque farCap : Nat → Nat
opaque farWidth : Nat → Nat
opaque farSpeed : Nat → Nat

/-- What a read returns of a local element or accumulator row that a stream in progress writes (R111): draw, cycle, address. -/
opaque raceByte : Nat → Nat → Nat → BitVec 8

/-- The syndrome of CW_ECC (R109): non-zero, 10 bits, and otherwise not fixed. -/
opaque syndrome : Nat → Nat

/-- What the sideband target answers to GETBCR, GETDCR, GETMWL and GETMRL (R421 names the commands and gives no values). -/
opaque sbBcr : List (BitVec 8)
opaque sbDcr : List (BitVec 8)
opaque sbMwl : List (BitVec 8)
opaque sbMrl : List (BitVec 8)

end Sys2Proof.Config
end

