-- ==== Sys2Proof/Machine/State.lean ====
section
/-! DEFINITION. The state of the T9 as plain data: the register file, the memories, and the state of each block that no
register shows, and the machine right after a MODULE reset. -/
namespace Sys2Proof.Machine

/-! ## Cadence, faults and management (chapters 01, 02) -/

/-- The latest accepted beacon of a port (R55, R56): tick of arrival, offset of its time from the local count in
data-plane cycles, and its HOPS. -/
structure PortBeacon where
  port : Nat
  tick : Nat
  offset : Int
  hops : Nat
  deriving DecidableEq, Repr

/-- The cadence unit (R46 to R58). -/
structure Cadence where
  /-- the count of ticks (R46: it never wraps in service) -/
  count : Nat := 0
  /-- the count whose slot boundary, and whose epoch mark, has been taken (the model's own) -/
  slotTaken : Option Nat := none
  markTaken : Option Nat := none
  /-- EPOCH_NUMBER waiting for the next EPOCH pulse in UNSET (R51) -/
  loadPending : Option Nat := none
  /-- CADREF present, and the count from which it has been so without a gap (R56); a count from before a change of the count is carried over -/
  refPresent : Bool := true
  refSince : Int := 0
  beacons : List PortBeacon := []
  /-- offset still to be slewed, in cycles (R57) -/
  offset : Int := 0
  /-- ALIGNED was cleared on entry to FREE_RUN (R58) -/
  freeRan : Bool := false
  /-- ALIGNED was cleared by EPOCH pulses in REF (R56) -/
  badPulses : Bool := false
  /-- ALIGNED stays 0 until a MODULE reset (R56, R58) -/
  barred : Bool := false
  /-- consecutive EPOCH pulses in REF at counts that are not, and that are, multiples of 50,000 -/
  pulsesOff : Nat := 0
  pulsesOn : Nat := 0
  /-- the count at entry to FREE_RUN -/
  freeSince : Option Nat := none
  deriving DecidableEq, Repr

/-- A fault record as detected (R35), before RECORD_SEQ is given. -/
structure FaultRec where
  tag : Nat
  slow : Bool
  code : Nat
  time : Nat
  unit : Nat
  detail : Word
  deriving DecidableEq, Repr

/-- An event for the slow plane in MGMT_EVQ (R69): port up or down, unit state change, retrain request. -/
inductive Event where
  | portUp (port : Nat)
  | portDown (port : Nat)
  | unitState (unit : Nat)
  | retrain (port : Nat)
  deriving DecidableEq, Repr

/-- Management controllers and fault collector. -/
structure Mgmt where
  /-- the seven fault queues of R38: D0 to D3, the module queue, primary and secondary controller; oldest first -/
  fq : List (List FaultRec) := [[], [], [], [], [], [], []]
  /-- MGMT_EVQ of each die, oldest first (R69) -/
  evq : List (List Event) := [[], [], [], []]
  /-- heartbeats each controller has missed in a row (R25) -/
  missed0 : Nat := 0
  missed1 : Nat := 0
  /-- the controller that has missed two in a row, and the mark of the second: it is taken over at the next one -/
  lost : Option (Nat × Nat) := none
  /-- codes and units logged in this epoch, for the records written at most once per epoch -/
  logged : List (Nat × Nat) := []
  /-- a MANAGEMENT reset is in progress (R461) -/
  inReset : Bool := false
  deriving DecidableEq, Repr

/-! ## Colok ports and windows (chapter 11) -/

/-- A request a Colok port or the proxy has accepted and not completed (R403, R404, R409). -/
structure Request where
  op : Nat
  tag : Nat
  addr : Nat
  count : Nat
  words : List Word
  operand : Word
  seq : Nat
  /-- the target of a proxied request, and whether its answer is still awaited -/
  proxy : Option Nat
  started : Bool
  /-- tick at which a proxied request was sent -/
  sentAt : Nat
  /-- the link has been lost since, and the response is discarded (R401) -/
  mute : Bool
  /-- its header words, which a proxied request carries on (R409) -/
  w0 : Word
  w1 : Word
  w2 : Word
  deriving DecidableEq, Repr

/-- A Colok port (R397 to R405). -/
structure ColokPort where
  mbox : List Request := []
  holdoff : Bool := false
  /-- NAK has been sent for the frames discarded since the last good one (R400) -/
  nakSent : Bool := false
  /-- frames sent and not acknowledged, oldest first -/
  unacked : List Frame := []
  /-- tick at which ACK last advanced -/
  ackTick : Nat := 0
  /-- a frame was sent in this slot -/
  sentInSlot : Bool := false
  /-- frames formed and held back by the limit of 64 (R400) -/
  outq : List Frame := []
  /-- ACK has advanced in this slot -/
  ackMoved : Bool := false
  /-- CAPS received with a common major; CAPS sent; the versions were refused (R402) -/
  capsGot : Bool := false
  capsSent : Bool := false
  refused : Bool := false
  deriving DecidableEq, Repr

/-- The sideband target (R421). -/
structure Sideband where
  i3c : Bool := false
  dynAddr : Option Nat := none
  events : Bool := true
  resetAction : Nat := 0
  index : Nat := 0
  deriving DecidableEq, Repr

/-! ## Power, image, ledger and identity (chapter 12) -/

/-- Power and hold-up (R425 to R444). -/
structure Power where
  /-- the rails of the fast plane are on; those of the controllers and flash -/
  rails : Bool := true
  ctrlRails : Bool := true
  /-- VIN at its last change, 10 mV -/
  vin : Nat := 5400
  mated : Bool := true
  /-- the PEAK line (R426), and PEAK seen in this epoch -/
  peak : Bool := false
  peakSeen : Bool := false
  /-- input power of the last epochs, newest first, at most 16 (R428) -/
  watts : List Nat := []
  /-- LEVEL of R428, before the thermal floor -/
  level : Nat := 0
  /-- marks in a row with a die at or above DIE_CRIT while TF is 7 (R429) -/
  critMarks : Nat := 0
  /-- C_M measured since the POWER reset; a measurement runs; one is due -/
  measured : Bool := false
  measuring : Bool := false
  measureDue : Bool := true
  /-- MODRST_N holds a MODULE reset (R462) -/
  modrst : Bool := false
  /-- epochs a RETIRE has waited, and the step of R435 it has come to: 0 waits for the sequencer; 1 units drain; 2 the ledger
  commits; 3 drained -/
  retireWait : Nat := 0
  retireStep : Nat := 0
  /-- the causes of R433 that hold now, the latest first -/
  holds : List Nat := []
  /-- 12 V to the Spoke cages, P0 to P11 (R435, R359), then Colok A and B -/
  cage12V : BitVec 14 := BitVec.allOnes 14
  /-- records owed on the return to SERVICE after a MODULE reset: TRANSIT_DROP (R300), COMMIT_MISSED with reason 2 (R229) -/
  dropLog : Bool := false
  missLog : Bool := false
  deriving DecidableEq, Repr

/-- The body of a ledger record (R456). -/
inductive LedgerBody where
  | boot (active : Nat) (trial : Bool) (trialBank : Nat) (minSvn : Nat)
  | fieldRow (stack pc bank row : Nat)
  | mapOut (globalPc cause : Nat)
  | trainFail (globalPc boots : Nat)
  | owner (slot op : Nat) (key : List Byte)
  | policy (ownerOnly : Bool)
  | snapshotBegin (count : Nat)
  | snapshotEnd (count : Nat)
  deriving DecidableEq, Repr

/-- A committed record (R454): SEQ, the first 32 bytes of the digest of the record before, and the body. -/
structure LedgerRec where
  seq : Nat
  prev : List Byte
  body : LedgerBody
  deriving DecidableEq, Repr

/-- The ledger region (R22, R454 to R456): the records of the area in use, oldest first, in half 0, on the device of bank A, and in
half 1, on the device of bank B; the bodies waiting, and those of the commit in progress. -/
structure Ledger where
  half0 : List LedgerRec := []
  half1 : List LedgerRec := []
  pending : List LedgerBody := []
  inFlight : List LedgerBody := []
  /-- every commit since this one has been refused for HOLDUP_LOW (R433) -/
  refusing : Bool := false
  /-- the area in use, 0 or 1 -/
  area : Nat := 0
  deriving DecidableEq, Repr

/-- Image, flash and identity (R447 to R460). -/
structure Boot where
  /-- settings section of the image kept under R447; none: Plovjan's image -/
  settings : Option (List Byte) := none
  /-- firmware of the management controllers kept with them (R447); empty: Plovjan's image -/
  firmware : List Byte := []
  /-- digest of the booted image and of its ABI section (R458) -/
  imgDigest : List Byte := []
  abiDigest : List Byte := []
  /-- in the recovery service of R451 -/
  recovery : Bool := false
  /-- the BOOT record that clears TRIAL waits for its commit before TRAIN (R452) -/
  trialPending : Bool := false
  /-- the flash operation in progress: OP and BANK (R453) -/
  flashOp : Option (Nat × Nat) := none
  /-- the bank FL_DATA programs in the recovery service: the one FL_CTRL named last (R451, R453) -/
  flBank : Nat := 0
  /-- bytes in the program buffer (FL_STATUS.FREE) -/
  held : Nat := 0
  /-- the identity operation in progress (R458, R460) -/
  idOp : Option Nat := none
  report : List Byte := []
  reportNext : List Byte := []
  /-- words of the blob input written (SEL 3), by word index -/
  blob : List (Nat × Word) := []
  deriving DecidableEq, Repr

/-- Fuses (R3, R4, R15): the grade, the enabled core sites, the serial number. -/
structure Fuses where
  s0 : Bool := false
  sites : BitVec 100 := 0x7fffffbfffffdfffffeffffff#100
  serial : Word := 0
  deriving DecidableEq, Repr

/-- A memory: the cells written and not equal to what an unlisted address reads as, in ascending order of address; `gen`
counts the losses of its contents, and `lost` names the stacks' parts of near memory lost since, each with a later number. -/
structure Mem where
  gen : Nat := 0
  lost : List (Nat × Nat) := []
  cells : List Host.Cell := []
  deriving DecidableEq, Repr

/-- What the module has put on its wires, oldest first: the outputs of the block. -/
inductive Egress where
  | frame (port : Nat) (f : Frame)
  /-- a packet on the link of a port, with the dateline class its framing names (R277) -/
  | packet (port cls : Nat) (p : Packet)
  /-- credits returned to the sender on a port: buffer (virtual channel × 2 + class) and beats (R284) -/
  | credit (port buf beats : Nat)
  | sideband (bytes : List Byte)
  | interrupt (cause : Nat)
  | lcw (port lane : Nat) (w : BitVec 128)
  | engine (port : Nat) (w : BitVec 32)
  deriving DecidableEq, Repr

/-! ## Cores (chapters 03 to 05) -/

/-- An element in a queue (R96): its tag and its 128 bytes. -/
structure QElem where
  tag : Nat
  bytes : List Byte
  deriving DecidableEq, Repr

/-- An element issued toward a queue (R93, R96): the cycle from which it is poppable. -/
structure Flight where
  due : Nat
  elem : QElem
  deriving DecidableEq, Repr

/-- A queue (R95, R96): the poppable elements, head first; those in flight, in push order; the two counts modulo 16. -/
structure Queue where
  ready : List QElem := []
  flight : List Flight := []
  pushTag : Nat := 0
  popTag : Nat := 0
  deriving DecidableEq, Repr

/-- A transpose port (R84): the rows of the square being filled, the square whose columns are pushed with its element
width, and how many columns have been pushed. -/
structure TBuf where
  fill : List (List Byte) := []
  full : List (List Byte) := []
  pushed : Nat := 0
  deriving DecidableEq, Repr

/-- An accumulator update of the tensor array on its way (R86, R93, R162): the row, the moving values with their reduction
base, and the stationary buffer they meet. -/
structure MacUpd where
  tile : Nat
  row : Nat
  init : Bool
  fa : Nat
  fb : Nat
  cpass : Nat
  base : Nat
  vals : List Nat
  stat : List (Nat × Nat)
  pc : Nat
  rep : Nat
  msat : Bool
  deriving DecidableEq, Repr

/-- An operation issued and not yet complete (R93). -/
inductive PendOp where
  | mac (u : MacUpd)
  /-- a vector write of an accumulator row -/
  | vec (tile row : Nat) (bytes : List Byte)
  | vreg (r : Nat) (bytes : List Byte)
  | store (elem : Nat) (bytes : List Byte)
  /-- a capture into a history set: working bank, index and FP32 magnitude of each value (R147) -/
  | cap (h bank : Nat) (vals : List (Nat × Nat))
  deriving DecidableEq, Repr

structure Pend where
  due : Nat
  rank : Nat
  op : PendOp
  deriving DecidableEq, Repr

/-- An element held by the tensor array (R87): its bytes, the formats of the word that popped it, the cycles spent. -/
structure Held where
  bytes : List Byte
  fa : Nat
  fb : Nat
  done : Nat
  deriving DecidableEq, Repr

/-- A value read by the conversion unit: a format code and the raw code. -/
structure Holder where
  fmt : Nat
  next : Nat
  vals : List Nat
  deriving DecidableEq, Repr

/-- A packer (R138): the format of its content and the codes. -/
structure Packer where
  fmt : Nat := 0
  codes : List Nat := []
  deriving DecidableEq, Repr

/-- A stream in progress (R110): descriptor, completion counter, kind, and its local elements or accumulator rows: the first, rows,
their length and stride. -/
structure StreamRun where
  desc : Nat
  sc : Nat
  kind : Nat
  first : Nat
  rows : Nat
  len : Nat
  stride : Nat
  deriving DecidableEq, Repr

/-- A core (R75, R107). STATE: 0 STOPPED; 1 RUNNING; 2 WAITING; 3 FROZEN; 4 HALTED. -/
structure Core where
  state : Nat := 0
  pc : Nat := 0
  rep : Nat := 0
  /-- the state a core with operations still to complete is going to (R99, R107) -/
  stopping : Option Nat := none
  /-- cycles since entry to RUNNING, as the core's own issues count them -/
  cyc : Nat := 0
  body : List (Option Nat) := [none, none, none, none, none, none]
  cnt : List Nat := [0, 0, 0, 0, 0, 0]
  trip : List Nat := [0, 0, 0, 0, 0, 0]
  agSet : List Nat := [0, 0, 0, 0, 0, 0]
  agIdx : List (List Nat) := List.replicate 6 [0, 0, 0, 0, 0, 0]
  tbuf : List TBuf := [{}, {}, {}, {}]
  queues : List Queue := List.replicate 16 {}
  /-- stationary buffers: row × 128 + column to raw code; a code not listed is zero -/
  active : List (Nat × Nat) := []
  shadow : List (Nat × Nat) := []
  /-- shadow row pointer in half rows (R128) -/
  shPtr : Nat := 0
  rowPtr : List Nat := List.replicate 32 0
  half : List Bool := List.replicate 32 false
  held : Option Held := none
  vPtr : Nat := 0
  /-- V0 to V7, 512 bytes each -/
  vregs : List (List Byte) := List.replicate 8 (List.replicate 512 0)
  holder : Option Holder := none
  packers : List Packer := [{}, {}]
  /-- values of block fixed-point converted since BLOCK last advanced (R319) -/
  bfpCnt : Nat := 0
  pend : List Pend := []
  squeue : List Nat := []
  srun : List StreamRun := []
  /-- a LOCAL signal's change that a WAIT tested in the given cycle does not see yet: counter, amount, cycle (R93, R106) -/
  lateSig : Option (Nat × Int × Nat) := none
  /-- scale slots an AUTO recompute is writing: entry × 128 + slot, and their bank (R149) -/
  autoNew : List (Nat × Nat) := []
  autoBank : Nat := 0
  /-- counter, target, tick and cycle of the wait in progress (R104, R105) -/
  waitCtr : Nat := 0
  waitTgt : Nat := 0
  waitTick : Nat := 0
  /-- H of R427 -/
  since : Nat := 0
  /-- bundles issued and cycles waited in this epoch (CORE_PERF_SNAP) -/
  issued : Nat := 0
  waited : Nat := 0
  deriving DecidableEq, Repr


/-! ## Fabric (chapter 08) -/

/-- A packet in an input buffer, or formed by a local source (sources 12 to 15: dies D0 to D3), from its first beat until its last copy has
left (R284, R291, R295): the copies still to be sent, as port and dateline class, and whether one is still to be accepted by a unit of this
module (R276, R285). -/
structure Transit where
  src : Nat
  cls : Nat
  tick : Nat
  pkt : Packet
  outs : List (Nat × Nat)
  loc : Bool
  deriving DecidableEq, Repr

/-- A packet sent whose credits have not all returned (R295). -/
structure SentPkt where
  port : Nat
  buf : Nat
  tag : Nat
  beats : Nat
  deriving DecidableEq, Repr

structure Router where
  held : List Transit := []
  /-- proxied requests accepted and not yet run, oldest first (R409) -/
  mailbox : List Transit := []
  /-- credit in beats for each downstream buffer: port, then virtual channel × 2 + class (R284) -/
  credit : List (List Nat) := List.replicate 12 (List.replicate 8 34)
  out : List SentPkt := []
  /-- slot of the switch from which a RETIRING bank's life counts, per bank (R292) -/
  life : List Nat := [0, 0]
  /-- the bank has been the send epoch since its commit -/
  used : List Bool := [false, false]
  /-- round-robin pointer of each class of each output arbiter: port × 4 + class (R302) -/
  rr : List Nat := List.replicate 48 0
  /-- beats sent in this epoch: port × 4 + virtual channel (R307) -/
  beats : List Nat := List.replicate 48 0
  /-- fullest each port's buffers have been in this epoch, in beats: port × 8 + buffer -/
  peak : List Nat := List.replicate 96 0
  /-- outputs, as port × 4 + virtual channel, at which a requester has waited in this epoch: eligible and not granted, or for credit (R307) -/
  outbid : List Nat := []
  starved : List Nat := []
  deriving DecidableEq, Repr

/-! ## Near and far memory (chapter 07) -/

/-- A region of a map (R234): base address, MiB into and MiB of each pseudo-channel, and the channel list. -/
structure Region where
  idx : Nat
  base : Nat
  start : Nat
  span : Nat
  chans : List Nat
  deriving DecidableEq, Repr

/-- The map in force, and the one that comes into force at its slot (R237). -/
structure MapState where
  regions : List Region := []
  next : Option (Nat × List Region) := none
  deriving DecidableEq, Repr

/-- An entry of a stack's error log (R242): severity 1 CE, 2 UE. -/
structure EccEntry where
  sev : Nat
  pc : Nat
  bank : Nat
  row : Nat
  tick : Nat
  epoch : Nat
  deriving DecidableEq, Repr

/-- A memory controller and the monitor of its stack (R239 to R256). -/
structure MemCtl where
  /-- the log of this epoch, and the entries of the last WINDOW epochs -/
  log : List EccEntry := []
  recent : List EccEntry := []
  /-- rows waiting for a soft repair: pseudo-channel, bank, row -/
  want : List (Nat × Nat × Nat) := []
  /-- pseudo-channels waiting to be retired, with the cause of R266 -/
  retire : List (Nat × Nat) := []
  /-- MC_THR in force -/
  refx : Nat := 0
  stop : Bool := false
  throttle : Bool := false
  /-- the catastrophic temperature output -/
  trip : Bool := false
  /-- the stack has been trained since it last lost its contents, so it can enter self refresh (R255, R256) -/
  alive : Bool := true
  /-- consecutive readings at or below CRIT − HYST -/
  cool : Nat := 0
  /-- a soft repair is in progress: pseudo-channel and the slot it began -/
  repair : Option (Nat × Nat) := none
  /-- what the monitor reads at the next mark: rows repaired, as pseudo-channel, bank, row and tick (R244), and whether the controller has
  trained in this boot (R248) -/
  repaired : List (Nat × Nat × Nat × Nat) := []
  untold : Bool := false
  granules : Nat := 0
  /-- the slot of the last grant, the grants of that slot, and those of this epoch that the floor withheld (R250) -/
  grantSlot : Nat := 0
  grants : Nat := 0
  withheld : Nat := 0
  /-- trained since the last boot (R254) -/
  trained : Bool := false
  /-- self refresh was entered before the last reset acted, and exited without error (R256) -/
  kept : Bool := true
  deriving DecidableEq, Repr

/-! ## Collectives (chapter 09) -/

/-- An input of a round (R325 to R327). -/
structure RedInput where
  bytes : Nat := 0
  got : Bool := false
  mask : Nat := 0
  included : Nat := 0
  poisonIn : Nat := 0
  lateIn : Nat := 0
  broken : Bool := false
  poison : Nat := 0
  csum : Nat := 0
  stamp : Nat := 0
  sat : Bool := false
  marked : Bool := false
  /-- parts of the LOCAL area written: offset and length -/
  spans : List (Nat × Nat) := []
  deriving DecidableEq, Repr

/-- A round in its half (R324 to R333). phase: 0 open; 1 closed; 2 SENDING. The local input is the last of `ins`. -/
structure Round where
  num : Nat
  phase : Nat := 0
  ins : List RedInput := []
  sat : Bool := false
  marked : Bool := false
  /-- CORR of R331, and EXPECT -/
  corr : Int := 0
  expect : Nat := 0
  word2 : Word := 0
  policy : Nat := 0
  last : Bool := false
  deriving DecidableEq, Repr

/-- A collective context (R312 to R317, R338 to R348). -/
structure Ctx where
  startSlot : Nat := 0
  /-- D_0, extended (R324); no deadline for a peloton with DL 0 -/
  d0 : Nat := 0
  deadline : Bool := false
  spec : Bool := false
  rounds : List Round := []
  /-- working maxima: bank × 4,096 + entry to magnitude (R322) -/
  wmax : List (Nat × Nat) := []
  /-- the global norm's s by step tag, as FP32 bits, and whether its result carried SAT (R336) -/
  norms : List (Nat × Nat × Bool) := []
  /-- a packet of the vote has come for the run (R198, R337) -/
  vote : Bool := false
  /-- peloton: this member has arrived for PGEN; positions the master has heard from and the tick of the last; arrived at the chained
  peloton -/
  arrived : Bool := false
  heard : Nat := 0
  heardAt : Nat := 0
  chained : Bool := false
  /-- Caravan: 0 waiting at the fence; 1 waiting for the fence's release; 2 in a phase; 3 waiting for the phase's release -/
  stage : Nat := 0
  recv : List Nat := List.replicate 16 0
  deriving DecidableEq, Repr

/-! ## The step (chapter 06) -/

structure Seq where
  /-- start slot of the head step, and of the pending step -/
  start : Nat := 0
  pendStart : Nat := 0
  /-- tags discarded since the last entry to ROLLBACK (R216) -/
  discarded : List Nat := []
  /-- slot of the entry to ROLLBACK -/
  rbSlot : Nat := 0
  /-- the verdict result held for a step: tag and ACCEPT (R211) -/
  held : Option (Nat × Bool) := none
  /-- s has been delivered for the head step (R208) -/
  normIn : Bool := false
  /-- cause bits of the pending step's vote, for VERDICT_REJECT (R229) -/
  pendCause : Nat := 0
  /-- a late verdict or accepted mark acts at the next slot boundary: the decision, reason 3 or 4, and the tick it came (R63, R213) -/
  late : Option (Bool × Nat × Nat) := none
  /-- the commit slot of a step that was pending when a reset took its plan (R229) -/
  pendCommit : Option Nat := none
  /-- what steps not yet decided have written outside the version window: tag, address and bytes (R196) -/
  wrote : List (Nat × Nat × Nat) := []
  /-- slot at whose boundary a COMMIT leaves for APPLY or IDLE -/
  commitSlot : Nat := 0
  deriving DecidableEq, Repr

/-- An update unit (R218 to R221): the journal of group g of job k as address and bytes of each write, and the scalar record
of the job it runs. -/
structure Upd where
  journal : Option (Nat × Nat × List (Nat × List Byte)) := none
  scal : List Nat := []
  /-- the cursor stands past job 31, which UPD_CURSOR.JOB has no code for (R221) -/
  past : Bool := false
  deriving DecidableEq, Repr

/-- A row engine (R180 to R183): the starts queued, oldest first; the job in progress has done its work; it ends without a
signal. -/
structure RowEng where
  queue : List Nat := []
  /-- tag of the step the job in progress was started in (R198) -/
  step : Option Nat := none
  ran : Bool := false
  quiet : Bool := false
  deriving DecidableEq, Repr

/-! ## Optical ports (chapter 10) -/

/-- A report of the back-channel waiting to be sent (R367): kind, lane, value, slots still to carry it. -/
structure Report where
  kind : Nat
  lane : Nat
  value : Nat
  left : Nat
  deriving DecidableEq, Repr

/-- A ring being swept (R372, R374): its number (0 to 8 modulator, 9 to 17 drop), whether after the correction of the Mirage
and in which direction (1 down, 2 up), or held while the far end looks among its own rings (3), the code before, epochs spent, and the
lane ID decoded (0xF none). -/
structure Sweep where
  ring : Nat
  mirage : Nat
  before : Nat
  epochs : Nat
  id : Nat
  deriving DecidableEq, Repr

/-- The laser swap (R384, R385). stage: 0 lane 8 to be verified; 1 TAKE sent for lane; 2 lane to be verified; 3 RETURN sent for lane;
4 a move without copies. -/
structure LaserSwap where
  stage : Nat
  lane : Nat
  epochs : Nat
  hitless : Bool
  deriving DecidableEq, Repr

/-- What a lane shows in the present slot and over the last ones (R366, R373, R378). -/
structure LaneRun where
  /-- an LCW has arrived in this slot; a valid one has; its LANE_ID differs from the lane -/
  came : Bool := false
  seen : Bool := false
  wrong : Bool := false
  /-- consecutive slots with a mismatch -/
  bad : Nat := 0
  corr : Nat := 0
  uncorr : Nat := 0
  /-- slot of the last FEC or LANE_FAIL report for the transmit lane (R384) -/
  complaint : Option Nat := none
  /-- references of R372 and R382: received power, off-resonance level of the modulator ring, far-end margin -/
  refPower : Nat := 0
  offLevel : Nat := 0
  refFar : Int := 0
  /-- the far end's latest MARGIN report for the transmit lane, 0.1 dB (R367) -/
  far : Int := 0
  /-- epochs in a row with the light lost, near the off-resonance level, without a MON sample, with MARGIN at MARGIN_DB -/
  dark : Nat := 0
  flat : Nat := 0
  quiet : Nat := 0
  margin : Nat := 0
  /-- the lock-in sum of the modulator ring, the sum of its samples and their number, in this epoch (R370) -/
  lockin : Int := 0
  level : Nat := 0
  samples : Nat := 0
  deriving DecidableEq, Repr

/-- A Spoke or Colok port's lane electronics, lock loops and engine as the module drives it (R358 to R391). -/
structure Optic where
  present : Bool := true
  /-- 12 V went off for over-current and stays off until the engine is removed and a new ENABLE is written (R359); it has been removed -/
  tripped : Bool := false
  cleared : Bool := false
  /-- resolutions in force, taken from OPT_CTRL as training starts (R368) -/
  dac : Nat := 6
  adc : Nat := 7
  /-- lanes the port sends on, and those it receives on, since training (R366, R387) -/
  txMap : Nat := 0
  rxMap : Nat := 0
  phaseEpochs : Nat := 0
  trainEpochs : Nat := 0
  lanes : List LaneRun := List.replicate 9 {}
  /-- slots in a row without a valid LCW (R299), a beacon taken in this slot, lane rules have failed the link (R378) -/
  missSlots : Nat := 0
  beaconTaken : Bool := false
  /-- the beacon of this slot from the lowest lane so far: lane, tick and cycle of arrival, body (R366) -/
  beaconWait : Option (Nat × Nat × Nat × Word) := none
  linkFailed : Bool := false
  /-- the comb each lane's selector feeds, and the lasers switched on: bit 0 primary, bit 1 spare -/
  source : Nat := 0
  lasers : Nat := 0
  /-- heater codes in the engine's shadow, by ring, for the next APPLY (R362, R371) -/
  shadow : List (Nat × Nat) := []
  /-- sign of the dither and the window the samples now arriving belong to (R369, R370) -/
  dither : Nat := 0
  window : Nat := 0
  downSeq : Nat := 0
  /-- an UP frame has arrived in this epoch; epochs without one (R363) -/
  upSeen : Bool := false
  upMissed : Nat := 0
  alerts : Nat := 0
  regRead : Nat := 0
  /-- the spare reference ring: its lock-in sum and samples in this epoch, and the code of the spare's line heater (R383) -/
  refLockin : Int := 0
  refSamples : Nat := 0
  lineCode : Nat := 0
  /-- monitor of the lasers in this epoch: sum and number, primary and spare; the reference of the active one; drops of the
  last epochs, newest first (R382) -/
  laserSum : List Nat := [0, 0]
  laserNum : List Nat := [0, 0]
  laserRef : Nat := 0
  monDrops : List Int := []
  marDrops : List Int := []
  /-- the references are to be retaken at the next mark -/
  retake : Bool := false
  warmEpochs : Nat := 0
  /-- stage 4 of LASER_FADE has been logged since FADE was last below WARM_DB -/
  noSpareLogged : Bool := false
  swap : Option LaserSwap := none
  sweeps : List Sweep := []
  reports : List Report := []
  /-- the steer marker's slot, its cause of LANE_SPARED, and whether the lane had failed (R376, R379) -/
  steerSlot : Nat := 0
  steerCause : Nat := 0
  steerLate : Bool := false
  /-- data lanes of this transmitter that have failed and wait for the spare: lane and cause (R379) -/
  failTx : List (Nat × Nat) := []
  /-- received direction: data lane read from lane 8 and whether for good; a change at a slot (R376); failed lanes -/
  rxUse : Option Nat := none
  rxPerm : Bool := false
  rxNext : Option (Nat × Nat × Nat) := none
  rxFail : Nat := 0
  /-- lanes with a mismatch of identity in this epoch, and lanes named by TX_MISMATCH reports, each with the ID decoded (R374) -/
  mism : List (Nat × Nat) := []
  txMism : List (Nat × Nat) := []
  /-- lanes whose modulator ring moves from dip to dip in training: epochs since the last dip (R375) -/
  dips : List (Nat × Nat) := []
  /-- OPT_CMD waiting for the next mark: action and lane -/
  cmd : Option (Nat × Nat) := none
  /-- cause a staged SPARE will show -/
  spareCause : Nat := 0
  /-- capability exchange (R388, R389): slot and tick of the last PING, its SEQ, an ECHO owed (SEQ and cycle of arrival),
  CAPS_DONE sent and received, the far end's identity word -/
  pingSlot : Nat := 0
  pingTick : Nat := 0
  pingSeq : Nat := 0
  echoOwed : Option (Nat × Nat) := none
  doneSent : Bool := false
  farDone : Bool := false
  farIdent : Option Word := none
  deriving DecidableEq, Repr



/-- The machine. -/
structure State where
  /-- registers whose value differs from their reset value, by address, ascending -/
  regs : List (Nat × Word) := []
  cad : Cadence := {}
  mgmt : Mgmt := {}
  colok : List ColokPort := [{}, {}]
  sb : Sideband := {}
  pwr : Power := {}
  led : Ledger := {}
  boot : Boot := {}
  fuse : Fuses := {}
  /-- slots at which the armed staged pairs act, by address of the ACT register (R71) -/
  staged : List (Nat × Nat) := []
  cores : List Core := List.replicate 100 {}
  rt : Router := {}
  map : MapState := {}
  mc : List MemCtl := List.replicate 16 {}
  ctx : List Ctx := List.replicate 16 {}
  seq : Seq := {}
  upd : List Upd := List.replicate 16 {}
  re : List RowEng := List.replicate 4 {}
  opt : List Optic := List.replicate 14 {}
  /-- tick at which each unit now DRAINING entered it, by entry of UNIT_STATE (R463) -/
  drains : List (Nat × Nat) := []
  /-- near memory: pseudo-channel × 768 MiB + offset (R232); far memory, by port; staging memory: die × 8 MiB
  + offset; row-engine side memory: die × 2 MiB + offset; core windows: site × 16 MiB + offset; flash banks A and B -/
  near : Mem := {}
  far : List Mem := [{}, {}]
  stage : Mem := {}
  side : Mem := {}
  core : Mem := {}
  flashA : Mem := {}
  flashB : Mem := {}
  /-- how many free values have been drawn (the model's own) -/
  freeCtr : Nat := 0
  /-- how many resets have left tables undefined (the model's own) -/
  undefGen : Nat := 0
  sent : List Egress := []
  /-- commands waiting, first in, first out (the model's own) -/
  pending : List Instr := []
  deriving DecidableEq, Repr

/-- The machine right after a MODULE reset (R15, R413: MODULE_STATE reads TRAIN), every register at its Reset column. -/
def State.reset : State := {}

/-- Why the machine stops: no command stops it, so there is no reason (log entry 75). -/
inductive Fault where
  deriving DecidableEq, Repr

/-- Why a command has no meaning. -/
inductive Refusal where
  /-- Raised by an arm of `exec` whose meaning is not written. Safe. -/
  | notModelled (mnemonic : String)
  deriving DecidableEq, Repr

end Sys2Proof.Machine
end

