-- ==== Sys2Proof/Machine/Ops.lean ====
section
/-! DEFINITION. The named operations over registers and memories, bit fields, unit identifiers, fault records, the
management event queue, staged pairs and free values. -/
namespace Sys2Proof.Machine

/-- The answer of every meaning. -/
abbrev Out := Host.Outcome State Fault Refusal

/-! ## Bit fields (R10) -/

/-- Bits hi:lo of a word. -/
def bits (w : Word) (hi lo : Nat) : Nat := w.toNat / 2 ^ lo % 2 ^ (hi + 1 - lo)

/-- The mask of bits hi:lo. -/
def maskBits (hi lo : Nat) : Word := BitVec.ofNat 64 ((2 ^ (hi + 1 - lo) - 1) * 2 ^ lo)

/-- A word with bits hi:lo replaced by the low bits of v. -/
def putBits (w : Word) (hi lo v : Nat) : Word :=
  (w &&& ~~~ maskBits hi lo) ||| BitVec.ofNat 64 (v % 2 ^ (hi + 1 - lo) * 2 ^ lo)

/-- A word built from fields, given as (hi, lo, value). -/
def mkWord (fs : List (Nat × Nat × Nat)) : Word := fs.foldl (fun w f => putBits w f.1 f.2.1 f.2.2) 0

def boolBit (b : Bool) : Nat := if b then 1 else 0

/-- Bit i of a number. -/
def bitAt (n i : Nat) : Bool := n.testBit i

/-- A number of w bits read as two's complement. -/
def signed (w n : Nat) : Int := if n % 2 ^ w < 2 ^ (w - 1) then (n % 2 ^ w : Nat) else (n % 2 ^ w : Nat) - (2 ^ w : Nat)

/-- The low w bits of an integer in two's complement. -/
def unsigned (w : Nat) (i : Int) : Nat := (i % (2 ^ w : Nat)).toNat

/-- The bytes of a number, least significant first (R12). -/
def bytesOf (n v : Nat) : List Byte := (List.range n).map fun i => BitVec.ofNat 8 (v / 2 ^ (8 * i))

/-- The number that bytes spell, least significant first (R12). -/
def ofBytes : List Byte → Nat
  | [] => 0
  | b :: bs => b.toNat + 256 * ofBytes bs

/-- Bytes of words, least significant first (R12). -/
def bytesOfWords (ws : List Word) : List Byte := ws.flatMap fun w => bytesOf 8 w.toNat

/-- Eight bytes to a word, with zero after the last (R12). -/
def wordAt (bs : List Byte) (i : Nat) : Word := BitVec.ofNat 64 (ofBytes ((bs.drop (8 * i)).take 8))

/-- Words of a list of bytes. -/
def wordsOfBytes (bs : List Byte) : List Word := (List.range ((bs.length + 7) / 8)).map (wordAt bs)

/-! ## Sparse maps in ascending order of address -/

/-- The entry of an address. -/
def mapFind {α : Type} (l : List (Nat × α)) (a : Nat) : Option α := (l.find? fun p => p.1 == a).map (·.2)

/-- The map without an address. -/
def mapErase {α : Type} (l : List (Nat × α)) (a : Nat) : List (Nat × α) := l.filter fun p => p.1 != a

/-- An entry put in its place by address. -/
def mapInsert {α : Type} (a : Nat) (v : α) : List (Nat × α) → List (Nat × α)
  | [] => [(a, v)]
  | p :: l => if a < p.1 then (a, v) :: p :: l else p :: mapInsert a v l

/-- Write an address; the value `d` that an unlisted address reads as is not listed. -/
def mapPut {α : Type} [DecidableEq α] (l : List (Nat × α)) (a : Nat) (v d : α) : List (Nat × α) :=
  if v = d then mapErase l a else mapInsert a v (mapErase l a)

/-! ## Memories -/

/-- The stack whose part of near memory holds a byte: 32 pseudo-channels of 768 MiB each (R230). -/
def stackOfByte (a : Nat) : Nat := a / (24 * 2 ^ 30)

/-- The loss after which an unlisted byte has not been written; 0: none. -/
def Mem.genAt (m : Mem) (a : Nat) : Nat := (mapFind m.lost (stackOfByte a)).getD m.gen

/-- What a byte that is not listed reads as: 0 before any loss of contents, a free value after one (R256, R444). -/
def Mem.default (m : Mem) (a : Nat) : Byte := if m.genAt a = 0 then 0 else Config.undefByte (m.genAt a) a

/-- The number of the last loss. -/
def Mem.top (m : Mem) : Nat := m.lost.foldl (fun n p => max n p.2) m.gen

/-- The byte at an address. -/
def Mem.get (m : Mem) (a : Nat) : Byte := (mapFind m.cells a).getD (m.default a)

/-- Write one byte. -/
def Mem.put (m : Mem) (a : Nat) (b : Byte) : Mem := { m with cells := mapPut m.cells a b (m.default a) }

/-- n bytes from an address up. -/
def Mem.load (m : Mem) (a n : Nat) : List Byte := (List.range n).map fun i => m.get (a + i)

/-- Write bytes from an address up. -/
def Mem.store (m : Mem) (a : Nat) : List Byte → Mem
  | [] => m
  | b :: bs => (m.put a b).store (a + 1) bs

/-- The contents are lost (R444). -/
def Mem.lose (m : Mem) : Mem := { gen := m.top + 1, cells := [] }

/-- The contents of a stack are lost (R256). -/
def Mem.loseStack (m : Mem) (n : Nat) : Mem :=
  { m with lost := mapInsert n (m.top + 1) (mapErase m.lost n), cells := m.cells.filter fun c => stackOfByte c.1 != n }

/-- A range of addresses is set to zero bytes. -/
def Mem.zero (m : Mem) (lo n : Nat) : Mem :=
  if m.gen = 0 ∧ m.lost = [] then { m with cells := m.cells.filter fun c => c.1 < lo || lo + n ≤ c.1 }
  else m.store lo (List.replicate n 0)

/-- A little-endian number of n bytes (R12). -/
def Mem.num (m : Mem) (a n : Nat) : Nat := ofBytes (m.load a n)

/-! ## The register file -/

/-- Whether offset o lies on a register of the row; the strides run from the widest to the narrowest. -/
def RegRow.hit (r : RegRow) (o : Nat) : Bool :=
  if o < r.off then false else
  let o1 := o - r.off
  let i := if r.n1 ≤ 1 then 0 else o1 / r.s1
  let o2 := o1 - i * r.s1
  let j := if r.n2 ≤ 1 then 0 else o2 / r.s2
  let o3 := o2 - j * r.s2
  let k := if r.n3 ≤ 1 then 0 else o3 / r.s3
  (i == 0 || i < r.n1) && (j == 0 || j < r.n2) && (k == 0 || k < r.n3) && o3 - k * r.s3 == 0

/-- The rows of the block an address lies in, and the offset in it (R410 to R412). -/
def blockOf (a : Nat) : List RegRow × Nat :=
  if sbReg ≤ a then (sbRows, a - sbReg)
  else if 0x300002000000 ≤ a then (if a < 0x300003000000 then (reRows, (a - 0x300002000000) % 0x400000) else ([], 0))
  else if collReg ≤ a then (if a < 0x300001200000 then (collRows, a - collReg) else ([], 0))
  else if rtReg ≤ a then (rtRows, a - rtReg)
  else if 0x300000040000 ≤ a then
    (if a < 0x300000042000 then (optRows ++ colokRows, (a - 0x300000040000) % 0x1000) else ([], 0))
  else if mgmtReg ≤ a then (mgmtRows, a - mgmtReg)
  else if 0x300000020000 ≤ a then (if a < 0x300000030000 then (mcRows, (a - 0x300000020000) % 0x1000) else ([], 0))
  else if 0x300000010000 ≤ a then
    (if a < 0x30000001C000 then (optRows ++ spkRows, (a - 0x300000010000) % 0x1000) else ([], 0))
  else if 0x300000002400 ≤ a then
    (if a < 0x300000002600 then (farRows, (a - 0x300000002400) % 0x100) else (pageRows, a - pageReg))
  else if mapReg ≤ a then (mapRows, a - mapReg)
  else if seqReg ≤ a then (seqRows, a - seqReg)
  else if pageReg ≤ a then (pageRows, a - pageReg)
  else if 0x200000000000 ≤ a then
    (let o := (a - 0x200000000000) % 0x1000000
     if a < 0x200064000000 && 0xF00000 ≤ o then (coreRows, o - 0xF00000) else ([], 0))
  else ([], 0)

/-- The row of the register at an address. -/
def rowAt (a : Nat) : Option RegRow :=
  let b := blockOf a
  b.1.find? fun r => r.hit b.2

/-! ## The grade (R3 to R5) -/

/-- GRADE_MASK (R4), CORE_SITE_MAP0 and CORE_SITE_MAP1, from the fuses. -/
def State.gradeMask (s : State) : Word :=
  if s.fuse.s0 then 0x00B1580000000950 else 0x00B1600F000009F0

def State.siteMap0 (s : State) : Word := BitVec.ofNat 64 s.fuse.sites.toNat
def State.siteMap1 (s : State) : Word := BitVec.ofNat 64 (s.fuse.sites.toNat / 2 ^ 64)

/-- GRADE_CODE, which the void responder answers (R8). -/
def State.gradeCode (s : State) : Nat := bits s.gradeMask F.GRADE_MASK_GRADE_CODE.hi F.GRADE_MASK_GRADE_CODE.lo

/-- The value the image gives the image fields of a register (R15, R447): the kept settings for the module's grade (R9), else Plovjan's
image. -/
def imageValue (s : State) (a : Nat) (r : RegRow) : Word :=
  match s.boot.settings with
  | none => BitVec.ofNat 64 r.plov
  | some b => if Config.imageHas b s.gradeCode a then Config.imageSetting b s.gradeCode a else BitVec.ofNat 64 r.plov

/-- What a register reads as when nothing is listed for it: its Reset column (R15). -/
def regDefault (s : State) (a : Nat) : Word :=
  match rowAt a with
  | none => 0
  | some r =>
    if r.undef && s.undefGen != 0 then
      Config.undefReg s.undefGen a &&& BitVec.ofNat 64 (r.rw ||| r.rwl)
    else
      BitVec.ofNat 64 r.reset ||| (imageValue s a r &&& BitVec.ofNat 64 r.image)

/-- The word a register holds. -/
def State.reg (s : State) (a : Nat) : Word := (mapFind s.regs a).getD (regDefault s a)

/-- Write the word a register holds. -/
def State.setReg (s : State) (a : Nat) (w : Word) : State := { s with regs := mapPut s.regs a w (regDefault s a) }

/-- A field of a register. -/
def State.get (s : State) (f : Field) : Nat := bits (s.reg f.addr) f.hi f.lo

/-- Write a field of a register. -/
def State.set (s : State) (f : Field) (v : Nat) : State := s.setReg f.addr (putBits (s.reg f.addr) f.hi f.lo v)

/-- A one-bit field that is set. -/
def State.on (s : State) (f : Field) : Bool := s.get f != 0

/-- The largest value of a field. -/
def Field.max (f : Field) : Nat := 2 ^ (f.hi + 1 - f.lo) - 1

/-- Add to a counter that saturates. -/
def State.add (s : State) (f : Field) (n : Nat) : State := s.set f (min (s.get f + n) f.max)

/-- Count one on a counter that saturates. -/
def State.bump (s : State) (f : Field) : State := s.add f 1

/-- A field that holds a number modulo its width counts on. -/
def State.wrapAdd (s : State) (f : Field) (n : Nat) : State := s.set f (s.get f + n)

/-! ## Free values -/

/-- Draw a value the spec leaves open. -/
def State.fresh (s : State) : Word × State := (Config.freeWord s.freeCtr, { s with freeCtr := s.freeCtr + 1 })

/-! ## Time (R46, R49) -/

/-- CAD_NOW, CAD_SLOT and CAD_EPOCH as numbers. -/
def State.now (s : State) : Nat := s.cad.count
def State.slot (s : State) : Nat := s.cad.count / 256
def State.epoch (s : State) : Nat := s.cad.count / 50000

/-- The count stands at a slot boundary (R46). -/
def State.atSlot (s : State) : Bool := s.cad.count % 256 == 0

/-- A 48-bit tick extended to the one value within 2^47 of the count (R65). -/
def State.extend48 (s : State) (t : Nat) : Nat :=
  let base := s.now / 2 ^ 48 * 2 ^ 48 + t % 2 ^ 48
  if base + 2 ^ 47 < s.now then base + 2 ^ 48
  else if s.now + 2 ^ 47 ≤ base ∧ 2 ^ 48 ≤ base then base - 2 ^ 48 else base

/-! ## Units (R23, R36, R414) -/

def dieOfSite (n : Nat) : Nat := n / 25
def dieOfStack (n : Nat) : Nat := n / 4
def dieOfPort (p : Nat) : Nat := if p < 12 then p / 3 else if p = 12 then 0 else 2

/-- Unit identifiers (R36). -/
def unitCore (n : Nat) : Nat := 0x100 * dieOfSite n + n
def unitMc (n : Nat) : Nat := 0x1000 + 0x100 * dieOfStack n + n
def unitPort (p : Nat) : Nat := if p < 12 then 0x2000 + 0x100 * (p / 3) + p else if p = 12 then 0x3000 else 0x3201
def unitBridge (d : Nat) : Nat := 0x4000 + 0x101 * d
def unitRouter (d : Nat) : Nat := 0x5000 + 0x101 * d
def unitUpd (n : Nat) : Nat := 0x6000 + 0x100 * dieOfStack n + n
def unitRe (d : Nat) : Nat := 0x7000 + 0x101 * d
def unitFar (p : Nat) : Nat := if p = 0 then 0x8100 else 0x8301
def unitSeq : Nat := 0x9F00
def unitMgmt (i : Nat) : Nat := if i = 0 then 0xA000 else 0xA201
def unitPower : Nat := 0xBF00
def unitImage (i : Nat) : Nat := 0xCF00 + i
def unitStage (d : Nat) : Nat := 0xD000 + 0x101 * d
def unitCtx (c : Nat) : Nat := 0xEF00 + c

/-- Entries of UNIT_STATE (R414). -/
def entCore (n : Nat) : Nat := n
def entMc (n : Nat) : Nat := 100 + n
def entPort (p : Nat) : Nat := 116 + p
def entUpd (n : Nat) : Nat := 138 + n
def entRe (d : Nat) : Nat := 154 + d
def entFar (p : Nat) : Nat := 158 + p
def entSeq : Nat := 160
def entMgmt (i : Nat) : Nat := 161 + i
def entStage (d : Nat) : Nat := 167 + d
def entCtx (c : Nat) : Nat := 171 + c

/-- The unit identifier of an entry of UNIT_STATE (R414). -/
def unitOfEntry (n : Nat) : Nat :=
  if n < 100 then unitCore n else if n < 116 then unitMc (n - 100) else if n < 130 then unitPort (n - 116)
  else if n < 134 then unitBridge (n - 130) else if n < 138 then unitRouter (n - 134)
  else if n < 154 then unitUpd (n - 138) else if n < 158 then unitRe (n - 154) else if n < 160 then unitFar (n - 158)
  else if n = 160 then unitSeq else if n < 163 then unitMgmt (n - 161) else if n = 163 then unitPower
  else if n < 167 then unitImage (n - 164) else if n < 171 then unitStage (n - 167) else unitCtx (n - 171)

/-- Whether the core site is enabled by the fuses (R4). -/
def State.siteEnabled (s : State) (n : Nat) : Bool := n < 100 && s.fuse.sites.getLsbD n

/-- Whether an entry of UNIT_STATE is fused off in the grade (R3, R8). -/
def State.absent (s : State) (n : Nat) : Bool :=
  if n < 100 then !s.siteEnabled n else if n = 158 || n = 159 then s.fuse.s0 else false

/-- Unit states (R413). -/
def usOff : Nat := 0
def usStarting : Nat := 1
def usReady : Nat := 2
def usDraining : Nat := 3
def usDown : Nat := 4
def usAbsent : Nat := 5

/-- The state of a unit (R463); UNIT_STATE is its one home. -/
def State.unit (s : State) (n : Nat) : Nat := if s.absent n then usAbsent else s.get (F.UNIT_STATE_STATE n)

def State.unitReady (s : State) (n : Nat) : Bool := s.unit n == usReady

/-- Module states (R413); UNPOWERED is the loss of the rails. -/
def msPrecharge : Nat := 1
def msImage : Nat := 2
def msTrain : Nat := 3
def msJoin : Nat := 4
def msService : Nat := 5
def msRetire : Nat := 6

def State.mstate (s : State) : Nat := s.get F.MODULE_STATE_STATE

/-! ## Faults (R35 to R40) -/

/-- The queue a record goes to (R38, R25): a fast-plane record to its die or the module queue, a slow-plane record to the
controller that serves the unit, or to the survivor of a takeover. -/
def State.faultQueue (s : State) (unit : Nat) (slow : Bool) : Nat :=
  let die := unit / 0x100 % 16
  if slow then
    match s.get F.MGMT_STATUS_ROLES with
    | 1 => 5
    | 2 => 6
    | _ => if die = 2 ∨ die = 3 then 6 else 5
  else if die < 4 then die else 4

/-- A record in its place by TIME, then UNIT (R38). -/
def insertFault (r : FaultRec) : List FaultRec → List FaultRec
  | [] => [r]
  | q :: l => if r.time < q.time ∨ (r.time = q.time ∧ r.unit < q.unit) then r :: q :: l else q :: insertFault r l

/-- Set bits of ALERT_CAUSE (R423); a masked-in bit that goes from 0 to 1 in I3C mode sends one in-band interrupt, whose
data byte is ALERT_CAUSE, unless DISEC has disabled target events (R421). -/
def State.alert (s : State) (c : Nat) : State :=
  let old := s.get F.ALERT_CAUSE_CAUSE
  if bitAt old c then s
  else
    let s1 := s.set F.ALERT_CAUSE_CAUSE (old + 2 ^ c)
    if s.sb.i3c ∧ s.sb.events ∧ bitAt (s.get F.ALERT_MASK_MASK) c then { s1 with sent := s1.sent ++ [.interrupt (old + 2 ^ c)] } else s1

/-- A block detects a fault at a tick (R35, R38, R39): a record in its queue, or FAULT_LOST when the queue is full. -/
def State.faultAt (s : State) (code unit : Nat) (slow : Bool) (detail : Word) (time : Nat) : State :=
  let q := s.faultQueue unit slow
  let l := s.mgmt.fq.getD q []
  if 64 ≤ l.length then s.bump F.FAULT_LOST_COUNT
  else
    let r : FaultRec := ⟨s.get F.SEQ_STEP_TAG, slow, code, time, unit, detail⟩
    { s with mgmt := { s.mgmt with fq := s.mgmt.fq.set q (insertFault r l) } }

/-- A fault detected now. -/
def State.fault (s : State) (code unit : Nat) (slow : Bool) (detail : Word) : State :=
  s.faultAt code unit slow detail s.now

/-- A fault recorded at most once per epoch and key. -/
def State.faultKey (s : State) (key : Nat) (code unit : Nat) (slow : Bool) (detail : Word) : State :=
  if s.mgmt.logged.contains (code, key) then s
  else
    let s1 := s.fault code unit slow detail
    { s1 with mgmt := { s1.mgmt with logged := (code, key) :: s1.mgmt.logged } }

/-- A fault recorded at most once per unit and epoch. -/
def State.faultOnce (s : State) (code unit : Nat) (slow : Bool) (detail : Word) : State := s.faultKey unit code unit slow detail

/-- A block posts an event for the slow plane (R69, R73). -/
def State.post (s : State) (die : Nat) (e : Event) : State :=
  let l := s.mgmt.evq.getD die []
  if 64 ≤ l.length then s.bump F.MGMT_ERR_EVQ_LOST
  else { s with mgmt := { s.mgmt with evq := s.mgmt.evq.set die (l ++ [e]) } }

/-- JOIN or later with neither Colok port in service (R423, cause COLOK). -/
def State.colokless (s : State) : Bool := msJoin ≤ s.mstate && !s.unitReady 128 && !s.unitReady 129

/-- Cause COLOK is set when that condition arises. -/
def State.colokAlert (s : State) (before : Bool) : State := if s.colokless && !before then s.alert 4 else s

/-- The module state changes (R423: cause STATE; R422: the sideband mirrors it from IMAGE onwards). -/
def State.setMState (s : State) (m : Nat) : State :=
  let s1 := s.set F.MODULE_STATE_STATE m
  let s2 := if msImage ≤ m then s1.set F.SB_STATE_STATE m else s1
  (if s.mstate = m then s2 else s2.alert 3).colokAlert s.colokless

/-- RE_STATUS.STATE of a row engine reads DOWN while the unit is, and no longer once it starts again (R186, R463). -/
def State.reFollow (s : State) (n st : Nat) : State :=
  if n < 154 ∨ 158 ≤ n then s
  else if st = usDown then s.set (F.RE_STATUS_STATE (n - 154)) 3
  else if st = usStarting ∧ s.get (F.RE_STATUS_STATE (n - 154)) = 3 then s.set (F.RE_STATUS_STATE (n - 154)) 0
  else s

/-- A unit changes state (R463, R69: unit state changes are events for the slow plane). The queue is that of the unit's die; the
spec names none for a unit that belongs to no die, and the model takes D0's (DESIGN CHOICE, log entry 83). -/
def State.setUnit (s : State) (n st : Nat) : State :=
  let u := unitOfEntry n
  let d := u / 0x100 % 16
  (((s.set (F.UNIT_STATE_STATE n) st).reFollow n st).post (if d < 4 then d else 0) (.unitState u)).colokAlert s.colokless

/-! ## Staged pairs (R70, R71) -/

/-- The ACT register of a staged pair. -/
def actReg : StagedPair → Nat → Nat
  | .pcret, i => A.MC_PCRET_ACT i
  | .thr, i => A.MC_THR_ACT i
  | .ppr, i => A.MC_PPR_ACT i
  | .rtSend, _ => A.RT_SEND_ACT
  | .steer, i => A.SPK_STEER_ACT i
  | .lane, i => A.SPK_LANE_ACT i
  | .pwrThr, _ => A.PWR_THR_ACT

/-- Write ARMED and ACT_SLOT (R71): the pair applies at ACT_SLOT, or at CAD_SLOT + 2 with a STAGE_LATE count when ACT_SLOT
is nearer. ACT_SLOT reads as it was written; the slot it acts at is kept beside it. -/
def State.armStaged (s : State) (act slot : Nat) (armed : Bool) : State :=
  let w := s.reg act
  let late := armed ∧ slot < s.slot + 2
  let w1 := putBits (putBits w 55 0 slot) 63 63 (boolBit armed)
  let w2 := if late then putBits w1 62 56 (min (bits w 62 56 + 1) 127) else w1
  let s1 := s.setReg act w2
  { s1 with staged := if armed then mapPut s1.staged act (if late then s.slot + 2 else slot) 0 else mapErase s1.staged act }

/-- The slot a staged pair acts at, when it is armed and its time has come (R71). -/
def State.stagedDue (s : State) (act : Nat) : Bool :=
  bits (s.reg act) 63 63 == 1 && s.atSlot && (mapFind s.staged act).getD (bits (s.reg act) 55 0) ≤ s.slot

/-- A staged pair has been applied: ARMED clears (R70). -/
def State.stagedDone (s : State) (act : Nat) : State :=
  let s1 := s.setReg act (putBits (s.reg act) 63 63 0)
  { s1 with staged := mapErase s1.staged act }

/-! ## The void responder (R8) -/

/-- A command addressed directly to a unit that the grade has fused off reaches the void responder, which logs it (R8). -/
def State.absentUnit (s : State) (unit a : Nat) : State := s.fault 0x0903 unit false (mkWord [(47, 0, a)])

/-! ## Guards shared by the meanings -/

/-- A command of the powered module: with the rails off, or while MODRST_N holds a MODULE reset, nothing happens. -/
def live (s : State) (f : State → State) : Out :=
  .next (if s.pwr.rails && !s.pwr.modrst then f s else s)

/-- A command that names unit n of m: what it does where the module has that unit; a command that names no unit of the module
reaches nothing and changes nothing (DESIGN CHOICE, log entry 75). -/
def lively (s : State) (n m : Nat) (f : State → State) : Out := live s fun s => if n < m then f s else s

/-- Fold a state change over the numbers below n, in ascending order. -/
def State.forN (s : State) (n : Nat) (f : State → Nat → State) : State := (List.range n).foldl f s

end Sys2Proof.Machine
end

