-- ==== Sys2Proof/Machine/Cadence.lean ====
section
/-! DEFINITION. The cadence unit (chapter 02), the fault collector (R37, R38), the takeover of a management controller
(R25), staged pairs (R71) and the PEAK line (R426). -/
namespace Sys2Proof.Machine

/-! ## Source states (R56 to R58) -/

/-- SYNC values (R50). -/
def syUnset : Nat := 0
def syRef : Nat := 1
def syBeacon : Nat := 2
def syFree : Nat := 3

def State.sync (s : State) : Nat := s.get F.CAD_STATUS_SYNC

/-- The port's latest accepted beacon arrived within the last 4 slots (R56). -/
def State.beaconFresh (s : State) (b : PortBeacon) : Bool := s.now < b.tick + 1024

/-- The best beacon among those of the last 4 slots: lowest HOPS, then lowest port (R56); not of port `but`. -/
def State.bestBeacon (s : State) (but : Option Nat) : Option PortBeacon :=
  (s.cad.beacons.filter fun b => s.beaconFresh b && some b.port != but).foldl
    (fun m b => match m with
      | none => some b
      | some c => if b.hops < c.hops ∨ (b.hops = c.hops ∧ b.port < c.port) then some b else some c) none

/-- ALIGNED returns once the offset of the regained source is 2 ticks (40 cycles) or less, unless EPOCH pulses or the
64-tick limit hold it at 0 (R58). -/
def State.alignCheck (s : State) : State :=
  if s.cad.freeRan && !s.cad.barred && s.cad.offset.natAbs ≤ 40 && (s.sync == syRef || s.sync == syBeacon) then
    let s1 := { s with cad := { s.cad with freeRan := false } }
    if s.cad.badPulses then s1 else s1.set F.CAD_STATUS_ALIGNED 1
  else s

/-- A source is regained: an offset of more than 64 ticks (1,280 cycles) after FREE_RUN bars ALIGNED until a MODULE reset
(R58). -/
def State.regain (s : State) : State :=
  if s.cad.freeRan && decide (1280 < s.cad.offset.natAbs) then { s with cad := { s.cad with barred := true } }
  else s.alignCheck

/-- Enter REF: HOPS 0, no source port, slew to the phase of CADREF (R56). -/
def State.enterRef (s : State) (phase : Int) : State :=
  let s1 := ((s.set F.CAD_STATUS_SYNC syRef).set F.CAD_STATUS_HOPS 0).set F.CAD_STATUS_SRC_PORT 0xF
  { s1 with cad := { s1.cad with offset := phase, freeSince := none, pulsesOff := 0, pulsesOn := 0 } }.regain

/-- Follow a beacon: its offset at once, slewed from the next slot on (R56). -/
def State.enterBeacon (s : State) (b : PortBeacon) : State :=
  let s1 := ((s.set F.CAD_STATUS_SYNC syBeacon).set F.CAD_STATUS_HOPS (b.hops + 1)).set F.CAD_STATUS_SRC_PORT b.port
  { s1 with cad := { s1.cad with offset := b.offset, freeSince := none, pulsesOff := 0, pulsesOn := 0 } }.regain

/-- Enter FREE_RUN: ALIGNED := 0, the local oscillator runs on (R56). -/
def State.enterFreeRun (s : State) : State :=
  let s1 := (((s.set F.CAD_STATUS_SYNC syFree).set F.CAD_STATUS_HOPS 0xF).set F.CAD_STATUS_SRC_PORT 0xF).set
    F.CAD_STATUS_ALIGNED 0
  { s1 with cad := { s1.cad with offset := 0, freeRan := true, freeSince := some s.now, pulsesOff := 0, pulsesOn := 0 } }

/-- The count is set, from an EPOCH pulse or a beacon in UNSET (R56). -/
def State.setCount (s : State) (n : Nat) : State :=
  { s with cad := { s.cad with
    count := n % 2 ^ 64, offset := 0, refSince := s.cad.refSince + ((n % 2 ^ 64 : Nat) : Int) - (s.now : Int) } }

/-- CADREF's edges are there: from now on, if they were not (R56). -/
def State.refHere (s : State) : State :=
  if s.cad.refPresent then s else { s with cad := { s.cad with refPresent := true, refSince := s.now } }

/-- EPOCH_PULSE (R44, R51, R56): sampled on a CADREF edge, so CADREF is present. -/
def epochPulse (s0 : State) : State :=
  let s := s0.refHere
  let load := if s.sync = syUnset ∧ s.on F.CAD_CTRL_REF_EN then s.cad.loadPending else none
  match load with
  | some e =>
    let s1 := ((s.setCount (e * 50000)).set F.CAD_STATUS_SYNC syRef).set F.CAD_STATUS_HOPS 0
    let s2 := s1.set F.CAD_STATUS_ALIGNED 1
    { s2 with cad := { s2.cad with loadPending := none } }
  | none =>
    let on := s.now % 50000 == 0
    let s1 := if on then s else s.bump F.CAD_ERR_EPOCH_MISMATCH
    if s.sync = syRef then
      let off' := if on then 0 else s.cad.pulsesOff + 1
      let on' := if on then s.cad.pulsesOn + 1 else 0
      let s2 := { s1 with cad := { s1.cad with pulsesOff := off', pulsesOn := on' } }
      if off' = 3 then
        let s3 := s2.set F.CAD_STATUS_ALIGNED 0
        { s3 with cad := { s3.cad with badPulses := true } }
      else if s2.cad.badPulses ∧ 3 ≤ on' then
        let s3 := { s2 with cad := { s2.cad with badPulses := false } }
        if s3.cad.freeRan ∨ s3.cad.barred then s3 else s3.set F.CAD_STATUS_ALIGNED 1
      else s2
    else s1

def execEpochPulse (s : State) : Out := live s epochPulse

/-- CADREF_LOST (R56): every loss counts, whatever the SYNC state. -/
def cadrefLost (s : State) : State :=
  if s.cad.refPresent then
    let s0 := s.bump F.CAD_ERR_REF_LOSS
    let s1 := { s0 with cad := { s0.cad with refPresent := false } }
    if s1.sync = syRef then
      match s1.bestBeacon none with
      | some b => s1.enterBeacon b
      | none => s1.enterFreeRun
    else s1
  else s

def execCadrefLost (s : State) : Out := live s cadrefLost

/-- CADREF_REGAINED (R56): CADREF's edges are there, offset by `phase` cycles. Where they were absent their presence begins; once they have
been present for one full epoch the module takes CADREF as its source. -/
def cadrefRegained (phase : Int) (s : State) : State :=
  let s1 := s.refHere
  if s1.cad.refSince + 50000 ≤ (s1.now : Int) ∧ (s1.sync = syBeacon ∨ s1.sync = syFree) ∧ s1.on F.CAD_CTRL_REF_EN then s1.enterRef phase else s1

def execCadrefRegained (phase : Int) (s : State) : Out := live s (cadrefRegained phase)

/-- BEACON_SOURCE_TIMEOUT (R56): the source port has delivered no accepted beacon for 4 slots. -/
def beaconSourceTimeout (phase : Int) (s : State) : State :=
  let src := s.get F.CAD_STATUS_SRC_PORT
  if s.sync = syBeacon ∧ ¬ (s.cad.beacons.any fun b => b.port == src && s.beaconFresh b) then
    match s.bestBeacon (some src) with
    | some b => (s.bump F.CAD_ERR_SOURCE_SWITCH).enterBeacon b
    | none => if s.cad.refPresent ∧ s.on F.CAD_CTRL_REF_EN then s.enterRef phase else s.enterFreeRun
  else s

def execBeaconSourceTimeout (phase : Int) (s : State) : Out := live s (beaconSourceTimeout phase)

/-- FREE_RUN_LIMIT (R56): 64 epochs in FREE_RUN. -/
def freeRunLimit (s : State) : State :=
  match s.cad.freeSince with
  | some t => if s.sync = syFree ∧ t + 3200000 ≤ s.now then { s with cad := { s.cad with barred := true } } else s
  | none => s

def execFreeRunLimit (s : State) : Out := live s freeRunLimit

/-- CAD_LOAD (R51, R56): ignored unless SYNC is UNSET. -/
def cadLoad (epoch : Nat) (s : State) : State :=
  if s.sync = syUnset then { s with cad := { s.cad with loadPending := some (epoch % 2 ^ 48) } } else s

def execCadLoad (epoch : Nat) (s : State) : Out := live s (cadLoad epoch)

/-- A beacon that arrived on a Spoke port in cycle `cycle` of tick `tick` is evaluated (R53, R55, R56). A count set in UNSET with CADREF
present is the beacon's time at the start of that tick, to the nearest tick, carried on to the present one. -/
def State.beaconIn (s : State) (port tick cycle : Nat) (b : Word) : State :=
  let hops := bits b 7 4
  if s.on (F.SPK_CAD_DELAY_VALID port) && s.on F.CAD_CTRL_BEACON_EN && bits b 3 3 == 1 && decide (hops ≤ 3) then
    let time := bits b 63 8 * 256 * 20 + s.get (F.SPK_CAD_DELAY_DELAY port)
    let since := s.now - tick
    let off : Int := (time : Int) - ((tick * 20 + cycle : Nat) : Int)
    let keep := fun (s : State) (o : Int) (others : List PortBeacon) =>
      { s with cad := { s.cad with beacons := ⟨port, s.now - since, o, hops⟩ :: others.filter fun p => p.port != port } }
    if s.sync = syUnset then
      let s1 := if s.cad.refPresent ∧ s.on F.CAD_CTRL_REF_EN then
          ((s.setCount ((time + 30 - cycle) / 20 - 1 + since)).set F.CAD_STATUS_SYNC syRef).set F.CAD_STATUS_HOPS 0
        else
          (((s.setCount (time / 20 + since)).set F.CAD_STATUS_SYNC syBeacon).set F.CAD_STATUS_HOPS (hops + 1)).set
            F.CAD_STATUS_SRC_PORT port
      keep (s1.set F.CAD_STATUS_ALIGNED 1) 0 []
    else
      let s1 := keep s off s.cad.beacons
      if s.sync = syRef then (if 40 < off.natAbs then s1.bump F.CAD_ERR_BEACON_DISAGREE else s1)
      else if s.sync = syFree then s1.enterBeacon ⟨port, tick, off, hops⟩
      else if s.get F.CAD_STATUS_SRC_PORT = port then
        let s2 := s1.set F.CAD_STATUS_HOPS (hops + 1)
        { s2 with cad := { s2.cad with offset := off } }.alignCheck
      else s1
  else s

/-- The beacon the module sends at tick 0 of a slot (R53). -/
def State.beaconOut (s : State) : Word :=
  mkWord [(63, 8, s.slot), (7, 4, s.get F.CAD_STATUS_HOPS), (3, 3, s.get F.CAD_STATUS_ALIGNED),
    (1, 0, s.get F.CAD_STATUS_SYNC)]

/-- One slew step of a slot (R57): one tick is a cycle longer or shorter. -/
def State.slew (s : State) : State :=
  if s.sync = syUnset ∨ s.cad.offset = 0 then s
  else
    let o := if 0 < s.cad.offset then s.cad.offset - 1 else s.cad.offset + 1
    { s with cad := { s.cad with offset := o } }.alignCheck

/-! ## Staged pairs, takeover, collector and PEAK -/

/-- How many instances a staged pair has. -/
def pairCount : StagedPair → Nat
  | .pcret | .thr | .ppr => 16
  | .steer | .lane => 14
  | .rtSend | .pwrThr => 1

/-- STAGED_PAIR_ARM (R71). -/
def execStagedPairArm (pair : StagedPair) (inst slot : Nat) (s : State) : Out :=
  lively s inst (pairCount pair) fun s => s.armStaged (actReg pair inst) slot true

/-- One controller is lost and the other takes over all slow-plane work (R25). -/
def State.takeOver (s : State) (lost : Nat) : State :=
  let s1 := (s.set F.MGMT_STATUS_ROLES (2 - lost)).set F.MGMT_STATUS_TAKEOVER_EPOCH s.epoch
  let s2 := if lost = 0 then s1.set F.MGMT_STATUS_PRI_UP 0 else s1.set F.MGMT_STATUS_SEC_UP 0
  s2.set (F.UNIT_STATE_STATE (entMgmt lost)) usDown

/-- MGMT_TAKEOVER (R25): at the epoch mark after the second heartbeat missed in a row. -/
def mgmtTakeover (s : State) : State :=
  match s.mgmt.lost with
  | some (i, t) => if s.now % 50000 = 0 ∧ t < s.now ∧ s.get F.MGMT_STATUS_ROLES = 0 then s.takeOver i else s
  | none => s

def execMgmtTakeover (s : State) : Out := live s mgmtTakeover

/-- The four words of a record (R35). -/
def FaultRec.words (r : FaultRec) (seq : Nat) : List Word :=
  [mkWord [(63, 48, seq), (47, 32, r.tag), (16, 16, boolBit r.slow), (15, 0, r.code)], BitVec.ofNat 64 r.time,
    mkWord [(15, 0, r.unit)], r.detail]

/-- The collector writes the record at the head of a queue into the ring (R37, R38); a record of class 0x09 alerts
(R423). -/
def faultRecordWrite (queue : Nat) (s : State) : State :=
  match s.mgmt.fq.getD queue [] with
  | [] => s
  | r :: rest =>
    let k := s.get F.FAULT_HEAD_INDEX
    let ws := r.words (s.get F.FAULT_HEAD_NEXT_SEQ)
    let s1 := { s with mgmt := { s.mgmt with fq := s.mgmt.fq.set queue rest } }
    let s2 := s1.forN 4 fun s i => s.setReg (A.FAULT_RING k i) (ws.getD i 0)
    let s3 := (s2.wrapAdd F.FAULT_HEAD_INDEX 1).wrapAdd F.FAULT_HEAD_NEXT_SEQ 1
    if r.code / 256 = 9 then s3.alert 5 else s3

def execFaultRecordWrite (queue : Nat) (s : State) : Out := lively s queue 7 (faultRecordWrite queue)

/-- PEAK_ASSERT (R426): the slot average of input power exceeds 1,450 W. -/
def execPeakAssert (watts : Nat) (s : State) : Out :=
  live s fun s => if 1450 < watts then { s with pwr := { s.pwr with peak := true, peakSeen := true } } else s

/-- PEAK_RELEASE (R426): power has stayed below 1,450 W for `slots` slots, at least 4. -/
def execPeakRelease (slots : Nat) (s : State) : Out :=
  live s fun s => if 4 ≤ slots then { s with pwr := { s.pwr with peak := false } } else s

end Sys2Proof.Machine
end

