-- ==== Sys2Proof/Machine/Counter.lean ====
section
/-! DEFINITION. Core counters (R103, R342, R343) and the logical names of cores (R5). -/
namespace Sys2Proof.Machine

/-- One change of a counter (R343): clamped at 0 with COUNTER_UNDERFLOW, at LIMIT with COUNTER_OVERFLOW for a positive
increment. SOURCE: 0 local SIGNAL; 1 remote SIGNAL; 2 stream; 3 context; 4 control node. -/
def State.addCounter (s : State) (n c inc src : Nat) : State :=
  let v := s.get (F.CNT_VALUE n c)
  let d := signed 16 inc
  let t := (v : Int) + d
  let lim := s.get (F.CNT_LIMIT n c)
  let det := mkWord [(63, 59, c), (58, 56, src), (55, 40, inc), (31, 0, v)]
  if t < 0 then (s.set (F.CNT_VALUE n c) 0).fault 0x0605 (unitCore n) false det
  else if 0 < d ∧ (lim : Int) < t then (s.set (F.CNT_VALUE n c) lim).fault 0x0606 (unitCore n) false det
  else s.set (F.CNT_VALUE n c) t.toNat

/-- The enabled sites of a die in ascending order. -/
def State.dieSites (s : State) (die : Nat) : List Nat := ((List.range 25).map (25 * die + ·)).filter s.siteEnabled

/-- The site of logical core k of a die (R5). -/
def State.siteOf (s : State) (die k : Nat) : Option Nat := (s.dieSites die)[k]?

end Sys2Proof.Machine
end

