-- ==== Sys2Proof/Machine/Router.lean ====
section
/-! DEFINITION. The spoke fabric: packet headers (R278 to R282), routing (R270 to R276, R290, R291), switching with credits and
the output arbiter (R284, R285, R302, R303), routing-table banks (R292 to R296), drops (R283, R288, R299, R311). -/
namespace Sys2Proof
open Sys2Proof.Machine

/-! ## Headers (R278 to R281) -/

def Packet.dst (p : Packet) : Nat := bits p.w0 63 48
def Packet.srcId (p : Packet) : Nat := bits p.w0 47 32
def Packet.kind (p : Packet) : Nat := bits p.w0 31 24
def Packet.vc (p : Packet) : Nat := bits p.w0 23 22
def Packet.tag (p : Packet) : Nat := bits p.w0 21 20
def Packet.mcast (p : Packet) : Bool := bits p.w0 19 19 == 1
def Packet.spec (p : Packet) : Bool := bits p.w0 18 18 == 1
def Packet.len (p : Packet) : Nat := bits p.w0 17 10
def Packet.hchk (p : Packet) : Nat := bits p.w0 9 0
def Packet.stepTag (p : Packet) : Nat := bits p.w1 63 48
def Packet.layoutGen (p : Packet) : Nat := bits p.w1 47 40
def Packet.coll (p : Packet) : Nat := bits p.w1 39 32
def Packet.offset (p : Packet) : Nat := bits p.w1 31 0
def Packet.policy (p : Packet) : Nat := bits p.w3 63 48
def Packet.deadline (p : Packet) : Nat := bits p.w3 47 0

/-- Beats of 256 bytes a packet occupies (R284). -/
def Packet.beats (p : Packet) : Nat := (40 + p.len * 32 + 255) / 256

/-- One bit into the CRC of R281. -/
def crc10Step (c : Nat) (b : Bool) : Nat :=
  let top := (c / 512 == 1) != b
  let sh := c * 2 % 1024
  if top then sh ^^^ 0x233 else sh

/-- Bits hi to lo of a word, most significant first. -/
def bitsDown (w : Word) (hi lo : Nat) : List Bool := (List.range (hi + 1 - lo)).map fun i => w.getLsbD (hi - i)

/-- HCHK of a header (R281). -/
def Packet.crc (p : Packet) : Nat :=
  (bitsDown p.w0 63 10 ++ bitsDown p.w1 63 0 ++ bitsDown p.w2 63 0 ++ bitsDown p.w3 63 0 ++ bitsDown p.w4 63 0).foldl
    crc10Step 0x3FF

/-- The virtual channels a kind may use, and whether it may be multicast (R279); none: the kind is reserved. -/
def kindRule (k : Nat) : Option (List Nat × Bool) :=
  match k with
  | 0x01 => some ([2], true)
  | 0x02 => some ([2], false)
  | 0x03 => some ([0, 1, 2], true)
  | 0x10 => some ([1], false)
  | 0x11 => some ([1], true)
  | 0x12 => some ([0], false)
  | 0x13 => some ([0], true)
  | 0x14 => some ([2], false)
  | 0x20 => some ([3], false)
  | 0x21 => some ([3], false)
  | _ => none

/-- The first check of R282 that a header fails; 0: none. -/
def Packet.check (p : Packet) : Nat :=
  if p.hchk ≠ p.crc then 1
  else if 128 < p.len ∨ (p.len ≠ 0 ∧ (p.kind = 0x03 ∨ p.kind = 0x12 ∨ p.kind = 0x13)) then 2
  else match kindRule p.kind with
  | none => 3
  | some (vcs, mc) =>
    if !vcs.contains p.vc then 4
    else if p.mcast ∧ (!mc ∨ 64 ≤ p.dst) then 5
    else 0

end Sys2Proof
namespace Sys2Proof.Machine

/-- What a local source gives a packet; the router adds SRC_ID, RT_EPOCH and HCHK. -/
structure Send where
  dst : Nat
  kind : Nat
  vc : Nat
  mcast : Bool := false
  spec : Bool := false
  tag : Nat := 0
  gen : Nat := 0
  coll : Nat := 0
  offset : Nat := 0
  w2 : Word := 0
  policy : Nat := 0
  deadline : Nat := 0
  csum : Nat := 0
  payload : List Byte := []

def Send.packet (x : Send) (src epoch : Nat) : Packet :=
  let p : Packet := {
    w0 := mkWord [(63, 48, x.dst), (47, 32, src), (31, 24, x.kind), (23, 22, x.vc), (21, 20, epoch), (19, 19, boolBit x.mcast),
      (18, 18, boolBit x.spec), (17, 10, (x.payload.length + 31) / 32)]
    w1 := mkWord [(63, 48, x.tag), (47, 40, x.gen), (39, 32, x.coll), (31, 0, x.offset)]
    w2 := x.w2
    w3 := mkWord [(63, 48, x.policy), (47, 0, x.deadline)]
    w4 := BitVec.ofNat 64 x.csum
    payload := x.payload ++ List.replicate ((32 - x.payload.length % 32) % 32) 0 }
  { p with w0 := putBits p.w0 9 0 p.crc }

/-! ## Banks and tables (R270, R275, R290, R292) -/

def State.bankState (s : State) (b : Nat) : Nat := s.get (if b = 0 then F.RT_BANK_STATUS_B0_STATE else F.RT_BANK_STATUS_B1_STATE)
def State.bankTag (s : State) (b : Nat) : Nat := s.get (if b = 0 then F.RT_BANK_STATUS_B0_TAG else F.RT_BANK_STATUS_B1_TAG)
def State.setBank (s : State) (b st : Nat) : State :=
  s.set (if b = 0 then F.RT_BANK_STATUS_B0_STATE else F.RT_BANK_STATUS_B1_STATE) st

/-- The LIVE or RETIRING bank of a tag (R276). -/
def State.bankOfTag (s : State) (t : Nat) : Option Nat :=
  (List.range 2).find? fun b => s.bankState b != 0 && s.bankTag b == t

/-- The bank of the send epoch. -/
def State.sendBank (s : State) : Option Nat :=
  if s.on F.RT_BANK_STATUS_SEND_VALID then s.bankOfTag (s.get F.RT_BANK_STATUS_SEND_EPOCH) else none

/-- A routing-table entry (R275). -/
def State.routeEntry (s : State) (b dst : Nat) : Nat :=
  bits (s.reg (A.RT_TABLE b (dst / 4))) (16 * (dst % 4) + 15) (16 * (dst % 4))

/-- A Derailleur entry (R270): stage, axis, direction. -/
def State.derailleur (s : State) (b stage axis dir : Nat) : Word := s.reg (A.DERAILLEUR b (8 * stage + 2 * axis + dir))

/-- MEMBERS of an axis stage in the bank of the send epoch (R273); the two directions carry equal members (R271). -/
def State.members (s : State) (axis stage : Nat) : Nat :=
  match s.sendBank with
  | none => 0
  | some b =>
    let e := s.derailleur b stage axis 0
    if bits e 63 63 = 1 then bits e 15 0 else bits (s.derailleur b stage axis 1) 15 0 * bits (s.derailleur b stage axis 1) 63 63

/-- POS of this module on an axis stage in the bank of the send epoch. -/
def State.axisPos (s : State) (axis stage : Nat) : Nat :=
  match s.sendBank with
  | none => 0
  | some b =>
    let e := s.derailleur b stage axis 0
    if bits e 63 63 = 1 then bits e 51 48 else bits (s.derailleur b stage axis 1) 51 48

/-- The output of a unicast packet, as port and class (R276); none: no valid route. -/
def routeOut (e coll : Nat) : Option (Nat × Nat) :=
  let out := if e / 2 ^ 13 % 2 = 1 ∧ coll % 2 = 1 then e / 2 ^ 8 % 16 else e % 16
  if e / 2 ^ 15 % 2 = 1 ∧ e % 16 < 12 ∧ out < 12 then some (out, e / 2 ^ 14 % 2) else none

/-- The outputs of a multicast packet from its group entry (R290, R291); none: the entry is not valid. -/
def State.groupOuts (s : State) (b g src : Nat) : Option (List (Nat × Nat) × Bool) :=
  if s.on (F.RT_GROUP_VALID b g) then
    let ports := s.get (F.RT_GROUP_PORTS b g)
    let cls := s.get (F.RT_GROUP_CLASS b g)
    some (((List.range 12).filter fun p => bitAt ports p && p != src).map (fun p => (p, boolBit (bitAt cls p))),
      s.on (F.RT_GROUP_LOCAL b g))
  else none

/-! ## Drain counts (R295) -/

/-- Packets of tag t that port or source p counts. -/
def State.drainOf (s : State) (p t : Nat) : Nat :=
  (s.rt.held.filter fun h => h.src == p && h.pkt.tag == t).length + (s.rt.out.filter fun o => o.port == p && o.tag == t).length

/-- Packets of tag t in the module. -/
def State.drainSum (s : State) (t : Nat) : Nat :=
  (s.rt.held.filter fun h => h.pkt.tag == t).length + (s.rt.out.filter fun o => o.tag == t).length

/-! ## Records (R283, R311) -/

/-- The UNIT of a fabric fault: the Spoke port, or the router segment of a local source's die. -/
def fabricUnit (src : Nat) : Nat := if src < 12 then unitPort src else unitRouter (src - 12)

/-- The PORT field of a record. -/
def fabricPort (src : Nat) : Nat := if src < 12 then src else 0xF

/-- UNROUTABLE (R276, R290). -/
def State.unroutable (s : State) (src : Nat) (p : Packet) (group : Bool) : State :=
  (s.bump F.RT_STAT_UNROUTABLE).faultOnce 0x0501 (fabricUnit src) false (mkWord [(63, 48, p.dst), (47, 32, p.srcId),
    (31, 24, p.kind), (23, 20, fabricPort src), (19, 18, p.tag), (17, 17, boolBit group)])

/-- TRANSIT_DROP of n packets (R288, R299, R305, R311). -/
def State.transitDrop (s : State) (src reason vc n : Nat) : State :=
  s.faultOnce 0x0504 (fabricUnit src) false (mkWord [(63, 60, reason), (59, 56, fabricPort src), (55, 52, vc), (31, 0, n)])

/-- The VC field of a record about several packets: 0xF for several channels. -/
def commonVc : List Transit → Nat
  | [] => 0xF
  | h :: l => if l.all fun x => x.pkt.vc == h.pkt.vc then h.pkt.vc else 0xF

/-- The 16-bit tag of a beat (R365): buffer, ABORT, credits returned as buffer and beats, and whether the beat is idle. -/
def beatTag (buf : Nat) (abort : Bool) (credit : Option (Nat × Nat)) (idle : Bool) : BitVec 16 :=
  BitVec.ofNat 16 (buf % 8 * 2 ^ 13 + boolBit abort * 2 ^ 12 + boolBit credit.isSome * 2 ^ 11
    + (credit.getD (0, 0)).1 % 8 * 2 ^ 8 + (credit.getD (0, 0)).2 % 64 * 2 ^ 2 + boolBit idle * 2)

/-- The tags of the beats that carry an output: those of a packet name its buffer; credits ride on an idle beat (log entry 87). -/
def Egress.tags : Egress → List (BitVec 16)
  | .packet _ cls p => List.replicate p.beats (beatTag (p.vc * 2 + cls) false none false)
  | .credit _ buf beats => [beatTag 0 false (some (buf, beats)) true]
  | _ => []

/-- Credits return to the sender on an input port (R284). -/
def State.giveCredit (s : State) (src : Nat) (p : Packet) (cls : Nat) : State :=
  if src < 12 then { s with sent := s.sent ++ [.credit src (p.vc * 2 + cls) p.beats] } else s

/-! ## Switching (R284 to R286, R302, R303) -/

/-- Two packets of one ordered stream (R286). -/
def sameStream (a b : Packet) : Bool :=
  a.srcId == b.srcId && a.vc == b.vc && a.tag == b.tag && a.coll % 2 == b.coll % 2

/-- Packet e, which came before h, keeps h back: in the same input buffer (R284), from the same input and channel for the same exit (R285), or
a unicast packet of this module in the same stream to the same module (R286). -/
def holdsBack (e h : Transit) (sameExit : Bool) : Bool :=
  (e.src == h.src && e.pkt.vc == h.pkt.vc && (sameExit || (h.src < 12 && e.cls == h.cls)))
    || (12 ≤ e.src && 12 ≤ h.src && !e.pkt.mcast && !h.pkt.mcast && e.pkt.dst == h.pkt.dst && sameStream e.pkt h.pkt)

/-- The downstream buffer of an output has credit for all beats of a packet (R284). -/
def State.hasCredit (s : State) (h : Transit) (o : Nat × Nat) : Bool :=
  h.pkt.beats ≤ (s.rt.credit.getD o.1 []).getD (h.pkt.vc * 2 + o.2) 0

/-- Copy o of packet i may leave: no earlier packet keeps it back, and it has credit. -/
def State.canSend (s : State) (i : Nat) (h : Transit) (o : Nat × Nat) : Bool :=
  !((s.rt.held.take i).any fun e => holdsBack e h (e.outs.any fun x => x.1 == o.1)) && s.hasCredit h o

/-- Requesters of output port p that are eligible: index in `held`, requester number, class of the output (R303). -/
def State.eligible (s : State) (p : Nat) : List (Nat × Nat × Nat) :=
  (List.range s.rt.held.length).filterMap fun i =>
    match s.rt.held[i]? with
    | none => none
    | some h =>
      match h.outs.find? fun o => o.1 == p with
      | some o => if s.canSend i h o then some (i, 4 * h.src + h.pkt.vc, o.2) else none
      | none => none

/-- Class of requester r of port p (R303). -/
def State.arbClass (s : State) (p r : Nat) : Nat :=
  if r < 32 then bits (s.reg (A.SPK_ARB_CLS0 p)) (2 * r + 1) (2 * r)
  else bits (s.reg (A.SPK_ARB_CLS1 p)) (2 * (r - 32) + 1) (2 * (r - 32))

/-- The requester the arbiter grants: the highest class, then round robin from the pointer of that class (R302). -/
def State.grant (s : State) (p : Nat) : Option (Nat × Nat × Nat) :=
  let key := fun (x : Nat × Nat × Nat) =>
    s.arbClass p x.2.1 * 64 + (x.2.1 + 64 - s.rt.rr.getD (4 * p + s.arbClass p x.2.1) 0) % 64
  (s.eligible p).foldl (fun b x =>
    match b with
    | none => some x
    | some y => if key x < key y then some x else b) none

/-- A copy leaves on port p; the input buffer is freed when the last copy has left (R291). -/
def State.sendOut (s : State) (p i r cls : Nat) : State :=
  match s.rt.held[i]? with
  | none => s
  | some h =>
    let buf := h.pkt.vc * 2 + cls
    let n := h.pkt.beats
    let row := s.rt.credit.getD p []
    let outs := h.outs.filter fun o => o.1 != p
    let b := p * 4 + h.pkt.vc
    let s1 := { s with
      sent := s.sent ++ [.packet p cls h.pkt]
      rt := { s.rt with
        held := if outs.length = 0 ∧ h.loc = false then s.rt.held.eraseIdx i else s.rt.held.set i { h with outs := outs }
        credit := s.rt.credit.set p (row.set buf (row.getD buf 0 - n))
        out := s.rt.out ++ [⟨p, buf, h.pkt.tag, n⟩]
        rr := s.rt.rr.set (4 * p + s.arbClass p r) ((r + 1) % 64)
        beats := s.rt.beats.set b (s.rt.beats.getD b 0 + n) } }
    if outs.length = 0 ∧ h.loc = false then s1.giveCredit h.src h.pkt h.cls else s1

/-- Copies bound for a port that is not READY are discarded (R299). -/
def State.dropFor (s : State) (p : Nat) : State :=
  let hit := s.rt.held.filter fun h => h.outs.any fun o => o.1 == p
  let s1 := (s.add F.RT_DROP_PORT_DOWN hit.length).transitDrop p 3 (commonVc hit) hit.length
  let cut := s1.rt.held.map fun h => { h with outs := h.outs.filter fun o => o.1 != p }
  let s2 := { s1 with rt := { s1.rt with held := cut.filter fun h => h.outs.length != 0 || h.loc } }
  (cut.filter fun h => h.outs.length == 0 && !h.loc).foldl (fun s h => s.giveCredit h.src h.pkt h.cls) s2

/-- Numbers join a list that has each at most once. -/
def union (l xs : List Nat) : List Nat := xs.foldl (fun l x => if l.contains x then l else l ++ [x]) l

/-- The requesters of port p other than packet i that are eligible and not granted (R307). -/
def State.noteOutbid (s : State) (p i : Nat) : State :=
  { s with rt := { s.rt with outbid := union s.rt.outbid (((s.eligible p).filter fun x => x.1 != i).map fun x => 4 * p + x.2.1 % 4) } }

/-- Outputs at which a packet waits for credit now (R307). -/
def State.starvedNow (s : State) : List Nat :=
  s.rt.held.flatMap fun h => (h.outs.filter fun o => !s.hasCredit h o).map fun o => 4 * o.1 + h.pkt.vc

/-- Send what can be sent, port after port, until nothing more can leave. A packet leaves whole: how its beats share a link with others is
timing, which the model leaves out (log entry 87). -/
def State.pump : Nat → State → State
  | 0, s => s
  | fuel + 1, s =>
    let s1 := s.forN 12 fun s p => if s.rt.held.any (fun h => h.outs.any fun o => o.1 == p) && !s.unitReady (entPort p) then s.dropFor p else s
    match (List.range 12).findSome? fun p => (s1.grant p).map fun g => (p, g) with
    | some (p, i, r, c) => State.pump fuel ((s1.noteOutbid p i).sendOut p i r c)
    | none => s1

/-- Enough rounds of `pump` for every copy held; what still waits, waits for credit or behind a packet that does. -/
def State.pumpAll (s : State) : State :=
  let s1 := s.pump (s.rt.held.foldl (fun n h => n + h.outs.length) 0)
  { s1 with rt := { s1.rt with starved := union s1.rt.starved s1.starvedNow } }

/-! ## Delivery and routing -/

/-- Beats in the buffer of input port src for a virtual channel and class (R284). -/
def State.beatsHeld (s : State) (src vc cls : Nat) : Nat :=
  (s.rt.held.filter fun h => h.src == src && h.pkt.vc == vc && h.cls == cls).foldl (fun n h => n + h.pkt.beats) 0

/-- Beats in each buffer of a port rise to a new height (R307). -/
def State.notePeak (s : State) (src vc cls : Nat) : State :=
  if src < 12 then
    let i := src * 8 + vc * 2 + cls
    { s with rt := { s.rt with peak := s.rt.peak.set i (max (s.rt.peak.getD i 0) (s.beatsHeld src vc cls)) } }
  else s

/-- A packet joins those held, with copies to be sent and one for a unit of this module or not. A copy for this module that carries a discarded
tag is dropped (R216); with no copy left the beats are free again. -/
def State.enqueue (s : State) (src cls : Nat) (p : Packet) (outs : List (Nat × Nat)) (loc : Bool) : State :=
  let stale := loc && p.spec && s.seq.discarded.contains p.stepTag
  let s1 := if stale then s.bump F.SEQ_ERR_SPEC_DROP else s
  if outs.length = 0 ∧ (stale = true ∨ loc = false) then s1.giveCredit src p cls
  else
    (({ s1 with rt := { s1.rt with held := s1.rt.held ++ [⟨src, cls, s.now, p, outs, loc && !stale⟩] } } : State).notePeak
      src p.vc cls).pumpAll

/-- Route a packet that passed its checks (R276, R290, R291, R296). -/
def State.route (s : State) (src cls : Nat) (p : Packet) : State :=
  match s.bankOfTag p.tag with
  | none =>
    ((s.bump F.RT_STAT_EPOCH_STALE).faultOnce 0x0503 (fabricUnit src) false (mkWord [(63, 48, p.dst), (47, 32, p.srcId),
      (31, 30, p.tag), (29, 28, s.get F.RT_BANK_STATUS_SEND_EPOCH), (27, 24, fabricPort src)])).giveCredit src p cls
  | some b =>
    if p.mcast then
      match s.groupOuts b (p.dst % 64) src with
      | none => (s.unroutable src p true).giveCredit src p cls
      | some (outs, loc) =>
        s.enqueue src cls p outs loc
    else if p.dst = s.get F.RT_NODE_ID_ID ∧ s.on F.RT_NODE_ID_VALID then s.enqueue src cls p [] true
    else match routeOut (s.routeEntry b p.dst) p.coll with
    | none => (s.unroutable src p false).giveCredit src p cls
    | some o => if o.1 = src then (s.unroutable src p false).giveCredit src p cls else s.enqueue src cls p [o] false

/-- PACKET_HOP (R276, R282): a header arrives at a port in service. -/
def packetHop (port cls : Nat) (p : Packet) (s : State) : State :=
  if !s.unitReady (entPort port) then s
  else
    let c := p.check
    if c ≠ 0 then
      ((s.bump F.RT_STAT_HDR_CHECK).faultOnce 0x0502 (unitPort port) false (mkWord [(63, 48, p.dst), (47, 32, p.srcId),
        (31, 28, c), (27, 24, port)])).giveCredit port p (cls % 2)
    else s.route port (cls % 2) p

def execPacketHop (port cls : Nat) (pkt : Packet) (s : State) : Out := lively s port 12 (packetHop port cls pkt)

/-! ## Local sources (R271, R274, R276, R291) -/

/-- A local source of a die sends: without a valid send epoch or route it builds no packet and logs UNROUTABLE. -/
def State.sendLocal (s : State) (die : Nat) (x : Send) : State :=
  let src := 12 + die
  let p := x.packet (s.get F.RT_NODE_ID_ID) (s.get F.RT_BANK_STATUS_SEND_EPOCH)
  match s.sendBank with
  | none => s.unroutable src p x.mcast
  | some _ => s.route src 0 p

/-- A core's REMOTE signal (R106, R198, R280, R345): VC2, COLL_ID 0. -/
def State.sendSignal (s : State) (n : Nat) (d : Word) : State :=
  let step := s.on (F.CORE_CTRL_MODE n)
  s.sendLocal (dieOfSite n) {
    dst := bits d 51 36, kind := 0x03, vc := 2, spec := step, tag := if step then s.get F.SEQ_STEP_TAG else 0,
    w2 := mkWord [(63, 48, bits d 15 0), (47, 46, bits d 35 34), (45, 41, bits d 33 29), (40, 36, bits d 59 55)] }

/-! ## Age, credits -/

/-- AGE_LIMIT (R288): packet i held for a port or local source has reached its limit. -/
def ageLimit (src i : Nat) (s : State) : State :=
  let mine := (List.range s.rt.held.length).filter fun k => ((s.rt.held[k]?).map (·.src)) == some src
  match mine[i]? with
  | none => s
  | some k =>
    match s.rt.held[k]? with
    | none => s
    | some h =>
      if s.now - h.tick < max 1 (s.get (F.RT_AGE_A h.pkt.vc)) then s
      else
        let s1 := ({ s with rt := { s.rt with held := s.rt.held.eraseIdx k } }.bump F.RT_DROP_AGE).transitDrop src 1 h.pkt.vc 1
        (s1.giveCredit src h.pkt h.cls).pumpAll

def execAgeLimit (port idx : Nat) (s : State) : Out := lively s port 16 (ageLimit port idx)

/-- Returned credits count against the packets sent on the port and buffer, oldest first (R295). -/
def payBack (port buf : Nat) : Nat → List SentPkt → List SentPkt
  | _, [] => []
  | 0, l => l
  | n, o :: l =>
    if o.port = port ∧ o.buf = buf then
      (if o.beats ≤ n then payBack port buf (n - o.beats) l else { o with beats := o.beats - n } :: l)
    else o :: payBack port buf n l

/-- CREDIT_RETURN (R284, R295). -/
def creditReturn (port buf beats : Nat) (s : State) : State :=
  let row := s.rt.credit.getD port []
  ({ s with rt := { s.rt with
      credit := s.rt.credit.set port (row.set buf (min 34 (row.getD buf 0 + beats)))
      out := payBack port buf beats s.rt.out } } : State).pumpAll

def execCreditReturn (port buf beats : Nat) (s : State) : Out :=
  lively s port 12 fun s => if buf < 8 then creditReturn port buf beats s else s

/-- The buffers of port p empty and its credits start anew (R298, R299). -/
def State.portFresh (s : State) (p : Nat) : State :=
  { s with rt := { s.rt with
    credit := s.rt.credit.set p (List.replicate 8 34)
    out := s.rt.out.filter fun o => o.port != p } }

/-! ## Routing-table epochs (R292 to R294) -/

/-- The first check of R293 that a COMMIT fails; 0: none. -/
def State.commitCheck (s : State) (b tag : Nat) : Nat :=
  let es := (List.range 16).map fun e => s.reg (A.DERAILLEUR b e)
  let valid := es.filter fun e => bits e 63 63 == 1
  if s.bankState b ≠ 0 then 1
  else if s.bankState (1 - b) ≠ 0 ∧ s.bankTag (1 - b) = tag then 2
  else if ¬ s.on F.RT_NODE_ID_VALID then 3
  else if valid.any fun e => bits e 31 16 == s.get F.RT_NODE_ID_ID || !bitAt (bits e 15 0) (bits e 51 48)
      || bits e 47 44 < bits e 51 48 then 4
  else if valid.any fun e =>
      let r := s.routeEntry b (bits e 31 16)
      r / 2 ^ 15 % 2 == 0 || 12 ≤ r % 16 || r % 16 != bits e 59 56 || r / 2 ^ 13 % 2 != bits e 62 62
        || r / 2 ^ 8 % 16 != bits e 55 52 || r / 2 ^ 14 % 2 != bits e 61 61 then 5
  else 0

/-- BANK_COMMIT (R292, R293). -/
def bankCommit (b tag : Nat) (s : State) : State :=
  let c := s.commitCheck b tag
  if c ≠ 0 then s.set F.RT_BANK_STATUS_LAST_REFUSE c
  else
    let s1 := (s.setBank b 1).set (if b = 0 then F.RT_BANK_STATUS_B0_TAG else F.RT_BANK_STATUS_B1_TAG) tag
    { s1 with rt := { s1.rt with used := s1.rt.used.set b false } }

def execBankCommit (bank tag : Nat) (s : State) : Out := lively s bank 2 (bankCommit bank (tag % 4))

/-- BANK_DISCARD (R292): a LIVE bank never the send epoch since its commit, with no packet of its tag. -/
def bankDiscard (b : Nat) (s : State) : State :=
  if s.bankState b = 1 ∧ s.rt.used.getD b false = false ∧ s.drainSum (s.bankTag b) = 0 then s.setBank b 0 else s

def execBankDiscard (bank : Nat) (s : State) : Out := lively s bank 2 (bankDiscard bank)

/-- BANK_RETIRE (R292): at a slot boundary, its life has passed and no packet of its tag is left. -/
def bankRetire (b : Nat) (s : State) : State :=
  if s.bankState b = 2 ∧ s.atSlot ∧ s.rt.life.getD b 0 + s.get F.RT_LIFE_SLOTS ≤ s.slot ∧ s.drainSum (s.bankTag b) = 0 then
    s.setBank b 0
  else s

def execBankRetire (bank : Nat) (s : State) : Out := lively s bank 2 (bankRetire bank)

/-- SEND_SWITCH (R292, R294). -/
def sendSwitch (s : State) : State :=
  if !s.stagedDue A.RT_SEND_ACT then s
  else
    let s1 := s.stagedDone A.RT_SEND_ACT
    let t := s1.get F.RT_SEND_NEXT_EPOCH
    match (List.range 2).find? fun b => s1.bankState b == 1 && s1.bankTag b == t with
    | none => s1.set F.RT_BANK_STATUS_LAST_REFUSE 6
    | some b =>
      let s2 := match s1.sendBank with
        | some o => if o = b then s1 else
            { s1.setBank o 2 with rt := { s1.rt with life := s1.rt.life.set o s1.slot } }
        | none => s1
      let s3 := (s2.set F.RT_BANK_STATUS_SEND_EPOCH t).set F.RT_BANK_STATUS_SEND_VALID 1
      { s3 with rt := { s3.rt with used := s3.rt.used.set b true } }

def execSendSwitch (s : State) : Out := live s sendSwitch

/-- A count of beat times: 0 where nothing waited; how long a requester waited is timing, so else the count is a free value (log entry 87). -/
def State.beatTimes (s : State) (waited : Bool) : Word × State := if waited then s.fresh else (0, s)

/-- The congestion registers at a mark (R307, R418): beats sent, the fullest each buffer has been, and beat times waited; the counts start
anew, a buffer's from the beats it still holds. -/
def State.congSnap (s : State) : State :=
  let s1 := s.forN 12 fun s p => s.forN 4 fun s v =>
    let (a, s) := s.beatTimes (s.rt.outbid.contains (4 * p + v))
    let (c, s) := s.beatTimes (s.rt.starved.contains (4 * p + v))
    ((s.set (F.SPK_CONG_SNAP_SENT p v) (s.rt.beats.getD (p * 4 + v) 0)).set (F.SPK_CONG_SNAP_WAITED p v) a.toNat).set
      (F.SPK_CREDIT_SNAP_C p v) c.toNat
  let s2 := s1.forN 12 fun s p => s.forN 8 fun s b =>
    let most := s.rt.peak.getD (p * 8 + b) 0
    let (a, s) := s.beatTimes (17 < most)
    (s.set (F.SPK_BUF_SNAP_PEAK p b) most).set (F.SPK_BUF_SNAP_FULL p b) a.toNat
  { s2 with rt := { s2.rt with
    beats := List.replicate 48 0, outbid := [], starved := union [] s2.starvedNow
    peak := (List.range 96).map fun i => s2.beatsHeld (i / 8) (i % 8 / 2) (i % 2) } }

end Sys2Proof.Machine
end

