-- ==== Sys2Proof/Machine/Float.lean ====
section
/-! DEFINITION. Exact binary numbers, rounding to a grid, and the number formats of chapter 04 (R119 to R124, R129 to
R131, R140 to R145): decoding a code to its exact value, and the nearest, truncated and stochastic code of a value. -/
namespace Sys2Proof.Machine

/-! ## Exact values -/

/-- A value: finite with its sign (so that a zero keeps its sign) and magnitude m × 2^e, infinite, or no number. -/
inductive FV where
  | fin (neg : Bool) (m : Nat) (e : Int)
  | inf (neg : Bool)
  | nan
  deriving DecidableEq, Repr

/-- m × 2^k for k of either sign, truncated below one. -/
def shl (m : Nat) (k : Int) : Nat := if 0 ≤ k then m * 2 ^ k.toNat else m / 2 ^ (-k).toNat

/-- Compare m1 × 2^e1 with m2 × 2^e2 exactly. -/
def dyLe (m1 : Nat) (e1 : Int) (m2 : Nat) (e2 : Int) : Bool :=
  let e := min e1 e2
  shl m1 (e1 - e) ≤ shl m2 (e2 - e)

def dyLt (m1 : Nat) (e1 : Int) (m2 : Nat) (e2 : Int) : Bool := !dyLe m2 e2 m1 e1

/-- The signed mantissa of a finite value on the grid 2^e. -/
def FV.onGrid : FV → Int → Int
  | .fin n m e, g => if n then -(shl m (e - g) : Nat) else (shl m (e - g) : Nat)
  | _, _ => 0

def FV.exp : FV → Int
  | .fin _ _ e => e
  | _ => 0

/-- An exact sum of two finite values; a zero sum of opposite signs is +0, of equal signs keeps it. -/
def FV.addFin (a b : FV) : FV :=
  let g := min a.exp b.exp
  let s := a.onGrid g + b.onGrid g
  let neg := match a, b with
    | .fin n1 _ _, .fin n2 _ _ => if s = 0 then n1 && n2 else decide (s < 0)
    | _, _ => false
  .fin neg s.natAbs g

/-- Sum as IEEE 754 has it, before rounding. -/
def FV.add : FV → FV → FV
  | .nan, _ => .nan
  | _, .nan => .nan
  | .inf a, .inf b => if a = b then .inf a else .nan
  | .inf a, _ => .inf a
  | _, .inf b => .inf b
  | a, b => a.addFin b

/-- Product as IEEE 754 has it, before rounding. -/
def FV.mul : FV → FV → FV
  | .nan, _ => .nan
  | _, .nan => .nan
  | .inf a, .inf b => .inf (a != b)
  | .inf a, .fin b m _ => if m = 0 then .nan else .inf (a != b)
  | .fin a m _, .inf b => if m = 0 then .nan else .inf (a != b)
  | .fin a m e, .fin b n f => .fin (a != b) (m * n) (e + f)

def FV.neg : FV → FV
  | .fin n m e => .fin (!n) m e
  | .inf n => .inf (!n)
  | .nan => .nan

def FV.abs : FV → FV
  | .fin _ m e => .fin false m e
  | .inf _ => .inf false
  | .nan => .nan

/-- a < b for finite values. -/
def FV.ltFin (a b : FV) : Bool :=
  let g := min a.exp b.exp
  a.onGrid g < b.onGrid g

def FV.isFin : FV → Bool
  | .fin _ _ _ => true
  | _ => false

/-- a < b with infinities at the ends; false when either is no number. -/
def FV.lt : FV → FV → Bool
  | .nan, _ => false
  | _, .nan => false
  | .inf a, .inf b => a && !b
  | .inf a, _ => a
  | _, .inf b => !b
  | a, b => a.ltFin b

/-! ## Rounding to a grid -/

/-- Rounding modes (R90): to nearest, stochastic with its random value, toward zero. -/
inductive RMode where
  | near
  | stoch (r : Nat)
  | zero
  deriving DecidableEq, Repr

/-- n × 2^q with remainder rem ÷ 2^sh: the grid of precision p with least exponent qmin below m × 2^e. -/
def gridFloor (p : Nat) (qmin : Int) (m : Nat) (e : Int) : Nat × Int × Nat × Nat :=
  if m = 0 then (0, qmin, 0, 0)
  else
    let q := max ((Nat.log2 m : Int) + e - ((p : Int) - 1)) qmin
    if q ≤ e then (m * 2 ^ (e - q).toNat, q, 0, 0)
    else
      let sh := (q - e).toNat
      (m / 2 ^ sh, q, m % 2 ^ sh, sh)

/-- Whether the mode takes the upper neighbour (R140, R141, R142). -/
def RMode.up : RMode → Nat → Nat → Nat → Bool
  | .near, n, rem, sh => 2 ^ sh < 2 * rem || (2 * rem == 2 ^ sh && rem != 0 && n % 2 == 1)
  | .stoch r, _, rem, sh => r < rem * 65536 / 2 ^ sh
  | .zero, _, _, _ => false

/-- m × 2^e rounded to precision p and least exponent qmin: n × 2^q. -/
def roundGrid (p : Nat) (qmin : Int) (md : RMode) (m : Nat) (e : Int) : Nat × Int :=
  let (n, q, rem, sh) := gridFloor p qmin m e
  (if md.up n rem sh then n + 1 else n, q)

/-! ## Binary floating formats -/

/-- A binary floating format: precision, least exponent, exponent bits, largest finite magnitude maxM × 2^maxE. -/
structure FFmt where
  p : Nat
  qmin : Int
  ebits : Nat
  maxM : Nat
  maxE : Int
  deriving DecidableEq, Repr

def ffE4M3 : FFmt := ⟨4, -9, 4, 14, 5⟩
def ffE5M2 : FFmt := ⟨3, -16, 5, 7, 13⟩
def ffE2M1 : FFmt := ⟨2, -1, 2, 3, 1⟩
def ffBF16 : FFmt := ⟨8, -133, 8, 255, 120⟩
def ffF16 : FFmt := ⟨11, -24, 5, 2047, 5⟩
def ffF32 : FFmt := ⟨24, -149, 8, 16777215, 104⟩

/-- The bits of a code above the fraction: sign bit position. -/
def FFmt.signPos (f : FFmt) : Nat := f.ebits + f.p - 1

/-- The finite value of a code by the ordinary rule for sign, biased exponent and fraction (R121). -/
def FFmt.value (f : FFmt) (c : Nat) : FV :=
  let frac := c % 2 ^ (f.p - 1)
  let ex := c / 2 ^ (f.p - 1) % 2 ^ f.ebits
  let neg := c.testBit f.signPos
  if ex = 0 then .fin neg frac f.qmin else .fin neg (2 ^ (f.p - 1) + frac) (f.qmin + (ex : Int) - 1)

/-- IEEE 754 reading of a code whose top exponent is infinite or no number. -/
def FFmt.ieee (f : FFmt) (c : Nat) : FV :=
  let frac := c % 2 ^ (f.p - 1)
  let ex := c / 2 ^ (f.p - 1) % 2 ^ f.ebits
  if ex = 2 ^ f.ebits - 1 then (if frac = 0 then .inf (c.testBit f.signPos) else .nan) else f.value c

/-- The code of n × 2^q, which lies on the grid and does not exceed the largest magnitude. -/
def FFmt.code (f : FFmt) (neg : Bool) (n : Nat) (q : Int) : Nat :=
  let (n, q) := if 2 ^ f.p ≤ n then (n / 2, q + 1) else (n, q)
  let s := if neg then 2 ^ f.signPos else 0
  if n < 2 ^ (f.p - 1) then s + n else s + (q - f.qmin + 1).toNat * 2 ^ (f.p - 1) + (n - 2 ^ (f.p - 1))

/-- Whether n × 2^q exceeds the largest finite magnitude. -/
def FFmt.over (f : FFmt) (n : Nat) (q : Int) : Bool := dyLt f.maxM f.maxE n q

/-- The code of no number and of an infinity, in the IEEE formats (R120: 0x7FC0, 0x7E00, 0x7FC0_0000). -/
def FFmt.nanCode (f : FFmt) : Nat := (2 ^ f.ebits - 1) * 2 ^ (f.p - 1) + 2 ^ (f.p - 2)

def FFmt.infCode (f : FFmt) (neg : Bool) : Nat := (if neg then 2 ^ f.signPos else 0) + (2 ^ f.ebits - 1) * 2 ^ (f.p - 1)

/-- The code of the largest finite magnitude. -/
def FFmt.maxCode (f : FFmt) (neg : Bool) : Nat := f.code neg f.maxM f.maxE

/-- A value rounded to nearest, ties to even, as IEEE 754 does (R155). -/
def FFmt.round (f : FFmt) : FV → Nat
  | .nan => f.nanCode
  | .inf n => f.infCode n
  | .fin neg m e =>
    let (n, q) := roundGrid f.p f.qmin .near m e
    if f.over n q then f.infCode neg else f.code neg n q

/-- A value rounded to nearest, ties to even, where an overflow saturates (R163). The flag says that it did. -/
def FFmt.roundSat (f : FFmt) : FV → Nat × Bool
  | .nan => (f.nanCode, false)
  | .inf n => (f.infCode n, false)
  | .fin neg m e =>
    let (n, q) := roundGrid f.p f.qmin .near m e
    if f.over n q then (f.maxCode neg, true) else (f.code neg n q, false)

def f32 (c : Nat) : FV := ffF32.ieee c
def bf16 (c : Nat) : FV := ffBF16.ieee c
def f32Nan : Nat := 0x7FC00000
def f32Max (neg : Bool) : Nat := if neg then 0xFF7FFFFF else 0x7F7FFFFF

/-! ## Logarithmic formats (R121, R129, R130, R140 to R142) -/

/-- The fraction table (R130): 2^(j/16) rounded to nearest in a 24-bit significand, in units of 2^−23. -/
def fracTable : List Nat :=
  [8388608, 8760003, 9147842, 9552851, 9975792, 10417458, 10878679, 11360319,
   11863283, 12388516, 12937002, 13509772, 14107901, 14732511, 15384775, 16065917]

def frac (j : Nat) : Nat := fracTable.getD j 0

/-- The value the fraction table gives e eighths (R129): frac_table[2f] × 2^i. -/
def eighths (neg : Bool) (e : Int) : FV :=
  .fin neg (frac (2 * (e % 8).toNat)) (e / 8 - 23)

/-- A LNS format as steps per octave (8 or 2), the code of exponent 0 and the largest code. -/
structure LFmt where
  steps : Nat
  zero : Nat
  top : Nat
  deriving DecidableEq, Repr

def lf8 : LFmt := ⟨8, 64, 127⟩
def lf4 : LFmt := ⟨2, 4, 7⟩

/-- Exponent of a code in eighths (R129: exp8). -/
def LFmt.exp8 (f : LFmt) (c : Nat) : Int := ((c : Int) - f.zero) * (8 / f.steps : Nat)

/-- The magnitude the fraction table gives step n (R142). -/
def LFmt.mag (f : LFmt) (n : Int) : Nat × Int :=
  match eighths false (n * (8 / f.steps : Nat)) with
  | .fin _ m e => (m, e)
  | _ => (0, 0)

/-- The step n with 2^(n/steps) ≤ m × 2^e < 2^((n+1)/steps), exactly (R140). -/
def LFmt.step (f : LFmt) (m : Nat) (e : Int) : Int := (Nat.log2 (m ^ f.steps) : Int) + e * f.steps

/-- Whether m × 2^e reaches the threshold above step n (R140): 2^i × frac_table[2f + 1] for LNS8, 2^i × frac_table[8g + 4]
for LNS4. -/
def LFmt.reaches (f : LFmt) (n : Int) (m : Nat) (e : Int) : Bool :=
  let i := n / (f.steps : Int)
  let r := (n % (f.steps : Int)).toNat
  dyLe (frac (r * (16 / f.steps) + 8 / f.steps)) (i - 23) m e

/-- The step a magnitude rounds to; `none` is zero. -/
def LFmt.roundStep (f : LFmt) (md : RMode) (m : Nat) (e : Int) : Option Int :=
  let least : Int := 1 - (f.zero : Int)
  match md with
  | .near =>
    let n := f.step m e
    let r := if f.reaches n m e then n + 1 else n
    if r < least then none else some r
  | .zero =>
    let n := f.step m e
    if n < least then none else some n
  | .stoch r =>
    let n0 := f.step m e
    let le := fun (n : Int) => let (a, b) := f.mag n; dyLe a b m e
    let n := if le (n0 + 1) then n0 + 1 else if le n0 then n0 else n0 - 1
    let lo : Nat × Int := if n < least then (0, 0) else f.mag n
    let hi := if n < least then f.mag least else f.mag (n + 1)
    let g := min e (min lo.2 hi.2)
    let v := shl m (e - g)
    let l := shl lo.1 (lo.2 - g)
    let h := shl hi.1 (hi.2 - g)
    if r < (v - l) * 65536 / (h - l) then some (if n < least then least else n + 1)
    else if n < least then none else some n

/-! ## Format codes (R88, R120) -/

/-- Bits of a value of a format code. -/
def fmtWidth (f : Nat) : Nat :=
  if f = 2 ∨ f = 5 ∨ f = 7 then 4 else if f = 1 ∨ f = 3 ∨ f = 4 ∨ f = 6 then 8
  else if f = 8 ∨ f = 9 then 16 else if f = 0xD then 64 else 32

/-- Values of a format in a 128-byte element (R120). -/
def fmtCount (f : Nat) : Nat := 1024 / fmtWidth f

/-- Poison as the module writes it (R120). -/
def fmtPoison (f : Nat) : Nat :=
  match f with
  | 1 => 0x80 | 2 => 8 | 3 => 0x7F | 4 => 0x7F | 5 => 8 | 6 => 0x80 | 7 => 8 | 8 => 0x7FC0 | 9 => 0x7E00
  | 0xB => 0x80000000 | 0xC => 0x80000000 | _ => 0x7FC00000

/-- The floating formats. -/
def floatFmt (f : Nat) : Option FFmt :=
  match f with
  | 3 => some ffE4M3 | 4 => some ffE5M2 | 5 => some ffE2M1 | 8 => some ffBF16 | 9 => some ffF16 | 0xA => some ffF32
  | _ => none

def lnsFmt (f : Nat) : Option LFmt :=
  match f with
  | 1 => some lf8 | 2 => some lf4 | _ => none

/-- Largest magnitude of an integer format; block fixed-point saturates at 32,767 (R123). -/
def intMax (f : Nat) : Nat :=
  match f with
  | 6 => 127 | 7 => 7 | 0xC => 32767 | _ => 2 ^ 31 - 1

/-- The value a code of a format is read as (R121, R122); `nan` is poison. Block fixed-point reads as its mantissa. -/
def decodeFmt (f c : Nat) : FV :=
  match f with
  | 1 => if c % 128 = 0 then (if c = 0 then .fin false 0 0 else .nan) else eighths (c.testBit 7) (lf8.exp8 (c % 128))
  | 2 => if c % 8 = 0 then (if c = 0 then .fin false 0 0 else .nan) else eighths (c.testBit 3) (lf4.exp8 (c % 8))
  | 3 => if c % 128 = 127 then .nan else ffE4M3.value c
  | 4 => if c / 4 % 32 = 31 then .nan else ffE5M2.value c
  | 5 => if c = 8 then .nan else ffE2M1.value c
  | 8 => match bf16 c with
    | .inf _ => .nan
    | v => v
  | 9 => match ffF16.ieee c with
    | .inf _ => .nan
    | v => v
  | 0xA => match f32 c with
    | .inf _ => .nan
    | v => v
  | 0xD => match f32 (c % 2 ^ 32), f32 (c / 2 ^ 32) with
    | .fin a m e, .fin b n g => (FV.fin a m e).addFin (.fin b n g)
    | _, _ => .nan
  | _ =>
    let w := fmtWidth f
    if c = 2 ^ (w - 1) then .nan
    else let i := signed w c; .fin (decide (i < 0)) i.natAbs 0

/-- What a conversion did to a value (R145). -/
inductive CvKind where
  | plain | sat | flush | poison
  deriving DecidableEq, Repr

/-- An integer in two's complement of the format's width. -/
def intCode (f : Nat) (neg : Bool) (n : Nat) : Nat :=
  if neg then (2 ^ fmtWidth f - n) % 2 ^ fmtWidth f else n

/-- A finite value v formed into a normalised FP32 pair (R124); the rounding mode acts on the low part. -/
def pairOf (md : RMode) (v : FV) : Nat × CvKind :=
  match v with
  | .nan => (f32Nan, .poison)
  | .inf n => (f32Max n, .sat)
  | .fin neg m e =>
    let (n, q) := roundGrid 24 (-149) .near m e
    if ffF32.over n q then (f32Max neg, .sat)
    else
      let high := ffF32.code neg n q
      let rest := (FV.fin neg m e).addFin (FV.fin (!neg) n q)
      match rest with
      | .fin rn rm re =>
        let (ln, lq) := roundGrid 24 (-149) md rm re
        let low := if ln = 0 then 0 else ffF32.code rn ln lq
        (high + 2 ^ 32 * low, if m ≠ 0 ∧ n = 0 ∧ ln = 0 then .flush else .plain)
      | _ => (high, .plain)

/-- A scaled value converted to a format (R140 to R145, R123, R124). -/
def encodeFmt (f : Nat) (md : RMode) (v : FV) : Nat × CvKind :=
  match v with
  | .nan => (fmtPoison f, .poison)
  | .inf neg =>
    match lnsFmt f, floatFmt f with
    | some l, _ => (l.top + (if neg then l.top + 1 else 0), .sat)
    | _, some g => (g.maxCode neg, .sat)
    | _, _ => if f = 0xD then (f32Max neg, .sat) else (intCode f neg (intMax f), .sat)
  | .fin neg m e =>
    if f = 0xD then pairOf md (.fin neg m e)
    else match lnsFmt f, floatFmt f with
    | some l, _ =>
      if m = 0 then (0, .plain)
      else match l.roundStep md m e with
        | none => (0, .flush)
        | some n =>
          let s := if neg then l.top + 1 else 0
          let c := n + l.zero
          if (l.top : Int) < c then (s + l.top, .sat) else (s + c.toNat, .plain)
    | _, some g =>
      let (n, q) := roundGrid g.p g.qmin md m e
      if g.over n q then (g.maxCode neg, .sat)
      else if n = 0 then ((if f = 5 then 0 else g.code neg 0 q), if m = 0 then .plain else .flush)
      else (g.code neg n q, .plain)
    | _, _ =>
      let (n, q) := roundGrid 400 0 md m e
      let i := shl n q
      if intMax f < i then (intCode f neg (intMax f), .sat)
      else (intCode f neg i, if i = 0 ∧ m ≠ 0 then .flush else .plain)

/-! ## Values within an element (R119) -/

/-- Value i of an element or row whose values are w bits wide. -/
def valueAt (bs : List Byte) (w i : Nat) : Nat :=
  if w = 4 then (bs.getD (i / 2) 0).toNat / 16 ^ (i % 2) % 16
  else ofBytes ((bs.drop (i * (w / 8))).take (w / 8))

/-- The first n values. -/
def valuesOf (bs : List Byte) (w n : Nat) : List Nat := (List.range n).map (valueAt bs w)

/-- Bytes of values of w bits in ascending order (R119). -/
def packValues (w : Nat) (vs : List Nat) : List Byte :=
  if w = 4 then (List.range ((vs.length + 1) / 2)).map fun i =>
      BitVec.ofNat 8 (vs.getD (2 * i) 0 % 16 + 16 * (vs.getD (2 * i + 1) 0 % 16))
  else vs.flatMap (bytesOf (w / 8))

/-! ## Scales (R132, R135) -/

/-- A UE8M4 scale as mantissa and exponent: 2^(e − 127) × (1 + f/16), an exponent field of 255 acting as 254. -/
def ue8m4 (slot : Nat) : Nat × Int :=
  let e := min (slot / 16 % 256) 254
  (16 + slot % 16, (e : Int) - 131)

/-- RCP(s): 1 ÷ (m × 2^e) rounded to nearest in FP32 (R135); beyond the FP32 range, as for the product of two tiny scales, it is infinity
(DESIGN CHOICE, log entry 94). -/
def rcp32 (m : Nat) (e : Int) : FV :=
  let k := 40 + 2 * Nat.log2 (m + 1)
  let q := 2 ^ k / m
  let sticky := if 2 ^ k % m = 0 then 0 else 1
  f32 (ffF32.round (.fin false (2 * q + sticky) (-(k : Int) - e - 1)))

end Sys2Proof.Machine
end

