-- ==== Sys2Proof/Machine/Arith.lean ====
section
/-! DEFINITION. FP32 arithmetic on bit patterns, each operation rounded to nearest, ties to even: the update units (R220), the
sequencer's norm (R208) and the row engine use it. -/
namespace Sys2Proof.Machine

/-- The square root of a natural number, rounded down, bit by bit from bit k. -/
def rootGo (n : Nat) : Nat → Nat → Nat
  | 0, r => r
  | k + 1, r => let t := r + 2 ^ k; rootGo n k (if t * t ≤ n then t else r)

def root (n : Nat) : Nat := rootGo n (Nat.log2 n / 2 + 1) 0

/-- The exact quotient to enough bits, with a sticky bit below them. -/
def FV.div (a b : FV) : FV :=
  match a, b with
  | .nan, _ => .nan
  | _, .nan => .nan
  | .inf _, .inf _ => .nan
  | .inf n, .fin m _ _ => .inf (n != m)
  | .fin n _ _, .inf m => .fin (n != m) 0 0
  | .fin n1 m1 e1, .fin n2 m2 e2 =>
    if m2 = 0 then (if m1 = 0 then .nan else .inf (n1 != n2))
    else
      let k := 32 + Nat.log2 m2 + 1
      let x := m1 * 2 ^ k
      .fin (n1 != n2) (2 * (x / m2) + (if x % m2 = 0 then 0 else 1)) (e1 - e2 - k - 1)

/-- The exact square root to enough bits, with a sticky bit below them; of a negative number, no number. -/
def FV.sqrt : FV → FV
  | .nan => .nan
  | .inf n => if n then .nan else .inf false
  | .fin n m e =>
    if m = 0 then .fin n 0 0
    else if n then .nan
    else
      let (m1, e1) := if e % 2 = 0 then (m, e) else (2 * m, e - 1)
      let x := m1 * 2 ^ 64
      let r := root x
      .fin false (2 * r + (if r * r = x then 0 else 1)) ((e1 - 64) / 2 - 1)

def fAdd (a b : Nat) : Nat := ffF32.round ((f32 a).add (f32 b))
def fSub (a b : Nat) : Nat := ffF32.round ((f32 a).add (f32 b).neg)
def fMul (a b : Nat) : Nat := ffF32.round ((f32 a).mul (f32 b))
def fDiv (a b : Nat) : Nat := ffF32.round ((f32 a).div (f32 b))
def fSqrt (a : Nat) : Nat := ffF32.round (f32 a).sqrt
def fOne : Nat := 0x3F800000

/-- Whether the bits are a finite number. -/
def fFinite (a : Nat) : Bool := (f32 a).isFin

def fIsNan (a : Nat) : Bool := f32 a == .nan

/-- Less than zero. -/
def fNegative (a : Nat) : Bool := (f32 a).lt (.fin false 0 0)

/-- BF16 bits to FP32 bits, exactly; and FP32 bits rounded to nearest even BF16. -/
def widenBf16 (a : Nat) : Nat := a % 65536 * 65536
def narrowBf16 (a : Nat) : Nat := ffBF16.round (f32 a)

end Sys2Proof.Machine
end

