-- ==== Sys2Proof/Machine/Memory.lean ====
section
/-! DEFINITION. Near and far memory: the map, decoding an address, and one access within a granule (R170, R171, R230 to R246,
R257 to R260). -/
namespace Sys2Proof.Machine

/-! ## The map (R234, R235) -/

/-- Bytes of a pseudo-channel (R230). -/
def pcBytes : Nat := 768 * 2 ^ 20

def State.pcMapped (s : State) (pc : Nat) : Bool := bitAt (s.get (F.MC_PCMAP_MAPPED (pc / 32))) (pc % 32)
def State.pcRetired (s : State) (pc : Nat) : Bool := bitAt (s.get (F.MC_PCMAP_RETIRED (pc / 32))) (pc % 32)

/-- The channel list of a mode (R234). -/
def State.chanList (s : State) (mode die : Nat) : List Nat :=
  (if mode = 0 then (List.range 512).map fun j => 32 * (j % 16) + j / 16
    else (List.range 128).map fun j => 32 * (4 * die + j % 4) + j / 4).filter s.pcMapped

/-- The enabled regions when field f of the region registers holds `rd f`. -/
def State.regionsBy (s : State) (rd : Field → Nat) : List Region :=
  (List.range 16).filterMap fun r =>
    if rd (F.MAP_RGN_CFG_EN r) ≠ 0 ∧ rd (F.MAP_RGN_CFG_SPAN r) ≠ 0 then
      some ⟨r, rd (F.MAP_RGN_BASE_BASE r), rd (F.MAP_RGN_CFG_PC_START r), rd (F.MAP_RGN_CFG_SPAN r),
        s.chanList (rd (F.MAP_RGN_CFG_MODE r)) (rd (F.MAP_RGN_CFG_DIE r))⟩
    else none

/-- The enabled regions of the current region registers. -/
def State.regionRegs (s : State) : List Region := s.regionsBy s.get

/-- The enabled regions of the image (R237, R254). -/
def State.imageRegions (s : State) : List Region := s.regionsBy fun f =>
  match rowAt f.addr with
  | some r => bits (imageValue s f.addr r) f.hi f.lo
  | none => 0

def Region.size (r : Region) : Nat := r.chans.length * r.span * 2 ^ 20

/-- Decode a near-memory address in a map: pseudo-channel and address in it (R235). -/
def decodeMap (rs : List Region) (a : Nat) : Option (Nat × Nat) :=
  rs.findSome? fun r =>
    if r.base ≤ a ∧ a < r.base + r.size then
      let o := (a - r.base) / 256
      let n := r.chans.length
      some (r.chans.getD (o % n) 0, r.start * 2 ^ 20 + o / n * 256 + a % 256)
    else none

/-- A map comes into force (R237, R254): its sizes show, and GEN counts. -/
def State.applyMap (s : State) (rs : List Region) : State :=
  let s1 := (List.range 16).foldl (fun (s : State) r =>
    s.set (F.MAP_RGN_SIZE_SIZE r) (((rs.find? fun g => g.idx == r).map Region.size).getD 0)) s
  { s1.wrapAdd F.MAP_STATUS_GEN 1 with map := { regions := rs, next := none } }

/-- PCS_IN_MAP (R262). -/
def State.countPcs (s : State) : State := s.set F.MAP_STATUS_PCS_IN_MAP ((List.range 512).filter s.pcMapped).length

/-! ## Places -/

/-- Where a device address outside the register space lies (R410). -/
inductive Place where
  | near (pc off : Nat)
  | miss
  | far (p off : Nat)
  | void (p : Nat)
  | stage (d off : Nat)
  | none
  deriving DecidableEq, Repr

def State.place (s : State) (a : Nat) : Place :=
  if a < 0x006000000000 then
    match decodeMap s.map.regions a with
    | some (pc, off) => .near pc off
    | none => .miss
  else if 0x100000000000 ≤ a ∧ a < 0x120000000000 then
    let p := (a - 0x100000000000) / 2 ^ 40
    if s.fuse.s0 then .void p else .far p ((a - 0x100000000000) % 2 ^ 40)
  else if 0x310000000000 ≤ a ∧ a < 0x310002000000 then
    let o := a - 0x310000000000
    .stage (o / 0x800000) (o % 0x800000)
  else .none

/-- Near or far memory, as R279 asks of a packet's address. -/
def isMemory (a : Nat) : Bool := a < 0x006000000000 || (0x100000000000 ≤ a && a < 0x120000000000)

/-- Where a request comes from: its die, and its requester number there (R239). -/
structure Origin where
  die : Nat
  req : Nat
  deriving DecidableEq, Repr

/-- The number under which a request reaches the controllers of die d (R24, R239, R266). -/
def Origin.at (o : Origin) (d a : Nat) : Nat :=
  if o.die = d then o.req
  else if o.die = (d + 3) % 4 then 25
  else if o.die = (d + 1) % 4 then 26
  else if a / 256 % 2 = 1 then 26 else 25

/-! ## One access -/

inductive Access where
  | read (n : Nat)
  | write (bs : List Byte)
  | atomic (bs : List Byte)
  deriving DecidableEq, Repr

def Access.isAtomic : Access → Bool
  | .atomic _ => true
  | _ => false

/-- Bytes of an access. -/
def Access.size : Access → Nat
  | .read n => n
  | .write bs => bs.length
  | .atomic bs => bs.length

/-- What a read that completes RETIRED returns: zero (R236, R245). -/
def Access.zeros : Access → List Byte
  | .read n => List.replicate n 0
  | _ => []

/-- Status codes of a completion (R399). -/
def stOk : Nat := 0
def stBusy : Nat := 1
def stRetired : Nat := 2
def stRejected : Nat := 3
def stAbsent : Nat := 4
def stUnmapped : Nat := 5
def stMalformed : Nat := 6
def stTimeout : Nat := 7

def State.memctl (s : State) (n : Nat) : MemCtl := s.mc.getD n {}
def State.setMemctl (s : State) (n : Nat) (c : MemCtl) : State := { s with mc := s.mc.set n c }

/-- Status, data and state after an access. -/
structure Done where
  status : Nat
  data : List Byte
  st : State

/-- A request completed RETIRED for the state of a unit (R464, R465): RETIRED is logged once per unit and epoch. -/
def State.retired (s : State) (ent : Nat) : State :=
  let cause := if s.unit ent = usDraining then 1 else 2
  s.faultOnce 0x0905 (unitOfEntry ent) false (mkWord [(63, 60, cause), (31, 0, 1)])

/-- Requests into a unit are served (R463, R464). -/
def State.serves (s : State) (ent : Nat) : Bool := s.unit ent == usReady || s.unit ent == usStarting

/-- Add FP32 values element by element (R170): the bytes, and how many sums saturated. -/
def atomicSum (old new : List Byte) : List Byte × Nat :=
  let n := new.length / 4
  let rs := (List.range n).map fun i => ffF32.roundSat ((f32 (valueAt old 32 i)).add (f32 (valueAt new 32 i)))
  (packValues 32 (rs.map (·.1)), (rs.filter (·.2)).length)

/-- An access to a memory at an address of it, with the number of saturations. -/
def Mem.access (m : Mem) (a : Nat) : Access → List Byte × Mem × Nat
  | .read n => (m.load a n, m, 0)
  | .write bs => ([], m.store a bs, 0)
  | .atomic bs => let r := atomicSum (m.load a bs.length) bs; ([], m.store a r.1, r.2)

/-- Elements of 128 bytes that n bytes at a touch: each is one atomic add (R170). -/
def elements128 (a n : Nat) : Nat := (a + n + 127) / 128 - a / 128

/-- An atomic add of n bytes completed RETIRED at a controller (R246): each element counts, and one is logged per pseudo-channel and
epoch. -/
def State.atomicRetired (s : State) (pc req a n : Nat) : State :=
  let s1 := s.add (F.MC_ATOM_RETIRED (pc / 32)) (elements128 a n)
  s1.faultKey (0x10000 + pc) 0x0404 (unitMc (pc / 32)) false (mkWord [(63, 59, pc % 32), (58, 54, req), (47, 0, a)])

/-- What a device reports with the commands and bursts of a request: severity 1 CE, 2 UE (R242), with bank and row; commands reissued for
parity (R231); device poison on far-memory read data (R257). -/
structure Burst where
  sev : Nat
  bank : Nat
  row : Nat
  parity : Nat
  poison : Bool
  deriving DecidableEq, Repr

/-- The report of a request that carries none of its own: a free value (log entry 84). -/
def Burst.of (w : Word) : Burst := ⟨bits w 1 0, bits w 7 2, bits w 25 8, bits w 33 26, bits w 34 34 == 1⟩

def State.burst (s : State) : Option Burst → Burst × State
  | some r => (r, s)
  | none => (Burst.of s.fresh.1, s.fresh.2)

/-- Whether a request reads a burst of the stack: a write smaller than a 32-byte burst is a read-modify-write of it (R232). -/
def Access.readsBurst (off : Nat) : Access → Bool
  | .write bs => off % 32 != 0 || bs.length % 32 != 0
  | _ => true

/-- Whether a request to far memory reads the device. -/
def Access.readsFar : Access → Bool
  | .write _ => false
  | _ => true

/-- A grant of stack n: while THROTTLE is 1 the grants of a slot beyond FLOOR, at most 9,216, are withheld and counted (R250). How long a
grant is withheld is timing, which the model leaves out (log entry 84). -/
def State.grantMc (s : State) (n : Nat) : State :=
  let c := s.memctl n
  let k := if c.grantSlot = s.slot then c.grants else 0
  let beyond := c.throttle && min (s.get (F.MC_TEMP_CFG_FLOOR n)) 9216 ≤ k
  s.setMemctl n { c with granules := c.granules + 1, grantSlot := s.slot, grants := k + 1, withheld := c.withheld + boolBit beyond }

/-- What the stack reports with a request enters the counts and, for a read burst, the error log (R231, R242). -/
def State.eccNote (s : State) (n pc : Nat) (reads : Bool) (r : Burst) : State :=
  let s1 := s.add (F.MC_ECC_CA_PARITY n) r.parity
  if reads = false ∨ (r.sev ≠ 1 ∧ r.sev ≠ 2) then s1
  else
    let s2 := s1.bump (if r.sev = 1 then F.MC_ECC_CE n else F.MC_ECC_UE n)
    let c := s2.memctl n
    if 16 ≤ c.log.length then s2.bump (F.MC_ECC_LOG_LOST n)
    else s2.setMemctl n { c with log := c.log ++ [⟨r.sev, pc % 32, r.bank % 64, r.row % 2 ^ 18, s.now, s.epoch⟩] }

/-- An access to near memory within one granule, decoded (R232, R240, R242, R245, R246, R250, R251). -/
def State.nearAccess (s : State) (o : Origin) (a pc off : Nat) (x : Access) (rep : Option Burst := none) : Done :=
  let n := pc / 32
  let dead := !s.serves (entMc n)
  if dead ∨ s.pcRetired pc then
    let s1 := if x.isAtomic then s.atomicRetired pc (o.at (dieOfStack n) a) a x.size else s
    ⟨stRetired, x.zeros, if dead then s1.retired (entMc n) else s1⟩
  else
    let r := s.near.access (pc * pcBytes + off) x
    let b := ({ s with near := r.2.1 } : State).burst rep
    let s1 := (b.2.grantMc n).eccNote n pc (x.readsBurst off) b.1
    ⟨stOk, r.1, s1.add (F.MC_ATOM_SAT n) r.2.2⟩

/-- Capacity of a far-memory device in bytes (R258, R265). -/
def State.farCap (s : State) (p : Nat) : Nat := s.get (F.FAR_STATUS_CAP p) * 2 ^ 28

/-- An access to far memory (R246, R257 to R260): a read that comes with device poison is counted, and its data delivered. -/
def State.farAccess (s : State) (a p off : Nat) (x : Access) (rep : Option Burst := none) : Done :=
  let dead := !s.serves (entFar p)
  let beyond := !dead && s.farCap p ≤ off
  if dead ∨ beyond then
    let s1 := (if beyond then s.bump (F.FAR_ERR_BEYOND p) else s).bump (F.FAR_ERR_RETIRED p)
    let s2 := if x.isAtomic then s1.faultOnce 0x0404 (unitFar p) false (mkWord [(58, 54, 27), (47, 0, a)]) else s1
    ⟨stRetired, x.zeros, if dead then s2.retired (entFar p) else s2⟩
  else
    let r := (s.far.getD p {}).access off x
    let b := ({ s with far := s.far.set p r.2.1 } : State).burst rep
    let s1 := if x.readsFar && b.1.poison then b.2.bump (F.FAR_ERR_POISON p) else b.2
    ⟨stOk, r.1, s1.add (F.FAR_ATOM_SAT p) r.2.2⟩

/-- The void responder (R8): reads give GRADE_CODE in bits 15:0 of each word, and ABSENT_UNIT is logged. -/
def State.voidRead (s : State) (a n : Nat) : List Byte :=
  (List.range n).map fun i =>
    if (a + i) % 8 < 2 then BitVec.ofNat 8 (s.gradeCode / 256 ^ ((a + i) % 8)) else 0

/-- One request within one granule of near or far memory (R232, R236, R410). Reduction staging memory is `State.stageRead` and
`State.stageWrite`; anything else is no memory. -/
def State.memAccess (s : State) (o : Origin) (a : Nat) (x : Access) (rep : Option Burst := none) : Done :=
  match s.place a with
  | .near pc off => s.nearAccess o a pc off x rep
  | .miss => ⟨stRetired, x.zeros, s.bump F.MAP_ERR_MISS⟩
  | .far p off => s.farAccess a p off x rep
  | .void p =>
    ⟨stAbsent, (match x with
      | .read n => s.voidRead a n
      | _ => []), s.absentUnit (unitFar p) a⟩
  | .stage d off =>
    (if s.serves (entStage d) then
      match x with
      | .read n => ⟨stOk, s.stage.load (d * 0x800000 + off) n, s⟩
      | _ => ⟨stOk, [], s⟩
    else ⟨stRetired, x.zeros, s.retired (entStage d)⟩)
  | .none => ⟨stUnmapped, x.zeros, s⟩

/-! ## Longer accesses -/

/-- The requests of n bytes at a, one for each granule touched (R232): address and length. -/
def granules (a n : Nat) : List (Nat × Nat) :=
  (List.range ((a + n + 255) / 256 - a / 256)).map fun i =>
    let lo := max a ((a / 256 + i) * 256)
    (lo, min (a + n) ((a / 256 + i + 1) * 256) - lo)

/-- Read n bytes granule by granule. -/
def State.memRead (s : State) (o : Origin) (a n : Nat) (rep : Option Burst := none) : Done :=
  (granules a n).foldl (fun d g =>
    let r := d.st.memAccess o g.1 (.read g.2) rep
    ⟨if d.status = stOk then r.status else d.status, d.data ++ r.data, r.st⟩) ⟨stOk, [], s⟩

/-- Write or add bytes to near or far memory granule by granule. -/
def State.memPut (s : State) (o : Origin) (atomic : Bool) (a : Nat) (bs : List Byte) (rep : Option Burst := none) : Done :=
  (granules a bs.length).foldl (fun d g =>
    let part := (bs.drop (g.1 - a)).take g.2
    let r := d.st.memAccess o g.1 (if atomic then .atomic part else .write part) rep
    ⟨if d.status = stOk then r.status else d.status, [], r.st⟩) ⟨stOk, [], s⟩

/-! ## What a step writes (R196) -/

/-- The step with tag t writes n bytes at a. -/
def State.stepWrote (s : State) (t a n : Nat) : State :=
  if s.seq.wrote.contains (t, a, n) then s else { s with seq := { s.seq with wrote := (t, a, n) :: s.seq.wrote } }

/-- Bytes of a range are undefined: what they read as is a free value. -/
def State.spoil (s0 : State) (a n : Nat) : State :=
  (granules a n).foldl (fun s g =>
    let bs := (List.range g.2).map fun i => Config.rolledByte s0.freeCtr (g.1 + i)
    match s.place g.1 with
    | .near pc off => { s with near := s.near.store (pc * pcBytes + off) bs }
    | .far p off => { s with far := s.far.set p ((s.far.getD p {}).store off bs) }
    | .stage d off => { s with stage := s.stage.store (d * 0x800000 + off) bs }
    | _ => s) { s0 with freeCtr := s0.freeCtr + 1 }

/-- What steps with these tags wrote is undefined. -/
def State.spoilStep (s : State) (ts : List Nat) : State :=
  let s1 := (s.seq.wrote.filter fun w => ts.contains w.1).foldl (fun s w => s.spoil w.2.1 w.2.2) s
  { s1 with seq := { s1.seq with wrote := s1.seq.wrote.filter fun w => !ts.contains w.1 } }

/-- A read by the model that no unit makes (the contents of near memory as they stand, zero where nothing answers). -/
def State.memPeek (s : State) (a n : Nat) : List Byte := (s.memRead ⟨0, 27⟩ a n).data

end Sys2Proof.Machine
end

