-- ==== Sys2Proof/Machine/Update.lean ====
section
/-! DEFINITION. The version window (R199 to R202) and the fused update units (R218 to R221). -/
namespace Sys2Proof.Machine

/-! ## The version window -/

def State.pingPong (s : State) : Bool := s.on F.SEQ_CTRL_APPLY_MODE

/-- The address lies in V0 of the version window (R199). -/
def State.inWindow (s : State) (a : Nat) : Bool :=
  s.get F.SEQ_VWIN_BASE_BASE ≤ a && a < s.get F.SEQ_VWIN_BASE_BASE + s.get F.SEQ_VWIN_SIZE_SIZE

/-- An access that carries step tag t reaches version v of the window (R200). -/
def State.redirect (s : State) (write : Bool) (t a : Nat) : Nat :=
  if s.inWindow a then
    let v := if s.pingPong then (if write then (t + 1) % 2 else t % 2) else s.get F.VER_ACTIVE_ACTIVE
    a + v * s.get F.SEQ_VWIN_SIZE_SIZE
  else a

/-! ## One parameter (R220) -/

/-- The scalar record with the clip factor: GMUL, LR, BETA1, BETA2, EPS, WD, BC1, BC2 (R219). -/
structure Scal where
  gmul : Nat
  lr : Nat
  b1 : Nat
  b2 : Nat
  eps : Nat
  wd : Nat
  bc1 : Nat
  bc2 : Nat
  clip : Nat

def Scal.ofList (l : List Nat) (clip : Nat) : Scal :=
  let x := fun i => l.getD i 0
  ⟨x 0, x 1, x 2, x 3, x 4, x 5, x 6, x 7, clip⟩

/-- sign(x): −1, 0 or +1. -/
def fSign (a : Nat) : Nat :=
  match f32 a with
  | .nan => (Config.signOfNan a).toNat
  | .inf n => if n then 0xBF800000 else fOne
  | .fin n m _ => if m = 0 then 0 else if n then 0xBF800000 else fOne

/-- New p, m and v. -/
def updRule (c : Scal) (rule p m v x : Nat) : Nat × Nat × Nat :=
  let g := fMul (fMul x c.clip) c.gmul
  let wd := fMul c.wd p
  match rule with
  | 0 => (fSub p (fMul c.lr (fAdd g wd)), m, v)
  | 1 =>
    let m1 := fAdd (fMul c.b1 m) g
    (fSub p (fMul c.lr (fAdd m1 wd)), m1, v)
  | 2 =>
    let m1 := fAdd (fMul c.b1 m) (fMul (fSub fOne c.b1) g)
    let v1 := fAdd (fMul c.b2 v) (fMul (fSub fOne c.b2) (fMul g g))
    let d := fDiv (fMul m1 c.bc1) (fAdd (fSqrt (fMul v1 c.bc2)) c.eps)
    (fSub p (fMul c.lr (fAdd d wd)), m1, v1)
  | 3 =>
    let u := fSign (fAdd (fMul c.b1 m) (fMul (fSub fOne c.b1) g))
    (fSub p (fMul c.lr (fAdd u wd)), fAdd (fMul c.b2 m) (fMul (fSub fOne c.b2) g), v)
  | _ => (x, m, v)

/-- Arrays a rule reads beside the gradient: parameters, m, v. -/
def ruleReads (rule : Nat) : Bool × Bool × Bool :=
  (rule != 4, rule == 1 || rule == 2 || rule == 3, rule == 2)

/-! ## Groups -/

def updOrigin (n : Nat) : Origin := ⟨dieOfStack n, 28⟩

/-- The tag the apply carries: the head step's in ping-pong, which an APPLY of the head step runs. -/
def State.applyTag (s : State) : Nat := if s.pingPong then s.get F.SEQ_STEP_TAG else s.get F.SEQ_RETAIN_APPLY_TAG

/-- Group g of job k belongs to the unit beside stack n (R218). -/
def State.groupHome (s : State) (k g n : Nat) : Bool :=
  let a := s.redirect false s.applyTag (s.get (F.UJ_PARAM_ADDR k) + 256 * g)
  match s.place a with
  | .near pc _ => pc / 32 == n
  | _ => false

/-- The first group of job k from g on that belongs to unit n, within the next `fuel` groups. -/
def State.findGroup (s : State) (k n : Nat) : Nat → Nat → Option Nat
  | 0, _ => none
  | fuel + 1, g => if s.groupHome k g n then some g else State.findGroup s k n fuel (g + 1)

/-- A job that runs: EN set, and a rule that is not reserved (R218, R220). -/
def State.jobRuns (s : State) (k : Nat) : Bool := s.on (F.UJ_CTRL_EN k) && s.get (F.UJ_CTRL_RULE k) < 5

/-- Groups of a job (R218). -/
def State.jobGroups (s : State) (k : Nat) : Nat := s.get (F.UJ_COUNT_COUNT k) / 64

/-- The next group of unit n from a cursor, as job and group. -/
def State.nextGroup (s : State) (n : Nat) : Nat → Nat → Nat → Option (Nat × Nat)
  | 0, _, _ => none
  | fuel + 1, k, g =>
    if 32 ≤ k then none
    else if !s.jobRuns k then State.nextGroup s n fuel (k + 1) 0
    else match s.findGroup k n (s.jobGroups k - g) g with
    | some g' => some (k, g')
    | none => State.nextGroup s n fuel (k + 1) 0

/-- Where the cursor stands when no group is left: behind the last job that runs (R221). -/
def State.cursorEnd (s : State) (k g : Nat) : Nat × Nat :=
  match ((List.range 32).filter fun j => k ≤ j && s.jobRuns j).getLast? with
  | some j => (j + 1, 0)
  | none => (k, g)

/-- Values of an array of a group: 64 of FP32, or of BF16 widened. -/
def groupVals (bf : Bool) (bs : List Byte) : List Nat :=
  if bf then (valuesOf bs 16 64).map widenBf16 else valuesOf bs 32 64

def groupBytes (bf : Bool) (vs : List Nat) : List Byte := if bf then packValues 16 (vs.map narrowBf16) else packValues 32 vs

def bad16 (bf : Bool) (v : Nat) : Bool := !fFinite (if bf then widenBf16 (narrowBf16 v) else v)

/-- Unit n computes group g of job k and journals the new values (R219 to R221). -/
def State.updGroup (s : State) (n k g : Nat) : State :=
  let o := updOrigin n
  let t := s.applyTag
  let u := s.upd.getD n {}
  let fresh := decide (u.scal.length = 0) || s.get (F.UPD_CURSOR_JOB n) != k
  let rs := if fresh then
      let d := s.memRead o (s.redirect false t (s.get (F.UJ_SCAL_ADDR k))) 32
      (valuesOf d.data 32 8, d.st)
    else (u.scal, s)
  let s1 := rs.2
  let c := Scal.ofList rs.1 (s1.get F.SEQ_NORM_CLIP)
  let rule := s1.get (F.UJ_CTRL_RULE k)
  let mf := s1.on (F.UJ_CTRL_MFMT k)
  let gf := s1.on (F.UJ_CTRL_GFMT k)
  let (rp, rm, rv) := ruleReads rule
  let mw := if mf then 128 else 256
  let gw := if gf then 128 else 256
  let ap := s1.get (F.UJ_PARAM_ADDR k) + 256 * g
  let am := s1.get (F.UJ_M1_ADDR k) + mw * g
  let av := s1.get (F.UJ_M2_ADDR k) + mw * g
  let ax := s1.get (F.UJ_GRAD_ADDR k) + gw * g
  let rd := fun (s : State) (yes : Bool) (a w : Nat) =>
    if yes then let d := s.memRead o (s.redirect false t a) w; (d.data, d.st) else (List.replicate w 0, s)
  let (bp, s2) := rd s1 rp ap 256
  let (bm, s3) := rd s2 rm am mw
  let (bv, s4) := rd s3 rv av mw
  let (bx, s5) := rd s4 true ax gw
  let vp := groupVals false bp
  let vm := groupVals mf bm
  let vv := groupVals mf bv
  let vx := groupVals gf bx
  let out := (List.range 64).map fun i => updRule c rule (vp.getD i 0) (vm.getD i 0) (vv.getD i 0) (vx.getD i 0)
  let np := out.map (·.1)
  let nm := out.map (·.2.1)
  let nv := out.map (·.2.2)
  let wr := fun (a : Nat) => s5.redirect true t a
  let ws := [(wr ap, groupBytes false np)] ++ (if rm then [(wr am, groupBytes mf nm)] else [])
    ++ (if rv then [(wr av, groupBytes mf nv)] else [])
  let bad := (np.filter (bad16 false)).length + (if rm then (nm.filter (bad16 mf)).length else 0)
    + (if rv then (nv.filter (bad16 mf)).length else 0)
  let s6 := s5.add F.UPD_STATUS_NONFINITE bad
  let s7 := ((s6.set (F.UPD_CURSOR_JOB n) k).set (F.UPD_CURSOR_GROUP n) g).set (F.UPD_CURSOR_JVALID n) 1
  { s7 with upd := s7.upd.set n ⟨some (k, g, ws), rs.1, false⟩ }

/-- Unit n goes on from its cursor: the next group, or done (R221). -/
def State.updNext (s : State) (n : Nat) : State :=
  let k := if (s.upd.getD n {}).past then 32 else s.get (F.UPD_CURSOR_JOB n)
  let g := s.get (F.UPD_CURSOR_GROUP n)
  match s.nextGroup n 33 k g with
  | some (k', g') => s.updGroup n k' g'
  | none =>
    let e := s.cursorEnd k g
    let s0 := (s.set (F.UPD_CURSOR_JOB n) e.1).set (F.UPD_CURSOR_GROUP n) e.2
    let s1 : State := { s0 with upd := s0.upd.set n { s0.upd.getD n {} with past := e.1 == 32 } }
    let s2 := s1.set F.UPD_STATUS_DONE (s1.get F.UPD_STATUS_DONE ||| 2 ^ n)
    if s2.get F.UPD_STATUS_DONE = 0xFFFF then s2.set F.UPD_STATUS_RUNNING 0 else s2

/-- The units start the job list (R204, R220, R221); with `resume`, from their kept cursors and journals. -/
def State.updStart (s : State) (resume : Bool) : State :=
  let s1 := (s.set F.UPD_STATUS_DONE 0).set F.UPD_STATUS_RUNNING 1
  let bad := (List.range 32).filter fun k => s1.on (F.UJ_CTRL_EN k) && 5 ≤ s1.get (F.UJ_CTRL_RULE k)
  let s2 := s1.add F.SEQ_ERR_WRITE_DROP bad.length
  s2.forN 16 fun s n =>
    let u := s.upd.getD n {}
    if resume ∧ u.journal.isSome then { s with upd := s.upd.set n { u with scal := [] } }
    else
      let s3 := if resume then s else s.setReg (A.UPD_CURSOR n) 0
      ({ s3 with upd := s3.upd.set n ⟨none, [], resume && u.past⟩ } : State).updNext n

/-- The units stop where they stand (R204, R215). -/
def State.updStop (s : State) : State := s.set F.UPD_STATUS_RUNNING 0

/-- A write for the step with tag t at an address outside the version window is undone by a rollback (R196). -/
def State.stepWroteOut (s : State) (t a n : Nat) : State :=
  let b := s.get F.SEQ_VWIN_BASE_BASE
  if b ≤ a ∧ a < b + 2 * s.get F.SEQ_VWIN_SIZE_SIZE then s else s.stepWrote t a n

/-- The controller accepts the writes of unit n's group (R221): the writes that completed RETIRED are counted. -/
def State.updWrites (s : State) (n : Nat) (ws : List (Nat × List Byte)) : State × Nat :=
  ws.foldl (fun r w =>
    let d := r.1.memPut (updOrigin n) false w.1 w.2
    let s1 := if s.pingPong then d.st.stepWroteOut s.applyTag w.1 w.2.length else d.st
    if d.status = stRetired then (s1.bump F.UPD_STATUS_RETIRED, r.2 + 1) else (s1, r.2)) (s, 0)

/-- The journal clears and the cursor moves past the group. -/
def State.updPast (s : State) (n k g : Nat) : State :=
  let s1 := ((s.set (F.UPD_CURSOR_JOB n) k).set (F.UPD_CURSOR_GROUP n) (g + 1)).set (F.UPD_CURSOR_JVALID n) 0
  let u := s1.upd.getD n {}
  ({ s1 with upd := s1.upd.set n { u with journal := none } } : State).updNext n

end Sys2Proof.Machine
end

