-- ==== Sys2Proof/Machine/SeqBase.lean ====
section
/-! DEFINITION. What other blocks tell the step sequencer: causes and counts (R201, R209, R210), the global norm (R208), the
verdict result (R211), and the ping-pong apply that the norm starts (R204). -/
namespace Sys2Proof.Machine

/-- States of the head and the pending step (R204). -/
def sqIdle : Nat := 0
def sqLoad : Nat := 1
def sqRun : Nat := 2
def sqReduce : Nat := 3
def sqVerdict : Nat := 4
def sqCommit : Nat := 5
def sqApply : Nat := 6
def sqRollback : Nat := 7

def State.seqState (s : State) : Nat := s.get F.SEQ_STATE_STATE
def State.pendState (s : State) : Nat := s.get F.SEQ_STATE_PSTATE
def State.pendValid (s : State) : Bool := s.on F.SEQ_STEP_PEND_VALID
def State.setSeq (s : State) (x : Nat) : State := s.set F.SEQ_STATE_STATE x
def State.setPend (s : State) (x : Nat) : State := s.set F.SEQ_STATE_PSTATE x

/-- The head step runs: from entry to LOAD to entry to VERDICT (R210). -/
def State.stepOpen (s : State) : Bool :=
  let x := s.seqState
  x == sqLoad || x == sqRun || x == sqReduce || (x == sqApply && s.pingPong)

/-- IDLE with no step pending (R207). -/
def State.seqIdle (s : State) : Bool := s.seqState == sqIdle && !s.pendValid && s.pendState == 0

/-- A cause bit of the head step's vote (R204, R209). -/
def State.setCause (s : State) (c : Nat) : State :=
  (s.set F.SEQ_VOTE_CAUSE (s.get F.SEQ_VOTE_CAUSE ||| 2 ^ c)).set F.SEQ_STATE_FAILED 1

/-- A write that gated mode refuses (R201): dropped, counted, cause PLAN. -/
def State.vwinRefuse (s : State) : State := (s.bump F.SEQ_ERR_VWIN_WRITE).setCause 6

/-- The address a write that carries step tag t reaches; none when gated mode refuses it (R200, R201). -/
def State.stepWrite (s : State) (t a : Nat) : Option Nat :=
  if !s.pingPong && s.inWindow a then none else some (s.redirect true t a)

/-- A STEP core (R204). -/
def State.stepCores (s : State) : List Nat := (List.range 100).filter fun n => s.siteEnabled n && s.on (F.CORE_CTRL_MODE n)

/-- REDUCE in ping-pong with CLIP written and no pending step: the update units start (R204). -/
def State.tryApply (s : State) : State :=
  if s.pingPong ∧ s.seqState = sqReduce ∧ s.seq.normIn = true ∧ s.pendValid = false then (s.setSeq sqApply).updStart false
  else s

/-- Context NCTX delivers s, as FP32 bits, for step tag t (R208). -/
def State.normDeliver (s : State) (t x : Nat) : State :=
  if s.stepOpen ∧ s.get F.SEQ_STEP_TAG = t ∧ s.seqState ≠ sqApply then
    let bad := !fFinite x || fNegative x
    let norm := if bad then x else fSqrt x
    let mx := s.get F.SEQ_NORM_CFG_MAXNORM
    let clip := if bad then 0
      else if (f32 mx).lt (f32 norm) || f32 mx == .nan then fDiv mx norm else fOne
    let s1 := if bad then s.setCause 1 else s
    let s2 := (s1.memPut ⟨0, 27⟩ false (s1.get F.SEQ_REPORT_ADDR + 8) (bytesOf 4 norm ++ bytesOf 4 clip)).st.stepWrote t
      (s1.get F.SEQ_REPORT_ADDR + 8) 8
    let s3 := (s2.set F.SEQ_NORM_NORM norm).set F.SEQ_NORM_CLIP clip
    let s4 := if s3.on F.SEQ_NORM_CFG_NORM_SIG_EN then
        s3.stepCores.foldl (fun s n => s.addCounter n (16 + s.get F.SEQ_NORM_CFG_CNTSEL) 1 1) s3
      else s3
    ({ s4 with seq := { s4.seq with normIn := true } } : State).tryApply
  else s

/-- The verdict result for tag t (R211): mantissas 0 to 10 as 32-bit codes, and whether it is marked. -/
def State.verdictDeliver (s : State) (t : Nat) (r : List Nat) (marked : Bool) : State :=
  if s.on F.SEQ_RETAIN_LC_VALID ∧ s.get F.SEQ_RETAIN_LAST_COMMIT = t then s
  else
    let m := fun i => r.getD i 0
    let accept := !marked && m 10 == s.get F.SEQ_VCFG_VOTERS && m 0 == 0 && decide (signed 32 (m 9) ≤ s.get F.SEQ_LATE_ALLOW_ALLOW)
    let s1 := s.setReg A.SEQ_VERDICT (mkWord [(17, 17, boolBit accept), (16, 16, 1), (15, 0, t)])
    let s2 := s1.setReg A.SEQ_VSUM0 (mkWord [(63, 34, m 9), (33, 17, m 0), (16, 0, m 10)])
    let s3 := s2.setReg A.SEQ_VSUM1 (mkWord ((List.range 8).map fun c => (8 * c + 7, 8 * c, min (m (c + 1)) 255)))
    let late := s3.pendValid && s3.get F.SEQ_STEP_PEND_TAG == t && s3.on F.SEQ_STATE_MISSED
    { s3 with seq := { s3.seq with
      held := some (t, accept)
      late := if late then some (accept, 3, s3.now) else s3.seq.late } }

/-- SEQ_CHECK counts for a result decided here that carries tag t (R210): mismatches, failing poison results, late. -/
def State.seqCheck (s : State) (t csum pfail late : Nat) : State :=
  if s.stepOpen ∧ s.get F.SEQ_STEP_TAG = t then
    ((s.add F.SEQ_CHECK_CSUM csum).add F.SEQ_CHECK_PFAIL pfail).add F.SEQ_CHECK_LATE late
  else s

end Sys2Proof.Machine
end

