-- ==== Sys2Proof/Machine/Coll.lean ====
section
/-! DEFINITION. Collective contexts: staging memory and rounds (R312 to R317, R324 to R335), block fixed-point exponents and the
global norm (R318 to R322, R336, R337), context signals (R332, R345), and their part in steps (R350). -/
namespace Sys2Proof.Machine

/-! ## Contexts (R312 to R317) -/

def kReduce : Nat := 1
def kPeloton : Nat := 2
def kCaravan : Nat := 3

def State.cx (s : State) (c : Nat) : Ctx := s.ctx.getD c {}
def State.setCx (s : State) (c : Nat) (x : Ctx) : State := { s with ctx := s.ctx.set c x }
def State.cxState (s : State) (c : Nat) : Nat := s.get (F.RC_STATUS_STATE c)
def State.cxKind (s : State) (c : Nat) : Nat := s.get (F.RC_CFG_KIND c)
def State.cxTag (s : State) (c : Nat) : Nat := s.get (F.RC_STATUS_TAG c)
/-- An ACTIVE context of a kind. -/
def State.cxActive (s : State) (c k : Nat) : Bool := s.cxState c == 2 && s.cxKind c == k
/-- Rounds, or peloton generations, per run (R354: 0 acts as 1). -/
def State.cxRounds (s : State) (c : Nat) : Nat := max 1 (s.get (F.RC_CFG_ROUNDS c))
def State.stray (s : State) (c : Nat) : State := s.bump (F.RC_ERR_STRAY c)

/-- COLL_LAYOUT.OPEN (R317). -/
def State.countOpen (s : State) : State :=
  s.set F.COLL_LAYOUT_OPEN ((List.range 16).filter fun c => s.cxKind c == kReduce && s.cxState c != 0).length

def State.setCxState (s : State) (c x : Nat) : State := (s.set (F.RC_STATUS_STATE c) x).countOpen

/-- Bytes of a round, of a half, and where an area of a half lies in its die's staging memory (R314); area 0 LOCAL, 1 SUM,
2 + i LOG i. -/
def State.cxR (s : State) (c : Nat) : Nat := s.get (F.RC_SEG_RSIZE c) * 256
def State.cxHalf (s : State) (c : Nat) : Nat := (s.get (F.RC_CFG_NIN c) + 2) * s.cxR c
def State.cxHome (s : State) (c : Nat) : Nat := s.get (F.RC_CFG_HOME c)
def State.cxBase (s : State) (c : Nat) : Nat := s.get (F.RC_SEG_BASE c) * 65536
def State.cxArea (s : State) (c r k : Nat) : Nat :=
  s.cxHome c * 0x800000 + s.cxBase c + r % 2 * s.cxHalf c + k * s.cxR c

/-- D_r (R324). -/
def State.cxDeadline (s : State) (c r : Nat) : Nat := (s.cx c).d0 + r * s.get (F.RC_CFG_RSTRIDE c)

def State.cxRound (s : State) (c r : Nat) : Option Round := (s.cx c).rounds.find? fun x => x.num == r
/-- The round in a half. -/
def State.cxInHalf (s : State) (c h : Nat) : Option Round := (s.cx c).rounds.find? fun x => x.num % 2 == h

/-- RC_STATUS.ROUND: the lowest open round. -/
def State.showRound (s : State) (c : Nat) : State :=
  match ((s.cx c).rounds.filter fun x => x.phase == 0).map (·.num) with
  | [] => s
  | a :: l => s.set (F.RC_STATUS_ROUND c) (l.foldl min a)

def State.putRound (s : State) (c : Nat) (x : Round) : State :=
  let k := s.cx c
  (s.setCx c { k with rounds := k.rounds.map fun y => if y.num = x.num then x else y }).showRound c

/-- A context that runs for a step writes n bytes of memory at a (R196, R198). -/
def State.cxWrote (s : State) (c a n : Nat) : State := if (s.cx c).spec then s.stepWrote (s.cxTag c) a n else s

/-- A context writes near or far memory (R332). -/
def State.cxPut (s : State) (c a : Nat) (bs : List Byte) : State :=
  (s.memPut ⟨s.cxHome c, 27⟩ false a bs).st.cxWrote c a bs.length

/-- A round opens (R324): SUM is zero, nothing has arrived. -/
def State.openRound (s0 : State) (c r : Nat) : State :=
  if r < s0.cxRounds c then
    let s := s0.cxWrote c (0x310000000000 + s0.cxArea c r 0) (s0.cxHalf c)
    let k := s.cx c
    ({ s with
      stage := s.stage.zero (s.cxArea c r 1) (s.cxR c)
      ctx := s.ctx.set c { k with rounds := k.rounds ++ [{ num := r, ins := List.replicate (s.get (F.RC_CFG_NIN c) + 1) {} }] } }
      : State).showRound c
  else s0

/-- The context goes to IDLE (R317). -/
def State.cxIdle (s : State) (c : Nat) : State :=
  let k := s.cx c
  (s.setCx c { k with rounds := [], arrived := false, heard := 0, chained := false, stage := 0 }).setCxState c 0

/-! ## Signals of contexts and of packets to counters (R280, R301, R345) -/

/-- A SIGNAL to a logical core's counter: outside counters 16 to 23, to no core, or to a core that is down, draining or in reset
it is discarded and counted. -/
def State.coreSignal (s : State) (die lcore ctr inc src : Nat) : State :=
  match s.siteOf die lcore with
  | some n =>
    if s.serves (entCore n) = false then (s.bump F.RT_STAT_LOCAL_RETIRED).retired (entCore n)
    else if 16 ≤ ctr ∧ ctr ≤ 23 then s.addCounter n ctr inc src
    else s.bump F.RT_STAT_LOCAL_RETIRED
  | none => if lcore < 24 then s.bump F.RT_STAT_LOCAL_RETIRED else s

/-- RC_DONE (R332). -/
def State.rcDone (s : State) (c : Nat) : State :=
  if s.on (F.RC_DONE_EN c) then
    s.forN 4 fun s d =>
      if bitAt (s.get (F.RC_DONE_DIEMASK c)) d then
        s.forN 24 fun s k =>
          if bitAt (s.get (F.RC_DONE_LCMASK c)) k then
            s.coreSignal d k (s.get (F.RC_DONE_COUNTER c)) (s.get (F.RC_DONE_INCREMENT c)) 3
          else s
      else s
  else s

/-! ## Adding (R326, R330, R331) -/

def mantPoison : Nat := 0x80000000
/-- The mantissas of bytes, as 32-bit codes. -/
def mants (bs : List Byte) : List Nat := valuesOf bs 32 (bs.length / 4)
/-- The sum of sign-extended mantissas (R330). -/
def mantSum (bs : List Byte) : Int := (mants bs).foldl (fun a m => a + signed 32 m) 0

/-- One mantissa m into s, added (sign 1) or subtracted (sign −1): the new code, the change of CORR, saturation. -/
def addMant (sign : Int) (old m : Nat) : Nat × Int × Bool :=
  if m = mantPoison then (old, sign * signed 32 m, false)
  else
    let o := signed 32 old
    let t := o + sign * signed 32 m
    let n : Int := if 2147483647 < t then 2147483647 else if t < -2147483647 then -2147483647 else t
    (unsigned 32 n, sign * signed 32 m - (n - o), n != t)

/-- Bytes added into staging memory at a: the memory, the change of CORR, saturation. -/
def Mem.addMants (mem : Mem) (sign : Int) (a : Nat) (bs : List Byte) : Mem × Int × Bool :=
  let rs := ((mants (mem.load a bs.length)).zip (mants bs)).map fun p => addMant sign p.1 p.2
  (mem.store a (packValues 32 (rs.map (·.1))), rs.foldl (fun a r => a + r.2.1) 0, rs.any (·.2.2))

/-- Poison mantissas of bytes. -/
def poisons (bs : List Byte) : Nat := ((mants bs).filter (· == mantPoison)).length

/-- Bytes of input i of a round, already in its log, are added into SUM at offset off. -/
def State.addInput (s : State) (c : Nat) (x : Round) (i off : Nat) (bs : List Byte) (f : RedInput → RedInput) : State :=
  let r := s.stage.addMants 1 (s.cxArea c x.num 1 + off) bs
  let inp := x.ins.getD i {}
  let inp1 := f { inp with bytes := inp.bytes + bs.length, got := true, poison := inp.poison + poisons bs, stamp := s.now }
  ({ s with stage := r.1 } : State).putRound c
    { x with ins := x.ins.set i inp1, corr := x.corr + r.2.1, sat := x.sat || r.2.2 }

/-! ## The local input (R313, R326, R336) -/

/-- floor(x / 2^e) of a value that is not negative. -/
def floorAt (m : Nat) (e : Int) : Nat := if 0 ≤ e then m * 2 ^ e.toNat else m / 2 ^ (-e).toNat

/-- The two mantissas of a local sum of squares, and SAT (R336). -/
def normMants (nexp : Int) (x : Nat) : Nat × Nat × Bool :=
  match f32 x with
  | .fin false m e =>
    let q := floorAt m (e - nexp)
    let m0 := min q 32767
    let rest := floorAt m (e - nexp + 15) - m0 * 32768
    (m0, min rest 2147483647, q != m0)
  | .fin true 0 _ => (0, 0, false)
  | _ => (mantPoison, 0, false)

/-- NEXP of a context, signed. -/
def State.nexp (s : State) (c : Nat) : Int := signed 8 (s.get (F.RC_EXP_NEXP c))

/-- Bytes of the local input of an open round arrive; `chain` gives word 2, SAT and MARKED of a chained result. -/
def State.localAdd (s : State) (c : Nat) (x : Round) (off : Nat) (bs : List Byte) (chain : Option (Word × Bool × Bool)) : State :=
  let l := s.get (F.RC_CFG_NIN c)
  let conv := chain.isNone && s.on (F.RC_CFG_NORM c) && s.get (F.RC_SEG_RSIZE c) == 1 && off == 0 && decide (8 ≤ bs.length)
  let nm := normMants (s.nexp c) (ofBytes (bs.take 4))
  let bs1 := if conv then bytesOf 4 nm.1 ++ bytesOf 4 nm.2.1 ++ bs.drop 8 else bs
  let s1 := { s with stage := s.stage.store (s.cxArea c x.num 0 + off) bs1 }
  s1.addInput c x l off bs1 fun i =>
    let j := { i with csum := unsigned 64 ((i.csum : Int) + mantSum bs1), spans := i.spans ++ [(off, bs1.length)],
                      sat := i.sat || (conv && nm.2.2) }
    match chain with
    | none => { j with included := 1 }
    | some (w, st, md) =>
      { j with mask := bits w 63 48, included := bits w 47 32, poisonIn := bits w 31 16, lateIn := bits w 15 0, sat := st, marked := md }

/-- The context whose LOCAL area holds offset off of die d's staging memory, its half, and the offset in the area (R326). -/
def State.localOf (s : State) (d off : Nat) : Option (Nat × Nat × Nat) :=
  (List.range 16).findSome? fun c =>
    if s.cxKind c = kReduce ∧ s.get (F.RC_CFG_ROLE c) = 0 ∧ s.cxState c ≠ 0 ∧ s.on (F.RC_CFG_LOCAL_EN c) ∧ s.cxHome c = d then
      (List.range 2).findSome? fun h =>
        let lo := s.cxBase c + h * s.cxHalf c
        if lo ≤ off ∧ off < lo + s.cxR c then some (c, h, off - lo) else none
    else none

/-- A write into die d's staging memory (R313, R326). -/
def State.stageWrite (s : State) (d off : Nat) (bs : List Byte) : State :=
  match s.localOf d off with
  | none => { s with stage := s.stage.store (d * 0x800000 + off) bs }
  | some (c, h, o) =>
    match s.cxInHalf c h with
    | some x => if x.phase = 0 then s.localAdd c x o bs none else s.stray c
    | none => s.stray c

/-! ## Arming (R316, R317) -/

/-- The local bit: this module's position on the context's axis stage. -/
def State.cxPos (s : State) (c : Nat) : Nat := s.axisPos (s.get (F.RC_CFG_AXIS c)) (s.get (F.RC_CFG_STAGE c))
def State.cxMembers (s : State) (c : Nat) : Nat := s.members (s.get (F.RC_CFG_AXIS c)) (s.get (F.RC_CFG_STAGE c))

/-- The inputs in use (R325, R354). -/
def State.cxInputs (s : State) (c : Nat) : List Nat := (List.range (s.get (F.RC_CFG_NIN c))).filter fun i => s.on (F.RC_IN_VALID c i)

/-- OUT_NODE names a member of the axis stage (R316): this module, a neighbour of the Derailleur entries, or another member; where MEMBERS is 0
there is none. -/
def State.namesMember (s : State) (c : Nat) : Bool :=
  let node := s.get (F.RC_OUT_OUT_NODE c)
  let ax := s.get (F.RC_CFG_AXIS c)
  let st := s.get (F.RC_CFG_STAGE c)
  let near := match s.sendBank with
    | none => false
    | some b => (List.range 2).any fun d => let e := s.derailleur b st ax d; bits e 63 63 == 1 && bits e 31 16 == node
  s.cxMembers c != 0 && (node == s.get F.RT_NODE_ID_ID || near || Config.namesMember ax st node)

/-- The first check of R316 that arming fails; 0: none. -/
def State.armCheck (s : State) (c slot : Nat) : Nat :=
  let kind := s.cxKind c
  let lo := s.cxBase c
  let hi := lo + 2 * s.cxHalf c
  let m := s.cxMembers c
  let outside := fun x => (x &&& m) != x
  let others := (List.range 16).filter fun k => k != c && s.cxKind k == kReduce && s.cxState k != 0 && s.cxHome k == s.cxHome c
  if s.cxState c ≠ 0 then 1
  else if kind = kReduce ∧ (s.cxR c = 0 ∨ 0x800000 < hi) then 2
  else if kind = kReduce ∧ (others.any fun k => s.cxBase k < hi && lo < s.cxBase k + 2 * s.cxHalf k) then 3
  else if kind ≠ 0 ∧ (((s.cxInputs c).any fun i => outside (s.get (F.RC_IN_MASK c i)))
      ∨ ((kind = kReduce → s.on (F.RC_CFG_LOCAL_EN c) = true) ∧ outside (2 ^ s.cxPos c))) then 4
  else if s.on (F.RC_CFG_STEP_REL c) = false ∧ slot < s.slot + 2 then 5
  else if kind = 0 ∨ (kind = kPeloton ∧ s.namesMember c = false) ∨ (kind = kCaravan ∧ s.seqIdle = false) then 6
  else 0

/-- A context becomes ARMED (R317). -/
def State.cxArm (s : State) (c slot d0 : Nat) (spec : Bool) (tag : Nat) : State :=
  let k := s.cx c
  let s1 := s.setCx c { k with
    startSlot := slot, d0 := d0, deadline := s.get (F.RC_DL_DL c) != 0, spec := spec, vote := false, rounds := [], arrived := false, heard := 0,
    chained := false, stage := 0, recv := List.replicate 16 0 }
  let s2 := (((s1.set (F.RC_STATUS_ROUND c) 0).set (F.RC_STATUS_LGEN c) (s.get F.COLL_LAYOUT_CUR)).set (F.RC_STATUS_PGEN c) 0).set
    (F.RC_STATUS_TAG c) tag
  s2.setCxState c 1

/-- RC_ARM (R316): ARMED = 1 written to RC_START. -/
def rcArm (c slot : Nat) (s0 : State) : State :=
  let slot := slot % 2 ^ 56
  let s := s0.set (F.RC_START_START c) slot
  let k := s.armCheck c slot
  if k ≠ 0 then (s.set (F.RC_START_LAST_REFUSE c) k).bump (F.RC_ERR_REFUSED c)
  else
    let s1 := s.set (F.RC_START_ARMED c) 1
    if s.on (F.RC_CFG_STEP_REL c) then s1 else s1.cxArm c slot (s.extend48 (s.get (F.RC_DL_DL c))) false 0

def execRcArm (ctx slot : Nat) (s : State) : Out := lively s ctx 16 (rcArm ctx slot)

/-- The standing orders at an entry to LOAD of the step with start slot S (R316). -/
def State.armStep (s : State) (start tag : Nat) : State :=
  s.forN 16 fun s c =>
    if s.on (F.RC_CFG_STEP_REL c) ∧ s.on (F.RC_START_ARMED c) ∧ s.cxKind c ≠ 0 then
      if s.cxState c ≠ 0 then s.bump (F.RC_ERR_START_MISSED c)
      else
        let slot := start + s.get (F.RC_START_START c)
        s.cxArm c slot (slot * 256 + s.get (F.RC_DL_DL c)) true tag
    else s

/-- RC_ABORT (R317). -/
def rcAbort (c : Nat) (s : State) : State := (s.set (F.RC_START_ARMED c) 0).cxIdle c
def execRcAbort (ctx : Nat) (s : State) : Out := lively s ctx 16 (rcAbort ctx)

/-- COLL_ID of a packet (R315). -/
def State.collId (s : State) (c r dst : Nat) : Nat := r % 8 * 32 + dst % 16 * 2 + s.get (F.RC_CFG_PATH c)

/-- VCTX and the contexts its result reaches through CHAIN, of which the second number says how many may follow (R337). -/
def State.voteChain (s : State) (c : Nat) : Nat → List Nat
  | 0 => [c]
  | n + 1 => c :: (if s.on (F.RC_OUT_CHAIN c) then State.voteChain s (s.get (F.RC_OUT_CHAIN_CTX c)) n else [])

/-- A context that carries the vote (R198, R337): it is VCTX, or a later stage, which the vote reaches through CHAIN or in a packet. -/
def State.cxVote (s : State) (c : Nat) : Bool := (s.voteChain (s.get F.SEQ_VCFG_VCTX) 15).contains c || (s.cx c).vote

/-- SPEC of a context's packets: 1 for a step, and 0 for the vote (R198). -/
def State.cxSpec (s : State) (c : Nat) : Bool := (s.cx c).spec && !s.cxVote c

/-! ## Results at the module that stores or receives them (R208, R211, R322, R336, R337) -/

/-- s of a norm result as FP32 bits. -/
def State.normValue (s : State) (c : Nat) (bs : List Byte) (marked sat : Bool) : Nat :=
  let m0 := valueAt bs 32 0
  let m1 := valueAt bs 32 1
  let e := s.nexp c
  let v := fun (m : Nat) (e : Int) => FV.fin (decide (signed 32 m < 0)) (signed 32 m).natAbs e
  if m0 = mantPoison then f32Nan
  else if marked ∨ sat then 0x7F800000
  else ffF32.round ((v m0 e).add (v m1 (e - 15)))

/-- A round's result, with the raise of the working maxima (R322). -/
def State.raiseMax (s : State) (c r : Nat) (bs : List Byte) : State :=
  if s.on (F.RC_CFG_AUTO c) then
    let k := s.cx c
    let b := s.cxTag c % 2
    let g := s.get (F.RC_EXP_GRAN c)
    let rs := s.get (F.RC_SEG_RSIZE c)
    let w := (List.range (bs.length / 256)).foldl (fun w i =>
      let ms := (mants ((bs.drop (256 * i)).take 256)).filter (· != mantPoison)
      let top := ms.foldl (fun a m => max a (signed 32 m).natAbs) 0
      let key := b * 4096 + (r * rs + i) / 2 ^ g % 4096
      mapPut w key (max ((mapFind w key).getD 0) top) 0) k.wmax
    s.setCx c { k with wmax := w }
  else s

/-- The result of round r is stored or received here. -/
def State.resultHere (s : State) (c r : Nat) (bs : List Byte) (marked sat : Bool) : State :=
  let s1 := s.raiseMax c r bs
  let tag := s1.cxTag c
  let s2 :=
    if s1.on (F.RC_CFG_NORM c) ∧ s1.get (F.RC_SEG_RSIZE c) = 1 then
      let v := s1.normValue c bs marked sat
      let k := s1.cx c
      let s2 := s1.setCx c { k with norms := ((tag, v, sat) :: k.norms.filter fun n => n.1 != tag).take 2 }
      if c = s1.get F.SEQ_VCFG_NCTX then s2.normDeliver tag v else s2
    else s1
  if c = s2.get F.SEQ_VCFG_VCTX ∧ (s2.cx c).spec = true then s2.verdictDeliver tag (mants (bs.take 128)) marked else s2

/-! ## The close (R327 to R329) -/

/-- count(i) of R327 for an input whose mask names these members. -/
def RedInput.count (x : RedInput) (mask : Nat) : Nat :=
  if x.got then (if x.included = 0 ∧ x.mask ≠ 0 then 65536 else x.included)
  else ((List.range 16).filter (bitAt mask)).length

/-- The bytes of an input that were added: offset and length in its log. -/
def RedInput.parts (x : RedInput) (isLocal : Bool) : List (Nat × Nat) :=
  if isLocal then x.spans else if x.bytes = 0 then [] else [(0, x.bytes)]

/-- Which area of the half logs input i. -/
def State.logArea (s : State) (c i : Nat) : Nat := if i = s.get (F.RC_CFG_NIN c) then 0 else 2 + i

/-- An excluded input is taken out of SUM. -/
def State.exclude (s : State) (c : Nat) (x : Round) (i : Nat) : State × Round :=
  let inp := x.ins.getD i {}
  (inp.parts (i == s.get (F.RC_CFG_NIN c))).foldl (fun (s, x) p =>
    let bs := s.stage.load (s.cxArea c x.num (s.logArea c i) + p.1) p.2
    let r := s.stage.addMants (-1) (s.cxArea c x.num 1 + p.1) bs
    ({ s with stage := r.1 }, { x with corr := x.corr + r.2.1, sat := x.sat || r.2.2 })) (s, x)

/-- The positions at which an input's log holds poison. -/
def State.poisonAt (s : State) (c : Nat) (x : Round) (i : Nat) : List Nat :=
  let ms := mants (s.stage.load (s.cxArea c x.num (s.logArea c i)) (s.cxR c))
  (List.range ms.length).filter fun j => ms.getD j 0 == mantPoison

/-- The close of a round. -/
def State.close (s : State) (c : Nat) (x0 : Round) : State :=
  let nin := s.get (F.RC_CFG_NIN c)
  let dl := s.cxDeadline c x0.num
  let pm := s.get (F.RC_CFG_PMODE c)
  let inputs := s.cxInputs c ++ (if s.on (F.RC_CFG_LOCAL_EN c) then [nin] else [])
  let inp := fun i => x0.ins.getD i {}
  let mask := fun i => if i = nin then 2 ^ s.cxPos c else if (inp i).got then (inp i).mask else s.get (F.RC_IN_MASK c i)
  let late := inputs.filter fun i => (inp i).bytes < s.cxR c || (inp i).broken || dl < (inp i).stamp
  let rest := inputs.filter fun i => !late.contains i
  let pois := if pm = 1 then rest.filter fun i => (inp i).poison != 0 else []
  let inc := rest.filter fun i => !pois.contains i
  let (s1, x1) := (late ++ pois).foldl (fun (r : State × Round) i => r.1.exclude c r.2 i) (s, x0)
  -- rewrites of poisoned positions
  let pos := if pm = 1 then [] else ((inc.filter fun i => (inp i).poison != 0).flatMap fun i => s1.poisonAt c x1 i).eraseDups
  let (s2, x2) := pos.foldl (fun (r : State × Round) j =>
    let a := r.1.cxArea c x1.num 1 + 4 * j
    let old := r.1.stage.num a 4
    let new := if pm = 2 then 0 else mantPoison
    ({ r.1 with stage := r.1.stage.store a (bytesOf 4 new) }, { r.2 with corr := r.2.corr - (signed 32 new - signed 32 old) })) (s1, x1)
  let sum := fun (l : List Nat) (f : Nat → Nat) => (l.map f).foldl (· + ·) 0
  let lateAdd := sum late fun i => (inp i).count (if i = nin then 2 ^ s.cxPos c else s.get (F.RC_IN_MASK c i))
  let poison := if pm = 1 then pois.length + sum inc (fun i => (inp i).poisonIn)
    else if pm = 2 then pos.length + sum inc (fun i => (inp i).poisonIn) else pos.length
  let w2 := mkWord [(63, 48, inc.foldl (fun m i => m ||| mask i) 0), (47, 32, sum inc fun i => (inp i).included),
    (31, 16, min poison 0xFFFF), (15, 0, min (sum inc (fun i => (inp i).lateIn) + lateAdd) 0xFFFF)]
  let x3 := { x2 with
    phase := 1, sat := x2.sat || inc.any fun i => (inp i).sat, marked := inc.any fun i => (inp i).marked,
    expect := unsigned 64 (sum inc fun i => (inp i).csum : Nat), word2 := w2 }
  let s3 := s2.putRound c x3
  let head := [(63, 60, c), (59, 44, x0.num)]
  let s4 := if late.length = 0 then s3 else s3.faultAt 0x0602 (unitCtx c) false
    (mkWord (head ++ [(43, 28, late.foldl (fun m i => m ||| mask i) 0), (15, 0, min lateAdd 0xFFFF)])) (dl + 1)
  let held := inputs.filter fun i => (inp i).poison != 0
  let s5 := if held.length = 0 then s4 else s4.faultAt 0x0603 (unitCtx c) false
    (mkWord (head ++ [(43, 42, pm), (41, 26, held.foldl (fun m i => m ||| mask i) 0),
      (25, 0, min (sum held fun i => (inp i).poison) 0x3FFFFFF)])) (dl + 1)
  if (s.cx c).spec then s5.seqCheck (s.cxTag c) 0 (if (pm = 0 ∨ pm = 3) ∧ poison ≠ 0 then 1 else 0) lateAdd else s5

/-- ROUND_CLOSE (R327): after tick D_r, a decider closes the round in a half. -/
def roundClose (c h : Nat) (s : State) : State :=
  match s.cxInHalf c h with
  | some x =>
    if s.cxActive c kReduce ∧ s.get (F.RC_CFG_ROLE c) = 0 ∧ x.phase = 0 ∧ s.cxDeadline c x.num < s.now then s.close c x else s
  | none => s

def execRoundClose (ctx half : Nat) (s : State) : Out :=
  lively s ctx 16 fun s => if half < 2 then roundClose ctx half s else s

/-! ## Outputs (R332 to R334) -/

/-- POLICY of a packet. -/
def policyBits (pm : Nat) (marked sat last : Bool) : Nat :=
  pm * 2 ^ 14 + boolBit marked * 2 ^ 13 + boolBit sat * 2 ^ 12 + boolBit last * 2 ^ 11

/-- One FWD or BCAST packet with `bs` at offset off of round r. -/
def State.sendRed (s : State) (c r off : Nat) (bs : List Byte) (w2 : Word) (policy deadline : Nat) (fwd : Bool) (kind : Nat) : State :=
  s.sendLocal (s.cxHome c) {
    dst := if fwd then s.get (F.RC_OUT_OUT_NODE c) else s.get (F.RC_OUT_GROUP c)
    kind := kind, vc := 1, mcast := !fwd, spec := s.cxSpec c, tag := s.cxTag c, gen := s.get (F.RC_STATUS_LGEN c)
    coll := s.collId c r (if fwd then s.get (F.RC_OUT_OUT_CTX c) else c), offset := off / 32, w2 := w2, policy := policy
    deadline := deadline % 2 ^ 48, csum := unsigned 64 (mantSum bs), payload := bs }

/-- Offsets and lengths of the packets of R bytes (R332). -/
def packetParts (n : Nat) : List (Nat × Nat) := (List.range ((n + 4095) / 4096)).map fun i => (4096 * i, min 4096 (n - 4096 * i))

/-- The round record (R334). -/
def State.roundRecord (s : State) (c r : Nat) (w2 : Word) (policy expect : Nat) : List Byte :=
  bytesOf 8 w2.toNat ++ bytesOf 8 (mkWord [(63, 48, policy), (47, 0, s.cxDeadline c r)]).toNat
    ++ bytesOf 8 (mkWord [(63, 48, s.cxTag c), (47, 40, s.get (F.RC_STATUS_LGEN c)), (39, 32, c), (31, 0, r)]).toNat ++ bytesOf 8 expect

def State.storeRecord (s : State) (c r : Nat) (w2 : Word) (policy expect : Nat) : State :=
  s.cxPut c (s.get (F.RC_REC_ADDR_ADDR c) + 32 * r) (s.roundRecord c r w2 policy expect)

/-- CHAIN (R332): SUM becomes the local input of round r of CHAIN_CTX. -/
def State.chainTo (s : State) (k r : Nat) (bs : List Byte) (w2 : Word) (sat marked : Bool) : State :=
  match s.cxRound k r with
  | some x =>
    if s.cxActive k kReduce ∧ s.get (F.RC_CFG_ROLE k) = 0 ∧ s.on (F.RC_CFG_LOCAL_EN k) ∧ x.phase = 0 then
      s.localAdd k x 0 (bs.take (s.cxR k)) (some (w2, sat, marked))
    else s.stray k
  | none => s.stray k

/-- ROUND_SEND (R330 to R332, R336): the outputs of a closed round. -/
def State.sendRound (s : State) (c : Nat) (x : Round) : State :=
  let r := x.num
  let bs := s.stage.load (s.cxArea c r 1) (s.cxR c)
  let diff := unsigned 64 (mantSum bs + x.corr - (x.expect : Int))
  let spec := (s.cx c).spec
  let s1 := if diff = 0 then s else
    let s1 := s.fault 0x0601 (unitCtx c) false (mkWord [(63, 60, c), (59, 44, r), (43, 0, diff)])
    if spec then s1.seqCheck (s.cxTag c) 1 0 0 else s1
  let marked := x.marked || diff != 0
  let pm := s.get (F.RC_CFG_PMODE c)
  let final := policyBits pm marked x.sat true
  let pol := fun (p : Nat × Nat) => if p.1 + p.2 = s.cxR c then final else policyBits pm x.marked x.sat false
  let dl := s.cxDeadline c r
  let parts := packetParts (s.cxR c)
  let fw2 := if s.on (F.RC_OUT_FMASK c) then putBits x.word2 63 48 (2 ^ s.get (F.RC_OUT_OUT_POS c)) else x.word2
  let s2 := (s1.putRound c { x with phase := 2, marked := marked, policy := final }).setReg (A.RC_RESULT c) x.word2
  let s3 := if s.on (F.RC_OUT_FWD c) then parts.foldl (fun s p =>
    s.sendRed c r p.1 ((bs.drop p.1).take p.2) fw2 (pol p) (dl + s.get (F.RC_OUT_OUT_DDL c)) true 0x10) s2 else s2
  let s4 := if s.on (F.RC_OUT_BCAST c) then parts.foldl (fun s p =>
    s.sendRed c r p.1 ((bs.drop p.1).take p.2) x.word2 (pol p) dl false 0x11) s3 else s3
  let s5 := if s.on (F.RC_OUT_STORE c) then
      let s5 := (s4.cxPut c (s.get (F.RC_OUT_ADDR_ADDR c) + r * s.cxR c) bs).storeRecord c r x.word2 final x.expect
      s5.resultHere c r bs marked x.sat
    else s4
  if s.on (F.RC_OUT_CHAIN c) then s5.chainTo (s.get (F.RC_OUT_CHAIN_CTX c)) r bs x.word2 x.sat marked else s5

def roundSend (c h : Nat) (s : State) : State :=
  match s.cxInHalf c h with
  | some x => if s.cxActive c kReduce ∧ x.phase = 1 then s.sendRound c x else s
  | none => s

def execRoundSend (ctx half : Nat) (s : State) : Out :=
  lively s ctx 16 fun s => if half < 2 then roundSend ctx half s else s

/-- Packet h is an output of round r of context c: its FWD or its BCAST (R332, R333). -/
def State.isOutput (s : State) (c r : Nat) (h : Transit) : Bool :=
  h.src == 12 + s.cxHome c && (h.pkt.kind == 0x10 || h.pkt.kind == 0x11) &&
    (if h.pkt.mcast then h.pkt.dst == s.get (F.RC_OUT_GROUP c) && h.pkt.coll == s.collId c r c
     else h.pkt.dst == s.get (F.RC_OUT_OUT_NODE c) && h.pkt.coll == s.collId c r (s.get (F.RC_OUT_OUT_CTX c)))

/-- A packet of the round has still to be sent. -/
def State.unsent (s : State) (c r : Nat) : Bool := s.rt.held.any fun h => s.isOutput c r h && h.outs.length != 0

/-- ROUND_DONE (R317, R324, R332): the outputs are sent or accepted. -/
def roundDone (c h : Nat) (s : State) : State :=
  match s.cxInHalf c h with
  | some x =>
    if s.cxActive c kReduce ∧ x.phase = 2 ∧ s.unsent c x.num = false then
      let k := s.cx c
      let s1 := s.setCx c { k with rounds := k.rounds.filter fun y => y.num != x.num }
      let last := x.num + 1 = s.cxRounds c
      let s2 := if s.on (F.RC_DONE_EVERY c) ∨ last then s1.rcDone c else s1
      if last then s2.cxIdle c else s2.openRound c (x.num + 2)
    else s
  | none => s

def execRoundDone (ctx half : Nat) (s : State) : Out :=
  lively s ctx 16 fun s => if half < 2 then roundDone ctx half s else s

/-! ## Collective packets (R325, R326, R333, R349) -/

/-- R349: a packet of the wrong layout generation. -/
def State.layoutStale (s : State) (c : Nat) (p : Packet) : State :=
  (s.bump F.COLL_ERR_LAYOUT_STALE).faultKey 0 0x0604 (unitCtx c) false
    (mkWord [(63, 56, p.layoutGen), (55, 48, s.get F.COLL_LAYOUT_CUR), (47, 40, p.kind), (39, 24, p.srcId)])

/-- A context number of a packet (R315). -/
def packetCtx (p : Packet) : Nat := p.coll / 2 % 16

/-- An accepted packet of input i at a receiver (R332, R333): kept in SUM, stored and passed on as it arrives. -/
def State.receive (s : State) (c : Nat) (x : Round) (p : Packet) : State :=
  let r := x.num
  let off := p.offset * 32
  let inp := x.ins.getD 0 {}
  let n := inp.bytes + p.payload.length
  let last := bitAt p.policy 11
  let full := (x.last || last) && n == s.cxR c
  let csum := (inp.csum + p.w4.toNat) % 2 ^ 64
  let inp1 := { inp with bytes := n, got := true, mask := bits p.w2 63 48, csum := csum, stamp := s.now }
  let x1 := { x with ins := x.ins.set 0 inp1, phase := if full then 2 else 0, last := x.last || last, policy := p.policy, word2 := p.w2 }
  let s1 := (({ s with stage := s.stage.store (s.cxArea c r 1 + off) p.payload } : State).putRound c x1).setReg (A.RC_RESULT c) p.w2
  let dl := s.cxDeadline c r
  let s2 := if s.on (F.RC_OUT_FWD c) then
    s1.sendRed c r off p.payload p.w2 p.policy (dl + s.get (F.RC_OUT_OUT_DDL c)) true 0x11 else s1
  let s3 := if s.on (F.RC_OUT_BCAST c) then s2.sendRed c r off p.payload p.w2 p.policy dl false 0x11 else s2
  let s4 := if s.on (F.RC_OUT_STORE c) then
    s3.cxPut c (s.get (F.RC_OUT_ADDR_ADDR c) + r * s.cxR c + off) p.payload else s3
  if full then
    let bs := s4.stage.load (s.cxArea c r 1) (s.cxR c)
    let s5 := if s.on (F.RC_OUT_STORE c) then s4.storeRecord c r p.w2 p.policy csum else s4
    let s6 := s5.resultHere c r bs (bitAt p.policy 13) (bitAt p.policy 12)
    if s.on (F.RC_OUT_CHAIN c) then s6.chainTo (s.get (F.RC_OUT_CHAIN_CTX c)) r bs p.w2 (bitAt p.policy 12) (bitAt p.policy 13) else s6
  else s4

/-- RED_CONTRIB at a decider, RED_RESULT at a receiver: the checks of R325, in order. -/
def State.redPacket (s : State) (role : Nat) (p : Packet) : State :=
  let c := packetCtx p
  if s.cxActive c kReduce = false ∨ s.get (F.RC_CFG_ROLE c) ≠ role then s.stray c
  else
    let from_ := if role = 0 then (s.cxInputs c).find? fun i => s.get (F.RC_IN_SRC_ID c i) == p.srcId
      else if s.on (F.RC_IN_VALID c 0) ∧ s.get (F.RC_IN_SRC_ID c 0) = p.srcId then some 0 else none
    match from_ with
    | none => s.stray c
    | some i =>
      if p.stepTag ≠ s.cxTag c then s.stray c
      else if p.layoutGen ≠ s.get F.COLL_LAYOUT_CUR then s.layoutStale c p
      else match (s.cx c).rounds.find? fun x => x.phase == 0 && x.num % 8 == p.coll / 32 with
      | none => s.stray c
      | some x =>
        let inp := x.ins.getD i {}
        let off := p.offset * 32
        let m := bits p.w2 63 48
        let bad := inp.broken || p.deadline != s.cxDeadline c x.num % 2 ^ 48 || off != inp.bytes
          || decide (s.cxR c < off + p.payload.length) || (m &&& s.get (F.RC_IN_MASK c i)) != m || (inp.got && m != inp.mask)
        if bad then
          (s.putRound c { x with ins := x.ins.set i { inp with broken := true } }).bump (F.RC_ERR_BROKEN c)
        else
          let s0 := if (s.cx c).spec && !p.spec then s.setCx c { s.cx c with vote := true } else s
          if role = 1 then s0.receive c x p else
          let s1 := { s0 with stage := s0.stage.store (s0.cxArea c x.num (2 + i) + off) p.payload }
          s1.addInput c x i off p.payload fun j =>
            let j1 := if inp.got then j else
              { j with mask := m, included := bits p.w2 47 32, poisonIn := bits p.w2 31 16, lateIn := bits p.w2 15 0 }
            { j1 with csum := (j1.csum + p.w4.toNat) % 2 ^ 64, sat := j1.sat || bitAt p.policy 12, marked := j1.marked || bitAt p.policy 13 }

/-! ## Steps (R322, R336, R350) -/

/-- The smallest d with w ≤ 32,767 × 2^d, for w > 0 below 2^34. -/
def maxShift (w : Nat) : Int := ((((List.range 40).find? fun i => w * 2 ^ 15 ≤ 32767 * 2 ^ i).getD 40 : Nat) : Int) - 15

def clamp8 (e : Int) : Int := if e < -128 then -128 else if 127 < e then 127 else e

/-- An entry of a bank of exponents, signed. -/
def State.expt (s : State) (c b j : Nat) : Int := signed 8 (bits (s.reg (A.EXPT c b (j / 8))) (8 * (j % 8) + 7) (8 * (j % 8)))
def State.setExpt (s : State) (c b j : Nat) (e : Int) : State :=
  let a := A.EXPT c b (j / 8)
  s.setReg a (putBits (s.reg a) (8 * (j % 8) + 7) (8 * (j % 8)) (unsigned 8 e))

/-- The smallest E with s × 2^margin ≤ 32,767 × 2^E, for s = m × 2^e with m > 0. -/
def normExp (m : Nat) (e : Int) (margin : Nat) : Int :=
  let l := Nat.log2 m
  -- m × 2^15 × 2^(−l) lies in [2^15, 2^16)
  e + margin + l + (((List.range 4).find? fun i => m * 2 ^ 15 ≤ 32767 * 2 ^ (l + i)).getD 4 : Nat) - 15

/-- A commit of step t at every context (R350). -/
def State.collCommit (s : State) (t : Nat) : State :=
  let b := t % 2
  s.forN 16 fun s c =>
    let k := s.cx c
    let mg := s.get (F.RC_EXP_MARGIN c)
    let s1 :=
      if s.on (F.RC_CFG_AUTO c) then
        let s1 := (k.wmax.filter fun w => w.1 / 4096 == b).foldl (fun s w =>
          let j := w.1 % 4096
          s.setExpt c b j (clamp8 (s.expt c b j + mg + maxShift w.2))) s
        s1.setCx c { k with wmax := k.wmax.filter fun w => w.1 / 4096 != b }
      else s
    match k.norms.find? fun n => n.1 == t with
    | some (_, v, _) =>
      if s.on (F.RC_CFG_NORM c) then
        match f32 v with
        | .fin false m e => if m = 0 then s1 else s1.set (F.RC_EXP_NEXP c) (unsigned 8 (clamp8 (normExp m e mg)))
        | _ => s1
      else s1
    | none => s1

/-- A rollback of step t at every context (R350). -/
def State.collRollback (s : State) (t : Nat) : State :=
  s.forN 16 fun s c =>
    let s1 := if s.cxState c ≠ 0 ∧ (s.cx c).spec = true ∧ s.cxTag c = t then s.cxIdle c else s
    let k := s1.cx c
    let s2 := match k.norms.find? fun n => n.1 == t with
      | some (_, _, true) => s1.set (F.RC_EXP_NEXP c) (unsigned 8 (clamp8 (s1.nexp c + 16)))
      | _ => s1
    s2.setCx c { k with wmax := [], norms := k.norms.filter fun n => n.1 != t }

end Sys2Proof.Machine
end

