-- ==== Sys2Proof/Machine/Peloton.lean ====
section
/-! DEFINITION. Pelotons (R338 to R341) and Caravan (R346 to R349, R356), and the start of an armed context (R317, R324). -/
namespace Sys2Proof.Machine

/-! ## Pelotons -/

/-- This module is the master (R338). -/
def State.isMaster (s : State) (c : Nat) : Bool := s.get (F.RC_OUT_OUT_NODE c) == s.get F.RT_NODE_ID_ID

def State.pgen (s : State) (c : Nat) : Nat := s.get (F.RC_STATUS_PGEN c)

/-- Word 2 of a peloton packet. -/
def pelotonWord (mask gen : Nat) : Word := mkWord [(63, 48, mask), (47, 32, gen)]

/-- A member arrives for generation PGEN (R339); a member that is not the master tells the master. -/
def State.pelotonArrive (s : State) (c : Nat) : State :=
  if s.cxActive c kPeloton ∧ (s.cx c).arrived = false then
    let k := s.cx c
    let bit := 2 ^ s.cxPos c
    let s1 := s.setCx c (if s.isMaster c then { k with arrived := true, heard := k.heard ||| bit, heardAt := s.now }
      else { k with arrived := true })
    if s.isMaster c then s1
    else s1.sendLocal (s.cxHome c) {
      dst := s.get (F.RC_OUT_OUT_NODE c), kind := 0x12, vc := 0, spec := s.cxSpec c, tag := s.cxTag c, gen := s.get F.COLL_LAYOUT_CUR
      coll := s.collId c 0 c, w2 := pelotonWord bit (s.pgen c) }
  else s

/-- PELOTON_MEMBER_ARRIVE (R339): the watched counter has reached the target. -/
def pelotonMemberArrive (c : Nat) (s : State) : State :=
  let ctr := s.get (F.RC_ARR_COUNTER c)
  match s.siteOf (s.get (F.RC_ARR_DIE c)) (s.get (F.RC_ARR_LCORE c)) with
  | some n =>
    if s.cxActive c kPeloton ∧ s.on (F.RC_ARR_EN c) ∧ (s.cx c).arrived = false ∧ s.get (F.RC_ARR_TARGET c) ≤ s.get (F.CNT_VALUE n ctr) then
      (s.wrapAdd (F.RC_ARR_TARGET c) (s.get (F.RC_ARR_STEP c))).pelotonArrive c
    else s
  | none => s

def execPelotonMemberArrive (ctx : Nat) (s : State) : Out := lively s ctx 16 (pelotonMemberArrive ctx)

/-! ## Caravan (R346, R347, R356) -/

/-- A word of the move list. -/
def State.listWord (s : State) (c i : Nat) : Word :=
  BitVec.ofNat 64 (ofBytes (s.memPeek (s.get (F.RC_CARAVAN_LIST_ADDR c) + 8 * i) 8))

/-- The Caravan packets of one list entry. -/
def State.sendEntry (s : State) (c p : Nat) (src dst node len : Nat) : State :=
  (packetParts len).foldl (fun s q =>
    let d := s.memRead ⟨s.cxHome c, 27⟩ (src + q.1) q.2
    d.st.sendLocal (s.cxHome c) {
      dst := node, kind := 0x14, vc := 2, gen := s.get F.COLL_LAYOUT_CUR, coll := s.collId c p c, offset := q.1 / 32,
      w2 := BitVec.ofNat 64 ((dst + q.1) % 2 ^ 48), policy := p % 16, payload := d.data }) s

/-- Phase p begins: every list entry of the phase is sent, in list order. -/
def State.caravanPhase (s : State) (c p : Nat) : State :=
  let n := bits (s.listWord c 16) 31 0
  let s1 := (s.set (F.RC_STATUS_ROUND c) p).setCx c { s.cx c with stage := 2 }
  (List.range n).foldl (fun s i =>
    let w := fun k => s.listWord c (32 + 4 * i + k)
    if bits (w 2) 51 48 = p then s.sendEntry c p (bits (w 0) 47 0) (bits (w 1) 47 0) (bits (w 2) 47 32) (bits (w 2) 31 0) else s) s1

/-- The peloton of a Caravan has released: the next phase, or the end. -/
def State.caravanNext (s : State) (c : Nat) : State :=
  let st := (s.cx c).stage
  if st = 1 then s.caravanPhase c 0
  else if st = 3 then
    let p := s.get (F.RC_STATUS_ROUND c)
    if p = bits (s.listWord c 16) 35 32 then (s.rcDone c).cxIdle c else s.caravanPhase c (p + 1)
  else s

/-- CARAVAN_FENCE (R347). -/
def caravanFence (c : Nat) (s : State) : State :=
  if s.cxActive c kCaravan ∧ (s.cx c).stage = 0 ∧ s.get F.COLL_LAYOUT_OPEN = 0 then
    let g := s.get (F.RC_CARAVAN_NEW_GEN c)
    (((s.set F.COLL_LAYOUT_CUR g).set (F.RC_STATUS_LGEN c) g).setCx c { s.cx c with stage := 1 }).pelotonArrive
      (s.get (F.RC_CARAVAN_PCTX c))
  else s

def execCaravanFence (ctx : Nat) (s : State) : Out := lively s ctx 16 (caravanFence ctx)

/-- CARAVAN_PHASE_DONE (R347): the bytes of the phase have been received. -/
def caravanPhaseDone (c : Nat) (s : State) : State :=
  let p := s.get (F.RC_STATUS_ROUND c)
  if s.cxActive c kCaravan ∧ (s.cx c).stage = 2 ∧ (s.listWord c p).toNat = (s.cx c).recv.getD p 0 then
    (s.setCx c { s.cx c with stage := 3 }).pelotonArrive (s.get (F.RC_CARAVAN_PCTX c))
  else s

def execCaravanPhaseDone (ctx : Nat) (s : State) : Out := lively s ctx 16 (caravanPhaseDone ctx)

/-! ## Release (R340) -/

/-- A member acts on a release with a mask. -/
def State.pelotonFree (s : State) (c mask : Nat) : State :=
  let k := s.cx c
  let s1 := (s.rcDone c).setReg (A.RC_RESULT c) (mkWord [(63, 48, mask)])
  let s2 := if k.arrived then s1 else s1.wrapAdd (F.RC_ARR_TARGET c) (s1.get (F.RC_ARR_STEP c))
  let s3 := (s2.wrapAdd (F.RC_STATUS_PGEN c) 1).setCx c { k with arrived := false, heard := 0, chained := false }
  if s.pgen c + 1 = s.cxRounds c then s3.cxIdle c else s3

/-- The master multicasts the release to its group. -/
def State.sendRelease (s : State) (c mask : Nat) : State :=
  if s.isMaster c then
    s.sendLocal (s.cxHome c) {
      dst := s.get (F.RC_OUT_GROUP c), kind := 0x13, vc := 0, mcast := true, spec := s.cxSpec c, tag := s.cxTag c,
      gen := s.get F.COLL_LAYOUT_CUR, coll := s.collId c 0 c, w2 := pelotonWord mask (s.pgen c) }
  else s

/-- Peloton m has arrived through CHAIN at one of a list. -/
def State.chainedTo (s : State) (cs : List Nat) (m : Nat) : Bool :=
  s.cxActive m kPeloton && s.on (F.RC_OUT_CHAIN m) && (s.cx m).chained && cs.contains (s.get (F.RC_OUT_CHAIN_CTX m)) && !cs.contains m

/-- The contexts of this module that a release frees: the list's, and the pelotons that arrived at them through CHAIN, stage after stage. -/
def State.freedBy (s : State) : Nat → List Nat → List Nat
  | 0, cs => cs
  | fuel + 1, cs => State.freedBy s fuel (cs ++ (List.range 16).filter (s.chainedTo cs))

/-- Caravan v waits for the release of a peloton of the list. -/
def State.caravanWaits (s : State) (cs : List Nat) (v : Nat) : Bool :=
  s.cxActive v kCaravan && cs.contains (s.get (F.RC_CARAVAN_PCTX v)) && ((s.cx v).stage == 1 || (s.cx v).stage == 3)

/-- A release of context c acts on this module: on c, on the pelotons chained to it, whose masters release in turn, and on the Caravans that
waited. Contexts act in ascending order, as their signals do (R342). -/
def State.pelotonSpread (s0 : State) (c mask : Nat) : State :=
  let cs := s0.freedBy 16 [c]
  let vs := (List.range 16).filter (s0.caravanWaits cs)
  s0.forN 16 fun s v =>
    if v = c then s.pelotonFree c mask
    else if cs.contains v then (s.sendRelease v (s.cx v).heard).pelotonFree v (s.cx v).heard
    else if vs.contains v then s.caravanNext v
    else s

def State.pelotonRelease (s : State) (c mask : Nat) : State := (s.sendRelease c mask).pelotonSpread c mask

/-- All members have been heard. -/
def State.allHeard (s : State) (c : Nat) : Bool := let m := s.cxMembers c; (m &&& (s.cx c).heard) == m

/-- PELOTON_MASTER_RELEASE (R63, R340): the first slot boundary after the last member has arrived. -/
def pelotonMasterRelease (c : Nat) (s : State) : State :=
  if s.cxActive c kPeloton ∧ s.isMaster c ∧ s.atSlot ∧ (s.cx c).heardAt < s.now ∧ s.allHeard c ∧ (s.cx c).chained = false then
    if s.on (F.RC_OUT_CHAIN c) then (s.setCx c { s.cx c with chained := true }).pelotonArrive (s.get (F.RC_OUT_CHAIN_CTX c))
    else s.pelotonRelease c (s.cx c).heard
  else s

def execPelotonMasterRelease (ctx : Nat) (s : State) : Out := lively s ctx 16 (pelotonMasterRelease ctx)

/-- PELOTON_DEADLINE (R340): at a slot boundary after the deadline, the members missing are logged. -/
def pelotonDeadline (c : Nat) (s : State) : State :=
  let k := s.cx c
  if s.cxActive c kPeloton ∧ s.isMaster c ∧ s.atSlot ∧ k.deadline = true ∧ s.cxDeadline c (s.pgen c) < s.now then
    let miss := s.cxMembers c &&& (k.heard ^^^ 0xFFFF)
    let s1 := if miss = 0 then s else s.fault 0x0602 (unitCtx c) false
      (mkWord [(63, 60, c), (59, 44, s.pgen c), (43, 28, miss), (15, 0, ((List.range 16).filter (bitAt miss)).length)])
    s1.pelotonRelease c k.heard
  else s

def execPelotonDeadline (ctx : Nat) (s : State) : Out := lively s ctx 16 (pelotonDeadline ctx)

/-! ## Packets -/

/-- PELOTON_ARRIVE and PELOTON_RELEASE packets (R301, R340, R341, R349). -/
def State.pelotonPacket (s : State) (p : Packet) (release : Bool) : State :=
  let c := packetCtx p
  if s.serves (entCtx c) = false then (s.bump F.RT_STAT_LOCAL_RETIRED).retired (entCtx c)
  else if s.cxActive c kPeloton = false then s.stray c
  else if p.layoutGen ≠ s.get F.COLL_LAYOUT_CUR then s.layoutStale c p
  else if bits p.w2 47 32 ≠ s.pgen c then s.stray c
  else if release then s.pelotonSpread c (bits p.w2 63 48)
  else s.setCx c { s.cx c with heard := (s.cx c).heard ||| bits p.w2 63 48, heardAt := s.now }

/-- A write or atomic add of a packet's payload at an address (R200, R201, R279, R301): SPEC packets are redirected by their tag. -/
def State.packetPut (s : State) (die : Nat) (p : Packet) (atomic : Bool) : State :=
  let a := bits p.w2 47 0
  if !isMemory a then s.bump F.RT_STAT_LOCAL_RETIRED
  else
    let go := fun (s : State) (a : Nat) =>
      let d := s.memPut ⟨die, 27⟩ atomic a p.payload
      if d.status = stRetired ∧ s.place a ≠ .miss then d.st.bump F.RT_STAT_LOCAL_RETIRED else d.st
    if p.spec then
      match s.stepWrite p.stepTag a with
      | some b => (go s b).stepWroteOut p.stepTag b p.payload.length
      | none => s.vwinRefuse
    else go s a

/-- CARAVAN packets (R301, R346, R348, R349). -/
def State.caravanPacket (s : State) (die : Nat) (p : Packet) : State :=
  let c := packetCtx p
  let ph := p.policy % 16
  if s.serves (entCtx c) = false then (s.bump F.RT_STAT_LOCAL_RETIRED).retired (entCtx c)
  else if s.cxActive c kCaravan = false then s.stray c
  else if p.layoutGen ≠ s.get F.COLL_LAYOUT_CUR then s.layoutStale c p
  else if s.get (F.RC_STATUS_ROUND c) ≠ ph then s.stray c
  else
    let k := s.cx c
    (s.setCx c { k with recv := k.recv.set ph (k.recv.getD ph 0 + p.payload.length) }).packetPut die p false

/-! ## Activation -/

/-- RC_ACTIVATE (R317, R324): the boundary of the start slot. -/
def rcActivate (c : Nat) (s : State) : State :=
  if s.cxState c = 1 ∧ s.atSlot ∧ (s.cx c).startSlot ≤ s.slot then
    let s1 := s.setCxState c 2
    if s1.cxKind c = kReduce then (s1.openRound c 0).openRound c 1
    else if s1.cxKind c = kPeloton then
      if (List.range 16).any fun v => (s1.cxActive v kCaravan && s1.get (F.RC_CARAVAN_PCTX v) == c && ((s1.cx v).stage == 1 || (s1.cx v).stage == 3))
          || (s1.cxActive v kPeloton && s1.on (F.RC_OUT_CHAIN v) && s1.get (F.RC_OUT_CHAIN_CTX v) == c && (s1.cx v).chained) then
        s1.pelotonArrive c
      else s1
    else s1
  else s

def execRcActivate (ctx : Nat) (s : State) : Out := lively s ctx 16 (rcActivate ctx)

end Sys2Proof.Machine
end

