-- ==== Sys2Proof/Machine/Tensor.lean ====
section
/-! DEFINITION. The tensor array: products, the addition chain of an accumulator row, stationary buffers and the moving
element (R86, R87, R125 to R131, R153, R160 to R165). -/
namespace Sys2Proof.Machine

/-! ## Accumulators -/

/-- Byte address of row r of tile t of site n in the core memory (R160, R411). -/
def accAddr (n t r : Nat) : Nat := n * 0x1000000 + 0x800000 + t * 0x10000 + r * 0x200

/-- Byte address of element e of the core store of site n (R411). -/
def storeAddr (n e : Nat) : Nat := n * 0x1000000 + e * 128

/-- A stream writes local element, or accumulator row, e (R117): numbers run modulo the size of the core store, or of the 32 tiles. -/
def StreamRun.hits (r : StreamRun) (e : Nat) : Bool :=
  let m := if r.kind = 5 then 4096 else 65536
  (List.range r.rows).any fun i => (e + m - (r.first + i * r.stride) % m) % m < r.len

/-- A stream in progress of kind k writes e (R111). -/
def State.streaming (s : State) (n k e : Nat) : Bool := (s.cores.getD n {}).srun.any fun r => r.kind == k && r.hits e

/-- Undefined bytes at an address (R111). -/
def State.raceBytes (s : State) (n a k : Nat) : List Byte :=
  (List.range k).map fun i => Config.raceByte s.freeCtr (s.cores.getD n {}).cyc (a + i)

def State.accRow (s : State) (n t r : Nat) : List Byte :=
  if s.streaming n 5 (t * 128 + r) then s.raceBytes n (accAddr n t r) 512 else s.core.load (accAddr n t r) 512

/-- A row is written; against a stream in progress each element ends undefined (R111). -/
def State.setAccRow (s : State) (n t r : Nat) (bs : List Byte) : State :=
  let b := if s.streaming n 5 (t * 128 + r) then s.raceBytes n (accAddr n t r) 512 else bs
  { s with core := s.core.store (accAddr n t r) b }

/-! ## Products (R125, R129 to R131, R153) -/

/-- The family of a tensor format: 0 logarithmic; 1 floating; 2 integer; 3 not accepted (R125). -/
def family (f : Nat) : Nat :=
  if f = 1 ∨ f = 2 then 0 else if f = 3 ∨ f = 4 ∨ f = 5 ∨ f = 8 ∨ f = 9 then 1 else if f = 6 ∨ f = 7 then 2 else 3

/-- One product: `nan` is poison; a zero operand makes +0 (R131); an LNS product takes the fraction table (R129); CPASS 2
and 3 take 2^−8 of it (R153). -/
def product (fa fb cpass a b : Nat) : FV :=
  let x := decodeFmt fa a
  let y := decodeFmt fb b
  match x, y with
  | .fin n1 m1 e1, .fin n2 m2 e2 =>
    if m1 = 0 ∨ m2 = 0 then .fin false 0 0
    else
      let v := match lnsFmt fa, lnsFmt fb with
        | some l1, some l2 => eighths (n1 != n2) (l1.exp8 (a % (l1.top + 1)) + l2.exp8 (b % (l2.top + 1)))
        | _, _ => FV.fin (n1 != n2) (m1 * m2) (e1 + e2)
      if cpass = 2 ∨ cpass = 3 then
        match v with
        | .fin n m e => .fin n m (e - 8)
        | w => w
      else v
  | _, _ => .nan

/-- What a chain of additions left: the element's bits, the sign of the first saturation, and whether the array wrote
NaN or poison (R163, R164). -/
structure Chain where
  bits : Nat
  sat : Option Bool
  poison : Bool
  deriving DecidableEq, Repr

/-- FP32 chain (R162 to R164). -/
def chainF (start : FV) (ps : List FV) : Chain :=
  let r := ps.foldl (fun (c : FV × Option Bool × Bool) p =>
    let t := c.1.add p
    let q := ffF32.roundSat t
    let neg := match t with
      | .fin n _ _ => n
      | _ => false
    (f32 q.1, (if c.2.1.isNone ∧ q.2 then some neg else c.2.1), c.2.2 || t == .nan)) (start, none, false)
  ⟨ffF32.round r.1, r.2.1, r.2.2⟩

/-- INT32 chain (R162 to R164): poison stays; the limits are ±(2^31 − 1). -/
def chainI (start : Option Int) (ps : List FV) : Chain :=
  let lim : Int := 2 ^ 31 - 1
  let r := ps.foldl (fun (c : Option Int × Option Bool × Bool) p =>
    match c.1, p with
    | some a, .fin n m e =>
      let t := a + (FV.fin n m e).onGrid 0
      let u := max (-lim) (min lim t)
      (some u, (if c.2.1.isNone ∧ u ≠ t then some (decide (t < 0)) else c.2.1), c.2.2)
    | _, _ => (none, c.2.1, true)) (start, none, false)
  match r.1 with
  | some a => ⟨unsigned 32 a, r.2.1, r.2.2⟩
  | none => ⟨0x80000000, r.2.1, r.2.2⟩

/-- One element of an accumulator row under MAC or MAC_INIT (R162). -/
def macElem (int init : Bool) (old : Nat) (ps : List FV) : Chain :=
  if int then
    let start : Option Int := if init then some 0 else if old = 0x80000000 then none else some (signed 32 old)
    chainI start ps
  else
    match init, ps with
    | true, p :: rest => let c := chainF p rest; { c with poison := c.poison || p == .nan }
    | _, _ => chainF (f32 old) ps

/-- The 128 elements of a row after an update. -/
def MacUpd.apply (u : MacUpd) (row : List Byte) : List Chain :=
  let int := family u.fa == 2
  (List.range 128).map fun j =>
    let ps := (List.range u.vals.length).map fun i =>
      product u.fa u.fb u.cpass (u.vals.getD i 0) ((mapFind u.stat ((u.base + i) * 128 + j)).getD 0)
    macElem int u.init (valueAt row 32 j) ps

/-- Set bit i of a field of flags. -/
def State.setBit (s : State) (f : Field) (i : Nat) : State := s.set f (s.get f ||| 2 ^ i)

/-- An update of the tensor array reaches its accumulator row: SAT, POISON and ACC_SATURATE (R163 to R165). Against a stream that writes the
row it leaves the row undefined and nothing else (R111). -/
def State.landMac (s : State) (n : Nat) (u : MacUpd) : State :=
  if s.streaming n 5 (u.tile * 128 + u.row) then s.setAccRow n u.tile u.row []
  else
  let cs := u.apply (s.accRow n u.tile u.row)
  let s1 := s.setAccRow n u.tile u.row (packValues 32 (cs.map (·.bits)))
  let s2 := if cs.any (·.poison) then s1.setBit (F.ACC_FLAGS_POISON n) u.tile else s1
  match cs.findIdx? (fun c => c.sat.isSome) with
  | none => s2
  | some j =>
    let first := !bitAt (s2.get (F.ACC_FLAGS_SAT n)) u.tile
    let s3 := s2.setBit (F.ACC_FLAGS_SAT n) u.tile
    let sign := match cs[j]? with
      | some c => c.sat == some true
      | none => false
    if first ∧ ¬ u.msat then
      s3.fault 0x0201 (unitCore n) false (mkWord [(63, 51, u.pc), (50, 40, u.rep), (39, 35, u.tile), (34, 28, u.row),
        (27, 21, j), (20, 20, boolBit (family u.fa == 2)), (19, 19, boolBit sign)])
    else s3

/-! ## Stationary buffers (R128) -/

/-- LOAD writes one popped element into the shadow buffer at the row pointer, as columns with TRB. An 8-bit or 4-bit element starts at the
first column of the row the pointer stands in, also where it stands on half a row (log entry 91). -/
def loadShadow (buf : List (Nat × Nat)) (ptr fb : Nat) (trb : Bool) (bs : List Byte) : List (Nat × Nat) :=
  let w := fmtWidth fb
  let vals := valuesOf bs w (fmtCount fb)
  let row := ptr / 2
  let off := if w = 16 then ptr % 2 * 64 else 0
  let rec go (i : Nat) (b : List (Nat × Nat)) : List Nat → List (Nat × Nat)
    | [] => b
    | v :: vs =>
      let r := (row + i / 128) % 128
      let c := (off + i) % 128
      go (i + 1) (mapPut b (if trb then c * 128 + r else r * 128 + c) v 0) vs
  go 0 buf vals

/-- How far LOAD advances the row pointer, in half rows (R128). -/
def loadStep (fb : Nat) : Nat := if fmtWidth fb = 4 then 4 else if fmtWidth fb = 8 then 2 else 1

/-! ## The moving element (R87, R126, R127) -/

/-- MAC cycles of an element (R126). -/
def macCycles (wa wb : Nat) : Nat :=
  if wa = 4 then (if wb = 4 then 1 else if wb = 8 then 2 else 4)
  else if wa = 8 then (if wb = 16 then 2 else 1)
  else 1

/-- The row parts that cycle k of an element completes: (first value, count) of each (R126). -/
def macRows (wa wb k : Nat) : List (Nat × Nat) :=
  if wa = 4 then
    if wb = 4 then [(0, 128), (128, 128)]
    else if wb = 8 then [(128 * k, 128)]
    else if k % 2 = 1 then [(128 * (k / 2), 128)] else []
  else if wa = 8 then (if wb = 16 then (if k = 1 then [(0, 128)] else []) else [(0, 128)])
  else [(0, 64)]

end Sys2Proof.Machine
end

