-- ==== Sys2Proof/Machine/Vector.lean ====
section
/-! DEFINITION. Scales (R132 to R136), the random generator (R143), and the vector engine (R89, R151, R152, R155, R167 to
R169). A vector is 512 bytes: 128 lanes at VFMT 0, 256 at VFMT 1, 64 pairs at VFMT 2. -/
namespace Sys2Proof.Machine

/-! ## Scales -/

/-- The bank a bundle of core n uses (R133): bit 0 of SEQ_STEP.TAG in MODE = STEP, else FREE_BANK. -/
def State.bankOf (s : State) (n : Nat) : Nat :=
  if s.on (F.CORE_CTRL_MODE n) then s.get F.SEQ_STEP_TAG % 2 else s.get (F.CONV_CTRL_FREE_BANK n)

def State.coreAt (s : State) (n : Nat) : Core := s.cores.getD n {}

def State.setCore (s : State) (n : Nat) (c : Core) : State := { s with cores := s.cores.set n c }

/-- Slot i of entry k in bank b (R132, R133): entry 0 is 1.0; during a recompute a slot reads old or new (R149). -/
def State.slotVal (s : State) (n b k i : Nat) : Nat :=
  if k = 0 then 0x07F0
  else
    let old := bits (s.reg (A.SCALE_WORD n b (32 * k + i / 4))) (16 * (i % 4) + 15) (16 * (i % 4))
    let c := s.coreAt n
    if s.on (F.CONV_STATUS_AUTO_BUSY n) ∧ c.autoBank = b then
      match mapFind c.autoNew (k * 128 + i) with
      | some v => if Config.autoSeen s.freeCtr (k * 128 + i) then v else old
      | none => old
    else old

/-- The scale of value i under entry k, as mantissa and exponent (R134). -/
def State.scaleAt (s : State) (n b k i row : Nat) : Nat × Int :=
  let lane := i % 128
  let rw := row % 128
  match s.get (F.SCALE_CFG_MODE n k) with
  | 0 => ue8m4 (s.slotVal n b k lane)
  | 1 => ue8m4 (s.slotVal n b k rw)
  | 2 =>
    let (a, x) := ue8m4 (s.slotVal n b (k / 2 * 2) rw)
    let (c, y) := ue8m4 (s.slotVal n b (k / 2 * 2 + 1) lane)
    (a * c, x + y)
  | _ => ue8m4 (s.slotVal n b k 0)

/-- What entry k multiplies value i by (R135): s, or RCP(s) with DIR 1. -/
def State.factor (s : State) (n b k i row : Nat) : FV :=
  let (m, e) := s.scaleAt n b k i row
  if s.on (F.SCALE_CFG_DIR n k) then rcp32 m e else .fin false m e

/-! ## The random generator (R143) -/

/-- Lane l of draw n under a seed. -/
def drawLane (seed n l : Nat) : Nat :=
  let rnd := fun (x : Word) => let y := x ^^^ (x >>> 29); y * 0xA24BAED4963EE407#64
  let x := BitVec.ofNat 64 (n * 128 + l) ^^^ BitVec.ofNat 64 seed
  let x := rnd (rnd (rnd x))
  (x ^^^ (x >>> 32)).toNat % 2 ^ 32

/-! ## Free lanes -/

/-- k free bytes, k a multiple of 8. -/
def State.freeBytes (s : State) (k : Nat) : List Byte × State :=
  ((List.range (k / 8)).flatMap fun i => bytesOf 8 (Config.freeWord (s.freeCtr + i)).toNat,
    { s with freeCtr := s.freeCtr + k / 8 })

/-! ## Lanes -/

def vWidth (vfmt : Nat) : Nat := if vfmt = 1 then 16 else if vfmt = 2 then 64 else 32
def vLanes (vfmt : Nat) : Nat := 4096 / vWidth vfmt
def vForm (vfmt : Nat) : FFmt := if vfmt = 1 then ffBF16 else ffF32

/-- The format code of the vector engine's lanes. -/
def vCode (vfmt : Nat) : Nat := if vfmt = 1 then 8 else if vfmt = 2 then 0xD else 0xA

/-- A BF16 or FP32 lane widened to FP32 exactly. -/
def widen (vfmt c : Nat) : Nat := if vfmt = 1 then c * 65536 else c

/-! ## Approximating operations (R155) -/

/-- Integer square root, one bit a round. -/
def isqrtGo : Nat → Nat → Nat → Nat
  | 0, _, r => r
  | k + 1, n, r => let t := r + 2 ^ k; isqrtGo k n (if t * t ≤ n then t else r)

def isqrt (n : Nat) : Nat := isqrtGo (Nat.log2 n / 2 + 1) n 0

/-- 1 ÷ (m × 2^e) to 80 bits and more. -/
def recipExact (m : Nat) (e : Int) : Nat × Int :=
  let k := 90 + Nat.log2 (m + 1)
  (2 * (2 ^ k / m) + (if 2 ^ k % m = 0 then 0 else 1), -(k : Int) - e - 1)

/-- 1 ÷ √(m × 2^e) to 80 bits and more. -/
def rsqrtExact (m : Nat) (e : Int) : Nat × Int :=
  let (m, e) := if e % 2 = 0 then (m, e) else (2 * m, e - 1)
  let k := 100 + Nat.log2 (m + 1)
  (2 * isqrt (2 ^ (2 * k) / m) + 1, -(k : Int) - e / 2 - 1)

/-- 2^(f ÷ 2^64) × 2^64 for f below 2^64: the bits of f select successive square roots of 2. -/
def exp2Frac : Nat → Nat → Nat → Nat → Nat
  | 0, _, _, acc => acc
  | k + 1, f, root, acc =>
    exp2Frac k f (isqrt (root * 2 ^ 64)) (if f.testBit k then acc * root / 2 ^ 64 else acc)

/-- 2^x for x = m × 2^e, signed; far below the smallest number it is a fixed tiny value. -/
def exp2Exact (neg : Bool) (m : Nat) (e : Int) : Nat × Int :=
  let x : Int := let v := shl m (e + 64); if neg then -(v : Int) else v
  let i := x / 2 ^ 64
  let f := (x % 2 ^ 64).toNat
  if i < -1000 then (1, -1000) else (exp2Frac 64 f (isqrt (2 ^ 129)) (2 ^ 64), i - 64)

/-- 64 bits of log2 of y ÷ 2^63 in [1, 2), by squaring. -/
def log2Frac : Nat → Nat → Nat → Nat
  | 0, _, acc => acc
  | k + 1, y, acc =>
    let z := y * y / 2 ^ 63
    if 2 ^ 64 ≤ z then log2Frac k (z / 2) (2 * acc + 1) else log2Frac k z (2 * acc)

/-- log2 of m × 2^e in units of 2^−64. -/
def log2Exact (m : Nat) (e : Int) : Int :=
  let l := Nat.log2 m
  let y := if l ≤ 63 then m * 2 ^ (63 - l) else m / 2 ^ (l - 63)
  ((l : Int) + e) * 2 ^ 64 + (log2Frac 64 y 0 : Nat)

/-- One of the codes within 2 units in the last place of the exact value (R155); which one is left open. -/
def ulpPick (vop vfmt a : Nat) (neg : Bool) (m : Nat) (e : Int) : Nat :=
  let f := vForm vfmt
  let (n, q) := roundGrid f.p f.qmin .near m e
  if f.over n q then (Config.vecOpen vop vfmt a 0).toNat % 2 ^ vWidth vfmt
  else
    let r := f.code false n q
    let k := Config.ulpOffset vop vfmt a % 5
    let cand := r + k - 2
    let c := match f.ieee cand with
      | .fin _ cm ce =>
        let g := min (min ce e) q
        let d := (shl cm (ce - g) : Int) - shl m (e - g)
        if 2 ≤ r + k ∧ d.natAbs ≤ shl 2 (q - g) then cand else r
      | _ => r
    if neg then c + 2 ^ f.signPos else c

/-! ## Free pairs (R124) -/

/-- Whether a pair is normalised (R124). -/
def pairNormal (c : Nat) : Bool :=
  match f32 (c % 2 ^ 32), f32 (c / 2 ^ 32) with
  | .fin _ _ _, .fin _ m e =>
    m == 0 || dyLe m e 1 ((max (c / 2 ^ 23 % 256) 1 : Nat) - 151)
  | _, _ => false

/-- A free value as a pair the module may write: poison, or normalised (R124). -/
def freePair (c : Nat) : Nat :=
  let h := c % 2 ^ 32
  let h := if (f32 h).isFin then h else h - 2 ^ 23
  if c = f32Nan ∨ pairNormal c then c else if pairNormal h then h else 0

/-! ## Lane operations -/

/-- A one- or two-operand lane operation of VOP 2 to 13 and 17, with VREG's lane for FMA. -/
def laneOp (vop vfmt a b c : Nat) : Nat :=
  let f := vForm vfmt
  let w := 2 ^ vWidth vfmt
  let x := f.ieee a
  let y := f.ieee b
  let open_ := (Config.vecOpen vop vfmt a b).toNat % w
  let sgn := 2 ^ f.signPos
  if vfmt = 2 then freePair open_
  else match vop with
  | 2 => f.round (x.add y)
  | 3 => f.round (x.add y.neg)
  | 4 => f.round (x.mul y)
  | 5 => f.round ((x.mul y).add (f.ieee c))
  | 6 => if x = .nan ∨ y = .nan then open_ else if y.lt x then a else if x.lt y then b else if a = b then a else open_
  | 7 => if x = .nan ∨ y = .nan then open_ else if x.lt y then a else if y.lt x then b else if a = b then a else open_
  | 8 => if x = .nan then open_ else a % sgn
  | 9 => if x = .nan then open_ else (a + sgn) % w
  | 10 => match x with
    | .fin n m e => if m = 0 then open_ else let (p, g) := recipExact m e; ulpPick vop vfmt a n p g
    | _ => open_
  | 11 => match x with
    | .fin n m e => if m = 0 ∨ n then open_ else let (p, g) := rsqrtExact m e; ulpPick vop vfmt a false p g
    | _ => open_
  | 12 => match x with
    | .fin n m e =>
      if ¬ n ∧ dyLe 1 10 m e then open_ else let (p, g) := exp2Exact n m e; ulpPick vop vfmt a false p g
    | _ => open_
  | 13 => match x with
    | .fin n m e =>
      if m = 0 ∨ n then open_
      else let l := log2Exact m e; if l = 0 then 0 else ulpPick vop vfmt a (decide (l < 0)) l.natAbs (-64)
    | _ => open_
  | _ => if x = .nan ∨ y = .nan then open_ else (Config.cmpCode (y.lt x) vfmt).toNat % w

/-! ## Row reductions (R167) -/

/-- One level of the tree: neighbours added in FP32. -/
def addPairs : List Nat → List Nat
  | a :: b :: l => ffF32.round ((f32 a).add (f32 b)) :: addPairs l
  | l => l

def treeSum : Nat → List Nat → Nat
  | 0, l => l.headD 0
  | k + 1, l => treeSum k (addPairs l)

/-- The largest of FP32 codes; the first of equals; NaN when one is no number. -/
def maxFirst (l : List Nat) : Nat :=
  if l.any fun c => f32 c == .nan then f32Nan
  else match l with
    | [] => f32Nan
    | a :: rest => rest.foldl (fun m c => if (f32 m).lt (f32 c) then c else m) a

/-- ROWSUM and ROWMAX. -/
def rowReduce (isMax : Bool) (vfmt : Nat) (accum bcast : Bool) (lanes : List Nat) (reg0 : Nat) : List Nat :=
  let ls := lanes.map (widen vfmt)
  let r := if isMax then maxFirst ls else treeSum 8 ls
  let r := if accum then
      (if isMax then maxFirst [r, widen vfmt reg0] else ffF32.round ((f32 r).add (f32 (widen vfmt reg0))))
    else r
  let v := if vfmt = 1 then ffBF16.round (f32 r) else r
  (List.range (vLanes vfmt)).map fun i => if i = 0 ∨ bcast then v else 0

/-! ## TOP8 (R168) -/

/-- Rank order: larger value first, then smaller position. -/
def ranksBefore (abs : Bool) (a b : Nat × Nat) : Bool :=
  let x := if abs then (f32 a.1).abs else f32 a.1
  let y := if abs then (f32 b.1).abs else f32 b.1
  y.lt x || (!x.lt y && a.2 < b.2)

def rankInsert (abs : Bool) (a : Nat × Nat) : List (Nat × Nat) → List (Nat × Nat)
  | [] => [a]
  | b :: l => if ranksBefore abs a b then a :: b :: l else b :: rankInsert abs a l

/-- The 8 first in rank of FP32 values with positions, among them the entries of VREG under MERGE; the empty places filled. -/
def top8 (abs : Bool) (cands : List (Nat × Nat)) : List (Nat × Nat) :=
  let ok := cands.filter fun c => (f32 c.1).isFin
  let best := (ok.foldl (fun l c => (rankInsert abs c l).take 8) [])
  best ++ List.replicate (8 - best.length) (0xFF7FFFFF, 0xFFFFFFFF)

/-- The 32 lanes of the result. -/
def top8Lanes (l : List (Nat × Nat)) : List Nat := l.map (·.1) ++ l.map (·.2) ++ List.replicate 16 0

/-! ## Pairs (R151, R152) -/

/-- A pair is normalised and lies within 2^−bound of the exact result, as a fraction of it. -/
def pairMeets (bound : Nat) (v : FV) (c : Nat) : Bool :=
  match v, decodeFmt 0xD c with
  | .fin n m e, .fin cn cm ce =>
    match (FV.fin n m e).addFin (FV.fin (!cn) cm ce) with
    | .fin _ dm de => pairNormal c && dyLe dm de m (e - (bound : Int))
    | _ => false
  | _, _ => false

/-- The pair whose high part is the largest FP32 number, of the sign of v, and whose low part is the rest. -/
def topPair (v : FV) : Nat :=
  match v with
  | .fin n m e =>
    match (FV.fin n m e).addFin (FV.fin (!n) (2 ^ 24 - 1) 104) with
    | .fin rn rm re => f32Max n + 2 ^ 32 * ffF32.round (.fin rn rm re)
    | _ => f32Max n
  | _ => f32Nan

/-- A normalised pair within the bound of the exact result; which one is left open (R151), as is the pair where none lies within it. -/
def pairWithin (vop a b bound : Nat) (v : FV) : Nat :=
  let cand := (Config.pairPick vop a b).toNat
  if pairMeets bound v cand then cand
  else if pairMeets bound v (pairOf .near v).1 then (pairOf .near v).1
  else if pairMeets bound v (topPair v) then topPair v
  else freePair cand

def pairOp (vop a b : Nat) : Nat :=
  let x := decodeFmt 0xD a
  let y := decodeFmt 0xD b
  if x = .nan ∨ y = .nan then f32Nan
  else if vop = 21 then pairWithin vop a b 45 (x.add y) else pairWithin vop a b 44 (x.mul y)

/-- Head and tail of one FP32 value (R152). -/
def splitLane (c : Nat) : Nat × Nat :=
  let x := f32 c
  if !x.isFin then (0x7FC0, 0)
  else
    let h := ffBF16.round x
    let d := x.add (bf16 h).neg
    let t := match d with
      | .fin n m e => ffBF16.round (.fin n m (e + 8))
      | v => ffBF16.round v
    (h, t)

end Sys2Proof.Machine
end

