-- ==== Sys2Proof/Machine/RowEngine.lean ====
section
/-! DEFINITION. The row engine of each die (R177 to R186). -/
namespace Sys2Proof.Machine

/-! ## Sums and open values (R178) -/

/-- The sum of pairs, carried as a pair (R178). -/
def pairSum (xs : List Nat) : Nat := xs.foldl (pairOp 21) 0

/-- The nearest pair. -/
def toPair (v : FV) : Nat := (pairOf .near v).1

/-- A pair's value. -/
def ofPair (c : Nat) : FV := decodeFmt 0xD c

/-- A natural number as a value. -/
def natV (n : Nat) : FV := .fin false n 0

/-- log2(e) × 2^128. -/
def log2e : Nat := 490923683258796565746369346286093237521

/-- e^x within 2 units in the last place of the exact value (R178). -/
def expPick (x : FV) : Nat :=
  match x with
  | .nan => f32Nan
  | .inf n => if n then 0 else 0x7F800000
  | .fin n m e =>
    let r := exp2Exact n (m * log2e) (e - 128)
    ulpPick 0x40 0 (ffF32.round x) false r.1 r.2

/-- A result value of an operation in the job's format; which of the codes near the exact value is left open. -/
def rePick (op : Nat) (bf : Bool) (key : Nat) (v : FV) : Nat :=
  match v with
  | .fin n m e => ulpPick (0x41 + op) (boolBit bf) key n m e
  | .inf n => (if bf then 0x7F80 else 0x7F800000) + boolBit n * (if bf then 0x8000 else 0x80000000)
  | .nan => if bf then 0x7FC0 else f32Nan

/-! ## Statistics (R177, R178) -/

/-- MEAN and RSTD of a row. -/
def rowNorm (xs : List Nat) (center : Bool) (eps : Nat) : Nat × Nat :=
  let l := natV xs.length
  let mean := (ofPair (pairSum xs)).div l
  let mp := toPair mean.neg
  let ds := if center then xs.map fun x => pairOp 21 x mp else xs
  let var := (ofPair (pairSum (ds.map fun d => pairOp 22 d d))).div l
  (if center then ffF32.round mean else 0, ffF32.round ((natV 1).div (var.add (f32 eps)).sqrt))

/-- The largest value of a row; with a NaN in the row it is left open. -/
def rowTop (xs : List Nat) : Nat :=
  if xs.any fIsNan then (Config.vecOpen 0x46 0 (xs.foldl (fun a x => a * 2 ^ 32 + x) 0) 0).toNat % 2 ^ 32
  else xs.foldl (fun a x => if (f32 a).lt (f32 x) then x else a) (xs.headD 0)

/-- MAX and EXPSUM of a row. -/
def rowSmax (xs : List Nat) : Nat × Nat :=
  let m := rowTop xs
  let es := xs.map fun x => expPick ((f32 x).add (f32 m).neg)
  (m, ffF32.round (ofPair (pairSum es)))

/-- MEAN, RSTD, MAX, EXPSUM. -/
structure Stat where
  mean : Nat
  rstd : Nat
  max : Nat
  sum : Nat

def Stat.bytes (t : Stat) : List Byte := bytesOf 4 t.mean ++ bytesOf 4 t.rstd ++ bytesOf 4 t.max ++ bytesOf 4 t.sum
def Stat.ofBytes (bs : List Byte) : Stat := ⟨valueAt bs 32 0, valueAt bs 32 1, valueAt bs 32 2, valueAt bs 32 3⟩

/-- The record of a row under an operation (R177, R179): STATS and TEST_CMP form all four statistics. -/
def rowStat (op : Nat) (xs : List Nat) (center : Bool) (eps : Nat) : Stat :=
  let n := if op = 3 then (0, 0) else rowNorm xs center eps
  let m := if op = 1 then (0, 0) else rowSmax xs
  ⟨n.1, n.2, m.1, m.2⟩

/-! ## Jobs (R179) -/

def reOrigin (d : Nat) : Origin := ⟨d, 29⟩
def State.reOp (s : State) (d k : Nat) : Nat := s.get (F.RE_SHAPE_OP d k)
def State.reBf (s : State) (d k : Nat) : Bool := s.get (F.RE_SHAPE_FMT d k) == 8
def State.reLen (s : State) (d k : Nat) : Nat := let l := s.get (F.RE_SHAPE_LEN64 d k); if l = 0 then 65536 else 64 * l
def State.reW (s : State) (d k : Nat) : Nat := if s.reBf d k then 2 else 4

/-- Where record i of a job lies in side memory. -/
def State.statAt (s : State) (d k i : Nat) : Nat := d * 0x200000 + 16 * ((s.get (F.RE_SHAPE_STAT_SLOT d k) + i) % 131072)

/-- LEN values at an address, as FP32. -/
def State.reRead (s : State) (d k a : Nat) : List Nat × State :=
  let n := s.reLen d k
  let r := s.memRead (reOrigin d) a (n * s.reW d k)
  (if s.reBf d k then (valuesOf r.data 16 n).map widenBf16 else valuesOf r.data 32 n, r.st)

/-- A write or atomic add of the engine of die d, for the step its job was started in (R196, R198). -/
def State.rePut (s : State) (d : Nat) (atomic : Bool) (a : Nat) (bs : List Byte) : State :=
  let s1 := (s.memPut (reOrigin d) atomic a bs).st
  match (s1.re.getD d {}).step with
  | some t => s1.stepWrote t a bs.length
  | none => s1

def State.reWrite (s : State) (d k a : Nat) (vs : List Nat) : State := s.rePut d false a (packValues (8 * s.reW d k) vs)

/-- Addresses an operation uses. -/
def State.reAddrs (s : State) (d k : Nat) : List Nat :=
  let op := s.reOp d k
  [s.get (F.RE_IN_ADDR d k)] ++ (if op = 0 then [] else [s.get (F.RE_OUT_ADDR d k)])
    ++ (if op = 2 ∨ op = 4 then [s.get (F.RE_GRAD_ADDR d k)] else [])
    ++ (if (op = 1 ∨ op = 2) ∧ s.on (F.RE_SHAPE_PARAM_EN d k) then [s.get (F.RE_PARAM_ADDR d k)] else [])

/-- A job refused for its addresses or its length (R186). -/
def State.reRefused (s : State) (d k : Nat) : Bool :=
  decide (1024 < s.get (F.RE_SHAPE_LEN64 d k)) || (s.reAddrs d k).any fun a => 0x006000000000 ≤ a

/-- γ (at 0) and β (at 1), where the job uses them. -/
def State.reParam (s : State) (d k i dflt : Nat) : List Nat × State :=
  if s.on (F.RE_SHAPE_PARAM_EN d k) then s.reRead d k (s.get (F.RE_PARAM_ADDR d k) + i * s.reLen d k * s.reW d k)
  else (List.replicate (s.reLen d k) dflt, s)

def key2 (a b : Nat) : Nat := a * 2 ^ 32 + b

/-- NORM_FWD of one row. -/
def normFwdRow (bf param : Bool) (t : Stat) (xs gs bs : List Nat) : List Nat :=
  ((xs.zip (gs.zip bs))).map fun (x, g, b) =>
    let xh := ((f32 x).add (f32 t.mean).neg).mul (f32 t.rstd)
    rePick 1 bf (key2 (key2 (key2 x g) b) t.rstd) (if param then (xh.mul (f32 g)).add (f32 b) else xh)

/-- NORM_BWD of one row: dx, and dγ of the row. -/
def normBwdRow (bf center : Bool) (t : Stat) (xs ds gs : List Nat) : List Nat × List Nat :=
  let l := natV xs.length
  let xh := xs.map fun x => ((f32 x).add (f32 t.mean).neg).mul (f32 t.rstd)
  let g := (ds.zip gs).map fun (d, g) => (f32 d).mul (f32 g)
  let mg := (ofPair (pairSum (g.map toPair))).div l
  let mgx := (ofPair (pairSum ((g.zip xh).map fun (a, b) => pairOp 22 (toPair a) (toPair b)))).div l
  let dx := ((xs.zip ds).zip (g.zip xh)).map fun ((x, d), a, h) =>
    let u := (if center then a.add mg.neg else a).add (h.mul mgx).neg
    rePick 2 bf (key2 (key2 x d) t.rstd) (u.mul (f32 t.rstd))
  (dx, (ds.zip xh).map fun (d, h) => rePick 5 false d ((f32 d).mul h))

/-- The probability of one value from the row's maximum and sum. -/
def smaxOne (t : Stat) (x : Nat) : FV := (f32 (expPick ((f32 x).add (f32 t.max).neg))).div (f32 t.sum)

/-- SMAX_BWD of one row. -/
def smaxBwdRow (bf : Bool) (t : Stat) (xs ds : List Nat) : List Nat :=
  let ys := xs.map (smaxOne t)
  let dot := ofPair (pairSum ((ds.zip ys).map fun (d, y) => pairOp 22 d (toPair y)))
  ((xs.zip ds).zip ys).map fun ((x, d), y) => rePick 4 bf (key2 (key2 x d) t.sum) (y.mul ((f32 d).add dot.neg))

/-- Whether a statistic of the kernel mismatches the engine's (R184). -/
def statDiffers (bitsTol own kernel : Nat) : Bool :=
  if fIsNan own || fIsNan kernel then fIsNan own != fIsNan kernel
  else if own = kernel then false
  else
    let d := ((f32 kernel).add (f32 own).neg).abs
    match f32 own with
    | .fin _ m e => (FV.fin false m (e - bitsTol)).lt d
    | _ => true

def Stat.differs (b : Nat) (o k : Stat) : Bool :=
  statDiffers b o.mean k.mean || statDiffers b o.rstd k.rstd || statDiffers b o.max k.max || statDiffers b o.sum k.sum

/-- One row of job k. -/
def State.reRow (s0 : State) (d k i : Nat) : State :=
  let op := s0.reOp d k
  let bf := s0.reBf d k
  let rowB := s0.reLen d k * s0.reW d k
  let center := s0.on (F.RE_SHAPE_CENTER d k)
  let param := s0.on (F.RE_SHAPE_PARAM_EN d k)
  let (xs, s1) := s0.reRead d k (s0.get (F.RE_IN_ADDR d k) + i * rowB)
  let back := op = 2 ∨ op = 4
  let own := if back then Stat.ofBytes (s1.side.load (s1.statAt d k i) 16) else rowStat op xs center (s1.get (F.RE_EPS_EPS d))
  let s2 := if back then s1 else { s1 with side := s1.side.store (s1.statAt d k i) own.bytes }
  let out := s2.get (F.RE_OUT_ADDR d k) + i * rowB
  match op with
  | 1 =>
    let (gs, s3) := s2.reParam d k 0 fOne
    let (bs, s4) := s3.reParam d k 1 0
    s4.reWrite d k out (normFwdRow bf param own xs gs bs)
  | 2 =>
    let (ds, s3) := s2.reRead d k (s2.get (F.RE_GRAD_ADDR d k) + i * rowB)
    let (gs, s4) := s3.reParam d k 0 fOne
    let r := normBwdRow bf center own xs ds gs
    let s5 := s4.reWrite d k out r.1
    if param then
      let a := s5.get (F.RE_PARAM_ADDR d k) + 2 * rowB
      (s5.rePut d true a (packValues 32 r.2)).rePut d true (a + 4 * s5.reLen d k) (packValues 32 ds)
    else s5
  | 3 => s2.reWrite d k out (xs.map fun x => rePick 3 bf (key2 x own.sum) (smaxOne own x))
  | 4 =>
    let (ds, s3) := s2.reRead d k (s2.get (F.RE_GRAD_ADDR d k) + i * rowB)
    s3.reWrite d k out (smaxBwdRow bf own xs ds)
  | 5 =>
    let r := s2.memRead (reOrigin d) (s2.get (F.RE_OUT_ADDR d k) + 16 * i) 16
    if own.differs (r.st.get (F.RE_TOL_BITS d)) (Stat.ofBytes r.data) then
      let s3 := r.st.bump (F.RE_ERR_TEST_MISMATCH d)
      if s3.get (F.RE_TEST_FIRST_ROW d) = 0xFFFF then s3.set (F.RE_TEST_FIRST_ROW d) i else s3
    else r.st
  | _ => s2

/-! ## Starts, completion, self-test (R180 to R183) -/

def State.eng (s : State) (d : Nat) : RowEng := s.re.getD d {}
def State.setEng (s : State) (d : Nat) (e : RowEng) : State :=
  ({ s with re := s.re.set d e } : State).set (F.RE_STATUS_QUEUED d) e.queue.length

/-- The head step runs: LOAD, RUN, REDUCE, or a ping-pong APPLY (R204). -/
def State.stepRuns (s : State) : Bool :=
  let x := s.get F.SEQ_STATE_STATE
  x == 1 || x == 2 || x == 3 || (x == 6 && s.on F.SEQ_CTRL_APPLY_MODE)

/-- Job k begins: its descriptor is read; a reserved operation, no rows, or a refusal leaves nothing to do. -/
def State.reBegin (s : State) (d k : Nat) : State :=
  let bad := s.reRefused d k
  let idle := bad || decide (5 < s.reOp d k) || s.get (F.RE_SHAPE_ROWS d k) == 0
  let s1 := if bad then s.bump (F.RE_ERR_ADDR_ERR d) else s
  let s2 := if s.reOp d k = 5 ∧ idle = false then s1.set (F.RE_TEST_FIRST_ROW d) 0xFFFF else s1
  ((s2.set (F.RE_STATUS_STATE d) 1).set (F.RE_STATUS_CUR_JOB d) k).setEng d
    { s2.eng d with ran := idle, quiet := false, step := if s.stepRuns then some (s.get F.SEQ_STEP_TAG) else none }

/-- The next queued start, if the engine is idle. -/
def State.reNext (s : State) (d : Nat) : State :=
  match (s.eng d).queue with
  | k :: q => if s.get (F.RE_STATUS_STATE d) = 0 then (s.setEng d { s.eng d with queue := q }).reBegin d k else s
  | [] => s

/-- A start reaches the engine (R180, R183). -/
def State.reStart (s : State) (d k : Nat) : State :=
  if s.serves (entRe d) = false ∨ s.get (F.RE_STATUS_STATE d) = 3 then s
  else
    let e := s.eng d
    if s.get (F.RE_STATUS_STATE d) = 0 then s.reBegin d (k % 16)
    else if 16 ≤ e.queue.length then s.bump (F.RE_ERR_START_DROP d)
    else s.setEng d { e with queue := e.queue ++ [k % 16] }

def execReStart (die job : Nat) (s : State) : Out := lively s die 4 fun s => s.reStart die job

/-- The work of the job in progress when its operation is op. -/
def reWork (op d : Nat) (s : State) : State :=
  let k := s.get (F.RE_STATUS_CUR_JOB d)
  if s.get (F.RE_STATUS_STATE d) = 1 ∧ (s.eng d).ran = false ∧ s.reOp d k = op then
    let s1 := s.forN (s.get (F.RE_SHAPE_ROWS d k)) fun s i => s.reRow d k i
    s1.setEng d { s1.eng d with ran := true }
  else s

def execStats (die : Nat) (s : State) : Out := lively s die 4 (reWork 0 die)
def execNormFwd (die : Nat) (s : State) : Out := lively s die 4 (reWork 1 die)
def execNormBwd (die : Nat) (s : State) : Out := lively s die 4 (reWork 2 die)
def execSmaxFwd (die : Nat) (s : State) : Out := lively s die 4 (reWork 3 die)
def execSmaxBwd (die : Nat) (s : State) : Out := lively s die 4 (reWork 4 die)
def execTestCmp (die : Nat) (s : State) : Out := lively s die 4 (reWork 5 die)

/-- RE_JOB_DONE (R180): the completion signal, and the next queued start. -/
def reJobDone (d : Nat) (s : State) : State :=
  let k := s.get (F.RE_STATUS_CUR_JOB d)
  let e := s.eng d
  if s.get (F.RE_STATUS_STATE d) = 1 ∧ e.ran = true then
    let ctr := s.get (F.RE_DONE_COUNTER d k)
    let s1 := if s.on (F.RE_DONE_EN d k) ∧ e.quiet = false ∧ ctr ≤ 23 then
        match s.siteOf d (s.get (F.RE_DONE_LCORE d k)) with
        | some n => if s.serves (entCore n) then s.addCounter n ctr 1 1 else s
        | none => s
      else s
    ((s1.set (F.RE_STATUS_STATE d) 0).setEng d { e with ran := false, quiet := false }).reNext d
  else s

def execReJobDone (die : Nat) (s : State) : Out := lively s die 4 (reJobDone die)

/-- RE_SELFTEST (R183, R186): on command when the engine is idle. -/
def reSelftest (d : Nat) (s : State) : State := if s.get (F.RE_STATUS_STATE d) = 0 then s.set (F.RE_STATUS_STATE d) 2 else s
def execReSelftest (die : Nat) (s : State) : Out := lively s die 4 (reSelftest die)

/-- RE_SELFTEST_DONE (R183): a failure leaves the engine DOWN. -/
def reSelftestDone (d : Nat) (pass : Bool) (s : State) : State :=
  if s.get (F.RE_STATUS_STATE d) = 2 then
    if pass then ((s.set (F.RE_STATUS_SELFTEST_PASS d) 1).set (F.RE_STATUS_STATE d) 0).reNext d
    else
      (((s.set (F.RE_STATUS_SELFTEST_PASS d) 0).set (F.RE_STATUS_STATE d) 3).setEng d {}).setUnit (entRe d) usDown
  else s

def execReSelftestDone (die : Nat) (pass : Bool) (s : State) : Out := lively s die 4 (reSelftestDone die pass)

/-- Rollback, and a COMPUTE reset, at a row engine (R182): the current job ends without its signal, queued starts are discarded. -/
def State.reRollback (s : State) (d : Nat) : State := s.setEng d { s.eng d with queue := [], quiet := true }

end Sys2Proof.Machine
end

