-- ==== Sys2Proof/Machine/Deliver.lean ====
section
/-! DEFINITION. Packets delivered to this module reach their local units: writes, atomic adds, signals, collective packets (R216,
R274, R279, R280, R285, R286, R301, R345). -/
namespace Sys2Proof.Machine

/-- The kind of local unit that accepts a packet: memory, counters and row engines, reduction, pelotons, the proxy (R279). -/
def localUnit (k : Nat) : Nat :=
  if k = 0x01 ∨ k = 0x02 ∨ k = 0x14 then 0 else if k = 0x03 then 1 else if k = 0x10 ∨ k = 0x11 then 2 else if k = 0x12 ∨ k = 0x13 then 3
  else 4

/-- A packet for this module waits for an earlier one: in its buffer or for its unit (R284 to R286), or, for a SIGNAL, of its ordered stream
(R345). -/
def waitsFor (h e : Transit) : Bool :=
  holdsBack e h (e.loc && localUnit e.pkt.kind == localUnit h.pkt.kind) || (h.pkt.kind == 0x03 && e.loc && sameStream h.pkt e.pkt)

/-- The places of the packets of a kind that a unit of this module can accept now. -/
def State.acceptable (s : State) (kind : Nat) : List Nat :=
  (List.range s.rt.held.length).filter fun i =>
    match s.rt.held[i]? with
    | some h => h.loc && h.pkt.kind == kind && !((s.rt.held.take i).any (waitsFor h))
    | none => false

/-- A change of an activation footprint (R181, R189): counter core 31 of this module. -/
def isFoot (p : Packet) : Bool := p.kind == 0x03 && bits p.w2 45 41 == 31

/-- The die a packet entered on. -/
def dieOfSrc (src : Nat) : Nat := if src < 12 then src / 3 else src - 12

/-- The place of the packet of a kind that is accepted next: the first, but of footprint changes that came in one tick the one of the lowest die
(R189). -/
def State.firstOf (s : State) (kind : Nat) : Option Nat :=
  match s.acceptable kind with
  | [] => none
  | i :: l =>
    some <| l.foldl (fun b j =>
      match s.rt.held[b]?, s.rt.held[j]? with
      | some x, some y => if isFoot x.pkt && isFoot y.pkt && x.tick == y.tick && decide (dieOfSrc y.src < dieOfSrc x.src) then j else b
      | _, _ => b) i

/-- A unit of this module has accepted its copy of packet i: with no copy left its beats are free. -/
def State.acceptAt (s : State) (i : Nat) (h : Transit) : State :=
  if h.outs.length = 0 then
    (({ s with rt := { s.rt with held := s.rt.held.eraseIdx i } } : State).giveCredit h.src h.pkt h.cls).pumpAll
  else { s with rt := { s.rt with held := s.rt.held.set i { h with loc := false } } }

/-- Take the next packet of a kind and apply it; a packet with a discarded tag is dropped (R216). -/
def State.takeLocal (s : State) (kind : Nat) (f : State → Transit → State) : State :=
  match s.firstOf kind with
  | none => s
  | some i =>
    match s.rt.held[i]? with
    | none => s
    | some h =>
      let s1 := s.acceptAt i h
      if h.pkt.spec ∧ s1.seq.discarded.contains h.pkt.stepTag then s1.bump F.SEQ_ERR_SPEC_DROP else f s1 h

/-- Every packet for this module that a test names is completed RETIRED for the state of a unit (R298, R301); n bounds how many. -/
def State.retireLocal (s : State) (ent : Nat) (test : Packet → Bool) : Nat → State
  | 0 => s
  | n + 1 =>
    match s.rt.held.findIdx? fun h => h.loc && test h.pkt with
    | none => s
    | some i =>
      match s.rt.held[i]? with
      | none => s
      | some h => (((s.acceptAt i h).bump F.RT_STAT_LOCAL_RETIRED).retired ent).retireLocal ent test n

/-- A write or atomic add that reaches stack n (R235, R279). -/
def State.forStack (s : State) (n : Nat) (p : Packet) : Bool :=
  localUnit p.kind == 0 && (match s.place (bits p.w2 47 0) with
    | .near pc _ => pc / 32 == n
    | _ => false)

/-- A SIGNAL for core n (R280). -/
def forCore (n : Nat) (p : Packet) : Bool :=
  p.kind == 0x03 && decide (bits p.w2 45 41 < 25) && 25 * bits p.w2 47 46 + bits p.w2 45 41 == n

/-- PKT_WRITE, ATOMIC_ADD (R170, R279). -/
def execPktWrite (s : State) : Out := live s fun s => s.takeLocal 0x01 fun s l => s.packetPut (dieOfSrc l.src) l.pkt false
def execAtomicAdd (s : State) : Out := live s fun s => s.takeLocal 0x02 fun s l => s.packetPut (dieOfSrc l.src) l.pkt true

/-- A change of an activation footprint (R189). -/
def State.actFoot (s : State) (v inc : Nat) : State :=
  let t := (s.get (F.ACT_FOOT_CURRENT v) : Int) + signed 16 inc
  let s1 := if t < 0 then s.bump F.ACT_ERR_UNDER else s
  let n := min t.toNat 0xFFFFFFFF
  let s2 := s1.set (F.ACT_FOOT_CURRENT v) n
  if s2.get (F.ACT_FOOT_PEAK v) < n then s2.set (F.ACT_FOOT_PEAK v) n else s2

/-- A SIGNAL is applied (R103, R181, R189, R280). -/
def State.signalPacket (s : State) (p : Packet) : State :=
  let inc := bits p.w2 63 48
  let die := bits p.w2 47 46
  let lc := bits p.w2 45 41
  let ctr := bits p.w2 40 36
  let own := p.srcId == s.get F.RT_NODE_ID_ID
  if lc = 31 then
    if own = true ∧ ctr ≤ 7 then s.actFoot ctr inc else s.bump F.ACT_ERR_FOREIGN
  else if lc = 30 then
    if own = false then s.bump (F.RE_ERR_FOREIGN_DROP die)
    else if s.serves (entRe die) = false then (s.bump F.RT_STAT_LOCAL_RETIRED).retired (entRe die)
    else if ctr < 16 then s.reStart die ctr else s
  else s.coreSignal die lc ctr inc 1

def execSignal (s : State) : Out := live s fun s => s.takeLocal 0x03 fun s l => s.signalPacket l.pkt

/-- A reduction packet whose context, or its staging memory, is down is dropped (R301). -/
def State.redDeliver (s : State) (role : Nat) (p : Packet) : State :=
  let d := s.cxHome (packetCtx p)
  if s.serves (entCtx (packetCtx p)) = false then (s.bump F.RT_STAT_LOCAL_RETIRED).retired (entCtx (packetCtx p))
  else if s.serves (entStage d) then s.redPacket role p
  else (s.bump F.RT_STAT_LOCAL_RETIRED).retired (entStage d)

def execRedContrib (s : State) : Out := live s fun s => s.takeLocal 0x10 fun s l => s.redDeliver 0 l.pkt
def execRedResult (s : State) : Out := live s fun s => s.takeLocal 0x11 fun s l => s.redDeliver 1 l.pkt
def execPelotonArrive (s : State) : Out := live s fun s => s.takeLocal 0x12 fun s l => s.pelotonPacket l.pkt false
def execPelotonRelease (s : State) : Out := live s fun s => s.takeLocal 0x13 fun s l => s.pelotonPacket l.pkt true
def execCaravan (s : State) : Out := live s fun s => s.takeLocal 0x14 fun s l => s.caravanPacket (dieOfSrc l.src) l.pkt

end Sys2Proof.Machine
end

