-- ==== Sys2Proof/Machine/OptBase.lean ====
section
/-! DEFINITION. Ground of the optical ports: sideband frames (R361, R362), link control words (R366), rings, levels in 0.1 dB,
lane failures (R378), steers (R376, R381), records (R394), and the entry to each training phase (R387). -/
namespace Sys2Proof.Machine

/-! ## Access -/

def State.optic (s : State) (p : Nat) : Optic := s.opt.getD p {}
def State.setOptic (s : State) (p : Nat) (o : Optic) : State := { s with opt := s.opt.set p o }
def State.modOptic (s : State) (p : Nat) (f : Optic → Optic) : State := s.setOptic p (f (s.optic p))

def Optic.lane (o : Optic) (l : Nat) : LaneRun := o.lanes.getD l {}
def State.laneRun (s : State) (p l : Nat) : LaneRun := (s.optic p).lane l
def State.modLane (s : State) (p l : Nat) (f : LaneRun → LaneRun) : State :=
  s.modOptic p fun o => { o with lanes := o.lanes.set l (f (o.lane l)) }

/-- A Spoke engine has nine lanes, a Colok engine one (R391). -/
def laneCount (p : Nat) : Nat := if p < 12 then 9 else 1

/-- The rings of a port: 0 to 8 modulator, 9 to 17 drop; on a Colok engine 0 and 9 (R391). -/
def ringsOf (p : Nat) : List Nat := if p < 12 then List.range 18 else [0, 9]

def ringLane (r : Nat) : Nat := r % 9

/-- OPT_STATE.PHASE. -/
def State.phase (s : State) (p : Nat) : Nat := s.get (F.OPT_STATE_PHASE p)

/-- Rings. -/
def ringCode (p r : Nat) : Field := if r < 9 then F.RING_TX_CODE p r else F.RING_RX_CODE p (r - 9)
def ringTrained (p r : Nat) : Field := if r < 9 then F.RING_TX_TRAINED p r else F.RING_RX_TRAINED p (r - 9)
def ringFsr (p r : Nat) : Field := if r < 9 then F.RING_TX_FSR_CODE p r else F.RING_RX_FSR_CODE p (r - 9)
def ringCal (p r : Nat) : Field := if r < 9 then F.RING_TX_CAL_START p r else F.RING_RX_CAL_START p (r - 9)
def ringMirage (p r : Nat) : Field := if r < 9 then F.RING_TX_MIRAGE p r else F.RING_RX_MIRAGE p (r - 9)
def ringLocked (p r : Nat) : Field := if r < 9 then F.RING_TX_LOCKED p r else F.RING_RX_LOCKED p (r - 9)

/-! ## Check sums -/

/-- One bit into a CRC of width w, most significant bit first. -/
def crcStep (w poly c : Nat) (b : Bool) : Nat :=
  let sh := c * 2 % 2 ^ w
  if (c / 2 ^ (w - 1) % 2 == 1) != b then sh ^^^ poly else sh

/-- Bits hi to lo of a number, most significant first. -/
def natBitsDown (n hi lo : Nat) : List Bool := (List.range (hi + 1 - lo)).map fun i => n.testBit (hi - i)

/-- CRC-6 of a sideband frame over bits 31:6 (R361). -/
def crc6 (n : Nat) : Nat := (natBitsDown n 31 6).foldl (crcStep 6 0x03) 0x3F

/-- CRC-8 of a link control word over bits 127:80, then 63:0 (R366). -/
def crc8 (n : Nat) : Nat := (natBitsDown n 127 80 ++ natBitsDown n 63 0).foldl (crcStep 8 0x07) 0xFF

def nbits (n hi lo : Nat) : Nat := n / 2 ^ lo % 2 ^ (hi + 1 - lo)

/-! ## The sideband (R361, R362) -/

/-- A DOWN frame. -/
def State.down (s : State) (p type target value : Nat) : State :=
  let o := s.optic p
  let n := type * 2 ^ 28 + target % 32 * 2 ^ 23 + o.downSeq % 8 * 2 ^ 20 + value % 2 ^ 14 * 2 ^ 6
  let s1 := s.setOptic p { o with downSeq := (o.downSeq + 1) % 8 }
  { s1 with sent := s1.sent ++ [.engine p (BitVec.ofNat 32 (n + crc6 n))] }

/-- HEATER: a code into the ring's shadow (R362). -/
def State.heater (s : State) (p r code : Nat) : State :=
  (s.down p 1 r code).modOptic p fun o => { o with shadow := mapPut o.shadow r code 0x4000 }

/-- Every shadow code moves to its heater. -/
def State.applyShadow (s : State) (p : Nat) : State :=
  let l := (s.optic p).shadow
  (l.foldl (fun s x => s.set (ringCode p x.1) x.2) s).modOptic p fun o => { o with shadow := [] }

/-- APPLY sent to act at once. -/
def State.applyNow (s : State) (p : Nat) : State := (s.down p 2 0 0).applyShadow p

/-- LASER: comb 0 or 1 on or off; the spec gives no bias, which is free. -/
def State.laser (s : State) (p comb : Nat) (on : Bool) : State :=
  let (w, s0) := s.fresh
  (s0.down p 5 (24 + comb) (boolBit on + 2 * (w.toNat % 2 ^ 13))).modOptic p fun o =>
    { o with lasers := if on then o.lasers ||| 2 ^ comb else o.lasers &&& (3 - 2 ^ comb) }

/-- SRCSEL: the comb that feeds a lane's modulator. -/
def State.srcsel (s : State) (p l comb : Nat) : State :=
  (s.down p 6 l comb).modOptic p fun o =>
    { o with source := if comb = 1 then o.source ||| 2 ^ l else o.source &&& (511 - 2 ^ l) }

/-! ## Levels -/

/-- A level `b` lies more than `d` tenths of a decibel below `a`. -/
def dropsMore (a b d : Nat) : Bool := b ^ 100 * 10 ^ d < a ^ 100

/-- Two levels lie within 0.5 dB of each other. -/
def withinHalf (a b : Nat) : Bool := a ^ 20 ≤ b ^ 20 * 10 && b ^ 20 ≤ a ^ 20 * 10

/-- Drop of a level below a reference in whole tenths of a decibel, 0 to 255. -/
def dropDb (a b : Nat) : Nat :=
  if b = 0 then 255 else ((List.range 255).filter fun d => b ^ 100 * 10 ^ (d + 1) ≤ a ^ 100).length

/-! ## Records (R394) -/

def State.opticFault (s : State) (p code lane : Nat) (slow : Bool) (detail : Word) : State :=
  s.faultKey (unitPort p * 16 + lane) code (unitPort p) slow detail

/-- LASER_FADE: stage, the lane at which a swap halted, and whether copies are used; LASER is the comb in use. -/
def State.laserFade (s : State) (p stage lane : Nat) (hitless : Bool) : State :=
  s.opticFault p 0x0702 lane true (mkWord [(63, 60, stage), (59, 59, s.get (F.OPT_STATE_ACTIVE_LASER p)),
    (58, 58, boolBit hitless), (55, 48, s.get (F.OPT_FADE_MON_DROP p)), (47, 40, s.get (F.OPT_FADE_MARGIN_DROP p)),
    (39, 36, lane)])

/-- LANE_SPARED: the data lane moved, with the slot at whose boundary the receiver switched. -/
def State.laneSpared (s : State) (p k cause : Nat) (hitless : Bool) : State :=
  s.opticFault p 0x0703 k false (mkWord [(63, 60, k), (59, 56, cause), (55, 55, boolBit hitless),
    (39, 0, s.get (F.SPK_STEER_STATUS_SLOT p))])

/-- MIRAGE_LOCK of ring r, with the lane ID decoded. -/
def State.mirageLock (s : State) (p r phase id action before after : Nat) : State :=
  s.opticFault p 0x0701 (ringLane r) true (mkWord [(63, 60, ringLane r), (59, 59, boolBit (decide (r < 9))), (58, 56, phase),
    (55, 52, id), (51, 50, action), (45, 32, before), (31, 18, after),
    (13, 0, s.get (ringFsr p r))])

/-! ## Reports and lane failures (R367, R378, R381) -/

/-- An event report is to be sent in n slots; a report of the same kind and lane is replaced where it waits. -/
def State.reportFor (s : State) (n p kind lane value : Nat) : State :=
  let same := fun (r : Report) => r.kind == kind && r.lane == lane
  s.modOptic p fun o =>
    { o with reports := if o.reports.any same then o.reports.map fun r => if same r then ⟨kind, lane, value, n⟩ else r
                        else o.reports ++ [⟨kind, lane, value, n⟩] }

/-- An event report is queued for 3 slots. -/
def State.report (s : State) (p kind lane value : Nat) : State := s.reportFor 3 p kind lane value

def State.linkFail (s : State) (p : Nat) : State := s.modOptic p fun o => { o with linkFailed := true }

def State.setLaneOk (s : State) (p l : Nat) (ok : Bool) : State :=
  let m := s.get (F.OPT_STATE_LANE_OK p)
  s.set (F.OPT_STATE_LANE_OK p) (if ok then m ||| 2 ^ l else m &&& (511 - 2 ^ l))

def State.laneOk (s : State) (p l : Nat) : Bool := bitAt (s.get (F.OPT_STATE_LANE_OK p)) l

/-- A transmitted lane is in use: it carries a data lane or is the idle spare. -/
def State.laneUsed (s : State) (p l : Nat) : Bool := s.get (F.LANE_STATE_ROLE p l) != 0xF

/-- A received lane is in use: training mapped it, and lane 8 has not taken its place for good. -/
def State.rxUsed (s : State) (p l : Nat) : Bool :=
  bitAt (s.optic p).rxMap l && !((s.optic p).rxPerm && (s.optic p).rxUse == some l)

/-- The lanes of a mask. -/
def lanesOf (m : Nat) : List Nat := (List.range 9).filter (bitAt m)

/-- The mask of some lanes. -/
def laneMask (l : List Nat) : Nat := l.foldl (fun m k => m ||| 2 ^ k) 0

/-- A failed physical lane shows in LANE_STATE and LANE_OK. -/
def State.markFailed (s : State) (p l : Nat) : State := (s.set (F.LANE_STATE_HEALTH p l) 2).setLaneOk p l false

/-- A swap in progress ends with stage 5 (R384), at the lane it works on. -/
def State.swapHalted (s : State) (p : Nat) : State :=
  match (s.optic p).swap with
  | none => s
  | some w => (s.laserFade p 5 w.lane w.hitless).modOptic p fun o => { o with swap := none }

/-- The swap halts on lane k (R384): the lane, where lane 8 copies it, stays there as SPARE, cause 7 (R394). -/
def State.haltSwap (s : State) (p k : Nat) : State :=
  let s1 := s.swapHalted p
  if s1.get (F.OPT_STATE_SPARE_USE p) = k then
    ((s1.set (F.OPT_STATE_SPARE_PERM p) 1).set (F.LANE_STATE_ROLE p k) 0xF).laneSpared p k 7 true
  else s1

/-- Lane k fails while lane 8 carries it for a swap (R381): the copy becomes SPARE k at once. A RETURN k on its way is overtaken by a marker
SPARE k, and the record waits for its acknowledgement (R379). -/
def State.copyToSpare (s : State) (p k cause : Nat) : State :=
  let s1 := (s.set (F.OPT_STATE_SPARE_PERM p) 1).swapHalted p
  if s.get (F.SPK_STEER_STATUS_STATE p) = 1 ∧ s.get (F.SPK_STEER_STATUS_LANE p) = k then
    ((s1.set (F.SPK_STEER_STATUS_OP p) 3).set (F.SPK_STEER_STATUS_RETRIES p) 0).modOptic p fun o =>
      { o with steerSlot := s.slot + 1, steerCause := cause, steerLate := true }
  else (s1.set (F.LANE_STATE_ROLE p k) 0xF).laneSpared p k cause true

/-- Transmitted physical lane l fails (R378, R381): what lane 8 can do about it. -/
def State.txLaneFails (s : State) (p l cause : Nat) : State :=
  if 12 ≤ p then (s.markFailed p l).linkFail p
  else
    let use := s.get (F.OPT_STATE_SPARE_USE p)
    let ok8 := s.laneOk p 8
    let others := (s.optic p).failTx.filter fun x => x.1 != l
    if l = 8 then (if use = 0xF ∧ others.isEmpty then s.markFailed p l else (s.markFailed p l).linkFail p)
    else if ¬ s.laneUsed p l then s
    else
      let s1 := s.markFailed p l
      if use = 0xF ∧ ok8 = true ∧ others.isEmpty then s1.modOptic p fun o => { o with failTx := [(l, cause)] }
      else if use = l then (if s.on (F.OPT_STATE_SPARE_PERM p) then s1 else s1.copyToSpare p l cause)
      else s1.linkFail p

/-- Received physical lane l fails (R378): the far end is told. -/
def State.rxLaneFails (s : State) (p l cause : Nat) : State :=
  let o := s.optic p
  if bitAt o.rxFail l then s
  else
    let s1 := ((s.markFailed p l).report p 4 l cause).modOptic p fun o => { o with rxFail := o.rxFail ||| 2 ^ l }
    if 12 ≤ p then s1.linkFail p
    else if l = 8 then (if o.rxUse.isSome ∨ o.rxFail % 256 ≠ 0 then s1.linkFail p else s1)
    else if o.rxUse = some l then s1
    else if o.rxUse.isSome ∨ o.rxFail % 256 ≠ 0 ∨ ¬ s.laneOk p 8 then s1.linkFail p else s1

/-! ## Steers (R376, R381) -/

/-- The steer engine refuses. -/
def State.steerRefuse (s : State) (p op k src : Nat) : State :=
  (((s.set (F.SPK_STEER_STATUS_OP p) op).set (F.SPK_STEER_STATUS_LANE p) k).set (F.SPK_STEER_STATUS_SOURCE p) src).set
    (F.SPK_STEER_STATUS_STATE p) 3

/-- A steer marker starts in the slot that begins now (R376), or is refused (R381). op: 1 TAKE, 2 RETURN, 3 SPARE. -/
def State.startSteer (s : State) (p op k src cause : Nat) : State :=
  let use := s.get (F.OPT_STATE_SPARE_USE p)
  let bad := if op = 2 then use != k || s.on (F.OPT_STATE_SPARE_PERM p) else use != 0xF || !s.laneOk p 8
  if bad ∨ 8 ≤ k ∨ op = 0 ∨ 4 ≤ op then s.steerRefuse p op k src
  else
    let s1 := (s.steerRefuse p op k src).set (F.SPK_STEER_STATUS_STATE p) 1
    let s2 := (s1.set (F.SPK_STEER_STATUS_RETRIES p) 0).modOptic p fun o =>
      { o with steerSlot := s.slot, steerCause := cause, steerLate := o.failTx.any fun x => x.1 == k }
    if op = 2 then s2
    else
      ((s2.set (F.OPT_STATE_SPARE_USE p) k).set (F.OPT_STATE_SPARE_PERM p) (boolBit (op == 3))).set (F.LANE_STATE_ROLE p 8) k

/-- The acknowledgement of the steer in progress (R376, R379). -/
def State.steerAck (s : State) (p op k : Nat) : State :=
  if s.get (F.SPK_STEER_STATUS_STATE p) = 1 ∧ s.get (F.SPK_STEER_STATUS_OP p) = op ∧ s.get (F.SPK_STEER_STATUS_LANE p) = k then
    let o := s.optic p
    let s1 := (s.set (F.SPK_STEER_STATUS_STATE p) 2).set (F.SPK_STEER_STATUS_SLOT p) (o.steerSlot + 1)
    if op = 3 then
      let s2 := s1.set (F.LANE_STATE_ROLE p k) 0xF
      (s2.laneSpared p k o.steerCause (!o.steerLate)).modOptic p fun o =>
        { o with failTx := o.failTx.filter fun x => x.1 != k }
    else if op = 2 then
      ((s1.set (F.OPT_STATE_SPARE_USE p) 0xF).set (F.OPT_STATE_SPARE_PERM p) 0).set (F.LANE_STATE_ROLE p 8) 8
    else s1
  else s

/-! ## Training phases (R387) -/

def State.setPhase (s : State) (p n : Nat) : State :=
  (s.set (F.OPT_STATE_PHASE p) n).modOptic p fun o => { o with phaseEpochs := 0 }

/-- 12 V to the cage on or off. -/
def State.cage (s : State) (p : Nat) (on : Bool) : State :=
  let m := s.pwr.cage12V.toNat
  let m0 := if bitAt m p then m - 2 ^ p else m
  { s with pwr := { s.pwr with cage12V := BitVec.ofNat 14 (if on then m0 + 2 ^ p else m0) } }

/-- Colok port 0 or 1. -/
def State.ck (s : State) (c : Nat) : ColokPort := s.colok.getD c {}
def State.setCk (s : State) (c : Nat) (k : ColokPort) : State := { s with colok := s.colok.set c k }

/-- The link of a Colok port goes (R401, R402): responses of the requests in the mailbox are discarded, both SEQ spaces restart at 0,
and versions are to be agreed anew. -/
def State.colokDrop (s : State) (c : Nat) : State :=
  let s1 := s.setCk c { mbox := (s.ck c).mbox.map fun r => { r with mute := true } }
  (s1.setReg (A.COLOK_SEQ c) 0).set (F.COLOK_STATE_VER_VALID c) 0

/-- The link goes down: SPK_CAD_DELAY.VALID clears (R54), a Colok port forgets its frames (R401), and an up port's fall is an
event for the slow plane (R299). -/
def State.linkDown (s : State) (p : Nat) : State :=
  let s1 := if p < 12 then s.set (F.SPK_CAD_DELAY_VALID p) 0 else s.colokDrop (p - 12)
  let told := s.unit (entPort p) == usDown && (decide (4 ≤ (s.optic p).missSlots) || (s.optic p).linkFailed)
  if s.phase p = 7 ∧ told = false then s1.post (dieOfPort p) (.portDown p) else s1

/-- A resolution within its range, or the default (R368). -/
def resolution (lo n dflt : Nat) : Nat := if lo ≤ n ∧ n ≤ 8 then n else dflt

/-- What a reset of the module leaves of a port: the engine keeps its lasers, its source selection and its codes while it has power (R363). -/
def Optic.overReset (o : Optic) : Optic :=
  { present := o.present, tripped := o.tripped, cleared := o.cleared, source := o.source, lasers := o.lasers, lineCode := o.lineCode }

/-- Lane state of a port as training starts: steers, swap and sweeps dropped, no ring locked (R381, R387), no version agreed (R393), and the
resolutions of OPT_CTRL taken (R368). -/
def State.opticsFresh (s : State) (p : Nat) : State :=
  let s1 := (List.range (laneCount p)).foldl (fun s l =>
    (((s.set (F.LANE_STATE_ROLE p l) 0xF).set (F.LANE_STATE_HEALTH p l) 0).set (ringLocked p l) 0).set (ringLocked p (l + 9)) 0) s
  let s2 := ((s1.set (F.OPT_STATE_SPARE_USE p) 0xF).set (F.OPT_STATE_SPARE_PERM p) 0).set (F.OPT_STATE_LANE_OK p) 0
  let s3 := (if p < 12 then s2.set (F.SPK_STEER_STATUS_STATE p) 0 else s2).set (F.LINK_VER_VALID p) 0
  s3.modOptic p fun o => {
    present := o.present, tripped := o.tripped, cleared := o.cleared, trainEpochs := o.trainEpochs, source := o.source
    dac := resolution 4 (s.get (F.OPT_CTRL_TX_DAC_BITS p)) 6, adc := resolution 6 (s.get (F.OPT_CTRL_RX_ADC_BITS p)) 7
    lasers := o.lasers, lineCode := o.lineCode, dither := o.dither, downSeq := o.downSeq, alerts := o.alerts, regRead := o.regRead
    upSeen := o.upSeen, upMissed := o.upMissed, shadow := o.shadow }

/-- A spare comb warmed and not swapped in goes off as the port trains again (R383). -/
def State.spareOff (s : State) (p : Nat) : State :=
  let st := s.get (F.OPT_STATE_SPARE_LASER p)
  if st = 1 ∨ st = 2 then (s.set (F.OPT_STATE_SPARE_LASER p) 0).laser p 1 false else s

/-- The port fails (R387). -/
def State.portFail (s : State) (p reason : Nat) : State :=
  let s1 := ((s.linkDown p).setPhase p 8).set (F.OPT_STATE_FAIL_REASON p) reason
  let s2 := s1.setUnit (entPort p) usDown
  if p < 12 then (s2.portFresh p).pumpAll else s2

/-- Enter DETECT: 12 V on, the unit STARTING (R387); after over-current the 12 V stays off (R359). -/
def State.enterDetect (s : State) (p : Nat) : State :=
  if (s.optic p).tripped then s
  else
    let s1 := (((s.linkDown p).spareOff p).opticsFresh p).setPhase p 1
    let s2 := (s1.setUnit (entPort p) usStarting).cage p true
    if p < 12 then (s2.portFresh p).pumpAll else s2

/-- A port that is OFF or DOWN starts (R387, R359): without an engine it fails with reason 1; after over-current it stays as it is. -/
def State.portEnable (s : State) (p : Nat) : State :=
  let o := s.optic p
  if o.tripped then s
  else if ¬ o.present then s.portFail p 1
  else
    let s1 := (s.set (F.OPT_STATE_ATTEMPTS p) 0).set (F.OPT_STATE_FAIL_REASON p) 0
    (s1.enterDetect p).modOptic p fun o => { o with trainEpochs := 0 }

/-- An ENABLE written (R359): after over-current it starts the port again only once the engine has been removed. -/
def State.portEnableCmd (s : State) (p : Nat) : State :=
  (s.modOptic p fun o => if o.cleared then { o with tripped := false, cleared := false } else o).portEnable p

/-- A drained port (R387): phase NONE, lasers and 12 V off. -/
def State.portNone (s : State) (p : Nat) : State :=
  let s1 := ((s.linkDown p).setPhase p 0).cage p false
  s1.modOptic p fun o => { o with lasers := 0 }

/-- VERSION_REFUSED (R420): written by the controllers, or for the Colok protocol by the port (R27, R402). -/
def State.versionRefused (s : State) (p iface major tab : Nat) : State :=
  s.faultOnce 0x0802 (unitPort p) (iface != 2) (mkWord [(63, 60, iface), (47, 40, major), (39, 8, tab)])

/-- The highest common major and its minor (R389). -/
def agreeVersion (loc far : Nat) : Option (Nat × Nat) :=
  ((List.range 8).reverse.find? fun m => nbits loc (4 * m + 3) (4 * m) != 0xF && nbits far (4 * m + 3) (4 * m) != 0xF).map
    fun m => (m, min (nbits loc (4 * m + 3) (4 * m)) (nbits far (4 * m + 3) (4 * m)))

/-- MINOR_TAB of the Spoke link protocol 2.3 (R389) and of the Colok protocol 3.1 (R402). -/
def spokeTab : Nat := 0xFFFFF36F
def colokTab : Nat := 0xFFFF14FF

end Sys2Proof.Machine
end

