-- ==== Sys2Proof/Machine/Power.lean ====
section
/-! DEFINITION. Hold-up and its measurement (R437 to R440), the ledger (R454 to R456), the image and its banks (R449 to
R453), identity and attestation (R457 to R460), input voltage and PRECHARGE (R425, R432, R433). -/
namespace Sys2Proof.Machine

/-! ## Holds and the hold-up check -/

/-- The causes that hold the module change (R433): HOLD_CAUSE shows the latest of them, and SB_ATTN bit 1 follows. Which cause shows while
two hold is the model's choice (log entry 86). -/
def State.showHold (s : State) (l : List Nat) : State :=
  let c := l.headD 0
  let s1 := ({ s with pwr := { s.pwr with holds := l } } : State).set F.PWR_STATUS_HOLD_CAUSE c
  s1.set F.SB_ATTN_CAUSE (s1.get F.SB_ATTN_CAUSE % 2 + (if c = 0 then 0 else 2))

/-- A condition of R433 arises. -/
def State.setHold (s : State) (c : Nat) : State := s.showHold (c :: s.pwr.holds.erase c)

/-- A condition of R433 ends. -/
def State.clearHold (s : State) (c : Nat) : State := if s.pwr.holds.contains c then s.showHold (s.pwr.holds.erase c) else s

/-- ATTN_N is low (R433). -/
def State.attnLow (s : State) : Bool := s.get F.SB_ATTN_CAUSE != 0

/-- ALERT_N is low (R423). -/
def State.alertLow (s : State) : Bool :=
  !s.sb.i3c && (s.get F.ALERT_CAUSE_CAUSE &&& s.get F.ALERT_MASK_MASK) != 0

/-- C_M (V² − 100), scaled: capacitance in 0.1 mF, voltage in 10 mV; 2 × 10^7 of it are 0.1 J (R437). -/
def holdupScaled (cap v : Nat) : Nat := cap * (v * v - 1000000)

/-- The check of R439 at bank voltage v, with the need in 0.1 J. -/
def State.holdupOk (s : State) (need v : Nat) : Bool :=
  s.pwr.measured && s.get F.HU_MEAS_AGE ≤ 128000 && need * 20000000 ≤ holdupScaled (s.get F.HU_MEAS_CAP) v

/-- HOLDUP_LOW (R440, R468): logged, with ALERT_CAUSE.HOLDUP. -/
def State.holdupLow (s : State) (need : Nat) : State :=
  let e := holdupScaled (s.get F.HU_MEAS_CAP) (s.get F.HU_STATUS_V_BANK) / 20000000
  (s.fault 0x0901 unitPower true
    (mkWord [(63, 48, e), (47, 32, need), (31, 0, min (s.get F.HU_MEAS_AGE) 0xFFFFFFFF)])).alert 2

/-- HU_STATUS after a mark or a measurement (R437, R440, R467). -/
def State.showHoldup (s : State) : State :=
  let cap := s.get F.HU_MEAS_CAP
  let e := holdupScaled cap (s.get F.HU_STATUS_V_BANK) / 20000000
  let s1 := (s.set F.HU_STATUS_ENERGY (min e 0xFFFF)).set F.SB_HOLDUP_JOULES (min (e / 10) 0xFF)
  let s2 := s1.set F.HU_STATUS_DEGRADED (boolBit (s.pwr.measured && cap * 24000000 < 200 * 20000000))
  s2.set F.HU_STATUS_MEAS_VALID (boolBit (s.pwr.measured && s.get F.HU_MEAS_AGE ≤ 128000))

/-- HU_MEASURE (R438): in PRECHARGE the first measurement starts once the bank stands at 20 V; later, at a mark, one that is due, unless a
ledger commit defers it. -/
def huMeasure (s : State) : State :=
  if s.mstate = msPrecharge then
    if s.pwr.measured ∨ s.get F.HU_STATUS_V_BANK < 2000 then s else { s with pwr := { s.pwr with measuring := true } }
  else if s.now % 50000 = 0 ∧ s.pwr.measureDue ∧ s.led.inFlight.isEmpty then
    { s with pwr := { s.pwr with measuring := true, measureDue := false } }
  else s

def execHuMeasure (s : State) : Out := live s huMeasure

/-- HU_MEASURE_DONE (R438): the voltage changed by `dv` tenths of a millivolt under 1.00 A for 20 ms, so
C_M = 0.020 ÷ ΔV, to the nearest 0.1 mF; AGE := 0. -/
def huMeasureDone (dv : Nat) (s : State) : State :=
  if s.pwr.measuring ∧ dv ≠ 0 then
    let s1 := (s.set F.HU_MEAS_CAP (min ((4000000 + dv) / (2 * dv)) 0xFFFF)).set F.HU_MEAS_AGE 0
    { s1 with pwr := { s1.pwr with measuring := false, measured := true } }.showHoldup
  else s

def execHuMeasureDone (dv : Nat) (s : State) : Out := live s (huMeasureDone dv)

/-! ## The ledger -/

/-- Type and body bytes of a record (R456); the bodies' inner layout is the model's own. -/
def LedgerBody.type : LedgerBody → Nat
  | .boot .. => 1 | .fieldRow .. => 2 | .mapOut .. => 3 | .trainFail .. => 4 | .owner .. => 5 | .policy .. => 6
  | .snapshotBegin .. => 7 | .snapshotEnd .. => 8

def LedgerBody.bytes : LedgerBody → List Byte
  | .boot a t b m => bytesOf 1 a ++ bytesOf 1 (boolBit t) ++ bytesOf 1 b ++ bytesOf 2 m
  | .fieldRow st pc b r => bytesOf 1 st ++ bytesOf 1 pc ++ bytesOf 1 b ++ bytesOf 4 r
  | .mapOut pc c => bytesOf 2 pc ++ bytesOf 1 c
  | .trainFail pc n => bytesOf 2 pc ++ bytesOf 1 n
  | .owner sl op k => bytesOf 1 sl ++ bytesOf 1 op ++ k
  | .policy o => bytesOf 1 (boolBit o)
  | .snapshotBegin n => bytesOf 4 n
  | .snapshotEnd n => bytesOf 4 n

/-- n bytes, padded with zero. -/
def padTo (n : Nat) (bs : List Byte) : List Byte := (bs ++ List.replicate n 0).take n

/-- n bytes of SHAKE256 of a message. -/
def shakeBytes (n : Nat) (m : List Byte) : List Byte := (List.range n).map (Config.shake256 m)

/-- The 256 bytes of a record (R454). -/
def LedgerRec.bytes (r : LedgerRec) : List Byte :=
  let front := bytesOf 8 (r.body.type * 2 ^ 56 + r.seq % 2 ^ 48) ++ padTo 32 r.prev ++ padTo 176 r.body.bytes
  front ++ shakeBytes 32 front ++ bytesOf 8 (r.seq % 2 ^ 48)

/-- The records that count (R455): those complete in a half; half 0 is written first, so it has them all unless only half 1 kept one. -/
def Ledger.recs (l : Ledger) : List LedgerRec := if l.half1.length ≤ l.half0.length then l.half0 else l.half1

/-- Both halves hold the records of a list. -/
def Ledger.hold (l : Ledger) (rs : List LedgerRec) : Ledger := { l with half0 := rs, half1 := rs }

/-- The ledger head (R456): the 64-byte SHAKE256 of the last committed record. -/
def Ledger.head (l : Ledger) : List Byte :=
  match l.recs.getLast? with
  | none => List.replicate 64 0
  | some r => shakeBytes 64 r.bytes

/-- The boot data of a list of bodies: ACTIVE, TRIAL, trial bank, MIN_SVN of the last BOOT record. -/
def bootOf (bs : List LedgerBody) : Nat × Bool × Nat × Nat :=
  bs.foldl (fun d b => match b with
    | .boot a t tb m => (a, t, tb, m)
    | _ => d) (0, false, 0, 0)

def Ledger.bodies (l : Ledger) : List LedgerBody := l.recs.map (·.body)

/-- The BOOT data with the records still to be committed. -/
def Ledger.bootNext (l : Ledger) : Nat × Bool × Nat × Nat := bootOf (l.bodies ++ l.inFlight ++ l.pending)

/-- OWNER_ONLY of the last POLICY record (R456). -/
def Ledger.ownerOnly (l : Ledger) : Bool :=
  l.bodies.foldl (fun d b => match b with
    | .policy o => o
    | _ => d) false

/-- The owner key enrolled in a slot (R460): the last OWNER record of the slot, unless it revokes. -/
def Ledger.ownerKey (l : Ledger) (slot : Nat) : Option (List Byte) :=
  l.bodies.foldl (fun d b => match b with
    | .owner sl op k => if sl = slot then (if op = 1 then some k else none) else d
    | _ => d) none

/-- A record waits for a commit (LEDGER_STATUS.PENDING). -/
def State.ledgerAdd (s : State) (b : LedgerBody) : State :=
  { s with led := { s.led with pending := s.led.pending ++ [b] } }.set F.LEDGER_STATUS_PENDING 1

/-- The commit check accepts or refuses at bank voltage v (R440, R455). -/
def State.commitAt (s : State) (v : Nat) : State :=
  if s.led.pending.isEmpty ∨ ¬ s.led.inFlight.isEmpty then s
  else if s.holdupOk 40 v then
    let s1 := { s with led := { s.led with inFlight := s.led.pending, pending := [], refusing := false } }
    s1.clearHold 3
  else
    let s1 := (s.holdupLow 40).bump F.LEDGER_STATUS_REFUSED
    { s1 with led := { s1.led with refusing := true } }

/-- LEDGER_COMMIT (R455, R440): no commit while a MANAGEMENT reset is in progress. -/
def ledgerCommit (s : State) : State := if s.mgmt.inReset then s else s.commitAt (s.get F.HU_STATUS_V_BANK)

def execLedgerCommit (s : State) : Out := live s ledgerCommit

/-- Records appended in order, each chained to the one before (R454). -/
def appendRecs (rs : List LedgerRec) : List LedgerBody → List LedgerRec
  | [] => rs
  | b :: bs =>
    let r : LedgerRec := match rs.getLast? with
      | none => ⟨1, List.replicate 32 0, b⟩
      | some p => ⟨p.seq + 1, shakeBytes 32 p.bytes, b⟩
    appendRecs (rs ++ [r]) bs

/-- The live records of a ledger: the last BOOT and POLICY, the last OWNER of each slot, and every record of the other
types. -/
def liveBodies (bs : List LedgerBody) : List LedgerBody :=
  let keep : LedgerBody → List LedgerBody → Bool := fun b later => match b with
    | .boot .. => !later.any fun c => c.type == 1
    | .policy _ => !later.any fun c => c.type == 6
    | .owner sl _ _ => !later.any fun c => match c with
        | .owner sl' _ _ => sl' == sl
        | _ => false
    | .trainFail pc _ => !later.any fun c => match c with
        | .trainFail pc' _ => pc' == pc
        | _ => false
    | .snapshotBegin _ | .snapshotEnd _ => false
    | _ => true
  let rec go : List LedgerBody → List LedgerBody
    | [] => []
    | b :: l => if keep b l then b :: go l else go l
  go bs

/-- The area in use has passed 75 %, and the live records are written as a snapshot in the other area (R456). -/
def Ledger.compact (l : Ledger) : Ledger :=
  if 49152 < l.recs.length then
    let live := liveBodies l.bodies
    let bs := [.snapshotBegin live.length] ++ live ++ [.snapshotEnd live.length]
    let all := appendRecs l.recs bs
    { l.hold (all.drop l.recs.length) with area := 1 - l.area }
  else l

/-- The commit in progress ends (R454, R455): its records stand in both halves. -/
def Ledger.commit (l : Ledger) : Ledger := ({ l.hold (appendRecs l.recs l.inFlight) with inFlight := [] }).compact

/-- The commit in progress is cut off after w programmings (R455): each record goes to half 0, then to half 1. -/
def Ledger.cutOff (l : Ledger) (w : Nat) : Ledger :=
  { l with half0 := appendRecs l.recs (l.inFlight.take ((w + 1) / 2)), half1 := appendRecs l.recs (l.inFlight.take (w / 2))
           inFlight := [], pending := [], refusing := false }

/-- A record complete in one half only is copied to the other at boot (R455). -/
def Ledger.repair (l : Ledger) : Ledger := l.hold l.recs

/-- LEDGER_STATUS after a commit. -/
def State.showLedger (s : State) : State :=
  let sq := match s.led.recs.getLast? with
    | none => 0
    | some r => r.seq
  ((s.set F.LEDGER_STATUS_SEQ sq).set F.LEDGER_STATUS_USED (min (s.led.recs.length * 100 / 65536) 255)).set
    F.LEDGER_STATUS_PENDING (boolBit (!s.led.pending.isEmpty))

/-! ## Booting an image -/

/-- The bank's flash. -/
def State.flash (s : State) (b : Nat) : Mem := if b = 0 then s.flashA else s.flashB

def State.setFlash (s : State) (b : Nat) (m : Mem) : State := if b = 0 then { s with flashA := m } else { s with flashB := m }

/-- Word k of the image header of a bank (R449). -/
def State.imgWord (s : State) (b k : Nat) : Word := BitVec.ofNat 64 ((s.flash b).num (8 * k) 8)

/-- Why a bank fails (R468): 0 none; 1 read; 2 format major; 3 SVN; 4 key not allowed; 5 signature; 6 length. -/
def State.verifyBank (s : State) (b : Nat) (readFail : Bool) : Nat :=
  let h := s.imgWord b 0
  let len := bits h 31 0
  let kid := bits (s.imgWord b 1) 63 56
  let key : Option (List Byte) :=
    if kid = 0 then (if s.led.ownerOnly then none else some Config.plovjanKey)
    else if kid ≤ 4 then s.led.ownerKey kid else none
  if readFail then 1
  else if bits h 63 56 ≠ 3 ∧ bits h 63 56 ≠ 4 then 2
  else if 96 * 2 ^ 20 < len + 29792 ∨ len < 256 then 6
  else if bits h 47 32 < (bootOf s.led.bodies).2.2.2 then 3
  else match key with
    | none => 4
    | some k =>
      if Config.slhVerify k (shakeBytes 64 ((s.flash b).load 0 len)) ((s.flash b).load len 29792) then 0 else 5

/-- IMAGE_SIGNATURE (R452, R468). -/
def State.imageSignature (s : State) (b why : Nat) : State :=
  s.fault 0x0902 (unitImage b) true
    (mkWord [(63, 56, why), (55, 48, bits (s.imgWord b 1) 63 56), (47, 32, bits (s.imgWord b 0) 47 32)])

/-- Entry to TRAIN (R445, R446, R455): a boot; the halves of the ledger are made equal, and every present unit of the module is brought up. -/
def State.enterTrain (s : State) : State :=
  let s1 := (({ s with led := s.led.repair } : State).setMState msTrain).bump F.BOOT_STATUS_BOOTS
  s1.forN 187 fun s n => if s.absent n then s.set (F.UNIT_STATE_STATE n) usAbsent else s.set (F.UNIT_STATE_STATE n) usStarting

/-- The module goes on to TRAIN (R445, R446): every unit is brought up, the ports through DETECT. -/
def State.bringUp (s : State) : State := s.enterTrain.forN 14 fun s p => s.portEnable p

/-- The recovery service (R451): no bank verifies, and the Colok ports that have an engine train. -/
def State.recover (s : State) : State :=
  let s1 := s.setHold 2
  [12, 13].foldl (fun s p => if (s.optic p).present then s.portEnable p else s) { s1 with boot := { s1.boot with recovery := true } }

/-- Load the settings and firmware of a verified bank (R447, R452). -/
def State.loadImage (s : State) (b : Nat) (fallback : Bool) : State :=
  let h := s.imgWord b 0
  let sect := fun (k : Nat) =>
    (s.flash b).load (bits (s.imgWord b k) 63 32) (bits (s.imgWord b k) 31 0)
  let s1 := { s with boot := { s.boot with
    settings := some (sect 2), firmware := sect 3, imgDigest := shakeBytes 64 ((s.flash b).load 0 (bits h 31 0)),
    abiDigest := shakeBytes 64 (sect 4), recovery := false } }
  let s2 := ((s1.set F.BOOT_STATUS_MAJOR (bits h 63 56)).set F.BOOT_STATUS_MINOR (bits h 55 48)).set
    F.BOOT_STATUS_SVN (bits h 47 32)
  let s3 := ((s2.set F.BOOT_STATUS_KEY_ID (bits (s.imgWord b 1) 63 56)).set F.BOOT_STATUS_BANK b).set
    F.BOOT_STATUS_FALLBACK (boolBit fallback)
  let d := bootOf s.led.bodies
  (s3.set F.BOOT_STATUS_TRIAL (boolBit (d.2.1 && b == d.2.2.1))).set F.BOOT_STATUS_OWNER_ONLY (boolBit s.led.ownerOnly)

/-- IMAGE_BOOT (R452): bit b of `readFail` says that bank b cannot be read. -/
def imageBoot (readFail : Nat) (s : State) : State :=
  if s.mstate = msImage ∧ ¬ s.boot.trialPending ∧ ¬ s.boot.recovery then
    let d := bootOf s.led.bodies
    let first := if d.2.1 then d.2.2.1 % 2 else d.1 % 2
    let w1 := s.verifyBank first (bitAt readFail first)
    let s1 := if w1 = 0 then s else s.imageSignature first w1
    let w2 := s.verifyBank (1 - first) (bitAt readFail (1 - first))
    let s2 := if w1 = 0 ∨ w2 = 0 then s1 else s1.imageSignature (1 - first) w2
    let s3 := if d.2.1 then s2.ledgerAdd (.boot d.1 false d.2.2.1 d.2.2.2) else s2
    let s4 := { s3 with boot := { s3.boot with trialPending := d.2.1 } }
    if w1 = 0 ∨ w2 = 0 then
      let s5 := s4.loadImage (if w1 = 0 then first else 1 - first) (w1 != 0)
      if d.2.1 then s5 else (s5.clearHold 2).bringUp
    else s4.recover
  else s

def execImageBoot (readFail : Nat) (s : State) : Out := live s (imageBoot readFail)

/-- LEDGER_COMMIT_DONE (R455): the records count. In IMAGE the commit that clears TRIAL lets the module go on (R452). -/
def State.commitDone (s : State) : State :=
  if s.led.inFlight.isEmpty then s
  else
    let s1 := { s with led := s.led.commit }.showLedger
    if s1.boot.trialPending then
      let s2 := { s1 with boot := { s1.boot with trialPending := false } }
      if s2.mstate = msImage ∧ ¬ s2.boot.recovery then (s2.clearHold 2).bringUp else s2
    else s1

/-- HOLDUP_REFUSE_TIMEOUT (R433): every commit refused for 64 s. -/
def holdupRefuseTimeout (s : State) : State := if s.led.refusing then s.setHold 3 else s

def execHoldupRefuseTimeout (s : State) : Out := live s holdupRefuseTimeout

/-! ## Writing an image (R453) -/

/-- The bank that booted; none in the recovery service. -/
def State.isBooted (s : State) (b : Nat) : Bool := !s.boot.recovery && s.get F.BOOT_STATUS_BANK == b

/-- A FL_CTRL operation: on the booted bank LAST_RESULT 1 and nothing else; ignored while one is in progress. -/
def State.flashCtrl (s : State) (op b : Nat) : State :=
  if s.isBooted b then s.set F.FL_STATUS_LAST_RESULT 1
  else if op = 1 ∨ op = 2 then
    if s.boot.flashOp.isSome then s
    else { s with boot := { s.boot with flashOp := some (op, b), flBank := b } }.set F.FL_STATUS_BUSY 1
  else
    let d := s.led.bootNext
    if op = 3 then
      if s.on F.FL_STATUS_VERIFIED then (s.ledgerAdd (.boot d.1 true b d.2.2.2)).set F.FL_STATUS_LAST_RESULT 0
      else s.set F.FL_STATUS_LAST_RESULT 9
    else (s.ledgerAdd (.boot d.1 false d.2.2.1 d.2.2.2)).set F.FL_STATUS_LAST_RESULT 0

def execFlashErase (bank : Nat) (s : State) : Out := lively s bank 2 (fun s => s.flashCtrl 1 bank)
def execFlashVerify (bank : Nat) (s : State) : Out := lively s bank 2 (fun s => s.flashCtrl 2 bank)
/-- ARM_TRIAL (R453): refused unless FL_STATUS.VERIFIED is 1. -/
def execArmTrial (bank : Nat) (s : State) : Out := lively s bank 2 (fun s => s.flashCtrl 3 bank)
/-- DISARM (R467): TRIAL := 0. -/
def execDisarm (bank : Nat) (s : State) : Out := lively s bank 2 (fun s => s.flashCtrl 4 bank)

/-- FL_STATUS.FREE and BUSY follow the program buffer. -/
def State.showFlash (s : State) : State :=
  (s.set F.FL_STATUS_FREE (1024 - (s.boot.held + 1023) / 1024)).set F.FL_STATUS_BUSY
    (boolBit (s.boot.held != 0 || s.boot.flashOp.isSome))

/-- FL_DATA_WRITE (R453): programs a word at FL_ADDR of the bank that did not boot and advances it; dropped with
LAST_RESULT 8 while FREE is 0. -/
def flDataWrite (v : Word) (s : State) : State :=
  if s.get F.FL_STATUS_FREE = 0 then s.set F.FL_STATUS_LAST_RESULT 8
  else
    let b := if s.boot.recovery then s.boot.flBank else 1 - s.get F.BOOT_STATUS_BANK
    let o := s.get F.FL_ADDR_OFFSET / 8 * 8
    let s1 := if o < 96 * 2 ^ 20 then s.setFlash b ((s.flash b).store o (bytesOf 8 v.toNat)) else s
    let s2 := { s1 with boot := { s1.boot with held := s1.boot.held + 8 } }.showFlash
    (s2.set F.FL_STATUS_VERIFIED 0).set F.FL_ADDR_OFFSET (o + 8)

def execFlDataWrite (v : Word) (s : State) : Out := live s (flDataWrite v)

/-- LAST_RESULT of a verify (R467), from the reason of R468. -/
def verifyResult : Nat → Nat
  | 0 => 0
  | 3 => 5
  | 4 => 6
  | 5 => 7
  | _ => 4

/-- FLASH_OP_DONE (R453): an erase leaves contents that the spec does not state, a verify sets VERIFIED. -/
def flashOpDone (ok : Bool) (s : State) : State :=
  match s.boot.flashOp with
  | none => s
  | some (op, b) =>
    let s1 := { s with boot := { s.boot with flashOp := none } }.showFlash
    if op = 1 then
      let s2 := s1.set F.FL_STATUS_VERIFIED 0
      if ok then (s2.setFlash b (s2.flash b).lose).set F.FL_STATUS_LAST_RESULT 0 else s2.set F.FL_STATUS_LAST_RESULT 2
    else
      let w := s1.verifyBank b (!ok)
      (s1.set F.FL_STATUS_LAST_RESULT (verifyResult w)).set F.FL_STATUS_VERIFIED (boolBit (w == 0))

def execFlashOpDone (ok : Bool) (s : State) : Out := live s (flashOpDone ok)

/-! ## Identity and attestation (R457 to R460) -/

/-- The 384 bytes of the attestation report (R458). -/
def State.attestReport (s : State) : List Byte :=
  let nonce := (List.range 4).flatMap fun i => bytesOf 8 (s.reg (A.ID_NONCE i)).toNat
  let grade := bytesOfWords [s.gradeMask, s.siteMap0, s.siteMap1]
  bytesOf 8 (2 ^ 56 + 384) ++ nonce ++ bytesOf 8 s.fuse.serial.toNat ++ bytesOf 8 s.gradeMask.toNat ++ bytesOf 8 s.now
    ++ padTo 64 s.boot.imgDigest ++ padTo 64 s.boot.abiDigest ++ shakeBytes 64 grade ++ s.led.head
    ++ bytesOf 8 (s.reg A.BOOT_STATUS).toNat ++ List.replicate 56 0

/-- Start an identity operation, or RESULT 1 while one is in progress (R459); a new operation empties the report. -/
def State.idStart (s : State) (op : Nat) : State :=
  if s.on F.ID_STATUS_BUSY then s.set F.ID_STATUS_RESULT 1
  else
    let s1 := (s.set F.ID_STATUS_BUSY 1).set F.ID_STATUS_DONE 0
    let rep := if op = 1 then
        let r := s.attestReport
        r ++ (List.range 29792).map (Config.slhSign r)
      else []
    { s1 with boot := { s1.boot with idOp := some op, report := [], reportNext := rep } }

def execAttest (s : State) : Out := live s (fun s => s.idStart 1)
def execSubmit (s : State) : Out := live s (fun s => s.idStart 2)

/-- Byte i of the blob input (R460). -/
def State.blobByte (s : State) (i : Nat) : Byte :=
  BitVec.ofNat 8 (((mapFind s.boot.blob (i / 8)).getD 0).toNat / 2 ^ (8 * (i % 8)))

/-- The check of an owner blob (R460), and the record it commits. RESULT: 2 blob format; 3 signer; 4 signature; 5 serial;
6 slot. -/
def State.checkBlob (s : State) : Nat × Option LedgerBody :=
  let w := fun (i : Nat) => (mapFind s.boot.blob i).getD 0
  let op := bits (w 0) 63 56
  let slot := bits (w 0) 55 48
  let signer := bits (w 0) 47 40
  let head := (List.range 256).map s.blobByte
  let key := (List.range 64).map fun i => s.blobByte (16 + i)
  let rest := (List.range 176).all fun i => s.blobByte (80 + i) == 0
  let sig := (List.range 29792).map fun i => s.blobByte (256 + i)
  let skey : Option (List Byte) := if signer = 0 then some Config.plovjanKey else if signer ≤ 4 then s.led.ownerKey signer else none
  if op = 0 ∨ 4 < op ∨ bits (w 0) 39 0 ≠ 0 ∨ ¬ rest ∨ (op ≠ 1 ∧ key.any (· != 0)) then (2, none)
  else if op ≤ 2 ∧ (slot = 0 ∨ 4 < slot) then (6, none)
  else if w 1 ≠ s.fuse.serial then (5, none)
  else match skey with
    | none => (3, none)
    | some k =>
      if s.led.ownerOnly ∧ signer = 0 then (3, none)
      else if Config.slhVerify k head sig then
        (0, some (if op = 1 then .owner slot 1 key else if op = 2 then .owner slot 2 [] else .policy (op == 3)))
      else (4, none)

/-- ID_OP_DONE (R458, R460): the report is ready, or the blob's record goes to the ledger; RESULT 7 when the commit check
refuses. -/
def idOpDone (s : State) : State :=
  match s.boot.idOp with
  | none => s
  | some op =>
    let s1 := ({ s with boot := { s.boot with idOp := none } }.set F.ID_STATUS_BUSY 0).set F.ID_STATUS_DONE 1
    if op = 1 then
      { s1 with boot := { s1.boot with report := s1.boot.reportNext, reportNext := [] } }.set F.ID_STATUS_RESULT 0
    else
      let c := s1.checkBlob
      match c.2 with
      | none => s1.set F.ID_STATUS_RESULT c.1
      | some b =>
        if s1.holdupOk 40 (s1.get F.HU_STATUS_V_BANK) then (s1.ledgerAdd b).set F.ID_STATUS_RESULT 0
        else (s1.holdupLow 40).set F.ID_STATUS_RESULT 7

def execIdOpDone (s : State) : Out := live s idOpDone

/-- Words in the source SEL names (ID_STATUS.LEN): the report once it is there, the certificate, the blob input. -/
def State.idLen (s : State) : Nat :=
  match s.get F.ID_PTR_SEL with
  | 1 => s.boot.report.length / 8
  | 2 => (Config.certLen + 7) / 8 % 65536
  | 3 => 3756
  | _ => 0

/-- A read of ID_DATA: word WORD of the report or the certificate; the pointer advances (R467). -/
def State.idRead (s : State) : Word × State :=
  let k := s.get F.ID_PTR_WORD
  let w : Word := match s.get F.ID_PTR_SEL with
    | 1 => wordAt s.boot.report k
    | 2 => if k < s.idLen then BitVec.ofNat 64 (ofBytes ((List.range 8).map fun i => Config.certByte (8 * k + i))) else 0
    | _ => 0
  (w, s.wrapAdd F.ID_PTR_WORD 1)

/-- A write of ID_DATA: word WORD of the blob input; the pointer advances (R460, R467). -/
def State.idWrite (s : State) (v : Word) : State :=
  let k := s.get F.ID_PTR_WORD
  let s1 := if s.get F.ID_PTR_SEL = 3 ∧ k < 3756 then { s with boot := { s.boot with blob := mapPut s.boot.blob k v 0 } } else s
  s1.wrapAdd F.ID_PTR_WORD 1

/-- ID_DATA_ACCESS (R467). The word read goes to the port that asked for it. -/
def execIdDataAccess (write : Bool) (v : Word) (s : State) : Out :=
  live s (fun s => if write then s.idWrite v else s.idRead.2)

/-! ## VIN, presence and PRECHARGE -/

/-- VIN_WARN (R425): VIN from 42 to 44 V or from 58 to 60 V sets ALERT_CAUSE.POWER. -/
def vinWarn (vin : Nat) (s : State) : State :=
  let s1 := { s with pwr := { s.pwr with vin := vin } }
  if (4200 ≤ vin ∧ vin < 4400) ∨ (5800 < vin ∧ vin ≤ 6000) then s1.alert 1 else s1

def execVinWarn (vin : Nat) (s : State) : Out := live s (vinWarn vin)

/-- PRSNT_DEBOUNCED (R432). -/
def execPrsntDebounced (s : State) : Out := live s fun s => { s with pwr := { s.pwr with mated := true } }

/-- PRECHARGE_DONE (R446, R439): PRSNT_N mated, VIN in range, 8 J of hold-up. -/
def prechargeDone (vin : Nat) (s : State) : State :=
  if s.mstate = msPrecharge ∧ s.pwr.mated ∧ 4400 ≤ vin ∧ vin ≤ 5800 ∧ s.holdupOk 80 (s.get F.HU_STATUS_V_BANK) then
    ({ s with pwr := { s.pwr with vin := vin } }.clearHold 1).setMState msImage
  else s

def execPrechargeDone (vin : Nat) (s : State) : Out := live s (prechargeDone vin)

/-- PRECHARGE_TIMEOUT (R433): 10 s in PRECHARGE. -/
def prechargeTimeout (s : State) : State := if s.mstate = msPrecharge then s.setHold 1 else s

def execPrechargeTimeout (s : State) : Out := live s prechargeTimeout

end Sys2Proof.Machine
end

