-- ==== Sys2Proof/Machine/MemoryCtl.lean ====
section
/-! DEFINITION. Memory controllers and the stack monitor (R237, R242 to R256), far-memory ports (R257 to R260). -/
namespace Sys2Proof.Machine

/-! ## Requests (R232, R239, R242, R259) -/

/-- Whether the requester of a command exists and requests (R239): a fused-off site, the Colok number on D1 and D3, and number 31 never
do. -/
def State.requests (s : State) (r : MemReq) : Bool :=
  r.die < 4 && (if r.requester < 25 then s.siteEnabled (25 * r.die + r.requester)
    else if r.requester = 30 then r.die == 0 || r.die == 2 else r.requester < 30)

/-- What the memory reports with a request that is a command of its own. -/
def reportOf (r : MemReq) : Option Burst := some ⟨r.sev, r.bank, r.row, r.parity, r.poison⟩

/-- A request of a requester to near memory, or to far memory. -/
def State.request (s : State) (r : MemReq) (atomic : Bool) : State :=
  if s.requests r then
    match r.data with
    | none => (s.memRead ⟨r.die, r.requester⟩ r.addr r.len (reportOf r)).st
    | some bs => (s.memPut ⟨r.die, r.requester⟩ atomic r.addr bs (reportOf r)).st
  else s

/-- MC_ACCESS (R232, R236, R240, R242): a request to near memory. -/
def mcAccess (r : MemReq) (s : State) : State := if r.addr < 0x006000000000 then s.request r false else s

def execMcAccess (req : MemReq) (s : State) : Out := lively s req.die 4 (mcAccess req)

/-- MC_ATOMIC_ADD (R170, R171, R246). -/
def mcAtomicAdd (r : MemReq) (s : State) : State := if isMemory r.addr ∧ r.data.isSome then s.request r true else s

def execMcAtomicAdd (req : MemReq) (s : State) : Out := lively s req.die 4 (mcAtomicAdd req)

/-- FAR_ACCESS (R257 to R259): a request to far memory, or to the void responder in its place (R8). -/
def farAccess (r : MemReq) (s : State) : State :=
  if 0x100000000000 ≤ r.addr ∧ r.addr < 0x120000000000 then s.request r false else s

def execFarAccess (req : MemReq) (s : State) : Out := lively s req.die 4 (farAccess req)

/-! ## Far-memory ports (R257, R260) -/

/-- A trained link shows its device (R257, R265): x16 or x8, at 64 or 32 GT/s. -/
def State.farReady (s : State) (p : Nat) : State :=
  ((s.set (F.FAR_STATUS_CAP p) (min (Config.farCap p) 4096)).set (F.FAR_STATUS_WIDTH p) (if Config.farWidth p = 8 then 8 else 16)).set
    (F.FAR_STATUS_SPEED p) (if Config.farSpeed p = 32 then 32 else 64)

/-- FAR_LINK_DOWN (R260): what the device holds afterwards is open. -/
def farLinkDown (p : Nat) (s : State) : State :=
  if s.unitReady (entFar p) then
    (({ s with far := s.far.set p (s.far.getD p {}).lose } : State).setUnit (entFar p) usDown).bump (F.FAR_ERR_LINK_DOWN p)
  else s

def execFarLinkDown (port : Nat) (s : State) : Out := lively s port 2 (farLinkDown port)

/-- FAR_RETRAIN (R260, R463): a DOWN link retrains, and reaches service or not; in grade S0 it reaches the void responder (R8). -/
def farRetrain (p : Nat) (ok : Bool) (s : State) : State :=
  if s.absent (entFar p) then s.absentUnit (unitFar p) (A.FAR_CTRL p)
  else if s.unit (entFar p) = usDown then
    let s1 := s.setUnit (entFar p) usStarting
    if ok then (s1.setUnit (entFar p) usReady).farReady p else s1.setUnit (entFar p) usDown
  else s

def execFarRetrain (port : Nat) (ok : Bool) (s : State) : Out := lively s port 2 (farRetrain port ok)

/-! ## The map (R237) -/

/-- Ranges [a, a + n) and [b, b + m) overlap. -/
def overlaps (a n b m : Nat) : Bool := a < b + m && b < a + n

/-- Some two of a list stand in a relation. -/
def pairwiseAny {α : Type} (f : α → α → Bool) : List α → Bool
  | [] => false
  | x :: l => l.any (f x) || pairwiseAny f l

/-- Nothing runs (R237, check 1). -/
def State.quiet (s : State) : Bool :=
  s.get F.SEQ_STATE_STATE == 0 && !s.on F.SEQ_STEP_PEND_VALID && !s.on F.SEQ_RETAIN_APPLY_PENDING
    && ((List.range 100).all fun n => let c := s.coreAt n; (c.state == 0 || c.state == 4) && c.srun.isEmpty && c.squeue.isEmpty)
    && (List.range 4).all fun d => s.get (F.RE_STATUS_STATE d) == 0

/-- MAPPED clears where RETIRED is set (R237). -/
def State.unmapRetired (s : State) : State :=
  (s.forN 16 fun s n => s.set (F.MC_PCMAP_MAPPED n) (s.get (F.MC_PCMAP_MAPPED n) &&& (s.get (F.MC_PCMAP_RETIRED n) ^^^ 0xFFFFFFFF))).countPcs

/-- The first check of R237 that a load of regions fails; 0: none. -/
def State.mapCheck (s : State) (rs : List Region) : Nat :=
  if !s.quiet then 1
  else if rs.any fun r => r.base % 2 ^ 30 != 0 || 768 < r.start + r.span then 2
  else if (rs.any fun r => 0x006000000000 < r.base + r.size) || pairwiseAny (fun r q => overlaps r.base r.size q.base q.size) rs then 3
  else if pairwiseAny (fun r q => overlaps r.start r.span q.start q.span && r.chans.any q.chans.contains) rs then 4
  else 0

/-- MAP_LOAD (R237). -/
def mapLoad (s : State) : State :=
  let s1 := s.unmapRetired
  let rs := s1.regionRegs
  let k := s.mapCheck rs
  if k ≠ 0 then (s.set F.MAP_STATUS_LAST_REFUSE k).bump F.MAP_ERR_REFUSED
  else { s1.set F.MAP_STATUS_LOAD_PENDING 1 with map := { s1.map with next := some (s.slot + 2, rs) } }

def execMapLoad (s : State) : Out := live s mapLoad

/-- MAP_LOAD_EFFECT (R237): the boundary of the slot. -/
def mapLoadEffect (s : State) : State :=
  match s.map.next with
  | some (slot, rs) => if s.atSlot ∧ slot ≤ s.slot then (s.set F.MAP_STATUS_LOAD_PENDING 0).applyMap rs else s
  | none => s

def execMapLoadEffect (s : State) : Out := live s mapLoadEffect

/-! ## Repair and map-out (R244 to R248) -/

/-- Rows of a stack on the field-repair list: pseudo-channel, bank, row. -/
def State.fieldRows (s : State) (n : Nat) : List (Nat × Nat × Nat) :=
  (s.led.bodies ++ s.led.inFlight ++ s.led.pending).filterMap fun b =>
    match b with
    | .fieldRow st pc bank row => if st = n then some (pc, bank, row) else none
    | _ => none

/-- SOFT_REPAIR (R244): the armed slot of MC_PPR, or the first boundary at which the controller is READY (R71). -/
def softRepair (n : Nat) (s : State) : State :=
  if s.stagedDue (A.MC_PPR_ACT n) ∧ s.unitReady (entMc n) then
    (s.stagedDone (A.MC_PPR_ACT n)).setMemctl n { s.memctl n with repair := some (s.get (F.MC_PPR_NEXT_PC n), s.slot) }
  else s

def execSoftRepair (stack : Nat) (s : State) : Out := lively s stack 16 (softRepair stack)

/-- SOFT_REPAIR_DONE (R244): the controller counts the repair; the monitor reads it at the next mark (R28, R69). -/
def softRepairDone (n : Nat) (s : State) : State :=
  let c := s.memctl n
  match c.repair with
  | none => s
  | some _ =>
    (s.setMemctl n { c with repair := none, repaired := c.repaired ++
      [(s.get (F.MC_PPR_NEXT_PC n), s.get (F.MC_PPR_NEXT_BANK n), s.get (F.MC_PPR_NEXT_ROW n), s.now)] }).bump (F.MC_REPAIR_REPAIRS n)

def execSoftRepairDone (stack : Nat) (s : State) : Out := lively s stack 16 (softRepairDone stack)

/-- PC_MAPPED_OUT (R266). -/
def State.pcMappedOut (s : State) (n p cause : Nat) : State :=
  s.fault 0x0401 (unitMc n) false (mkWord [(63, 59, p), (58, 56, cause), (39, 0, s.slot)])

/-- Cause of R266 for which the monitor retires pseudo-channel p of stack n. -/
def State.retireCause (s : State) (n p : Nat) : Nat := (mapFind (s.memctl n).retire p).getD 1

/-- PC_RETIRE (R245): the armed slot of MC_PCRET, or the first boundary at which the controller is READY (R71). -/
def pcRetire (n : Nat) (s : State) : State :=
  if s.stagedDue (A.MC_PCRET_ACT n) ∧ s.unitReady (entMc n) then
    let s1 := s.stagedDone (A.MC_PCRET_ACT n)
    s1.forN 32 fun s p =>
      if bitAt (s.get (F.MC_PCRET_NEXT_RETIRE n)) p ∧ bitAt (s.get (F.MC_PCMAP_RETIRED n)) p = false then
        (s.set (F.MC_PCMAP_RETIRED n) (s.get (F.MC_PCMAP_RETIRED n) + 2 ^ p)).pcMappedOut n p (s.retireCause n p)
      else s
  else s

def execPcRetire (stack : Nat) (s : State) : Out := lively s stack 16 (pcRetire stack)

/-- The ledger holds a map-out of pseudo-channel g, or will hold it at a commit. -/
def State.ledgerMapOut (s : State) (g : Nat) : Bool :=
  (s.led.bodies ++ s.led.inFlight ++ s.led.pending).any fun b => match b with
    | .mapOut pc _ => pc == g
    | _ => false

/-- The monitor reads MC_PCMAP: a pseudo-channel that is RETIRED has its map-out written into the ledger (R245). -/
def State.recordRetired (s : State) (n : Nat) : State :=
  s.forN 32 fun s p =>
    if s.pcRetired (32 * n + p) && !s.ledgerMapOut (32 * n + p) then s.ledgerAdd (.mapOut (32 * n + p) (s.retireCause n p)) else s

/-! ## Temperature (R249 to R252) -/

/-- The controller stops issuing (R251). -/
def State.mcStop (s : State) (n : Nat) : State :=
  ((s.setMemctl n { s.memctl n with stop := true }).set (F.MC_STATUS_SREF n) 1).setUnit (entMc n) usDown

/-- THERMAL_ACTION (R249, R251): the armed slot of MC_THR, or the first boundary at which the controller is READY (R71); one that a STOP
took down takes the pair while it is DOWN, since only the pair can start it again (log entry 85). STOP is not lifted while the stack is
CRITICAL, whatever was armed before (R252). -/
def thermalAction (n : Nat) (s : State) : State :=
  if s.stagedDue (A.MC_THR_ACT n) ∧ (s.unitReady (entMc n) ∨ (s.memctl n).stop) then
    let s1 := s.stagedDone (A.MC_THR_ACT n)
    let was := (s1.memctl n).stop
    let stop := s1.on (F.MC_THR_NEXT_STOP n) || (was && s1.get (F.MC_STATUS_THERM n) == 2)
    let s2 := s1.setMemctl n { s1.memctl n with refx := s1.get (F.MC_THR_NEXT_REFX n), throttle := s1.on (F.MC_THR_NEXT_THROTTLE n), stop := stop }
    if stop = true ∧ was = false then s2.mcStop n
    else if stop = false ∧ was = true ∧ s2.unit (entMc n) = usDown then s2.setUnit (entMc n) usStarting
    else s2
  else s

def execThermalAction (stack : Nat) (s : State) : Out := lively s stack 16 (thermalAction stack)

/-- STACK_CRITICAL (R266), with ALERT_CAUSE.THERMAL (R423). -/
def State.stackCritical (s : State) (n temp : Nat) (trip : Bool) : State :=
  (s.alert 0).fault 0x0403 (unitMc n) (!trip) (mkWord [(63, 56, temp), (55, 48, s.get (F.MC_TEMP_CFG_CRIT n)), (47, 47, boolBit trip)])

/-- The contents of a stack are lost (R256); in a gated APPLY its parameters with them (R224). -/
def State.loseStack (s : State) (n : Nat) : State :=
  let s1 : State := { s with near := s.near.loseStack n }
  if s1.on F.SEQ_RETAIN_APPLY_PENDING then (s1.set F.SEQ_RETAIN_APPLY_LOST 1).set F.UPD_STATUS_LOST 1 else s1

/-- CATASTROPHIC_TEMPERATURE (R252): the controller stops at once, whatever the monitor has armed, and the assertion is logged. KEPT will read
0 (R256): the stack's contents are no longer known. -/
def catastrophicTemperature (n : Nat) (s : State) : State :=
  let c := s.memctl n
  let s1 := (s.loseStack n).setMemctl n { c with trip := true, kept := false, alive := false, cool := 0 }
  let s2 := if c.trip then s1 else (s1.set (F.MC_STATUS_THERM n) 2).stackCritical n 0xFF true
  if c.stop then s2 else s2.mcStop n

def execCatastrophicTemperature (stack : Nat) (s : State) : Out := lively s stack 16 (catastrophicTemperature stack)

/-! ## Training (R248, R254 to R256) -/

/-- Consecutive boots at which a pseudo-channel failed training, from the ledger. -/
def State.failBoots (s : State) (g : Nat) : Nat :=
  (s.led.bodies ++ s.led.inFlight ++ s.led.pending).foldl (fun d b => match b with
    | .trainFail pc k => if pc = g then k else d
    | _ => d) 0

/-- One pseudo-channel at a boot's training (R248): a second failure in a row is logged. -/
def State.trainPc (s : State) (n p : Nat) (failed : Bool) : State :=
  if failed && !s.ledgerMapOut (32 * n + p) && decide (1 ≤ s.failBoots (32 * n + p)) then s.pcMappedOut n p 3 else s

/-- The monitor reads MC_TRAIN and writes what it shows of a pseudo-channel into the ledger (R248). -/
def State.recordTraining (s : State) (n p : Nat) : State :=
  let g := 32 * n + p
  if s.ledgerMapOut g then s
  else if bitAt (s.get (F.MC_TRAIN_FAILED n)) p then s.ledgerAdd (if 1 ≤ s.failBoots g then .mapOut g 3 else .trainFail g 1)
  else if s.failBoots g = 0 then s else s.ledgerAdd (.trainFail g 0)

/-- The pseudo-channels of stack n that the first map takes in: trained, and not mapped out in the ledger (R248, R254). -/
def State.trainedPcs (s : State) (n : Nat) : Nat :=
  if (s.memctl n).trained then
    (List.range 32).foldl (fun m p => m + boolBit (!bitAt (s.get (F.MC_TRAIN_FAILED n)) p && !s.ledgerMapOut (32 * n + p)) * 2 ^ p) 0
  else 0

/-- The first map of a boot (R237, R254): MAPPED is set, and the image's regions come into force. -/
def State.firstMap (s : State) : State :=
  if s.get F.MAP_STATUS_GEN ≠ 0 then s
  else
    let s1 := (s.forN 16 fun s n => s.set (F.MC_PCMAP_MAPPED n) (s.trainedPcs n)).countPcs
    s1.applyMap s1.imageRegions

/-- Every controller has trained, or is DOWN (R446). -/
def State.mcsTrained (s : State) : Bool := (List.range 16).all fun n => (s.memctl n).trained || s.unit (entMc n) == usDown

/-- MC_TRAIN_DONE (R254 to R256): the outcome of a controller's training, at a boot or on its return to service. An error on the way out of
self refresh leaves contents that the spec does not state. -/
def mcTrainDone (n : Nat) (t : Training) (s : State) : State :=
  if s.unit (entMc n) = usStarting ∨ (s.unit (entMc n) = usOff ∧ s.mstate = msTrain) then
    let c := s.memctl n
    let failed := if t.pass then t.failed.toNat else 0xFFFFFFFF
    let s1 := s.setReg (A.MC_TRAIN n) (mkWord [(63, 63, boolBit t.pass), (47, 40, t.lanes), (39, 32, t.attempts), (31, 0, failed)])
    let s2 := ((s1.set (F.MC_STATUS_SREF n) 0).set (F.MC_STATUS_KEPT n) (boolBit (c.kept && !t.srefError))).setMemctl n
      { c with trained := true, untold := c.untold || !c.trained, kept := true, alive := t.pass }
    let s3 := if t.srefError then s2.loseStack n else s2
    let s4 := s3.setUnit (entMc n) (if t.pass then usReady else usDown)
    if c.trained then s4
    else
      let s5 := s4.forN 32 fun s p => s.trainPc n p (bitAt failed p)
      if s5.mstate = msTrain ∧ s5.mcsTrained then s5.firstMap else s5
  else s

def execMcTrainDone (stack : Nat) (t : Training) (s : State) : Out := lively s stack 16 (mcTrainDone stack t)

/-! ## The monitor at an epoch mark (R242, R244, R245, R249) -/

/-- Rows repaired, being repaired or waiting for repair in a stack (R244, R245): pseudo-channel, bank, row. -/
def State.repairRows (s : State) (n : Nat) : List (Nat × Nat × Nat) :=
  let c := s.memctl n
  let inHand := if c.repair.isSome || bits (s.reg (A.MC_PPR_ACT n)) 63 63 == 1 then
      [(s.get (F.MC_PPR_NEXT_PC n), s.get (F.MC_PPR_NEXT_BANK n), s.get (F.MC_PPR_NEXT_ROW n))]
    else []
  s.fieldRows n ++ c.repaired.map (fun r => (r.1, r.2.1, r.2.2.1)) ++ inHand ++ c.want

/-- A row's repair came after an error of it: ticks by their low 31 bits, as the error log shows them (R264). -/
def repairedSince (e : EccEntry) (r : Nat × Nat × Nat × Nat) : Bool :=
  r.1 == e.pc && r.2.1 == e.bank && r.2.2.1 == e.row && decide ((r.2.2.2 + 2 ^ 31 - e.tick) % 2 ^ 31 < 2 ^ 30)

/-- The monitor reads the repairs that have ended: each row joins the field-repair list in the ledger, and errors of before its repair count
no more (R244, R245). -/
def State.recordRepairs (s : State) (n : Nat) : State :=
  let c := s.memctl n
  let s1 := c.repaired.foldl (fun s r => s.ledgerAdd (.fieldRow n r.1 r.2.1 r.2.2.1)) s
  s1.setMemctl n { c with repaired := [], recent := c.recent.filter fun e => !c.repaired.any (repairedSince e) }

/-- Soft repairs that a bank has taken or is to take. -/
def repairsIn (rows : List (Nat × Nat × Nat)) (pc bank : Nat) : Nat := (rows.filter fun r => r.1 == pc && r.2.1 == bank).length

/-- A pseudo-channel is to be retired. -/
def State.wantRetire (s : State) (n p cause : Nat) : State :=
  let c := s.memctl n
  let s1 := s.setMemctl n { c with retire := if (mapFind c.retire p).isSome then c.retire else mapInsert p cause c.retire }
  (s1.set (F.MC_PCRET_NEXT_RETIRE n) (s1.get (F.MC_PCRET_NEXT_RETIRE n) ||| 2 ^ p)).armStaged (A.MC_PCRET_ACT n) (s.slot + 2) true

/-- Whether a row meets the condition of R244 in a list of log entries, and by a UE. -/
def rowBad (thresh : Nat) (es : List EccEntry) (e : EccEntry) : Bool × Bool :=
  let same := es.filter fun x => x.pc == e.pc && x.bank == e.bank && x.row == e.row
  let ue := same.any fun x => x.sev == 2
  (ue || (thresh != 0 && thresh ≤ (same.filter fun x => x.sev == 1).length), ue)

/-- The monitor decides on one row of this epoch's log. -/
def State.monitorRow (s : State) (n : Nat) (es : List EccEntry) (e : EccEntry) : State :=
  let v := rowBad (s.get (F.MC_REMAP_CFG_CE_THRESH n)) es e
  let c := s.memctl n
  let rows := s.fieldRows n
  let key := (e.pc, e.bank, e.row)
  let busy := (mapFind c.retire e.pc).isSome || s.pcRetired (32 * n + e.pc)
  if v.1 = false then s
  else if rows.contains key then
    let s1 := s.fault 0x0402 (unitMc n) true
      (mkWord [(63, 59, e.pc), (58, 53, e.bank), (52, 35, e.row), (34, 33, if v.2 then 2 else 1)])
    if busy then s1 else s1.wantRetire n e.pc 1
  else if busy || (s.repairRows n).contains key then s
  else if Config.repairRows ≤ repairsIn (s.repairRows n) e.pc e.bank then s.wantRetire n e.pc 2
  else s.setMemctl n { c with want := c.want ++ [key] }

/-- The first row that waits is given to the controller when none is in hand. -/
def State.armRepair (s : State) (n : Nat) : State :=
  let c := s.memctl n
  match c.want with
  | (pc, bank, row) :: l =>
    if c.repair.isNone ∧ bits (s.reg (A.MC_PPR_ACT n)) 63 63 = 0 then
      ((s.setMemctl n { c with want := l }).setReg (A.MC_PPR_NEXT n) (mkWord [(28, 24, pc), (23, 18, bank), (17, 0, row)])).armStaged
        (A.MC_PPR_ACT n) (s.slot + 2) true
    else s
  | [] => s

/-- The error log at a mark: latched and emptied (R242, R264). -/
def State.latchLog (s : State) (n : Nat) : State :=
  let c := s.memctl n
  let rows := s.fieldRows n
  let word := fun (e : EccEntry) => mkWord [(63, 63, 1), (62, 61, e.sev), (60, 56, e.pc), (55, 50, e.bank), (49, 32, e.row),
    (31, 31, boolBit (rows.contains (e.pc, e.bank, e.row))), (30, 0, e.tick)]
  let s1 := s.forN 16 fun s i => s.setReg (A.MC_ERRLOG_SNAP n i) (match c.log[i]? with
    | some e => word e
    | none => 0)
  s1.setMemctl n { s1.memctl n with log := [] }

/-- The entries a mark has latched, which are those of the epoch that ended. -/
def State.latched (s : State) (n : Nat) : List EccEntry :=
  (List.range 16).filterMap fun i =>
    let w := s.reg (A.MC_ERRLOG_SNAP n i)
    if bits w 63 63 = 1 then some ⟨bits w 62 61, bits w 60 56, bits w 55 50, bits w 49 32, bits w 30 0, s.epoch - 1⟩ else none

/-- The monitor records what the controller shows, and judges what the mark latched (R244, R245, R248). -/
def State.monitorLog (s0 : State) (n : Nat) : State :=
  let s1 := if (s0.memctl n).untold then s0.forN 32 fun s p => s.recordTraining n p else s0
  let s2 := s1.setMemctl n { s1.memctl n with untold := false }
  let s := (s2.recordRepairs n).recordRetired n
  let c := s.memctl n
  let new := (s.latched n).filter fun e => !(s0.memctl n).repaired.any (repairedSince e)
  let win := max 1 (s.get (F.MC_REMAP_CFG_WINDOW n))
  let recent := (c.recent ++ new).filter fun e => s.epoch ≤ e.epoch + win
  let s3 := s.setMemctl n { c with recent := recent }
  let firsts := new.foldl (fun l e => if l.any fun x => x.pc == e.pc && x.bank == e.bank && x.row == e.row then l else l ++ [e])
    ([] : List EccEntry)
  (firsts.foldl (fun s e => s.monitorRow n recent e) s3).armRepair n

/-- The thermal action of a stack goes to its controller (R249). -/
def State.armThermal (s : State) (n refx : Nat) (stop throttle : Bool) : State :=
  (s.setReg (A.MC_THR_NEXT n) (mkWord [(3, 2, refx), (1, 1, boolBit stop), (0, 0, boolBit throttle)])).armStaged (A.MC_THR_ACT n)
    (s.slot + 2) true

/-- A stack's temperature at a mark (R249). -/
def State.monitorTemp (s0 : State) (n temp : Nat) : State :=
  let hot := s0.get (F.MC_TEMP_CFG_HOT n)
  let crit := s0.get (F.MC_TEMP_CFG_CRIT n)
  let hyst := s0.get (F.MC_TEMP_CFG_HYST n)
  let t := min temp 255
  let s := (s0.set (F.MC_TEMP_SNAP_NOW n) t).set (F.MC_TEMP_SNAP_MAX n) (max t (s0.get (F.MC_TEMP_SNAP_MAX n)))
  let c := s.memctl n
  match s.get (F.MC_STATUS_THERM n) with
  | 2 =>
    if t + hyst ≤ crit then
      if 1 ≤ c.cool then
        (((s.setMemctl n { c with cool := 0, trip := false }).set (F.MC_STATUS_THERM n) 1).alert 0).armThermal n c.refx false c.throttle
      else s.setMemctl n { c with cool := 1, trip := false }
    else s.setMemctl n { c with cool := 0 }
  | th =>
    if crit ≤ t then (((s.setMemctl n { c with cool := 0 }).set (F.MC_STATUS_THERM n) 2).stackCritical n t false).armThermal n 2 true (th == 1)
    else if th = 0 ∧ hot ≤ t then ((s.set (F.MC_STATUS_THERM n) 1).alert 0).armThermal n 1 false true
    else if th = 1 ∧ t + hyst ≤ hot then (s.set (F.MC_STATUS_THERM n) 0).armThermal n 0 false false
    else s

/-- The counters of a controller latch at a mark (R264). -/
def State.monitorSnap (s : State) (n : Nat) : State :=
  let c := s.memctl n
  let s1 := (s.setReg (A.MC_ECC_SNAP n) (s.reg (A.MC_ECC n))).setReg (A.MC_STAT_SNAP n)
    (mkWord [(63, 32, min c.granules 0xFFFFFFFF), (31, 0, min c.withheld 0xFFFFFFFF)])
  s1.setMemctl n { c with granules := 0, withheld := 0 }

end Sys2Proof.Machine
end

