-- ==== Sys2Proof/Machine/Optics.lean ====
section
/-! DEFINITION. The optical ports' commands: link control words (R366, R367, R373), steers (R376 to R379), the sideband's UP frames
(R362, R363), training (R387 to R390), retraining, OPT_CMD, dither and samples (R369, R370). -/
namespace Sys2Proof.Machine

/-! ## Sending link control words (R366, R367) -/

/-- The body of a capability slot (R388): an ECHO owed first, then a PING when due, else IDENTITY, FEATURES and VERSIONS in
rotation. -/
def State.capsBody (s : State) (p : Nat) : Nat × State :=
  let o := s.optic p
  match o.echoOwed with
  | some (q, c) =>
    (2 * 2 ^ 60 + q % 2 ^ 16 * 2 ^ 32 + (s.now * 20 - c) % 2 ^ 32, s.setOptic p { o with echoOwed := none })
  | none =>
    if ¬ s.on (F.SPK_CAD_DELAY_VALID p) ∧ (o.pingSeq = 0 ∨ o.pingSlot + 16 ≤ s.slot) then
      (2 ^ 60 + (o.pingSeq + 1) % 2 ^ 32,
        s.setOptic p { o with pingSeq := (o.pingSeq + 1) % 2 ^ 32, pingSlot := s.slot, pingTick := s.now })
    else
      (match s.slot % 3 with
      | 0 => p * 2 ^ 56 + s.get F.RT_NODE_ID_VALID * 2 ^ 55 + s.get F.RT_NODE_ID_ID * 2 ^ 32 + 2 * 2 ^ 24 + 3 * 2 ^ 16
      | 1 => 3 * 2 ^ 60 + 8 * 2 ^ 56 + boolBit (s.laneOk p 8) * 2 ^ 55
          + o.dac % 8 * 2 ^ 52 + o.adc % 16 * 2 ^ 48
      | _ => 4 * 2 ^ 60 + spokeTab, s)

/-- One link control word. -/
def lcwWord (lane kind op k : Nat) (r : Report) (body : Nat) : BitVec 128 :=
  let n := 0x5A * 2 ^ 120 + lane * 2 ^ 116 + kind * 2 ^ 112 + op * 2 ^ 108 + k * 2 ^ 104 + r.lane % 16 * 2 ^ 100 + r.kind * 2 ^ 96
    + r.value % 2 ^ 16 * 2 ^ 80 + body
  BitVec.ofNat 128 (n + crc8 n * 2 ^ 72)

/-- CAPS_DONE is due (R387): versions agreed and the delay measured. -/
def State.capsDue (s : State) (p : Nat) : Bool :=
  s.phase p == 6 && decide (p < 12) && s.on (F.LINK_VER_VALID p) && s.on (F.SPK_CAD_DELAY_VALID p)

/-- Events the words of a slot have room for, beside CAPS_DONE. -/
def State.eventRoom (s : State) (p : Nat) : Nat := (lanesOf (s.optic p).txMap).length - boolBit (s.capsDue p)

/-- The MARGIN report of the n-th word counted over the slots: the received lanes in turn (R367). -/
def State.marginTurn (s : State) (p n : Nat) : Report :=
  let ls := lanesOf (s.optic p).rxMap
  let l := ls.getD (n % ls.length) 0
  ⟨1, l, unsigned 16 ((s.get (F.LANE_MARGIN_SNAP_REF p l) : Int) - (s.get (F.LANE_MARGIN_SNAP_NOW p l) : Int)), 0⟩

/-- The words of the slot that begins now, on every lane the port sends on (R366). Events take the lanes in ascending order, and the lanes
left carry the MARGIN of the received lanes in turn (R367). -/
def State.sendLcws (s : State) (p : Nat) : State :=
  let ph := s.phase p
  let kind := if ph = 7 then 0 else if ph = 4 ∨ ph = 5 then 1 else if p < 12 then 2 else 0
  let (body, s1) := if 12 ≤ p then (0, s) else if ph = 7 then (s.beaconOut.toNat, s) else if ph = 6 then s.capsBody p else (0, s)
  let o := s1.optic p
  let mark := p < 12 && s1.get (F.SPK_STEER_STATUS_STATE p) == 1 && o.steerSlot == s.slot
  let op := if mark then s1.get (F.SPK_STEER_STATUS_OP p) else 0
  let k := if mark then s1.get (F.SPK_STEER_STATUS_LANE p) else 0
  let done := s1.capsDue p
  let evs := (if done then [⟨6, 0xF, 0, 1⟩] else []) ++ o.reports
  let ls := lanesOf o.txMap
  let word := fun (j l : Nat) =>
    let rest := if 6 ≤ ph ∧ o.rxMap ≠ 0 then s1.marginTurn p (s1.slot * ls.length + j) else ⟨0, 0xF, 0, 0⟩
    Egress.lcw p l (lcwWord l kind op k (evs.getD j rest) body)
  let s2 := if done then s1.modOptic p fun o => { o with doneSent := true } else s1
  { s2 with sent := s2.sent ++ (List.range ls.length).map fun j => word j (ls.getD j 0) }

/-- The reports sent in a slot have one slot less to go and yield to those that waited. -/
def Optic.rotate (o : Optic) (room : Nat) : Optic :=
  { o with reports := o.reports.drop room
      ++ ((o.reports.take room).map fun r => { r with left := r.left - 1 }).filter fun r => r.left != 0 }

/-! ## Receiving (R366, R367, R373, R376, R388, R389) -/

/-- A PING arrives (R388): an ECHO is owed. -/
def State.pingIn (s : State) (p : Nat) (w : Word) (cycle : Nat) : State :=
  if s.phase p = 6 ∧ p < 12 then
    s.modOptic p fun o => { o with echoOwed := some (bits w 31 0, s.now * 20 + cycle) }
  else s

/-- An ECHO arrives (R54, R388): half of the round trip less the far end's turnaround. -/
def State.echoIn (s : State) (p : Nat) (w : Word) (cycle : Nat) : State :=
  let o := s.optic p
  if s.phase p = 6 ∧ p < 12 ∧ o.pingSeq ≠ 0 ∧ bits w 47 32 = o.pingSeq % 2 ^ 16 then
    (s.set (F.SPK_CAD_DELAY_DELAY p) ((s.now * 20 + cycle - o.pingTick * 20 - bits w 31 0) / 2)).set (F.SPK_CAD_DELAY_VALID p) 1
  else s

/-- The far end's MINOR_TAB (R389): agreed, or the port fails with no version agreed. -/
def State.versionsIn (s : State) (p tab : Nat) : State :=
  match agreeVersion spokeTab tab with
  | some (m, n) =>
    (((s.set (F.LINK_VER_MAJOR p) m).set (F.LINK_VER_MINOR p) n).set (F.LINK_VER_FAR_TAB p) tab).set (F.LINK_VER_VALID p) 1
  | none => (((s.set (F.LINK_VER_FAR_TAB p) tab).set (F.LINK_VER_VALID p) 0).versionRefused p 1 0 tab).portFail p 8

/-- A capability word (R388). -/
def State.capsIn (s : State) (p : Nat) (w : Word) (cycle : Nat) : State :=
  if s.phase p ≠ 6 ∨ 12 ≤ p then s
  else match bits w 63 60 with
  | 0 => s.modOptic p fun o => { o with farIdent := some w }
  | 1 => s.pingIn p w cycle
  | 2 => s.echoIn p w cycle
  | 4 => s.versionsIn p (bits w 31 0)
  | _ => s

/-- A report of the back-channel (R367). -/
def State.reportIn (s : State) (p kind lane value : Nat) : State :=
  let s1 := if lane < laneCount p ∧ kind ≠ 0 then s.set (F.LANE_STATE_RPT_IN p lane) kind else s
  match kind with
  | 1 => if lane < laneCount p then s1.modLane p lane fun r => { r with far := signed 16 value } else s1
  | 2 => if lane < laneCount p then s1.modLane p lane fun r => { r with complaint := some s.slot } else s1
  | 3 => if s.phase p = 7 ∧ p < 12 then s1.steerAck p (value / 16 % 16) (value % 16) else s1
  | 4 =>
    if lane < laneCount p ∧ s.phase p = 7 then
      (s1.modLane p lane fun r => { r with complaint := some s.slot }).txLaneFails p lane (value % 16)
    else s1
  | 5 =>
    s1.modOptic p fun o => { o with txMism := (o.txMism.filter fun x => x.1 != lane) ++ [(lane, value % 16)] }
  | 6 => s1.modOptic p fun o => { o with farDone := true }
  | _ => s1

/-- A steer marker in slot n (R376): acts at the boundary of slot n + 1; one already taken is acknowledged again, and a lane taken for good
stays so until the next training. -/
def State.steerIn (s : State) (p op k : Nat) : State :=
  if op = 0 ∨ 4 ≤ op ∨ 8 ≤ k then s
  else
    let o := s.optic p
    let taken := if op = 2 then o.rxUse.isNone else o.rxUse == some k && o.rxPerm == (op == 3)
    if taken then s.report p 3 0xF (op * 16 + k)
    else if o.rxNext.isSome ∨ o.rxPerm = true then s
    else s.setOptic p { o with rxNext := some (op, k, s.slot + 1) }

/-- The beacon held from this slot is the one to take once every lane in use below its own has been heard, or the slot is over (R366). -/
def State.takeBeacon (s : State) (p : Nat) (ended : Bool) : State :=
  match (s.optic p).beaconWait with
  | none => s
  | some (l, tick, cycle, body) =>
    if ended = true ∨ (List.range l).all (fun k => !s.rxUsed p k || (s.laneRun p k).came) then
      (s.modOptic p fun o => { o with beaconTaken := true, beaconWait := none }).beaconIn p tick cycle body
    else s

/-- A beacon on a lane is held if it is the lowest so far. -/
def State.holdBeacon (s : State) (p lane cycle : Nat) (body : Word) : State :=
  let o := s.optic p
  if o.beaconTaken ∨ ¬ s.rxUsed p lane ∨ o.beaconWait.any (fun b => b.1 < lane) then s
  else s.setOptic p { o with beaconWait := some (lane, s.now, cycle, body) }

/-- LCW_RECEIVE (R366): the word of a lane in this slot, with the codewords the lane corrected and could not correct in the slot
before. -/
def lcwReceive (p lane cycle : Nat) (w : BitVec 128) (corr uncorr : Nat) (s : State) : State :=
  let n := w.toNat
  let ph := s.phase p
  if ph < 4 ∨ 7 < ph ∨ laneCount p ≤ lane then s
  else
    let s1 := s.modLane p lane fun r => { r with came := true, corr := r.corr + corr, uncorr := r.uncorr + uncorr }
    let s2 := if uncorr ≠ 0 ∧ ph = 7 ∧ s1.rxUsed p lane then
        let t := s1.report p 2 lane (min uncorr 0xFFFF)
        if s1.get (F.OPT_THRESH_UC_SLOT p) < uncorr then t.rxLaneFails p lane 1 else t
      else s1
    if nbits n 127 120 ≠ 0x5A ∨ nbits n 79 72 ≠ crc8 n then (s2.bump (F.LANE_STATE_LCW_BAD p lane)).takeBeacon p false
    else
      let id := nbits n 119 116
      let s3 := (s2.set (F.LANE_STATE_LAST_ID p lane) id).modLane p lane fun r => { r with seen := true, wrong := id != lane }
      let s4 := s3.reportIn p (nbits n 99 96) (nbits n 103 100) (nbits n 95 80)
      let s5 := if p < 12 ∧ ph = 7 then s4.steerIn p (nbits n 111 108) (nbits n 107 104) else s4
      let body : Word := BitVec.ofNat 64 (nbits n 63 0)
      match nbits n 115 112 with
      | 0 => if p < 12 ∧ ph = 7 then (s5.holdBeacon p lane cycle body).takeBeacon p false else s5
      | 2 => (s5.capsIn p body cycle).takeBeacon p false
      | _ => s5.takeBeacon p false

def execLcwReceive (port lane cycle : Nat) (lcw : BitVec 128) (corr uncorr : Nat) (s : State) : Out :=
  lively s port 14 (lcwReceive port lane cycle lcw corr uncorr)

/-- The lane checks at the end of a slot (R299, R373). -/
def State.slotChecks (s : State) (p : Nat) : State :=
  let used := (List.range (laneCount p)).filter (s.rxUsed p)
  let s1 := used.foldl (fun s l =>
    let r := s.laneRun p l
    let lit := !dropsMore r.refPower (s.get (F.LOCKIN_SNAP_RX_POWER p l)) (s.get (F.OPT_THRESH_LOS_DB p))
    let off := if r.seen then r.wrong else lit
    let s1 := s.modLane p l fun r => { r with bad := if off then r.bad + 1 else 0 }
    if off ∧ r.bad + 1 = 2 then
      let id := if r.seen then s.get (F.LANE_STATE_LAST_ID p l) else 0xF
      (((s1.report p 5 l id).rxLaneFails p l 3).post (dieOfPort p) (.unitState (unitPort p))).modOptic p fun o =>
        { o with mism := (o.mism.filter fun x => x.1 != l) ++ [(l, id)] }
    else s1) s
  let some_ := used.any fun l => (s.laneRun p l).seen
  s1.modOptic p fun o => { o with missSlots := if some_ then 0 else o.missSlots + 1 }

/-- The received stream's switch of lanes at its slot (R376), acknowledged in the words of the slot after. -/
def State.takeSwitch (s : State) (p : Nat) : State :=
  match (s.optic p).rxNext with
  | none => s
  | some (op, k, n) =>
    if s.slot < n then s
    else
      let s1 := s.modOptic p fun o =>
        { o with rxNext := none, rxUse := if op = 2 then none else some k, rxPerm := op == 3 }
      s1.report p 3 0xF (op * 16 + k)

/-- A port at a slot boundary: the checks of the slot that ended, the words of the one that begins, the receiver's switch. -/
def State.portSlot (s : State) (p : Nat) : State :=
  let ph := s.phase p
  if ph < 4 ∨ 7 < ph then s
  else
    let s1 := if ph = 7 then (s.takeBeacon p true).slotChecks p else s
    let s2 := (s1.sendLcws p).modOptic p fun o => { o.rotate (s1.eventRoom p) with
      beaconTaken := false, beaconWait := none
      lanes := o.lanes.map fun r => { r with came := false, seen := false, wrong := false } }
    s2.takeSwitch p

/-! ## Steer commands (R376, R377, R379, R372) -/

/-- The words of a slot whose boundary was taken before the marker was set go out anew with it. -/
def State.resend (s : State) (p : Nat) : State := if s.cad.slotTaken = some s.now then s.sendLcws p else s

/-- An autonomous SPARE is due, which acts before a staged command (R379, R381). -/
def State.spareDue (s : State) (p : Nat) : Bool := s.on (F.OPT_CTRL_AUTO_SPARE p) && !(s.optic p).failTx.isEmpty

/-- STEER (R376): the staged pair falls due; it waits while a steer is in progress or an autonomous SPARE is due (R381), and for the port to
be READY (R71). -/
def steer (p : Nat) (s : State) : State :=
  if s.stagedDue (A.SPK_STEER_ACT p) ∧ s.get (F.SPK_STEER_STATUS_STATE p) ≠ 1 ∧ s.phase p = 7 ∧ s.unitReady (entPort p) = true
      ∧ s.spareDue p = false then
    ((s.stagedDone (A.SPK_STEER_ACT p)).startSteer p (s.get (F.SPK_STEER_NEXT_OP p)) (s.get (F.SPK_STEER_NEXT_LANE p)) 0
      (s.optic p).spareCause).resend p
  else s

def execSteer (port : Nat) (s : State) : Out := lively s port 12 (steer port)

/-- LANE_DECLARE (R372): the lanes of SPK_LANE_NEXT are declared failed, cause 4, once the port is READY (R71). -/
def laneDeclare (p : Nat) (s : State) : State :=
  if s.stagedDue (A.SPK_LANE_ACT p) ∧ s.unitReady (entPort p) = true then
    let tx := s.get (F.SPK_LANE_NEXT_TX_FAIL p)
    let rx := s.get (F.SPK_LANE_NEXT_RX_FAIL p)
    (List.range (laneCount p)).foldl (fun s l =>
      let s1 := if bitAt tx l then s.txLaneFails p l 4 else s
      if bitAt rx l then s1.rxLaneFails p l 4 else s1) (s.stagedDone (A.SPK_LANE_ACT p))
  else s

def execLaneDeclare (port : Nat) (s : State) : Out := lively s port 14 (laneDeclare port)

/-- STEER_RETRY (R377). -/
def steerRetry (p : Nat) (s : State) : State :=
  let o := s.optic p
  if s.get (F.SPK_STEER_STATUS_STATE p) = 1 ∧ s.atSlot ∧ o.steerSlot + 5 ≤ s.slot then
    if s.get (F.SPK_STEER_STATUS_RETRIES p) < 3 then
      (((s.bump (F.SPK_STEER_STATUS_RETRIES p)).bump (F.OPT_ERR_STEER_RETRY p)).setOptic p { o with steerSlot := s.slot }).resend p
    else s.set (F.SPK_STEER_STATUS_STATE p) 3
  else s

def execSteerRetry (port : Nat) (s : State) : Out := lively s port 12 (steerRetry port)

/-- AUTO_SPARE (R379, R381): at a slot boundary, for the oldest failed data lane, when no steer is in progress. -/
def autoSpare (p : Nat) (s : State) : State :=
  if s.on (F.OPT_CTRL_AUTO_SPARE p) ∧ s.atSlot ∧ s.phase p = 7 ∧ s.get (F.SPK_STEER_STATUS_STATE p) ≠ 1 then
    match (s.optic p).failTx with
    | [] => s
    | (k, c) :: _ => (s.startSteer p 3 k 1 c).resend p
  else s

def execAutoSpare (port : Nat) (s : State) : Out := lively s port 12 (autoSpare port)

/-! ## The link (R299) -/

/-- LINK_LOST (R299): a port in service whose receiver has had no valid word for 4 slots, or whose lane rules have failed it. -/
def linkLost (p : Nat) (s : State) : State :=
  let o := s.optic p
  if s.phase p = 7 ∧ s.unitReady (entPort p) ∧ (4 ≤ o.missSlots ∨ o.linkFailed) then
    let s1 := if o.linkFailed then s.set (F.OPT_STATE_FAIL_REASON p) 9 else s
    ((s1.linkDown p).setUnit (entPort p) usDraining).pumpAll
  else s

def execLinkLost (port : Nat) (s : State) : Out := lively s port 12 (linkLost port)

/-- A lost port, DOWN, trains again from DETECT (R387), unless its 12 V is held off (R359). -/
def State.retrainLost (s : State) (p : Nat) : State :=
  if (s.optic p).tripped then s
  else ((s.set (F.OPT_STATE_ATTEMPTS p) 0).enterDetect p).modOptic p fun o => { o with trainEpochs := 0 }

/-- PORT_DRAIN_DONE (R299): the port that lost its link enters DOWN; an enable held meanwhile starts it at once (R463), else the
controller trains it from the next mark on. -/
def portDrainDone (p : Nat) (s : State) : State :=
  let o := s.optic p
  if s.phase p = 7 ∧ s.unit (entPort p) = usDraining ∧ (4 ≤ o.missSlots ∨ o.linkFailed) then
    let s1 := (s.setUnit (entPort p) usDown).portFresh p
    if s1.on (F.UNIT_STATE_ENABLE_PENDING (entPort p)) then
      (s1.set (F.UNIT_STATE_ENABLE_PENDING (entPort p)) 0).retrainLost p
    else s1
  else s

def execPortDrainDone (port : Nat) (s : State) : Out := lively s port 12 (portDrainDone port)

/-- RETRAIN (R387, R393): drops the link of a port in SERVICE and trains it from DETECT; the request is an event (R69). -/
def retrain (p : Nat) (s : State) : State :=
  if s.phase p = 7 then (s.post (dieOfPort p) (.retrain p)).retrainLost p else s

def execRetrain (port : Nat) (s : State) : Out := lively s port 14 (retrain port)

/-! ## UP frames (R362, R363) -/

/-- An UP frame arrives: one that fails its CRC is discarded and counted; other types than those of R362 are ignored. -/
def upFrame (p : Nat) (f : BitVec 32) (s : State) : State :=
  let n := f.toNat
  if nbits n 5 0 ≠ crc6 n then s.bump (F.OPT_ERR_SB_CRC p)
  else
    let s1 := s.modOptic p fun o => { o with upSeen := true }
    let t := nbits n 27 23
    let v := nbits n 19 6
    match nbits n 31 28 with
    | 0x9 =>
      if t < laneCount p then
        let neg := (s.optic p).window == 1
        s1.modLane p t fun r =>
          { r with lockin := r.lockin + (if neg then -(v : Int) else (v : Int)), level := r.level + v, samples := r.samples + 1 }
      else s1
    | 0xA =>
      if t = 26 then
        let neg := (s.optic p).window == 1
        s1.modOptic p fun o => { o with refLockin := o.refLockin + (if neg then -(v : Int) else (v : Int)), refSamples := o.refSamples + 1 }
      else if t = 24 ∨ t = 25 then
        s1.modOptic p fun o => { o with laserSum := o.laserSum.set (t - 24) (o.laserSum.getD (t - 24) 0 + v),
                                        laserNum := o.laserNum.set (t - 24) (o.laserNum.getD (t - 24) 0 + 1) }
      else s1
    | 0xB => s1.modOptic p fun o => { o with regRead := v }
    | 0xC => s1.modOptic p fun o => { o with alerts := o.alerts + 1 }
    | _ => s1

/-- MON (R362, R370). -/
def execMon (port : Nat) (f : BitVec 32) (s : State) : Out := lively s port 14 (upFrame port f)
/-- LMON (R362, R382). -/
def execLmon (port : Nat) (f : BitVec 32) (s : State) : Out := lively s port 14 (upFrame port f)
/-- REG_DATA (R362). -/
def execRegData (port : Nat) (f : BitVec 32) (s : State) : Out := lively s port 14 (upFrame port f)
/-- ALERT (R362): the module counts it. -/
def execAlert (port : Nat) (f : BitVec 32) (s : State) : Out := lively s port 14 (upFrame port f)

/-- SIDEBAND_LOST (R363): no valid UP frame for one whole epoch. -/
def sidebandLost (p : Nat) (s : State) : State :=
  let ph := s.phase p
  if ph ≠ 0 ∧ ph ≠ 8 ∧ 1 ≤ (s.optic p).upMissed then s.portFail p 11 else s

def execSidebandLost (port : Nat) (s : State) : Out := lively s port 14 (sidebandLost port)

/-- SPARE_WARM_TIMEOUT (R383). -/
def spareWarmTimeout (p : Nat) (s : State) : State :=
  if s.get (F.OPT_STATE_SPARE_LASER p) = 1 ∧ 400 ≤ (s.optic p).warmEpochs then
    (s.set (F.OPT_STATE_SPARE_LASER p) 3).laserFade p 4 0xF false
  else s

def execSpareWarmTimeout (port : Nat) (s : State) : Out := lively s port 12 (spareWarmTimeout port)

/-! ## Training (R387 to R391) -/

/-- ENGINE_DETECTED (R386, R387, R390). In NONE it tells that an engine is in the cage; a port that a module in TRAIN has still to bring up,
or a Colok port of the recovery service (R451), goes on to read it. -/
def engineDetected (p : Nat) (e : EngineRecord) (s : State) : State :=
  let ph := s.phase p
  let s0 := s.modOptic p fun o => { o with present := true }
  let s1 := if ph = 0 ∧ ((s.mstate = msTrain ∧ s.unit (entPort p) = usOff) ∨ (s.boot.recovery = true ∧ 12 ≤ p)) then s0.portEnable p else s0
  if s1.phase p ≠ 1 then s1
  else
    let s2 := s1.setReg (A.LD_CAPS p) (e.caps &&& ~~~ maskBits 33 32)
    let s3 := (ringsOf p).foldl (fun s r =>
      let w := e.cal.getD r 0
      ((s.set (ringFsr p r) (bits w 35 22)).set (ringCal p r) (bits w 21 8)).set (ringCode p r) (bits w 21 8)) s2
    let rec1 := if p < 12 then e.laser % 2 else 0
    let s4 := (s3.set (F.OPT_STATE_ACTIVE_LASER p) rec1).set (F.OPT_STATE_SPARE_LASER p) (if rec1 = 1 then 3 else 0)
    if bits e.caps 63 56 ≠ 1 then (s4.versionRefused p 3 (bits e.caps 63 56) 0).portFail p 2
    else
      let s5 := if bitAt (s4.optic p).lasers (1 - rec1) then s4.laser p (1 - rec1) false else s4
      ((s5.set (F.LINK_VER_LD_MINOR p) (min 4 (bits e.caps 55 48))).laser p rec1 true).setPhase p 2

def execEngineDetected (port : Nat) (e : EngineRecord) (s : State) : Out := lively s port 14 (engineDetected port e)

/-- LASER_STABLE (R387). -/
def laserStable (p : Nat) (s : State) : State := if s.phase p = 2 then s.setPhase p 3 else s

def execLaserStable (port : Nat) (s : State) : Out := lively s port 14 (laserStable port)

/-- Rings that a sweep has locked: the code of each lane's ring, 16,384 or no entry where none was found. -/
def State.lockRings (s : State) (p base : Nat) (locks : List Nat) : State :=
  (List.range (laneCount p)).foldl (fun s l =>
    let c := locks.getD l 0x4000
    if c < 0x4000 then ((s.set (ringCode p (base + l)) c).set (ringLocked p (base + l)) 1).set (ringMirage p (base + l)) 0
    else s.set (ringLocked p (base + l)) 0) s

def lockCount (p : Nat) (locks : List Nat) : Nat := ((List.range (laneCount p)).filter fun l => locks.getD l 0x4000 < 0x4000).length

/-- Rings a port needs: 8 of 9, or a Colok engine's one (R387, R391). -/
def ringsNeeded (p : Nat) : Nat := if p < 12 then 8 else 1

/-- Lanes of a port whose ring, modulator or drop (base 0 or 9), is locked. -/
def State.lockedLanes (s : State) (p base : Nat) : List Nat := (List.range (laneCount p)).filter fun l => s.on (ringLocked p (base + l))

/-- TX_ACQ_DONE (R387): the port sends on every lane whose modulator ring is locked. -/
def txAcqDone (p : Nat) (locks : List Nat) (s : State) : State :=
  if s.phase p = 3 ∧ ringsNeeded p ≤ lockCount p locks then
    let s1 := s.lockRings p 0 locks
    (s1.modOptic p fun o => { o with txMap := laneMask (s1.lockedLanes p 0) }).setPhase p 4
  else s

def execTxAcqDone (port : Nat) (locks : List Nat) (s : State) : Out := lively s port 14 (txAcqDone port locks)

/-- The data lane that lane 8 carries from training on, of the lanes that work in one direction (R387). -/
def missing (p : Nat) (ls : List Nat) : Option Nat := if p < 12 then (List.range 8).find? fun l => !ls.contains l else none

/-- Transmitted lanes that work as training ends: the modulator ring is locked and no TX_MISMATCH report stands. -/
def State.txWorks (s : State) (p : Nat) : List Nat :=
  (s.lockedLanes p 0).filter fun l => !(s.optic p).txMism.any (·.1 == l) && !(s.optic p).dips.any (·.1 == l)

/-- The lane map is built from the lanes that work in each direction, lane 8 in the place of a missing lane (R387). -/
def State.buildMap (s : State) (p : Nat) (tx rx : List Nat) : State :=
  let mt := missing p tx
  let s1 := (List.range (laneCount p)).foldl (fun s l =>
    let ok := tx.contains l && rx.contains l
    let role := if !tx.contains l then 0xF else if l = 8 then mt.getD 8 else l
    ((s.set (F.LANE_STATE_ROLE p l) role).set (F.LANE_STATE_HEALTH p l) (if ok then 0 else 2)).setLaneOk p l ok) s
  let s2 := match mt with
    | some k => (s1.set (F.OPT_STATE_SPARE_USE p) k).set (F.OPT_STATE_SPARE_PERM p) 1
    | none => s1
  s2.modOptic p fun o => { o with
    rxMap := laneMask rx, rxUse := missing p rx, rxPerm := (missing p rx).isSome, txMism := [], dips := [] }

/-- RX_ACQ_DONE (R375, R387): after the nine codes of `locks` stands the number of peaks skipped for a wrong identity. -/
def rxAcqDone (p : Nat) (locks : List Nat) (s : State) : State :=
  if s.phase p = 4 ∧ ringsNeeded p ≤ lockCount p locks then
    let s1 := (s.lockRings p 9 locks).add (F.OPT_ERR_MIRAGE p) (locks.getD 9 0)
    (s1.buildMap p (s1.txWorks p) (s1.lockedLanes p 9)).setPhase p 5
  else s

def execRxAcqDone (port : Nat) (locks : List Nat) (s : State) : Out := lively s port 14 (rxAcqDone port locks)

/-- EQ_DONE (R387, R382): TRAINED codes and the references. `refs` gives the active laser's monitor, then for each of nine lanes the
off-resonance level, the received power and the received margin. -/
def eqDone (p : Nat) (refs : List Nat) (s : State) : State :=
  if s.phase p = 5 then
    let s1 := (ringsOf p).foldl (fun s r => if s.on (ringLocked p r) then s.set (ringTrained p r) (s.get (ringCode p r)) else s) s
    let s2 := (List.range (laneCount p)).foldl (fun s l =>
      (s.modLane p l fun r => { r with offLevel := refs.getD (1 + l) 0, refPower := refs.getD (10 + l) 0, refFar := 0 }).set
        (F.LANE_MARGIN_SNAP_REF p l) (refs.getD (19 + l) 0)) s1
    (s2.modOptic p fun o => { o with laserRef := refs.getD 0 0, monDrops := [], marDrops := [] }).setPhase p 6
  else s

def execEqDone (port : Nat) (refs : List Nat) (s : State) : Out := lively s port 14 (eqDone port refs)

/-- The port enters SERVICE (R387, R269): READY, FAR_ID and FAR_PORT shown. -/
def State.portService (s : State) (p : Nat) : State :=
  let o := s.optic p
  let s1 := ((s.setPhase p 7).set (F.OPT_STATE_TRAIN_EPOCHS p) o.trainEpochs).set (F.OPT_STATE_FAIL_REASON p) 0
  let s2 := (s1.setUnit (entPort p) usReady).post (dieOfPort p) (.portUp p)
  let s3 := s2.modOptic p fun o => { o with missSlots := 0, linkFailed := false, reports := [] }
  if p < 12 then
    let s4 := match o.farIdent with
      | some w => ((s3.set (F.SPK_STATE_FAR_ID p) (bits w 47 32)).set (F.SPK_STATE_FAR_PORT p) (bits w 59 56)).set
          (F.SPK_STATE_FAR_VALID p) (bits w 55 55)
      | none => s3.set (F.SPK_STATE_FAR_VALID p) 0
    (s4.portFresh p).pumpAll
  else s3

/-- CAPS_AGREED (R387, R389): `caps` is the far end's VERSIONS word; the delay has been measured, and CAPS_DONE sent and received. -/
def capsAgreed (p : Nat) (caps : Word) (s : State) : State :=
  if s.phase p = 6 then
    let s1 := s.versionsIn p (bits caps 31 0)
    if s1.phase p = 6 ∧ s1.on (F.SPK_CAD_DELAY_VALID p) ∧ (s1.optic p).doneSent = true ∧ (s1.optic p).farDone then s1.portService p else s1
  else s

def execCapsAgreed (port : Nat) (caps : Word) (s : State) : Out := lively s port 12 (capsAgreed port caps)

/-- PING (R388). -/
def execPing (port : Nat) (w : Word) (cycle : Nat) (s : State) : Out := lively s port 12 fun s => s.pingIn port w cycle
/-- ECHO (R54, R388). -/
def execEcho (port : Nat) (w : Word) (cycle : Nat) (s : State) : Out := lively s port 12 fun s => s.echoIn port w cycle

/-- Time limit of a training phase in epochs (R387). -/
def phaseLimit (ph : Nat) : Nat := [0, 4, 20, 40, 80, 20, 8].getD ph 0

/-- FAIL_REASON of a phase whose time has passed three times: no engine, laser, TX_ACQ, RX_ACQ, EQ, CAPS time (R393). -/
def phaseReason (ph : Nat) : Nat := [0, 1, 3, 4, 5, 6, 7].getD ph 0

/-- TRAIN_PHASE_TIMEOUT (R387). -/
def trainPhaseTimeout (p : Nat) (s : State) : State :=
  let ph := s.phase p
  if 1 ≤ ph ∧ ph ≤ 6 ∧ phaseLimit ph ≤ (s.optic p).phaseEpochs ∧ ¬ (12 ≤ p ∧ (s.ck (p - 12)).refused) then
    let s1 := (s.bump (F.OPT_STATE_ATTEMPTS p)).bump (F.OPT_ERR_TRAIN_FAIL p)
    if 3 ≤ s1.get (F.OPT_STATE_ATTEMPTS p) then s1.portFail p (phaseReason ph) else s1.enterDetect p
  else s

def execTrainPhaseTimeout (port : Nat) (s : State) : Out := lively s port 14 (trainPhaseTimeout port)

/-- ENGINE_REMOVED (R387, R359): 12 V off, ACTIVE_LASER reads 0 until the next DETECT; after over-current a new ENABLE may then act. -/
def engineRemoved (p : Nat) (s : State) : State :=
  let up := s.unit (entPort p) == usReady || s.unit (entPort p) == usStarting
  let s1 := ((s.portNone p).opticsFresh p).set (F.OPT_STATE_ACTIVE_LASER p) 0
  let s2 := s1.modOptic p fun o => { o with present := false, cleared := o.tripped }
  let s3 := if up then s2.setUnit (entPort p) usDown else s2
  if p < 12 then (s3.portFresh p).pumpAll else s3

def execEngineRemoved (port : Nat) (s : State) : Out := lively s port 14 (engineRemoved port)

/-- OVER_CURRENT (R359). -/
def overCurrent (p : Nat) (s : State) : State :=
  if bitAt s.pwr.cage12V.toNat p then
    ((s.cage p false).portFail p 10).modOptic p fun o => { o with tripped := true, cleared := false, lasers := 0 }
  else s

def execOverCurrent (port : Nat) (s : State) : Out := lively s port 14 (overCurrent port)

/-! ## OPT_CMD, dither, samples -/

/-- A command of OPT_CMD waits for the next mark; it acts in SERVICE only (R393). -/
def optCmd (p action lane : Nat) (s : State) : State :=
  if s.phase p = 7 then s.modOptic p fun o => { o with cmd := some (action, lane) } else s

def execOptSpare (port lane : Nat) (s : State) : Out := lively s port 12 fun s => if lane < 8 then optCmd port 1 lane s else s
def execOptSwap (port : Nat) (s : State) : Out := lively s port 12 (optCmd port 2 0)
def execOptRetakeRefs (port : Nat) (s : State) : Out := lively s port 14 (optCmd port 3 0)

/-- The engine has 12 V and is being driven. -/
def State.driven (s : State) (p : Nat) : Bool := bitAt s.pwr.cage12V.toNat p && (s.optic p).present && 1 ≤ s.phase p && s.phase p ≤ 7

/-- DITHER (R369): + at tick 0 and − at tick 1,563 of each period of 3,125 ticks. -/
def dither (p : Nat) (s : State) : State :=
  let t := s.now % 3125
  if s.driven p ∧ (t = 0 ∨ t = 1563) then
    let v := if t = 0 then 0 else 1
    (s.down p 3 0 v).modOptic p fun o => { o with dither := v }
  else s

def execDither (port : Nat) (s : State) : Out := lively s port 14 (dither port)

/-- SAMPLE (R370): at tick 781, whose samples the first window takes, and at tick 2,344, whose samples the second takes. -/
def sample (p : Nat) (s : State) : State :=
  let t := s.now % 3125
  if s.driven p ∧ (t = 781 ∨ t = 2344) then
    (s.down p 4 0 0).modOptic p fun o => { o with window := if t = 781 then 0 else 1 }
  else s

def execSample (port : Nat) (s : State) : Out := lively s port 14 (sample port)

end Sys2Proof.Machine
end

