-- ==== Sys2Proof/Machine/OptLoop.lean ====
section
/-! DEFINITION. The optical ports at an epoch mark: the latches (R370, R393), the heater codes that act (R371), and the work of the
controller: lock loops and lost locks (R371, R372), the Mirage (R374), sweeps, fade (R382), the spare comb (R383), the laser
swap (R384, R385), margins (R380) and OPT_CMD (R393). -/
namespace Sys2Proof.Machine

/-! ## Latches -/

/-- The _SNAP registers of a port (R370, R393). -/
def State.optLatch (s : State) (p : Nat) (r : PortReading) : State :=
  let s1 := (List.range (laneCount p)).foldl (fun s l =>
    let n := s.laneRun p l
    let s1 := (s.set (F.LOCKIN_SNAP_RX_SUM p l) (unsigned 32 (r.rxSum.getD l 0))).set (F.LOCKIN_SNAP_RX_POWER p l) (r.rxPower.getD l 0)
    let s2 := (s1.set (F.LANE_FEC_SNAP_CORR p l) n.corr).set (F.LANE_FEC_SNAP_UNCORR p l) n.uncorr
    ((s2.set (F.LANE_MARGIN_SNAP_NOW p l) (r.margin.getD l 0)).set (F.LANE_MARGIN_SNAP_FAR p l) (unsigned 16 n.far)).modLane p l
      fun n => { n with corr := 0, uncorr := 0 }) s
  s1.modOptic p fun o => { o with
    upMissed := if o.upSeen then 0 else o.upMissed + 1, upSeen := false,
    phaseEpochs := o.phaseEpochs + 1, trainEpochs := min (o.trainEpochs + 1) 0xFFFF }

/-! ## Lock loops (R371, R372) -/

/-- The controller declares a lane failed through SPK_LANE_NEXT, with ACT_SLOT at CAD_SLOT + 2 (R372). -/
def State.declareLane (s : State) (p l : Nat) (tx : Bool) : State :=
  let s0 := if s.on (F.SPK_LANE_ACT_ARMED p) then s else s.setReg (A.SPK_LANE_NEXT p) 0
  let f := if tx then F.SPK_LANE_NEXT_TX_FAIL p else F.SPK_LANE_NEXT_RX_FAIL p
  (s0.set f (s0.get f ||| 2 ^ l)).armStaged (A.SPK_LANE_ACT p) (s0.slot + 2) true

/-- The lock-in sum of a ring over the epoch that ended (R370). -/
def State.lockin (s : State) (p r : Nat) : Int :=
  if r < 9 then (s.laneRun p r).lockin else signed 32 (s.get (F.LOCKIN_SNAP_RX_SUM p (r - 9)))

/-- A number that saturates at 32 bits of two's complement. -/
def sat32 (i : Int) : Nat := unsigned 32 (max (-2147483648) (min 2147483647 i))

/-- A sweep of a ring starts. -/
def State.sweep (s : State) (p : Nat) (w : Sweep) : State := s.modOptic p fun o => { o with sweeps := o.sweeps ++ [w] }

/-- A ring's lock is lost (R372): logged, its lane declared failed if in use, and the ring re-acquired in the background. -/
def State.lockLost (s : State) (p r reason : Nat) : State :=
  let l := ringLane r
  let s1 := s.opticFault p 0x0704 l true (mkWord [(63, 60, l), (59, 59, boolBit (decide (r < 9))), (58, 56, reason),
    (55, 42, s.get (ringCode p r)), (31, 0, sat32 (s.lockin p r))])
  let s2 := (s1.set (ringLocked p r) 0).bump (F.OPT_ERR_LOCK_LOST p)
  let s3 := if (if r < 9 then s2.laneUsed p l else s2.rxUsed p l) then s2.declareLane p l (decide (r < 9)) else s2
  s3.sweep p ⟨r, 0, 0, 0, 0xF⟩

/-- The conditions of R372 that span epochs are counted on. -/
def State.lockCounts (s : State) (p : Nat) : State :=
  (List.range (laneCount p)).foldl (fun s l =>
    let n := s.laneRun p l
    let dark := dropsMore n.refPower (s.get (F.LOCKIN_SNAP_RX_POWER p l)) (s.get (F.OPT_THRESH_LOS_DB p))
    let flat := n.samples != 0 && withinHalf n.level (n.offLevel * n.samples)
    s.modLane p l fun n => { n with
      dark := if dark then n.dark + 1 else 0, flat := if flat then n.flat + 1 else 0,
      quiet := if n.samples = 0 then n.quiet + 1 else 0 }) s

/-- One ring at a mark: its lock may be lost (R372); else its code is updated (R371), which an overrun skips (R72). -/
def State.lockRing (s : State) (p r : Nat) (upd : Bool) : State :=
  if ¬ s.on (ringLocked p r) then s
  else
    let n := s.laneRun p (ringLane r)
    if 9 ≤ r ∧ 2 ≤ n.dark then s.lockLost p r 1
    else if r < 9 ∧ 2 ≤ n.flat then s.lockLost p r 2
    else if r < 9 ∧ 4 ≤ n.quiet then s.lockLost p r 4
    else if upd = false ∨ ¬ s.on (F.OPT_CTRL_LOCK_EN p) then s
    else if r < 9 ∧ n.samples < 32 then s.bump (F.OPT_ERR_LOCK_SKIP p)
    else
      let target : Int := if r < 9 then signed 16 (s.get (F.OPT_LOOP_TX_TARGET p)) else 0
      let lim : Int := (max 1 (s.get (F.OPT_LOOP_MAX_STEP p)) : Nat)
      let step := max (-lim) (min lim ((s.lockin p r - target) / (2 ^ s.get (F.OPT_LOOP_GAIN_SHIFT p) : Nat)))
      let c : Int := (s.get (ringCode p r) : Nat)
      let h := if r < 9 then c - step else c + step
      if h < 0 ∨ 16383 < h then s.lockLost p r 3 else s.modOptic p fun o => { o with shadow := mapPut o.shadow r h.toNat 0x4000 }

/-- The codes of the epoch: every ring's code goes out once, then the APPLY that acts at the next mark (R363, R371). -/
def State.sendCodes (s : State) (p : Nat) : State :=
  let l := (s.optic p).shadow
  let s1 := (ringsOf p).foldl (fun s r => s.down p 1 r ((mapFind l r).getD (s.get (ringCode p r)))) s
  s1.down p 2 0 0

/-! ## The Mirage and the sweeps (R374) -/

/-- A ring held to the wrong order is stepped back by one FSR and swept (R374); `id` is the lane ID decoded. -/
def State.mirageStep (s : State) (p r id : Nat) : State :=
  let c := s.get (ringCode p r)
  let f := s.get (ringFsr p r)
  let down := s.get (ringTrained p r) < c
  let h : Int := if down then (c : Int) - (f : Int) else (c : Int) + (f : Int)
  if h < 0 ∨ 16383 < h then (s.declareLane p (ringLane r) (decide (r < 9))).mirageLock p r 1 id 3 c c
  else
    let s1 := (((s.set (ringLocked p r) 0).heater p r h.toNat).applyNow p).bump (F.OPT_ERR_MIRAGE p)
    s1.sweep p ⟨r, if down then 1 else 2, c, 0, id⟩

/-- The ring's code lies more than half an FSR from its trained code; a PCE-2 ring finds no line there (R391). -/
def State.wrongOrder (s : State) (p r : Nat) : Bool :=
  let c := s.get (ringCode p r)
  let t := s.get (ringTrained p r)
  decide (p < 12) && decide (s.get (ringFsr p r) < 2 * (max c t - min c t))

/-- At the mark after a mismatch each end looks among its own rings (R374). A drop ring that is itself right is held for 4 epochs, in which
the far end may find one of its own (log entry 88). -/
def State.mirageLook (s : State) (p : Nat) : State :=
  let o := s.optic p
  let s1 := o.mism.foldl (fun s x =>
    let r := 9 + x.1
    if ¬ s.on (ringLocked p r) ∨ o.sweeps.any (fun w => w.ring == r) then s
    else if s.wrongOrder p r then s.mirageStep p r x.2
    else s.sweep p ⟨r, 3, 0, 0, x.2⟩) s
  let s2 := if o.txMism.isEmpty then s1
    else
      ((ringsOf p).filter fun r => r < 9 && s1.on (ringLocked p r) && s1.wrongOrder p r).foldl (fun s r =>
        s.mirageStep p r (((o.txMism.find? fun x => x.1 == r).map (·.2)).getD 0xF)) s1
  s2.modOptic p fun o => { o with mism := [], txMism := [] }

/-- A lane whose lost ring is held again is healthy, if both its rings are (R372). -/
def State.laneBack (s : State) (p l : Nat) : State :=
  if s.on (ringLocked p l) ∧ s.on (ringLocked p (l + 9)) then
    ((s.set (F.LANE_STATE_HEALTH p l) 0).setLaneOk p l true).modOptic p fun o => { o with rxFail := o.rxFail &&& (511 - 2 ^ l) }
  else s

/-- A sweep goes on by one epoch: found, the ring holds the new code; a Mirage correction ends after 4 epochs (R374), and so does the wait
for the far end, after which the drop ring of a lane still mismatched is re-acquired. -/
def State.sweepOne (s : State) (p : Nat) (found : List (Nat × Nat)) (w : Sweep) : State :=
  let l := ringLane w.ring
  if w.mirage = 3 then
    (if (s.laneRun p l).bad < 2 then s
     else if 4 ≤ w.epochs + 1 then (s.set (ringLocked p w.ring) 0).sweep p ⟨w.ring, 0, 0, 0, w.id⟩
     else s.sweep p { w with epochs := w.epochs + 1 })
  else match (found.find? fun x => x.1 == w.ring && x.2 < 0x4000).map (·.2) with
  | some c =>
    let s1 := ((s.set (ringCode p w.ring) c).set (ringLocked p w.ring) 1)
    if w.mirage = 0 then s1.laneBack p l else (s1.set (ringMirage p w.ring) 1).mirageLock p w.ring 1 w.id w.mirage w.before c
  | none =>
    if w.mirage ≠ 0 ∧ 4 ≤ w.epochs + 1 then
      (s.declareLane p l (decide (w.ring < 9))).mirageLock p w.ring 1 w.id 3 w.before (s.get (ringCode p w.ring))
    else s.sweep p { w with epochs := w.epochs + 1 }

def State.sweepAll (s : State) (p : Nat) (found : List (Nat × Nat)) : State :=
  let l := (s.optic p).sweeps
  l.foldl (fun s w => s.sweepOne p found w) (s.modOptic p fun o => { o with sweeps := [] })

/-- In RX_ACQ the modulator ring of a lane that the far end reports moves to the next dip, one per 2 epochs, until the report stops
(R375). -/
def State.dipStep (s : State) (p : Nat) (found : List (Nat × Nat)) : State :=
  let o := s.optic p
  let wait := fun (l : Nat) => (o.dips.find? fun x => x.1 == l).map (·.2)
  let s1 := o.txMism.foldl (fun s x =>
    match wait x.1, found.find? fun f => f.1 == x.1 && f.2 < 0x4000 with
    | some 0, _ => s
    | _, some f => ((s.heater p x.1 f.2).applyNow p)
    | _, none => s) s
  s1.modOptic p fun o => { o with txMism := [], dips := o.txMism.map fun x => (x.1, if wait x.1 = some 0 then 1 else 0) }

/-! ## Fade, spare and swap (R380, R382 to R385) -/

/-- Insert into an ascending list. -/
def insertInt (a : Int) : List Int → List Int
  | [] => [a]
  | b :: l => if a ≤ b then a :: b :: l else b :: insertInt a l

/-- Median of a list: of an even number, the mean of the middle two, rounded down. -/
def medianInt (l : List Int) : Int :=
  let q := l.foldr insertInt []
  let n := q.length
  if n % 2 = 1 then q.getD (n / 2) 0 else (q.getD (n / 2 - 1) 0 + q.getD (n / 2) 0) / 2

/-- The physical lane a transmitted data lane rides. -/
def State.physLane (s : State) (p k : Nat) : Nat :=
  if s.get (F.OPT_STATE_SPARE_USE p) = k ∧ s.on (F.OPT_STATE_SPARE_PERM p) then 8 else k

/-- The comb in use. -/
def State.activeComb (s : State) (p : Nat) : Nat := s.get (F.OPT_STATE_ACTIVE_LASER p)

/-- The values of R382 over the last 8 epochs; before 8 epochs have passed since the references they stay as they are. -/
def State.fadeValues (s : State) (p : Nat) : State :=
  let o := s.optic p
  let c := s.activeComb p
  let num := o.laserNum.getD c 0
  let s1 := if o.retake then
      (List.range (laneCount p)).foldl (fun s l => s.modLane p l fun n => { n with refFar := n.far })
        (s.modOptic p fun o => { o with laserRef := if num = 0 then o.laserRef else o.laserSum.getD c 0 / num, retake := false,
                                        monDrops := [], marDrops := [] })
    else s
  let o1 := s1.optic p
  let mon := (o1.monDrops.take 7)
  let mon := if num = 0 then o1.monDrops else ((dropDb (o1.laserRef * num) (o1.laserSum.getD c 0) : Nat) : Int) :: mon
  let lanes := if p < 12 then (List.range 8).map (s1.physLane p) else [0]
  let mar := medianInt (lanes.map fun l => (s1.laneRun p l).far - (s1.laneRun p l).refFar) :: o1.marDrops.take 7
  let s2 := s1.modOptic p fun o => { o with monDrops := mon, marDrops := mar, laserSum := [0, 0], laserNum := [0, 0] }
  let avg := fun (l : List Int) => (max 0 (min 255 (l.foldl (· + ·) 0 / 8))).toNat
  if mon.length = 8 ∧ mar.length = 8 then
    ((s2.set (F.OPT_FADE_MON_DROP p) (avg mon)).set (F.OPT_FADE_MARGIN_DROP p) (avg mar)).set (F.OPT_FADE_FADE p)
      (min (avg mon) (avg mar))
  else s2

/-- The controller stages a steer for CAD_SLOT + 2. -/
def State.stageSteer (s : State) (p op k cause : Nat) : State :=
  (((s.set (F.SPK_STEER_NEXT_OP p) op).set (F.SPK_STEER_NEXT_LANE p) k).modOptic p fun o => { o with spareCause := cause }).armStaged
    (A.SPK_STEER_ACT p) (s.slot + 2) true

/-- A step of the spare comb's line heater (R383) from the samples of the reference ring; no rule gives the code (log entry 89). -/
def State.lineStep (s : State) (p : Nat) (upd : Bool) : State :=
  let o := s.optic p
  if upd = false ∨ o.refSamples < 32 then s
  else
    let c := (Config.lineHeater o.lineCode o.refLockin).toNat
    (s.down p 1 25 c).modOptic p fun o => { o with lineCode := c }

/-- The spare comb (R383, R386, R391): warmed at WARM_DB, ready once it lies within 4 GHz. -/
def State.warmSpare (s : State) (p : Nat) (align : Int) (upd : Bool) : State :=
  let hot := s.get (F.OPT_THRESH_WARM_DB p) ≤ s.get (F.OPT_FADE_FADE p) && (s.optic p).monDrops.length == 8
  let o := s.optic p
  let st := s.get (F.OPT_STATE_SPARE_LASER p)
  if 12 ≤ p ∨ st = 3 then
    if hot ∧ ¬ o.noSpareLogged then (s.laserFade p 4 0xF false).modOptic p fun o => { o with noSpareLogged := true }
    else if hot then s else s.modOptic p fun o => { o with noSpareLogged := false }
  else if st = 0 then
    (if hot then
      let (w, s0) := (((s.set (F.OPT_STATE_SPARE_LASER p) 1).laser p 1 true).laserFade p 1 0xF false).fresh
      s0.modOptic p fun o => { o with warmEpochs := 0, lineCode := w.toNat % 2 ^ 14 }
     else s)
  else
    let s1 := s.set (F.OPT_FADE_SPARE_ALIGN p) (unsigned 8 align)
    if st = 1 then
      (if -4 ≤ align ∧ align ≤ 4 then s1.set (F.OPT_STATE_SPARE_LASER p) 2
       else (s1.lineStep p upd).modOptic p fun o => { o with warmEpochs := o.warmEpochs + 1 })
    else s1

/-- A transmit lane is verified (R384). -/
def State.laneVerified (s : State) (p l : Nat) : Bool :=
  let n := s.laneRun p l
  (match n.complaint with
   | none => true
   | some t => t + 64 ≤ s.slot) && decide (n.far ≤ (s.get (F.OPT_THRESH_MARGIN_DB p) : Nat))

/-- The swap starts (R384, R385). -/
def State.startSwap (s : State) (p : Nat) : State :=
  if s.get (F.OPT_STATE_SPARE_LASER p) ≠ 2 ∨ (s.optic p).swap.isSome then s
  else
    let free := s.get (F.OPT_STATE_SPARE_USE p) == 0xF && s.laneOk p 8
    if free then
      ((s.laserFade p 2 0xF true).srcsel p 8 1).modOptic p fun o => { o with swap := some ⟨0, 8, 0, true⟩ }
    else
      ((s.laserFade p 2 0xF false).srcsel p (s.physLane p 0) 1).modOptic p fun o => { o with swap := some ⟨4, 0, 0, false⟩ }

/-- The last step of a swap (R384): primary off, the engine's laser record written, references retaken; the record names the comb that
faded (R394). -/
def State.endSwap (s : State) (p : Nat) (hitless : Bool) : State :=
  let s1 := ((s.laserFade p 3 0xF hitless).laser p 0 false).set (F.OPT_STATE_ACTIVE_LASER p) 1
  let s2 := (s1.down p 7 29 1).set (F.OPT_STATE_SPARE_LASER p) 3
  s2.modOptic p fun o => { o with swap := none, retake := true }

/-- The lane that carries no data after a move without copies is fed from the spare comb too (R385). -/
def State.sourceRest (s : State) (p : Nat) : State :=
  ((List.range 9).filter fun l => !((List.range 8).map (s.physLane p)).contains l).foldl (fun s l => s.srcsel p l 1) s

/-- One epoch of a swap (R384, R385). A steer that has failed halts it (log entry 90). -/
def State.stepSwap (s : State) (p : Nat) : State :=
  match (s.optic p).swap with
  | none => s
  | some w =>
    let go := fun (s : State) (n : LaserSwap) => s.modOptic p fun o => { o with swap := some n }
    let lostSteer := s.get (F.SPK_STEER_STATUS_STATE p) == 3 && s.get (F.SPK_STEER_STATUS_LANE p) == w.lane
      && !s.on (F.SPK_STEER_ACT_ARMED p)
    let acked := s.get (F.SPK_STEER_STATUS_STATE p) == 2 && s.get (F.SPK_STEER_STATUS_LANE p) == w.lane
    match w.stage with
    | 0 =>
      if s.laneVerified p 8 then go (s.stageSteer p 1 0 0) { w with stage := 1, lane := 0 }
      else if 8 ≤ w.epochs + 1 then s.haltSwap p w.lane else go s { w with epochs := w.epochs + 1 }
    | 1 =>
      if acked ∧ s.get (F.SPK_STEER_STATUS_OP p) = 1 then go (s.srcsel p w.lane 1) { w with stage := 2, epochs := 0 }
      else if lostSteer then s.haltSwap p w.lane else s
    | 2 =>
      if s.laneVerified p w.lane then go (s.stageSteer p 2 w.lane 0) { w with stage := 3 }
      else if 8 ≤ w.epochs + 1 then s.haltSwap p w.lane else go s { w with epochs := w.epochs + 1 }
    | 3 =>
      if acked ∧ s.get (F.SPK_STEER_STATUS_OP p) = 2 then
        (if w.lane = 7 then s.endSwap p true else go (s.stageSteer p 1 (w.lane + 1) 0) { w with stage := 1, lane := w.lane + 1 })
      else if lostSteer then s.haltSwap p w.lane else s
    | _ =>
      if w.lane = 7 then (s.sourceRest p).endSwap p false
      else go (s.srcsel p (s.physLane p (w.lane + 1)) 1) { w with lane := w.lane + 1 }

/-- SPARE for a lane whose MARGIN has lain at or beyond MARGIN_DB for 8 epochs (R380), or, without AUTO_SPARE, for a failed one
(R379). -/
def State.marginSpare (s : State) (p : Nat) : State :=
  let s1 := (List.range 8).foldl (fun s k =>
    let n := s.laneRun p k
    let bad := decide (Int.ofNat (s.get (F.OPT_THRESH_MARGIN_DB p)) ≤ n.far)
    s.modLane p k fun n => { n with margin := if bad then n.margin + 1 else 0 }) s
  let free := s1.get (F.OPT_STATE_SPARE_USE p) == 0xF && s1.laneOk p 8 && !s1.on (F.SPK_STEER_ACT_ARMED p)
    && (s1.optic p).swap.isNone && s1.get (F.SPK_STEER_STATUS_STATE p) != 1
  if ¬ free then s1
  else match (s1.optic p).failTx, s1.on (F.OPT_CTRL_AUTO_SPARE p) with
  | (k, c) :: _, false => s1.stageSteer p 3 k c
  | _, _ =>
    match (List.range 8).find? fun k => 8 ≤ (s1.laneRun p k).margin with
    | some k => s1.stageSteer p 3 k 5
    | none => s1

/-- OPT_CMD acts (R393). -/
def State.runCmd (s : State) (p : Nat) : State :=
  match (s.optic p).cmd with
  | none => s
  | some (a, l) =>
    let s1 := s.modOptic p fun o => { o with cmd := none }
    if s.phase p ≠ 7 then s1
    else match a with
    | 1 => if p < 12 then s1.stageSteer p 3 l 6 else s1
    | 2 => if p < 12 then s1.startSwap p else s1
    | _ => s1.modOptic p fun o => { o with retake := true }

/-! ## The work of a mark -/

/-- The engine's counter of DOWN frames that failed their CRC is read once per epoch (R363); the spec does not give its place. -/
def State.readEngine (s : State) (p : Nat) : State :=
  let (w, s1) := s.fresh
  s1.down p 7 28 (2 ^ 13 + w.toNat % 2 ^ 13)

/-- The controller's work of a mark for a port in training or service; `upd`: the heaters are updated, which an overrun skips (R72). A ring
found or stepped at this mark is updated from the next one on. -/
def State.portWork (s : State) (p : Nat) (r : PortReading) (upd : Bool) : State :=
  let ph := s.phase p
  if ph = 0 ∨ ph = 8 then s
  else
    let s0 := s.readEngine p
    let s1 := if ph = 7 ∧ s0.unit (entPort p) = usDown then s0.retrainLost p else s0
    if s1.phase p ≠ 7 then
      let s2 := if s1.phase p = 4 then r.noPeak.foldl (fun s l => s.reportFor 196 p 5 l 0xF) s1 else s1
      let s3 := if s2.phase p = 4 ∧ upd = true then s2.dipStep p r.found else s2
      if 3 ≤ s3.phase p ∧ upd = true then s3.sendCodes p else s3
    else
      let s2 := s1.lockCounts p
      let held := (ringsOf p).filter fun q => s2.on (ringLocked p q)
      let s3 := if upd then (s2.sweepAll p r.found).mirageLook p else s2
      let s4 := held.foldl (fun s q => s.lockRing p q upd) s3
      let s5 := ((if upd then s4.sendCodes p else s4).fadeValues p).warmSpare p r.align upd
      if 12 ≤ p then s5.runCmd p
      else
        let s6 := s5.stepSwap p
        let s7 := if s6.get (F.OPT_THRESH_SWAP_DB p) ≤ s6.get (F.OPT_FADE_FADE p) ∧ s6.on (F.OPT_CTRL_SWAP_EN p)
            ∧ (s6.optic p).monDrops.length = 8 then s6.startSwap p else s6
        (s7.marginSpare p).runCmd p

/-- A port at a mark: the APPLY of the epoch acts (R371), the snapshots latch, then the work of its controller, if it is in service;
the monitor sums of the epoch end. -/
def State.portMark (s : State) (p : Nat) (r : PortReading) (work upd : Bool) : State :=
  let s1 := (s.applyShadow p).optLatch p r
  let s2 := if work then s1.portWork p r upd else s1
  s2.modOptic p fun o => { o with
    refLockin := 0, refSamples := 0, lanes := o.lanes.map fun n => { n with lockin := 0, level := 0, samples := 0 } }

end Sys2Proof.Machine
end

