-- ==== Sys2Proof/Machine/Conv.lean ====
section
/-! DEFINITION. The conversion unit (R123, R124, R137 to R149, R174, R175, R319): converting one value, a bundle's values,
captures into the histories, the scale recompute and the effect of a commit or rollback on scales and histories. -/
namespace Sys2Proof.Machine

/-- The CONV field of a word with the tag it counts under (R90, R91). -/
structure ConvIn where
  cfrom : Nat
  cto : Nat
  ssel : Nat
  rnd : Nat
  rmax : Bool
  csrc : Nat
  cdst : Nat
  chist : Nat
  ctag : Nat
  deriving DecidableEq, Repr

/-- The format of the codes a conversion writes: CTO, or OFMT of the table (R175, R194: other codes act as 0xA). -/
def State.targetFmt (s : State) (n cto : Nat) : Nat :=
  let o := if cto = 0xE then s.get (F.TABLE_CFG_F_OFMT n) else s.get (F.TABLE_CFG_D_OFMT n)
  if cto = 0xE ∨ cto = 0xF then (if 1 ≤ o ∧ o ≤ 0xA then o else 0xA) else cto

/-- G of R138. -/
def convG (f : Nat) : Nat :=
  let w := fmtWidth f
  if w ≤ 8 then 128 else if w = 16 then 64 else if w = 32 then 32 else 16

/-- The values a source supplies (R137). -/
def sourceVals (fmt : Nat) (bs : List Byte) (n : Nat) : Holder := ⟨fmt, 0, valuesOf bs (fmtWidth fmt) n⟩

/-- Exponent of the present step block of the core's context (R318, R319). -/
def State.bfpExp (s : State) (n : Nat) : Int :=
  let ctx := s.get (F.CONV_BFP_CTX n)
  let k := s.get (F.CONV_BFP_POS_BLOCK n)
  let j : Nat := k / 2 ^ s.get (F.RC_EXP_GRAN ctx) % 4096
  let b : Nat := if s.on (F.CORE_CTRL_MODE n) then s.get F.SEQ_STEP_TAG % 2 else 0
  signed 8 (bits (s.reg (A.EXPT ctx b (j / 8))) (8 * (j % 8) + 7) (8 * (j % 8)))

/-- A value times 2^k. -/
def FV.scale2 (v : FV) (k : Int) : FV :=
  match v with
  | .fin n m e => .fin n m (e + k)
  | w => w

/-- Evaluate a table (R175) on a scaled source value; the result is exact FP32, infinite or poison. -/
def State.tableEval (s : State) (n : Nat) (deriv : Bool) (x : FV) : FV :=
  let xc := ffF32.round x
  match decodeFmt 0xA xc with
  | .fin neg m _ =>
    let sg : Nat := if m = 0 then 0 else if neg then 1 else 0
    let ex : Nat := xc / 2 ^ 23 % 256
    let u : Int := if ex = 0 then -127 else (ex : Int) - 127
    let emin := signed 8 (if deriv then s.get (F.TABLE_CFG_D_EMIN n) else s.get (F.TABLE_CFG_F_EMIN n))
    let o := u - emin
    let seg := if o < 0 then sg * 256 else if 15 < o then sg * 256 + 255 else sg * 256 + o.toNat * 16 + xc / 2 ^ 19 % 16
    let w := s.reg (if deriv then A.DERIV_ENTRY n seg else A.FUNC_ENTRY n seg)
    f32 (ffF32.round (((f32 (bits w 63 32)).mul (f32 xc)).add (f32 (bits w 31 0))))
  | _ => .nan

/-- One value converted (R135, R140 to R145, R174, R175, R319): code, what happened, and the value RMAX captures. A table conversion applies
SSEL and RND to a block fixed-point source too (DESIGN CHOICE, log entry 95). -/
def State.convOne (s : State) (n b row : Nat) (ci : ConvIn) (md : RMode) (i c : Nat) : (Nat × CvKind) × FV :=
  let t := s.targetFmt n ci.cto
  let raw := decodeFmt ci.cfrom c
  let v := if ci.cfrom = 0xC then raw.scale2 (s.bfpExp n) else raw
  if ci.cto = 0xE ∨ ci.cto = 0xF then
    let deriv := ci.cto == 0xF
    let isel := if deriv then s.get (F.TABLE_CFG_D_ISEL n) else s.get (F.TABLE_CFG_F_ISEL n)
    let y := s.tableEval n deriv (v.mul (s.factor n b isel i row))
    (encodeFmt t md (y.mul (s.factor n b ci.ssel i row)), y)
  else if ci.cto = 0xC then (encodeFmt 0xC md (v.scale2 (-(s.bfpExp n))), v)
  else if ci.cfrom = 0xC then (encodeFmt t .near v, v)
  else
    let k := s.factor n b ci.ssel i row
    if ci.cfrom = 2 ∧ ci.cto = 1 ∧ k.onGrid (-40) = 2 ^ 40 then
      let code := if c % 8 = 0 then c / 8 * 128 else c / 8 * 128 + 4 * (c % 8) + 48
      ((code, if c = 8 then .poison else .plain), v)
    else (encodeFmt t md (v.mul k), v)

/-- The counts of one converted value under its tag (R146). -/
def State.convCount (s : State) (n tag : Nat) : CvKind → State
  | .plain => s
  | .sat => s.bump (F.CONV_TAG_A_SAT_COUNT n tag)
  | .flush => s.bump (F.CONV_TAG_A_FLUSH_COUNT n tag)
  | .poison => s.bump (F.CONV_TAG_B_POISON_COUNT n tag)

/-- A block fixed-point value has been converted: BLOCK advances after every 64 (R319). -/
def State.bfpStep (s : State) (n : Nat) (ci : ConvIn) : State :=
  if ci.cfrom = 0xC ∨ ci.cto = 0xC then
    let c := s.coreAt n
    if c.bfpCnt = 63 then (s.setCore n { c with bfpCnt := 0 }).wrapAdd (F.CONV_BFP_POS_BLOCK n) 1
    else s.setCore n { c with bfpCnt := c.bfpCnt + 1 }
  else s

/-- The index a capture raises (R147). -/
def State.capIndex (s : State) (n h i row : Nat) : Nat :=
  match s.get (F.HIST_CFG_MODE n h) with
  | 1 => i % 128
  | 2 => row % 128
  | _ => 0

/-- What a bundle's conversion leaves: codes in order, captures, the state with its counts. -/
structure ConvOut where
  codes : List Nat
  caps : List (Nat × Nat)
  st : State

/-- Convert values from index i on (R138, R142, R146): `draw` gives the random lanes of the bundle's own draw. A captured magnitude that FP32
does not hold exactly is rounded to nearest and saturates (DESIGN CHOICE, log entry 96). -/
def State.convert (s : State) (n b row : Nat) (ci : ConvIn) (draw : Nat → Nat) : Nat → List Nat → ConvOut
  | _, [] => ⟨[], [], s⟩
  | i, c :: cs =>
    let lane := draw (i % 128)
    let md : RMode := if ci.rnd = 1 then .stoch (if i < 128 then lane / 65536 else lane % 65536)
      else if ci.rnd = 2 then .zero else .near
    let r := s.convOne n b row ci md i c
    let s1 := (s.convCount n ci.ctag r.1.2).bfpStep n ci
    let rest := s1.convert n b row ci draw (i + 1) cs
    let cap := if ci.rmax ∧ r.2.isFin then [(s.capIndex n ci.chist i row, (ffF32.roundSat r.2.abs).1)] else []
    ⟨r.1.1 :: rest.codes, cap ++ rest.caps, rest.st⟩

/-! ## Histories and scales at a commit (R147 to R149) -/

/-- History value: set h, copy c (0 and 1 working banks, 2 to 5 window), index j (R156). -/
def State.hist (s : State) (n h c j : Nat) : Nat :=
  bits (s.reg (A.HIST_WORD n h (64 * c + j / 2))) (32 * (j % 2) + 31) (32 * (j % 2))

def State.setHist (s : State) (n h c j v : Nat) : State :=
  let a := A.HIST_WORD n h (64 * c + j / 2)
  s.setReg a (putBits (s.reg a) (32 * (j % 2) + 31) (32 * (j % 2)) v)

/-- A capture takes effect: max of FP32 magnitudes. -/
def State.landCap (s : State) (n h bank : Nat) (vals : List (Nat × Nat)) : State :=
  vals.foldl (fun s p => s.setHist n h bank p.1 (max (s.hist n h bank p.1) p.2)) s

/-- Clear a working bank of every set. -/
def State.clearWorking (s : State) (n bank : Nat) : State :=
  s.forN 8 fun s h => s.forN 64 fun s w => s.setReg (A.HIST_WORD n h (64 * bank + w)) 0

/-- Shift the windows (R148): W3 dropped, W0 := bank b, bank b := 0. -/
def State.shiftHist (s : State) (n b : Nat) : State :=
  let s1 := s.forN 8 fun s h => s.forN 64 fun s w =>
    let r := fun (c : Nat) => s.reg (A.HIST_WORD n h (64 * c + w))
    (((s.setReg (A.HIST_WORD n h (320 + w)) (r 4)).setReg (A.HIST_WORD n h (256 + w)) (r 3)).setReg
      (A.HIST_WORD n h (192 + w)) (r 2)).setReg (A.HIST_WORD n h (128 + w)) (r b)
  s1.clearWorking n b

/-- fmt_max as a mantissa, exponent and root: the value is (m × 2^e)^(1/root) (R120, R149). -/
def fmtMax (f : Nat) : Option (Nat × Int × Nat) :=
  match f with
  | 1 => some (1, 63, 8)
  | 2 => some (1, 3, 2)
  | 6 => some (127, 0, 1)
  | 7 => some (7, 0, 1)
  | 0xB => some (2 ^ 31 - 1, 0, 1)
  | 0xD => some (16777215, 104, 1)
  | _ => (floatFmt f).map fun g => (g.maxM, g.maxE, 1)

/-- Whether scale (m, e) reaches a × 2^margin ÷ fmt_max (R149), exactly. -/
def scaleReaches (mx : Nat × Int × Nat) (am : Nat) (ae : Int) (m : Nat) (e : Int) : Bool :=
  let (x, y, r) := mx
  dyLe (am ^ r) (ae * r) (m ^ r * x) (e * r + y)

/-- The smallest UE8M4 slot that reaches the target, held within the limits of R149. -/
def smallestSlot (mx : Nat × Int × Nat) (am : Nat) (ae : Int) : Nat :=
  let es := (List.range 255).find? fun (e : Nat) => scaleReaches mx am ae 31 ((e : Int) - 131)
  match es with
  | none => 254 * 16 + 15
  | some e =>
    match (List.range 16).find? fun f => scaleReaches mx am ae (16 + f) ((e : Int) - 131) with
    | some f => e * 16 + f
    | none => e * 16 + 15

/-- The new slots of an AUTO recompute (R149), from the windows after the shift. -/
def State.autoSlots (s : State) (n : Nat) : List (Nat × Nat) :=
  (List.range 63).flatMap fun k' =>
    let k := k' + 1
    if !s.on (F.SCALE_CFG_AUTO n k) then []
    else match fmtMax (s.get (F.SCALE_CFG_FMT n k)) with
    | none => []
    | some mx =>
      let h := s.get (F.SCALE_CFG_HSET n k)
      let tens := s.get (F.HIST_CFG_MODE n h) == 0 || s.get (F.HIST_CFG_MODE n h) == 3
      (List.range 128).filterMap fun i =>
        let j := if tens then 0 else i
        let a := (List.range (s.get (F.HIST_CFG_WINDOW n h) + 1)).foldl (fun m w => max m (s.hist n h (2 + w) j)) 0
        match f32 a with
        | .fin _ m e => if m = 0 then none else some (k * 128 + i, smallestSlot mx m (e + s.get (F.SCALE_CFG_MARGIN n k)))
        | _ => none

/-- AUTO_RECOMPUTE_DONE (R149): the last slot is written. -/
def autoRecomputeDone (n : Nat) (s : State) : State :=
  if s.on (F.CONV_STATUS_AUTO_BUSY n) then
    let c := s.coreAt n
    let s1 := c.autoNew.foldl (fun s p =>
      let k := p.1 / 128
      let i := p.1 % 128
      let a := A.SCALE_WORD n c.autoBank (32 * k + i / 4)
      s.setReg a (putBits (s.reg a) (16 * (i % 4) + 15) (16 * (i % 4)) p.2)) s
    (s1.setCore n { s1.coreAt n with autoNew := [] }).set (F.CONV_STATUS_AUTO_BUSY n) 0
  else s

/-- The commit actions of a conversion unit for bank b (R148, R149): the recompute starts; one still in progress ends first. -/
def State.convCommit (s : State) (n b : Nat) : State :=
  let s1 := (autoRecomputeDone n s).shiftHist n b
  let new := s1.autoSlots n
  (s1.setCore n { s1.coreAt n with autoNew := new, autoBank := b }).set (F.CONV_STATUS_AUTO_BUSY n) 1

/-- The commit of a step tag reaches core n (R148): the first time for the tag it acts, and records it. -/
def State.convCommitTag (s : State) (n tag : Nat) : State :=
  if s.on (F.CONV_STATUS_LC_VALID n) ∧ s.get (F.CONV_STATUS_LAST_COMMIT n) = tag then s
  else ((s.convCommit n (tag % 2)).set (F.CONV_STATUS_LAST_COMMIT n) tag).set (F.CONV_STATUS_LC_VALID n) 1

/-- A rollback or reset clears both working banks and the captures on their way to them (R147, R148). -/
def State.convDiscard (s : State) (n : Nat) : State :=
  let c := s.coreAt n
  let keep := c.pend.filter fun p => match p.op with
    | .cap _ _ _ => false
    | _ => true
  ((s.setCore n { c with pend := keep }).clearWorking n 0).clearWorking n 1

def execAutoRecomputeDone (site : Nat) (s : State) : Out := lively s site 100 (autoRecomputeDone site)

/-- COMMIT_NOW (R148, R157): in MODE = FREE, STOPPED or HALTED; on a fused-off site it reaches the void responder (R8). -/
def commitNow (n : Nat) (s : State) : State :=
  let c := s.coreAt n
  if !s.siteEnabled n then s.absentUnit (unitCore n) (A.CONV_CTRL n)
  else if ¬ s.on (F.CORE_CTRL_MODE n) ∧ (c.state = 0 ∨ c.state = 4) then
    s.convCommit n (s.get (F.CONV_CTRL_FREE_BANK n))
  else s

def execCommitNow (site : Nat) (s : State) : Out := lively s site 100 (commitNow site)

end Sys2Proof.Machine
end

