-- ==== Sys2Proof/Machine/Issue.lean ====
section
/-! DEFINITION. One issue of a control word (R76 to R106): decoding the fields, the checks of R99 and R100, and what a bundle
commits, with the latencies of R93. -/
namespace Sys2Proof.Machine

/-! ## Control words -/

/-- Bits hi:lo of a control word (R76). -/
def cw (w hi lo : Nat) : Nat := w / 2 ^ lo % 2 ^ (hi + 1 - lo)

/-- Word k of the control-word store of site n (R411). -/
def State.fetchWord (s : State) (n k : Nat) : Nat := s.core.num (n * 0x1000000 + 0xC00000 + 32 * k) 32

def cwSeqOp (w : Nat) : Nat := cw w 255 252
def cwSeqArg (w : Nat) : Nat := cw w 251 240
def cwLsel (w : Nat) : Nat := cw w 239 237
def cwLop (w : Nat) : Nat := cw w 236 235
def cwTripImm (w : Nat) : Nat := cw w 234 219
def cwRepeat (w : Nat) : Nat := cw w 218 208
def cwAg (w a : Nat) : Nat := cw w (167 + 8 * a) (160 + 8 * a)
/-- Pop end i and push end i (R76, R85). -/
def cwPop (w i : Nat) : Nat := cw w (159 - 8 * i) (152 - 8 * i)
def cwPush (w i : Nat) : Nat := cw w (127 - 8 * i) (120 - 8 * i)
def endOn (b : Nat) : Bool := b / 8 % 2 == 1
def endQueue (b : Nat) : Nat := b / 16

def cwTmode (w : Nat) : Nat := cw w 111 108
def cwFmtA (w : Nat) : Nat := cw w 107 104
def cwFmtB (w : Nat) : Nat := cw w 103 100
def cwTile (w : Nat) : Nat := cw w 99 95
def cwTrb (w : Nat) : Bool := cw w 94 94 == 1
def cwRowctl (w : Nat) : Nat := cw w 92 91
def cwCpass (w : Nat) : Nat := cw w 90 88
def cwSrcA (w : Nat) : Nat := cw w 87 86
def cwSrcB (w : Nat) : Nat := cw w 85 84
def cwSwap (w : Nat) : Bool := cw w 80 80 == 1

def cwVop (w : Nat) : Nat := cw w 79 74
def cwVsrcA (w : Nat) : Nat := cw w 73 71
def cwVsrcB (w : Nat) : Nat := cw w 70 68
def cwVtile (w : Nat) : Nat := cw w 67 63
def cwVreg (w : Nat) : Nat := cw w 62 60
def cwVdst (w : Nat) : Nat := cw w 59 58
def cwVfmt (w : Nat) : Nat := cw w 57 56
def cwVrowctl (w : Nat) : Nat := cw w 55 54
def cwVmod (w : Nat) : Nat := cw w 53 48

def cwConv (w : Nat) : ConvIn :=
  ⟨cw w 47 44, cw w 43 40, cw w 39 34, cw w 33 32, cw w 31 31 == 1, cw w 30 28, cw w 27 27, cw w 26 24, cw w 22 19⟩

def cwRdraw (w : Nat) : Bool := cw w 23 23 == 1
def cwMsat (w : Nat) : Bool := cw w 18 18 == 1
def cwMbound (w : Nat) : Bool := cw w 17 17 == 1
def cwImm (w : Nat) : Nat := cw w 15 0

/-! ## Reserved encodings (R77) -/

/-- Commands of an address generator (R82). -/
inductive AgCmd where
  | idle | issue | reset | flush | reserved
  | issueStep (l : Nat)
  | step (l : Nat)
  | select (set : Nat)
  deriving DecidableEq, Repr

def agCmd (b : Nat) : AgCmd :=
  let hi := b / 64
  let mid := b / 8 % 8
  let lo := b % 8
  match hi, mid with
  | 0, 0 => if lo = 0 then .idle else .reserved
  | 1, 0 => if lo < 6 then .issueStep lo else .reserved
  | 2, 0 => if lo = 0 then .issue else .reserved
  | 3, 0 => if lo = 0 then .reset else .reserved
  | 3, 1 => if lo < 6 then .step lo else .reserved
  | 3, 2 => if lo < 2 then .select lo else .reserved
  | 3, 3 => if lo = 0 then .flush else .reserved
  | _, _ => .reserved

/-- The SEQ field is a reserved encoding: a reserved SEQ_OP, a loop level 6 or 7, WMODE 3. -/
def seqReserved (w : Nat) : Bool :=
  match cwSeqOp w with
  | 0 => false | 4 => false | 5 => false
  | 1 => 6 ≤ cwSeqArg w % 8
  | 2 => 6 ≤ cwSeqArg w % 8
  | 3 => cwSeqArg w / 1024 == 3
  | _ => true

/-- The SEQ operation as executed: a reserved encoding acts as NEXT. -/
def seqOp (w : Nat) : Nat := if seqReserved w then 0 else cwSeqOp w

def loopReserved (w : Nat) : Bool := cwLop w != 0 && 6 ≤ cwLsel w

/-- The TENSOR operation uses its MAC part, its load part. -/
def hasMac (t : Nat) : Bool := t == 2 || t == 3 || t == 4 || t == 5
def hasLoad (t : Nat) : Bool := t == 1 || t == 3 || t == 5

/-- The TENSOR field is a reserved encoding (R86, R125, R153). A MAC that continues an element ignores its own formats (R87), so they are not
looked at when SRC_A is disabled; the element it continues is never BF16, which takes one cycle (R126), so CPASS must then be 0. -/
def tensorReserved (s0 : Bool) (w : Nat) : Bool :=
  let t := cwTmode w
  let srcOn := endOn (cwPop w (cwSrcA w))
  if t = 0 then false
  else if 6 ≤ t then true
  else
    let cp := cwCpass w
    (hasLoad t && family (cwFmtB w) == 3)
      || (hasMac t && (cwRowctl w == 3
        || (srcOn && (family (cwFmtA w) == 3 || family (cwFmtA w) != family (cwFmtB w)))
        || 4 ≤ cp || (cp != 0 && (s0 || !srcOn || cwFmtA w != 8 || cwFmtB w != 8))))

/-- The vector operation is fused off in the grade (R89): NOP, with its own SEQ_ERR. -/
def vectorFused (s0 : Bool) (w : Nat) : Bool :=
  s0 && cwVop w != 0 && cwVop w < 24 && (cwVfmt w == 0 || cwVfmt w == 2 || 21 ≤ cwVop w)

/-- The VECTOR field is a reserved encoding (R89, R167, R168). -/
def vectorReserved (w : Nat) : Bool :=
  let v := cwVop w
  24 ≤ v || (v != 0 && (cwVfmt w == 3 || (cwVfmt w == 2 && (v == 14 || v == 15 || v == 16))))
    || ((v != 0 || (cwConv w).cto != 0) && cwVrowctl w == 3)

/-- The CONV field is a reserved encoding (R88, R90, R137). -/
def convReserved (s0 : Bool) (w : Nat) : Bool :=
  let c := cwConv w
  c.cto != 0 && (c.cfrom == 0 || 0xE ≤ c.cfrom || 6 ≤ c.csrc || c.rnd == 3
    || (c.csrc == 4 && c.cfrom != 0xA && c.cfrom != 0xB && c.cfrom != 0xC)
    || (s0 && (c.cfrom == 0xD || c.cto == 0xD)))

/-- The operations as executed. -/
def tmode (s0 : Bool) (w : Nat) : Nat := if tensorReserved s0 w then 0 else cwTmode w
def vop (s0 : Bool) (w : Nat) : Nat := if vectorReserved w || vectorFused s0 w then 0 else cwVop w
def convOn (s0 : Bool) (w : Nat) : Bool := (cwConv w).cto != 0 && !convReserved s0 w

/-- The word holds a reserved encoding (R77). -/
def wordReserved (s0 : Bool) (w : Nat) : Bool :=
  seqReserved w || loopReserved w || tensorReserved s0 w || vectorReserved w || convReserved s0 w
    || (List.range 6).any fun a => agCmd (cwAg w a) == .reserved

/-! ## Address generators (R82 to R84) -/

/-- COUNT of a level, 0 meaning 65,536 (R116). -/
def State.agCount (s : State) (n a set k : Nat) : Nat :=
  let c := s.get (F.AG_LVL_COUNT n a set k)
  if c = 0 then 65536 else c

/-- The current address, 24-bit two's complement (R83). -/
def State.agAddr (s : State) (n : Nat) (c : Core) (a : Nat) : Nat :=
  let set := c.agSet.getD a 0
  let idx := c.agIdx.getD a []
  let sum := (List.range 6).foldl (fun (t : Int) k =>
    t + (idx.getD k 0 : Nat) * signed 20 (s.get (F.AG_LVL_STRIDE n a set k))) (s.get (F.AG_BASE_BASE n a set))
  unsigned 24 sum

/-- Whether the address lies outside LO to HI; the flag says above HI (R83). -/
def State.agOut (s : State) (n : Nat) (c : Core) (a : Nat) : Option Bool :=
  let set := c.agSet.getD a 0
  let v := signed 24 (s.agAddr n c a)
  if v < s.get (F.AG_BASE_LO n a set) then some false
  else if (s.get (F.AG_BASE_HI n a set) : Int) < v then some true else none

/-- Carry of an advance from level k on (R83). -/
def agCarry (count : Nat → Nat) : Nat → Nat → List Nat → List Nat
  | 0, _, idx => idx
  | fuel + 1, k, idx =>
    let i := idx.getD k 0 + 1
    if i < count k ∨ k = 5 then idx.set k i else agCarry count fuel (k + 1) (idx.set k 0)

/-- Advance at level l (R83). -/
def agAdvance (count : Nat → Nat) (l : Nat) (idx : List Nat) : List Nat :=
  let z := (List.range 6).map fun k => if k < l then 0 else idx.getD k 0
  let r := agCarry count 6 l z
  if r.getD 5 0 = count 5 then r.set 5 0 else r

/-- Whether a command accesses the store. -/
def AgCmd.access : AgCmd → Bool
  | .issue => true
  | .issueStep _ => true
  | _ => false

def State.agTranspose (s : State) (n : Nat) (c : Core) (a : Nat) : Bool :=
  a < 4 && s.on (F.AG_MODE_TRANSPOSE n a (c.agSet.getD a 0))

/-- Bits of a value of the port (R116) and the side of its square (R84). -/
def State.agWidth (s : State) (n : Nat) (c : Core) (a : Nat) : Nat := 4 * 2 ^ s.get (F.AG_MODE_WIDTH n a (c.agSet.getD a 0))

def State.agQueue (s : State) (n : Nat) (c : Core) (a : Nat) : Nat := s.get (F.AG_MODE_QUEUE n a (c.agSet.getD a 0))

/-- The element a read port reads: zero bytes out of bounds under MBOUND (R83). -/
def State.agRead (s : State) (n : Nat) (c : Core) (a : Nat) : List Byte :=
  let e := s.agAddr n c a
  if (s.agOut n c a).isSome then List.replicate 128 0
  else if s.streaming n 0 e then s.raceBytes n (storeAddr n e) 128
  else s.core.load (storeAddr n e) 128

/-- Column k of a square of side e, rows not read being zero (R84). -/
def columnOf (rows : List (List Byte)) (w k : Nat) : List Byte :=
  let e := 1024 / w
  packValues w ((List.range e).map fun r => valueAt (rows.getD r []) w k)

/-- What a command does to a transpose port (R84): the column pushed, and the port after it. After a FLUSH of an incomplete square an ISSUE
starts a new square (DESIGN CHOICE, log entry 92). -/
def tbufStep (w : Nat) (cmd : AgCmd) (row : List Byte) (t : TBuf) : Option (List Byte) × TBuf :=
  let e := 1024 / w
  let left := t.full.length != 0 && t.pushed < e
  if cmd.access then
    let col := if left then some (columnOf t.full w t.pushed) else none
    let t1 := { t with pushed := if left then t.pushed + 1 else t.pushed, fill := t.fill ++ [row] }
    (col, if t1.fill.length = e then { fill := [], full := t1.fill, pushed := 0 } else t1)
  else if cmd = .flush then
    if left then (some (columnOf t.full w t.pushed), { t with pushed := t.pushed + 1 })
    else if t.fill.length ≠ 0 then (some (columnOf t.fill w 0), { fill := [], full := t.fill, pushed := 1 })
    else (none, t)
  else (none, t)

/-! ## Landing (R93, R96, R99) -/

/-- One operation completes. -/
def State.landOp (s : State) (n : Nat) : PendOp → State
  | .mac u => s.landMac n u
  | .vec t r bs => s.setAccRow n t r bs
  | .vreg r bs => let c := s.coreAt n; s.setCore n { c with vregs := c.vregs.set r bs }
  | .store e bs => { s with core := s.core.store (storeAddr n e) bs }
  | .cap h b vs => s.landCap n h b vs

/-- An operation in its place by completion: vector writes before tensor updates of the same cycle (R92). -/
def pendInsert (p : Pend) : List Pend → List Pend
  | [] => [p]
  | q :: l => if p.due < q.due ∨ (p.due = q.due ∧ p.rank < q.rank) then p :: q :: l else q :: pendInsert p l

/-- Elements in flight that are poppable by cycle t, by cycle then tag order (R96). -/
def landFlight (t : Nat) (q : Queue) : Queue :=
  let go := (q.flight.filter fun f => f.due ≤ t).foldl (fun l f =>
    let rec ins : List Flight → List Flight
      | [] => [f]
      | g :: m => if f.due < g.due then f :: g :: m else g :: ins m
    ins l) []
  { q with ready := q.ready ++ go.map (·.elem), flight := q.flight.filter fun f => t < f.due }

/-- Everything whose latency has passed by cycle t completes (R92, R93). -/
def State.settle (s : State) (n t : Nat) : State :=
  let c := s.coreAt n
  let s1 := s.setCore n { c with pend := c.pend.filter (fun p => t < p.due), queues := c.queues.map (landFlight t) }
  (c.pend.filter fun p => p.due ≤ t).foldl (fun s p => s.landOp n p.op) s1

/-- Every operation issued completes (R99). -/
def State.settleAll (s : State) (n : Nat) : State :=
  let c := s.coreAt n
  s.settle n ((c.pend.map (·.due) ++ c.queues.flatMap (fun q => q.flight.map (·.due))).foldl max c.cyc)

/-- An operation is issued. -/
def Core.defer (c : Core) (due rank : Nat) (op : PendOp) : Core := { c with pend := pendInsert ⟨due, rank, op⟩ c.pend }

/-! ## Checks (R97, R99, R100, R102) -/

/-- A failed check: code, bits 39:36, bits 35:32, bits 31:0 of DETAIL. -/
structure Check where
  code : Nat
  a : Nat
  b : Nat
  low : Nat
  deriving DecidableEq, Repr

/-- The pops of a bundle in their order: end number and queue (R97). -/
def State.pops (s : State) (n : Nat) (c : Core) (w : Nat) : List (Nat × Nat) :=
  ((List.range 4).filterMap fun i => if endOn (cwPop w i) then some (i, endQueue (cwPop w i)) else none)
    ++ (([4, 5] : List Nat).filterMap fun a =>
      if (agCmd (cwAg w a)).access then some (8 + a, s.agQueue n c a) else none)

/-- How many earlier entries of the list name the queue. -/
def before (l : List (Nat × Nat)) (i q : Nat) : Nat := ((l.take i).filter fun p => p.2 == q).length

/-- The checks of the pops. -/
def State.popChecks (s : State) (n : Nat) (c : Core) (ps : List (Nat × Nat)) : List Check :=
  (List.range ps.length).filterMap fun i =>
    match ps[i]? with
    | none => none
    | some (e, q) =>
      let qu := c.queues.getD q {}
      let k := before ps i q
      let want := (qu.popTag + k) % 16
      let low := fun (head : Nat) => want * 2 ^ 28 + head * 2 ^ 24 + (qu.ready.length - k) * 2 ^ 16
        + qu.flight.length * 2 ^ 8 + s.get (F.QCFG_DEPTH n q)
      match qu.ready[k]? with
      | none => some ⟨0x0101, q, e, low 0⟩
      | some el => if el.tag = want then none else some ⟨0x0103, q, e, low el.tag⟩

/-- The checks of the pushes, given as end and queue in tag order (R96, R97). -/
def State.pushChecks (s : State) (n : Nat) (c : Core) (ps us : List (Nat × Nat)) : List Check :=
  (List.range us.length).filterMap fun i =>
    match us[i]? with
    | none => none
    | some (e, q) =>
      let qu := c.queues.getD q {}
      let k := before us i q
      let left := qu.ready.length - before ps ps.length q
      let depth := s.get (F.QCFG_DEPTH n q)
      let head := match qu.ready[qu.ready.length - left]? with
        | some el => el.tag
        | none => 0
      if depth < left + qu.flight.length + k + 1 then
        some ⟨0x0102, q, e, (qu.pushTag + k) % 16 * 2 ^ 28 + head * 2 ^ 24 + left * 2 ^ 16
          + (qu.flight.length + k) * 2 ^ 8 + depth⟩
      else none

/-- AG_BOUND for AG0 to AG5 (R83, R102). -/
def State.boundChecks (s : State) (n : Nat) (c : Core) (w : Nat) : List Check :=
  (List.range 6).filterMap fun a =>
    if (agCmd (cwAg w a)).access then
      match s.agOut n c a with
      | none => none
      | some above =>
        if a < 4 ∧ cwMbound w then none
        else some ⟨0x0104, c.agSet.getD a 0, a, s.agAddr n c a * 2 ^ 8 + boolBit above⟩
    else none

/-- A check fails (R100, R102, R113): its record, and CORE_FAULT. -/
def State.coreFault (s : State) (n : Nat) (f : Check) : State :=
  let c := s.coreAt n
  let s1 := s.fault f.code (unitCore n) false
    (mkWord [(63, 51, c.pc), (50, 40, c.rep), (39, 36, f.a), (35, 32, f.b), (31, 0, f.low)])
  let s2 := if s1.get (F.CORE_FAULT_COUNT n) = 0 then
      ((s1.set (F.CORE_FAULT_FIRST_CODE n) f.code).set (F.CORE_FAULT_PC n) c.pc).set (F.CORE_FAULT_REP_IDX n) c.rep
    else s1
  s2.bump (F.CORE_FAULT_COUNT n)

/-- The core raises its faults and goes to FROZEN once its operations have completed (R99). -/
def State.raiseAll (s : State) (n : Nat) (fs : List Check) : State :=
  let s1 := fs.foldl (fun s f => s.coreFault n f) s
  s1.setCore n { s1.coreAt n with stopping := some 3 }

def State.seqErr (s : State) (n : Nat) : State := s.bump (F.CORE_ERR_SEQ_ERR n)

/-! ## The engines of a bundle -/

/-- The plan of a bundle's conversion: the source (held values or a new unit), the packer's content it adds to, how many
values it converts, and the events it counts (R138, R139). -/
structure ConvPlan where
  src : Holder
  codes : List Nat
  take : Nat
  full : Bool
  errs : Nat
  deriving DecidableEq, Repr

/-- Plan a conversion; `unit` is the source unit that CSRC supplies in this bundle, none when its pop end is disabled. -/
def State.convPlan (s : State) (n : Nat) (c : Core) (ci : ConvIn) (unit : Option Holder) : ConvPlan :=
  let t := s.targetFmt n ci.cto
  let fresh := match c.holder with
    | some h => if ci.csrc < 4 ∧ unit.isSome then unit else some h
    | none => unit
  let src := fresh.getD ⟨ci.cfrom, 0, []⟩
  let pk := c.packers.getD ci.cdst {}
  let clash := pk.codes.length ≠ 0 ∧ pk.fmt ≠ t
  let have_ := if clash then [] else pk.codes
  let room := fmtCount t - have_.length
  let take := min (min (convG t) room) src.vals.length
  ⟨src, have_, take, take == room, boolBit (decide clash)⟩

/-- Vector operands as 512 bytes (R89), for the elements popped, by end. -/
def State.vecOperand (s : State) (n : Nat) (c : Core) (w : Nat) (popped : List (Nat × List Byte)) (row src : Nat) :
    List Byte × State :=
  let vf := cwVfmt w
  if src < 4 then
    match mapFind popped src with
    | some bs => let r := s.freeBytes 384; (bs ++ r.1, r.2)
    | none => s.freeBytes 512
  else if src = 4 then (if vf = 0 then (s.accRow n (cwVtile w) row, s) else s.freeBytes 512)
  else if src = 5 then (c.vregs.getD (cwVreg w) [], s)
  else if src = 6 then
    let lane := if vf = 1 then cwImm w else (Config.immBroadcast vf (cwImm w)).toNat
    (packValues (vWidth vf) (List.replicate (vLanes vf) (lane % 2 ^ vWidth vf)), s)
  else (List.replicate 512 0, s)

/-- The result of the vector operation: 512 bytes, and for PAIR_SPLIT the heads with the tails after them. -/
def State.vecResult (s : State) (n : Nat) (c : Core) (w : Nat) (popped : List (Nat × List Byte)) (row : Nat) :
    List Byte × State :=
  let v := cwVop w
  let vf := cwVfmt w
  let wd := vWidth vf
  let (ba, s1) := s.vecOperand n c w popped row (cwVsrcA w)
  let (bb, s2) := s1.vecOperand n c w popped row (cwVsrcB w)
  let la := valuesOf ba wd (vLanes vf)
  let lb := valuesOf bb wd (vLanes vf)
  let reg := c.vregs.getD (cwVreg w) []
  let lr := valuesOf reg wd (vLanes vf)
  let pack := packValues wd
  let m0 := cwVmod w % 2 == 1
  let m1 := cwVmod w / 2 % 2 == 1
  if v = 1 then (ba, s1)
  else if v = 14 ∨ v = 15 then (pack (rowReduce (v == 15) vf m0 m1 la (lr.getD 0 0)), s1)
  else if v = 16 then
    let chunk := if m0 then s1.get (F.TOP8_STATE_CHUNK n) else 0
    let mine := (List.range la.length).map fun l => (widen vf (la.getD l 0), (chunk * vLanes vf + l) % 2 ^ 32)
    let old := if m0 then (List.range 8).map fun k => (valueAt reg 32 k, valueAt reg 32 (k + 8)) else []
    let (rest, s3) := (s1.set (F.TOP8_STATE_CHUNK n) (chunk + 1)).freeBytes 384
    (packValues 32 (top8Lanes (top8 m1 (old ++ mine))) ++ rest, s3)
  else if v = 18 then
    let r := s2.freeBytes 256
    (pack ((List.range la.length).map fun l => if (valueAt r.1 4 l) % 2 = 1 then la.getD l 0 else lb.getD l 0), r.2)
  else if v = 19 then
    let b := s1.bankOf n
    let k := cwVmod w
    let f := vForm vf
    let one := fun (l a : Nat) =>
      if vf = 2 then (pairOf .near ((decodeFmt 0xD a).mul (s1.factor n b k l row))).1
      else f.round ((f.ieee a).mul (s1.factor n b k l row))
    (pack ((List.range la.length).map fun l => one l (la.getD l 0)), s1)
  else if v = 20 then s.freeBytes 512
  else if v = 21 ∨ v = 22 then
    (packValues 64 ((List.range 64).map fun l => pairOp v (valueAt ba 64 l) (valueAt bb 64 l)), s2)
  else if v = 23 then
    let off := if m0 then 64 else 0
    let sp := (List.range 64).map fun l => splitLane (valueAt ba 32 (off + l))
    (packValues 16 (sp.map (·.1)) ++ packValues 16 (sp.map (·.2)), s1)
  else (pack ((List.range la.length).map fun l => laneOp v vf (la.getD l 0) (lb.getD l 0) (lr.getD l 0)), s2)

/-- An element is pushed (R96): it takes the push count as its tag. -/
def Core.push (c : Core) (q due : Nat) (bs : List Byte) : Core :=
  let qu := c.queues.getD q {}
  { c with queues := c.queues.set q { qu with
      flight := qu.flight ++ [⟨due, ⟨qu.pushTag, bs⟩⟩], pushTag := (qu.pushTag + 1) % 16 } }

/-- The head of a queue is popped (R97). -/
def Core.pop (c : Core) (q : Nat) : List Byte × Core :=
  let qu := c.queues.getD q {}
  let bs := match qu.ready with
    | e :: _ => e.bytes
    | [] => []
  (bs, { c with queues := c.queues.set q { qu with ready := qu.ready.drop 1, popTag := (qu.popTag + 1) % 16 } })

/-- The load part of a bundle (R86, R128). -/
def State.doLoad (s : State) (n w : Nat) (popped : List (Nat × List Byte)) : State :=
  match mapFind popped (cwSrcB w) with
  | none => s.seqErr n
  | some bs =>
    let c := s.coreAt n
    s.setCore n { c with shadow := loadShadow c.shadow c.shPtr (cwFmtB w) (cwTrb w) bs,
                         shPtr := (c.shPtr + loadStep (cwFmtB w)) % 256 }

/-- The MAC part of a bundle (R86, R87, R126, R127, R161): updates reach their rows 12 cycles later (R93). -/
def State.doMac (s : State) (n w : Nat) (init : Bool) (popped : List (Nat × List Byte)) : State :=
  let c := s.coreAt n
  let tile := cwTile w
  let new := mapFind popped (cwSrcA w)
  let s1 := if new.isNone = c.held.isNone then s.seqErr n else s
  let held : Option Held := match new with
    | some bs => some ⟨bs, cwFmtA w, cwFmtB w, 0⟩
    | none => c.held
  match held with
  | none => s1
  | some h =>
    let wa := fmtWidth h.fa
    let wb := fmtWidth h.fb
    let ctl := cwRowctl w
    let row := if ctl = 1 then 0 else c.rowPtr.getD tile 0
    let hb := if ctl = 1 then false else c.half.getD tile false
    let parts := macRows wa wb h.done
    let vals := valuesOf h.bytes wa (fmtCount h.fa)
    let base := if wa = 16 ∧ hb then 64 else 0
    let upd := fun (i : Nat) (p : Nat × Nat) =>
      PendOp.mac ⟨tile, (row + i) % 128, init, h.fa, h.fb, cwCpass w, base, (vals.drop p.1).take p.2, c.active, c.pc, c.rep,
        cwMsat w⟩
    let c1 := (List.range parts.length).foldl (fun c i => c.defer (c.cyc + 12) 1 (upd i (parts.getD i (0, 0)))) c
    let adv := if wa = 16 then (if hb then 1 else 0) else parts.length
    let c2 := { c1 with
      rowPtr := c1.rowPtr.set tile (if ctl = 2 then row else (row + adv) % 128)
      half := c1.half.set tile (if wa = 16 ∧ ctl ≠ 2 then !hb else hb)
      held := if h.done + 1 < macCycles wa wb then some { h with done := h.done + 1 } else none }
    let ty := s1.get (F.ACC_TYPE_INT n)
    let ty1 := if family h.fa = 2 then ty ||| 2 ^ tile else if bitAt ty tile then ty - 2 ^ tile else ty
    (s1.setCore n c2).set (F.ACC_TYPE_INT n) ty1

/-! ## The issue -/

/-- The vector row of the bundle and the pointer after it (R89). The reserved VROWCTL 3, on a bundle that still converts an accumulator row,
acts as 0 (DESIGN CHOICE, log entry 93). -/
def vecRow (active : Bool) (ctl ptr : Nat) : Nat × Nat :=
  if !active then (ptr, ptr)
  else if ctl = 1 then (0, 1)
  else if ctl = 2 then (ptr, ptr)
  else (ptr, (ptr + 1) % 128)

/-- The pushes of a bundle in tag order: end number and queue. AG0 to AG3 are ends 8 to 11, push ends 4 and 5. -/
def State.pushes (s : State) (n : Nat) (c : Core) (w v : Nat) (convPush : Bool) : List (Nat × Nat) :=
  let ags := (List.range 4).filterMap fun a =>
    let cmd := agCmd (cwAg w a)
    let yes := if s.agTranspose n c a then (tbufStep (s.agWidth n c a) cmd [] (c.tbuf.getD a {})).1.isSome else cmd.access
    if yes then some (8 + a, s.agQueue n c a) else none
  let ends := (List.range 2).flatMap fun i =>
    let b := cwPush w i
    if endOn b then
      (if v = 23 ∨ (v ≠ 0 ∧ cwVdst w = i) then [(4 + i, endQueue b)] else [])
        ++ (if convPush ∧ (cwConv w).cdst = i then [(4 + i, endQueue b)] else [])
    else []
  ags ++ ends

/-- The bundle commits (R81, R86 to R93, R138, R143, R144, R147): pops, pushes, engines, address generators. Chosen here, as the spec leaves
it open (DESIGN CHOICE): held values are converted in the format they were read in (log entry 97); a conversion from block fixed-point with
RND 1 takes its draw though it ignores RND (log entry 98); the capture of a conversion chained to the vector engine takes effect with that
conversion, at c + 15 (log entry 99). -/
def State.commitBundle (s : State) (n w : Nat) : State :=
  let s0 := s.fuse.s0
  let v := vop s0 w
  let cv := convOn s0 w
  let ci := cwConv w
  let c := s.coreAt n
  -- pops
  let ps := s.pops n c w
  let (popped, c1) := ps.foldl (fun (r : List (Nat × List Byte) × Core) p =>
    let (bs, c') := r.2.pop p.2; (r.1 ++ [(p.1, bs)], c')) ([], c)
  let s1 := s.setCore n c1
  -- reserved encodings and fused-off operations
  let s2 := if wordReserved s0 w then s1.seqErr n else s1
  let s3 := if vectorFused s0 w ∧ ¬ vectorReserved w then s2.seqErr n else s2
  -- draws
  let cnt := s3.get (F.RNG_COUNT_COUNT n)
  let seed := s3.get (F.RNG_SEED_SEED n)
  let nv := boolBit (cwRdraw w)
  let nc := boolBit (cv && ci.rnd == 1)
  let s4 := s3.wrapAdd (F.RNG_COUNT_COUNT n) (nv + nc)
  -- vector row
  let (row, ptr) := vecRow (v != 0 || cv) (cwVrowctl w) c.vPtr
  let s5 := s4.setCore n { s4.coreAt n with vPtr := ptr }
  -- reads of this cycle, before any update of it (R92)
  let accUnit : Holder := sourceVals ci.cfrom (s5.accRow n (cwVtile w) row) 128
  let (vbytes, s6) := if v = 0 then
      (if cv ∧ ci.csrc = 5 then s5.freeBytes 512 else ([], s5)) else s5.vecResult n c w popped row
  let vlanes : Holder := sourceVals (vCode (cwVfmt w)) vbytes (vLanes (cwVfmt w))
  -- address-generator reads and writes
  let s7 := (List.range 4).foldl (fun s a =>
    let cmd := agCmd (cwAg w a)
    let cc := s.coreAt n
    if s.agTranspose n cc a then
      let r := tbufStep (s.agWidth n cc a) cmd (if cmd.access then s.agRead n cc a else []) (cc.tbuf.getD a {})
      let c' := { cc with tbuf := cc.tbuf.set a r.2 }
      match r.1 with
      | some col => s.setCore n (c'.push (s.agQueue n cc a) (cc.cyc + 6) col)
      | none => s.setCore n c'
    else if cmd.access then s.setCore n (cc.push (s.agQueue n cc a) (cc.cyc + 6) (s.agRead n cc a))
    else s) s6
  let s8 := ([4, 5] : List Nat).foldl (fun s a =>
    let cc := s.coreAt n
    if (agCmd (cwAg w a)).access then
      s.setCore n (cc.defer (cc.cyc + 3) 0 (.store (s.agAddr n cc a) ((mapFind popped (8 + a)).getD [])))
    else s) s7
  -- vector destination
  let cc := s8.coreAt n
  let at8 := cc.cyc + 8
  let vecPush : List (Nat × Nat × List Byte) := if v = 0 then []
    else if v = 23 then [(0, at8, vbytes.take 128), (1, at8, vbytes.drop 128)]
    else if cwVdst w < 2 then [(cwVdst w, at8, vbytes.take 128)] else []
  let s9 := if v = 0 ∨ v = 23 ∨ cwVdst w < 2 then s8
    else if cwVdst w = 2 then s8.setCore n (cc.defer at8 0 (.vreg (cwVreg w) vbytes))
    else
      let fr := if cwVfmt w = 0 then (vbytes, s8) else s8.freeBytes 512
      let s' := fr.2.setCore n ((fr.2.coreAt n).defer at8 0 (.vec (cwVtile w) row fr.1))
      let ty := s'.get (F.ACC_TYPE_INT n)
      if bitAt ty (cwVtile w) then s'.set (F.ACC_TYPE_INT n) (ty - 2 ^ cwVtile w) else s'
  -- conversion
  let unit : Option Holder := if ci.csrc < 4 then
      (mapFind popped ci.csrc).map fun bs => sourceVals ci.cfrom bs (fmtCount ci.cfrom)
    else if ci.csrc = 4 then some accUnit else some vlanes
  let (convPush, sc) : List (Nat × Nat × List Byte) × State := if !cv then ([], s9) else
    let cc := s9.coreAt n
    let pl := s9.convPlan n cc ci unit
    let b := s9.bankOf n
    let out := s9.convert n b row { ci with cfrom := pl.src.fmt } (fun l => drawLane seed (cnt + nv) l) pl.src.next
      (pl.src.vals.take pl.take)
    let t := s9.targetFmt n ci.cto
    let codes := pl.codes ++ out.codes
    let lat := if ci.csrc = 5 then 15 else 7
    let so := out.st
    let rest := pl.src.vals.drop pl.take
    let c' := { so.coreAt n with
      holder := if rest.length = 0 then none else some { pl.src with next := pl.src.next + pl.take, vals := rest }
      packers := cc.packers.set ci.cdst (if pl.full then {} else ⟨t, codes⟩) }
    let c2 := if out.caps.length = 0 then c' else c'.defer (cc.cyc + lat) 0 (.cap ci.chist b out.caps)
    let s' := so.setCore n c2
    let s'' := if pl.errs = 1 then s'.seqErr n else s'
    if pl.full then
      (if endOn (cwPush w ci.cdst) then ([(ci.cdst, cc.cyc + lat, packValues (fmtWidth t) codes)], s'') else ([], s''.seqErr n))
    else ([], s'')
  -- pushes take their tags in the order of the ends (R96)
  let out := vecPush ++ convPush
  let s10 := (out.filter (·.1 == 0) ++ out.filter (·.1 != 0)).foldl (fun s p =>
    if endOn (cwPush w p.1) then s.setCore n ((s.coreAt n).push (endQueue (cwPush w p.1)) p.2.1 p.2.2) else s) sc
  -- tensor array
  let t := tmode s0 w
  let s11 := if hasMac t then s10.doMac n w (t == 4 || t == 5) popped else s10
  let s12 := if hasLoad t then s11.doLoad n w popped else s11
  -- address generators step
  let c12 := s12.coreAt n
  let c13 := (List.range 6).foldl (fun (c : Core) a =>
    let set := c.agSet.getD a 0
    let idx := c.agIdx.getD a []
    let adv := fun (l : Nat) => { c with agIdx := c.agIdx.set a (agAdvance (s12.agCount n a set) l idx) }
    let zero : List Nat := [0, 0, 0, 0, 0, 0]
    match agCmd (cwAg w a) with
    | .issueStep l => adv l
    | .step l => adv l
    | .reset => { c with agIdx := c.agIdx.set a zero, tbuf := if a < 4 then c.tbuf.set a {} else c.tbuf }
    | .select st => { c with agIdx := c.agIdx.set a zero, agSet := c.agSet.set a st,
                             tbuf := if a < 4 then c.tbuf.set a {} else c.tbuf }
    | _ => c) c12
  s12.setCore n c13

/-- The LOOP operation, at the first issue of a word (R80, R81). -/
def State.loopOp (s : State) (n w : Nat) : State :=
  let c := s.coreAt n
  let l := cwLsel w
  if loopReserved w then s
  else match cwLop w with
  | 1 => s.setCore n { c with trip := c.trip.set l (cwTripImm w) }
  | 2 => s.setCore n { c with trip := c.trip.set l (s.get (F.LOOP_TRIP_TRIP n l)) }
  | 3 => s.setCore n { c with cnt := c.cnt.set l (c.cnt.getD l 0 - 1) }
  | _ => s

/-- The core acts on HALT (R78, R98, R139): residue counts, partial packers are discarded. -/
def State.haltCore (s : State) (n : Nat) : State :=
  let c := s.coreAt n
  let left := c.queues.any fun q => q.ready.length != 0 || q.flight.length != 0
  let s1 := if left then s.bump (F.CORE_ERR_RESIDUE n) else s
  s1.setCore n { c with stopping := some 4, packers := [{}, {}] }

/-- Continue at PC + 1; at PC 8,191 the core acts as HALT (R79). -/
def State.nextPc (s : State) (n : Nat) : State :=
  let c := s.coreAt n
  if c.pc = 8191 then (s.seqErr n).haltCore n else s.setCore n { c with pc := c.pc + 1 }

/-- A STREAM start arrives at the streamer (R110). -/
def State.streamStart (s : State) (n d : Nat) : State :=
  let c := s.coreAt n
  if 16 ≤ c.squeue.length + c.srun.length then s.seqErr n else s.setCore n { c with squeue := c.squeue ++ [d] }

/-- A descriptor of a reserved KIND at the head completes as soon as it begins to run (R110). -/
def State.streamReserved : Nat → State → Nat → State
  | 0, s, _ => s
  | fuel + 1, s, n =>
    let c := s.coreAt n
    match c.squeue with
    | d :: rest =>
      if c.srun.length < 4 ∧ 6 ≤ s.get (F.SD_LOCAL_KIND n d) then
        let s1 := (s.setCore n { c with squeue := rest }).seqErr n
        State.streamReserved fuel (s1.addCounter n (24 + s1.get (F.SD_LOCAL_SC n d)) 1 2) n
      else s
    | [] => s

/-- A LOCAL signal changes its counter before any other change of the next cycle (R106, R342); a WAIT tested in that cycle does not see the
change (R93). -/
def State.localSig (s : State) (n ctr inc : Nat) : State :=
  let s1 := s.addCounter n ctr inc 0
  let d : Int := (s1.get (F.CNT_VALUE n ctr) : Int) - (s.get (F.CNT_VALUE n ctr) : Int)
  s1.setCore n { s1.coreAt n with lateSig := some (ctr, d, (s.coreAt n).cyc + 1) }

/-- The value of a counter that a WAIT of the present cycle is tested against (R93, R104). -/
def State.seenValue (s : State) (n ctr : Nat) : Int :=
  let v := s.get (F.CNT_VALUE n ctr)
  match (s.coreAt n).lateSig with
  | some (k, d, t) => if k = ctr ∧ t = (s.coreAt n).cyc then (v : Int) - d else v
  | none => v

/-- The action of signal descriptor k (R106), after the word's last issue. -/
def State.signalAct (s : State) (n k : Nat) : State :=
  let d := s.reg (A.SIG_DESC n k)
  match bits d 63 60 with
  | 0 =>
    if 24 ≤ bits d 59 55 then s.seqErr n
    else s.localSig n (bits d 59 55) (bits d 15 0)
  | 1 => s.sendSignal n d
  | 2 => (s.streamStart n (bits d 28 25)).streamReserved 16 n
  | _ => s.seqErr n

/-- The SEQ operation, after the word's last issue (R78, R79). -/
def State.seqAct (s : State) (n w : Nat) : State :=
  let c := s.coreAt n
  let l := cwSeqArg w % 8
  match seqOp w with
  | 1 =>
    (s.setCore n { c with body := c.body.set l (some (c.pc + 1)), cnt := c.cnt.set l (c.trip.getD l 0) }).nextPc n
  | 2 =>
    match c.body.getD l none with
    | none => (s.seqErr n).nextPc n
    | some b =>
      if 1 < c.cnt.getD l 0 then s.setCore n { c with cnt := c.cnt.set l (c.cnt.getD l 0 - 1), pc := b }
      else (s.setCore n { c with cnt := c.cnt.set l 0 }).nextPc n
  | 4 => (s.signalAct n (cwSeqArg w % 64)).nextPc n
  | 5 => s.haltCore n
  | _ => s.nextPc n

/-- Exchange the stationary buffers, after the word's last issue (R86). -/
def State.swapAct (s : State) (n w : Nat) : State :=
  if cwSwap w && !tensorReserved s.fuse.s0 w then
    let c := s.coreAt n
    s.setCore n { c with active := c.shadow, shadow := c.active, shPtr := 0 }
  else s

/-- The conversion of the word would fill its packer: it issues a push (R138). -/
def State.convPushes (s : State) (n : Nat) (c : Core) (w : Nat) : Bool :=
  let ci := cwConv w
  convOn s.fuse.s0 w &&
    (let count : Option Nat := if ci.csrc < 4 then (if endOn (cwPop w ci.csrc) then some (fmtCount ci.cfrom) else none)
        else if ci.csrc = 4 then some 128 else some (vLanes (cwVfmt w))
     let unit := count.map fun k => (⟨ci.cfrom, 0, List.replicate k 0⟩ : Holder)
     (s.convPlan n c ci unit).full)

/-- One issue of word w: its checks in the order of R100, then either its faults or the bundle. Everything due by this
cycle has completed. -/
def State.bundle (s : State) (n w : Nat) : State :=
  let c := s.coreAt n
  let ps := s.pops n c w
  let us := s.pushes n c w (vop s.fuse.s0 w) (s.convPushes n c w)
  let bad := s.boundChecks n c w ++ s.popChecks n c ps ++ s.pushChecks n c ps us
  if bad.length ≠ 0 then s.raiseAll n bad
  else
    let s1 := s.commitBundle n w
    let s2 := if c.rep = 0 then s1.loopOp n w else s1
    let last := c.rep = cwRepeat w
    let s3 := if last then (s2.swapAct n w).seqAct n w else s2
    let c3 := s3.coreAt n
    s3.setCore n { c3 with rep := if last then 0 else c.rep + 1, cyc := c.cyc + 1,
                           issued := c3.issued + 1, since := c3.since + 1 }

/-- The target of a WAIT word (R104). -/
def State.waitTarget (s : State) (n w : Nat) : Nat :=
  if cwSeqArg w / 1024 = 0 then cwImm w else s.get (F.CNT_TGT_TARGET n (cwSeqArg w % 32))

/-- The throttle level of a core (R427): PWR_THR_ACT's LEVEL in force, or 7 while PEAK is asserted. -/
def State.throttle (s : State) : Nat := if s.pwr.peak then 7 else s.get F.PWR_STATUS_LEVEL

/-- The WAIT word issues: later by floor(L × H ÷ 8) cycles (R427), and with WMODE 2 its target advances (R104). -/
def State.waitIssue (s : State) (n w : Nat) : State :=
  let c := s.coreAt n
  let delay := s.throttle * c.since / 8
  let s1 := s.setCore n { c with state := 1, cyc := c.cyc + delay, waited := c.waited + delay, since := 0 }
  let s2 := s1.settle n (c.cyc + delay)
  let s3 := s2.bundle n w
  let ctr := cwSeqArg w % 32
  if cwSeqArg w / 1024 = 2 ∧ (s3.coreAt n).stopping ≠ some 3 then
    s3.set (F.CNT_TGT_TARGET n ctr) (s3.get (F.CNT_TGT_TARGET n ctr) + cwImm w)
  else s3

/-- The core issues the word at PC, when the word selects what the command names: a WAIT word is tested before its first
issue (R81, R104). -/
def State.issueIf (s : State) (n : Nat) (sel : Bool → Nat → Bool) : State :=
  let c := s.coreAt n
  if s.siteEnabled n && c.state == 1 && c.stopping.isNone then
    let w := s.fetchWord n c.pc
    if sel s.fuse.s0 w then
      let s1 := s.settle n c.cyc
      if seqOp w = 3 ∧ c.rep = 0 then
        let ctr := cwSeqArg w % 32
        let tgt := s1.waitTarget n w
        if (tgt : Int) ≤ s1.seenValue n ctr then s1.waitIssue n w
        else s1.setCore n { s1.coreAt n with state := 2, waitCtr := ctr, waitTgt := tgt, waitTick := s.now }
      else s1.bundle n w
    else s
  else s

/-- A command whose effect is one issue of the word at PC. -/
def issueCmd (site : Nat) (sel : Bool → Nat → Bool) (s : State) : Out := lively s site 100 (fun s => s.issueIf site sel)

end Sys2Proof.Machine
end

