-- ==== Sys2Proof/Machine/CoreCtl.lean ====
section
/-! DEFINITION. Core commands (R78 to R107): the issues of control words, the core states and the core's own events. A row of
the table that names an operation issues the word at PC when that word selects the operation. -/
namespace Sys2Proof.Machine

/-! ## SEQ and LOOP -/

/-- The core fetches and would issue now. -/
def State.issuing (s : State) (n : Nat) : Bool := s.siteEnabled n && (s.coreAt n).state == 1 && (s.coreAt n).stopping.isNone

/-- NEXT, with what the check bits of the fetched word show (R109): 0 no error; 1 a corrected single-bit error; 2 a double-bit
error, which raises CW_ECC before the word issues. -/
def nextIssue (n ecc : Nat) (s : State) : State :=
  if ecc = 0 then s.issueIf n fun _ w => seqOp w == 0
  else if !s.issuing n then s
  else if ecc = 1 then (s.bump (F.CORE_ERR_CW_CORR n)).issueIf n fun _ _ => true
  else
    let s1 := s.settle n (s.coreAt n).cyc
    { s1 with freeCtr := s1.freeCtr + 1 }.raiseAll n [⟨0x0105, 0, 0, 1 + Config.syndrome s.freeCtr % 1023⟩]

def execNext (site ecc : Nat) (s : State) : Out := lively s site 100 (nextIssue site ecc)

def execLoopOpen (site : Nat) (s : State) : Out := issueCmd site (fun _ w => seqOp w == 1) s
def execLoopClose (site : Nat) (s : State) : Out := issueCmd site (fun _ w => seqOp w == 2) s
def execWait (site : Nat) (s : State) : Out := issueCmd site (fun _ w => seqOp w == 3) s
def execHalt (site : Nat) (s : State) : Out := issueCmd site (fun _ w => seqOp w == 5) s

def execLoopTripImm (site : Nat) (s : State) : Out := issueCmd site (fun _ w => !loopReserved w && cwLop w == 1) s
def execLoopTripReg (site : Nat) (s : State) : Out := issueCmd site (fun _ w => !loopReserved w && cwLop w == 2) s
def execLoopStep (site : Nat) (s : State) : Out := issueCmd site (fun _ w => !loopReserved w && cwLop w == 3) s

/-- KIND of the descriptor a SIGNAL word names (R106). -/
def State.sigKind (s : State) (n w : Nat) : Nat := s.get (F.SIG_DESC_KIND n (cwSeqArg w % 64))

/-- A SIGNAL word with a LOCAL descriptor; one with a reserved KIND does nothing but count (R106). -/
def execLocalSignal (site : Nat) (s : State) : Out :=
  issueCmd site (fun _ w => seqOp w == 4 && (s.sigKind site w == 0 || 3 ≤ s.sigKind site w)) s
def execRemoteSignal (site : Nat) (s : State) : Out := issueCmd site (fun _ w => seqOp w == 4 && s.sigKind site w == 1) s
def execStreamStart (site : Nat) (s : State) : Out := issueCmd site (fun _ w => seqOp w == 4 && s.sigKind site w == 2) s

/-! ## AG -/

/-- A command whose word gives address generator ag, of six, a command that satisfies p. -/
def agIssue (site ag : Nat) (p : AgCmd → Bool) (s : State) : Out :=
  issueCmd site (fun _ w => decide (ag < 6) && p (agCmd (cwAg w ag))) s

def AgCmd.isIssueStep : AgCmd → Bool
  | .issueStep _ => true
  | _ => false
def AgCmd.isStep : AgCmd → Bool
  | .step _ => true
  | _ => false
def AgCmd.isSelect : AgCmd → Bool
  | .select _ => true
  | _ => false

def execIssueStep (site ag : Nat) (s : State) : Out := agIssue site ag AgCmd.isIssueStep s
def execIssue (site ag : Nat) (s : State) : Out := agIssue site ag (· == .issue) s
def execAgStep (site ag : Nat) (s : State) : Out := agIssue site ag AgCmd.isStep s
def execAgReset (site ag : Nat) (s : State) : Out := agIssue site ag (· == .reset) s
def execAgSelect (site ag : Nat) (s : State) : Out := agIssue site ag AgCmd.isSelect s
def execFlush (site ag : Nat) (s : State) : Out := agIssue site ag (· == .flush) s

/-! ## TENSOR -/

def execLoad (site : Nat) (s : State) : Out := issueCmd site (fun g w => tmode g w == 1) s
def execMac (site : Nat) (s : State) : Out := issueCmd site (fun g w => tmode g w == 2) s
def execMacLoad (site : Nat) (s : State) : Out := issueCmd site (fun g w => tmode g w == 3) s
def execMacInit (site : Nat) (s : State) : Out := issueCmd site (fun g w => tmode g w == 4) s
def execMacInitLoad (site : Nat) (s : State) : Out := issueCmd site (fun g w => tmode g w == 5) s
def execSwap (site : Nat) (s : State) : Out := issueCmd site (fun g w => cwSwap w && !tensorReserved g w) s

/-! ## VECTOR -/

def execMove (site : Nat) (s : State) : Out := issueCmd site (fun g w => vop g w == 1) s
def execAdd (site : Nat) (s : State) : Out := issueCmd site (fun g w => vop g w == 2) s
def execSub (site : Nat) (s : State) : Out := issueCmd site (fun g w => vop g w == 3) s
def execMul (site : Nat) (s : State) : Out := issueCmd site (fun g w => vop g w == 4) s
def execFma (site : Nat) (s : State) : Out := issueCmd site (fun g w => vop g w == 5) s
def execMax (site : Nat) (s : State) : Out := issueCmd site (fun g w => vop g w == 6) s
def execMin (site : Nat) (s : State) : Out := issueCmd site (fun g w => vop g w == 7) s
def execAbs (site : Nat) (s : State) : Out := issueCmd site (fun g w => vop g w == 8) s
def execNeg (site : Nat) (s : State) : Out := issueCmd site (fun g w => vop g w == 9) s
def execRecip (site : Nat) (s : State) : Out := issueCmd site (fun g w => vop g w == 10) s
def execRsqrt (site : Nat) (s : State) : Out := issueCmd site (fun g w => vop g w == 11) s
def execExp2 (site : Nat) (s : State) : Out := issueCmd site (fun g w => vop g w == 12) s
def execLog2 (site : Nat) (s : State) : Out := issueCmd site (fun g w => vop g w == 13) s
def execRowsum (site : Nat) (s : State) : Out := issueCmd site (fun g w => vop g w == 14) s
def execRowmax (site : Nat) (s : State) : Out := issueCmd site (fun g w => vop g w == 15) s
def execTop8 (site : Nat) (s : State) : Out := issueCmd site (fun g w => vop g w == 16) s
def execCmpGt (site : Nat) (s : State) : Out := issueCmd site (fun g w => vop g w == 17) s
def execSelect (site : Nat) (s : State) : Out := issueCmd site (fun g w => vop g w == 18) s
def execScale (site : Nat) (s : State) : Out := issueCmd site (fun g w => vop g w == 19) s
def execDrawmask (site : Nat) (s : State) : Out := issueCmd site (fun g w => vop g w == 20) s
def execPairAdd (site : Nat) (s : State) : Out := issueCmd site (fun g w => vop g w == 21) s
def execPairMul (site : Nat) (s : State) : Out := issueCmd site (fun g w => vop g w == 22) s
def execPairSplit (site : Nat) (s : State) : Out := issueCmd site (fun g w => vop g w == 23) s

/-! ## CONV and MISC -/

def execConv (site : Nat) (s : State) : Out := issueCmd site (fun g w => convOn g w && (cwConv w).cto < 0xE) s
def execFunctionTable (site : Nat) (s : State) : Out := issueCmd site (fun g w => convOn g w && (cwConv w).cto == 0xE) s
def execDerivativeTable (site : Nat) (s : State) : Out := issueCmd site (fun g w => convOn g w && (cwConv w).cto == 0xF) s
def execHistoryCapture (site : Nat) (s : State) : Out := issueCmd site (fun g w => convOn g w && (cwConv w).rmax) s
def execRdraw (site : Nat) (s : State) : Out := issueCmd site (fun _ w => cwRdraw w) s

/-! ## Core states (R107) -/

/-- Entry to RUNNING (R87, R95, R107, R127, R139, R166, R169, R319, R427). Vector registers and the descriptors waiting at the
streamer stay. -/
def State.enterRunning (s : State) (n : Nat) : State :=
  let c := s.coreAt n
  let fresh : Core := {}
  let c1 : Core := { fresh with
    state := 1, pc := s.get (F.CORE_ENTRY_ENTRY_PC n), vregs := c.vregs, squeue := c.squeue,
    srun := c.srun, autoNew := c.autoNew, autoBank := c.autoBank, issued := c.issued, waited := c.waited }
  ((((s.setCore n c1).setReg (A.CORE_FAULT n) 0).setReg (A.ACC_FLAGS n) 0).set (F.TOP8_STATE_CHUNK n) 0).set
    (F.CONV_BFP_POS_BLOCK n) (s.get (F.CONV_BFP_START n))

/-- CORE_CTRL.RUN (R107): a STOPPED core in MODE = FREE. On a fused-off site it reaches the void responder (R8). -/
def coreRun (n : Nat) (s : State) : State :=
  let c := s.coreAt n
  if !s.siteEnabled n then s.absentUnit (unitCore n) (A.CORE_CTRL n)
  else if c.state = 0 ∧ ¬ s.on (F.CORE_CTRL_MODE n) then s.enterRunning n else s

def execCoreRun (site : Nat) (s : State) : Out := lively s site 100 (coreRun site)

/-- CORE_CTRL.STOP, or a stop by the sequencer (R107); on a fused-off site it reaches the void responder (R8). -/
def coreStop (n : Nat) (s : State) : State :=
  let c := s.coreAt n
  if !s.siteEnabled n then s.absentUnit (unitCore n) (A.CORE_CTRL n)
  else match c.state with
  | 1 => s.setCore n { c with stopping := some 0 }
  | 2 => s.setCore n { c with stopping := some 0 }
  | 3 => s.setCore n { c with state := 0 }
  | 4 => s.setCore n { c with state := 0 }
  | _ => s

def execCoreStop (site : Nat) (s : State) : Out := lively s site 100 (coreStop site)

/-- The least number of cycles since the wait began: one, or all of the ticks between (20 cycles a tick, R43). -/
def State.waitGap (s : State) (n : Nat) : Nat := (s.now - (s.coreAt n).waitTick - 1) * 20 + 1

/-- Cycles of the wait in progress that the last mark has counted (CORE_PERF_SNAP). -/
def State.waitCounted (s : State) (n : Nat) : Nat :=
  let t := (s.coreAt n).waitTick
  match s.cad.markTaken with
  | some m => if t < m then (m - t - 1) * 20 + 1 else 0
  | none => 0

/-- The waiting core as it stands now: what it issued before has completed as time passed. -/
def State.waitNow (s : State) (n : Nat) : State :=
  let c := s.coreAt n
  let g := s.waitGap n
  (s.setCore n { c with cyc := c.cyc + g, waited := c.waited + (g - s.waitCounted n) }).settle n (c.cyc + g)

/-- A wait in progress ends with its cycles counted (CORE_PERF_SNAP). -/
def State.endWait (s : State) (n : Nat) : State := if (s.coreAt n).state = 2 then s.waitNow n else s

/-- What a WAITING core issued before the wait completes as time passes (R104). -/
def State.catchUp (s : State) (n : Nat) : State :=
  let c := s.coreAt n
  if c.state = 2 then s.settle n (c.cyc + s.waitGap n) else s

/-- The operations already issued complete and the core reaches the state it is going to (R99, R107). -/
def State.finishCore (s : State) (n st : Nat) : State :=
  if (s.coreAt n).stopping = some st then
    let s1 := (s.endWait n).settleAll n
    s1.setCore n { s1.coreAt n with state := st, stopping := none }
  else s

def execCoreStopped (site : Nat) (s : State) : Out := lively s site 100 fun s => s.finishCore site 0
def execCoreHalted (site : Nat) (s : State) : Out := lively s site 100 fun s => s.finishCore site 4

/-! ## Waiting (R104, R105) -/

def waitRelease (n : Nat) (s : State) : State :=
  let c := s.coreAt n
  if c.state = 2 ∧ c.stopping = none then
    let s1 := s.waitNow n
    if c.waitTgt ≤ s1.get (F.CNT_VALUE n c.waitCtr) then s1.waitIssue n (s1.fetchWord n c.pc) else s
  else s

def execWaitRelease (site : Nat) (s : State) : Out := lively s site 100 (waitRelease site)

/-- WAIT_TIMEOUT (R105): at the boundary that starts tick w + LIMIT + 1. -/
def waitTimeout (n : Nat) (s : State) : State :=
  let c := s.coreAt n
  let lim := s.get (F.CORE_WAIT_LIMIT_LIMIT n)
  if c.state = 2 ∧ c.stopping = none ∧ lim ≠ 0 ∧ c.waitTick + lim + 1 ≤ s.now then
    let s1 := s.waitNow n
    let v := s1.get (F.CNT_VALUE n c.waitCtr)
    if c.waitTgt ≤ v then s else s1.raiseAll n [⟨0x0106, 0, 0, c.waitCtr * 2 ^ 27 + v % 2 ^ 27⟩]
  else s

def execWaitTimeout (site : Nat) (s : State) : Out := lively s site 100 (waitTimeout site)

/-! ## Elements in flight (R93, R96) -/

/-- The next element of queue q lands. While the core issues, time is that of its issues, and an element whose cycle has not
come is no event. -/
def elementPoppable (n q : Nat) (s : State) : State :=
  let c := s.coreAt n
  match ((c.queues.getD q {}).flight.map (·.due)).min? with
  | none => s
  | some due =>
    if s.issuing n ∧ c.cyc < due then s
    else
      let t := max c.cyc due
      (s.setCore n { c with cyc := t }).settle n t

def execElementPoppable (site queue : Nat) (s : State) : Out :=
  lively s site 100 fun s => if queue < 16 then elementPoppable site queue s else s

/-! ## ACC_FLAGS (R166) -/

/-- The window of a core refuses a write (R108). -/
def State.hostReject (s : State) (n : Nat) : State := s.bump (F.CORE_ERR_HOST_REJECT n)

/-- W1C bits of ACC_FLAGS (R108, R166); on a fused-off site the write reaches the void responder (R8). -/
def accFlagsClear (n sat poison : Nat) (s : State) : State :=
  let c := s.coreAt n
  if !s.siteEnabled n then s.absentUnit (unitCore n) (A.ACC_FLAGS n)
  else if c.state = 0 ∨ c.state = 4 then
    let clr := fun (s : State) (f : Field) (m : Nat) => s.set f (s.get f &&& (2 ^ 32 - 1 - m % 2 ^ 32))
    clr (clr s (F.ACC_FLAGS_SAT n) sat) (F.ACC_FLAGS_POISON n) poison
  else if c.state = 1 ∨ c.state = 2 then s.hostReject n
  else s

def execAccFlagsClear (site sat poison : Nat) (s : State) : Out := lively s site 100 (accFlagsClear site sat poison)

end Sys2Proof.Machine
end

