-- ==== Sys2Proof/Machine/Stream.lean ====
section
/-! DEFINITION. The streamer of a core (R110, R111, R117, R170 to R172, R200, R201). -/
namespace Sys2Proof.Machine

/-- A descriptor's local part as a stream in progress (R117). -/
def State.streamRun (s : State) (n d : Nat) : StreamRun :=
  let kind := s.get (F.SD_LOCAL_KIND n d)
  let l := s.get (F.SD_LOCAL_LOCAL n d)
  { desc := d, sc := s.get (F.SD_LOCAL_SC n d), kind := kind,
    first := if kind < 3 then l else s.get (F.SD_LOCAL_TILE n d) * 128 + l,
    rows := s.get (F.SD_SHAPE_ROWS n d), len := s.get (F.SD_SHAPE_ROW_LEN n d), stride := s.get (F.SD_STRIDE_LOCAL_STRIDE n d) }

/-- The moves of a stream, in order: memory address and local element or accumulator row. An address that is no multiple of 128, which the
program must not give (R117), is taken as it is (DESIGN CHOICE, log entry 100). -/
def State.streamMoves (s : State) (n d : Nat) : List (Nat × Nat) :=
  let r := s.streamRun n d
  let w := if r.kind < 3 then 128 else 512
  let m := if r.kind < 3 then 65536 else 4096
  let st := signed 32 (s.get (F.SD_STRIDE_MEM_STRIDE n d))
  (List.range r.rows).flatMap fun i => (List.range r.len).map fun j =>
    let a : Int := Int.ofNat (s.get (F.SD_ADDR_ADDR n d) + j * w) + Int.ofNat i * st
    (unsigned 48 a, (r.first + i * r.stride + j) % m)

def streamOrigin (n : Nat) : Origin := ⟨dieOfSite n, n % 25⟩

/-- The step tag a stream carries: the head step's, for a core in MODE = STEP (R200). -/
def State.streamTag (s : State) (n : Nat) : Option Nat := if s.on (F.CORE_CTRL_MODE n) then some (s.get F.SEQ_STEP_TAG) else none

/-- A read of a stream: w bytes at a device address (R200). A stream of kind 5 reads reduction staging memory as kind 0 does (DESIGN CHOICE,
log entry 101). -/
def State.streamRead (s : State) (n a w : Nat) : List Byte × State :=
  let b := match s.streamTag n with
    | some t => s.redirect false t a
    | none => a
  let r := s.memRead (streamOrigin n) b w
  (r.data, r.st)

/-- A write or atomic add of a stream (R117, R170, R200, R201); staging memory takes the writes of kind 1 alone (R313). -/
def State.streamWrite (s : State) (n kind a : Nat) (bs : List Byte) : State :=
  let go := fun (s : State) (b : Nat) =>
    match s.place b with
    | .stage d off =>
      if kind = 1 then (if s.serves (entStage d) then s.stageWrite d off bs else s.retired (entStage d)) else s
    | _ => (s.memPut (streamOrigin n) (kind == 2 || kind == 4) b bs).st
  match s.streamTag n with
  | some t =>
    match s.stepWrite t a with
    | some b => (go s b).stepWroteOut t b bs.length
    | none => s.vwinRefuse
  | none => go s a

/-- One move of a stream of a kind. -/
def State.streamMove (s : State) (n kind : Nat) (m : Nat × Nat) : State :=
  match kind with
  | 0 => let r := s.streamRead n m.1 128; { r.2 with core := r.2.core.store (storeAddr n m.2) r.1 }
  | 1 | 2 => s.streamWrite n kind m.1 (s.core.load (storeAddr n m.2) 128)
  | 3 | 4 => s.streamWrite n kind m.1 (s.core.load (accAddr n (m.2 / 128) (m.2 % 128)) 512)
  | 5 => let r := s.streamRead n m.1 512; { r.2 with core := r.2.core.store (accAddr n (m.2 / 128) (m.2 % 128)) r.1 }
  | _ => s

/-- The first start of the queue begins to run, when its kind is `kind` (R110); what a WAITING core issued before has completed as time
passed (R104). -/
def streamBegin (kind n : Nat) (s0 : State) : State :=
  let s := s0.catchUp n
  let c := s.coreAt n
  match c.squeue with
  | d :: rest =>
    if c.srun.length < 4 ∧ s.get (F.SD_LOCAL_KIND n d) = kind then
      let s1 := (s.streamMoves n d).foldl (fun s m => s.streamMove n kind m) s
      let c1 := s1.coreAt n
      (s1.setCore n { c1 with squeue := rest, srun := c1.srun ++ [s.streamRun n d] }).streamReserved 16 n
    else s
  | [] => s

def execStreamMemToStore (site : Nat) (s : State) : Out := lively s site 100 (streamBegin 0 site)
def execStreamStoreToMem (site : Nat) (s : State) : Out := lively s site 100 (streamBegin 1 site)
def execStreamStoreAtomic (site : Nat) (s : State) : Out := lively s site 100 (streamBegin 2 site)
def execStreamAccToMem (site : Nat) (s : State) : Out := lively s site 100 (streamBegin 3 site)
def execStreamAccAtomic (site : Nat) (s : State) : Out := lively s site 100 (streamBegin 4 site)
def execStreamMemToAcc (site : Nat) (s : State) : Out := lively s site 100 (streamBegin 5 site)

/-- An operation still to reach a row that a stream of kind 5 wrote leaves each element undefined (R111). -/
def State.raceOp (s : State) (n : Nat) (r : StreamRun) (p : Pend) : Pend :=
  let bad := fun (t row : Nat) =>
    if r.kind = 5 ∧ r.hits (t * 128 + row) = true then { p with op := .vec t row (s.raceBytes n (accAddr n t row) 512) } else p
  match p.op with
  | .mac u => bad u.tile u.row
  | .vec t row _ => bad t row
  | _ => p

/-- STREAM_COMPLETE (R110): stream idx of those in progress has landed; its completion counter increases by 1. -/
def streamComplete (n i : Nat) (s : State) : State :=
  let c := s.coreAt n
  match c.srun[i]? with
  | none => s
  | some r =>
    let s1 := s.setCore n { c with srun := c.srun.eraseIdx i, pend := c.pend.map (s.raceOp n r) }
    (s1.streamReserved 16 n).addCounter n (24 + r.sc) 1 2

def execStreamComplete (site idx : Nat) (s : State) : Out := lively s site 100 (streamComplete site idx)

end Sys2Proof.Machine
end

