-- ==== Sys2Proof/Machine/Sequencer.lean ====
section
/-! DEFINITION. The step sequencer (R190, R199 to R216, R221, R229). -/
namespace Sys2Proof.Machine

/-! ## Starts (R203, R205, R206) -/

/-- One of the two cases of R202 holds for tag t. -/
def State.pingPongCase (s : State) (t : Nat) : Bool :=
  if s.pendValid then
    (s.get F.SEQ_STEP_PEND_TAG + 1) % 65536 == t && s.on F.VER_ACTIVE_PROV_VALID && s.get F.VER_ACTIVE_ACTIVE == (t + 1) % 2
  else s.get F.VER_ACTIVE_ACTIVE == t % 2

/-- SEQ_START_ARM (R203): ARMED = 1 written with a START_SLOT. -/
def seqStartArm (slot : Nat) (s0 : State) : State :=
  let s := s0.set F.SEQ_START_START_SLOT slot
  let r := s.get F.SEQ_PLAN_RUN_OFF
  let v := s.get F.SEQ_PLAN_VERDICT_OFF
  let c := s.get F.SEQ_PLAN_COMMIT_OFF
  let n := s.get F.SEQ_VCFG_VOTERS
  let t := s.get F.SEQ_STEP_TAG
  if 1 ≤ r ∧ r < v ∧ v < c ∧ 1 ≤ n ∧ n ≤ 65536 ∧ s.slot + 2 ≤ s.get F.SEQ_START_START_SLOT
      ∧ (s.pingPong = true → s.get F.SEQ_VWIN_SIZE_SIZE ≠ 0 ∧ s.pingPongCase t = true)
      ∧ s.on F.SEQ_STATE_MISSED = false ∧ s.on F.SEQ_RETAIN_APPLY_PENDING = false then
    s.set F.SEQ_START_ARMED 1
  else (s.set F.SEQ_START_ARMED 0).bump F.SEQ_ERR_START_REFUSED

def execSeqStartArm (slot : Nat) (s : State) : Out := live s (seqStartArm slot)

/-- A start is allowed (R61, R204, R205, R213). -/
def State.startAllowed (s : State) : Bool :=
  !s.on F.SEQ_CTRL_HOLD && s.on F.CAD_STATUS_ALIGNED && s.seqState == sqIdle && !s.on F.SEQ_STATE_MISSED
    && (if s.pingPong then s.pingPongCase (s.get F.SEQ_STEP_TAG) else !s.pendValid)

/-- RB_GAP (R216). -/
def State.rbGap (s : State) : Nat := max 4 (s.get F.SEQ_PLAN_RB_GAP)

/-- The smallest S + k × PERIOD, k ≥ 1, that is at least S + COMMIT_OFF + RB_GAP is armed (R206). -/
def State.rearm (s : State) (start : Nat) : State :=
  let p := s.get F.SEQ_PERIOD_PERIOD
  let need := s.get F.SEQ_PLAN_COMMIT_OFF + s.rbGap
  if s.on F.SEQ_CTRL_AUTO_NEXT ∧ p ≠ 0 then
    (s.set F.SEQ_START_START_SLOT (start + max 1 ((need + p - 1) / p) * p)).set F.SEQ_START_ARMED 1
  else s

/-- Entry to LOAD (R190, R204, R206, R216, R316). -/
def State.enterLoad (s : State) (start : Nat) : State :=
  let t := s.get F.SEQ_STEP_TAG
  let s1 := (s.set F.SEQ_START_ARMED 0).setSeq sqLoad
  let s2 := s1.stepCores.foldl (fun s n => s.setReg (A.RNG_SNAP n (t % 2)) (s.reg (A.RNG_COUNT n))) s1
  let s3 := ((s2.setReg A.SEQ_CHECK 0).setReg A.SEQ_VOTE 0).set F.SEQ_STATE_FAILED 0
  let s4 := s3.forN 8 fun s v => s.setReg (A.ACT_FOOT v) 0
  let s5 := { s4 with seq := { s4.seq with start := start, normIn := false, discarded := [] } }
  let s6 := if s5.on F.SEQ_CTRL_AUTO_NEXT then
      (s5.set F.SEQ_START_START_SLOT (start + s5.get F.SEQ_PERIOD_PERIOD)).set F.SEQ_START_ARMED 1
    else s5
  s6.armStep start t

/-- STEP_START (R204): the boundary of START_SLOT; a slot that has passed, or a start not allowed, is a missed start. -/
def stepStart (s : State) : State :=
  let start := s.get F.SEQ_START_START_SLOT
  if s.on F.SEQ_START_ARMED ∧ s.atSlot ∧ start ≤ s.slot then
    if start = s.slot ∧ s.startAllowed = true then s.enterLoad start
    else ((s.set F.SEQ_START_ARMED 0).bump F.SEQ_ERR_START_MISSED).rearm start
  else s

def execStepStart (s : State) : Out := live s stepStart

/-! ## RUN, REDUCE (R204) -/

/-- RUN_START (R204): the boundary of S + RUN_OFF. -/
def runStart (s : State) : State :=
  if s.seqState = sqLoad ∧ s.atSlot ∧ s.seq.start + s.get F.SEQ_PLAN_RUN_OFF ≤ s.slot then
    let ok := s.on F.SEQ_INPUT_READY_VALID && s.get F.SEQ_INPUT_READY_TAG == s.get F.SEQ_STEP_TAG
    let s1 := (s.set F.SEQ_STATE_INPUT_OK (boolBit ok)).setSeq sqRun
    let s2 := if ok then s1 else s1.setCause 4
    s2.stepCores.foldl (fun s n => if (s.coreAt n).state = 0 ∨ (s.coreAt n).state = 4 then s.enterRunning n else s) s2
  else s

def execRunStart (s : State) : Out := live s runStart

/-- Every STEP core is HALTED. -/
def State.allHalted (s : State) : Bool := s.stepCores.all fun n => (s.coreAt n).state == 4

/-- STEP_CORES_HALTED (R204). -/
def stepCoresHalted (s : State) : State :=
  if s.seqState = sqRun ∧ s.allHalted = true then (s.setSeq sqReduce).tryApply else s

def execStepCoresHalted (s : State) : Out := live s stepCoresHalted

/-- A stop by the sequencer reaches cores that are RUNNING or WAITING (R107). -/
def State.seqStop (s : State) (n : Nat) : State :=
  let c := s.coreAt n
  if (c.state = 1 ∨ c.state = 2) ∧ c.stopping = none then s.setCore n { c with stopping := some 0 } else s

/-- CORE_FREEZE (R99, R101, R204): the core enters FROZEN; a fault in a STEP core sets cause CORE and stops every STEP core. -/
def coreFreeze (n : Nat) (s : State) : State :=
  if (s.coreAt n).stopping = some 3 then
    let s1 := s.finishCore n 3
    if s1.on (F.CORE_CTRL_MODE n) ∧ (s1.seqState = sqRun ∨ s1.seqState = sqReduce) then
      (s1.setCause 5).stepCores.foldl (fun s k => s.seqStop k) (s1.setCause 5)
    else s1
  else s

def execCoreFreeze (site : Nat) (s : State) : Out := lively s site 100 (coreFreeze site)

/-! ## VERDICT (R209, R337) -/

/-- The 32 mantissas of the vote (R209). -/
def State.voteMants (s : State) : List Nat :=
  let c := s.get F.SEQ_VOTE_CAUSE
  [boolBit (c != 0)] ++ (List.range 8).map (fun i => boolBit (bitAt c i)) ++ [min (s.get F.SEQ_CHECK_LATE) 32767, 1] ++ List.replicate 21 0

/-- The vote becomes the local input of VCTX: one element, the rest of the round zero. -/
def State.sendVote (s : State) : State :=
  let c := s.get F.SEQ_VCFG_VCTX
  let bs := packValues 32 s.voteMants
  match (s.cx c).rounds.find? fun x => x.phase == 0 with
  | some x =>
    if s.cxActive c kReduce ∧ s.get (F.RC_CFG_ROLE c) = 0 ∧ s.on (F.RC_CFG_LOCAL_EN c) then
      s.localAdd c x 0 (bs ++ List.replicate (s.cxR c - bs.length) 0) none
    else s.stray c
  | none => s.stray c

/-- The causes found at entry to VERDICT (R209); a norm that was not delivered leaves clip at 0 (R224). -/
def State.verdictCauses (s : State) (core apply : Bool) : State :=
  let put := fun (s : State) (c : Nat) (b : Bool) => if b then s.setCause c else s
  let loss := s.memRead ⟨0, 27⟩ (s.get F.SEQ_REPORT_ADDR) 4
  let s0 := if s.on F.SEQ_NORM_CFG_LOSS_EN then loss.st else s
  let s1 := put s0 0 (s0.on F.SEQ_NORM_CFG_LOSS_EN && !fFinite (ofBytes loss.data))
  let s2 := if s1.seq.normIn then s1 else (s1.setCause 1).set F.SEQ_NORM_CLIP 0
  let s3 := put s2 2 (s2.get F.SEQ_CHECK_CSUM != 0)
  let s4 := put s3 3 (s3.get F.SEQ_CHECK_PFAIL != 0)
  put (put s4 5 core) 7 apply

/-- VERDICT_ENTRY (R190, R204, R209). VCTX starts at the same boundary (R337), and is active when the vote arrives. -/
def verdictEntry (s : State) : State :=
  let x := s.seqState
  if (x = sqRun ∨ x = sqReduce ∨ (x = sqApply ∧ s.pingPong = true)) ∧ s.pendValid = false ∧ s.atSlot
      ∧ s.seq.start + s.get F.SEQ_PLAN_VERDICT_OFF ≤ s.slot then
    let t := s.get F.SEQ_STEP_TAG
    let core := x == sqRun && !s.allHalted
    let s1 := if x = sqRun then s.stepCores.foldl (fun s n => s.seqStop n) s else s
    let apply := x == sqApply && s.get F.UPD_STATUS_DONE != 0xFFFF
    let s2 := if x = sqApply then (if apply then s1.updStop else s1.set F.VER_ACTIVE_PROV_VALID 1) else s1
    let s3 := s2.verdictCauses core apply
    let s4 := s3.forN 8 fun s v => s.set (F.ACT_PEAK_LAST_PEAK v) (s.get (F.ACT_FOOT_PEAK v))
    let s5 := ((s4.set F.SEQ_STEP_PEND_TAG t).set F.SEQ_STEP_PEND_VALID 1).setPend sqVerdict
    let s6 := ({ s5 with seq := { s5.seq with
      pendStart := s5.seq.start, pendCommit := none, pendCause := s5.get F.SEQ_VOTE_CAUSE } } : State)
    let s6 := (rcActivate (s6.get F.SEQ_VCFG_VCTX) s6).sendVote
    if s6.pingPong then (s6.set F.SEQ_STEP_TAG (t + 1)).setSeq sqIdle else s6.setSeq sqVerdict
  else s

def execVerdictEntry (s : State) : Out := live s verdictEntry

/-! ## Commit and rollback (R212, R213, R215) -/

/-- The commit slot of the pending step (R204, R229): by the plan, or by the plan that a reset took from it. -/
def State.pendSlot (s : State) : Nat := s.seq.pendCommit.getD (s.seq.pendStart + s.get F.SEQ_PLAN_COMMIT_OFF)

/-- What a reset leaves of the sequencer beside its registers (R197, R213, R229): the pending step's slot, and what it has written. -/
def State.seqKept (s : State) : Seq :=
  if s.pendValid then { pendStart := s.seq.pendStart, pendCommit := some s.pendSlot, wrote := s.seq.wrote } else {}

/-- COMMIT_MISSED (R229). -/
def State.commitMissed (s : State) (reason : Nat) : State :=
  s.fault 0x0302 unitSeq false (mkWord [(63, 48, s.get F.SEQ_STEP_PEND_TAG), (47, 40, reason), (39, 0, s.pendSlot)])

/-- Entry to COMMIT (R212). -/
def State.commitStep (s : State) : State :=
  let t := s.get F.SEQ_STEP_PEND_TAG
  let s1 := (s.stepCores.foldl (fun s n => s.convCommitTag n t) s).collCommit t
  let s2 := ((s1.set F.SEQ_RETAIN_LAST_COMMIT t).set F.SEQ_RETAIN_LC_VALID 1).set F.SEQ_RETAIN_RET_VALID 1
  let s3 := if s2.pingPong then
      ((s2.set F.VER_ACTIVE_ACTIVE ((t + 1) % 2)).set F.VER_ACTIVE_VER_TAG t).set F.VER_ACTIVE_PROV_VALID 0
    else (s2.set F.SEQ_STEP_TAG (t + 1)).setSeq sqCommit
  let s4 := ((s3.set F.SEQ_STEP_RETRIES 0).set F.SEQ_STATE_MISSED 0).setPend sqCommit
  { s4 with seq := { s4.seq with
    held := none, late := none, commitSlot := s4.slot, wrote := s4.seq.wrote.filter fun w => w.1 != t } }

/-- Rollback stops a STEP core whatever it does (R107, R215). -/
def State.rollCore (s : State) (t n : Nat) : State := (coreStop n s).setReg (A.RNG_COUNT n) (s.reg (A.RNG_SNAP n (t % 2)))

/-- Every conversion unit acts on a rollback (R148, R215). -/
def State.rollConv (s : State) : State := s.forN 100 fun s n => if s.siteEnabled n then s.convDiscard n else s

/-- Entry to ROLLBACK of the pending step, and with it of a ping-pong head step that runs (R215); what they wrote is undefined (R196). -/
def State.rollbackStep (s : State) : State :=
  let t := s.get F.SEQ_STEP_PEND_TAG
  let x := s.seqState
  let head := s.pingPong && (x == sqLoad || x == sqRun || x == sqReduce || x == sqApply)
  let s1 := s.fault 0x0301 unitSeq false (mkWord [(63, 47, s.get F.SEQ_VSUM0_PRESENT), (46, 30, s.get F.SEQ_VSUM0_REJECT_SUM),
    (29, 8, min (s.get F.SEQ_VSUM0_LATE_SUM) 0x3FFFFF), (7, 0, s.seq.pendCause)])
  let s2 := (s1.stepCores.foldl (fun s n => s.rollCore t n) s1).rollConv
  let s3 := (s2.forN 4 fun s d => s.reRollback d).collRollback t
  let s4 := (if head then s3.collRollback ((t + 1) % 65536) else s3).spoilStep (if head then [t, (t + 1) % 65536] else [t])
  let s5 := if s4.pingPong then s4.updStop.set F.VER_ACTIVE_PROV_VALID 0 else s4
  let s6 := (((s5.set F.SEQ_STEP_TAG t).set F.SEQ_STEP_PEND_VALID 0).setPend 0).set F.SEQ_STATE_MISSED 0
  let s7 := { s6.setSeq sqRollback with seq := { s6.seq with
    discarded := if head then [t, (t + 1) % 65536] else [t], held := none, late := none, rbSlot := s6.slot } }
  s7.rearm s7.seq.pendStart

def State.decideStep (s : State) (accept : Bool) : State := if accept then s.commitStep else s.rollbackStep

/-- COMMIT_SLOT (R204, R213): the boundary of S + COMMIT_OFF of the step in VERDICT. -/
def commitSlot (s : State) : State :=
  if s.pendState = sqVerdict ∧ s.on F.SEQ_STATE_MISSED = false ∧ s.atSlot ∧ s.seq.pendStart + s.get F.SEQ_PLAN_COMMIT_OFF ≤ s.slot then
    match s.seq.held with
    | some (t, a) => if t = s.get F.SEQ_STEP_PEND_TAG then s.decideStep a else (s.set F.SEQ_STATE_MISSED 1).commitMissed 1
    | none => (s.set F.SEQ_STATE_MISSED 1).commitMissed 1
  else s

def execCommitSlot (s : State) : Out := live s commitSlot

/-- LATE_VERDICT_ACT (R63, R204, R213): the first slot boundary after a late verdict or an accepted mark. -/
def lateVerdictAct (s : State) : State :=
  match s.seq.late with
  | some (a, reason, tick) => if s.atSlot ∧ tick < s.now ∧ s.pendValid = true then (s.commitMissed reason).decideStep a else s
  | none => s

def execLateVerdictAct (s : State) : Out := live s lateVerdictAct

/-- SEQ_MARK (R212, R213). -/
def seqMark (accept : Bool) (tag : Nat) (s : State) : State :=
  let t := tag % 65536
  if s.on F.SEQ_RETAIN_LC_VALID ∧ s.get F.SEQ_RETAIN_LAST_COMMIT = t then s
  else if s.pendValid = true ∧ s.get F.SEQ_STEP_PEND_TAG = t then
    let s1 := s.setReg A.SEQ_VERDICT (mkWord [(18, 18, 1), (17, 17, boolBit accept), (16, 16, 1), (15, 0, t)])
    if s.pendState = sqVerdict ∧ s.on F.SEQ_STATE_MISSED = false then { s1 with seq := { s1.seq with held := some (t, accept) } }
    else { s1 with seq := { s1.seq with late := some (accept, 4, s1.now) } }
  else s.bump F.SEQ_ERR_MARK_IGNORED

def execSeqMark (accept : Bool) (tag : Nat) (s : State) : Out := live s (seqMark accept tag)

/-! ## APPLY (R204, R221, R224) -/

/-- A gated apply whose units are all DONE ends. -/
def State.finishApply (s : State) : State :=
  if s.seqState = sqApply ∧ s.pingPong = false ∧ s.get F.UPD_STATUS_DONE = 0xFFFF then
    (s.setSeq sqIdle).set F.SEQ_RETAIN_APPLY_PENDING 0
  else s

/-- APPLY_START (R204): the slot boundary after COMMIT; gated, the units start the job list; ping-pong, the pending step clears. -/
def applyStart (s : State) : State :=
  if s.pendState = sqCommit ∧ s.atSlot ∧ s.seq.commitSlot < s.slot then
    let t := s.get F.SEQ_STEP_PEND_TAG
    let s1 := (s.setPend 0).set F.SEQ_STEP_PEND_VALID 0
    if s1.pingPong then s1.tryApply
    else ((((s1.set F.SEQ_RETAIN_APPLY_PENDING 1).set F.SEQ_RETAIN_APPLY_TAG t).setSeq sqApply).updStart false).finishApply
  else s

def execApplyStart (s : State) : Out := live s applyStart

/-- UPD_GROUP_DONE (R209, R221, R224): the controller has accepted every write of unit n's group. -/
def updGroupDone (n : Nat) (s : State) : State :=
  match (s.upd.getD n {}).journal with
  | some (k, g, ws) =>
    if s.on F.UPD_STATUS_RUNNING ∧ s.on (F.UPD_CURSOR_JVALID n) then
      let (s1, lost) := s.updWrites n ws
      let s2 := if lost = 0 then s1
        else if s1.pingPong then s1.setCause 7
        else (s1.set F.SEQ_RETAIN_APPLY_LOST 1).set F.UPD_STATUS_LOST 1
      (s2.updPast n k g).finishApply
    else s
  | none => s

def execUpdGroupDone (unit : Nat) (s : State) : Out := lively s unit 16 (updGroupDone unit)

/-- ROLLBACK_END (R204, R216). -/
def rollbackEnd (s : State) : State :=
  if s.seqState = sqRollback ∧ s.atSlot ∧ s.seq.rbSlot + s.rbGap ≤ s.slot then
    let s1 := (s.setSeq sqIdle).bump F.SEQ_STEP_RETRIES
    let lim := s1.get F.SEQ_PERIOD_RETRY_LIMIT
    if lim ≠ 0 ∧ lim ≤ s1.get F.SEQ_STEP_RETRIES then s1.set F.SEQ_CTRL_HOLD 1 else s1
  else s

def execRollbackEnd (s : State) : Out := live s rollbackEnd

/-- RESUME (R204, R221): SEQ_CTRL.RESUME written in IDLE with APPLY_PENDING. -/
def resumeApply (s : State) : State :=
  if s.seqState = sqIdle ∧ s.on F.SEQ_RETAIN_APPLY_PENDING then ((s.setSeq sqApply).updStart true).finishApply else s

def execResume (s : State) : Out := live s resumeApply

end Sys2Proof.Machine
end

