-- ==== Sys2Proof/Machine/Units.lean ====
section
/-! DEFINITION. The quiesce contract (R463 to R465, R414), retirement (R434, R435), and the passages TRAIN to JOIN to SERVICE
(R446). -/
namespace Sys2Proof.Machine

/-! ## The quiesce contract (R463) -/

/-- Entries of UNIT_STATE on which ENABLE and DRAIN are ignored (R414). -/
def entFixed (n : Nat) : Bool := (160 ≤ n && n ≤ 166) || 171 ≤ n

/-- The Spoke or Colok port of an entry. -/
def entIsPort (n : Nat) : Bool := 116 ≤ n && n ≤ 129

/-- The unit starts: a port trains, any other unit initialises. -/
def State.startUnit (s : State) (n : Nat) : State := if entIsPort n then s.portEnableCmd (n - 116) else s.setUnit n usStarting

/-- UNIT_ENABLE (R463, R414): `source` 1 for UNIT_STATE, 2 for the unit's own control register. -/
def State.enableUnit (s : State) (n source : Nat) : State :=
  if entFixed n then s
  else match s.unit n with
  | 0 => s.startUnit n
  | 4 => s.startUnit n
  | 3 =>
    (s.set (F.UNIT_STATE_ENABLE_PENDING n) 1).fault 0x0904 (unitOfEntry n) false
      (mkWord [(63, 56, source), (39, 0, (mapFind s.drains n).getD 0 / 256)])
  | 5 => s.absentUnit (unitOfEntry n) (A.UNIT_STATE n)
  | _ => s

def execUnitEnable (unit : Nat) (s : State) : Out := lively s unit 187 fun s => s.enableUnit unit 1

/-- UNIT_DRAIN (R463). -/
def State.drainUnit (s : State) (n : Nat) : State :=
  if entFixed n then s
  else match s.unit n with
  | 1 => { (s.setUnit n usDraining) with drains := mapInsert n s.now (mapErase s.drains n) }
  | 2 => { (s.setUnit n usDraining) with drains := mapInsert n s.now (mapErase s.drains n) }
  | 3 => s.set (F.UNIT_STATE_ENABLE_PENDING n) 0
  | 5 => s.absentUnit (unitOfEntry n) (A.UNIT_STATE n)
  | _ => s

def execUnitDrain (unit : Nat) (s : State) : Out := lively s unit 187 fun s => s.drainUnit unit

/-- What a unit does as it becomes DOWN at the end of a drain: a port goes to NONE (R387), a memory controller's stack enters self
refresh (R435). -/
def State.downUnit (s : State) (n : Nat) : State :=
  let s1 := { (s.setUnit n usDown) with drains := mapErase s.drains n }
  if entIsPort n then
    let p := n - 116
    let s2 := s1.portNone p
    if p < 12 then (s2.portFresh p).pumpAll else s2
  else if 100 ≤ n ∧ n < 116 then s1.set (F.MC_STATUS_SREF (n - 100)) 1
  else if 154 ≤ n ∧ n < 158 then s1.setEng (n - 154) {}
  else s1

/-- A RETIRE goes on (R435): once no unit of the drain is DRAINING the pending records are committed; once none waits or is being written,
the cages lose their 12 V, SB_ATTN bit 0 pulls ATTN_N low, and ALERT_CAUSE.STATE is set. A refused commit is tried again at the marks. -/
def State.retireNext (s : State) : State :=
  let drained := s.pwr.retireStep = 1 ∧ (List.range 187).all fun n => s.unit n != usDraining || n == 128 || n == 129
  let s0 := if drained then { s with pwr := { s.pwr with retireStep := 2 } } else s
  let s1 := if s0.pwr.retireStep = 2 then s0.commitAt (s0.get F.HU_STATUS_V_BANK) else s0
  if s1.pwr.retireStep = 2 ∧ s1.led.pending.isEmpty ∧ s1.led.inFlight.isEmpty then
    let s2 := s1.forN 12 fun s p => s.cage p false
    let s3 := (s2.set F.SB_ATTN_CAUSE (s2.get F.SB_ATTN_CAUSE ||| 1)).alert 3
    { s3 with pwr := { s3.pwr with retireStep := 3 } }
  else s1

/-- UNIT_DRAIN_END (R463): held work has finished, or one epoch has passed. -/
def State.endDrain (s : State) (n : Nat) : State :=
  if s.unit n = usDraining then
    let pend := s.on (F.UNIT_STATE_ENABLE_PENDING n)
    let s1 := s.downUnit n
    if pend then (s1.set (F.UNIT_STATE_ENABLE_PENDING n) 0).startUnit n else if s1.mstate = msRetire then s1.retireNext else s1
  else s

def execUnitDrainEnd (unit : Nat) (s : State) : Out := lively s unit 187 fun s => s.endDrain unit

/-- UNIT_INIT_DONE (R463): a STARTING unit, or one of a module that reset has just brought to TRAIN. Ports and memory controllers
initialise by their training (R387, R254). -/
def unitInitDone (n : Nat) (ok : Bool) (s : State) : State :=
  if entIsPort n ∨ (100 ≤ n ∧ n < 116) then s
  else if s.unit n = usStarting ∨ (s.unit n = usOff ∧ s.mstate = msTrain) then
    let s1 := s.setUnit n (if ok then usReady else usDown)
    if ok = true ∧ (n = 158 ∨ n = 159) then s1.farReady (n - 158) else s1
  else s

def execUnitInitDone (unit : Nat) (ok : Bool) (s : State) : Out := lively s unit 187 (unitInitDone unit ok)

/-- The reset of a unit's domain (R463): READY and STARTING start again; DRAINING and DOWN end DOWN, or start if an enable is
held. -/
def State.resetUnit (s : State) (n : Nat) : State :=
  match s.unit n with
  | 1 => s.setUnit n usStarting
  | 2 => s.setUnit n usStarting
  | 3 =>
    let s1 := { s with drains := mapErase s.drains n }
    if s1.on (F.UNIT_STATE_ENABLE_PENDING n) then (s1.set (F.UNIT_STATE_ENABLE_PENDING n) 0).setUnit n usStarting
    else s1.setUnit n usDown
  | 4 =>
    if s.on (F.UNIT_STATE_ENABLE_PENDING n) then (s.set (F.UNIT_STATE_ENABLE_PENDING n) 0).setUnit n usStarting else s
  | _ => s

/-! ## Retirement (R434, R435) -/

/-- A RETIRE request (R434, R435). -/
def retireRequest (s : State) : State :=
  if msTrain ≤ s.mstate ∧ s.mstate ≤ msService then
    let s1 := (s.setMState msRetire).set F.SEQ_CTRL_HOLD 1
    { s1 with pwr := { s1.pwr with retireWait := 0, retireStep := 0 } }
  else s

def execRetireRequest (s : State) : Out := live s retireRequest

/-- RETIRE_DRAIN (R435): once the sequencer is idle, or after RETIRE_WAIT epochs, every unit but the Colok ports drains under the quiesce
contract; the later steps follow as the units and the ledger's commit end. -/
def retireDrain (s : State) : State :=
  if s.mstate = msRetire ∧ s.pwr.retireStep = 0
      ∧ ((s.seqIdle ∧ ¬ s.on F.SEQ_RETAIN_APPLY_PENDING) ∨ s.get F.PWR_ENV_RETIRE_WAIT ≤ s.pwr.retireWait) then
    let s1 := s.forN 187 fun s n => if n = 128 ∨ n = 129 ∨ s.absent n then s else s.drainUnit n
    ({ s1 with pwr := { s1.pwr with retireStep := 1 } } : State).retireNext
  else s

def execRetireDrain (s : State) : Out := live s retireDrain

/-- DIE_CRIT_RETIRE (R429): a die at DIE_CRIT at 16 consecutive marks while TF is 7. -/
def dieCritRetire (s : State) : State :=
  if 16 ≤ s.pwr.critMarks then
    let s1 := (retireRequest s).bump F.PWR_TEMP_CRIT_RETIRE
    { s1 with pwr := { s1.pwr with critMarks := 0 } }
  else s

def execDieCritRetire (s : State) : Out := live s dieCritRetire

/-- THROTTLE_LEVEL (R427): the armed slot of PWR_THR. -/
def throttleLevel (s : State) : State :=
  if s.stagedDue A.PWR_THR_ACT then
    (s.stagedDone A.PWR_THR_ACT).set F.PWR_STATUS_LEVEL (s.get F.PWR_THR_NEXT_LEVEL)
  else s

def execThrottleLevel (s : State) : Out := live s throttleLevel

/-! ## TRAIN, JOIN, SERVICE (R446) -/

/-- What TRAIN waits for (R446, R183, R254). -/
def State.trained (s : State) : Bool :=
  ((List.range 16).all fun n => s.unit (entMc n) == usReady || s.unit (entMc n) == usDown)
    && ((List.range 14).all fun p => s.phase p == 7 || s.phase p == 8)
    && (List.range 4).all fun d => s.on (F.RE_STATUS_SELFTEST_PASS d) || s.get (F.RE_STATUS_STATE d) == 3

/-- TRAIN_DONE (R446): to JOIN, with the first map in force at the latest (R237, R254); RWL fields are locked from here on (R14). -/
def trainDone (s : State) : State := if s.mstate = msTrain ∧ s.trained then s.firstMap.setMState msJoin else s

def execTrainDone (s : State) : Out := live s trainDone

/-- The conditions of ADMIT (R446). -/
def State.admissible (s : State) : Bool :=
  s.on F.RT_NODE_ID_VALID && (match s.sendBank with
    | some b => s.bankState b == 1
    | none => false) && s.on F.CAD_STATUS_ALIGNED

/-- The records a MODULE reset left owing (R229, R300). -/
def State.owedRecords (s : State) : State :=
  let s1 := if s.pwr.missLog ∧ s.pendValid then s.commitMissed 2 else s
  let s2 := if s1.pwr.dropLog then
      s1.fault 0x0504 (unitRouter 0) false (mkWord [(63, 60, 4), (59, 56, 0xF), (55, 52, 0xF), (31, 0, s1.get F.RT_RESET_DROP_COUNT)])
    else s1
  { s2 with pwr := { s2.pwr with dropLog := false, missLog := false } }

/-- ADMIT (R446). The first SERVICE on a trial bank makes it the active one, with its SVN the least to be accepted (R452). -/
def admitModule (s : State) : State :=
  if s.mstate ≠ msJoin then s
  else if ¬ s.admissible then s.bump F.PWR_STAT_ADMIT_REFUSED
  else
    let s1 := (s.setMState msService).owedRecords
    let d := s1.led.bootNext
    if s1.on F.BOOT_STATUS_TRIAL ∧ d.1 ≠ s1.get F.BOOT_STATUS_BANK then
      s1.ledgerAdd (.boot (s1.get F.BOOT_STATUS_BANK) false d.2.2.1 (max d.2.2.2 (s1.get F.BOOT_STATUS_SVN)))
    else s1

def execAdmit (s : State) : Out := live s admitModule

end Sys2Proof.Machine
end

