-- ==== Sys2Proof/Machine/Reset.lean ====
section
/-! DEFINITION. The reset domains (R461, R462, R197, R298, R350), input loss and return (R441 to R444), and the settings digest
(R447). -/
namespace Sys2Proof.Machine

/-! ## Registers across resets -/

/-- What is left of a register's entry: its fields whose Reset entry is "kept" (R197). -/
def keptWord (s : State) (a : Nat) (w : Word) : Option Word :=
  match rowAt a with
  | some r =>
    if r.kept = 0 then none
    else some ((regDefault s a &&& ~~~ BitVec.ofNat 64 r.kept) ||| (w &&& BitVec.ofNat 64 r.kept))
  | none => none

/-- Registers of a range take their reset values, but for kept fields and the registers named. -/
def State.resetRegs (s : State) (lo hi : Nat) (but : List Nat) : State :=
  let out := s.regs.filter fun p => p.1 < lo || hi ≤ p.1 || but.contains p.1
  let inn := s.regs.filter fun p => lo ≤ p.1 && p.1 < hi && !but.contains p.1
  inn.foldl (fun s p => match keptWord s p.1 p.2 with
    | some w => s.setReg p.1 w
    | none => s) { s with regs := out }

/-- Every field whose reset entry is "image" is reloaded from the settings copy (R447). -/
def State.reloadImage (s : State) : State :=
  s.regs.foldl (fun s p => match rowAt p.1 with
    | some r =>
      if r.image = 0 then s
      else s.setReg p.1 ((p.2 &&& ~~~ BitVec.ofNat 64 r.image) ||| (imageValue s p.1 r &&& BitVec.ofNat 64 r.image))
    | none => s) s

/-- RST_STATUS (R467). -/
def State.rstStatus (s : State) (domain cause epoch : Nat) : State :=
  s.setReg A.RST_STATUS (mkWord [(55, 52, domain), (51, 48, cause), (47, 0, epoch)])

/-! ## POWER -/

/-- A reset of the controllers drops the records that wait and cuts off a commit in progress (R455): how far it had come is a free value. -/
def State.cutCommit (s : State) : State :=
  if s.led.inFlight.isEmpty then { s with led := { s.led with pending := [], refusing := false } }
  else
    let (w, s1) := s.fresh
    { s1 with led := s1.led.cutOff (w.toNat % (2 * s1.led.inFlight.length + 1)) }

/-- POWER reset (R461, R444, R446): all is lost but flash, ledger and fuses; the module enters PRECHARGE. The output log, the waiting
commands and the model's own counters go on. PRSNT_N is timed anew where the module was without power (R432). -/
def State.powerReset (s0 : State) (cause vin : Nat) : State :=
  let s := s0.cutCommit
  let epoch := s.epoch
  let s1 : State := {
    cad := { refPresent := s.cad.refPresent, refSince := s.cad.refSince - (s.now : Int) }, fuse := s.fuse, flashA := s.flashA, flashB := s.flashB
    led := s.led
    pwr := { rails := true, ctrlRails := true, vin := vin, mated := s.pwr.mated && cause != 4, modrst := false, measureDue := false }
    opt := s.opt.map fun o => { present := o.present, tripped := o.tripped, cleared := o.cleared }
    near := s.near.lose, far := s.far.map Mem.lose, stage := s.stage.lose, side := s.side.lose, core := s.core.lose
    freeCtr := s.freeCtr, undefGen := s.undefGen + 1, sent := s.sent, pending := s.pending
    mc := List.replicate 16 { kept := false, alive := false } }
  ((s1.set F.MODULE_STATE_STATE msPrecharge).alert 3).rstStatus 6 cause epoch

/-- RESTART (R446, R448): a POWER reset without input loss. -/
def execRestart (s : State) : Out := live s fun s => s.powerReset 5 s.pwr.vin

/-- POWER_APPLIED (R446): an unpowered module whose VIN reaches 44 V. -/
def powerApplied (vin : Nat) (s : State) : State :=
  if ¬ s.pwr.rails ∧ ¬ s.pwr.ctrlRails ∧ 4400 ≤ vin then s.powerReset 4 vin else s

def execPowerApplied (vin : Nat) (s : State) : Out := .next (powerApplied vin s)

/-- INPUT_LOSS (R432, R441, R442): the rails of the fast plane go; the controllers finish the commit in progress, or start one that
holds all pending records if the hold-up check passes at the present bank voltage, or else remove their own rails. With VIN in its range
the loss is a break of PRSNT_N, which in PRECHARGE is none: the module then waits to be mated. -/
def inputLoss (vin vbank : Nat) (s : State) : State :=
  if ¬ s.pwr.rails then s
  else if s.mstate = msPrecharge ∧ 4200 ≤ vin ∧ vin ≤ 6000 then { s with pwr := { s.pwr with vin := vin, mated := false } }
  else
    let start := s.led.inFlight.isEmpty && !s.led.pending.isEmpty && !s.mgmt.inReset && s.holdupOk 40 vbank
    let led := if start then { s.led with inFlight := s.led.pending, pending := [] } else s.led
    { s with
      led := led
      pwr := { s.pwr with rails := false, vin := vin, mated := if 4200 ≤ vin ∧ vin ≤ 6000 then false else s.pwr.mated,
                          ctrlRails := !led.inFlight.isEmpty } }

def execInputLoss (vin vbank : Nat) (s : State) : Out := .next (inputLoss vin vbank s)

/-- LEDGER_COMMIT_DONE (R455, R442): after input loss the controllers then remove their own rails. -/
def ledgerCommitDone (s : State) : State :=
  if s.pwr.rails then (if s.pwr.modrst then s else s.commitDone.retireNext)
  else if s.pwr.ctrlRails then { s with led := s.led.commit, pwr := { s.pwr with ctrlRails := false } }
  else s

def execLedgerCommitDone (s : State) : Out := .next (ledgerCommitDone s)

/-- INPUT_RETURN (R443): while the controllers still have their rails they finish the commit, and the module performs a POWER
reset. -/
def inputReturn (vin : Nat) (s : State) : State :=
  if ¬ s.pwr.rails ∧ s.pwr.ctrlRails ∧ 4400 ≤ vin then (ledgerCommitDone s).powerReset 4 vin else s

def execInputReturn (vin : Nat) (s : State) : Out := .next (inputReturn vin s)

/-! ## MODULE -/

def LedgerBody.isMapOut : LedgerBody → Bool
  | .mapOut .. => true
  | _ => false

/-- The ledger over a MODULE reset: a commit in progress is cut off and the records that wait are dropped (R455), but the map-out of every
pseudo-channel that is RETIRED waits on, since only a loss of input power may undo it (R245, R248). -/
def State.keepMapOuts (s : State) : State :=
  let s1 := s.forN 16 fun s n => s.recordRetired n
  let outs := (s1.led.inFlight ++ s1.led.pending).filter (·.isMapOut)
  let s2 := s1.cutCommit
  { s2 with led := { s2.led with pending := outs.filter fun b => !s2.led.bodies.contains b } }

/-- The state of every block after a MODULE reset (R461, R197, R298, R350), before the units are brought up. -/
def State.moduleFresh (s0 : State) (cause : Nat) : State :=
  let s := s0.keepMapOuts
  let epoch := s.epoch
  let was := s.mstate
  let drops := s.rt.held.length
  let pend := s.pendValid
  let s1 : State := { s with
    cad := { refPresent := s.cad.refPresent, refSince := s.cad.refSince - (s.now : Int) }
    mgmt := {}
    colok := [{}, {}]
    sb := {}
    pwr := { s.pwr with
      peakSeen := false, watts := [], level := 0, critMarks := 0, measuring := false, measureDue := true, modrst := false
      retireWait := 0, retireStep := 0, holds := [], dropLog := true, missLog := pend }
    boot := { settings := s.boot.settings, firmware := s.boot.firmware, imgDigest := s.boot.imgDigest, abiDigest := s.boot.abiDigest }
    staged := [], drains := []
    cores := List.replicate 100 {}
    rt := {}, map := {}
    mc := s.mc.map fun c => { kept := c.alive, alive := c.alive }
    ctx := List.replicate 16 {}
    seq := s.seqKept
    upd := s.upd.map fun u => { u with scal := [] }
    re := List.replicate 4 {}
    opt := s.opt.map Optic.overReset
    far := s.far.map Mem.lose, stage := s.stage.lose, side := s.side.lose
    undefGen := s.undefGen + 1 }
  let s2 := (s1.resetRegs 0 (2 ^ 49) []).set F.RT_RESET_DROP_COUNT drops
  let s3 := (s2.set F.LEDGER_STATUS_PENDING (boolBit (!s2.led.pending.isEmpty))).rstStatus 0 cause epoch
  if was = msTrain then s3 else s3.alert 3

/-- MODULE_RESET (R461, R462, R447): a settings digest that does not match is a restart, cause 6. Held by MODRST_N, the reset lasts
until the pin is released. -/
def moduleReset (byPin digestOk : Bool) (s : State) : State :=
  if ¬ digestOk then s.powerReset 6 s.pwr.vin
  else
    let s1 := s.moduleFresh (if byPin then 1 else 2)
    if byPin = true then { s1 with pwr := { s1.pwr with modrst := true } }
    else s1.bringUp

def execModuleReset (byPin digestOk : Bool) (s : State) : Out := live s (moduleReset byPin digestOk)

/-- MODRST_N_RELEASE (R462). -/
def modrstNRelease (s : State) : State :=
  if s.pwr.rails ∧ s.pwr.modrst then ({ s with pwr := { s.pwr with modrst := false } } : State).bringUp else s

def execModrstNRelease (s : State) : Out := .next (modrstNRelease s)

/-! ## Smaller domains -/

/-- A core after a reset (R107, R148): STOPPED, queues and pipelines empty, counter values zero, working banks clear. -/
def State.coreFresh (s0 : State) (n : Nat) : State :=
  let s := s0.endWait n
  let c := s.coreAt n
  let s1 := s.setCore n { autoNew := c.autoNew, autoBank := c.autoBank, vregs := c.vregs, issued := c.issued, waited := c.waited }
  let s2 := s1.forN 32 fun s k => s.set (F.CNT_VALUE n k) 0
  s2.convDiscard n

/-- CORE_RESET (R461): signals that wait for the core complete RETIRED (R301). A fused-off site has no unit to reset (R8). -/
def coreReset (n : Nat) (s : State) : State :=
  if s.siteEnabled n then
    let s1 := s.retireLocal (entCore n) (forCore n) s.rt.held.length
    ((s1.coreFresh n).resetUnit (entCore n)).rstStatus 2 2 s.epoch
  else s.absentUnit (unitCore n) A.RST_CTRL

def execCoreReset (site : Nat) (s : State) : Out := lively s site 100 (coreReset site)

/-- COMPUTE_RESET (R461, R182, R227): cores, conversion units, the sequencer apart from kept and telemetry fields, row engines,
update units apart from cursors and journals. -/
def computeReset (s : State) : State :=
  let s1 := s.forN 100 fun s n => if s.siteEnabled n then (s.coreFresh n).resetUnit (entCore n) else s
  let s2 := s1.resetRegs A.SEQ_CTRL A.UPD_STATUS [A.SEQ_ERR]
  let s3 := s2.updStop
  let s4 : State := { s3 with seq := s.seqKept, upd := s3.upd.map fun (u : Upd) => { u with scal := [] } }
  let s5 := s4.forN 4 fun s d => (s.reRollback d).resetUnit (entRe d)
  let s6 := s5.forN 16 fun s n => s.resetUnit (entUpd n)
  (s6.resetUnit entSeq).rstStatus 1 2 s.epoch

def execComputeReset (s : State) : Out := live s computeReset

/-- STACK_RESET (R461, R255, R256): the controller puts the stack into self refresh, then retrains; the contents stay, and so does what the
monitor holds and has had the controller do for the temperature (R249). Packets that wait for the stack complete RETIRED (R298). -/
def stackReset (n : Nat) (s0 : State) : State :=
  let s := s0.retireLocal (entMc n) (s0.forStack n) s0.rt.held.length
  let c := s.memctl n
  let s1 := s.setMemctl n { c with kept := c.alive, log := [], repair := none, granules := 0, grantSlot := 0, grants := 0, withheld := 0 }
  let s2 := { s1 with upd := s1.upd.set n { (s1.upd.getD n {}) with scal := [] } }
  (((s2.set (F.MC_STATUS_SREF n) 1).resetUnit (entMc n)).resetUnit (entUpd n)).rstStatus 3 2 s.epoch

def execStackReset (stack : Nat) (s : State) : Out := lively s stack 16 (stackReset stack)

/-- The packets a port holds are dropped, reason 2 (R298). -/
def State.dropPort (s : State) (p reason : Nat) : State :=
  let mine := s.rt.held.filter fun h => h.src == p
  let s1 := { s with rt := { s.rt with held := s.rt.held.filter fun h => h.src != p } }
  if mine.length = 0 then s1 else s1.transitDrop p reason (commonVc mine) mine.length

/-- A per-port reset (R461, R463): the port trains again from DETECT, or stays down. -/
def State.resetPort (s : State) (p : Nat) : State :=
  let s1 := if p < 12 then ((s.bump F.RT_DROP_PORT_RESET).dropPort p 2).portFresh p else { s with colok := s.colok.set (p - 12) {} }
  let n := entPort p
  match s1.unit n with
  | 1 => s1.retrainLost p
  | 2 => s1.retrainLost p
  | 0 => s1
  | _ =>
    if s1.on (F.UNIT_STATE_ENABLE_PENDING n) then (s1.set (F.UNIT_STATE_ENABLE_PENDING n) 0).retrainLost p
    else ({ s1 with drains := mapErase s1.drains n }.setUnit n usDown).portNone p

/-- PORT_RESET (R461). -/
def execPortReset (port : Nat) (s : State) : Out := lively s port 14 fun s => (s.resetPort port).rstStatus 4 2 s.epoch

/-- ARB_WATCHDOG (R305): an owner that keeps its request raised and delivers no beat; its input port is reset. -/
def arbWatchdog (p : Nat) (s : State) : State :=
  if s.unitReady (entPort p) then
    let mine := s.rt.held.filter fun h => h.src == p
    let s1 := (s.bump F.RT_DROP_WDOG).transitDrop p 5 (commonVc mine) mine.length
    (s1.resetPort p).rstStatus 4 3 s.epoch
  else s

def execArbWatchdog (port : Nat) (s : State) : Out := lively s port 12 (arbWatchdog port)

/-! ## MANAGEMENT -/

/-- MANAGEMENT_RESET (R461, R447, R455): controllers and slow-plane blocks; the commit in progress is abandoned and its records stay
pending. Heater codes, the steer engine and the armed pairs go on. -/
def managementReset (digestOk : Bool) (s : State) : State :=
  if s.mgmt.inReset then s
  else if ¬ digestOk then s.powerReset 6 s.pwr.vin
  else
    let s1 : State := { s with
      mgmt := { s.mgmt with missed0 := 0, missed1 := 0, lost := none, inReset := true }
      led := { s.led with pending := s.led.inFlight ++ s.led.pending, inFlight := [], refusing := false }
      pwr := { s.pwr with watts := [], level := 0, critMarks := 0, measuring := false, measureDue := s.pwr.measureDue || s.pwr.measuring }
      boot := { s.boot with flashOp := none, held := 0, idOp := none, report := [], reportNext := [] }
      mc := s.mc.map fun c => { c with recent := [], want := [], cool := 0 }
      opt := s.opt.map fun o => { o with
        monDrops := [], marDrops := [], cmd := none, shadow := []
        sweeps := (o.sweeps.filter fun w => w.mirage != 3).map fun w => ⟨w.ring, 0, 0, 0, 0xF⟩ } }
    let s2 := (((s1.set F.MGMT_STATUS_PRI_UP 0).set F.MGMT_STATUS_SEC_UP 0).set F.MGMT_STATUS_ROLES 0).set F.PWR_TEMP_TF 0
    let s3 := (s2.showFlash.set F.ID_STATUS_BUSY 0).set F.ID_STATUS_DONE 0
    (s3.reloadImage.set F.LEDGER_STATUS_PENDING (boolBit (!s3.led.pending.isEmpty))).rstStatus 5 2 s.epoch

def execManagementReset (digestOk : Bool) (s : State) : Out := live s (managementReset digestOk)

/-- MGMT_RESUME (R461): the controllers serve again. -/
def mgmtResume (s : State) : State :=
  if s.mgmt.inReset then
    let s1 := { s with mgmt := { s.mgmt with inReset := false } }
    let s2 := (s1.set F.MGMT_STATUS_PRI_UP 1).set F.MGMT_STATUS_SEC_UP 1
    (s2.setUnit (entMgmt 0) usReady).setUnit (entMgmt 1) usReady
  else s

def execMgmtResume (s : State) : Out := live s mgmtResume

end Sys2Proof.Machine
end

