-- ==== Sys2Proof/Machine/RegSpace.lean ====
section
/-! DEFINITION. The register space (R8, R13, R14, R108, R115, R399, R407 to R415): a word read from, or written to, any device
address, with the status it completes with, and the data windows. -/
namespace Sys2Proof.Machine

/-- Status, word and state after the access of one word. -/
structure WordDone where
  status : Nat
  data : Word
  st : State

def WordDone.ok (w : Word) (s : State) : WordDone := ⟨stOk, w, s⟩

/-! ## What a register reads as -/

/-- STATE and ENABLE_PENDING as a unit's own status register shows them (R264, R265, R310, R419). -/
def State.unitBits (s : State) (n : Nat) : Nat := s.unit n + 8 * s.get (F.UNIT_STATE_ENABLE_PENDING n)

/-- Offset o of the registers of core n: views of the core's state (R113 to R116), as it stands now (R104), else the register held; while
an AUTO recompute runs, each slot of its bank reads old or new (R149). -/
def State.coreView (s : State) (n o : Nat) : Word :=
  let c := (s.catchUp n).coreAt n
  if o = 0x08 then mkWord [(39, 29, c.rep), (28, 16, c.pc), (2, 0, c.state)]
  else if 0x80 ≤ o ∧ o < 0xB0 then BitVec.ofNat 64 (c.cnt.getD ((o - 0x80) / 8) 0)
  else if 0x180 ≤ o ∧ o < 0x200 then
    let q := c.queues.getD ((o - 0x180) / 8) {}
    mkWord [(31, 28, q.pushTag), (27, 24, q.popTag), (23, 16, q.flight.length), (15, 8, q.ready.length)]
  else if 0xE00 ≤ o ∧ o < 0xE30 then BitVec.ofNat 64 (s.agAddr n c ((o - 0xE00) / 8))
  else if 0x8000 ≤ o ∧ o < 0x10000 then
    let b := (o - 0x8000) / 0x4000
    let j := (o - 0x8000) % 0x4000 / 8
    mkWord ((List.range 4).map fun i => (16 * i + 15, 16 * i, s.slotVal n b (j / 32) (4 * (j % 32) + i)))
  else s.reg (coreReg n + o)

/-- Records of a stack's pseudo-channel p that await the ledger (R264). -/
def State.ledgerWaits (s : State) (n p : Nat) : Bool :=
  (s.led.inFlight ++ s.led.pending).any fun b => match b with
    | .fieldRow st pc _ _ => st == n && pc == p
    | .mapOut g _ => g == 32 * n + p
    | .trainFail g _ => g == 32 * n + p
    | _ => false

/-- A register of the global control page, the port and controller blocks, the management and the router block, by its device
address (R4, R48, R49, R264, R265, R295, R310, R409, R413, R419, R467). -/
def State.view (s : State) (a : Nat) : Word :=
  let w := s.reg a
  if a < 0x300000001000 then
    let o := a - 0x300000000000
    if o = 0 then s.gradeMask else if o = 8 then s.siteMap0 else if o = 0x10 then s.siteMap1
    else if o = 0x100 then BitVec.ofNat 64 s.now
    else if o = 0x108 then BitVec.ofNat 64 (s.slot % 2 ^ 56)
    else if o = 0x110 then mkWord [(63, 16, s.epoch), (15, 0, s.now % 50000)]
    else if 0x200 ≤ o ∧ o < 0x7D8 then
      let n := (o - 0x200) / 8
      mkWord [(63, 48, unitOfEntry n), (3, 0, s.unitBits n)]
    else w
  else if 0x300000002400 ≤ a ∧ a < 0x300000002600 then
    if (a - 0x300000002400) % 0x100 = 8 then putBits w 2 0 (s.unit (entFar ((a - 0x300000002400) / 0x100))) else w
  else if 0x300000010000 ≤ a ∧ a < 0x30000001C000 then
    let p := (a - 0x300000010000) / 0x1000
    let o := (a - 0x300000010000) % 0x1000
    if o = 0x808 then putBits w 3 0 (s.unitBits (entPort p))
    else if o = 0x828 then mkWord ((List.range 4).map fun t => (16 * t + 15, 16 * t, min (s.drainOf p t) 0xFFFF))
    else w
  else if 0x300000020000 ≤ a ∧ a < 0x300000030000 then
    let n := (a - 0x300000020000) / 0x1000
    if (a - 0x300000020000) % 0x1000 = 8 then putBits w 3 0 (s.unitBits (entMc n))
    else if a = A.MC_REPAIR n then
      mkWord [(63, 48, min (s.fieldRows n).length 0xFFFF), (47, 32, s.get (F.MC_REPAIR_REPAIRS n)),
        (31, 0, (List.range 32).foldl (fun m p => m + boolBit (s.ledgerWaits n p) * 2 ^ p) 0)]
    else w
  else if a = A.MGMT_PROXY then putBits w 39 32 (min (s.rt.mailbox.length + (s.rt.held.filter fun h => h.loc && h.pkt.kind == 0x20).length) 8)
  else if a = A.ID_STATUS then putBits w 63 48 s.idLen
  else if 0x300000040000 ≤ a ∧ a < 0x300000042000 then
    let c := (a - 0x300000040000) / 0x1000
    if (a - 0x300000040000) % 0x1000 = 0x808 then putBits w 3 0 (s.unitBits (entPort (12 + c)))
    else if (a - 0x300000040000) % 0x1000 = 0x818 then BitVec.ofNat 64 (s.ck c).mbox.length
    else w
  else if a = A.RT_DRAIN_SUM then mkWord ((List.range 4).map fun t => (16 * t + 15, 16 * t, min (s.drainSum t) 0xFFFF))
  else w

/-! ## Writes to registers without behaviour of their own (R14) -/

/-- RW and RWL fields are set, W1C bits cleared, the rest ignored; RWL fields are locked once the module has left TRAIN. -/
def State.fieldWrite (s : State) (a : Nat) (v : Word) : State :=
  match rowAt a with
  | none => s
  | some r =>
    let m := BitVec.ofNat 64 (r.rw ||| if s.mstate ≤ msTrain then r.rwl else 0)
    let old := s.reg a
    s.setReg a (((old &&& ~~~ m) ||| (v &&& m)) &&& ~~~ (v &&& BitVec.ofNat 64 r.w1c))

/-! ## Core windows (R108, R115, R411) -/

/-- Core registers whose reads are always served (R108, R115, R228), beside CORE_CTRL. -/
def coreServed (o : Nat) : Bool :=
  o == 0x00 || o == 0x08 || o == 0x18 || o == 0x20 || o == 0x30 || (0x80 ≤ o && o < 0xB0) || (0x180 ≤ o && o < 0x200)
    || (0x200 ≤ o && o < 0x400) || (0xE00 ≤ o && o < 0xE30) || o == 0xF10 || o == 0xF18

/-- A CORE_CTRL write (R107, R113). -/
def State.coreCtrl (s : State) (n : Nat) (v : Word) : State :=
  let s1 := s.set (F.CORE_CTRL_MODE n) (bits v 2 2)
  if bits v 1 1 = 1 then coreStop n s1 else if bits v 0 0 = 1 then coreRun n s1 else s1

/-- A write of a core register, the core neither RUNNING nor WAITING. QCFG.DEPTH reads as 4 to 64 whatever is written (R113); SCALE_CFG0 and
scale entry 0 are fixed (R149, R156). -/
def State.coreRegWrite (s : State) (n o : Nat) (v : Word) : WordDone :=
  let c := s.coreAt n
  let refuse : WordDone := ⟨stRejected, 0, s.hostReject n⟩
  if o = 0 then .ok 0 (s.coreCtrl n v)
  else if 0x100 ≤ o ∧ o < 0x180 then
    (if c.state = 0 then .ok 0 (s.fieldWrite (coreReg n + o) (putBits v 6 0 (max 4 (min 64 (bits v 6 0))))) else refuse)
  else if 0x200 ≤ o ∧ o < 0x400 then (if c.state = 3 then refuse else .ok 0 (s.fieldWrite (coreReg n + o) v))
  else if o = 0x1000 then
    let s1 := s.fieldWrite (coreReg n + o) v
    .ok 0 (if bits v 0 0 = 1 then commitNow n s1 else s1)
  else if o = 0x1100 then .ok 0 s
  else if o = 0x1800 then .ok 0 (accFlagsClear n (bits v 31 0) (bits v 63 32) s)
  else if 0x8000 ≤ o ∧ o < 0x10000 then
    if s.on (F.CONV_STATUS_AUTO_BUSY n) then .ok 0 (s.bump (F.CONV_STATUS_WRITE_DROP n))
    else if (o - 0x8000) % 0x4000 < 0x100 then .ok 0 s
    else .ok 0 (s.setReg (coreReg n + o) (v &&& 0x0FFF0FFF0FFF0FFF))
  else .ok 0 (s.fieldWrite (coreReg n + o) v)

/-- A word of the window of core n, at offset o of it. -/
def State.coreWord (s : State) (n o a : Nat) (v : Option Word) : WordDone :=
  let mem := o < 0xA00000 || (0xC00000 ≤ o && o < 0xC40000)
  if s.siteEnabled n = false then
    ⟨stAbsent, (if v.isNone then BitVec.ofNat 64 s.gradeCode else 0), s.absentUnit (unitCore n) a⟩
  else if mem = false ∧ o < 0xF00000 then ⟨stUnmapped, 0, s⟩
  else if s.serves (entCore n) = false then ⟨stRetired, 0, s.retired (entCore n)⟩
  else
    let busy := (s.coreAt n).state == 1 || (s.coreAt n).state == 2
    let known := mem || (rowAt a).isSome
    let ro := o - 0xF00000
    let refuse := busy && known && (match v with
      | none => mem || !coreServed ro
      | some _ => mem || ro != 0)
    if refuse = true then ⟨stRejected, 0, s.hostReject n⟩
    else if mem = true then
      let at_ := n * 0x1000000 + o
      match v with
      | none => .ok (wordAt (s.core.load at_ 8) 0) s
      | some w => .ok 0 { s with core := s.core.store at_ (bytesOf 8 w.toNat) }
    else match v with
      | none => .ok (if known then s.coreView n ro else 0) (if 0x8000 ≤ ro ∧ ro < 0x10000 then s.fresh.2 else s)
      | some w => if known then s.coreRegWrite n ro w else .ok 0 s

/-! ## The other blocks: writes with behaviour -/

/-- ENABLE and DRAIN in one write: the drain comes first. `source` as in ENABLE_DEFERRED (R468). -/
def State.unitCtrl (s : State) (n source : Nat) (enable drain : Bool) : State :=
  let s1 := if drain then s.drainUnit n else s
  if enable then s1.enableUnit n source else s1

/-- The global control page (R51, R412, R414). -/
def State.pageWrite (s : State) (o : Nat) (v : Word) : State :=
  if o = 0x128 then cadLoad (bits v 47 0) s
  else if 0x200 ≤ o ∧ o < 0x7D8 then s.unitCtrl ((o - 0x200) / 8) 1 (bits v 4 4 == 1) (bits v 5 5 == 1)
  else s.fieldWrite (pageReg + o) v

/-- A write the sequencer's lock refuses (R207). -/
def State.seqLocked (s : State) (ok : Bool) (a : Nat) (v : Word) : State :=
  if ok then s.fieldWrite a v else s.bump F.SEQ_ERR_WRITE_DROP

/-- The step sequencer block (R199, R202, R203, R207, R213, R221). In SEQ_CTRL, HOLD is written in every state; AUTO_NEXT and
APPLY_MODE only as configuration, and a write that would change them otherwise counts as ignored. -/
def State.seqWrite (s : State) (o : Nat) (v : Word) : State :=
  let a := seqReg + o
  let free := s.seqIdle
  let quiet := free && !s.on F.SEQ_RETAIN_APPLY_PENDING
  if o = 0x000 then
    let s1 := s.set F.SEQ_CTRL_HOLD (bits v 2 2)
    let s2 := if free then (s1.set F.SEQ_CTRL_AUTO_NEXT (bits v 1 1)).set F.SEQ_CTRL_APPLY_MODE (bits v 0 0)
      else if bits v 1 0 ≠ bits (s.reg a) 1 0 then s1.bump F.SEQ_ERR_WRITE_DROP else s1
    if bits v 3 3 = 1 then resumeApply s2 else s2
  else if o = 0x010 then s.seqLocked quiet a v
  else if o = 0x018 then
    if bits v 63 63 = 1 then seqStartArm (bits v 55 0) s else s.fieldWrite a v
  else if o = 0x0A0 then (if bits v 63 63 = 1 then seqMark (bits v 16 16 == 1) (bits v 15 0) s else s)
  else if a = A.SEQ_INPUT then s.fieldWrite a v
  else match rowAt a with
    | some r => if r.rw = 0 then s.fieldWrite a v else s.seqLocked (if 0x400 ≤ o then quiet else free) a v
    | none => s

/-- Far-memory ports (R260, R265): RETRAIN of a DOWN link. -/
def State.farWrite (s : State) (p o : Nat) (v : Word) : State :=
  if o = 0 ∧ bits v 0 0 = 1 ∧ s.unit (entFar p) = usDown then s.setUnit (entFar p) usStarting else s

/-- Registers of a port at the offsets of R392: RETRAIN and OPT_CMD act, the staged pairs are not written from Colok. -/
def State.optWrite (s : State) (p o : Nat) (v : Word) : State :=
  let a := optReg p + o
  if a = A.OPT_CTRL p then
    let s1 := s.fieldWrite a v
    if bits v 0 0 = 1 then retrain p s1 else s1
  else if a = A.OPT_CMD p then
    let act := bits v 62 60
    let lane := bits v 3 0
    if bits v 63 63 = 1 ∧ ((act = 1 ∧ lane < 8 ∧ p < 12) ∨ (act = 2 ∧ p < 12) ∨ act = 3) then optCmd p act lane s else s
  else if o = 0x050 ∨ o = 0x058 ∨ o = 0x060 ∨ o = 0x068 then s
  else s.fieldWrite a v

/-- A Spoke port block (R310, R392). -/
def State.spkWrite (s : State) (p o : Nat) (v : Word) : State :=
  if o = 0x800 then s.unitCtrl (entPort p) 2 (bits v 1 1 == 1) (bits v 0 0 == 1) else s.optWrite p o v

/-- A memory-controller block (R263, R264): the staged pairs are not written from Colok. -/
def State.mcWrite (s : State) (n o : Nat) (v : Word) : State :=
  if o = 0 then s.unitCtrl (entMc n) 2 (bits v 1 1 == 1) (bits v 0 0 == 1)
  else if 0x018 ≤ o ∧ o ≤ 0x040 then s
  else s.fieldWrite (mcReg n + o) v

/-- RST_CTRL (R461, R467). -/
def State.rstCtrl (s : State) (domain i : Nat) : State :=
  match domain with
  | 0 => moduleReset false true s
  | 1 => computeReset s
  | 2 => if i < 100 then coreReset i s else s
  | 3 => if i < 16 then stackReset i s else s
  | 4 => if i < 14 then (s.resetPort i).rstStatus 4 2 s.epoch else s
  | 5 => managementReset true s
  | _ => s

/-- The management block (R416, R466, R467). -/
def State.mgmtWrite (s : State) (a : Nat) (v : Word) : State :=
  if a = A.PWR_CTRL then
    if bits v 2 2 = 1 then s.powerReset 5 s.pwr.vin else if bits v 1 1 = 1 then retireRequest s else s
  else if a = A.RST_CTRL then (if bits v 63 63 = 1 then s.rstCtrl (bits v 10 8) (bits v 7 0) else s)
  else if a = A.JOIN_CTRL then (if bits v 0 0 = 1 then admitModule s else s)
  else if a = A.FL_CTRL then
    if bits v 63 63 = 1 ∧ 1 ≤ bits v 58 56 ∧ bits v 58 56 ≤ 4 then s.flashCtrl (bits v 58 56) (bits v 0 0) else s
  else if a = A.FL_DATA then flDataWrite v s
  else if a = A.ID_CTRL then
    if bits v 63 63 = 1 ∧ (bits v 62 60 = 1 ∨ bits v 62 60 = 2) then s.idStart (bits v 62 60) else s
  else if a = A.ID_DATA then s.idWrite v
  else if a = A.PWR_THR_NEXT ∨ a = A.PWR_THR_ACT then s
  else s.fieldWrite a v

/-- A table of a bank accepts writes only while the bank is FREE (R292). -/
def State.bankWrite (s : State) (b a : Nat) (v : Word) : State :=
  if s.bankState b = 0 then s.fieldWrite a v else s.bump F.RT_BANK_STATUS_WRITE_DROP

/-- The router block (R292 to R294, R309). -/
def State.rtWrite (s : State) (o : Nat) (v : Word) : State :=
  let a := rtReg + o
  if a = A.RT_NODE_ID then (if s.mstate = msJoin then s.fieldWrite a v else s)
  else if a = A.RT_SEND_ACT then s.armStaged a (bits v 55 0) (bits v 63 63 == 1)
  else if a = A.RT_BANK_CTRL then
    let b := bits v 8 8
    let s1 := if bits v 63 63 = 1 then bankCommit b (bits v 1 0) s else s
    if bits v 62 62 = 1 then bankDiscard b s1 else s1
  else if 0x100 ≤ o ∧ o < 0x500 then s.bankWrite ((o - 0x100) / 0x200) a v
  else if 0x800 ≤ o ∧ o < 0x900 then s.bankWrite ((o - 0x800) / 0x80) a v
  else if 0x10000 ≤ o ∧ o < 0x50000 then s.bankWrite ((o - 0x10000) / 0x20000) a v
  else s.fieldWrite a v

/-- A write of a context's registers while the context is not IDLE is ignored and counted (R320, R352). -/
def State.ctxLocked (s : State) (c a : Nat) (v : Word) : State :=
  if s.cxState c = 0 then s.fieldWrite a v else s.bump F.COLL_ERR_WRITE_DROP

/-- The collective block (R316, R317, R320, R352, R353). -/
def State.collWrite (s : State) (o : Nat) (v : Word) : State :=
  let a := collReg + o
  if o = 0 then
    if s.get F.COLL_LAYOUT_OPEN = 0 ∧ ((List.range 16).any fun c => s.cxActive c kCaravan) = false then s.fieldWrite a v
    else s.bump F.COLL_ERR_WRITE_DROP
  else if 0x800 ≤ o ∧ o < 0x1800 then
    let c := (o - 0x800) / 0x100
    if a = A.RC_START c then
      if bits v 62 62 = 1 then rcAbort c (s.set (F.RC_START_START c) (bits v 55 0))
      else if bits v 63 63 = 1 then rcArm c (bits v 55 0) s
      else s.fieldWrite a v
    else if a = A.RC_ARR c then s.fieldWrite a v
    else match rowAt a with
      | some r => if r.rw = 0 then s else s.ctxLocked c a v
      | none => s
  else if 0x20000 ≤ o ∧ o < 0x40000 then s.ctxLocked ((o - 0x20000) / 0x2000) a v
  else s.fieldWrite a v

/-- The row-engine block of die d (R180, R183, R185); a start reaches no engine that is DOWN (R463). -/
def State.reWriteReg (s : State) (d o : Nat) (v : Word) : WordDone :=
  let a := reReg d + o
  if o = 0 then
    let s1 := if bits v 8 8 = 1 then reSelftest d s else s
    if bits v 4 4 = 1 then
      (if s1.serves (entRe d) then .ok 0 (s1.reStart d (bits v 3 0)) else ⟨stRetired, 0, s1.retired (entRe d)⟩)
    else .ok 0 s1
  else if 0x100 ≤ o ∧ o < 0x500 then
    match s.get (F.RE_STATUS_STATE d) with
    | 0 => .ok 0 (s.fieldWrite a v)
    | 1 => .ok 0 (if (rowAt a).isSome then s.bump (F.RE_ERR_WRITE_DROP d) else s)
    | _ => .ok 0 s
  else .ok 0 (s.fieldWrite a v)

/-! ## Windows (R407, R408) -/

/-- Port and window of a window register's address, and its offset in the window. -/
def windowAt (a : Nat) : Option (Nat × Nat × Nat) :=
  if 0x300000040000 ≤ a ∧ a < 0x300000042000 then
    let o := (a - 0x300000040000) % 0x1000
    if 0xC00 ≤ o ∧ o < 0xD00 ∧ o % 0x40 < 0x20 then some ((a - 0x300000040000) / 0x1000, (o - 0xC00) / 0x40, o % 0x40) else none
  else none

/-- DW_ADDR_WRITE (R407). -/
def State.dwAddr (s : State) (c w : Nat) (v : Word) : State := (s.fieldWrite (A.DW_ADDR c w) v).setReg (A.DW_COUNT c w) 0

/-- After an access: the address steps by INC, the low 3 bits ignored; WORDS counts, and ERRS an access that was not OK. -/
def State.dwStep (s : State) (c w status : Nat) : State :=
  let inc := signed 16 (s.get (F.DW_CTRL_INC c w) / 8 * 8)
  let s1 := s.set (F.DW_ADDR_ADDR c w) (unsigned 48 (Int.ofNat (s.get (F.DW_ADDR_ADDR c w)) + inc))
  let s2 := s1.wrapAdd (F.DW_COUNT_WORDS c w) 1
  if status = stOk then s2 else s2.bump (F.DW_COUNT_ERRS c w)

/-! ## One word -/

/-- Ranges of registers (R410). -/
def isRegister (a : Nat) : Bool :=
  (0x300000000000 ≤ a && a < 0x30000001C000) || (0x300000020000 ≤ a && a < 0x300000042000)
    || (0x300001000000 ≤ a && a < 0x300001200000) || (0x300002000000 ≤ a && a < 0x300003000000)

/-- Side memory in the block of a row engine (R179), read only. -/
def isSideMemory (a : Nat) : Bool := 0x300002000000 ≤ a && a < 0x300003000000 && 0x200000 ≤ a % 0x400000

/-- A word of side memory at its register address (R179). -/
def State.sideWord (s : State) (a : Nat) : Word :=
  wordAt (s.side.load ((a - 0x300002000000) / 0x400000 * 0x200000 + a % 0x200000) 8) 0

/-- What the recovery service serves (R451): the management block, GRADE_MASK, FAULT_HEAD and the fault ring. -/
def recoveryServes (a : Nat) : Bool :=
  (0x300000030000 ≤ a && a < 0x300000040000) || a == A.GRADE_MASK || a == A.FAULT_HEAD
    || (0x300000008000 ≤ a && a < 0x300000010000)

/-- A register written, by its block. -/
def State.regWrite (s : State) (a : Nat) (v : Word) : WordDone :=
  if a < 0x300000001000 then .ok 0 (s.pageWrite (a - pageReg) v)
  else if a < 0x300000002000 then .ok 0 (s.seqWrite (a - seqReg) v)
  else if a < 0x300000002400 then
    .ok 0 (if a = A.MAP_CTRL then (if bits v 0 0 = 1 then mapLoad s else s) else s.fieldWrite a v)
  else if a < 0x300000002600 then .ok 0 (s.farWrite ((a - 0x300000002400) / 0x100) (a % 0x100) v)
  else if a < 0x300000010000 then .ok 0 s
  else if a < 0x30000001C000 then .ok 0 (s.spkWrite ((a - 0x300000010000) / 0x1000) (a % 0x1000) v)
  else if a < 0x300000030000 then .ok 0 (s.mcWrite ((a - 0x300000020000) / 0x1000) (a % 0x1000) v)
  else if a < 0x300000040000 then .ok 0 (s.mgmtWrite a v)
  else if a < 0x300000042000 then
    let c := (a - 0x300000040000) / 0x1000
    if a % 0x1000 = 0x800 then
      let s1 := s.unitCtrl (entPort (12 + c)) 2 (bits v 1 1 == 1) (bits v 0 0 == 1)
      .ok 0 (if bits v 2 2 = 1 then retrain (12 + c) s1 else s1)
    else match windowAt a with
      | some (c, w, 0) => .ok 0 (s.dwAddr c w v)
      | _ => .ok 0 (s.optWrite (12 + c) (a % 0x1000) v)
  else if a < 0x300001100000 then .ok 0 (s.rtWrite (a - rtReg) v)
  else if a < 0x300002000000 then .ok 0 (s.collWrite (a - collReg) v)
  else s.reWriteReg ((a - 0x300002000000) / 0x400000) ((a - 0x300002000000) % 0x400000) v

/-- A word at a device address, v written or (none) read, for requester o (R399, R410). A window's data register is reached through
`State.devWord`; where windows point at each other in a circle, a read gives a free value and a write is ignored. -/
def State.word (s : State) (o : Origin) (a : Nat) (v : Option Word) : WordDone :=
  if s.boot.recovery ∧ recoveryServes a = false then ⟨stRetired, 0, s⟩
  else if 0x200000000000 ≤ a ∧ a < 0x200064000000 then
    s.coreWord ((a - 0x200000000000) / 0x1000000) ((a - 0x200000000000) % 0x1000000) a v
  else if isRegister a = true then
    if s.fuse.s0 ∧ 0x300000002400 ≤ a ∧ a < 0x300000002600 then
      ⟨stAbsent, (if v.isNone then BitVec.ofNat 64 s.gradeCode else 0),
        s.absentUnit (unitFar ((a - 0x300000002400) / 0x100)) a⟩
    else match v with
      | some w => if (rowAt a).isSome ∧ (∀ x ∈ windowAt a, x.2.2 ≠ 0x10) then s.regWrite a w else .ok 0 s
      | none =>
        match windowAt a with
        | some (_, _, 0x10) => .ok s.fresh.1 s.fresh.2
        | _ =>
          if a = A.ID_DATA then .ok s.idRead.1 s.idRead.2
          else if isSideMemory a = true then .ok (s.sideWord a) s
          else .ok (if (rowAt a).isSome then s.view a else 0) s
  else
    let mem := fun (s : State) => match v with
      | none => s.memAccess o a (.read 8)
      | some w => s.memAccess o a (.write (bytesOf 8 w.toNat))
    match s.place a, v with
    | .stage d off, some w =>
      if s.serves (entStage d) then .ok 0 (s.stageWrite d off (bytesOf 8 w.toNat)) else ⟨stRetired, 0, s.retired (entStage d)⟩
    | _, _ => let r := mem s; ⟨r.status, wordAt r.data 0, r.st⟩

/-- A word at a device address, through up to n windows where it is a window's data register (R407, R408). -/
def State.through (s : State) (o : Origin) (a : Nat) (v : Option Word) : Nat → WordDone
  | 0 => s.word o a v
  | n + 1 =>
    match windowAt a with
    | some (c, w, 0x10) =>
      if s.boot.recovery then ⟨stRetired, 0, s⟩
      else
        let r := s.through o (s.get (F.DW_ADDR_ADDR c w) / 8 * 8) v n
        ⟨r.status, r.data, r.st.dwStep c w r.status⟩
    | _ => s.word o a v

/-- A word at a device address (R407). A window may point at another; the module has eight, so a longer way is a circle, which moves no
word. -/
def State.devWord (s : State) (o : Origin) (a : Nat) (v : Option Word) : WordDone := s.through o a v 8

/-- The requester of a Colok port (R406). -/
def colokOrigin (c : Nat) : Origin := ⟨2 * c, 30⟩

/-- Count a status in the port's counters (R410, R419). -/
def State.countStatus (s : State) (c status : Nat) : State :=
  match status with
  | 1 => s.bump (F.COLOK_STAT_BUSY c)
  | 3 => s.bump (F.COLOK_STAT2_REJECTED c)
  | 5 => s.bump (F.COLOK_STAT_UNMAPPED c)
  | 6 => s.bump (F.COLOK_STAT2_MALFORMED c)
  | 7 => s.bump (F.COLOK_STAT2_TIMEOUT c)
  | _ => s

/-! ## The commands -/

/-- One word from port c: the access, and its status counted (R399, R410). -/
def State.portWord (s : State) (c a : Nat) (v : Option Word) : State :=
  let r := s.devWord (colokOrigin c) a v
  r.st.countStatus c r.status

/-- REGISTER_WRITE (R14): a word written from port A; an address that is no word's is MALFORMED, and not run (R399). -/
def registerWrite (addr : Nat) (v : Word) (s : State) : State :=
  if 2 ^ 48 ≤ addr then s else if addr % 8 ≠ 0 then s.countStatus 0 stMalformed else s.portWord 0 addr (some v)

def execRegisterWrite (addr : Nat) (v : Word) (s : State) : Out := live s (registerWrite addr v)

/-- DW_ADDR_WRITE (R407). -/
def execDwAddrWrite (port win : Nat) (v : Word) (s : State) : Out :=
  lively s port 2 fun s => if win < 4 then s.portWord port (A.DW_ADDR port win) (some v) else s

/-- DW_DATA_WRITE (R407, R408): a frame of one word, which is a request of its own. -/
def execDwDataWrite (port win : Nat) (v : Word) (s : State) : Out :=
  lively s port 2 fun s => if win < 4 then s.portWord port (A.DW_DATA port win) (some v) else s

/-- DW_DATA_READ (R407). -/
def execDwDataRead (port win : Nat) (s : State) : Out :=
  lively s port 2 fun s => if win < 4 then s.portWord port (A.DW_DATA port win) none else s

end Sys2Proof.Machine
end

