-- ==== Sys2Proof/Machine/Colok.lean ====
section
/-! DEFINITION. The Colok protocol (R396 to R406), the proxy through the fabric (R409), and the loss of a Colok link (R401). Colok
ports are 0 (A) and 1 (B) here. -/
namespace Sys2Proof.Machine

/-! ## Frames (R397) -/

/-- One byte of the IEEE 802.3 CRC-32, least significant bit first. -/
def crc32Byte (c : Nat) (b : Byte) : Nat :=
  (List.range 8).foldl (fun c _ => if c % 2 = 1 then (c / 2) ^^^ 0xEDB88320 else c / 2) (c ^^^ b.toNat)

/-- The IEEE 802.3 CRC-32 of bytes in transmission order. -/
def crc32 (bs : List Byte) : Nat := bs.foldl crc32Byte 0xFFFFFFFF ^^^ 0xFFFFFFFF

end Sys2Proof.Machine
namespace Sys2Proof
open Sys2Proof.Machine

/-- The CRC of a frame's trailer: over the header and payload chunks, the last chunk padded with zero. -/
def Frame.sum (f : Frame) : Nat :=
  let n := f.payload.length
  crc32 (bytesOfWords ([f.w0, f.w1, f.w2, f.w3] ++ f.payload ++ List.replicate ((4 - n % 4) % 4) 0))

def Frame.op (f : Frame) : Nat := bits f.w0 63 60
def Frame.count (f : Frame) : Nat := bits f.w0 54 48
def Frame.addr (f : Frame) : Nat := bits f.w0 47 0
def Frame.seq (f : Frame) : Nat := bits f.w2 63 32
def Frame.ack (f : Frame) : Nat := bits f.w2 31 0

end Sys2Proof
namespace Sys2Proof.Machine

/-- The ACK the module sends: the frame before the one it expects (R397). -/
def State.ckAck (s : State) (c : Nat) : Nat := (s.get (F.COLOK_SEQ_RX_EXPECT c) + 2 ^ 32 - 1) % 2 ^ 32

/-- A frame goes out on the link with the present ACK, its CRC formed. -/
def State.wire (s : State) (c : Nat) (f : Frame) : State :=
  let f1 := { f with w2 := putBits f.w2 31 0 (s.ckAck c) }
  let f2 := { f1 with crc := BitVec.ofNat 32 f1.sum }
  let s1 := { s with sent := s.sent ++ [Egress.frame c f2] }
  s1.setCk c { s1.ck c with sentInSlot := true }

/-- FLOW, and CAPS: frames outside the sequence, their SEQ zero. -/
def State.sendFlow (s : State) (c : Nat) (nak : Bool) : State :=
  s.wire c ⟨0, mkWord [(30, 30, boolBit nak)], 0, 0, [], 0⟩

/-- The module's capability word (R402). -/
def State.ckCaps (s : State) : Word := mkWord [(63, 56, 3), (55, 48, 1), (47, 16, colokTab), (15, 0, s.gradeCode)]

def State.sendCaps (s : State) (c : Nat) : State :=
  let s1 := s.wire c ⟨mkWord [(63, 60, 9)], 0, 0, s.ckCaps, [], 0⟩
  s1.setCk c { s1.ck c with capsSent := true }

/-- Send the next frame held back while fewer than 64 are unacknowledged (R400); n bounds how many. -/
def State.drainOut (s : State) (c : Nat) : Nat → State
  | 0 => s
  | n + 1 =>
    let k := s.ck c
    match k.outq with
    | [] => s
    | f :: rest =>
      if 64 ≤ k.unacked.length then s
      else
        let f1 := { f with w2 := putBits f.w2 63 32 (s.get (F.COLOK_SEQ_TX_NEXT c)) }
        let s1 := s.setCk c { k with outq := rest, unacked := k.unacked ++ [f1],
                                     ackTick := if k.unacked.isEmpty then s.now else k.ackTick }
        ((s1.wire c f1).wrapAdd (F.COLOK_SEQ_TX_NEXT c) 1).drainOut c n

/-- A frame of the sequence is formed. -/
def State.emit (s : State) (c : Nat) (f : Frame) : State :=
  let s1 := s.setCk c { s.ck c with outq := (s.ck c).outq ++ [f] }
  s1.drainOut c (s1.ck c).outq.length

/-- Resend from the oldest frame outstanding (R400). -/
def State.resendAll (s : State) (c : Nat) : State :=
  let s1 := (s.ck c).unacked.foldl (fun s f => (s.wire c f).bump (F.COLOK_STAT_RESENT c)) s
  s1.setCk c { s1.ck c with ackTick := s.now }

/-- An ACK arrives (R400): frames up to it leave the window, and frames held back go out. -/
def State.ackIn (s : State) (c ack : Nat) : State :=
  let k := s.ck c
  let left := k.unacked.filter fun f => 2 ^ 31 ≤ (ack + 2 ^ 32 - f.seq) % 2 ^ 32
  let s1 := if left.length = k.unacked.length then s else s.setCk c { k with unacked := left, ackTick := s.now }
  s1.drainOut c (s1.ck c).outq.length

/-! ## Responses (R399, R404) -/

/-- The header of a RESP. -/
def respFrame (tag addr status operand : Nat) (data : List Word) : Frame :=
  ⟨mkWord [(63, 60, 8), (59, 56, status), (54, 48, data.length), (47, 0, addr)], mkWord [(63, 48, tag)], 0,
    BitVec.ofNat 64 operand, data, 0⟩

/-- Answer a request. -/
def State.respond (s : State) (c tag addr status operand : Nat) (data : List Word) : State :=
  (s.countStatus c status).emit c (respFrame tag addr status operand data)

/-- No word failed (R398). -/
def noWord : Nat := 0xFFFFFFFF

/-! ## Running a request (R398, R399, R404) -/

/-- The address of word i: a stream at a window's data register stays there. -/
def streamAddr (addr i : Nat) : Nat :=
  match windowAt addr with
  | some (_, _, 0x10) => addr
  | _ => (addr + 8 * i) % 2 ^ 48

/-- Memory, for R404: near, far and staging memory, a core's memories, and a window's data register. -/
def memAddr (a : Nat) : Bool :=
  isMemory a || (0x310000000000 ≤ a && a < 0x310002000000)
    || (0x200000000000 ≤ a && a < 0x200064000000 && (let o := a % 0x1000000; o < 0xA00000 || (0xC00000 ≤ o && o < 0xC40000)))
    || (match windowAt a with
        | some (_, _, 0x10) => true
        | _ => false)

/-- A request that may be in progress beside others (R404). -/
def Request.mem (r : Request) : Bool := r.op != 5 && (List.range r.count).all fun i => memAddr (streamAddr r.addr i)

/-- A SIGNAL of the control node (R342, R343, R398): SOURCE 4; R108 does not refuse it. -/
def State.ckSignal (s : State) (a inc : Nat) : WordDone :=
  let n := (a - 0x200000000000) / 0x1000000
  if s.boot.recovery then ⟨stRetired, 0, s⟩
  else if s.siteEnabled n = false then ⟨stAbsent, 0, s.absentUnit (unitCore n) a⟩
  else if s.serves (entCore n) = false then ⟨stRetired, 0, s.retired (entCore n)⟩
  else .ok 0 (s.addCounter n ((a % 0x1000000 - 0xF00200) / 8) inc 4)

/-- A request that runs: the state, the status and index of the first word not OK, and the words read. -/
abbrev Running := State × Nat × Nat × List Word

/-- The request goes on: words from index i on have completed with a status, and have read `data`. -/
def Running.next (x : Running) (s : State) (i status : Nat) (data : List Word) : Running :=
  (s, if x.2.1 = stOk then status else x.2.1, if x.2.1 = stOk ∧ status ≠ stOk then i else x.2.2.1, x.2.2.2 ++ data)

def Request.writes (r : Request) : Bool := r.op == 1 || r.op == 3

/-- Word i of a request runs. -/
def Running.word (x : Running) (o : Origin) (r : Request) (i : Nat) : Running :=
  let d := x.1.devWord o (streamAddr r.addr i) (if r.writes then some (r.words.getD i 0) else none)
  x.next d.st i d.status (if r.writes then [] else [d.data])

/-- Words of a DW_DATA stream that lie in one granule run as one request (R408): n words from index i on, at address a. -/
def Running.granule (x : Running) (o : Origin) (r : Request) (c w a i n : Nat) : Running :=
  if isMemory a then
    let d := x.1.memAccess o a (if r.writes then .write (bytesOfWords ((List.range n).map fun k => r.words.getD (i + k) 0)) else .read (8 * n))
    x.next (d.st.forN n fun s _ => s.dwStep c w d.status) i d.status (if r.writes then [] else wordsOfBytes d.data)
  else (List.range n).foldl (fun x k => x.word o r (i + k)) x

/-- Run the words of a request; a stream of a window whose INC is 8 merges its words into granules (R408). -/
def State.runWords (s : State) (o : Origin) (r : Request) : Running :=
  if r.op = 5 then
    let d := s.ckSignal r.addr (bits r.operand 15 0)
    (d.st, d.status, if d.status = stOk then noWord else 0, [])
  else
    match windowAt r.addr with
    | some (c, w, 0x10) =>
      if (r.op = 3 ∨ r.op = 4) ∧ s.get (F.DW_CTRL_INC c w) = 8 ∧ s.boot.recovery = false then
        let a := s.get (F.DW_ADDR_ADDR c w) / 8 * 8
        (granules a (8 * r.count)).foldl (fun x g => x.granule o r c w g.1 ((g.1 - a) / 8) (g.2 / 8)) (s, stOk, noWord, [])
      else (List.range r.count).foldl (fun x i => x.word o r i) (s, stOk, noWord, [])
    | _ => (List.range r.count).foldl (fun x i => x.word o r i) (s, stOk, noWord, [])

/-- The data of a read that completes RETIRED: zero (R399). -/
def Request.zeros (r : Request) : List Word := if r.op = 2 ∨ r.op = 4 then List.replicate r.count 0 else []

/-! ## The proxy (R409) -/

/-- Words as the payload of a MGMT_REQ or MGMT_RESP. -/
def mgmtPayload (f : Frame) (count : Nat) : List Byte :=
  padTo ((32 + 8 * count + 31) / 32 * 32) (bytesOfWords ([f.w0, f.w1, f.w2, f.w3] ++ f.payload))

/-- A MGMT packet finds a route (R276). -/
def State.mgmtRoutes (s : State) (dst : Nat) : Bool :=
  match s.sendBank with
  | none => false
  | some b => (dst == s.get F.RT_NODE_ID_ID && s.on F.RT_NODE_ID_VALID) || (routeOut (s.routeEntry b dst) 0).isSome

def State.sendMgmt (s : State) (die kind dst addr : Nat) (f : Frame) (count : Nat) : State :=
  s.sendLocal die { dst := dst, kind := kind, vc := 3, w2 := BitVec.ofNat 64 addr, payload := mgmtPayload f count }

/-- The header and payload words of a request, as a MGMT_REQ carries them. -/
def Request.frame (r : Request) : Frame := ⟨r.w0, r.w1, r.w2, r.operand, r.words, 0⟩

/-! ## The mailbox (R403, R404) -/

/-- Request i of the mailbox may run: a memory request once only memory requests stand before it, any other once none does. -/
def ckMayRun (l : List Request) (i : Nat) : Bool :=
  match l[i]? with
  | none => false
  | some r => if r.mem then (l.take i).all Request.mem else i == 0

/-- Remove request i and answer it, unless its link has been lost (R401). -/
def State.finishRequest (s : State) (c i : Nat) (r : Request) (status operand : Nat) (data : List Word) : State :=
  let s1 := s.setCk c { s.ck c with mbox := (s.ck c).mbox.eraseIdx i }
  if r.mute then s1.countStatus c status else s1.respond c r.tag r.addr status operand data

/-- Forward the proxied request i, or answer RETIRED where the module is not in SERVICE or finds no route (R409). -/
def State.forwardOne (s : State) (c i : Nat) (r : Request) : State :=
  let dst := r.proxy.getD 0
  let s1 := if s.mstate = msService ∧ s.sendBank.isSome then s.sendMgmt (2 * c) 0x20 dst r.addr r.frame r.count else s
  if s.mstate = msService ∧ s.mgmtRoutes dst = true then
    s1.setCk c { s1.ck c with mbox := (s1.ck c).mbox.set i { r with started := true, sentAt := s.now } }
  else s1.finishRequest c i r stRetired 0 r.zeros

/-- Start every proxied request that may start; n bounds how many. -/
def State.forwardAll (s : State) (c : Nat) : Nat → State
  | 0 => s
  | n + 1 =>
    let l := (s.ck c).mbox
    match (List.range l.length).find? fun i => (l[i]?.any fun r => r.proxy.isSome && !r.started) && ckMayRun l i with
    | none => s
    | some i =>
      match l[i]? with
      | none => s
      | some r => (s.forwardOne c i r).forwardAll c n

/-- REQUEST_COMPLETE (R404): request i of the mailbox runs and its RESP goes out. A request that resets its own port, the module or
the power domain gets none (R462): its mailbox is gone. -/
def requestComplete (c i : Nat) (s : State) : State :=
  let l := (s.ck c).mbox
  match l[i]? with
  | none => s
  | some r =>
    if r.proxy.isSome ∨ ckMayRun l i = false then s
    else
      let (s1, status, idx, data) := s.runWords (colokOrigin c) r
      match (s1.ck c).mbox[i]? with
      | none => s1
      | some r1 => (s1.finishRequest c i r1 status idx data).forwardAll c 32

def execRequestComplete (port idx : Nat) (s : State) : Out := lively s port 2 (requestComplete port idx)

/-! ## Arrival (R399, R400, R402, R403) -/

/-- The agreed major (R402). -/
def State.ckMajor (s : State) (c : Nat) : Nat := s.get (F.COLOK_STATE_MAJOR c)

/-- The largest COUNT of a stream: 32 under major 2 (R402). -/
def State.countLimit (s : State) (c : Nat) : Nat := if s.ckMajor c = 2 then 32 else 96

/-- COUNT within the range of its operation (R398). -/
def countOk (limit op n : Nat) : Bool :=
  match op with
  | 1 => n == 1
  | 2 => n == 1
  | 3 => 1 ≤ n && n ≤ limit
  | 4 => 1 ≤ n && n ≤ limit
  | 5 => n == 0
  | _ => false

/-- A SIGNAL names CNT16 to CNT23 of a core (R398). -/
def signalAddr (a : Nat) : Bool :=
  0x200000000000 ≤ a && a < 0x200064000000 && 0xF00280 ≤ a % 0x1000000 && a % 0x1000000 ≤ 0xF002B8

/-- An access of a request reaches a window's data register. -/
def Request.touchesWindow (r : Request) : Bool :=
  (List.range r.count).any fun i => match windowAt (streamAddr r.addr i) with
    | some (_, _, 0x10) => true
    | _ => false

/-- What makes a request MALFORMED (R399). -/
def Request.malformed (r : Request) (limit : Nat) : Bool :=
  r.addr % 8 != 0 || !countOk limit r.op r.count || (r.op == 5 && !signalAddr r.addr) || (r.proxy.isSome && r.touchesWindow)

/-- The request of a frame. -/
def frameRequest (f : Frame) : Request :=
  { op := f.op, tag := bits f.w1 63 48, addr := f.addr, count := f.count, words := f.payload.take f.count, operand := f.w3,
    seq := f.seq, proxy := if bits f.w1 31 31 = 1 then some (bits f.w1 47 32) else none, started := false,
    sentAt := 0, mute := false, w0 := f.w0, w1 := f.w1, w2 := f.w2 }

/-- A request that is refused BUSY (R403, R420): at most one COLOK_BUSY record per port and epoch. -/
def State.ckBusy (s : State) (c : Nat) (r : Request) : State :=
  let s1 := s.faultOnce 0x0801 (unitPort (12 + c)) false
    (mkWord [(63, 32, r.seq), (31, 16, r.tag), (15, 8, (s.ck c).mbox.length)])
  s1.respond c r.tag r.addr stBusy 0 []

/-- A request that has been accepted in sequence (R399, R403, R463). Under major 2, where RETRY is ignored, there is no hold-off. -/
def State.requestIn (s : State) (c : Nat) (r : Request) (retry : Bool) : State :=
  let k := s.ck c
  let full := 32 ≤ k.mbox.length
  let two := s.ckMajor c == 2
  if s.unit (entPort (12 + c)) = usDraining then (s.retired (entPort (12 + c))).respond c r.tag r.addr stRetired 0 r.zeros
  else if full ∨ (k.holdoff = true ∧ two = false ∧ retry = false) then
    (s.setCk c { k with holdoff := !two }).ckBusy c r
  else
    let s1 := s.setCk c { k with holdoff := false }
    if r.malformed (s1.countLimit c) then s1.respond c r.tag r.addr stMalformed 0 []
    else (s1.setCk c { s1.ck c with mbox := (s1.ck c).mbox ++ [r] }).forwardAll c 32

/-- A frame is discarded (R400): counted, and NAK sent once. -/
def State.ckDiscard (s : State) (c : Nat) : State :=
  let s1 := s.bump (F.COLOK_STAT_FCS_ERR c)
  if (s1.ck c).nakSent then s1
  else (s1.setCk c { s1.ck c with nakSent := true }).sendFlow c true

/-- A CAPS frame at the end of EQ (R402): the versions are settled, and the port reaches SERVICE, or is refused until it next trains. -/
def State.ckCapsIn (s : State) (c : Nat) (w : Word) : State :=
  let tab := bits w 47 16
  let s1 := s.set (F.COLOK_STATE_FAR_TAB c) tab
  if (s1.ck c).refused then s1
  else match agreeVersion colokTab tab with
  | some (m, n) =>
    let s2 := ((s1.set (F.COLOK_STATE_MAJOR c) m).set (F.COLOK_STATE_MINOR c) n).set (F.COLOK_STATE_VER_VALID c) 1
    let s3 := s2.setCk c { s2.ck c with capsGot := true }
    (if (s3.ck c).capsSent then s3 else s3.sendCaps c).portService (12 + c)
  | none => ((s1.set (F.COLOK_STATE_VER_VALID c) 0).setCk c { s1.ck c with refused := true }).versionRefused (12 + c) 2 0 tab

/-- A frame arrives on a Colok port. -/
def colokFrame (c : Nat) (f : Frame) (s : State) : State :=
  let p := 12 + c
  let good := f.crc == BitVec.ofNat 32 f.sum
  if s.phase p = 6 then
    if good = false then s.bump (F.COLOK_STAT_FCS_ERR c)
    else if f.op = 9 then s.ckCapsIn c f.w3 else s
  else if s.phase p = 7 ∧ (s.unit (entPort p) = usReady ∨ s.unit (entPort p) = usDraining) then
    if good = false then s.ckDiscard c
    else if f.op = 0 then
      let s1 := s.ackIn c f.ack
      if bits f.w1 30 30 = 1 then s1.resendAll c else s1
    else if f.op = 9 then s
    else if f.seq ≠ s.get (F.COLOK_SEQ_RX_EXPECT c) then s.ckDiscard c
    else
      let s1 := s.wrapAdd (F.COLOK_SEQ_RX_EXPECT c) 1
      let s2 := s1.setCk c { s1.ck c with nakSent := false, ackMoved := true }
      let s3 := s2.ackIn c f.ack
      let s4 := if bits f.w1 30 30 = 1 then s3.resendAll c else s3
      s4.requestIn c (frameRequest f) (bits f.w0 55 55 == 1)
  else s

/-- A frame with the operation of its row; WRITE takes the reserved operations too. -/
def frameCmd (port : Nat) (f : Frame) (ops : Nat → Bool) (s : State) : Out :=
  lively s port 2 fun s => if ops f.op then colokFrame port f s else s

def execFlow (port : Nat) (f : Frame) (s : State) : Out := frameCmd port f (· == 0) s
def execWrite (port : Nat) (f : Frame) (s : State) : Out := frameCmd port f (fun o => o == 1 || (6 ≤ o && o != 9)) s
def execRead (port : Nat) (f : Frame) (s : State) : Out := frameCmd port f (· == 2) s
def execWriteStream (port : Nat) (f : Frame) (s : State) : Out := frameCmd port f (· == 3) s
def execReadStream (port : Nat) (f : Frame) (s : State) : Out := frameCmd port f (· == 4) s
def execColokSignal (port : Nat) (f : Frame) (s : State) : Out := frameCmd port f (· == 5) s
def execCaps (port : Nat) (f : Frame) (s : State) : Out := frameCmd port f (· == 9) s

/-- COLOK_RESEND_TIMEOUT (R400): 16 slots without an advance of ACK. -/
def colokResendTimeout (c : Nat) (s : State) : State :=
  let k := s.ck c
  if s.phase (12 + c) = 7 ∧ k.unacked.isEmpty = false ∧ k.ackTick + 4096 ≤ s.now then s.resendAll c else s

def execColokResendTimeout (port : Nat) (s : State) : Out := lively s port 2 (colokResendTimeout port)

/-- A slot of a Colok port ends (R400, R402): CAPS until one has come, FLOW where ACK has advanced and no other frame went. -/
def State.colokSlot (s : State) (c : Nat) : State :=
  let k := s.ck c
  let s1 := if s.phase (12 + c) = 6 ∧ k.capsGot = false then s.sendCaps c
    else if s.phase (12 + c) = 7 ∧ k.ackMoved = true ∧ k.sentInSlot = false then s.sendFlow c false
    else s
  s1.setCk c { s1.ck c with ackMoved := false, sentInSlot := false }

/-- COLOK_LINK_LOST (R299, R401): the port is DOWN; it trains again from the next mark on. -/
def colokLinkLost (c : Nat) (s : State) : State :=
  let p := 12 + c
  let o := s.optic p
  if s.phase p = 7 ∧ (s.unit (entPort p) = usReady ∨ s.unit (entPort p) = usDraining) ∧ (4 ≤ o.missSlots ∨ o.linkFailed) then
    let s1 := if o.linkFailed then s.set (F.OPT_STATE_FAIL_REASON p) 9 else s
    ((s1.linkDown p).bump (F.COLOK_STAT2_LINK_DOWN c)).setUnit (entPort p) usDown
  else s

def execColokLinkLost (port : Nat) (s : State) : Out := lively s port 2 (colokLinkLost port)

/-! ## Proxied requests (R409) -/

/-- A frame from the words of a MGMT packet. -/
def mgmtFrame (p : Packet) : Frame :=
  let ws := wordsOfBytes p.payload
  ⟨ws.getD 0 0, ws.getD 1 0, ws.getD 2 0, ws.getD 3 0, ws.drop 4, 0⟩

/-- The target's answer to a MGMT_REQ: the RESP of the words, with the request's word 2. -/
def State.mgmtAnswer (s : State) (die : Nat) (p : Packet) (status operand : Nat) (data : List Word) : State :=
  let f := mgmtFrame p
  let r := respFrame (bits f.w1 63 48) f.addr status operand data
  s.sendMgmt die 0x21 p.srcId f.addr { r with w2 := f.w2 } data.length

/-- The proxy accepts the MGMT_REQs that have come: eight are held, any further one is answered BUSY (R409); n bounds how many. -/
def State.proxyIn (s : State) : Nat → State
  | 0 => s
  | n + 1 =>
    let full := decide (8 ≤ s.rt.mailbox.length)
    let s1 := s.takeLocal 0x20 fun s h =>
      if full then s.mgmtAnswer (dieOfSrc h.src) h.pkt stBusy 0 [] else { s with rt := { s.rt with mailbox := s.rt.mailbox ++ [h] } }
    s1.proxyIn n

/-- A proxied request runs on its target (R409). -/
def State.mgmtRun (s : State) (l : Transit) : State :=
  let r := { frameRequest (mgmtFrame l.pkt) with proxy := some 0 }
  let die := dieOfSrc l.src
  if r.malformed 96 then s.mgmtAnswer die l.pkt stMalformed 0 []
  else
    let (s1, status, idx, data) := s.runWords ⟨die, 27⟩ r
    s1.mgmtAnswer die l.pkt status idx data

/-- MGMT_REQ (R409): the oldest request of the proxy's mailbox runs. -/
def mgmtReq (s : State) : State :=
  let s1 := s.proxyIn s.rt.held.length
  match s1.rt.mailbox with
  | [] => s1
  | l :: rest => ({ s1 with rt := { s1.rt with mailbox := rest } } : State).mgmtRun l

def execMgmtReq (s : State) : Out := live s mgmtReq

/-- The request a MGMT_RESP answers: same target, SEQ, TAG and address; port A's before port B's. -/
def State.mgmtFind (s : State) (p : Packet) : Option (Nat × Nat × Request) :=
  let f := mgmtFrame p
  (List.range 2).findSome? fun c =>
    ((List.range (s.ck c).mbox.length).findSome? fun i =>
      match (s.ck c).mbox[i]? with
      | some r =>
        if r.started ∧ r.proxy = some p.srcId ∧ r.seq = f.seq ∧ r.tag = bits f.w1 63 48 ∧ r.addr = f.addr then some (c, i, r) else none
      | none => none)

/-- MGMT_RESP (R409): returned on the Colok port, or discarded when its request is gone. -/
def State.mgmtBack (s : State) (l : Transit) : State :=
  match s.mgmtFind l.pkt with
  | none => s
  | some (c, i, r) =>
    let f := mgmtFrame l.pkt
    (s.finishRequest c i r (bits f.w0 59 56) (bits f.w3 31 0) (f.payload.take f.count)).forwardAll c 32

def execMgmtResp (s : State) : Out := live s fun s => s.takeLocal 0x21 fun s l => s.mgmtBack l

/-- PROXY_TIMEOUT (R409): no answer within MGMT_PROXY.TIMEOUT ticks; requests are numbered port × 32 + place in the mailbox. -/
def proxyTimeout (idx : Nat) (s : State) : State :=
  let c := idx / 32
  let i := idx % 32
  match (s.ck c).mbox[i]? with
  | none => s
  | some r =>
    if r.started ∧ r.sentAt + max 1 (s.get F.MGMT_PROXY_TIMEOUT) ≤ s.now then
      (s.finishRequest c i r stTimeout 0 []).forwardAll c 32
    else s

def execProxyTimeout (idx : Nat) (s : State) : Out := lively s idx 64 (proxyTimeout idx)

end Sys2Proof.Machine
end

