-- ==== Sys2Proof/Machine/Epoch.lean ====
section
/-! DEFINITION. The epoch mark and the slot boundary (R46): snapshots (R69), heartbeats and overruns (R25, R72), the power, thermal and
hold-up monitors (R428, R429, R437, R438), the stack monitors and ports, and the telemetry page (R417). -/
namespace Sys2Proof.Machine

/-! ## Time -/

/-- The next count that is a multiple of m; the present one if it has not been taken. -/
def nextBoundary (now m : Nat) (taken : Option Nat) : Nat := if now % m = 0 ∧ taken ≠ some now then now else (now / m + 1) * m

/-! ## Controllers at a mark -/

/-- The controller that serves a die: 0 primary, 1 secondary (R25). -/
def State.ctrlOf (s : State) (die : Nat) : Nat :=
  match s.get F.MGMT_STATUS_ROLES with
  | 1 => 0
  | 2 => 1
  | _ => if die < 2 then 0 else 1

def aliveAt (r : Readings) (i : Nat) : Bool := if i = 0 then r.alive0 else r.alive1
def overrunAt (r : Readings) (i : Nat) : Bool := if i = 0 then r.overrun0 else r.overrun1

/-- Controller i has been taken out of service by a takeover (R25). -/
def State.ctrlOut (s : State) (i : Nat) : Bool := s.unit (entMgmt i) == usDown && s.get F.MGMT_STATUS_ROLES == 2 - i

/-- The controller of a die does the work of this mark. -/
def State.works (s : State) (r : Readings) (die : Nat) : Bool := !s.mgmt.inReset && aliveAt r (s.ctrlOf die)

/-- Heartbeat and overrun of controller i (R25, R72). -/
def State.heartbeat (s : State) (r : Readings) (i : Nat) : State :=
  if s.mgmt.inReset ∨ s.ctrlOut i then s
  else
    let s1 := if overrunAt r i then s.bump F.MGMT_ERR_OVERRUN else s
    if aliveAt r i then
      let s2 := if i = 0 then s1.set F.MGMT_STATUS_PRI_UP 1 else s1.set F.MGMT_STATUS_SEC_UP 1
      { s2 with mgmt := if i = 0 then { s2.mgmt with missed0 := 0 } else { s2.mgmt with missed1 := 0 } }
    else
      let s2 := s1.bump F.MGMT_ERR_HB_MISS
      { s2 with mgmt := if i = 0 then { s2.mgmt with missed0 := s2.mgmt.missed0 + 1 }
                        else { s2.mgmt with missed1 := s2.mgmt.missed1 + 1 } }

/-- Two heartbeats missed in a row by one controller while the other's come: it is lost, from this mark on (R25). -/
def State.noteLost (s : State) : State :=
  let m := s.mgmt
  if m.lost.isSome ∨ s.get F.MGMT_STATUS_ROLES ≠ 0 then s
  else if 2 ≤ m.missed0 ∧ m.missed1 = 0 then { s with mgmt := { m with lost := some (0, s.now) } }
  else if 2 ≤ m.missed1 ∧ m.missed0 = 0 then { s with mgmt := { m with lost := some (1, s.now) } }
  else s

/-- The events of each die are read by the controller that serves it (R69). -/
def State.readEvents (s : State) (r : Readings) : State :=
  s.forN 4 fun s d => if s.works r d then { s with mgmt := { s.mgmt with evq := s.mgmt.evq.set d [] } } else s

/-! ## Snapshots of the cores (R69, R114, R157) -/

/-- CORE_PERF_SNAP of core n; its counts start anew. -/
def State.perfSnap (s : State) (n : Nat) : State :=
  let c := s.coreAt n
  let run := if c.state = 2 then s.waitGap n - s.waitCounted n else 0
  (s.setReg (A.CORE_PERF_SNAP n) (mkWord [(63, 32, c.issued), (31, 0, c.waited + run)])).setCore n { c with issued := 0, waited := 0 }

/-- Offset of a core register's address in the registers of its core. -/
def coreRegOff (a : Nat) : Option Nat :=
  if 0x200000000000 ≤ a ∧ a < 0x200064000000 ∧ 0xF00000 ≤ a % 0x1000000 then some (a % 0x1000000 - 0xF00000) else none

/-- The registers CONV_TAG_A and CONV_TAG_B of every core are copied to their _SNAP registers. -/
def State.tagSnap (s : State) : State :=
  let isSnap := fun (a : Nat) => (coreRegOff a).any fun o => 0x1500 ≤ o && o < 0x1600
  let s1 := { s with regs := s.regs.filter fun p => !isSnap p.1 }
  s.regs.foldl (fun s p => if (coreRegOff p.1).any fun o => 0x1400 ≤ o && o < 0x1500 then s.setReg (p.1 + 0x100) p.2 else s) s1

/-! ## Power (R423, R425, R428, R429) -/

/-- PWR_ENV.WATTS between its limits (R467). -/
def State.envelope (s : State) : Nat := max 900 (min 1400 (s.get F.PWR_ENV_WATTS))

/-- The readings of input power and voltage. -/
def State.powerRead (s : State) (r : Readings) : State :=
  let seen := s.pwr.peakSeen || s.pwr.peak
  let s1 := (((s.set F.PWR_STATUS_INPUT_W r.watts).set F.PWR_STATUS_VIN r.vin).set F.SB_POWER_WATTS r.watts).set F.SB_VIN_VIN r.vin
  let s2 := s1.set F.PWR_STATUS_PEAK (boolBit seen)
  let s3 := if seen then s2.bump F.PWR_STAT_PEAK_EPOCHS else s2
  let s4 := if s3.get F.PWR_STATUS_LEVEL ≠ 0 then s3.bump F.PWR_STAT_THR_EPOCHS else s3
  let s5 := if r.aboveEnvelope ∨ r.vin < 4400 ∨ 5800 < r.vin then s4.alert 1 else s4
  { s5 with pwr := { s5.pwr with vin := r.vin, peakSeen := s5.pwr.peak, watts := (r.watts :: s5.pwr.watts).take 16 } }

/-- LEVEL after the average of the last 16 epochs. -/
def State.powerLevel (s : State) : State :=
  let n := s.pwr.watts.length
  let sum := s.pwr.watts.foldl (· + ·) 0
  let l := s.pwr.level
  let l1 := if s.envelope * n < sum then min (l + 1) 7 else if sum * 100 < 97 * s.envelope * n then l - 1 else l
  { s with pwr := { s.pwr with level := l1 } }

/-- The thermal floor (R429). -/
def State.thermalFloor (s : State) (r : Readings) : State :=
  let t := (List.range 4).map fun d => min (r.dieTemp.getD d 0) 255
  let s1 := s.forN 4 fun s d => s.set (F.PWR_TEMP_D d) (t.getD d 0)
  let hot := s1.get F.PWR_TEMP_CFG_DIE_HOT
  let crit := s1.get F.PWR_TEMP_CFG_DIE_CRIT
  let tf := s1.get F.PWR_TEMP_TF
  let s2 := if t.any (crit ≤ ·) then (s1.set F.PWR_TEMP_TF 7).alert 0
    else if t.any (hot ≤ ·) then (s1.set F.PWR_TEMP_TF (min (tf + 1) 7)).alert 0
    else if t.all (fun x => x + s1.get F.PWR_TEMP_CFG_DIE_HYST ≤ hot) then s1.set F.PWR_TEMP_TF (tf - 1)
    else s1
  let s3 := { s2 with pwr := { s2.pwr with critMarks := if t.any (crit ≤ ·) then s2.pwr.critMarks + 1 else 0 } }
  let top := (t ++ (List.range 16).map fun n => min (r.stackTemp.getD n 0) 255).foldl max 0
  s3.set F.SB_TEMP_TEMP top

/-- The monitor's level goes to the cores (R428). -/
def State.powerArm (s : State) : State :=
  (s.set F.PWR_THR_NEXT_LEVEL (max s.pwr.level (s.get F.PWR_TEMP_TF))).armStaged A.PWR_THR_ACT (s.slot + 2) true

/-- Hold-up at a mark (R437, R438, R467): the charger is active until the bank is full at 50 V; a measurement falls due at 64,000
epochs. -/
def State.holdupMark (s : State) (r : Readings) : State :=
  let s1 := (s.set F.HU_STATUS_V_BANK (min r.vbank 0xFFFF)).set F.HU_STATUS_CHARGING (boolBit (r.vbank < 5000))
  let due := s1.pwr.measureDue || (s1.mstate != msPrecharge && !s1.pwr.measuring && 64000 ≤ s1.get F.HU_MEAS_AGE)
  { s1 with pwr := { s1.pwr with measureDue := due } }.showHoldup

/-- The flash programs what the buffer holds (R453), the refused commit is tried again (R440), and a RETIRE waits (R435). -/
def State.slowMark (s : State) (r : Readings) : State :=
  let s1 := ({ s with boot := { s.boot with held := s.boot.held - r.flProgrammed } } : State)
  let s2 := if s.boot.held = 0 then s1 else s1.showFlash
  let s3 := if s2.led.refusing then s2.commitAt (s2.get F.HU_STATUS_V_BANK) else s2
  if s3.mstate ≠ msRetire then s3
  else if s3.pwr.retireStep = 0 then { s3 with pwr := { s3.pwr with retireWait := s3.pwr.retireWait + 1 } }
  else s3.retireNext

/-! ## Telemetry (R417) -/

/-- Words 201 to 205 of the page, as they stand at the mark. -/
def State.markWords (s : State) : List Word := [A.CAD_STATUS, A.CAD_ERR, A.MGMT_ERR, A.FAULT_HEAD, A.FAULT_LOST].map s.reg

/-- Words 1 to 205 of the page; `now` are the words of the mark. -/
def State.pageWords (s : State) (now : List Word) : List Word :=
  ((List.range 12).flatMap fun p =>
    ((List.range 4).map fun v => s.reg (A.SPK_CONG_SNAP p v)) ++ [s.reg (A.SPK_CREDIT_SNAP p)]
      ++ (List.range 8).map fun b => s.reg (A.SPK_BUF_SNAP p b))
    ++ ((List.range 16).map fun n => s.reg (A.MC_STAT_SNAP n)) ++ ((List.range 16).map fun n => s.reg (A.MC_ECC_SNAP n))
    ++ ((List.range 12).map fun p => s.reg (A.OPT_FADE p)) ++ now

/-- The page of the epoch: word 0 is cleared, and without an overrun the page filled and made valid. -/
def State.fillPage (s : State) (now : List Word) (ok : Bool) : State :=
  let q := s.epoch % 2
  let s1 := s.setReg (A.TELEMETRY q 0) 0
  if ok then
    let ws := s1.pageWords now
    let s2 := s1.forN 255 fun s i => s.setReg (A.TELEMETRY q (i + 1)) (ws.getD i 0)
    s2.setReg (A.TELEMETRY q 0) (mkWord [(63, 16, s.epoch), (0, 0, 1)])
  else s1

/-! ## The commands -/

/-- What WAITING cores issued before their waits completes as time passes (R104). -/
def State.coresCatchUp (s : State) : State := s.forN 100 fun s n => s.catchUp n

/-- Every snapshot of the mark tick (R69). -/
def State.snapshots (s : State) : State :=
  let s1 := (s.forN 100 fun s n => if s.siteEnabled n then s.perfSnap n else s).tagSnap
  s1.congSnap.forN 16 fun s n => (s.monitorSnap n).latchLog n

/-- The slow plane's work of a mark (R72); `now` are the words of the mark for the telemetry page, which the controllers that work fill. -/
def State.slowWork (s : State) (r : Readings) (now : List Word) : State :=
  let s1 := s.readEvents r
  let s2 := s1.forN 16 fun s n =>
    if s.works r (dieOfStack n) then (s.monitorLog n).monitorTemp n (r.stackTemp.getD n 0) else s
  let s3 := s2.forN 14 fun s p =>
    s.portMark p (r.ports.getD p ⟨[], [], [], 0, [], []⟩) (s.works r (dieOfPort p)) (!overrunAt r (s.ctrlOf (dieOfPort p)))
  let s4 := if s3.works r 0 then (((((s3.powerRead r).powerLevel).thermalFloor r).powerArm).holdupMark r).slowMark r else s3
  if s3.works r 0 ∨ s3.works r 2 then s4.fillPage now (!r.overrun0 && !r.overrun1 && s3.works r 0 && s3.works r 2) else s4

/-- EPOCH_MARK (R46). -/
def epochMark (r : Readings) (s : State) : State :=
  let t := nextBoundary s.now 50000 s.cad.markTaken
  let s0 := ({ s with cad := { s.cad with count := t }, mgmt := { s.mgmt with logged := [] } } : State).coresCatchUp
  let s1 := s0.snapshots
  let s2 := { s1 with cad := { s1.cad with markTaken := some t } }
  ((((s2.bump F.HU_MEAS_AGE).heartbeat r 0).heartbeat r 1).noteLost).slowWork r s2.markWords

def execEpochMark (r : Readings) (s : State) : Out := live s (epochMark r)

/-- SLOT_BOUNDARY (R46, R57, R366, R400). -/
def slotBoundary (s : State) : State :=
  let t := nextBoundary s.now 256 s.cad.slotTaken
  let s1 := ({ s with cad := { s.cad with count := t, slotTaken := some t } } : State).coresCatchUp
  let s2 := s1.slew.forN 14 fun s p => s.portSlot p
  s2.forN 2 fun s c => s.colokSlot c

def execSlotBoundary (s : State) : Out := live s slotBoundary

end Sys2Proof.Machine
end

