-- ==== Sys2Proof/Machine/Sideband.lean ====
section
/-! DEFINITION. The sideband bus (R421 to R424): transfers on its register file, and the I3C commands of R421. -/
namespace Sys2Proof.Machine

/-- The bus is served from IMAGE onwards, by a controller that is in service (R25, R421, R461). -/
def State.sbServed (s : State) : Bool := msImage ≤ s.mstate && !s.mgmt.inReset

/-- A command of the bus. -/
def sbCmd (s : State) (f : State → State) : Out := live s fun s => if s.sbServed then f s else s

/-- The byte at an index of the register file (R422). -/
def State.sbByte (s : State) (i : Nat) : Byte :=
  if i = 0x00 then 0x9A
  else if i = 0x01 then 0x10
  else if i < 0x0A then BitVec.ofNat 8 (s.gradeMask.toNat / 256 ^ (i - 2))
  else if i = 0x0A then BitVec.ofNat 8 (s.get F.SB_STATE_STATE)
  else if i = 0x0B then BitVec.ofNat 8 (s.get F.ALERT_CAUSE_CAUSE)
  else if i = 0x0C then BitVec.ofNat 8 (s.get F.ALERT_MASK_MASK)
  else if i < 0x0F then BitVec.ofNat 8 (s.get F.SB_POWER_WATTS / 256 ^ (i - 0x0D))
  else if i < 0x11 then BitVec.ofNat 8 (s.get F.SB_VIN_VIN / 256 ^ (i - 0x0F))
  else if i = 0x11 then BitVec.ofNat 8 (s.get F.SB_HOLDUP_JOULES)
  else if i = 0x12 then BitVec.ofNat 8 (s.get F.SB_TEMP_TEMP)
  else if i = 0x13 then BitVec.ofNat 8 (s.get F.SB_ATTN_CAUSE)
  else if 0x18 ≤ i ∧ i < 0x20 then BitVec.ofNat 8 (s.fuse.serial.toNat / 256 ^ (i - 0x18))
  else 0

/-- A W1C write of ALERT_CAUSE (R423): ALERT_N follows the bits left. -/
def State.alertClear (s : State) (b : Nat) : State :=
  s.set F.ALERT_CAUSE_CAUSE (s.get F.ALERT_CAUSE_CAUSE &&& (0x3F - b % 0x40))

/-- A byte written at an index (R422). -/
def State.sbWriteByte (s : State) (i : Nat) (b : Byte) : State :=
  if i = 0x0B then s.alertClear b.toNat
  else if i = 0x0C then s.set F.ALERT_MASK_MASK b.toNat
  else if i = 0x14 then (if b.getLsbD 0 then retireRequest s else s)
  else s

/-- Write bytes from the index on, which advances with each (R421). -/
def State.sbWrite (s : State) : List Byte → State
  | [] => s
  | b :: bs =>
    let s1 := s.sbWriteByte s.sb.index b
    { s1 with sb := { s1.sb with index := (s1.sb.index + 1) % 256 } }.sbWrite bs

/-- SB_WRITE_TRANSFER (R421). -/
def execSbWriteTransfer (index : Nat) (bytes : List Byte) (s : State) : Out :=
  sbCmd s fun s => ({ s with sb := { s.sb with index := index % 256 } } : State).sbWrite bytes

/-- SB_READ_TRANSFER (R421): n bytes from the index on. -/
def execSbReadTransfer (n : Nat) (s : State) : Out :=
  sbCmd s fun s => { s with
    sent := s.sent ++ [.sideband ((List.range n).map fun i => s.sbByte ((s.sb.index + i) % 256))]
    sb := { s.sb with index := (s.sb.index + n) % 256 } }

/-- A valid I3C broadcast or command: the bus is in I3C mode from here on (R421). -/
def i3cCmd (s : State) (f : State → State) : Out :=
  sbCmd s fun s => f { s with sb := { s.sb with i3c := true } }

/-- Answer bytes on the bus. -/
def State.sbAnswer (s : State) (bs : List Byte) : State := { s with sent := s.sent ++ [.sideband bs] }

/-- The provisioned ID: the low 48 bits of SERIAL, most significant byte first (R421). -/
def State.sbPid (s : State) : List Byte := (bytesOf 6 s.fuse.serial.toNat).reverse

/-- ENTDAA (R421): a target without a dynamic address gives its provisioned ID and takes the address. -/
def execEntdaa (addr : Nat) (s : State) : Out :=
  i3cCmd s fun s =>
    if s.sb.dynAddr.isSome then s
    else ({ s with sb := { s.sb with dynAddr := some (addr % 128) } } : State).sbAnswer (s.sbPid ++ Config.sbBcr ++ Config.sbDcr)

/-- SETDASA from static address 0x5A (R421). -/
def execSetdasa (addr : Nat) (s : State) : Out :=
  i3cCmd s fun s => if s.sb.dynAddr.isSome then s else { s with sb := { s.sb with dynAddr := some (addr % 128) } }

/-- RSTDAA (R421). -/
def execRstdaa (s : State) : Out := i3cCmd s fun s => { s with sb := { s.sb with dynAddr := none } }

/-- ENEC, DISEC (R421): target events on and off. -/
def execEnec (s : State) : Out := i3cCmd s fun s => { s with sb := { s.sb with events := true } }
def execDisec (s : State) : Out := i3cCmd s fun s => { s with sb := { s.sb with events := false } }

def execGetpid (s : State) : Out := i3cCmd s fun s => s.sbAnswer s.sbPid
def execGetbcr (s : State) : Out := i3cCmd s fun s => s.sbAnswer Config.sbBcr
def execGetdcr (s : State) : Out := i3cCmd s fun s => s.sbAnswer Config.sbDcr
def execGetmwl (s : State) : Out := i3cCmd s fun s => s.sbAnswer Config.sbMwl
def execGetmrl (s : State) : Out := i3cCmd s fun s => s.sbAnswer Config.sbMrl

/-- GETSTATUS (R421): two bytes, whose content the spec does not give. -/
def execGetstatus (s : State) : Out :=
  i3cCmd s fun s => s.fresh.2.sbAnswer (bytesOf 2 s.fresh.1.toNat)

/-- RSTACT (R421): the target reset action is kept. -/
def execRstact (action : Nat) (s : State) : Out :=
  i3cCmd s fun s => { s with sb := { s.sb with resetAction := action % 256 } }

/-- ALERT_CAUSE_CLEAR (R423). -/
def execAlertCauseClear (bits : Nat) (s : State) : Out := sbCmd s fun s => s.alertClear bits

end Sys2Proof.Machine
end

