-- ==== Sys2Proof/Machine/Dispatch.lean ====
section
/-! DEFINITION. One arm per command: the meaning it calls. -/
namespace Sys2Proof.Machine

def exec (i : Instr) (s : State) : Host.Outcome State Fault Refusal :=
  match i with
  | .epochMark r => Sys2Proof.Machine.execEpochMark r s
  | .slotBoundary => Sys2Proof.Machine.execSlotBoundary s
  | .epochPulse => Sys2Proof.Machine.execEpochPulse s
  | .cadrefLost => Sys2Proof.Machine.execCadrefLost s
  | .cadrefRegained phase => Sys2Proof.Machine.execCadrefRegained phase s
  | .beaconSourceTimeout phase => Sys2Proof.Machine.execBeaconSourceTimeout phase s
  | .freeRunLimit => Sys2Proof.Machine.execFreeRunLimit s
  | .cadLoad epoch => Sys2Proof.Machine.execCadLoad epoch s
  | .stagedPairArm pair inst slot => Sys2Proof.Machine.execStagedPairArm pair inst slot s
  | .mgmtTakeover => Sys2Proof.Machine.execMgmtTakeover s
  | .faultRecordWrite queue => Sys2Proof.Machine.execFaultRecordWrite queue s
  | .peakAssert watts => Sys2Proof.Machine.execPeakAssert watts s
  | .peakRelease slots => Sys2Proof.Machine.execPeakRelease slots s
  | .coreRun site => Sys2Proof.Machine.execCoreRun site s
  | .coreStop site => Sys2Proof.Machine.execCoreStop site s
  | .coreStopped site => Sys2Proof.Machine.execCoreStopped site s
  | .coreHalted site => Sys2Proof.Machine.execCoreHalted site s
  | .coreFreeze site => Sys2Proof.Machine.execCoreFreeze site s
  | .next site ecc => Sys2Proof.Machine.execNext site ecc s
  | .loopOpen site => Sys2Proof.Machine.execLoopOpen site s
  | .loopClose site => Sys2Proof.Machine.execLoopClose site s
  | .wait site => Sys2Proof.Machine.execWait site s
  | .waitRelease site => Sys2Proof.Machine.execWaitRelease site s
  | .waitTimeout site => Sys2Proof.Machine.execWaitTimeout site s
  | .halt site => Sys2Proof.Machine.execHalt site s
  | .loopTripImm site => Sys2Proof.Machine.execLoopTripImm site s
  | .loopTripReg site => Sys2Proof.Machine.execLoopTripReg site s
  | .loopStep site => Sys2Proof.Machine.execLoopStep site s
  | .issueStep site ag => Sys2Proof.Machine.execIssueStep site ag s
  | .issue site ag => Sys2Proof.Machine.execIssue site ag s
  | .agStep site ag => Sys2Proof.Machine.execAgStep site ag s
  | .agReset site ag => Sys2Proof.Machine.execAgReset site ag s
  | .agSelect site ag => Sys2Proof.Machine.execAgSelect site ag s
  | .flush site ag => Sys2Proof.Machine.execFlush site ag s
  | .elementPoppable site queue => Sys2Proof.Machine.execElementPoppable site queue s
  | .load site => Sys2Proof.Machine.execLoad site s
  | .mac site => Sys2Proof.Machine.execMac site s
  | .macLoad site => Sys2Proof.Machine.execMacLoad site s
  | .macInit site => Sys2Proof.Machine.execMacInit site s
  | .macInitLoad site => Sys2Proof.Machine.execMacInitLoad site s
  | .swap site => Sys2Proof.Machine.execSwap site s
  | .move site => Sys2Proof.Machine.execMove site s
  | .add site => Sys2Proof.Machine.execAdd site s
  | .sub site => Sys2Proof.Machine.execSub site s
  | .mul site => Sys2Proof.Machine.execMul site s
  | .fma site => Sys2Proof.Machine.execFma site s
  | .max site => Sys2Proof.Machine.execMax site s
  | .min site => Sys2Proof.Machine.execMin site s
  | .abs site => Sys2Proof.Machine.execAbs site s
  | .neg site => Sys2Proof.Machine.execNeg site s
  | .recip site => Sys2Proof.Machine.execRecip site s
  | .rsqrt site => Sys2Proof.Machine.execRsqrt site s
  | .exp2 site => Sys2Proof.Machine.execExp2 site s
  | .log2 site => Sys2Proof.Machine.execLog2 site s
  | .rowsum site => Sys2Proof.Machine.execRowsum site s
  | .rowmax site => Sys2Proof.Machine.execRowmax site s
  | .top8 site => Sys2Proof.Machine.execTop8 site s
  | .cmpGt site => Sys2Proof.Machine.execCmpGt site s
  | .select site => Sys2Proof.Machine.execSelect site s
  | .scale site => Sys2Proof.Machine.execScale site s
  | .drawmask site => Sys2Proof.Machine.execDrawmask site s
  | .pairAdd site => Sys2Proof.Machine.execPairAdd site s
  | .pairMul site => Sys2Proof.Machine.execPairMul site s
  | .pairSplit site => Sys2Proof.Machine.execPairSplit site s
  | .conv site => Sys2Proof.Machine.execConv site s
  | .functionTable site => Sys2Proof.Machine.execFunctionTable site s
  | .derivativeTable site => Sys2Proof.Machine.execDerivativeTable site s
  | .historyCapture site => Sys2Proof.Machine.execHistoryCapture site s
  | .rdraw site => Sys2Proof.Machine.execRdraw site s
  | .localSignal site => Sys2Proof.Machine.execLocalSignal site s
  | .remoteSignal site => Sys2Proof.Machine.execRemoteSignal site s
  | .streamStart site => Sys2Proof.Machine.execStreamStart site s
  | .streamMemToStore site => Sys2Proof.Machine.execStreamMemToStore site s
  | .streamStoreToMem site => Sys2Proof.Machine.execStreamStoreToMem site s
  | .streamStoreAtomic site => Sys2Proof.Machine.execStreamStoreAtomic site s
  | .streamAccToMem site => Sys2Proof.Machine.execStreamAccToMem site s
  | .streamAccAtomic site => Sys2Proof.Machine.execStreamAccAtomic site s
  | .streamMemToAcc site => Sys2Proof.Machine.execStreamMemToAcc site s
  | .streamComplete site idx => Sys2Proof.Machine.execStreamComplete site idx s
  | .accFlagsClear site sat poison => Sys2Proof.Machine.execAccFlagsClear site sat poison s
  | .commitNow site => Sys2Proof.Machine.execCommitNow site s
  | .autoRecomputeDone site => Sys2Proof.Machine.execAutoRecomputeDone site s
  | .reStart die job => Sys2Proof.Machine.execReStart die job s
  | .reSelftest die => Sys2Proof.Machine.execReSelftest die s
  | .reSelftestDone die pass => Sys2Proof.Machine.execReSelftestDone die pass s
  | .stats die => Sys2Proof.Machine.execStats die s
  | .normFwd die => Sys2Proof.Machine.execNormFwd die s
  | .normBwd die => Sys2Proof.Machine.execNormBwd die s
  | .smaxFwd die => Sys2Proof.Machine.execSmaxFwd die s
  | .smaxBwd die => Sys2Proof.Machine.execSmaxBwd die s
  | .testCmp die => Sys2Proof.Machine.execTestCmp die s
  | .reJobDone die => Sys2Proof.Machine.execReJobDone die s
  | .seqStartArm slot => Sys2Proof.Machine.execSeqStartArm slot s
  | .stepStart => Sys2Proof.Machine.execStepStart s
  | .runStart => Sys2Proof.Machine.execRunStart s
  | .stepCoresHalted => Sys2Proof.Machine.execStepCoresHalted s
  | .verdictEntry => Sys2Proof.Machine.execVerdictEntry s
  | .commitSlot => Sys2Proof.Machine.execCommitSlot s
  | .lateVerdictAct => Sys2Proof.Machine.execLateVerdictAct s
  | .seqMark accept tag => Sys2Proof.Machine.execSeqMark accept tag s
  | .applyStart => Sys2Proof.Machine.execApplyStart s
  | .updGroupDone unit => Sys2Proof.Machine.execUpdGroupDone unit s
  | .rollbackEnd => Sys2Proof.Machine.execRollbackEnd s
  | .resume => Sys2Proof.Machine.execResume s
  | .mcAccess req => Sys2Proof.Machine.execMcAccess req s
  | .mcAtomicAdd req => Sys2Proof.Machine.execMcAtomicAdd req s
  | .mapLoad => Sys2Proof.Machine.execMapLoad s
  | .mapLoadEffect => Sys2Proof.Machine.execMapLoadEffect s
  | .softRepair stack => Sys2Proof.Machine.execSoftRepair stack s
  | .pcRetire stack => Sys2Proof.Machine.execPcRetire stack s
  | .thermalAction stack => Sys2Proof.Machine.execThermalAction stack s
  | .catastrophicTemperature stack => Sys2Proof.Machine.execCatastrophicTemperature stack s
  | .mcTrainDone stack t => Sys2Proof.Machine.execMcTrainDone stack t s
  | .farAccess req => Sys2Proof.Machine.execFarAccess req s
  | .farLinkDown port => Sys2Proof.Machine.execFarLinkDown port s
  | .farRetrain port ok => Sys2Proof.Machine.execFarRetrain port ok s
  | .packetHop port cls pkt => Sys2Proof.Machine.execPacketHop port cls pkt s
  | .pktWrite => Sys2Proof.Machine.execPktWrite s
  | .atomicAdd => Sys2Proof.Machine.execAtomicAdd s
  | .signal => Sys2Proof.Machine.execSignal s
  | .redContrib => Sys2Proof.Machine.execRedContrib s
  | .redResult => Sys2Proof.Machine.execRedResult s
  | .pelotonArrive => Sys2Proof.Machine.execPelotonArrive s
  | .pelotonRelease => Sys2Proof.Machine.execPelotonRelease s
  | .caravan => Sys2Proof.Machine.execCaravan s
  | .mgmtReq => Sys2Proof.Machine.execMgmtReq s
  | .mgmtResp => Sys2Proof.Machine.execMgmtResp s
  | .ageLimit port idx => Sys2Proof.Machine.execAgeLimit port idx s
  | .linkLost port => Sys2Proof.Machine.execLinkLost port s
  | .portDrainDone port => Sys2Proof.Machine.execPortDrainDone port s
  | .arbWatchdog port => Sys2Proof.Machine.execArbWatchdog port s
  | .creditReturn port buf beats => Sys2Proof.Machine.execCreditReturn port buf beats s
  | .bankCommit bank tag => Sys2Proof.Machine.execBankCommit bank tag s
  | .bankDiscard bank => Sys2Proof.Machine.execBankDiscard bank s
  | .bankRetire bank => Sys2Proof.Machine.execBankRetire bank s
  | .sendSwitch => Sys2Proof.Machine.execSendSwitch s
  | .rcArm ctx slot => Sys2Proof.Machine.execRcArm ctx slot s
  | .rcAbort ctx => Sys2Proof.Machine.execRcAbort ctx s
  | .rcActivate ctx => Sys2Proof.Machine.execRcActivate ctx s
  | .roundClose ctx half => Sys2Proof.Machine.execRoundClose ctx half s
  | .roundSend ctx half => Sys2Proof.Machine.execRoundSend ctx half s
  | .roundDone ctx half => Sys2Proof.Machine.execRoundDone ctx half s
  | .pelotonMemberArrive ctx => Sys2Proof.Machine.execPelotonMemberArrive ctx s
  | .pelotonMasterRelease ctx => Sys2Proof.Machine.execPelotonMasterRelease ctx s
  | .pelotonDeadline ctx => Sys2Proof.Machine.execPelotonDeadline ctx s
  | .caravanFence ctx => Sys2Proof.Machine.execCaravanFence ctx s
  | .caravanPhaseDone ctx => Sys2Proof.Machine.execCaravanPhaseDone ctx s
  | .lcwReceive port lane cycle lcw corr uncorr => Sys2Proof.Machine.execLcwReceive port lane cycle lcw corr uncorr s
  | .steer port => Sys2Proof.Machine.execSteer port s
  | .laneDeclare port => Sys2Proof.Machine.execLaneDeclare port s
  | .steerRetry port => Sys2Proof.Machine.execSteerRetry port s
  | .autoSpare port => Sys2Proof.Machine.execAutoSpare port s
  | .mon port f => Sys2Proof.Machine.execMon port f s
  | .lmon port f => Sys2Proof.Machine.execLmon port f s
  | .regData port f => Sys2Proof.Machine.execRegData port f s
  | .alert port f => Sys2Proof.Machine.execAlert port f s
  | .sidebandLost port => Sys2Proof.Machine.execSidebandLost port s
  | .spareWarmTimeout port => Sys2Proof.Machine.execSpareWarmTimeout port s
  | .engineDetected port e => Sys2Proof.Machine.execEngineDetected port e s
  | .laserStable port => Sys2Proof.Machine.execLaserStable port s
  | .txAcqDone port locks => Sys2Proof.Machine.execTxAcqDone port locks s
  | .rxAcqDone port locks => Sys2Proof.Machine.execRxAcqDone port locks s
  | .eqDone port refs => Sys2Proof.Machine.execEqDone port refs s
  | .capsAgreed port caps => Sys2Proof.Machine.execCapsAgreed port caps s
  | .ping port w cycle => Sys2Proof.Machine.execPing port w cycle s
  | .echo port w cycle => Sys2Proof.Machine.execEcho port w cycle s
  | .trainPhaseTimeout port => Sys2Proof.Machine.execTrainPhaseTimeout port s
  | .engineRemoved port => Sys2Proof.Machine.execEngineRemoved port s
  | .overCurrent port => Sys2Proof.Machine.execOverCurrent port s
  | .retrain port => Sys2Proof.Machine.execRetrain port s
  | .optSpare port lane => Sys2Proof.Machine.execOptSpare port lane s
  | .optSwap port => Sys2Proof.Machine.execOptSwap port s
  | .optRetakeRefs port => Sys2Proof.Machine.execOptRetakeRefs port s
  | .flow port f => Sys2Proof.Machine.execFlow port f s
  | .write port f => Sys2Proof.Machine.execWrite port f s
  | .read port f => Sys2Proof.Machine.execRead port f s
  | .writeStream port f => Sys2Proof.Machine.execWriteStream port f s
  | .readStream port f => Sys2Proof.Machine.execReadStream port f s
  | .colokSignal port f => Sys2Proof.Machine.execColokSignal port f s
  | .caps port f => Sys2Proof.Machine.execCaps port f s
  | .colokResendTimeout port => Sys2Proof.Machine.execColokResendTimeout port s
  | .requestComplete port idx => Sys2Proof.Machine.execRequestComplete port idx s
  | .colokLinkLost port => Sys2Proof.Machine.execColokLinkLost port s
  | .proxyTimeout idx => Sys2Proof.Machine.execProxyTimeout idx s
  | .dwAddrWrite port win v => Sys2Proof.Machine.execDwAddrWrite port win v s
  | .dwDataWrite port win v => Sys2Proof.Machine.execDwDataWrite port win v s
  | .dwDataRead port win => Sys2Proof.Machine.execDwDataRead port win s
  | .registerWrite addr v => Sys2Proof.Machine.execRegisterWrite addr v s
  | .sbWriteTransfer index bytes => Sys2Proof.Machine.execSbWriteTransfer index bytes s
  | .sbReadTransfer n => Sys2Proof.Machine.execSbReadTransfer n s
  | .entdaa addr => Sys2Proof.Machine.execEntdaa addr s
  | .setdasa addr => Sys2Proof.Machine.execSetdasa addr s
  | .rstdaa => Sys2Proof.Machine.execRstdaa s
  | .enec => Sys2Proof.Machine.execEnec s
  | .disec => Sys2Proof.Machine.execDisec s
  | .getpid => Sys2Proof.Machine.execGetpid s
  | .getbcr => Sys2Proof.Machine.execGetbcr s
  | .getdcr => Sys2Proof.Machine.execGetdcr s
  | .getstatus => Sys2Proof.Machine.execGetstatus s
  | .getmwl => Sys2Proof.Machine.execGetmwl s
  | .getmrl => Sys2Proof.Machine.execGetmrl s
  | .rstact action => Sys2Proof.Machine.execRstact action s
  | .alertCauseClear bits => Sys2Proof.Machine.execAlertCauseClear bits s
  | .powerApplied vin => Sys2Proof.Machine.execPowerApplied vin s
  | .vinWarn vin => Sys2Proof.Machine.execVinWarn vin s
  | .inputLoss vin vbank => Sys2Proof.Machine.execInputLoss vin vbank s
  | .inputReturn vin => Sys2Proof.Machine.execInputReturn vin s
  | .prsntDebounced => Sys2Proof.Machine.execPrsntDebounced s
  | .prechargeDone vin => Sys2Proof.Machine.execPrechargeDone vin s
  | .prechargeTimeout => Sys2Proof.Machine.execPrechargeTimeout s
  | .imageBoot readFail => Sys2Proof.Machine.execImageBoot readFail s
  | .trainDone => Sys2Proof.Machine.execTrainDone s
  | .admitModule => Sys2Proof.Machine.execAdmit s
  | .retireRequest => Sys2Proof.Machine.execRetireRequest s
  | .retireDrain => Sys2Proof.Machine.execRetireDrain s
  | .dieCritRetire => Sys2Proof.Machine.execDieCritRetire s
  | .throttleLevel => Sys2Proof.Machine.execThrottleLevel s
  | .moduleReset byPin digestOk => Sys2Proof.Machine.execModuleReset byPin digestOk s
  | .computeReset => Sys2Proof.Machine.execComputeReset s
  | .coreReset site => Sys2Proof.Machine.execCoreReset site s
  | .stackReset stack => Sys2Proof.Machine.execStackReset stack s
  | .portReset port => Sys2Proof.Machine.execPortReset port s
  | .managementReset digestOk => Sys2Proof.Machine.execManagementReset digestOk s
  | .mgmtResume => Sys2Proof.Machine.execMgmtResume s
  | .restart => Sys2Proof.Machine.execRestart s
  | .huMeasure => Sys2Proof.Machine.execHuMeasure s
  | .huMeasureDone dv => Sys2Proof.Machine.execHuMeasureDone dv s
  | .ledgerCommit => Sys2Proof.Machine.execLedgerCommit s
  | .ledgerCommitDone => Sys2Proof.Machine.execLedgerCommitDone s
  | .holdupRefuseTimeout => Sys2Proof.Machine.execHoldupRefuseTimeout s
  | .flashErase bank => Sys2Proof.Machine.execFlashErase bank s
  | .flashVerify bank => Sys2Proof.Machine.execFlashVerify bank s
  | .armTrial bank => Sys2Proof.Machine.execArmTrial bank s
  | .disarm bank => Sys2Proof.Machine.execDisarm bank s
  | .flDataWrite v => Sys2Proof.Machine.execFlDataWrite v s
  | .flashOpDone ok => Sys2Proof.Machine.execFlashOpDone ok s
  | .attest => Sys2Proof.Machine.execAttest s
  | .submit => Sys2Proof.Machine.execSubmit s
  | .idOpDone => Sys2Proof.Machine.execIdOpDone s
  | .idDataAccess write v => Sys2Proof.Machine.execIdDataAccess write v s
  | .unitEnable unit => Sys2Proof.Machine.execUnitEnable unit s
  | .unitDrain unit => Sys2Proof.Machine.execUnitDrain unit s
  | .unitDrainEnd unit => Sys2Proof.Machine.execUnitDrainEnd unit s
  | .unitInitDone unit ok => Sys2Proof.Machine.execUnitInitDone unit ok s
  | .dither port => Sys2Proof.Machine.execDither port s
  | .sample port => Sys2Proof.Machine.execSample port s
  | .modrstNRelease => Sys2Proof.Machine.execModrstNRelease s
  | .softRepairDone stack => Sys2Proof.Machine.execSoftRepairDone stack s

end Sys2Proof.Machine
end

