-- ==== Sys2Proof/Machine/Step.lean ====
section
/-! DEFINITION. One step of the block: the command at the front of the queue, or a tick when nothing waits. -/
namespace Sys2Proof.Machine

/-- One tick of 10 ns passes and no boundary's work is done (R46): the count goes up. -/
def State.tick (s : State) : State := { s with cad := { s.cad with count := s.cad.count + 1 } }

/-- Take the command at the front of the queue and run it on the state with the queue's rest; with nothing waiting, a tick
passes. -/
def step (s : State) : Host.Outcome State Fault Refusal :=
  match s.pending with
  | [] => .next s.tick
  | c :: rest => exec c { s with pending := rest }

/-- The command a word spells put at the front of the queue; no word spells one. -/
def State.withFetchWord (s : State) (nbits w : Nat) : State :=
  match decodeTableWord nbits w with
  | none => s
  | some c => { s with pending := c :: s.pending }

end Sys2Proof.Machine
end

