-- ==== Sys2Proof/WellFormed.lean ====
section
/-! DEFINITION. Which commands are well formed: every operand names a unit, port or site that a module has (R2, R36, R410 to
R412), a frame carries the operation of its row (R397), and a reading has one entry for each sensor. -/
namespace Sys2Proof

/-- How many instances a staged pair has (R70). -/
def StagedPair.insts : StagedPair → Nat
  | .pcret | .thr | .ppr => 16
  | .steer | .lane => 14
  | .rtSend | .pwrThr => 1

/-- The operation of a frame, bits 63:60 of word 0 (R397). -/
def Frame.opField (f : Frame) : Nat := f.w0.toNat / 2 ^ 60

/-- A reading covers the nine lanes of its port. -/
def PortReading.wf (p : PortReading) : Bool :=
  p.rxPower.length == 9 && p.rxSum.length == 9 && p.margin.length == 9 && p.found.all (·.1 < 18) && p.noPeak.all (· < 9)

/-- A reading covers four dies, sixteen stacks and fourteen ports (R2). -/
def Readings.wf (r : Readings) : Bool :=
  r.dieTemp.length == 4 && r.stackTemp.length == 16 && r.ports.length == 14 && r.ports.all PortReading.wf

/-- An access comes from one of the four dies, carries what it says, and names a bank row of a pseudo-channel (R232, R239). -/
def MemReq.wf (q : MemReq) : Bool :=
  q.die < 4 && q.addr < 2 ^ 48 && q.sev < 3 &&
  match q.data with
  | none => true
  | some b => b.length == q.len

/-- The check of a command. -/
def Instr.wf : Instr → Bool
  | .epochMark r => r.wf
  | .stagedPairArm p i _ => i < p.insts
  | .faultRecordWrite q => q < 7
  | .coreRun n | .coreStop n | .coreStopped n | .coreHalted n | .coreFreeze n | .loopOpen n | .loopClose n
  | .wait n | .waitRelease n | .waitTimeout n | .halt n | .loopTripImm n | .loopTripReg n | .loopStep n | .load n | .mac n
  | .macLoad n | .macInit n | .macInitLoad n | .swap n | .move n | .add n | .sub n | .mul n | .fma n | .max n | .min n
  | .abs n | .neg n | .recip n | .rsqrt n | .exp2 n | .log2 n | .rowsum n | .rowmax n | .top8 n | .cmpGt n | .select n
  | .scale n | .drawmask n | .pairAdd n | .pairMul n | .pairSplit n | .conv n | .functionTable n | .derivativeTable n
  | .historyCapture n | .rdraw n | .localSignal n | .remoteSignal n | .streamStart n | .streamMemToStore n
  | .streamStoreToMem n | .streamStoreAtomic n | .streamAccToMem n | .streamAccAtomic n | .streamMemToAcc n
  | .commitNow n | .autoRecomputeDone n | .coreReset n => n < 100
  | .next n e => n < 100 && e < 3
  | .streamComplete n _ | .accFlagsClear n _ _ => n < 100
  | .issueStep n g | .issue n g | .agStep n g | .agReset n g | .agSelect n g | .flush n g => n < 100 && g < 6
  | .elementPoppable n q => n < 100 && q < 16
  | .reStart d j => d < 4 && j < 2 ^ 64
  | .reSelftest d | .reSelftestDone d _ | .stats d | .normFwd d | .normBwd d | .smaxFwd d | .smaxBwd d | .testCmp d
  | .reJobDone d => d < 4
  | .updGroupDone n | .softRepair n | .softRepairDone n | .pcRetire n | .thermalAction n | .catastrophicTemperature n
  | .mcTrainDone n _ | .stackReset n => n < 16
  | .mcAccess q | .mcAtomicAdd q | .farAccess q => q.wf
  | .farLinkDown p | .farRetrain p _ => p < 2
  | .packetHop p c _ => p < 12 && c < 2
  | .ageLimit p _ => p < 16
  | .linkLost p | .portDrainDone p | .arbWatchdog p => p < 12
  | .creditReturn p b _ => p < 12 && b < 8
  | .bankCommit b _ | .bankDiscard b | .bankRetire b | .flashErase b | .flashVerify b | .armTrial b | .disarm b => b < 2
  | .rcArm c _ | .rcAbort c | .rcActivate c | .pelotonMemberArrive c | .pelotonMasterRelease c | .pelotonDeadline c
  | .caravanFence c | .caravanPhaseDone c => c < 16
  | .roundClose c h | .roundSend c h | .roundDone c h => c < 16 && h < 2
  | .lcwReceive p l _ _ _ _ => p < 14 && l < 9
  | .steer p | .steerRetry p | .autoSpare p | .spareWarmTimeout p | .optSwap p | .capsAgreed p _ | .ping p _ _
  | .echo p _ _ => p < 12
  | .optSpare p l => p < 12 && l < 8
  | .laneDeclare p | .mon p _ | .lmon p _ | .regData p _ | .alert p _ | .sidebandLost p | .engineDetected p _
  | .laserStable p | .txAcqDone p _ | .rxAcqDone p _ | .eqDone p _ | .trainPhaseTimeout p | .engineRemoved p
  | .overCurrent p | .retrain p | .optRetakeRefs p | .dither p | .sample p | .portReset p => p < 14
  | .flow p f => p < 2 && f.opField == 0
  | .write p f => p < 2 && (f.opField == 1 || (6 ≤ f.opField && f.opField != 9))
  | .read p f => p < 2 && f.opField == 2
  | .writeStream p f => p < 2 && f.opField == 3
  | .readStream p f => p < 2 && f.opField == 4
  | .colokSignal p f => p < 2 && f.opField == 5
  | .caps p f => p < 2 && f.opField == 9
  | .colokResendTimeout p | .colokLinkLost p | .requestComplete p _ => p < 2
  | .proxyTimeout i => i < 64
  | .dwAddrWrite p w _ | .dwDataWrite p w _ | .dwDataRead p w => p < 2 && w < 4
  | .registerWrite a _ => a % 8 == 0 && a < 2 ^ 48
  | .unitEnable u | .unitDrain u | .unitDrainEnd u | .unitInitDone u _ => u < 187
  | .sbWriteTransfer i _ => i < 256
  | .entdaa a | .setdasa a => a < 128
  | .rstact a => a < 256
  | .slotBoundary | .epochPulse | .cadrefLost | .cadrefRegained _ | .beaconSourceTimeout _ | .freeRunLimit | .cadLoad _
  | .mgmtTakeover | .peakAssert _ | .peakRelease _ => true
  | .seqStartArm _ | .stepStart | .runStart | .stepCoresHalted | .verdictEntry | .commitSlot | .lateVerdictAct
  | .seqMark _ _ | .applyStart | .rollbackEnd | .resume | .mapLoad | .mapLoadEffect | .pktWrite | .atomicAdd | .signal
  | .redContrib | .redResult | .pelotonArrive | .pelotonRelease | .caravan | .mgmtReq | .mgmtResp | .sendSwitch
  | .sbReadTransfer _ | .rstdaa | .enec | .disec | .getpid | .getbcr | .getdcr | .getstatus | .getmwl | .getmrl
  | .alertCauseClear _ | .powerApplied _ | .vinWarn _ | .inputLoss _ _ | .inputReturn _ | .prsntDebounced
  | .prechargeDone _ | .prechargeTimeout | .imageBoot _ | .trainDone | .admitModule | .retireRequest | .retireDrain
  | .dieCritRetire | .throttleLevel | .moduleReset _ _ | .computeReset | .managementReset _ | .mgmtResume | .restart
  | .huMeasure | .huMeasureDone _ | .ledgerCommit | .ledgerCommitDone | .holdupRefuseTimeout | .flDataWrite _
  | .flashOpDone _ | .attest | .submit | .idOpDone | .idDataAccess _ _ | .modrstNRelease => true

end Sys2Proof
end

