-- ==== Sys2Proof/Safety.lean ====
section
/-! DEFINITION. The terms in which claims about runs are stated: the canonical form of the register file and of the memories. -/
namespace Sys2Proof.Machine

/-- Addresses strictly ascending. -/
def ascending {α : Type} : List (Nat × α) → Bool
  | [] => true
  | [_] => true
  | p :: q :: l => p.1 < q.1 && ascending (q :: l)

/-- The canonical form of a memory: addresses strictly ascending, and no cell equal to what its address reads as when it is
not listed. -/
def Mem.wf (m : Mem) : Bool := ascending m.cells && m.cells.all fun c => c.2 != m.default c.1

/-- Every memory of the module is in canonical form. -/
def State.memsWf (s : State) : Bool :=
  s.near.wf && s.far.all Mem.wf && s.stage.wf && s.side.wf && s.core.wf && s.flashA.wf && s.flashB.wf

/-- The rails are on and MODRST_N holds no MODULE reset. -/
def State.powered (s : State) : Prop := s.pwr.rails = true ∧ s.pwr.modrst = false

/-- The sideband bus is served (R421): the module is powered, in IMAGE or later, and no MANAGEMENT reset runs. -/
def State.onBus (s : State) : Prop := s.powered ∧ 2 ≤ s.get F.MODULE_STATE_STATE ∧ s.mgmt.inReset = false

/-- Every byte of every memory of the module reads the same. -/
def sameBytes (s t : State) : Prop :=
  (∀ a, t.near.get a = s.near.get a) ∧ (∀ p a, (t.far.getD p {}).get a = (s.far.getD p {}).get a)
    ∧ (∀ a, t.stage.get a = s.stage.get a) ∧ (∀ a, t.side.get a = s.side.get a) ∧ (∀ a, t.core.get a = s.core.get a)
    ∧ (∀ a, t.flashA.get a = s.flashA.get a) ∧ ∀ a, t.flashB.get a = s.flashB.get a

/-- Every register but those at the addresses of a list reads the same. -/
def regsBut (l : List Nat) (s t : State) : Prop := ∀ a, a ∉ l → t.reg a = s.reg a

/-- The lists of the module's parts have one entry for each part (R2). -/
def State.shaped (s : State) : Prop :=
  s.cores.length = 100 ∧ s.mc.length = 16 ∧ s.ctx.length = 16 ∧ s.upd.length = 16 ∧ s.re.length = 4 ∧ s.opt.length = 14
    ∧ s.colok.length = 2 ∧ s.far.length = 2 ∧ s.mgmt.fq.length = 7 ∧ s.mgmt.evq.length = 4

/-! ## Issues of control words -/

/-- Core n is RUNNING on an enabled site and is about to issue word w, the word at its PC (R78, R107). -/
def State.issuesWord (s : State) (n w : Nat) : Prop :=
  s.powered ∧ s.shaped ∧ n < 100 ∧ s.siteEnabled n = true ∧ (s.coreAt n).state = 1 ∧ (s.coreAt n).stopping = none
    ∧ s.fetchWord n (s.coreAt n).pc = w

/-- The state an issue reads: everything due by this cycle has completed (R92, R93). -/
def State.atIssue (s : State) (n : Nat) : State := s.settle n (s.coreAt n).cyc

/-- No check of R100 fails for word w. -/
def State.passes (s : State) (n w : Nat) : Prop :=
  let x := s.atIssue n
  let c := x.coreAt n
  x.boundChecks n c w = [] ∧ x.popChecks n c (x.pops n c w) = []
    ∧ x.pushChecks n c (x.pops n c w) (x.pushes n c w (vop x.fuse.s0 w) (x.convPushes n c w)) = []

/-- The word is not one that is tested before it issues (R104). -/
def State.noWait (s : State) (n w : Nat) : Prop := seqOp w ≠ 3 ∨ (s.coreAt n).rep ≠ 0

/-- What an issue of word w by core n leaves in every case (R78, R81): the bundle has been carried out, one cycle has passed, and REP_IDX
counts up to REPEAT. -/
def issuedWord (s t : State) (n w : Nat) : Prop :=
  t = (s.atIssue n).bundle n w ∧ (t.coreAt n).cyc = (s.coreAt n).cyc + 1
    ∧ (t.coreAt n).rep = if (s.coreAt n).rep = cwRepeat w then 0 else (s.coreAt n).rep + 1

/-! ## One issue of a plain word -/

/-- Core n, in STATE st, stands at word w with nothing else to do: w is the word at its PC, it has one issue (REPEAT 0), and nothing issued
before is on its way. -/
def State.standsAt (s : State) (n st w : Nat) : Prop :=
  let c := s.coreAt n
  s.powered ∧ s.shaped ∧ n < 100 ∧ s.siteEnabled n = true ∧ c.state = st ∧ c.stopping = none ∧ s.fetchWord n c.pc = w ∧ c.pend = []
    ∧ (∀ q ∈ c.queues, q.flight = []) ∧ c.queues.length = 16 ∧ c.rep = 0 ∧ cwRepeat w = 0 ∧ c.pc < 8191

/-- Parts of a control word (R76). -/
inductive Part where
  | seq | loop | ag | tensor | vector | conv | draw | ends
  deriving DecidableEq, Repr

/-- A part of word w orders nothing. -/
def partIdle (w : Nat) : Part → Prop
  | .seq => cwSeqOp w = 0
  | .loop => cwLop w = 0
  | .ag => ∀ a < 6, cwAg w a = 0
  | .tensor => cwTmode w = 0 ∧ cwSwap w = false
  | .vector => cwVop w = 0
  | .conv => (cwConv w).cto = 0
  | .draw => cwRdraw w = false
  | .ends => (∀ i < 4, endOn (cwPop w i) = false) ∧ ∀ i < 2, endOn (cwPush w i) = false

/-- Only the parts listed order anything. -/
def onlyParts (l : List Part) (w : Nat) : Prop := ∀ p, p ∉ l → partIdle w p

/-- The pop ends and the push ends that are enabled are those listed. -/
def endsAre (w : Nat) (pops pushes : List Nat) : Prop :=
  (∀ i < 4, endOn (cwPop w i) = pops.contains i) ∧ ∀ i < 2, endOn (cwPush w i) = pushes.contains i

/-- The head of queue q is an element with these bytes and the tag that the next pop wants (R97). -/
def Core.offers (c : Core) (q : Nat) (bs : List Byte) : Prop :=
  ∃ e rest, (c.queues.getD q {}).ready = e :: rest ∧ e.tag = (c.queues.getD q {}).popTag % 16 ∧ e.bytes = bs

/-- Queue q of core n has room for one more element (R96). -/
def State.roomFor (s : State) (n q : Nat) : Prop := ((s.coreAt n).queues.getD q {}).ready.length < s.get (F.QCFG_DEPTH n q)

/-- A core one cycle on, with one issue more (R78). -/
def Core.spent (c : Core) : Core := { c with cyc := c.cyc + 1, issued := c.issued + 1, since := c.since + 1 }

/-- A core that has issued its word and goes on at the next one (R78, R79). -/
def Core.next (c : Core) : Core := { c.spent with pc := c.pc + 1 }

/-- A command has changed core n to c and nothing else but registers among those listed. -/
def coreGoes (l : List Nat) (s t : State) (n : Nat) (c : Core) : Prop :=
  t = { s with cores := s.cores.set n c, regs := t.regs, freeCtr := t.freeCtr } ∧ regsBut l s t

/-- The first cycle of an element of a MAC (R86, R87, R126 to R128): the rows it completes are updated 12 cycles later (R93). -/
def Core.macs (c : Core) (w : Nat) (init : Bool) (bs : List Byte) : Core :=
  let tile := cwTile w
  let wa := fmtWidth (cwFmtA w)
  let wb := fmtWidth (cwFmtB w)
  let row := if cwRowctl w = 1 then 0 else c.rowPtr.getD tile 0
  let odd := wa == 16 && cwRowctl w != 1 && c.half.getD tile false
  let parts := macRows wa wb 0
  let used := if wa = 16 then boolBit odd else parts.length
  { c with
    pend := (List.range parts.length).map fun i => ⟨c.cyc + 12, 1, .mac ⟨tile, (row + i) % 128, init, cwFmtA w, cwFmtB w, cwCpass w,
      if odd then 64 else 0, ((valuesOf bs wa (fmtCount (cwFmtA w))).drop (parts.getD i (0, 0)).1).take (parts.getD i (0, 0)).2,
      c.active, c.pc, 0, cwMsat w⟩⟩
    rowPtr := c.rowPtr.set tile (if cwRowctl w = 2 then row else (row + used) % 128)
    half := if wa = 16 then c.half.set tile (if cwRowctl w = 2 then odd else !odd)
      else if cwRowctl w = 1 then c.half.set tile false else c.half
    held := if 1 < macCycles wa wb then some ⟨bs, cwFmtA w, cwFmtB w, 1⟩ else none }

/-- A LOAD of an element (R86, R128). -/
def Core.loads (c : Core) (w : Nat) (bs : List Byte) : Core :=
  { c with shadow := loadShadow c.shadow c.shPtr (cwFmtB w) (cwTrb w) bs, shPtr := (c.shPtr + loadStep (cwFmtB w)) % 256 }

/-- Word w orders one vector operation v in format f, from SRCA a and from vector register VREG, to VREG, and nothing else (R89). -/
def State.vectorWord (s : State) (n w v f a : Nat) : Prop :=
  s.standsAt n 1 w ∧ onlyParts [.vector] w ∧ s.fuse.s0 = false ∧ (s.coreAt n).srun = [] ∧ cwVop w = v ∧ cwVfmt w = f ∧ cwVsrcA w = a
    ∧ cwVsrcB w = 5 ∧ cwVdst w = 2 ∧ cwVrowctl w ≠ 3

/-- The vector row of the bundle and the pointer after it (R89). -/
def State.vectorRow (s : State) (n w : Nat) : Nat × Nat := vecRow true (cwVrowctl w) (s.coreAt n).vPtr

/-- The accumulator row that the bundle reads (R89, R160). -/
def State.rowBytes (s : State) (n w : Nat) : List Byte := s.core.load (accAddr n (cwVtile w) (s.vectorRow n w).1) 512

/-- The vector register that the bundle reads. -/
def State.vregBytes (s : State) (n w : Nat) : List Byte := (s.coreAt n).vregs.getD (cwVreg w) []

/-- A vector operation's effect: its 512 bytes reach VREG 8 cycles later, and the row pointer goes on (R89, R93). -/
def State.vectorGoes (s t : State) (l : List Nat) (n w : Nat) (bs : List Byte) : Prop :=
  coreGoes l s t n { (s.coreAt n).next with
    vPtr := (s.vectorRow n w).2, pend := [⟨(s.coreAt n).cyc + 8, 0, .vreg (cwVreg w) bs⟩] }

end Sys2Proof.Machine
end

