-- ==== Sys2Proof/Certificates/Slice0/Obligations.lean ====
section
/-! DEFINITION. The statements, each a proposition about the machine; what a statement rests on beside the spec's words is
named in its docstring. -/

open Sys2Proof Sys2Proof.Machine

/-! ## The machine as a whole -/

/-- A step takes the command at the front of the queue and is `exec` of it on the state with the queue's rest. The queue is the
model's (log entry 1). -/
def Obligations.StepRunsFront : Prop :=
  ∀ (c : Instr) (rest : List Instr) (s : State), s.pending = c :: rest → step s = exec c { s with pending := rest }

/-- With no command waiting a step is one tick: the count of R46 goes up by one and nothing else changes. That an idle step is
a tick is the model's choice (log entry 2). -/
def Obligations.IdleStepIsATick : Prop :=
  ∀ s : State, s.pending = [] → ∃ t, step s = .next t ∧ t.now = s.now + 1 ∧ t = { s with cad := { s.cad with count := s.cad.count + 1 } }

/-- Every command whose operands name units, ports and sites that the module has is carried out: no state refuses it or
faults. -/
def Obligations.WellFormedCommandsComplete : Prop :=
  ∀ (c : Instr) (s : State), c.wf = true → ∃ t, exec c s = .next t

/-- With the rails off only the commands of the power input, and the commit the controllers finish on hold-up, have an effect
(R442, R446); while MODRST_N holds a MODULE reset the same holds but for the release of the pin (R462). -/
def Obligations.UnpoweredModuleRests : Prop :=
  ∀ (c : Instr) (s t : State), ¬ s.powered → exec c s = .next t →
    t = s ∨ (∃ v, c = .powerApplied v) ∨ (∃ v b, c = .inputLoss v b) ∨ (∃ v, c = .inputReturn v) ∨ c = .ledgerCommitDone
      ∨ c = .modrstNRelease

/-- R12, R14: a register field reads as it was written, modulo its width; every other bit of its register, and every other
register, is as before. A saturating counter goes up by one and stays at its largest value. -/
def Obligations.FieldWrites : Prop :=
  ∀ (s : State) (f : Field) (v : Nat), f.lo ≤ f.hi → f.hi < 64 →
    (s.set f v).get f = v % 2 ^ (f.hi + 1 - f.lo) ∧ regsBut [f.addr] s (s.set f v)
      ∧ (∀ i, i < f.lo ∨ f.hi < i → ((s.set f v).reg f.addr).getLsbD i = (s.reg f.addr).getLsbD i)
      ∧ sameBytes s (s.set f v)
      ∧ (s.bump f).get f = (if s.get f = 2 ^ (f.hi + 1 - f.lo) - 1 then s.get f else s.get f + 1)
      ∧ regsBut [f.addr] s (s.bump f)

/-- R12: a store changes exactly its bytes, and a load gives the bytes stored, the first at the lowest address; the bytes of a number, least
significant first, spell it. -/
def Obligations.MemoryBytes : Prop :=
  (∀ (m : Mem) (a : Nat) (bs : List Byte), (m.store a bs).load a bs.length = bs
    ∧ ∀ b, b < a ∨ a + bs.length ≤ b → (m.store a bs).get b = m.get b)
  ∧ ∀ n v : Nat, v < 256 ^ n → ofBytes (bytesOf n v) = v ∧ (bytesOf n v).length = n

/-- Every operation on a memory keeps its canonical form. -/
def Obligations.MemoryOperationsKeepForm : Prop :=
  ∀ (m : Mem), m.wf = true →
    (∀ a b, (m.put a b).wf = true) ∧ (∀ a bs, (m.store a bs).wf = true) ∧ (∀ lo n, (m.zero lo n).wf = true) ∧ m.lose.wf = true
    ∧ ∀ n, (m.loseStack n).wf = true

/-- The canonical form of the register file and of every memory is kept by every step. -/
def Obligations.StepKeepsCanonical : Prop :=
  ∀ s t : State, ascending s.regs = true → s.memsWf = true → step s = .next t → ascending t.regs = true ∧ t.memsWf = true

/-- The grade of a module never changes: no step changes the fuses, nor the grade, the site map or the serial number that
software and the sideband read from them (R3, R4). -/
def Obligations.StepKeepsGrade : Prop :=
  ∀ s t : State, step s = .next t → t.fuse = s.fuse ∧ t.gradeMask = s.gradeMask ∧ t.siteMap0 = s.siteMap0 ∧ t.siteMap1 = s.siteMap1
    ∧ t.gradeCode = s.gradeCode ∧ (∀ n, t.siteEnabled n = s.siteEnabled n) ∧ ∀ n, t.absent n = s.absent n

/-- A command's effect leaves the queue alone (log entry 1), so commands run in the order they came. -/
def Obligations.CommandsRunInOrder : Prop :=
  ∀ (s t : State) (c : Instr) (rest : List Instr), s.pending = c :: rest → step s = .next t → t.pending = rest

/-! ## Time, faults, management (chapters 01, 02) -/

/-- The cadence's commands (R51, R56). SYNC reads 0 UNSET, 1 REF, 2 BEACON, 3 FREE_RUN. Offsets come with the command
(log entry 5). -/
def Obligations.CadenceSources : Prop :=
  ∀ s : State, s.powered →
    (∀ e, s.get F.CAD_STATUS_SYNC = 0 → exec (.cadLoad e) s
      = .next { s with cad := { s.cad with loadPending := some (e % 2 ^ 48) } })
    ∧ (∀ e, s.get F.CAD_STATUS_SYNC = 0 → s.get F.CAD_CTRL_REF_EN = 1 → s.cad.loadPending = some e →
      ∃ t, exec .epochPulse s = .next t ∧ t.now = e * 50000 % 2 ^ 64 ∧ t.get F.CAD_STATUS_SYNC = 1 ∧ t.get F.CAD_STATUS_HOPS = 0
        ∧ t.get F.CAD_STATUS_ALIGNED = 1 ∧ t.cad.loadPending = none ∧ regsBut [A.CAD_STATUS] s t ∧ sameBytes s t)
    ∧ (s.get F.CAD_STATUS_SYNC = 1 → s.now % 50000 ≠ 0 → s.cad.pulsesOff < 2 → s.cad.badPulses = false →
      ∃ t, exec .epochPulse s = .next t ∧ t.now = s.now ∧ t.cad.pulsesOff = s.cad.pulsesOff + 1
        ∧ (∀ a, t.reg a = (s.bump F.CAD_ERR_EPOCH_MISMATCH).reg a) ∧ sameBytes s t)
    ∧ (s.cad.refPresent = true → s.get F.CAD_STATUS_SYNC = 1 → s.bestBeacon none = none →
      ∃ t, exec .cadrefLost s = .next t ∧ t.cad.refPresent = false ∧ t.get F.CAD_STATUS_SYNC = 3 ∧ t.get F.CAD_STATUS_ALIGNED = 0
        ∧ t.get F.CAD_STATUS_HOPS = 15 ∧ t.get F.CAD_STATUS_SRC_PORT = 15 ∧ t.cad.freeSince = some s.now
        ∧ t.get F.CAD_ERR_REF_LOSS = (s.bump F.CAD_ERR_REF_LOSS).get F.CAD_ERR_REF_LOSS
        ∧ regsBut [A.CAD_STATUS, A.CAD_ERR] s t ∧ sameBytes s t)
    ∧ (∀ d : Int, s.get F.CAD_STATUS_SYNC = 2 ∨ s.get F.CAD_STATUS_SYNC = 3 → s.get F.CAD_CTRL_REF_EN = 1 → s.cad.refPresent = true →
      (s.cad.refSince + 50000 ≤ (s.now : Int) → ∃ t, exec (.cadrefRegained d) s = .next t ∧ t.cad.refPresent = true
        ∧ t.get F.CAD_STATUS_SYNC = 1 ∧ t.get F.CAD_STATUS_HOPS = 0 ∧ t.cad.offset = d ∧ regsBut [A.CAD_STATUS] s t ∧ sameBytes s t)
      ∧ ((s.now : Int) < s.cad.refSince + 50000 → exec (.cadrefRegained d) s = .next s))
    ∧ (∀ d : Int, s.cad.refPresent = false →
      exec (.cadrefRegained d) s = .next { s with cad := { s.cad with refPresent := true, refSince := s.now } })
    ∧ (∀ d : Int, s.get F.CAD_STATUS_SYNC = 2 → s.cad.beacons = [] → s.cad.refPresent = true → s.get F.CAD_CTRL_REF_EN = 1 →
      ∃ t, exec (.beaconSourceTimeout d) s = .next t ∧ t.get F.CAD_STATUS_SYNC = 1 ∧ t.get F.CAD_STATUS_HOPS = 0 ∧ t.cad.offset = d
        ∧ regsBut [A.CAD_STATUS] s t ∧ sameBytes s t)
    ∧ (∀ n, s.get F.CAD_STATUS_SYNC = 3 → s.cad.freeSince = some n → n + 3200000 ≤ s.now →
      exec .freeRunLimit s = .next { s with cad := { s.cad with barred := true } })

/-- R46: an epoch mark falls at a tick whose count is a multiple of 50,000, a slot boundary at a multiple of 256: the command
brings the count to the first such tick that has not been taken. How far the count goes on is the model's choice (log entry 3).
At a mark the cores' counts latch and start anew (R69) and a controller that does not beat is counted (R25); at a slot boundary the offset
slews by a tick (R57) and a port in training sends the words of the slot (R366). -/
def Obligations.MarksFallOnTheirTicks : Prop :=
  ∀ s : State, s.powered →
    (∀ r, ∃ t, exec (.epochMark r) s = .next t ∧ t.cad.markTaken = some t.now ∧ t.now % 50000 = 0 ∧ s.now ≤ t.now
      ∧ t.now ≤ s.now + 50000 ∧ (s.cad.markTaken = some s.now → s.now < t.now)
      ∧ ∀ x, s.now < x → x < t.now → x % 50000 ≠ 0)
    ∧ (∃ t, exec .slotBoundary s = .next t ∧ t.cad.slotTaken = some t.now ∧ t.now % 256 = 0 ∧ s.now ≤ t.now
      ∧ t.now ≤ s.now + 256 ∧ (s.cad.slotTaken = some s.now → s.now < t.now))
    ∧ ((∀ n < 100, (s.coreAt n).state ≠ 2) → (∀ p < 14, s.phase p = 0) →
      (∀ r : Readings, s.shaped → s.mgmt.inReset = true → ∃ t, exec (.epochMark r) s = .next t ∧ sameBytes s t
        ∧ t.get F.HU_MEAS_AGE = (s.bump F.HU_MEAS_AGE).get F.HU_MEAS_AGE ∧ t.mgmt.fq = s.mgmt.fq ∧ t.sent = s.sent
        ∧ ∀ n < 100, s.siteEnabled n = true → t.coreAt n = { s.coreAt n with issued := 0, waited := 0 }
          ∧ t.reg (A.CORE_PERF_SNAP n) = mkWord [(63, 32, (s.coreAt n).issued), (31, 0, (s.coreAt n).waited)])
      ∧ (∀ r : Readings, s.shaped → s.mgmt.inReset = false → s.ctrlOut 0 = false → s.ctrlOut 1 = false → r.alive0 = false → r.alive1 = false →
          r.overrun0 = false → r.overrun1 = false →
        ∃ t, exec (.epochMark r) s = .next t ∧ t.mgmt.missed0 = s.mgmt.missed0 + 1 ∧ t.mgmt.missed1 = s.mgmt.missed1 + 1
          ∧ t.get F.MGMT_ERR_HB_MISS = ((s.bump F.MGMT_ERR_HB_MISS).bump F.MGMT_ERR_HB_MISS).get F.MGMT_ERR_HB_MISS ∧ sameBytes s t)
      ∧ (∀ d : Int, s.get F.CAD_STATUS_SYNC ≠ 0 → s.cad.offset = d → (1 < d ∨ d < -1) → ∃ t, exec .slotBoundary s = .next t
        ∧ t.cad.offset = (if 0 < d then d - 1 else d + 1) ∧ t.cores = s.cores ∧ t.sent = s.sent ∧ regsBut [A.CAD_STATUS] s t
        ∧ sameBytes s t))
    ∧ ∀ p < 12, (∀ n < 100, (s.coreAt n).state ≠ 2) → s.opt.length = 14 → s.cad.offset = 0 → s.phase p = 5 →
        (∀ q < 14, q ≠ p → s.phase q = 0) → (s.optic p).reports = [] → (s.optic p).rxNext = none →
        s.get (F.SPK_STEER_STATUS_STATE p) ≠ 1 →
      ∃ t, exec .slotBoundary s = .next t ∧ (∀ a, t.reg a = s.reg a) ∧ sameBytes s t
        ∧ t.sent = s.sent ++ (lanesOf (s.optic p).txMap).map fun l => .lcw p l (lcwWord l 1 0 0 ⟨0, 0xF, 0, 0⟩ 0)

/-- R71: a staged pair that is armed for a slot two or more away acts there; for a nearer one it acts at CAD_SLOT + 2 and
STAGE_LATE counts. -/
def Obligations.StagedPairs : Prop :=
  ∀ (s : State) (p : StagedPair) (i slot : Nat), s.powered → i < p.insts → slot < 2 ^ 56 →
    ∃ t, exec (.stagedPairArm p i slot) s = .next t
      ∧ bits (t.reg (actReg p i)) 63 63 = 1 ∧ bits (t.reg (actReg p i)) 55 0 = slot
      ∧ mapFind t.staged (actReg p i) = (if slot < s.slot + 2 then some (s.slot + 2) else if slot = 0 then none else some slot)
      ∧ bits (t.reg (actReg p i)) 62 56
        = (if slot < s.slot + 2 then min (bits (s.reg (actReg p i)) 62 56 + 1) 127 else bits (s.reg (actReg p i)) 62 56)
      ∧ regsBut [actReg p i] s t ∧ sameBytes s t

/-- The collector (R37, R38), the PEAK line (R426), the throttle level (R427) and the takeover of a controller (R25). -/
def Obligations.CollectorAndMonitors : Prop :=
  ∀ s : State, s.powered →
    (∀ q r rest, q < 7 → s.mgmt.fq.getD q [] = r :: rest → r.code / 256 ≠ 9 →
      ∃ t, exec (.faultRecordWrite q) s = .next t ∧ t.mgmt.fq = s.mgmt.fq.set q rest
        ∧ (∀ i < 4, t.reg (A.FAULT_RING (s.get F.FAULT_HEAD_INDEX) i) = (r.words (s.get F.FAULT_HEAD_NEXT_SEQ)).getD i 0)
        ∧ t.get F.FAULT_HEAD_INDEX = (s.get F.FAULT_HEAD_INDEX + 1) % 1024
        ∧ t.get F.FAULT_HEAD_NEXT_SEQ = (s.get F.FAULT_HEAD_NEXT_SEQ + 1) % 65536
        ∧ regsBut (A.FAULT_HEAD :: (List.range 4).map (A.FAULT_RING (s.get F.FAULT_HEAD_INDEX))) s t ∧ sameBytes s t)
    ∧ (∀ w, 1450 < w → exec (.peakAssert w) s = .next { s with pwr := { s.pwr with peak := true, peakSeen := true } })
    ∧ (∀ n, 4 ≤ n → exec (.peakRelease n) s = .next { s with pwr := { s.pwr with peak := false } })
    ∧ (∀ k, bits (s.reg A.PWR_THR_ACT) 63 63 = 1 → s.now % 256 = 0 → mapFind s.staged A.PWR_THR_ACT = some k → k ≤ s.slot →
      ∃ t, exec .throttleLevel s = .next t ∧ t.get F.PWR_STATUS_LEVEL = s.get F.PWR_THR_NEXT_LEVEL
        ∧ bits (t.reg A.PWR_THR_ACT) 63 63 = 0 ∧ mapFind t.staged A.PWR_THR_ACT = none
        ∧ regsBut [A.PWR_STATUS, A.PWR_THR_ACT] s t ∧ sameBytes s t)
    ∧ (∀ m, s.now % 50000 = 0 → s.get F.MGMT_STATUS_ROLES = 0 → s.mgmt.lost = some (0, m) → m < s.now →
      ∃ t, exec .mgmtTakeover s = .next t ∧ t.get F.MGMT_STATUS_ROLES = 2 ∧ t.get F.MGMT_STATUS_PRI_UP = 0
        ∧ t.get F.MGMT_STATUS_TAKEOVER_EPOCH = s.epoch % 65536 ∧ t.get (F.UNIT_STATE_STATE (entMgmt 0)) = 4
        ∧ regsBut [A.MGMT_STATUS, A.UNIT_STATE (entMgmt 0)] s t ∧ sameBytes s t)

/-! ## Sideband, power, resets, ledger, flash, units (chapter 12) -/

/-- R421, R423: reads give the bytes from the index on, writes go to the index, and both advance it; a W1C write of ALERT_CAUSE
clears the bits written. -/
def Obligations.SidebandTransfers : Prop :=
  ∀ s : State, s.onBus →
    (∀ n, exec (.sbReadTransfer n) s = .next { s with
      sent := s.sent ++ [.sideband ((List.range n).map fun i => s.sbByte ((s.sb.index + i) % 256))]
      sb := { s.sb with index := (s.sb.index + n) % 256 } })
    ∧ (∀ i, exec (.sbWriteTransfer i []) s = .next { s with sb := { s.sb with index := i % 256 } })
    ∧ (∀ b : Byte, ∃ t, exec (.sbWriteTransfer 0x0C [b]) s = .next t ∧ t.get F.ALERT_MASK_MASK = b.toNat % 64 ∧ t.sb.index = 0x0D
      ∧ regsBut [A.ALERT_MASK] s t ∧ sameBytes s t)
    ∧ (∀ n, ∃ t, exec (.alertCauseClear n) s = .next t
      ∧ (∀ i < 6, (t.get F.ALERT_CAUSE_CAUSE).testBit i = ((s.get F.ALERT_CAUSE_CAUSE).testBit i && !n.testBit i))
      ∧ regsBut [A.ALERT_CAUSE] s t ∧ sameBytes s t ∧ t.sb = s.sb)

/-- The I3C commands of R421: the first one switches the bus to I3C. What GETBCR, GETDCR, GETMWL, GETMRL and GETSTATUS answer is
open (log entry 60). -/
def Obligations.SidebandCommands : Prop :=
  ∀ s : State, s.onBus →
    (∀ a, s.sb.dynAddr = none → exec (.entdaa a) s = .next { s with
      sb := { s.sb with i3c := true, dynAddr := some (a % 128) }
      sent := s.sent ++ [.sideband ((bytesOf 6 s.fuse.serial.toNat).reverse ++ Config.sbBcr ++ Config.sbDcr)] })
    ∧ (∀ a, s.sb.dynAddr = none → exec (.setdasa a) s
      = .next { s with sb := { s.sb with i3c := true, dynAddr := some (a % 128) } })
    ∧ exec .rstdaa s = .next { s with sb := { s.sb with i3c := true, dynAddr := none } }
    ∧ exec .enec s = .next { s with sb := { s.sb with i3c := true, events := true } }
    ∧ exec .disec s = .next { s with sb := { s.sb with i3c := true, events := false } }
    ∧ exec .getpid s = .next { s with
      sb := { s.sb with i3c := true }, sent := s.sent ++ [.sideband (bytesOf 6 s.fuse.serial.toNat).reverse] }
    ∧ exec .getbcr s = .next { s with sb := { s.sb with i3c := true }, sent := s.sent ++ [.sideband Config.sbBcr] }
    ∧ exec .getdcr s = .next { s with sb := { s.sb with i3c := true }, sent := s.sent ++ [.sideband Config.sbDcr] }
    ∧ exec .getmwl s = .next { s with sb := { s.sb with i3c := true }, sent := s.sent ++ [.sideband Config.sbMwl] }
    ∧ exec .getmrl s = .next { s with sb := { s.sb with i3c := true }, sent := s.sent ++ [.sideband Config.sbMrl] }
    ∧ (∃ b c, exec .getstatus s = .next { s with
      sb := { s.sb with i3c := true }, sent := s.sent ++ [.sideband [b, c]], freeCtr := s.freeCtr + 1 })
    ∧ ∀ a, exec (.rstact a) s = .next { s with sb := { s.sb with i3c := true, resetAction := a % 256 } }

/-- The power input (R425, R432, R433, R441, R442, R446): input loss takes the rails of the fast plane, and with no commit in progress and none
that may start the controllers' rails go with them; POWER_APPLIED, INPUT_RETURN and RESTART begin with PRECHARGE; PRECHARGE ends in IMAGE
once the input is in range and the bank holds 8 J (R439). -/
def Obligations.PowerInput : Prop :=
  (∀ (s : State) (v b : Nat), s.pwr.rails = true → v < 4200 →
    (s.led.inFlight = [] → s.led.pending = [] → exec (.inputLoss v b) s
      = .next { s with pwr := { s.pwr with rails := false, ctrlRails := false, vin := v } })
    ∧ (s.led.inFlight ≠ [] → exec (.inputLoss v b) s
      = .next { s with pwr := { s.pwr with rails := false, ctrlRails := true, vin := v } }))
  ∧ (∀ (s : State) (v : Nat), s.pwr.rails = false → s.pwr.ctrlRails = false → 4400 ≤ v →
    ∃ t, exec (.powerApplied v) s = .next t ∧ t.powered ∧ t.get F.MODULE_STATE_STATE = 1 ∧ t.pwr.vin = v
      ∧ t.get F.RST_STATUS_DOMAIN = 6 ∧ t.get F.RST_STATUS_CAUSE = 4 ∧ (s.led.inFlight = [] → t.led.recs = s.led.recs)
      ∧ t.pwr.mated = false ∧ t.flashA = s.flashA ∧ t.flashB = s.flashB ∧ t.fuse = s.fuse)
  ∧ (∀ (s : State) (v : Nat), s.pwr.rails = false → s.pwr.ctrlRails = true → 4400 ≤ v →
    ∃ t, exec (.inputReturn v) s = .next t ∧ t.powered ∧ t.get F.MODULE_STATE_STATE = 1 ∧ t.get F.RST_STATUS_CAUSE = 4
      ∧ t.led.inFlight = [] ∧ t.led.pending = [] ∧ t.flashA = s.flashA ∧ t.flashB = s.flashB)
  ∧ ∀ s : State, s.powered →
    (∃ t, exec .restart s = .next t ∧ t.powered ∧ t.get F.MODULE_STATE_STATE = 1 ∧ t.get F.RST_STATUS_DOMAIN = 6
      ∧ t.get F.RST_STATUS_CAUSE = 5 ∧ (s.led.inFlight = [] → t.led.recs = s.led.recs) ∧ t.led.pending = []
      ∧ t.pwr.mated = s.pwr.mated ∧ t.flashA = s.flashA ∧ t.flashB = s.flashB)
    ∧ exec .prsntDebounced s = .next { s with pwr := { s.pwr with mated := true } }
    ∧ (∀ v, 4400 ≤ v → v ≤ 5800 → exec (.vinWarn v) s = .next { s with pwr := { s.pwr with vin := v } })
    ∧ (∀ v, 4200 ≤ v → v < 4400 → ∃ t, exec (.vinWarn v) s = .next t ∧ (t.get F.ALERT_CAUSE_CAUSE).testBit 1 = true ∧ t.pwr.vin = v
      ∧ regsBut [A.ALERT_CAUSE] s t ∧ sameBytes s t)
    ∧ (∀ v, s.get F.MODULE_STATE_STATE = 1 → s.pwr.mated = true → 4400 ≤ v → v ≤ 5800 → s.pwr.measured = true →
        s.get F.HU_MEAS_AGE ≤ 128000 → 1600000000 ≤ s.get F.HU_MEAS_CAP * (s.get F.HU_STATUS_V_BANK ^ 2 - 1000000) →
      ∃ t, exec (.prechargeDone v) s = .next t ∧ t.get F.MODULE_STATE_STATE = 2 ∧ t.pwr.vin = v ∧ sameBytes s t)
    ∧ (s.get F.MODULE_STATE_STATE = 1 → ∃ t, exec .prechargeTimeout s = .next t ∧ t.get F.PWR_STATUS_HOLD_CAUSE = 1
      ∧ (t.get F.SB_ATTN_CAUSE).testBit 1 = true ∧ regsBut [A.PWR_STATUS, A.SB_ATTN] s t ∧ sameBytes s t)

/-- From IMAGE to SERVICE and out of it (R429, R434, R435, R446, R452). With no record in the ledger bank 0 is tried first; which bank
passes its checks rests on `Config.slhVerify`, which is open (log entry 44). -/
def Obligations.ModuleStates : Prop :=
  ∀ s : State, s.powered →
    (∀ m, s.get F.MODULE_STATE_STATE = 2 → s.boot.trialPending = false → s.boot.recovery = false → s.led.recs = [] →
      ∃ t, exec (.imageBoot m) s = .next t ∧ sameBytes s t
        ∧ (s.verifyBank 0 (bitAt m 0) = 0 → t.get F.MODULE_STATE_STATE = 3 ∧ t.get F.BOOT_STATUS_BANK = 0
          ∧ t.get F.BOOT_STATUS_FALLBACK = 0 ∧ t.boot.recovery = false)
        ∧ (s.verifyBank 0 (bitAt m 0) ≠ 0 → s.verifyBank 1 (bitAt m 1) = 0 → t.get F.MODULE_STATE_STATE = 3
          ∧ t.get F.BOOT_STATUS_BANK = 1 ∧ t.get F.BOOT_STATUS_FALLBACK = 1 ∧ t.boot.recovery = false)
        ∧ (s.verifyBank 0 (bitAt m 0) ≠ 0 → s.verifyBank 1 (bitAt m 1) ≠ 0 → t.get F.PWR_STATUS_HOLD_CAUSE = 2
          ∧ t.boot.recovery = true))
    ∧ (s.get F.MODULE_STATE_STATE = 3 → s.trained = true →
      ∃ t, exec .trainDone s = .next t ∧ t.get F.MODULE_STATE_STATE = 4 ∧ t.get F.SB_STATE_STATE = 4 ∧ sameBytes s t
        ∧ (s.get F.MAP_STATUS_GEN ≠ 0 → t.map = s.map ∧ regsBut [A.MODULE_STATE, A.SB_STATE, A.ALERT_CAUSE] s t)
        ∧ (s.get F.MAP_STATUS_GEN = 0 → t.get F.MAP_STATUS_GEN = 1 ∧ t.map.next = none))
    ∧ (s.get F.MODULE_STATE_STATE = 4 → s.admissible = true → s.pwr.missLog = false → s.pwr.dropLog = false →
        s.get F.BOOT_STATUS_TRIAL = 0 →
      ∃ t, exec .admitModule s = .next t ∧ t.get F.MODULE_STATE_STATE = 5 ∧ sameBytes s t)
    ∧ (s.get F.MODULE_STATE_STATE = 4 → s.admissible = false →
      exec .admitModule s = .next (s.bump F.PWR_STAT_ADMIT_REFUSED))
    ∧ (3 ≤ s.get F.MODULE_STATE_STATE → s.get F.MODULE_STATE_STATE ≤ 5 →
      ∃ t, exec .retireRequest s = .next t ∧ t.get F.MODULE_STATE_STATE = 6 ∧ t.get F.SEQ_CTRL_HOLD = 1 ∧ t.pwr.retireWait = 0
        ∧ t.pwr.retireStep = 0
        ∧ regsBut [A.MODULE_STATE, A.SB_STATE, A.ALERT_CAUSE, A.SEQ_CTRL] s t ∧ sameBytes s t)
    ∧ (s.get F.MODULE_STATE_STATE = 6 → s.pwr.retireStep = 0 → s.seqIdle = true → s.get F.SEQ_RETAIN_APPLY_PENDING = 0 →
      ∃ t, exec .retireDrain s = .next t ∧ t.pwr.retireStep ≠ 0 ∧ sameBytes s t
        ∧ ∀ n < 100, s.siteEnabled n = true → s.get (F.UNIT_STATE_STATE n) = 2 → t.get (F.UNIT_STATE_STATE n) = 3)
    ∧ (3 ≤ s.get F.MODULE_STATE_STATE → s.get F.MODULE_STATE_STATE ≤ 5 → 16 ≤ s.pwr.critMarks →
      ∃ t, exec .dieCritRetire s = .next t ∧ t.get F.MODULE_STATE_STATE = 6 ∧ t.pwr.critMarks = 0
        ∧ t.get F.PWR_TEMP_CRIT_RETIRE = (s.bump F.PWR_TEMP_CRIT_RETIRE).get F.PWR_TEMP_CRIT_RETIRE ∧ sameBytes s t)

/-- The reset domains (R461, R462): RST_STATUS says which and why; what each leaves. The release of MODRST_N ends the MODULE reset it held, and
the module goes on to TRAIN. -/
def Obligations.ResetDomains : Prop :=
  (∀ s : State, s.pwr.rails = true → s.pwr.modrst = true →
    ∃ t, exec .modrstNRelease s = .next t ∧ t.powered ∧ t.get F.MODULE_STATE_STATE = 3 ∧ sameBytes s t)
  ∧ ∀ s : State, s.powered →
    (∃ t, exec (.moduleReset false true) s = .next t ∧ t.get F.MODULE_STATE_STATE = 3
      ∧ (s.led.inFlight = [] → t.led.recs = s.led.recs) ∧ (∀ b ∈ t.led.pending, b.isMapOut = true) ∧ t.get F.ALERT_MASK_MASK = 0x3F
      ∧ t.get F.SB_ATTN_CAUSE = 0 ∧ t.seq = s.seqKept ∧ t.rt.held = [] ∧ t.fuse = s.fuse ∧ (∀ a, t.near.get a = s.near.get a)
      ∧ (∀ a, t.flashA.get a = s.flashA.get a) ∧ ∀ a, t.flashB.get a = s.flashB.get a)
    ∧ (∃ t, exec (.moduleReset true true) s = .next t ∧ t.pwr.rails = true ∧ t.pwr.modrst = true ∧ t.get F.RST_STATUS_DOMAIN = 0
      ∧ t.get F.RST_STATUS_CAUSE = 1 ∧ ∀ a, t.near.get a = s.near.get a)
    ∧ (∀ p, ∃ t, exec (.moduleReset p false) s = .next t ∧ t.get F.MODULE_STATE_STATE = 1 ∧ t.get F.RST_STATUS_DOMAIN = 6
      ∧ t.get F.RST_STATUS_CAUSE = 6 ∧ (s.led.inFlight = [] → t.led.recs = s.led.recs))
    ∧ (∃ t, exec .computeReset s = .next t ∧ t.get F.RST_STATUS_DOMAIN = 1 ∧ t.get F.RST_STATUS_CAUSE = 2 ∧ t.seq = s.seqKept
      ∧ ((∀ n < 100, (s.coreAt n).state ≠ 2) → sameBytes s t) ∧ ∀ n < 100, s.siteEnabled n = true → (t.coreAt n).state = 0)
    ∧ (∀ n < 100, s.siteEnabled n = true → ∃ t, exec (.coreReset n) s = .next t ∧ t.get F.RST_STATUS_DOMAIN = 2
      ∧ t.get F.RST_STATUS_CAUSE = 2 ∧ (t.coreAt n).state = 0 ∧ (t.coreAt n).pend = [] ∧ (t.coreAt n).queues = List.replicate 16 {}
      ∧ (∀ m, m ≠ n → t.coreAt m = s.coreAt m) ∧ ((s.coreAt n).state ≠ 2 → sameBytes s t))
    ∧ (∀ n < 16, ∃ t, exec (.stackReset n) s = .next t ∧ t.get F.RST_STATUS_DOMAIN = 3 ∧ t.get F.RST_STATUS_CAUSE = 2 ∧ sameBytes s t)
    ∧ (∀ p < 14, ∃ t, exec (.portReset p) s = .next t ∧ t.get F.RST_STATUS_DOMAIN = 4 ∧ t.get F.RST_STATUS_CAUSE = 2 ∧ sameBytes s t)
    ∧ (s.mgmt.inReset = false → ∃ t, exec (.managementReset true) s = .next t ∧ t.get F.RST_STATUS_DOMAIN = 5
      ∧ t.get F.RST_STATUS_CAUSE = 2 ∧ t.mgmt.inReset = true ∧ t.led.pending = s.led.inFlight ++ s.led.pending
      ∧ t.led.recs = s.led.recs ∧ sameBytes s t)
    ∧ (s.mgmt.inReset = true → ∃ t, exec .mgmtResume s = .next t ∧ t.mgmt.inReset = false ∧ t.get F.MGMT_STATUS_PRI_UP = 1
      ∧ t.get F.MGMT_STATUS_SEC_UP = 1 ∧ sameBytes s t)

/-- Hold-up measurement and the ledger (R433, R438, R440, R454, R455). Integers stand for the spec's quantities (log entry 40). -/
def Obligations.HoldupAndLedger : Prop :=
  ∀ s : State, s.powered →
    (s.get F.MODULE_STATE_STATE = 1 → s.pwr.measured = false → 2000 ≤ s.get F.HU_STATUS_V_BANK →
      exec .huMeasure s = .next { s with pwr := { s.pwr with measuring := true } })
    ∧ (s.get F.MODULE_STATE_STATE ≠ 1 → s.now % 50000 = 0 → s.pwr.measureDue = true → s.led.inFlight = [] →
      exec .huMeasure s = .next { s with pwr := { s.pwr with measuring := true, measureDue := false } })
    ∧ (∀ dv, 0 < dv → s.pwr.measuring = true → ∃ t, exec (.huMeasureDone dv) s = .next t
      ∧ t.get F.HU_MEAS_CAP = min ((4000000 + dv) / (2 * dv)) 65535 ∧ t.get F.HU_MEAS_AGE = 0 ∧ t.pwr.measured = true
      ∧ t.pwr.measuring = false ∧ t.get F.HU_STATUS_MEAS_VALID = 1
      ∧ regsBut [A.HU_MEAS, A.HU_STATUS, A.SB_HOLDUP] s t ∧ sameBytes s t)
    ∧ (s.mgmt.inReset = false → s.led.pending ≠ [] → s.led.inFlight = [] → s.pwr.measured = true → s.get F.HU_MEAS_AGE ≤ 128000 →
        800000000 ≤ s.get F.HU_MEAS_CAP * (s.get F.HU_STATUS_V_BANK ^ 2 - 1000000) →
      ∃ t, exec .ledgerCommit s = .next t ∧ t.led.inFlight = s.led.pending ∧ t.led.pending = [] ∧ t.led.recs = s.led.recs
        ∧ t.led.refusing = false ∧ regsBut [A.PWR_STATUS, A.SB_ATTN] s t ∧ sameBytes s t)
    ∧ (s.mgmt.inReset = false → s.led.pending ≠ [] → s.led.inFlight = [] → s.pwr.measured = false →
      ∃ t, exec .ledgerCommit s = .next t ∧ t.led = { s.led with refusing := true } ∧ sameBytes s t)
    ∧ (∀ b, s.led.inFlight = [b] → s.led.recs.length < 49152 → s.boot.trialPending = false → s.pwr.retireStep = 0 →
      ∃ t, exec .ledgerCommitDone s = .next t ∧ t.led.inFlight = []
        ∧ (∃ r, t.led.recs = s.led.recs ++ [r] ∧ r.body = b
          ∧ (∀ p, s.led.recs.getLast? = some p → r.seq = p.seq + 1 ∧ r.prev = shakeBytes 32 p.bytes)
          ∧ (s.led.recs = [] → r.seq = 1 ∧ r.prev = List.replicate 32 0))
        ∧ regsBut [A.LEDGER_STATUS] s t ∧ sameBytes s t)
    ∧ (s.led.refusing = true → ∃ t, exec .holdupRefuseTimeout s = .next t ∧ t.get F.PWR_STATUS_HOLD_CAUSE = 3
      ∧ regsBut [A.PWR_STATUS, A.SB_ATTN] s t ∧ sameBytes s t)

/-- Writing an image (R451, R453, R467), in the bank that did not boot; an operation on the bank that booted is refused with LAST_RESULT 1 and
changes nothing else. -/
def Obligations.WritingAnImage : Prop :=
  (∀ (s : State) (b : Nat), s.powered → b < 2 → s.boot.recovery = false → s.get F.BOOT_STATUS_BANK = b →
    exec (.flashErase b) s = .next (s.set F.FL_STATUS_LAST_RESULT 1) ∧ exec (.flashVerify b) s = .next (s.set F.FL_STATUS_LAST_RESULT 1)
      ∧ exec (.armTrial b) s = .next (s.set F.FL_STATUS_LAST_RESULT 1) ∧ exec (.disarm b) s = .next (s.set F.FL_STATUS_LAST_RESULT 1))
  ∧ ∀ (s : State) (b : Nat), s.powered → b < 2 → s.boot.recovery = false → s.get F.BOOT_STATUS_BANK = 1 - b →
    (s.boot.flashOp = none → ∃ t, exec (.flashErase b) s = .next t ∧ t.boot.flashOp = some (1, b) ∧ t.get F.FL_STATUS_BUSY = 1
      ∧ regsBut [A.FL_STATUS] s t ∧ sameBytes s t)
    ∧ (s.boot.flashOp = none → ∃ t, exec (.flashVerify b) s = .next t ∧ t.boot.flashOp = some (2, b) ∧ t.get F.FL_STATUS_BUSY = 1
      ∧ regsBut [A.FL_STATUS] s t ∧ sameBytes s t)
    ∧ (s.get F.FL_STATUS_VERIFIED = 1 → ∃ t, exec (.armTrial b) s = .next t
      ∧ (∃ a m, t.led.pending = s.led.pending ++ [.boot a true b m]) ∧ t.get F.FL_STATUS_LAST_RESULT = 0
      ∧ t.get F.LEDGER_STATUS_PENDING = 1 ∧ regsBut [A.FL_STATUS, A.LEDGER_STATUS] s t ∧ sameBytes s t)
    ∧ (s.get F.FL_STATUS_VERIFIED = 0 → ∃ t, exec (.armTrial b) s = .next t ∧ t.led = s.led ∧ t.get F.FL_STATUS_LAST_RESULT = 9)
    ∧ (∃ t, exec (.disarm b) s = .next t ∧ (∃ a k m, t.led.pending = s.led.pending ++ [.boot a false k m])
      ∧ t.get F.FL_STATUS_LAST_RESULT = 0 ∧ regsBut [A.FL_STATUS, A.LEDGER_STATUS] s t ∧ sameBytes s t)
    ∧ (∀ v : Word, s.get F.FL_STATUS_FREE ≠ 0 → s.get F.FL_ADDR_OFFSET % 8 = 0 → s.get F.FL_ADDR_OFFSET < 96 * 2 ^ 20 →
      ∃ t, exec (.flDataWrite v) s = .next t ∧ (t.flash b).load (s.get F.FL_ADDR_OFFSET) 8 = bytesOf 8 v.toNat
        ∧ (∀ a, a < s.get F.FL_ADDR_OFFSET ∨ s.get F.FL_ADDR_OFFSET + 8 ≤ a → (t.flash b).get a = (s.flash b).get a)
        ∧ (∀ a, (t.flash (1 - b)).get a = (s.flash (1 - b)).get a) ∧ (∀ a, t.near.get a = s.near.get a)
        ∧ t.get F.FL_ADDR_OFFSET = (s.get F.FL_ADDR_OFFSET + 8) % 2 ^ 27 ∧ t.get F.FL_STATUS_VERIFIED = 0
        ∧ regsBut [A.FL_STATUS, A.FL_ADDR] s t)
    ∧ (s.boot.flashOp = some (1, b) → ∃ t, exec (.flashOpDone true) s = .next t ∧ t.boot.flashOp = none
      ∧ t.get F.FL_STATUS_LAST_RESULT = 0 ∧ t.get F.FL_STATUS_VERIFIED = 0
      ∧ (∀ a, (t.flash (1 - b)).get a = (s.flash (1 - b)).get a) ∧ (∀ a, t.near.get a = s.near.get a)
      ∧ regsBut [A.FL_STATUS] s t)
    ∧ (s.boot.flashOp = some (2, b) → ∃ t, exec (.flashOpDone true) s = .next t ∧ t.boot.flashOp = none
      ∧ t.get F.FL_STATUS_LAST_RESULT = verifyResult (s.verifyBank b false)
      ∧ (t.get F.FL_STATUS_VERIFIED = 1 ↔ s.verifyBank b false = 0) ∧ regsBut [A.FL_STATUS] s t ∧ sameBytes s t)

/-- Identity (R457 to R460, R467). R459: an ATTEST or SUBMIT while BUSY is ignored and sets RESULT 1; a new operation empties the report, and
ID_DATA with SEL 1 reads zero until DONE. -/
def Obligations.Identity : Prop :=
  ∀ s : State, s.powered →
    (s.get F.ID_STATUS_BUSY = 0 → ∃ t, exec .attest s = .next t ∧ t.get F.ID_STATUS_BUSY = 1 ∧ t.get F.ID_STATUS_DONE = 0
      ∧ t.boot.idOp = some 1 ∧ t.boot.report = [] ∧ t.boot.reportNext.take 384 = s.attestReport
      ∧ regsBut [A.ID_STATUS] s t ∧ sameBytes s t)
    ∧ (s.get F.ID_STATUS_BUSY = 0 → ∃ t, exec .submit s = .next t ∧ t.get F.ID_STATUS_BUSY = 1 ∧ t.get F.ID_STATUS_DONE = 0
      ∧ t.boot.idOp = some 2 ∧ t.boot.report = [] ∧ regsBut [A.ID_STATUS] s t ∧ sameBytes s t)
    ∧ (s.get F.ID_STATUS_BUSY = 1 → exec .attest s = .next (s.set F.ID_STATUS_RESULT 1)
      ∧ exec .submit s = .next (s.set F.ID_STATUS_RESULT 1))
    ∧ (s.boot.idOp = some 1 → ∃ t, exec .idOpDone s = .next t ∧ t.get F.ID_STATUS_BUSY = 0 ∧ t.get F.ID_STATUS_DONE = 1
      ∧ t.get F.ID_STATUS_RESULT = 0 ∧ t.boot.report = s.boot.reportNext ∧ t.boot.idOp = none
      ∧ regsBut [A.ID_STATUS] s t ∧ sameBytes s t)
    ∧ (∀ v : Word, s.get F.ID_PTR_SEL = 3 → s.get F.ID_PTR_WORD < 3756 → ∃ t, exec (.idDataAccess true v) s = .next t
      ∧ (mapFind t.boot.blob (s.get F.ID_PTR_WORD)).getD 0 = v
      ∧ (∀ i, i ≠ s.get F.ID_PTR_WORD → mapFind t.boot.blob i = mapFind s.boot.blob i)
      ∧ t.get F.ID_PTR_WORD = s.get F.ID_PTR_WORD + 1 ∧ regsBut [A.ID_PTR] s t ∧ sameBytes s t)
    ∧ (s.get F.ID_PTR_SEL = 1 → s.boot.report = [] → s.idRead.1 = 0)
    ∧ ∀ v : Word, s.get F.ID_PTR_WORD < 3756 → ∃ t, exec (.idDataAccess false v) s = .next t
      ∧ t.get F.ID_PTR_WORD = s.get F.ID_PTR_WORD + 1 ∧ t.boot = s.boot ∧ regsBut [A.ID_PTR] s t ∧ sameBytes s t

/-- The quiesce contract (R463) of units that are no ports and no memory controllers. UNIT_STATE reads 0 OFF, 1 STARTING, 2 READY,
3 DRAINING, 4 DOWN. -/
def Obligations.QuiesceContract : Prop :=
  ∀ (s : State) (n : Nat), s.powered → n < 187 → entFixed n = false → s.absent n = false →
    (entIsPort n = false → s.get (F.UNIT_STATE_STATE n) = 0 ∨ s.get (F.UNIT_STATE_STATE n) = 4 →
      ∃ t, exec (.unitEnable n) s = .next t ∧ t.get (F.UNIT_STATE_STATE n) = 1 ∧ sameBytes s t)
    ∧ (s.get (F.UNIT_STATE_STATE n) = 3 → ∃ t, exec (.unitEnable n) s = .next t ∧ t.get (F.UNIT_STATE_ENABLE_PENDING n) = 1
      ∧ t.get (F.UNIT_STATE_STATE n) = 3 ∧ sameBytes s t)
    ∧ (s.get (F.UNIT_STATE_STATE n) = 1 ∨ s.get (F.UNIT_STATE_STATE n) = 2 → ∃ t, exec (.unitDrain n) s = .next t
      ∧ t.get (F.UNIT_STATE_STATE n) = 3 ∧ mapFind t.drains n = some s.now ∧ sameBytes s t)
    ∧ (entIsPort n = false → n < 100 ∨ 116 ≤ n → s.get (F.UNIT_STATE_STATE n) = 3 → s.get (F.UNIT_STATE_ENABLE_PENDING n) = 0 →
      ∃ t, exec (.unitDrainEnd n) s = .next t ∧ t.get (F.UNIT_STATE_STATE n) = 4 ∧ mapFind t.drains n = none ∧ sameBytes s t)
    ∧ (entIsPort n = false → n < 100 ∨ 116 ≤ n → s.get (F.UNIT_STATE_STATE n) = 1 →
      (∃ t, exec (.unitInitDone n false) s = .next t ∧ t.get (F.UNIT_STATE_STATE n) = 4 ∧ sameBytes s t)
      ∧ (n ≠ 158 → n ≠ 159 → ∃ t, exec (.unitInitDone n true) s = .next t ∧ t.get (F.UNIT_STATE_STATE n) = 2 ∧ sameBytes s t))

/-! ## Cores (chapters 03 to 05) -/

/-- The states of a core (R99, R101, R107), and the elements that land (R96). CORE_STATE reads 0 STOPPED, 1 RUNNING, 2 WAITING,
3 FROZEN, 4 HALTED. -/
def Obligations.CoreStates : Prop :=
  ∀ (s : State) (n : Nat), s.powered → s.shaped → n < 100 → s.siteEnabled n = true →
    ((s.coreAt n).state = 0 → s.get (F.CORE_CTRL_MODE n) = 0 → ∃ t, exec (.coreRun n) s = .next t ∧ (t.coreAt n).state = 1
      ∧ (t.coreAt n).pc = s.get (F.CORE_ENTRY_ENTRY_PC n) ∧ (t.coreAt n).rep = 0 ∧ (t.coreAt n).queues = List.replicate 16 {}
      ∧ (∀ m, m ≠ n → t.coreAt m = s.coreAt m) ∧ sameBytes s t
      ∧ regsBut [A.CORE_FAULT n, A.ACC_FLAGS n, A.TOP8_STATE n, A.CONV_BFP_POS n] s t)
    ∧ (s.get (F.CORE_CTRL_MODE n) = 1 → exec (.coreRun n) s = .next s)
    ∧ ((s.coreAt n).state = 1 ∨ (s.coreAt n).state = 2 → exec (.coreStop n) s
      = .next { s with cores := s.cores.set n { s.coreAt n with stopping := some 0 } })
    ∧ ((s.coreAt n).state = 3 ∨ (s.coreAt n).state = 4 → exec (.coreStop n) s
      = .next { s with cores := s.cores.set n { s.coreAt n with state := 0 } })
    ∧ ((s.coreAt n).stopping = some 0 → ∃ t, exec (.coreStopped n) s = .next t ∧ (t.coreAt n).state = 0
      ∧ (t.coreAt n).stopping = none)
    ∧ ((s.coreAt n).stopping = some 4 → ∃ t, exec (.coreHalted n) s = .next t ∧ (t.coreAt n).state = 4
      ∧ (t.coreAt n).stopping = none)
    ∧ ((s.coreAt n).stopping = some 3 → s.get (F.CORE_CTRL_MODE n) = 0 → (s.coreAt n).pend = [] →
      ∃ t, exec (.coreFreeze n) s = .next t ∧ (t.coreAt n).state = 3 ∧ (t.coreAt n).stopping = none)
    ∧ (∀ q f, q < 16 → (s.coreAt n).queues.length = 16 → ((s.coreAt n).queues.getD q {}).flight = [f] → (s.coreAt n).pend = [] →
        (s.coreAt n).cyc = f.due →
      ∃ t, exec (.elementPoppable n q) s = .next t
        ∧ ((t.coreAt n).queues.getD q {}).ready = ((s.coreAt n).queues.getD q {}).ready ++ [f.elem]
        ∧ ((t.coreAt n).queues.getD q {}).flight = [] ∧ (t.coreAt n).cyc = (s.coreAt n).cyc ∧ (∀ a, t.reg a = s.reg a)
        ∧ sameBytes s t)
    ∧ (∀ x y, (s.coreAt n).state = 0 ∨ (s.coreAt n).state = 4 → ∃ t, exec (.accFlagsClear n x y) s = .next t
      ∧ (∀ i < 32, (t.get (F.ACC_FLAGS_SAT n)).testBit i = ((s.get (F.ACC_FLAGS_SAT n)).testBit i && !x.testBit i))
      ∧ (∀ i < 32, (t.get (F.ACC_FLAGS_POISON n)).testBit i = ((s.get (F.ACC_FLAGS_POISON n)).testBit i && !y.testBit i))
      ∧ regsBut [A.ACC_FLAGS n] s t ∧ sameBytes s t)

/-- The SEQ operations at the last issue of a word (R78 to R81, R104). A core's own waits and halts take effect on the core alone.
The last part gives the whole of what each leaves when the word orders nothing else. -/
def Obligations.SequenceOperations : Prop :=
  (∀ (s : State) (n w : Nat), s.issuesWord n w → s.passes n w → (s.coreAt n).rep = cwRepeat w → (s.coreAt n).pc < 8191 →
    (seqOp w = 0 → ∃ t, exec (.next n 0) s = .next t ∧ issuedWord s t n w ∧ (t.coreAt n).pc = (s.coreAt n).pc + 1)
    ∧ (seqOp w = 1 → cwLop w = 0 → (s.coreAt n).body.length = 6 → (s.coreAt n).cnt.length = 6 →
      ∃ t, exec (.loopOpen n) s = .next t ∧ issuedWord s t n w ∧ (t.coreAt n).pc = (s.coreAt n).pc + 1
        ∧ (t.coreAt n).body.getD (cwSeqArg w % 8) none = some ((s.coreAt n).pc + 1)
        ∧ (t.coreAt n).cnt.getD (cwSeqArg w % 8) 0 = (s.coreAt n).trip.getD (cwSeqArg w % 8) 0)
    ∧ (∀ b, seqOp w = 2 → cwLop w = 0 → (s.coreAt n).cnt.length = 6 → (s.coreAt n).body.getD (cwSeqArg w % 8) none = some b →
      ∃ t, exec (.loopClose n) s = .next t ∧ issuedWord s t n w
        ∧ ((t.coreAt n).pc = if 1 < (s.coreAt n).cnt.getD (cwSeqArg w % 8) 0 then b else (s.coreAt n).pc + 1)
        ∧ (t.coreAt n).cnt.getD (cwSeqArg w % 8) 0 = (s.coreAt n).cnt.getD (cwSeqArg w % 8) 0 - 1)
    ∧ (seqOp w = 5 → ∃ t, exec (.halt n) s = .next t ∧ issuedWord s t n w ∧ (t.coreAt n).stopping = some 4
      ∧ (t.coreAt n).pc = (s.coreAt n).pc)
    ∧ (seqOp w = 3 → (s.coreAt n).rep = 0 →
        (s.atIssue n).seenValue n (cwSeqArg w % 32) < ((s.atIssue n).waitTarget n w : Int) →
      ∃ t, exec (.wait n) s = .next t ∧ (t.coreAt n).state = 2 ∧ (t.coreAt n).waitCtr = cwSeqArg w % 32
        ∧ (t.coreAt n).waitTgt = (s.atIssue n).waitTarget n w ∧ (t.coreAt n).waitTick = s.now
        ∧ (t.coreAt n).pc = (s.coreAt n).pc))
  ∧ ∀ (s : State) (n w : Nat), s.standsAt n 1 w →
    let c := s.coreAt n
    let l := cwSeqArg w % 8
    let goes := fun (cmd : Instr) (c' : Core) => ∃ t, exec cmd s = .next t ∧ coreGoes [] s t n c'
    (onlyParts [] w → goes (.next n 0) c.next)
    ∧ (onlyParts [.seq] w →
      (cwSeqOp w = 1 → l < 6 → goes (.loopOpen n) { c.next with body := c.body.set l (some (c.pc + 1)), cnt := c.cnt.set l (c.trip.getD l 0) })
      ∧ (∀ b, cwSeqOp w = 2 → l < 6 → c.body.getD l none = some b →
        (1 < c.cnt.getD l 0 → goes (.loopClose n) { c.spent with pc := b, cnt := c.cnt.set l (c.cnt.getD l 0 - 1) })
        ∧ (c.cnt.getD l 0 ≤ 1 → goes (.loopClose n) { c.next with cnt := c.cnt.set l 0 }))
      ∧ (cwSeqOp w = 5 → (∀ q ∈ c.queues, q.ready = []) →
        goes (.halt n) { c.spent with stopping := some 4, packers := [{}, {}] })
      ∧ (cwSeqOp w = 3 → cwSeqArg w / 1024 = 0 → c.lateSig = none →
        let k := cwSeqArg w % 32
        (s.get (F.CNT_VALUE n k) < cwImm w →
          goes (.wait n) { c with state := 2, waitCtr := k, waitTgt := cwImm w, waitTick := s.now })
        ∧ (cwImm w ≤ s.get (F.CNT_VALUE n k) → s.throttle = 0 → goes (.wait n) { c.next with since := 1 })))

/-- A WAIT whose counter has reached its target issues, and a waiting core goes on once it has (R104); a core that has waited longer
than its limit raises WAIT_TIMEOUT and freezes (R105); a word whose check bits show a double-bit error is not issued (R109).
The last part gives the whole of what a release and a timeout leave of a core that waits at a plain word. -/
def Obligations.WaitsAndWordErrors : Prop :=
  (∀ (s : State) (n : Nat), s.powered → s.shaped → n < 100 → s.siteEnabled n = true → (s.coreAt n).stopping = none →
    (∀ w, s.issuesWord n w → seqOp w = 3 → (s.coreAt n).rep = 0 →
        ((s.atIssue n).waitTarget n w : Int) ≤ (s.atIssue n).seenValue n (cwSeqArg w % 32) →
      exec (.wait n) s = .next ((s.atIssue n).waitIssue n w))
    ∧ ((s.coreAt n).state = 2 → (s.coreAt n).waitTgt ≤ (s.waitNow n).get (F.CNT_VALUE n (s.coreAt n).waitCtr) →
      exec (.waitRelease n) s = .next ((s.waitNow n).waitIssue n ((s.waitNow n).fetchWord n (s.coreAt n).pc)))
    ∧ ((s.coreAt n).state = 2 → s.get (F.CORE_WAIT_LIMIT_LIMIT n) ≠ 0 →
        (s.coreAt n).waitTick + s.get (F.CORE_WAIT_LIMIT_LIMIT n) + 1 ≤ s.now →
        (s.waitNow n).get (F.CNT_VALUE n (s.coreAt n).waitCtr) < (s.coreAt n).waitTgt →
      ∃ t, exec (.waitTimeout n) s = .next t ∧ (t.coreAt n).stopping = some 3 ∧ (t.coreAt n).state = 2)
    ∧ ((s.coreAt n).state = 1 → ∃ t, exec (.next n 2) s = .next t ∧ (t.coreAt n).stopping = some 3 ∧ (t.coreAt n).state = 1
      ∧ (t.coreAt n).pc = (s.coreAt n).pc))
  ∧ ∀ (s : State) (n w : Nat), s.standsAt n 2 w →
    let c := s.coreAt n
    let gap := (s.now - c.waitTick - 1) * 20 + 1
    s.cad.markTaken = none →
    (cwSeqOp w = 3 → onlyParts [.seq] w → cwSeqArg w / 1024 = 0 → s.throttle = 0 → c.waitTgt ≤ s.get (F.CNT_VALUE n c.waitCtr) →
      ∃ t, exec (.waitRelease n) s = .next t ∧ coreGoes [] s t n
        { c.next with state := 1, cyc := c.cyc + gap + 1, waited := c.waited + gap, since := 1 })
    ∧ (s.get (F.CNT_VALUE n c.waitCtr) < c.waitTgt → s.get (F.CORE_WAIT_LIMIT_LIMIT n) ≠ 0 →
        c.waitTick + s.get (F.CORE_WAIT_LIMIT_LIMIT n) + 1 ≤ s.now → s.get (F.CORE_FAULT_COUNT n) = 0 →
      ∃ t, exec (.waitTimeout n) s = .next t
        ∧ t.coreAt n = { c with cyc := c.cyc + gap, waited := c.waited + gap, stopping := some 3 }
        ∧ t.get (F.CORE_FAULT_FIRST_CODE n) = 0x0106 ∧ t.get (F.CORE_FAULT_PC n) = c.pc ∧ t.get (F.CORE_FAULT_COUNT n) = 1
        ∧ regsBut [A.CORE_FAULT n, A.FAULT_LOST] s t ∧ sameBytes s t)

/-- The LOOP operations at the first issue of a word (R80, R81).
The last part gives the whole of what each leaves when the word orders nothing else. -/
def Obligations.LoopOperations : Prop :=
  (∀ (s : State) (n w : Nat), s.issuesWord n w → s.passes n w → s.noWait n w → (s.coreAt n).rep = 0 → cwLsel w < 6 →
      (s.coreAt n).trip.length = 6 → (s.coreAt n).cnt.length = 6 →
    (cwLop w = 1 → ∃ t, exec (.loopTripImm n) s = .next t ∧ issuedWord s t n w ∧ (t.coreAt n).trip.getD (cwLsel w) 0 = cwTripImm w)
    ∧ (cwLop w = 2 → ∃ t, exec (.loopTripReg n) s = .next t ∧ issuedWord s t n w
      ∧ (t.coreAt n).trip.getD (cwLsel w) 0 = ((s.atIssue n).commitBundle n w).get (F.LOOP_TRIP_TRIP n (cwLsel w)))
    ∧ (cwLop w = 3 → cwRepeat w ≠ 0 ∨ seqOp w = 0 → ∃ t, exec (.loopStep n) s = .next t ∧ issuedWord s t n w
      ∧ (t.coreAt n).cnt.getD (cwLsel w) 0 = (s.coreAt n).cnt.getD (cwLsel w) 0 - 1))
  ∧ ∀ (s : State) (n w : Nat), s.standsAt n 1 w → onlyParts [.loop] w → cwLsel w < 6 →
    let c := s.coreAt n
    let l := cwLsel w
    let goes := fun (cmd : Instr) (c' : Core) => ∃ t, exec cmd s = .next t ∧ coreGoes [] s t n c'
    (cwLop w = 1 → goes (.loopTripImm n) { c.next with trip := c.trip.set l (cwTripImm w) })
    ∧ (cwLop w = 2 → goes (.loopTripReg n) { c.next with trip := c.trip.set l (s.get (F.LOOP_TRIP_TRIP n l)) })
    ∧ (cwLop w = 3 → goes (.loopStep n) { c.next with cnt := c.cnt.set l (c.cnt.getD l 0 - 1) })

/-- The address generators' commands (R82, R83): where each leaves the indices.
The last part gives the whole of what each leaves when the word orders nothing else. -/
def Obligations.AddressGenerators : Prop :=
  (∀ (s : State) (n w a : Nat), s.issuesWord n w → s.passes n w → s.noWait n w → a < 6 →
      (s.coreAt n).agIdx.length = 6 → (s.coreAt n).agSet.length = 6 →
    let c := s.coreAt n
    let counts := ((s.atIssue n).commitBundle n w).agCount n a (c.agSet.getD a 0)
    (∀ l, agCmd (cwAg w a) = .issueStep l → ∃ t, exec (.issueStep n a) s = .next t ∧ issuedWord s t n w
      ∧ (t.coreAt n).agIdx.getD a [] = agAdvance counts l (c.agIdx.getD a []))
    ∧ (agCmd (cwAg w a) = .issue → ∃ t, exec (.issue n a) s = .next t ∧ issuedWord s t n w
      ∧ (t.coreAt n).agIdx.getD a [] = c.agIdx.getD a [])
    ∧ (∀ l, agCmd (cwAg w a) = .step l → ∃ t, exec (.agStep n a) s = .next t ∧ issuedWord s t n w
      ∧ (t.coreAt n).agIdx.getD a [] = agAdvance counts l (c.agIdx.getD a []))
    ∧ (agCmd (cwAg w a) = .reset → ∃ t, exec (.agReset n a) s = .next t ∧ issuedWord s t n w
      ∧ (t.coreAt n).agIdx.getD a [] = [0, 0, 0, 0, 0, 0])
    ∧ (∀ k, agCmd (cwAg w a) = .select k → ∃ t, exec (.agSelect n a) s = .next t ∧ issuedWord s t n w
      ∧ (t.coreAt n).agSet.getD a 0 = k ∧ (t.coreAt n).agIdx.getD a [] = [0, 0, 0, 0, 0, 0])
    ∧ (agCmd (cwAg w a) = .flush → ∃ t, exec (.flush n a) s = .next t ∧ issuedWord s t n w
      ∧ (t.coreAt n).agIdx.getD a [] = c.agIdx.getD a []))
  ∧ ∀ (s : State) (n w a : Nat), s.standsAt n 1 w → onlyParts [.ag] w → a < 6 → (∀ b < 6, b ≠ a → cwAg w b = 0) →
    let c := s.coreAt n
    let cmd := agCmd (cwAg w a)
    let goes := fun (i : Instr) (c' : Core) => ∃ t, exec i s = .next t ∧ coreGoes [] s t n c'
    let advanced := fun l => c.agIdx.set a (agAdvance (s.agCount n a (c.agSet.getD a 0)) l (c.agIdx.getD a []))
    let fresh := if a < 4 then c.tbuf.set a {} else c.tbuf
    let q := s.agQueue n c a
    let addr := s.agAddr n c a
    (∀ l, cmd = .step l → goes (.agStep n a) { c.next with agIdx := advanced l })
    ∧ (cmd = .reset → goes (.agReset n a) { c.next with agIdx := c.agIdx.set a [0, 0, 0, 0, 0, 0], tbuf := fresh })
    ∧ (∀ k, cmd = .select k → goes (.agSelect n a)
      { c.next with agIdx := c.agIdx.set a [0, 0, 0, 0, 0, 0], agSet := c.agSet.set a k, tbuf := fresh })
    ∧ (cmd = .flush → s.agTranspose n c a = false → goes (.flush n a) c.next)
    ∧ (cmd = .flush → s.agTranspose n c a = true → (c.tbuf.getD a {}).full = [] → (c.tbuf.getD a {}).fill ≠ [] → s.roomFor n q →
      let rows := (c.tbuf.getD a {}).fill
      goes (.flush n a) { (c.push q (c.cyc + 6) (columnOf rows (s.agWidth n c a) 0)).next with
        tbuf := c.tbuf.set a { fill := [], full := rows, pushed := 1 } })
    ∧ (a < 4 → s.agTranspose n c a = false → s.agOut n c a = none → c.srun = [] → s.roomFor n q →
      let read := (c.push q (c.cyc + 6) (s.core.load (storeAddr n addr) 128)).next
      (cmd = .issue → goes (.issue n a) read) ∧ ∀ l, cmd = .issueStep l → goes (.issueStep n a) { read with agIdx := advanced l })
    ∧ ∀ bs, 4 ≤ a → s.agOut n c a = none → c.offers q bs →
      let wrote := { (c.pop q).2.next with pend := [⟨c.cyc + 3, 0, .store addr bs⟩] }
      (cmd = .issue → goes (.issue n a) wrote) ∧ ∀ l, cmd = .issueStep l → goes (.issueStep n a) { wrote with agIdx := advanced l }

/-- R83: an advance at level l clears the levels below l, adds 1 at l and carries a full level into the next; level 5 wraps. -/
def Obligations.AdvanceCounts : Prop :=
  ∀ (count : Nat → Nat) (l : Nat) (idx : List Nat), idx.length = 6 → l < 6 → (∀ k < 6, idx.getD k 0 < count k) →
    (agAdvance count l idx).length = 6
      ∧ (∀ k < 6, (agAdvance count l idx).getD k 0 < count k)
      ∧ (∀ k < l, (agAdvance count l idx).getD k 0 = 0)
      ∧ (idx.getD l 0 + 1 < count l → (agAdvance count l idx).getD l 0 = idx.getD l 0 + 1
        ∧ ∀ k, l < k → k < 6 → (agAdvance count l idx).getD k 0 = idx.getD k 0)
      ∧ (idx.getD l 0 + 1 = count l → (agAdvance count l idx).getD l 0 = 0
        ∧ (l < 5 → idx.getD (l + 1) 0 + 1 < count (l + 1) → (agAdvance count l idx).getD (l + 1) 0 = idx.getD (l + 1) 0 + 1))

/-- The tensor operations (R86, R128): a word that loads fills the shadow buffer from the element popped; a word that computes sends its
updates to the accumulator 12 cycles later (R93); SWAP exchanges the buffers. `s.atIssue n` is the state the bundle reads, and the bundle's
parts take the elements popped.
The last part gives the whole of what each leaves when the word orders nothing else. -/
def Obligations.TensorOperations : Prop :=
  (∀ (s : State) (n w : Nat), s.issuesWord n w → s.passes n w → s.noWait n w →
    (tmode s.fuse.s0 w = 1 → ∃ t, exec (.load n) s = .next t ∧ issuedWord s t n w)
    ∧ (tmode s.fuse.s0 w = 2 → ∃ t, exec (.mac n) s = .next t ∧ issuedWord s t n w)
    ∧ (tmode s.fuse.s0 w = 3 → ∃ t, exec (.macLoad n) s = .next t ∧ issuedWord s t n w)
    ∧ (tmode s.fuse.s0 w = 4 → ∃ t, exec (.macInit n) s = .next t ∧ issuedWord s t n w)
    ∧ (tmode s.fuse.s0 w = 5 → ∃ t, exec (.macInitLoad n) s = .next t ∧ issuedWord s t n w)
    ∧ (cwSwap w = true → tensorReserved s.fuse.s0 w = false → ∃ t, exec (.swap n) s = .next t ∧ issuedWord s t n w)
    ∧ (∀ (x : State) popped bs, x.shaped → mapFind popped (cwSrcB w) = some bs →
      ((x.doLoad n w popped).coreAt n).shadow = loadShadow (x.coreAt n).shadow (x.coreAt n).shPtr (cwFmtB w) (cwTrb w) bs
      ∧ ((x.doLoad n w popped).coreAt n).shPtr = ((x.coreAt n).shPtr + loadStep (cwFmtB w)) % 256)
    ∧ (∀ (x : State) popped bs init, x.shaped → mapFind popped (cwSrcA w) = some bs → (x.coreAt n).held = none →
      ∀ p ∈ ((x.doMac n w init popped).coreAt n).pend, p ∈ (x.coreAt n).pend
        ∨ (p.due = (x.coreAt n).cyc + 12 ∧ ∃ u, p.op = .mac u ∧ u.tile = cwTile w ∧ u.init = init ∧ u.fa = cwFmtA w
          ∧ u.fb = cwFmtB w ∧ u.stat = (x.coreAt n).active))
    ∧ (∀ x : State, x.shaped → cwSwap w = true → tensorReserved x.fuse.s0 w = false →
      ((x.swapAct n w).coreAt n).active = (x.coreAt n).shadow ∧ ((x.swapAct n w).coreAt n).shadow = (x.coreAt n).active
        ∧ ((x.swapAct n w).coreAt n).shPtr = 0))
  ∧ ∀ (s : State) (n w : Nat), s.standsAt n 1 w → onlyParts [.tensor, .ends] w →
    let c := s.coreAt n
    let a := cwSrcA w
    let b := cwSrcB w
    let qa := endQueue (cwPop w a)
    let qb := endQueue (cwPop w b)
    (cwTmode w = 0 → cwSwap w = true → endsAre w [] [] →
      ∃ t, exec (.swap n) s = .next t ∧ coreGoes [] s t n { c.next with active := c.shadow, shadow := c.active, shPtr := 0 })
    ∧ (cwSwap w = false →
      (∀ bs, tmode s.fuse.s0 w = 1 → endsAre w [b] [] → c.offers qb bs →
        ∃ t, exec (.load n) s = .next t ∧ coreGoes [] s t n ((c.pop qb).2.loads w bs).next)
      ∧ (c.held = none →
        let mac := fun (m : Nat) (cmd : Instr) (init : Bool) (taken : Core) (bs : List Byte) (last : Core → Core) =>
          tmode s.fuse.s0 w = m → ∃ t, exec cmd s = .next t ∧ coreGoes [A.ACC_TYPE n] s t n (last (taken.macs w init bs)).next
            ∧ ∀ i < 32, (t.get (F.ACC_TYPE_INT n)).testBit i
              = if i = cwTile w then family (cwFmtA w) == 2 else (s.get (F.ACC_TYPE_INT n)).testBit i
        (∀ bs, endsAre w [a] [] → c.offers qa bs → mac 2 (.mac n) false (c.pop qa).2 bs id ∧ mac 4 (.macInit n) true (c.pop qa).2 bs id)
        ∧ ∀ x y, a ≠ b → qa ≠ qb → endsAre w [a, b] [] → c.offers qa x → c.offers qb y →
          let taken := ((c.pop qa).2.pop qb).2
          mac 3 (.macLoad n) false taken x (·.loads w y) ∧ mac 5 (.macInitLoad n) true taken x (·.loads w y)))

/-- A vector operation is carried out in an issue of its word (R89, R155), and its lanes are what the operation says. VFMT 0 is 128 lanes of
FP32. `f32 c` is the number the FP32 code c stands for, and `ffF32.round` the code nearest to a number, ties to even, infinity beyond the
largest. What MAX, MIN, ABS and NEG give for a NaN, and for two zeros of opposite sign, is open (log entry 25).
The last part gives the whole of what each leaves when the word orders nothing else. -/
def Obligations.VectorArithmetic : Prop :=
  (∀ (s : State) (n w : Nat), s.issuesWord n w → s.passes n w → s.noWait n w → s.fuse.s0 = false →
    let op := fun (v : Nat) (c : Instr) (f : Nat → Nat → Nat → Nat) =>
      (vop false w = v → ∃ t, exec c s = .next t ∧ issuedWord s t n w)
      ∧ ∀ (x : State) (k : Core) popped row, cwVop w = v → cwVfmt w = 0 → ∀ i < 128,
        valueAt (x.vecResult n k w popped row).1 32 i = f (valueAt (x.vecOperand n k w popped row (cwVsrcA w)).1 32 i)
          (valueAt ((x.vecOperand n k w popped row (cwVsrcA w)).2.vecOperand n k w popped row (cwVsrcB w)).1 32 i)
          (valueAt (k.vregs.getD (cwVreg w) []) 32 i) % 2 ^ 32
    ((vop false w = 1 → ∃ t, exec (.move n) s = .next t ∧ issuedWord s t n w)
      ∧ ∀ (x : State) (k : Core) popped row, cwVop w = 1 →
        (x.vecResult n k w popped row).1 = (x.vecOperand n k w popped row (cwVsrcA w)).1)
    ∧ op 2 (.add n) (fun a b _ => ffF32.round ((f32 a).add (f32 b)))
    ∧ op 3 (.sub n) (fun a b _ => ffF32.round ((f32 a).add (f32 b).neg))
    ∧ op 4 (.mul n) (fun a b _ => ffF32.round ((f32 a).mul (f32 b)))
    ∧ op 5 (.fma n) (fun a b c => ffF32.round (((f32 a).mul (f32 b)).add (f32 c))))
  ∧ (∀ (s : State) (n w : Nat), s.issuesWord n w → s.passes n w → s.noWait n w → s.fuse.s0 = false →
    let op := fun (v : Nat) (c : Instr) => vop false w = v → ∃ t, exec c s = .next t ∧ issuedWord s t n w
    op 6 (.max n) ∧ op 7 (.min n) ∧ op 8 (.abs n) ∧ op 9 (.neg n) ∧ op 17 (.cmpGt n) ∧ op 18 (.select n)
    ∧ ∀ a b c : Nat, a < 2 ^ 32 → b < 2 ^ 32 → f32 a ≠ .nan → f32 b ≠ .nan →
      ((f32 a).lt (f32 b) = true → laneOp 6 0 a b c = b ∧ laneOp 7 0 a b c = a)
      ∧ ((f32 b).lt (f32 a) = true → laneOp 6 0 a b c = a ∧ laneOp 7 0 a b c = b)
      ∧ laneOp 8 0 a b c = a % 2 ^ 31 ∧ laneOp 9 0 a b c = (a + 2 ^ 31) % 2 ^ 32
      ∧ laneOp 17 0 a b c = (Config.cmpCode ((f32 b).lt (f32 a)) 0).toNat % 2 ^ 32)
  ∧ ∀ (s : State) (n w : Nat),
    let x := fun i => valueAt (s.rowBytes n w) 32 i
    let y := fun i => valueAt (s.vregBytes n w) 32 i
    let does := fun (v : Nat) (cmd : Instr) (p : List Byte → Prop) => s.vectorWord n w v 0 4 →
      ∃ t bs, exec cmd s = .next t ∧ s.vectorGoes t [] n w bs ∧ p bs
    let lanes := fun (f : Nat → Nat → Nat) bs => ∀ i < 128, valueAt bs 32 i = f (x i) (y i) % 2 ^ 32
    does 1 (.move n) (· = s.rowBytes n w)
    ∧ does 2 (.add n) (lanes fun a b => ffF32.round ((f32 a).add (f32 b)))
    ∧ does 3 (.sub n) (lanes fun a b => ffF32.round ((f32 a).add (f32 b).neg))
    ∧ does 4 (.mul n) (lanes fun a b => ffF32.round ((f32 a).mul (f32 b)))
    ∧ does 5 (.fma n) (lanes fun a b => ffF32.round (((f32 a).mul (f32 b)).add (f32 b)))
    ∧ does 6 (.max n) (lanes fun a b => laneOp 6 0 a b b) ∧ does 7 (.min n) (lanes fun a b => laneOp 7 0 a b b)
    ∧ does 8 (.abs n) (lanes fun a b => laneOp 8 0 a b b) ∧ does 9 (.neg n) (lanes fun a b => laneOp 9 0 a b b)
    ∧ does 17 (.cmpGt n) (lanes fun a b => laneOp 17 0 a b b)
    ∧ does 18 (.select n) (fun bs => ∀ i < 128, valueAt bs 32 i = x i ∨ valueAt bs 32 i = y i)

/-- The approximating operations, the reductions and the pairs (R136, R151, R152, R155, R167, R168) are carried out in an issue of their
word. ROWSUM adds neighbours in a tree of eight levels; ROWMAX gives the largest value and the first of equals; with BCAST the result
stands in every lane, else in lane 0 alone.
The last part gives the whole of what each leaves when the word orders nothing else. -/
def Obligations.VectorReductions : Prop :=
  (∀ (s : State) (n w : Nat), s.issuesWord n w → s.passes n w → s.noWait n w → s.fuse.s0 = false →
    let op := fun (v : Nat) (c : Instr) => vop false w = v → ∃ t, exec c s = .next t ∧ issuedWord s t n w
    op 10 (.recip n) ∧ op 11 (.rsqrt n) ∧ op 12 (.exp2 n) ∧ op 13 (.log2 n) ∧ op 14 (.rowsum n) ∧ op 15 (.rowmax n) ∧ op 16 (.top8 n)
    ∧ op 19 (.scale n) ∧ op 20 (.drawmask n) ∧ op 21 (.pairAdd n) ∧ op 22 (.pairMul n) ∧ op 23 (.pairSplit n)
    ∧ (∀ l : List Nat, l.length = 128 → ∀ b i, i < 128 → (rowReduce false 0 false b l 0).getD i 0
      = if i = 0 ∨ b = true then treeSum 8 l else 0)
    ∧ (∀ a b : Nat, treeSum 1 [a, b] = ffF32.round ((f32 a).add (f32 b)))
    ∧ ∀ l : List Nat, l ≠ [] → (∀ c ∈ l, f32 c ≠ .nan) → maxFirst l ∈ l ∧ ∀ c ∈ l, (f32 (maxFirst l)).lt (f32 c) = false)
  ∧ ∀ (s : State) (n w : Nat),
    let row := valuesOf (s.rowBytes n w) 32 128
    let x := fun i => valueAt (s.rowBytes n w) 32 i
    let y := fun i => valueAt (s.vregBytes n w) 32 i
    let z := fun i => valueAt (s.vregBytes n w) 64 i
    let does := fun (v f a : Nat) (cmd : Instr) (l : List Nat) (p : List Byte → Prop) => s.vectorWord n w v f a →
      ∃ t bs, exec cmd s = .next t ∧ s.vectorGoes t l n w bs ∧ p bs
    let lanes := fun (f : Nat → Nat) bs => ∀ i < 128, valueAt bs 32 i = f i % 2 ^ 32
    let sums := fun (v : Nat) (cmd : Instr) => does v 0 4 cmd []
      (lanes fun i => (rowReduce (v == 15) 0 (bitAt (cwVmod w) 0) (bitAt (cwVmod w) 1) row (y 0)).getD i 0)
    let pairs := fun (v : Nat) (cmd : Instr) => does v 2 5 cmd [] fun bs => ∀ i < 64, valueAt bs 64 i = pairOp v (z i) (z i) % 2 ^ 64
    does 10 0 4 (.recip n) [] (lanes fun i => laneOp 10 0 (x i) (y i) (y i)) ∧ does 11 0 4 (.rsqrt n) [] (lanes fun i => laneOp 11 0 (x i) (y i) (y i))
    ∧ does 12 0 4 (.exp2 n) [] (lanes fun i => laneOp 12 0 (x i) (y i) (y i)) ∧ does 13 0 4 (.log2 n) [] (lanes fun i => laneOp 13 0 (x i) (y i) (y i))
    ∧ sums 14 (.rowsum n) ∧ sums 15 (.rowmax n)
    ∧ (bitAt (cwVmod w) 0 = false → does 16 0 4 (.top8 n) [A.TOP8_STATE n] fun bs =>
      let best := top8 (bitAt (cwVmod w) 1) ((List.range 128).map fun i => (x i, i))
      ∀ i < 8, valueAt bs 32 i = (best.getD i (0, 0)).1 ∧ valueAt bs 32 (i + 8) = (best.getD i (0, 0)).2)
    ∧ does 19 0 4 (.scale n) [] (lanes fun i => ffF32.round ((f32 (x i)).mul (s.factor n (s.bankOf n) (cwVmod w) i (s.vectorRow n w).1)))
    ∧ does 20 0 4 (.drawmask n) [] (fun bs => bs.length = 512) ∧ pairs 21 (.pairAdd n) ∧ pairs 22 (.pairMul n)
    ∧ (s.standsAt n 1 w → onlyParts [.vector, .ends] w → endsAre w [] [0, 1] → s.fuse.s0 = false → (s.coreAt n).srun = [] → cwVop w = 23 →
        cwVfmt w = 0 → cwVsrcA w = 4 → cwVsrcB w = 5 → cwVrowctl w ≠ 3 →
      let c := s.coreAt n
      let p := endQueue (cwPush w 0)
      let q := endQueue (cwPush w 1)
      p ≠ q → s.roomFor n p → s.roomFor n q → ∃ t hs ls, exec (.pairSplit n) s = .next t
        ∧ coreGoes [] s t n { ((c.push p (c.cyc + 8) hs).push q (c.cyc + 8) ls).next with vPtr := (s.vectorRow n w).2 }
        ∧ ∀ i < 64, let k := if bitAt (cwVmod w) 0 then 64 + i else i
          valueAt hs 16 i = (splitLane (x k)).1 % 2 ^ 16 ∧ valueAt ls 16 i = (splitLane (x k)).2 % 2 ^ 16)

/-- Conversion commands (R138, R143, R144, R147, R175) are carried out in an issue of their word; lane l of draw n under a seed, in arithmetic
modulo 2^64, is as the program of R143 writes it.
The third part gives the whole of what each leaves when an FP32 accumulator row fills a packer of an 8-bit format and the word orders nothing
else. -/
def Obligations.Conversions : Prop :=
  (∀ (s : State) (n w : Nat), s.issuesWord n w → s.passes n w → s.noWait n w →
    let on := convOn s.fuse.s0 w = true
    let done := fun (c : Instr) => ∃ t, exec c s = .next t ∧ issuedWord s t n w
    (on → (cwConv w).cto < 14 → done (.conv n)) ∧ (on → (cwConv w).cto = 14 → done (.functionTable n))
    ∧ (on → (cwConv w).cto = 15 → done (.derivativeTable n)) ∧ (on → (cwConv w).rmax = true → done (.historyCapture n))
    ∧ (cwRdraw w = true → done (.rdraw n))
    ∧ (∀ (x : State) (b row i c : Nat) (ci : ConvIn), ci.cto < 12 → ci.cfrom ≠ 12 → ¬ (ci.cfrom = 2 ∧ ci.cto = 1) →
      x.convOne n b row ci .near i c = (encodeFmt ci.cto .near ((decodeFmt ci.cfrom c).mul (x.factor n b ci.ssel i row)),
        decodeFmt ci.cfrom c))
    ∧ ∀ (x : State) (b row i c : Nat) (ci : ConvIn), ci.cto = 12 → x.convOne n b row ci .near i c
      = (encodeFmt 12 .near (((if ci.cfrom = 12 then (decodeFmt 12 c).scale2 (x.bfpExp n) else decodeFmt ci.cfrom c)).scale2 (-(x.bfpExp n))),
        if ci.cfrom = 12 then (decodeFmt 12 c).scale2 (x.bfpExp n) else decodeFmt ci.cfrom c))
  ∧ (∀ (s : State) (n w : Nat), s.standsAt n 1 w →
    let c := s.coreAt n
    let ci := cwConv w
    let q := endQueue (cwPush w ci.cdst)
    let one := fun i => s.convOne n (s.bankOf n) (s.vectorRow n w).1 ci .near i (valueAt (s.rowBytes n w) 32 i)
    let caps := if ci.rmax then (List.range 128).flatMap fun i => if (one i).2.isFin then
        [(s.capIndex n ci.chist i (s.vectorRow n w).1, (ffF32.roundSat (one i).2.abs).1)] else []
      else []
    let goes := fun (cmd : Instr) => ∃ t, exec cmd s = .next t ∧ coreGoes [A.CONV_TAG_A n ci.ctag, A.CONV_TAG_B n ci.ctag] s t n
      { (c.push q (c.cyc + 7) (packValues 8 ((List.range 128).map fun i => (one i).1.1))).next with
        vPtr := (s.vectorRow n w).2, pend := if caps = [] then [] else [⟨c.cyc + 7, 0, .cap ci.chist (s.bankOf n) caps⟩] }
    (onlyParts [.conv, .ends] w → endsAre w [] [ci.cdst] → convOn s.fuse.s0 w = true → ci.csrc = 4 → ci.cfrom = 10 → ci.rnd = 0 →
        cwVrowctl w ≠ 3 → c.srun = [] → c.holder = none → c.packers.getD ci.cdst {} = {} → fmtWidth (s.targetFmt n ci.cto) = 8 → s.roomFor n q →
      (ci.cto < 14 → goes (.conv n)) ∧ (ci.cto = 14 → goes (.functionTable n)) ∧ (ci.cto = 15 → goes (.derivativeTable n))
      ∧ (ci.rmax = true → goes (.historyCapture n)))
    ∧ (onlyParts [.draw] w → cwRdraw w = true → ∃ t, exec (.rdraw n) s = .next t ∧ coreGoes [A.RNG_COUNT n] s t n c.next
      ∧ t.get (F.RNG_COUNT_COUNT n) = (s.get (F.RNG_COUNT_COUNT n) + 1) % 2 ^ 64))
  ∧ ∀ seed n l : Nat, seed < 2 ^ 64 →
    let mix := fun x : Nat => (x ^^^ (x / 2 ^ 29)) * 0xA24BAED4963EE407 % 2 ^ 64
    let x := mix (mix (mix ((n * 128 + l) % 2 ^ 64 ^^^ seed)))
    drawLane seed n l = (x ^^^ (x / 2 ^ 32)) % 2 ^ 32

/-- R132: a UE8M4 slot is 2^(e − 127) × (1 + f/16), given as (16 + f) × 2^(e − 131); an exponent field of 255 acts as 254; 0x07F0 is 1.0.
What is written to the scale file keeps bits 15:12 of each slot zero. -/
def Obligations.ScaleSlots : Prop :=
  (∀ e f : Nat, e < 255 → f < 16 → ue8m4 (e * 16 + f) = (16 + f, (e : Int) - 131))
    ∧ (∀ f : Nat, f < 16 → ue8m4 (255 * 16 + f) = (16 + f, 254 - 131)) ∧ ue8m4 0x07F0 = (16, -4)
    ∧ ∀ (s : State) (n b j : Nat) (v : Word), s.powered → n < 100 → b < 2 → 32 ≤ j → j < 2048 → s.boot.recovery = false →
        s.siteEnabled n = true → s.serves (entCore n) = true → (s.coreAt n).state ≠ 1 → (s.coreAt n).state ≠ 2 →
        s.get (F.CONV_STATUS_AUTO_BUSY n) = 0 →
      ∃ t, exec (.registerWrite (A.SCALE_WORD n b j) v) s = .next t
        ∧ (∀ i < 4, bits (t.reg (A.SCALE_WORD n b j)) (16 * i + 15) (16 * i + 12) = 0
          ∧ bits (t.reg (A.SCALE_WORD n b j)) (16 * i + 11) (16 * i) = bits v (16 * i + 11) (16 * i))
        ∧ regsBut [A.SCALE_WORD n b j] s t ∧ sameBytes s t

/-- R136: SCALE multiplies SRCA by entry VMOD with its MODE and DIR and rounds to the VFMT format, to nearest, ties to even. -/
def Obligations.VectorScale : Prop :=
  ∀ (s : State) (n w : Nat),
    (s.issuesWord n w → s.passes n w → s.noWait n w → vop s.fuse.s0 w = 19 → ∃ t, exec (.scale n) s = .next t ∧ issuedWord s t n w)
    ∧ ∀ (x : State) (c : Core) popped row, cwVop w = 19 →
      let a := (x.vecOperand n c w popped row (cwVsrcA w)).1
      let y := (x.vecOperand n c w popped row (cwVsrcA w)).2
      let r := (x.vecResult n c w popped row).1
      (cwVfmt w = 0 → ∀ i < 128, valueAt r 32 i
        = ffF32.round ((f32 (valueAt a 32 i)).mul (y.factor n (y.bankOf n) (cwVmod w) i row)) % 2 ^ 32)
      ∧ (cwVfmt w = 1 → ∀ i < 256, valueAt r 16 i
        = ffBF16.round ((bf16 (valueAt a 16 i)).mul (y.factor n (y.bankOf n) (cwVmod w) i row)) % 2 ^ 16)
      ∧ (cwVfmt w = 2 → ∀ i < 64, valueAt r 64 i
        = (pairOf .near ((decodeFmt 13 (valueAt a 64 i)).mul (y.factor n (y.bankOf n) (cwVmod w) i row))).1 % 2 ^ 64)

/-- Scale entries (R134, R148, R149): which slot applies to value i; COMMIT_NOW shifts the windows and starts a recompute; the recompute's end
writes its slots. -/
def Obligations.ScaleEntries : Prop :=
  (∀ (s : State) (n b k i row : Nat),
    (s.get (F.SCALE_CFG_MODE n k) = 0 → s.scaleAt n b k i row = ue8m4 (s.slotVal n b k (i % 128)))
    ∧ (s.get (F.SCALE_CFG_MODE n k) = 1 → s.scaleAt n b k i row = ue8m4 (s.slotVal n b k (row % 128)))
    ∧ (s.get (F.SCALE_CFG_MODE n k) = 2 → s.scaleAt n b k i row
      = ((ue8m4 (s.slotVal n b (k / 2 * 2) (row % 128))).1 * (ue8m4 (s.slotVal n b (k / 2 * 2 + 1) (i % 128))).1,
         (ue8m4 (s.slotVal n b (k / 2 * 2) (row % 128))).2 + (ue8m4 (s.slotVal n b (k / 2 * 2 + 1) (i % 128))).2))
    ∧ (s.get (F.SCALE_CFG_MODE n k) = 3 → s.scaleAt n b k i row = ue8m4 (s.slotVal n b k 0))
    ∧ s.slotVal n b 0 i = 0x07F0)
  ∧ ∀ (s : State) (n : Nat), s.powered → s.shaped → n < 100 → s.siteEnabled n = true →
    ((s.coreAt n).state = 0 ∨ (s.coreAt n).state = 4 → s.get (F.CORE_CTRL_MODE n) = 0 →
      ∃ t, exec (.commitNow n) s = .next t ∧ t.get (F.CONV_STATUS_AUTO_BUSY n) = 1
        ∧ (t.coreAt n).autoBank = s.get (F.CONV_CTRL_FREE_BANK n) ∧ (∀ m, m ≠ n → t.coreAt m = s.coreAt m) ∧ sameBytes s t)
    ∧ (s.get (F.CORE_CTRL_MODE n) = 1 → exec (.commitNow n) s = .next s)
    ∧ (s.get (F.CONV_STATUS_AUTO_BUSY n) = 1 → ∃ t, exec (.autoRecomputeDone n) s = .next t ∧ t.get (F.CONV_STATUS_AUTO_BUSY n) = 0
      ∧ (t.coreAt n).autoNew = [] ∧ (∀ m, m ≠ n → t.coreAt m = s.coreAt m) ∧ sameBytes s t)

/-- Signals (R103, R106, R343): a SIGNAL word acts as its descriptor says; a counter changes by the signed increment and is clamped at 0
and at LIMIT.
The last part gives the whole of what each leaves when the word orders nothing else. -/
def Obligations.Signals : Prop :=
  (∀ (s : State) (n w : Nat), s.issuesWord n w → s.passes n w → seqOp w = 4 →
    (s.sigKind n w = 0 → ∃ t, exec (.localSignal n) s = .next t ∧ issuedWord s t n w)
    ∧ (s.sigKind n w = 1 → ∃ t, exec (.remoteSignal n) s = .next t ∧ issuedWord s t n w)
    ∧ (s.sigKind n w = 2 → ∃ t, exec (.streamStart n) s = .next t ∧ issuedWord s t n w)
    ∧ (∀ (x : State) (k : Nat), x.shaped → x.get (F.SIG_DESC_KIND n k) = 0 → x.get (F.SIG_DESC_COUNTER n k) < 24 →
      let ctr := x.get (F.SIG_DESC_COUNTER n k)
      let y := x.signalAct n k
      (∀ a, y.reg a = (x.addCounter n ctr (x.get (F.SIG_DESC_INCREMENT n k)) 0).reg a) ∧ sameBytes x y
        ∧ (y.setCore n { y.coreAt n with cyc := (x.coreAt n).cyc + 1 }).seenValue n ctr = (x.get (F.CNT_VALUE n ctr) : Int)
        ∧ (y.setCore n { y.coreAt n with cyc := (x.coreAt n).cyc + 2 }).seenValue n ctr = (y.get (F.CNT_VALUE n ctr) : Int))
    ∧ ∀ (x : State) (c inc src : Nat), c < 32 →
      let v : Int := (x.get (F.CNT_VALUE n c) : Int) + signed 16 inc
      let lim := x.get (F.CNT_LIMIT n c)
      (v < 0 → (x.addCounter n c inc src).get (F.CNT_VALUE n c) = 0)
      ∧ (0 ≤ v → 0 < signed 16 inc → (lim : Int) < v → (x.addCounter n c inc src).get (F.CNT_VALUE n c) = lim)
      ∧ (0 ≤ v → v ≤ lim → x.addCounter n c inc src = x.set (F.CNT_VALUE n c) v.toNat))
  ∧ ∀ (s : State) (n w : Nat), s.standsAt n 1 w → onlyParts [.seq] w → cwSeqOp w = 4 →
    let c := s.coreAt n
    let k := cwSeqArg w % 64
    let ctr := s.get (F.SIG_DESC_COUNTER n k)
    let inc := signed 16 (s.get (F.SIG_DESC_INCREMENT n k))
    let v := (s.get (F.CNT_VALUE n ctr) : Int) + inc
    let d := s.get (F.SIG_DESC_STREAM n k)
    let node := s.get (F.SIG_DESC_NODE_ID n k)
    (s.sigKind n w = 0 → ctr < 24 → 0 ≤ v → v ≤ s.get (F.CNT_LIMIT n ctr) → ∃ t, exec (.localSignal n) s = .next t
      ∧ coreGoes [A.CNT n ctr] s t n { c.next with lateSig := some (ctr, inc, c.cyc + 1) } ∧ (t.get (F.CNT_VALUE n ctr) : Int) = v)
    ∧ (s.sigKind n w = 2 → c.squeue.length + c.srun.length < 16 → (∀ e ∈ c.squeue ++ [d], s.get (F.SD_LOCAL_KIND n e) < 6) →
      ∃ t, exec (.streamStart n) s = .next t ∧ coreGoes [] s t n { c.next with squeue := c.squeue ++ [d] })
    ∧ ∀ b o cls, s.sigKind n w = 1 → s.get (F.CORE_CTRL_MODE n) = 0 → s.rt.held = [] → s.sendBank = some b → node ≠ s.get F.RT_NODE_ID_ID →
        routeOut (s.routeEntry b node) 0 = some (o, cls) → s.get (F.UNIT_STATE_STATE (entPort o)) = 2 →
        1 ≤ (s.rt.credit.getD o []).getD (4 + cls) 0 →
      ∃ t p, exec (.remoteSignal n) s = .next t ∧ t.sent = s.sent ++ [.packet o cls p] ∧ p.dst = node ∧ p.kind = 3 ∧ p.check = 0
        ∧ bits p.w2 63 48 = s.get (F.SIG_DESC_INCREMENT n k) ∧ bits p.w2 47 46 = s.get (F.SIG_DESC_DIE n k)
        ∧ bits p.w2 45 41 = s.get (F.SIG_DESC_LCORE n k) ∧ bits p.w2 40 36 = ctr ∧ t.cores = s.cores.set n c.next ∧ t.rt.held = []
        ∧ (∀ a, t.reg a = s.reg a) ∧ sameBytes s t

/-- Streams (R104, R110, R117): the start at the head of the queue begins to run and its data moves, after what a WAITING core issued before
and is due has completed; its completion takes it from those in
progress and adds 1 to its counter.
The last part gives the bytes that one element, or one row, of each kind moves between the core and near memory. -/
def Obligations.Streams : Prop :=
  (∀ (s0 : State) (n d : Nat) (rest : List Nat), s0.powered → s0.shaped → n < 100 → (s0.coreAt n).squeue = d :: rest →
      (s0.coreAt n).srun.length < 4 →
    let s := s0.catchUp n
    let k := s.get (F.SD_LOCAL_KIND n d)
    let moved := (s.streamMoves n d).foldl (fun s m => s.streamMove n k m) s
    let runs := fun (c : Instr) => ∃ t, exec c s0 = .next t
      ∧ t = (moved.setCore n { moved.coreAt n with squeue := rest, srun := (moved.coreAt n).srun ++ [s.streamRun n d] }).streamReserved 16 n
    (k = 0 → runs (.streamMemToStore n)) ∧ (k = 1 → runs (.streamStoreToMem n)) ∧ (k = 2 → runs (.streamStoreAtomic n))
    ∧ (k = 3 → runs (.streamAccToMem n)) ∧ (k = 4 → runs (.streamAccAtomic n)) ∧ (k = 5 → runs (.streamMemToAcc n))
    ∧ (∀ (x : State) (m : Nat × Nat), x.get (F.CORE_CTRL_MODE n) = 0 →
      (x.streamMove n 0 m).core = (x.memRead (streamOrigin n) m.1 128).st.core.store (storeAddr n m.2) (x.memRead (streamOrigin n) m.1 128).data)
    ∧ (∀ (x : State) (m : Nat × Nat), x.get (F.CORE_CTRL_MODE n) = 0 → m.1 < 0x006000000000 →
      x.streamMove n 1 m = (x.memPut (streamOrigin n) false m.1 (x.core.load (storeAddr n m.2) 128)).st
      ∧ x.streamMove n 4 m = (x.memPut (streamOrigin n) true m.1 (x.core.load (accAddr n (m.2 / 128) (m.2 % 128)) 512)).st))
  ∧ (∀ (s : State) (n i : Nat) (r : StreamRun), s.powered → s.shaped → n < 100 → (s.coreAt n).srun[i]? = some r → (s.coreAt n).squeue = [] →
      r.sc < 8 → s.get (F.CNT_VALUE n (24 + r.sc)) < s.get (F.CNT_LIMIT n (24 + r.sc)) →
    ∃ t, exec (.streamComplete n i) s = .next t ∧ (t.coreAt n).srun = (s.coreAt n).srun.eraseIdx i
      ∧ t.get (F.CNT_VALUE n (24 + r.sc)) = s.get (F.CNT_VALUE n (24 + r.sc)) + 1 ∧ regsBut [A.CNT n (24 + r.sc)] s t ∧ sameBytes s t)
  ∧ ∀ (s : State) (n d : Nat), s.powered → s.shaped → n < 100 → (s.coreAt n).state ≠ 2 → (s.coreAt n).squeue = [d] → (s.coreAt n).srun = [] →
      s.get (F.CORE_CTRL_MODE n) = 0 → s.get (F.SD_SHAPE_ROWS n d) = 1 → s.get (F.SD_SHAPE_ROW_LEN n d) = 1 →
    let kind := s.get (F.SD_LOCAL_KIND n d)
    let a := s.get (F.SD_ADDR_ADDR n d)
    let e := storeAddr n (s.get (F.SD_LOCAL_LOCAL n d))
    let f := (s.get (F.SD_LOCAL_TILE n d) * 128 + s.get (F.SD_LOCAL_LOCAL n d)) % 4096
    let row := accAddr n (f / 128) (f % 128)
    let lies := fun (b m : Nat) => ∃ pc off, s.place b = .near pc off ∧ s.serves (entMc (pc / 32)) = true ∧ s.pcRetired pc = false
      ∧ pc < 512 ∧ m = pc * pcBytes + off
    let runs := fun (cmd : Instr) (p : State → Prop) => ∃ t, exec cmd s = .next t
      ∧ t.coreAt n = { s.coreAt n with squeue := [], srun := [s.streamRun n d] } ∧ t.far = s.far ∧ t.stage = s.stage ∧ p t
      ∧ regsBut ((List.range 16).flatMap fun k => [A.MC_ECC k, A.MC_ATOM k]) s t
    let only := fun (u v : Mem) (x y k : Nat) => ∀ b, (b < x ∨ x + k ≤ b) → (b < y ∨ y + k ≤ b) → v.get b = u.get b
    (∀ m, lies a m → a % 256 + 128 ≤ 256 →
      (kind = 0 → runs (.streamMemToStore n) fun t => t.core.load e 128 = s.near.load m 128 ∧ only s.core t.core e e 128 ∧ t.near = s.near)
      ∧ (kind = 1 → runs (.streamStoreToMem n) fun t => t.near.load m 128 = s.core.load e 128 ∧ only s.near t.near m m 128 ∧ t.core = s.core)
      ∧ (kind = 2 → runs (.streamStoreAtomic n) fun t => t.near.load m 128 = (atomicSum (s.near.load m 128) (s.core.load e 128)).1
        ∧ only s.near t.near m m 128 ∧ t.core = s.core))
    ∧ ∀ m m', lies a m → lies (a + 256) m' → a % 256 = 0 → a + 512 ≤ 2 ^ 48 → m + 256 ≤ m' ∨ m' + 256 ≤ m →
      (kind = 3 → runs (.streamAccToMem n) fun t => t.near.load m 256 = s.core.load row 256
        ∧ t.near.load m' 256 = s.core.load (row + 256) 256 ∧ only s.near t.near m m' 256 ∧ t.core = s.core)
      ∧ (kind = 4 → runs (.streamAccAtomic n) fun t => t.near.load m 256 = (atomicSum (s.near.load m 256) (s.core.load row 256)).1
        ∧ t.near.load m' 256 = (atomicSum (s.near.load m' 256) (s.core.load (row + 256) 256)).1 ∧ only s.near t.near m m' 256 ∧ t.core = s.core)
      ∧ (kind = 5 → runs (.streamMemToAcc n) fun t => t.core.load row 256 = s.near.load m 256
        ∧ t.core.load (row + 256) 256 = s.near.load m' 256 ∧ only s.core t.core row (row + 256) 256 ∧ t.near = s.near)

/-! ## Row engines and the step (chapters 05, 06) -/

/-- Starts, self-test and completion of a row engine (R180, R181, R183). RE_STATUS.STATE reads 0 idle, 1 busy, 2 in self-test, 3 down. -/
def Obligations.RowEngineControl : Prop :=
  ∀ (s : State) (d : Nat), s.powered → s.shaped → d < 4 →
    (∀ k < 16, s.serves (entRe d) = true → s.get (F.RE_STATUS_STATE d) = 0 → ∃ t, exec (.reStart d k) s = .next t
      ∧ t.get (F.RE_STATUS_STATE d) = 1 ∧ t.get (F.RE_STATUS_CUR_JOB d) = k ∧ (t.eng d).queue = (s.eng d).queue ∧ sameBytes s t)
    ∧ (∀ k < 16, s.serves (entRe d) = true → s.get (F.RE_STATUS_STATE d) = 1 → (s.eng d).queue.length < 16 →
      ∃ t, exec (.reStart d k) s = .next t ∧ (t.eng d).queue = (s.eng d).queue ++ [k]
        ∧ t.get (F.RE_STATUS_QUEUED d) = (s.eng d).queue.length + 1 ∧ regsBut [A.RE_STATUS d] s t ∧ sameBytes s t)
    ∧ (∀ k < 16, s.serves (entRe d) = true → s.get (F.RE_STATUS_STATE d) = 1 → 16 ≤ (s.eng d).queue.length →
      exec (.reStart d k) s = .next (s.bump (F.RE_ERR_START_DROP d)))
    ∧ (s.get (F.RE_STATUS_STATE d) = 0 → exec (.reSelftest d) s = .next (s.set (F.RE_STATUS_STATE d) 2))
    ∧ (s.get (F.RE_STATUS_STATE d) = 2 → (s.eng d).queue = [] → ∃ t, exec (.reSelftestDone d true) s = .next t
      ∧ t.get (F.RE_STATUS_STATE d) = 0 ∧ t.get (F.RE_STATUS_SELFTEST_PASS d) = 1 ∧ regsBut [A.RE_STATUS d] s t ∧ sameBytes s t)
    ∧ (s.get (F.RE_STATUS_STATE d) = 2 → ∃ t, exec (.reSelftestDone d false) s = .next t ∧ t.get (F.RE_STATUS_STATE d) = 3
      ∧ t.get (F.RE_STATUS_SELFTEST_PASS d) = 0 ∧ t.get (F.UNIT_STATE_STATE (entRe d)) = 4 ∧ sameBytes s t)
    ∧ (s.get (F.RE_STATUS_STATE d) = 1 → (s.eng d).ran = true → (s.eng d).queue = [] →
        s.get (F.RE_DONE_EN d (s.get (F.RE_STATUS_CUR_JOB d))) = 0 →
      ∃ t, exec (.reJobDone d) s = .next t ∧ t.get (F.RE_STATUS_STATE d) = 0 ∧ (t.eng d).ran = false ∧ regsBut [A.RE_STATUS d] s t
        ∧ sameBytes s t)

/-- The work of a row-engine job (R177 to R179): the rows in order, and what one row writes. -/
def Obligations.RowEngineJobs : Prop :=
  ∀ (s : State) (d : Nat), s.powered → s.shaped → d < 4 →
    let k := s.get (F.RE_STATUS_CUR_JOB d)
    let rows := s.forN (s.get (F.RE_SHAPE_ROWS d k)) fun s i => s.reRow d k i
    let works := fun (op : Nat) (c : Instr) => s.get (F.RE_STATUS_STATE d) = 1 → (s.eng d).ran = false → s.get (F.RE_SHAPE_OP d k) = op →
      ∃ t, exec c s = .next t ∧ t = rows.setEng d { rows.eng d with ran := true }
    works 0 (.stats d) ∧ works 1 (.normFwd d) ∧ works 2 (.normBwd d) ∧ works 3 (.smaxFwd d) ∧ works 4 (.smaxBwd d) ∧ works 5 (.testCmp d)
    ∧ ∀ (x : State) (k i : Nat),
      let xs := (x.reRead d k (x.get (F.RE_IN_ADDR d k) + i * (x.reLen d k * x.reW d k))).1
      let y := (x.reRead d k (x.get (F.RE_IN_ADDR d k) + i * (x.reLen d k * x.reW d k))).2
      (x.get (F.RE_SHAPE_OP d k) = 0 →
        (x.reRow d k i).side.load (y.statAt d k i) 16
          = (rowStat 0 xs (x.on (F.RE_SHAPE_CENTER d k)) (y.get (F.RE_EPS_EPS d))).bytes
        ∧ (∀ a, a < y.statAt d k i ∨ y.statAt d k i + 16 ≤ a → (x.reRow d k i).side.get a = y.side.get a)
        ∧ (x.reRow d k i).near = y.near)
      ∧ (x.get (F.RE_SHAPE_OP d k) = 3 → ∃ t : Stat, t.mean = 0 ∧ t.rstd = 0 ∧ (t.max, t.sum) = rowSmax xs
        ∧ (x.reRow d k i).side.load (y.statAt d k i) 16 = t.bytes)

/-- The start of a step (R203 to R205): when a start is accepted, taken, and when the cores run. SEQ_STATE reads 0 IDLE, 1 LOAD, 2 RUN,
3 REDUCE, 4 VERDICT, 5 COMMIT, 6 APPLY, 7 ROLLBACK. -/
def Obligations.StepStarts : Prop :=
  ∀ s : State, s.powered → s.shaped →
    (∀ slot, s.get F.SEQ_CTRL_APPLY_MODE = 0 → 1 ≤ s.get F.SEQ_PLAN_RUN_OFF → s.get F.SEQ_PLAN_RUN_OFF < s.get F.SEQ_PLAN_VERDICT_OFF →
        s.get F.SEQ_PLAN_VERDICT_OFF < s.get F.SEQ_PLAN_COMMIT_OFF → 1 ≤ s.get F.SEQ_VCFG_VOTERS → s.get F.SEQ_VCFG_VOTERS ≤ 65536 →
        s.slot + 2 ≤ slot → slot < 2 ^ 56 → s.get F.SEQ_STATE_MISSED = 0 → s.get F.SEQ_RETAIN_APPLY_PENDING = 0 →
      ∃ t, exec (.seqStartArm slot) s = .next t ∧ t.get F.SEQ_START_ARMED = 1 ∧ t.get F.SEQ_START_START_SLOT = slot
        ∧ regsBut [A.SEQ_START] s t ∧ sameBytes s t)
    ∧ (∀ slot, slot < s.slot + 2 → slot < 2 ^ 56 → ∃ t, exec (.seqStartArm slot) s = .next t ∧ t.get F.SEQ_START_ARMED = 0
      ∧ t.get F.SEQ_ERR_START_REFUSED = (s.bump F.SEQ_ERR_START_REFUSED).get F.SEQ_ERR_START_REFUSED
      ∧ regsBut [A.SEQ_START, A.SEQ_ERR] s t ∧ sameBytes s t)
    ∧ (s.get F.SEQ_START_ARMED = 1 → s.now % 256 = 0 → s.get F.SEQ_START_START_SLOT = s.slot → s.startAllowed = true →
        s.get F.SEQ_CTRL_AUTO_NEXT = 0 → (∀ c < 16, s.get (F.RC_CFG_STEP_REL c) = 0) →
      ∃ t, exec .stepStart s = .next t ∧ t.get F.SEQ_STATE_STATE = 1 ∧ t.get F.SEQ_START_ARMED = 0 ∧ t.seq.start = s.slot
        ∧ t.seq.discarded = [] ∧ t.get F.SEQ_STATE_FAILED = 0 ∧ (∀ v < 8, t.reg (A.ACT_FOOT v) = 0) ∧ sameBytes s t)
    ∧ (s.get F.SEQ_START_ARMED = 1 → s.now % 256 = 0 → s.get F.SEQ_START_START_SLOT ≤ s.slot → s.startAllowed = false →
        s.get F.SEQ_CTRL_AUTO_NEXT = 0 →
      ∃ t, exec .stepStart s = .next t ∧ t.get F.SEQ_START_ARMED = 0
        ∧ t.get F.SEQ_ERR_START_MISSED = (s.bump F.SEQ_ERR_START_MISSED).get F.SEQ_ERR_START_MISSED
        ∧ regsBut [A.SEQ_START, A.SEQ_ERR] s t ∧ sameBytes s t)
    ∧ (s.get F.SEQ_STATE_STATE = 1 → s.now % 256 = 0 → s.seq.start + s.get F.SEQ_PLAN_RUN_OFF ≤ s.slot → s.stepCores = [] →
        s.get F.SEQ_INPUT_READY_VALID = 1 → s.get F.SEQ_INPUT_READY_TAG = s.get F.SEQ_STEP_TAG →
      ∃ t, exec .runStart s = .next t ∧ t.get F.SEQ_STATE_STATE = 2 ∧ t.get F.SEQ_STATE_INPUT_OK = 1 ∧ regsBut [A.SEQ_STATE] s t
        ∧ sameBytes s t)
    ∧ (∀ n < 100, s.get F.SEQ_STATE_STATE = 1 → s.now % 256 = 0 → s.seq.start + s.get F.SEQ_PLAN_RUN_OFF ≤ s.slot → s.stepCores = [n] →
        (s.coreAt n).state = 0 → s.get F.SEQ_INPUT_READY_VALID = 0 →
      ∃ t, exec .runStart s = .next t ∧ t.get F.SEQ_STATE_STATE = 2 ∧ t.get F.SEQ_STATE_INPUT_OK = 0 ∧ t.get F.SEQ_STATE_FAILED = 1
        ∧ (t.get F.SEQ_VOTE_CAUSE).testBit 4 = true ∧ (t.coreAt n).state = 1 ∧ (t.coreAt n).pc = s.get (F.CORE_ENTRY_ENTRY_PC n)
        ∧ sameBytes s t)
    ∧ (s.get F.SEQ_STATE_STATE = 2 → s.get F.SEQ_CTRL_APPLY_MODE = 0 → (∀ n ∈ s.stepCores, (s.coreAt n).state = 4) →
      exec .stepCoresHalted s = .next (s.set F.SEQ_STATE_STATE 3))

/-- The verdict (R209, R211 to R215): the vote is taken at entry to VERDICT; at the commit slot the step commits or rolls back by the
verdict held for it; a step without one waits as MISSED. -/
def Obligations.StepVerdicts : Prop :=
  ∀ s : State, s.powered → s.shaped →
    (s.get F.SEQ_STATE_STATE = 3 → s.get F.SEQ_CTRL_APPLY_MODE = 0 → s.get F.SEQ_STEP_PEND_VALID = 0 → s.now % 256 = 0 →
        s.seq.start + s.get F.SEQ_PLAN_VERDICT_OFF ≤ s.slot →
      ∃ t, exec .verdictEntry s = .next t ∧ t.get F.SEQ_STATE_STATE = 4)
    ∧ (s.get F.SEQ_STATE_PSTATE = 4 → s.get F.SEQ_STATE_MISSED = 0 → s.now % 256 = 0 →
        s.seq.pendStart + s.get F.SEQ_PLAN_COMMIT_OFF ≤ s.slot → s.seq.held = some (s.get F.SEQ_STEP_PEND_TAG, true) →
      ∃ t, exec .commitSlot s = .next t ∧ t.get F.SEQ_STATE_PSTATE = 5 ∧ t.get F.SEQ_STATE_MISSED = 0 ∧ t.seq.held = none
        ∧ t.get F.SEQ_STEP_RETRIES = 0)
    ∧ (s.get F.SEQ_STATE_PSTATE = 4 → s.get F.SEQ_STATE_MISSED = 0 → s.now % 256 = 0 →
        s.seq.pendStart + s.get F.SEQ_PLAN_COMMIT_OFF ≤ s.slot → s.seq.held = some (s.get F.SEQ_STEP_PEND_TAG, false) →
        s.get F.SEQ_CTRL_AUTO_NEXT = 0 →
      ∃ t, exec .commitSlot s = .next t ∧ t.get F.SEQ_STATE_STATE = 7 ∧ t.get F.SEQ_STEP_PEND_VALID = 0 ∧ t.seq.held = none
        ∧ t.seq.rbSlot = s.slot ∧ s.get F.SEQ_STEP_PEND_TAG ∈ t.seq.discarded)
    ∧ (s.get F.SEQ_STATE_PSTATE = 4 → s.get F.SEQ_STATE_MISSED = 0 → s.now % 256 = 0 →
        s.seq.pendStart + s.get F.SEQ_PLAN_COMMIT_OFF ≤ s.slot → s.seq.held = none →
      ∃ t, exec .commitSlot s = .next t ∧ t.get F.SEQ_STATE_MISSED = 1 ∧ t.get F.SEQ_STATE_PSTATE = 4 ∧ sameBytes s t)
    ∧ (∀ reason tick, s.seq.late = some (true, reason, tick) → tick < s.now → s.now % 256 = 0 → s.get F.SEQ_STEP_PEND_VALID = 1 →
      ∃ t, exec .lateVerdictAct s = .next t ∧ t.get F.SEQ_STATE_PSTATE = 5 ∧ t.seq.late = none)
    ∧ (∀ a tag, tag < 65536 → s.get F.SEQ_RETAIN_LC_VALID = 1 → s.get F.SEQ_RETAIN_LAST_COMMIT = tag →
      exec (.seqMark a tag) s = .next s)
    ∧ (∀ a tag, tag < 65536 → s.get F.SEQ_RETAIN_LC_VALID = 0 → s.get F.SEQ_STEP_PEND_VALID = 1 → s.get F.SEQ_STEP_PEND_TAG = tag →
        s.get F.SEQ_STATE_PSTATE = 4 → s.get F.SEQ_STATE_MISSED = 0 →
      ∃ t, exec (.seqMark a tag) s = .next t ∧ t.get F.SEQ_VERDICT_TAG = tag ∧ t.get F.SEQ_VERDICT_VALID = 1
        ∧ t.get F.SEQ_VERDICT_REPLAYED = 1 ∧ (t.get F.SEQ_VERDICT_ACCEPT = 1 ↔ a = true) ∧ t.seq.held = some (tag, a)
        ∧ regsBut [A.SEQ_VERDICT] s t ∧ sameBytes s t)
    ∧ (∀ a tag, tag < 65536 → s.get F.SEQ_RETAIN_LC_VALID = 0 → s.get F.SEQ_STEP_PEND_VALID = 0 →
      exec (.seqMark a tag) s = .next (s.bump F.SEQ_ERR_MARK_IGNORED))

/-- APPLY, RESUME and the end of a rollback (R204, R216, R221). -/
def Obligations.StepEnds : Prop :=
  ∀ s : State, s.powered → s.shaped →
    (s.get F.SEQ_STATE_PSTATE = 5 → s.now % 256 = 0 → s.seq.commitSlot < s.slot → s.get F.SEQ_CTRL_APPLY_MODE = 1 →
        s.get F.SEQ_STATE_STATE = 0 →
      ∃ t, exec .applyStart s = .next t ∧ t.get F.SEQ_STATE_PSTATE = 0 ∧ t.get F.SEQ_STEP_PEND_VALID = 0
        ∧ regsBut [A.SEQ_STATE, A.SEQ_STEP] s t ∧ sameBytes s t)
    ∧ (s.get F.SEQ_STATE_STATE = 7 → s.now % 256 = 0 → s.seq.rbSlot + max 4 (s.get F.SEQ_PLAN_RB_GAP) ≤ s.slot →
        s.get F.SEQ_PERIOD_RETRY_LIMIT = 0 →
      ∃ t, exec .rollbackEnd s = .next t ∧ t.get F.SEQ_STATE_STATE = 0
        ∧ t.get F.SEQ_STEP_RETRIES = (s.bump F.SEQ_STEP_RETRIES).get F.SEQ_STEP_RETRIES ∧ regsBut [A.SEQ_STATE, A.SEQ_STEP] s t
        ∧ sameBytes s t)
    ∧ (s.get F.SEQ_STATE_STATE = 0 → s.get F.SEQ_RETAIN_APPLY_PENDING = 1 →
      exec .resume s = .next (((s.set F.SEQ_STATE_STATE 6).updStart true).finishApply))
    ∧ (s.get F.SEQ_STATE_STATE = 0 → s.get F.SEQ_RETAIN_APPLY_PENDING = 1 → s.get F.SEQ_CTRL_APPLY_MODE = 0 →
        (∀ k < 32, s.get (F.UJ_CTRL_EN k) = 0) → (∀ n < 16, (s.upd.getD n {}).journal = none ∧ (s.upd.getD n {}).past = false) →
      ∃ t, exec .resume s = .next t ∧ t.get F.SEQ_STATE_STATE = 0 ∧ t.get F.SEQ_RETAIN_APPLY_PENDING = 0
        ∧ t.get F.UPD_STATUS_DONE = 0xFFFF ∧ t.get F.UPD_STATUS_RUNNING = 0 ∧ regsBut [A.SEQ_STATE, A.SEQ_RETAIN, A.UPD_STATUS] s t
        ∧ sameBytes s t)
    ∧ (s.get F.SEQ_STATE_STATE ≠ 0 ∨ s.get F.SEQ_RETAIN_APPLY_PENDING = 0 → exec .resume s = .next s)
    ∧ (∀ n < 16, ∀ k g ws, (s.upd.getD n {}).journal = some (k, g, ws) → s.get F.UPD_STATUS_RUNNING = 1 →
        s.get (F.UPD_CURSOR_JVALID n) = 1 → (s.updWrites n ws).2 = 0 →
      exec (.updGroupDone n) s = .next (((s.updWrites n ws).1.updPast n k g).finishApply))

/-! ## Memory (chapter 07) -/

/-- Accesses to near memory and to far memory (R170, R232, R236, R240, R242, R258, R259). `place` is the address decoded by the map in
force (R235); an access here lies within one granule, and its requester is one that exists (R239). -/
def Obligations.MemoryAccesses : Prop :=
  ∀ (s : State) (r : MemReq), s.powered → s.shaped → r.die < 4 →
    let near := fun (pc off : Nat) => s.place r.addr = .near pc off ∧ s.serves (entMc (pc / 32)) = true ∧ s.pcRetired pc = false
    let far := fun (p off : Nat) => s.place r.addr = .far p off ∧ s.serves (entFar p) = true ∧ off < s.farCap p
    let inGranule := fun (n : Nat) => 0 < n ∧ r.addr % 256 + n ≤ 256 ∧ s.requests r = true
    (∀ pc off bs, near pc off → r.data = some bs → inGranule bs.length → ∃ t, exec (.mcAccess r) s = .next t
      ∧ t.near.load (pc * pcBytes + off) bs.length = bs
      ∧ (∀ a, a < pc * pcBytes + off ∨ pc * pcBytes + off + bs.length ≤ a → t.near.get a = s.near.get a)
      ∧ t.far = s.far ∧ t.core = s.core ∧ regsBut [A.MC_ECC (pc / 32)] s t)
    ∧ (∀ pc off, near pc off → pc < 512 → r.data = none → inGranule r.len → (s.memctl (pc / 32)).log.length < 16 → r.sev = 1 ∨ r.sev = 2 →
      ∃ t, exec (.mcAccess r) s = .next t ∧ sameBytes s t ∧ regsBut [A.MC_ECC (pc / 32)] s t
        ∧ (t.memctl (pc / 32)).log
          = (s.memctl (pc / 32)).log ++ [⟨r.sev, pc % 32, r.bank % 64, r.row % 2 ^ 18, s.now, s.epoch⟩]
        ∧ (r.sev = 1 → t.get (F.MC_ECC_CE (pc / 32)) = (s.bump (F.MC_ECC_CE (pc / 32))).get (F.MC_ECC_CE (pc / 32)))
        ∧ (r.sev = 2 → t.get (F.MC_ECC_UE (pc / 32)) = (s.bump (F.MC_ECC_UE (pc / 32))).get (F.MC_ECC_UE (pc / 32))))
    ∧ (∀ pc off, s.place r.addr = .near pc off → s.serves (entMc (pc / 32)) = true → s.pcRetired pc = true →
      ∀ bs, r.data = some bs → inGranule bs.length → exec (.mcAccess r) s = .next s)
    ∧ (∀ bs, s.place r.addr = .miss → r.data = some bs → inGranule bs.length → exec (.mcAccess r) s = .next (s.bump F.MAP_ERR_MISS))
    ∧ (∀ pc off bs, near pc off → r.data = some bs → inGranule bs.length → bs.length % 4 = 0 → ∃ t, exec (.mcAtomicAdd r) s = .next t
      ∧ t.near.load (pc * pcBytes + off) bs.length = (atomicSum (s.near.load (pc * pcBytes + off) bs.length) bs).1
      ∧ (∀ a, a < pc * pcBytes + off ∨ pc * pcBytes + off + bs.length ≤ a → t.near.get a = s.near.get a)
      ∧ t.far = s.far ∧ t.core = s.core ∧ regsBut [A.MC_ATOM (pc / 32), A.MC_ECC (pc / 32)] s t)
    ∧ (∀ p off bs, far p off → r.data = some bs → inGranule bs.length → ∃ t, exec (.farAccess r) s = .next t
      ∧ (t.far.getD p {}).load off bs.length = bs
      ∧ (∀ a, a < off ∨ off + bs.length ≤ a → (t.far.getD p {}).get a = (s.far.getD p {}).get a)
      ∧ t.far.getD (1 - p) {} = s.far.getD (1 - p) {} ∧ t.near = s.near ∧ ∀ a, t.reg a = s.reg a)
    ∧ (∀ p off, far p off → r.data = none → inGranule r.len → r.poison = true → ∃ t, exec (.farAccess r) s = .next t ∧ sameBytes s t
      ∧ t.get (F.FAR_ERR_POISON p) = (s.bump (F.FAR_ERR_POISON p)).get (F.FAR_ERR_POISON p) ∧ regsBut [A.FAR_ERR p] s t)

/-- The map (R234, R235, R237): a load that passes its checks comes into force two slots on; one that fails changes only LAST_REFUSE and
REFUSED. Two addresses of one region never share a byte, and every byte lies in its pseudo-channel. -/
def Obligations.MapLoads : Prop :=
  (∀ s : State, s.powered →
    (s.mapCheck s.unmapRetired.regionRegs = 0 → ∃ t, exec .mapLoad s = .next t ∧ t.map.regions = s.map.regions
      ∧ t.map.next = some (s.slot + 2, s.unmapRetired.regionRegs) ∧ t.get F.MAP_STATUS_LOAD_PENDING = 1 ∧ sameBytes s t)
    ∧ (s.quiet = false → exec .mapLoad s = .next ((s.set F.MAP_STATUS_LAST_REFUSE 1).bump F.MAP_ERR_REFUSED))
    ∧ (∀ slot rs, s.map.next = some (slot, rs) → s.now % 256 = 0 → slot ≤ s.slot → ∃ t, exec .mapLoadEffect s = .next t
      ∧ t.map = { regions := rs, next := none } ∧ t.get F.MAP_STATUS_LOAD_PENDING = 0
      ∧ t.get F.MAP_STATUS_GEN = (s.get F.MAP_STATUS_GEN + 1) % 256
      ∧ (∀ r < 16, t.get (F.MAP_RGN_SIZE_SIZE r) = ((rs.find? fun g => g.idx == r).map Region.size).getD 0 % 2 ^ 48) ∧ sameBytes s t))
  ∧ ∀ (r : Region) (a b pc off : Nat), r.base % 256 = 0 → r.chans.Nodup → r.start + r.span ≤ 768 →
      decodeMap [r] a = some (pc, off) → (pc ∈ r.chans ∧ off < pcBytes) ∧ (decodeMap [r] b = some (pc, off) → a = b)

/-- Repair, map-out, temperature, training and far-memory links (R244, R245, R249, R251, R252, R254, R257, R260). -/
def Obligations.StackService : Prop :=
  ∀ s : State, s.powered → s.shaped →
    let due := fun (act : Nat) => bits (s.reg act) 63 63 = 1 ∧ s.now % 256 = 0 ∧ ∃ k, mapFind s.staged act = some k ∧ k ≤ s.slot
    (∀ n < 16,
      let ready := s.get (F.UNIT_STATE_STATE (entMc n)) = 2
      (due (A.MC_PPR_ACT n) → ready → ∃ t, exec (.softRepair n) s = .next t ∧ (t.memctl n).repair = some (s.get (F.MC_PPR_NEXT_PC n), s.slot)
        ∧ t.get (F.MC_PPR_ACT_ARMED n) = 0 ∧ regsBut [A.MC_PPR_ACT n] s t ∧ sameBytes s t)
      ∧ (∀ x, (s.memctl n).repair = some x → ∃ t, exec (.softRepairDone n) s = .next t
        ∧ (t.memctl n).repair = none
        ∧ (t.memctl n).repaired = (s.memctl n).repaired
          ++ [(s.get (F.MC_PPR_NEXT_PC n), s.get (F.MC_PPR_NEXT_BANK n), s.get (F.MC_PPR_NEXT_ROW n), s.now)]
        ∧ t.get (F.MC_REPAIR_REPAIRS n) = (s.bump (F.MC_REPAIR_REPAIRS n)).get (F.MC_REPAIR_REPAIRS n)
        ∧ t.led = s.led ∧ regsBut [A.MC_REPAIR n] s t ∧ sameBytes s t)
      ∧ (due (A.MC_PPR_ACT n) → s.get (F.UNIT_STATE_STATE (entMc n)) ≠ 2 → exec (.softRepair n) s = .next s)
      ∧ (due (A.MC_PCRET_ACT n) → ready → ∃ t, exec (.pcRetire n) s = .next t
        ∧ (∀ p < 32, (t.get (F.MC_PCMAP_RETIRED n)).testBit p
          = ((s.get (F.MC_PCMAP_RETIRED n)).testBit p || (s.get (F.MC_PCRET_NEXT_RETIRE n)).testBit p))
        ∧ t.get (F.MC_PCRET_ACT_ARMED n) = 0 ∧ sameBytes s t)
      ∧ (due (A.MC_THR_ACT n) → ready → (s.memctl n).stop = false → s.get (F.MC_THR_NEXT_STOP n) = 0 → ∃ t, exec (.thermalAction n) s = .next t
        ∧ (t.memctl n).refx = s.get (F.MC_THR_NEXT_REFX n) ∧ ((t.memctl n).throttle = true ↔ s.get (F.MC_THR_NEXT_THROTTLE n) = 1)
        ∧ (t.memctl n).stop = false ∧ t.get (F.MC_THR_ACT_ARMED n) = 0 ∧ regsBut [A.MC_THR_ACT n] s t ∧ sameBytes s t)
      ∧ (due (A.MC_THR_ACT n) → ready → (s.memctl n).stop = false → s.get (F.MC_THR_NEXT_STOP n) = 1 → ∃ t, exec (.thermalAction n) s = .next t
        ∧ (t.memctl n).stop = true ∧ t.get (F.MC_STATUS_SREF n) = 1 ∧ t.get (F.UNIT_STATE_STATE (entMc n)) = 4 ∧ sameBytes s t)
      ∧ ((s.memctl n).trip = false → (s.memctl n).stop = false → ∃ t, exec (.catastrophicTemperature n) s = .next t ∧ t.get (F.MC_STATUS_THERM n) = 2
        ∧ (t.memctl n).trip = true ∧ (t.memctl n).stop = true ∧ t.get (F.MC_STATUS_SREF n) = 1
        ∧ t.get (F.UNIT_STATE_STATE (entMc n)) = 4 ∧ (∀ a, stackOfByte a ≠ n → t.near.get a = s.near.get a)
        ∧ t.far = s.far ∧ t.stage = s.stage ∧ t.side = s.side ∧ t.core = s.core ∧ t.flashA = s.flashA ∧ t.flashB = s.flashB)
      ∧ (∀ r : Training, s.get (F.UNIT_STATE_STATE (entMc n)) = 1 → ∃ t, exec (.mcTrainDone n r) s = .next t
        ∧ t.get (F.UNIT_STATE_STATE (entMc n)) = (if r.pass then 2 else 4) ∧ t.get (F.MC_TRAIN_PASS n) = boolBit r.pass
        ∧ t.get (F.MC_TRAIN_FAILED n) = (if r.pass then r.failed.toNat else 0xFFFFFFFF) ∧ t.get (F.MC_STATUS_SREF n) = 0
        ∧ (t.memctl n).trained = true ∧ (r.srefError = false → sameBytes s t)))
    ∧ ∀ p < 2, s.fuse.s0 = false →
      (s.get (F.UNIT_STATE_STATE (entFar p)) = 2 → ∃ t, exec (.farLinkDown p) s = .next t
        ∧ t.get (F.UNIT_STATE_STATE (entFar p)) = 4 ∧ t.far.getD p {} = (s.far.getD p {}).lose
        ∧ t.far.getD (1 - p) {} = s.far.getD (1 - p) {} ∧ t.near = s.near
        ∧ t.get (F.FAR_ERR_LINK_DOWN p) = (s.bump (F.FAR_ERR_LINK_DOWN p)).get (F.FAR_ERR_LINK_DOWN p))
      ∧ (s.get (F.UNIT_STATE_STATE (entFar p)) = 4 →
        (∃ t, exec (.farRetrain p true) s = .next t ∧ t.get (F.UNIT_STATE_STATE (entFar p)) = 2
          ∧ t.get (F.FAR_STATUS_CAP p) = min (Config.farCap p) 4096 ∧ sameBytes s t)
        ∧ ∃ t, exec (.farRetrain p false) s = .next t ∧ t.get (F.UNIT_STATE_STATE (entFar p)) = 4 ∧ sameBytes s t)

/-! ## The fabric and packets delivered here (chapters 08, 09) -/

/-- Packets on their way (R276, R282, R284, R288, R295): a header that fails its check is discarded and its credit returned; a packet for
this module waits for its unit; another leaves on its port once the buffer there has credit for it; a packet too old is dropped. -/
def Obligations.PacketRouting : Prop :=
  ∀ (s : State) (p cls : Nat) (pkt : Packet), s.powered → p < 12 → s.get (F.UNIT_STATE_STATE (entPort p)) = 2 →
    let credit : Egress := .credit p (pkt.vc * 2 + cls % 2) pkt.beats
    (pkt.check ≠ 0 → ∃ t, exec (.packetHop p cls pkt) s = .next t ∧ t.rt = s.rt ∧ t.sent = s.sent ++ [credit]
      ∧ t.get F.RT_STAT_HDR_CHECK = (s.bump F.RT_STAT_HDR_CHECK).get F.RT_STAT_HDR_CHECK ∧ regsBut [A.RT_STAT, A.FAULT_LOST] s t
      ∧ sameBytes s t)
    ∧ (∀ b, pkt.check = 0 → s.bankOfTag pkt.tag = some b → pkt.mcast = false → pkt.dst = s.get F.RT_NODE_ID_ID →
        s.get F.RT_NODE_ID_VALID = 1 → pkt.spec = false → s.rt.held = [] →
      ∃ t, exec (.packetHop p cls pkt) s = .next t ∧ t.rt.held = [⟨p, cls % 2, s.now, pkt, [], true⟩] ∧ t.sent = s.sent
        ∧ t.rt.credit = s.rt.credit ∧ (∀ a, t.reg a = s.reg a) ∧ sameBytes s t)
    ∧ (∀ b o k, pkt.check = 0 → s.bankOfTag pkt.tag = some b → pkt.mcast = false → pkt.dst ≠ s.get F.RT_NODE_ID_ID →
        routeOut (s.routeEntry b pkt.dst) pkt.coll = some (o, k) → o ≠ p → s.get (F.UNIT_STATE_STATE (entPort o)) = 2 → s.rt.held = [] →
        pkt.beats ≤ (s.rt.credit.getD o []).getD (pkt.vc * 2 + k) 0 →
      ∃ t, exec (.packetHop p cls pkt) s = .next t ∧ t.sent = s.sent ++ [.packet o k pkt, credit] ∧ t.rt.held = []
        ∧ t.rt.out = s.rt.out ++ [⟨o, pkt.vc * 2 + k, pkt.tag, pkt.beats⟩] ∧ (∀ a, t.reg a = s.reg a) ∧ sameBytes s t)
    ∧ (pkt.check = 0 → s.bankOfTag pkt.tag = none → ∃ t, exec (.packetHop p cls pkt) s = .next t ∧ t.rt = s.rt
      ∧ t.sent = s.sent ++ [credit] ∧ t.get F.RT_STAT_EPOCH_STALE = (s.bump F.RT_STAT_EPOCH_STALE).get F.RT_STAT_EPOCH_STALE
      ∧ regsBut [A.RT_STAT, A.FAULT_LOST] s t ∧ sameBytes s t)
    ∧ (∀ buf n, buf < 8 → s.rt.held = [] → exec (.creditReturn p buf n) s = .next { s with rt := { s.rt with
        credit := s.rt.credit.set p ((s.rt.credit.getD p []).set buf (min 34 ((s.rt.credit.getD p []).getD buf 0 + n)))
        out := payBack p buf n s.rt.out } })
    ∧ ∀ h, s.rt.held = [h] → h.src = p → h.tick + max 1 (s.get (F.RT_AGE_A h.pkt.vc)) ≤ s.now →
      ∃ t, exec (.ageLimit p 0) s = .next t ∧ t.rt = { s.rt with held := [] }
        ∧ t.get F.RT_DROP_AGE = (s.bump F.RT_DROP_AGE).get F.RT_DROP_AGE ∧ t.sent = s.sent ++ [.credit p (h.pkt.vc * 2 + h.cls) h.pkt.beats]
        ∧ regsBut [A.RT_DROP, A.FAULT_LOST] s t ∧ sameBytes s t

/-- Routing-table banks (R292 to R294) and the loss of a link (R299, R305). Bank states read 0 FREE, 1 LIVE, 2 RETIRING. -/
def Obligations.BanksAndLinks : Prop :=
  ∀ s : State, s.powered →
    (∀ b < 2, ∀ tag < 4, s.commitCheck b tag = 0 → ∃ t, exec (.bankCommit b tag) s = .next t ∧ t.bankState b = 1 ∧ t.bankTag b = tag
      ∧ t.bankState (1 - b) = s.bankState (1 - b) ∧ t.bankTag (1 - b) = s.bankTag (1 - b) ∧ regsBut [A.RT_BANK_STATUS] s t
      ∧ sameBytes s t)
    ∧ (∀ b < 2, ∀ tag < 4, s.commitCheck b tag ≠ 0 →
      exec (.bankCommit b tag) s = .next (s.set F.RT_BANK_STATUS_LAST_REFUSE (s.commitCheck b tag)))
    ∧ (∀ b < 2, s.bankState b = 1 → s.rt.used.getD b false = false → s.drainSum (s.bankTag b) = 0 →
      exec (.bankDiscard b) s = .next (s.setBank b 0))
    ∧ (∀ b < 2, s.bankState b = 2 → s.now % 256 = 0 → s.rt.life.getD b 0 + s.get F.RT_LIFE_SLOTS ≤ s.slot →
        s.drainSum (s.bankTag b) = 0 → exec (.bankRetire b) s = .next (s.setBank b 0))
    ∧ (∀ b k, b < 2 → bits (s.reg A.RT_SEND_ACT) 63 63 = 1 → s.now % 256 = 0 → mapFind s.staged A.RT_SEND_ACT = some k → k ≤ s.slot →
        s.bankState b = 1 → s.bankTag b = s.get F.RT_SEND_NEXT_EPOCH → s.bankTag (1 - b) ≠ s.bankTag b →
        s.sendBank = some (1 - b) →
      ∃ t, exec .sendSwitch s = .next t ∧ t.get F.RT_BANK_STATUS_SEND_EPOCH = s.bankTag b ∧ t.get F.RT_BANK_STATUS_SEND_VALID = 1
        ∧ t.bankState (1 - b) = 2 ∧ t.bankState b = 1 ∧ bits (t.reg A.RT_SEND_ACT) 63 63 = 0
        ∧ regsBut [A.RT_BANK_STATUS, A.RT_SEND_ACT] s t ∧ sameBytes s t)
    ∧ ∀ p < 12, s.opt.length = 14 →
      (s.phase p = 7 → s.get (F.UNIT_STATE_STATE (entPort p)) = 2 → 4 ≤ (s.optic p).missSlots → ∃ t, exec (.linkLost p) s = .next t
        ∧ t.get (F.UNIT_STATE_STATE (entPort p)) = 3 ∧ t.get (F.SPK_CAD_DELAY_VALID p) = 0 ∧ sameBytes s t)
      ∧ (s.phase p = 7 → s.get (F.UNIT_STATE_STATE (entPort p)) = 3 → 4 ≤ (s.optic p).missSlots →
          s.get (F.UNIT_STATE_ENABLE_PENDING (entPort p)) = 0 → s.rt.credit.length = 12 →
        ∃ t, exec (.portDrainDone p) s = .next t ∧ t.get (F.UNIT_STATE_STATE (entPort p)) = 4
          ∧ t.rt.credit.getD p [] = List.replicate 8 34 ∧ (∀ x ∈ t.rt.out, x.port ≠ p) ∧ sameBytes s t)
      ∧ (s.get (F.UNIT_STATE_STATE (entPort p)) = 2 → (s.optic p).tripped = false → ∃ t, exec (.arbWatchdog p) s = .next t ∧ t.get F.RST_STATUS_DOMAIN = 4
        ∧ t.get F.RST_STATUS_CAUSE = 3 ∧ t.get F.RT_DROP_WDOG = (s.bump F.RT_DROP_WDOG).get F.RT_DROP_WDOG
        ∧ t.get (F.UNIT_STATE_STATE (entPort p)) = 1 ∧ sameBytes s t)

/-- Packets that this module takes (R103, R170, R279, R280, R284, R325, R326, R333, R340, R346, R409): the packet leaves its buffer, whose
credit returns to the sender, and has its effect. `y` is the state without it. What an ECC report of memory adds to MC_ECC is open (log
entry 84). -/
def Obligations.LocalDeliveries : Prop :=
  ∀ (s : State) (l : Transit), s.powered → s.shaped → s.rt.held = [l] → l.loc = true → l.outs = [] → l.pkt.spec = false →
    let y : State := { s with
      rt := { s.rt with held := [] }
      sent := s.sent ++ (if l.src < 12 then [.credit l.src (l.pkt.vc * 2 + l.cls) l.pkt.beats] else []) }
    let a := bits l.pkt.w2 47 0
    let n := l.pkt.payload.length
    let c := packetCtx l.pkt
    let ours := l.pkt.layoutGen = s.get F.COLL_LAYOUT_CUR
    let m := bits l.pkt.w2 63 48
    (∀ pc off, l.pkt.kind = 1 → s.place a = .near pc off → s.serves (entMc (pc / 32)) = true → s.pcRetired pc = false → 0 < n →
        a % 256 + n ≤ 256 →
      ∃ t, exec .pktWrite s = .next t ∧ t.rt = y.rt ∧ t.near.load (pc * pcBytes + off) n = l.pkt.payload ∧ t.sent = y.sent
        ∧ regsBut [A.MC_ECC (pc / 32)] s t ∧ ∀ b, b < pc * pcBytes + off ∨ pc * pcBytes + off + n ≤ b → t.near.get b = s.near.get b)
    ∧ (∀ pc off, l.pkt.kind = 2 → s.place a = .near pc off → s.serves (entMc (pc / 32)) = true → s.pcRetired pc = false → 0 < n →
        a % 256 + n ≤ 256 → n % 4 = 0 →
      ∃ t, exec .atomicAdd s = .next t ∧ t.rt = y.rt
        ∧ t.near.load (pc * pcBytes + off) n = (atomicSum (s.near.load (pc * pcBytes + off) n) l.pkt.payload).1
        ∧ ∀ b, b < pc * pcBytes + off ∨ pc * pcBytes + off + n ≤ b → t.near.get b = s.near.get b)
    ∧ (∀ k, l.pkt.kind = 3 → bits l.pkt.w2 45 41 < 24 → s.siteOf (bits l.pkt.w2 47 46) (bits l.pkt.w2 45 41) = some k →
        s.serves (entCore k) = true → 16 ≤ bits l.pkt.w2 40 36 → bits l.pkt.w2 40 36 ≤ 23 →
      exec .signal s = .next (y.addCounter k (bits l.pkt.w2 40 36) (bits l.pkt.w2 63 48) 1))
    ∧ (∀ i x, l.pkt.kind = 0x10 → c < 16 → s.serves (entCtx c) = true → s.cxActive c kReduce = true → s.get (F.RC_CFG_ROLE c) = 0 → s.serves (entStage (s.cxHome c)) = true →
        i < x.ins.length → (∀ j ∈ s.cxInputs c, s.get (F.RC_IN_SRC_ID c j) = l.pkt.srcId ↔ j = i) → i ∈ s.cxInputs c →
        l.pkt.stepTag = s.cxTag c → ours → (s.cx c).rounds = [x] → x.phase = 0 → x.num % 8 = l.pkt.coll / 32 →
        (x.ins.getD i {}).broken = false → ((x.ins.getD i {}).got = true → (x.ins.getD i {}).mask = m) → l.pkt.deadline = s.cxDeadline c x.num % 2 ^ 48 →
        l.pkt.offset * 32 = (x.ins.getD i {}).bytes → l.pkt.offset * 32 + n ≤ s.cxR c →
        (m &&& s.get (F.RC_IN_MASK c i)) = m →
      ∃ t z, exec .redContrib s = .next t ∧ (t.cx c).rounds = [z] ∧ z.num = x.num ∧ (z.ins.getD i {}).bytes = (x.ins.getD i {}).bytes + n
        ∧ (z.ins.getD i {}).got = true ∧ t.stage.load (s.cxArea c x.num (2 + i) + l.pkt.offset * 32) n = l.pkt.payload
        ∧ t.rt = y.rt ∧ t.near = s.near)
    ∧ (∀ x, l.pkt.kind = 0x11 → c < 16 → x.last = false → s.serves (entCtx c) = true → s.cxActive c kReduce = true → s.get (F.RC_CFG_ROLE c) = 1 → s.serves (entStage (s.cxHome c)) = true →
        s.get (F.RC_IN_VALID c 0) = 1 → s.get (F.RC_IN_SRC_ID c 0) = l.pkt.srcId → l.pkt.stepTag = s.cxTag c → ours →
        (s.cx c).rounds = [x] → x.phase = 0 → x.num % 8 = l.pkt.coll / 32 → x.ins ≠ [] → (x.ins.getD 0 {}).broken = false →
        ((x.ins.getD 0 {}).got = true → (x.ins.getD 0 {}).mask = m) → l.pkt.deadline = s.cxDeadline c x.num % 2 ^ 48 → l.pkt.offset * 32 = (x.ins.getD 0 {}).bytes →
        l.pkt.offset * 32 + n ≤ s.cxR c → (m &&& s.get (F.RC_IN_MASK c 0)) = m →
        bitAt l.pkt.policy 11 = false →
      ∃ t z, exec .redResult s = .next t ∧ (t.cx c).rounds = [z] ∧ z.num = x.num ∧ (z.ins.getD 0 {}).bytes = (x.ins.getD 0 {}).bytes + n
        ∧ z.phase = 0 ∧ t.stage.load (s.cxArea c x.num 1 + l.pkt.offset * 32) n = l.pkt.payload)
    ∧ (l.pkt.kind = 0x12 → s.serves (entCtx c) = true → s.cxActive c kPeloton = true → l.pkt.layoutGen = s.get F.COLL_LAYOUT_CUR →
        bits l.pkt.w2 47 32 = s.pgen c →
      exec .pelotonArrive s = .next (y.setCx c { s.cx c with heard := (s.cx c).heard ||| m, heardAt := s.now }))
    ∧ (l.pkt.kind = 0x13 → c < 16 → s.serves (entCtx c) = true → s.cxActive c kPeloton = true → l.pkt.layoutGen = s.get F.COLL_LAYOUT_CUR →
        bits l.pkt.w2 47 32 = s.pgen c → (∀ m < 16, s.get (F.RC_OUT_CHAIN m) = 0 ∧ s.cxKind m ≠ kCaravan) →
      ∃ t, exec .pelotonRelease s = .next t ∧ t.pgen c = (s.pgen c + 1) % 65536 ∧ (t.cx c).arrived = false ∧ (t.cx c).heard = 0
        ∧ bits (t.reg (A.RC_RESULT c)) 63 48 = m ∧ sameBytes s t)
    ∧ (l.pkt.kind = 0x14 → s.serves (entCtx c) = true → s.cxActive c kCaravan = true → l.pkt.layoutGen = s.get F.COLL_LAYOUT_CUR →
        s.get (F.RC_STATUS_ROUND c) = l.pkt.policy % 16 →
      exec .caravan s = .next ((y.setCx c { s.cx c with
        recv := (s.cx c).recv.set (l.pkt.policy % 16) ((s.cx c).recv.getD (l.pkt.policy % 16) 0 + n) }).packetPut (dieOfSrc l.src) l.pkt false))
    ∧ (let f := frameRequest (mgmtFrame l.pkt)
       let d := y.devWord ⟨dieOfSrc l.src, 27⟩ f.addr (some (f.words.getD 0 0))
       l.pkt.kind = 0x20 → s.rt.mailbox = [] → f.op = 1 → ({ f with proxy := some 0 } : Request).malformed 96 = false → d.st.sendBank = none →
      ∃ p : Packet, p.kind = 0x21 ∧ p.dst = l.pkt.srcId ∧ exec .mgmtReq s = .next (d.st.unroutable (12 + dieOfSrc l.src) p false))
    ∧ (∀ r, l.pkt.kind = 0x21 → y.mgmtFind l.pkt = some (0, 0, r) → (s.ck 0).mbox = [r] → r.mute = false → (s.ck 0).outq = [] →
        (s.ck 0).unacked.length < 64 → bits (mgmtFrame l.pkt).w0 59 56 = 0 →
      ∃ t f, exec .mgmtResp s = .next t ∧ (t.ck 0).mbox = [] ∧ t.sent = y.sent ++ [.frame 0 f] ∧ f.op = 8 ∧ bits f.w0 59 56 = 0
        ∧ bits f.w1 63 48 = r.tag % 65536 ∧ f.payload = (mgmtFrame l.pkt).payload.take (mgmtFrame l.pkt).count ∧ sameBytes s t)

/-! ## Collectives (chapter 09) -/

/-- Contexts and their rounds (R316, R317, R324, R327, R330, R332). RC_STATUS.STATE reads 0 IDLE, 1 ARMED, 2 ACTIVE; a round's phase is
0 open, 1 closed, 2 SENDING. -/
def Obligations.ContextsAndRounds : Prop :=
  ∀ (s : State) (c : Nat), s.powered → s.shaped → c < 16 →
    (∀ slot < 2 ^ 56, (s.set (F.RC_START_START c) slot).armCheck c slot = 0 → s.get (F.RC_CFG_STEP_REL c) = 0 →
      ∃ t, exec (.rcArm c slot) s = .next t ∧ t.cxState c = 1 ∧ t.get (F.RC_START_ARMED c) = 1 ∧ t.get (F.RC_STATUS_ROUND c) = 0
        ∧ t.get (F.RC_STATUS_LGEN c) = s.get F.COLL_LAYOUT_CUR ∧ t.get (F.RC_STATUS_PGEN c) = 0 ∧ (t.cx c).startSlot = slot
        ∧ (t.cx c).d0 = s.extend48 (s.get (F.RC_DL_DL c)) ∧ (t.cx c).rounds = []
        ∧ regsBut [A.RC_START c, A.RC_STATUS c, A.COLL_LAYOUT] s t ∧ sameBytes s t)
    ∧ (∀ slot < 2 ^ 56, s.cxState c ≠ 0 → ∃ t, exec (.rcArm c slot) s = .next t ∧ t.get (F.RC_START_LAST_REFUSE c) = 1 ∧ t.ctx = s.ctx
      ∧ t.get (F.RC_ERR_REFUSED c) = (s.bump (F.RC_ERR_REFUSED c)).get (F.RC_ERR_REFUSED c) ∧ regsBut [A.RC_START c, A.RC_ERR c] s t
      ∧ sameBytes s t)
    ∧ (∃ t, exec (.rcAbort c) s = .next t ∧ t.cxState c = 0 ∧ t.get (F.RC_START_ARMED c) = 0 ∧ (t.cx c).rounds = []
      ∧ regsBut [A.RC_START c, A.RC_STATUS c, A.COLL_LAYOUT] s t ∧ sameBytes s t)
    ∧ (s.cxState c = 1 → s.now % 256 = 0 → (s.cx c).startSlot ≤ s.slot → s.cxKind c = kReduce → (s.cx c).rounds = [] → 2 ≤ s.cxRounds c →
      ∃ t, exec (.rcActivate c) s = .next t ∧ t.cxState c = 2
        ∧ (t.cx c).rounds.map (fun x => (x.num, x.phase, x.ins)) = [0, 1].map (fun r => (r, 0, List.replicate (s.get (F.RC_CFG_NIN c) + 1) {}))
        ∧ (∀ i < s.cxR c, t.stage.get (s.cxArea c 1 1 + i) = 0) ∧ t.near = s.near)
    ∧ (∀ h x, h < 2 → s.cxInHalf c h = some x → s.cxActive c kReduce = true →
      (s.get (F.RC_CFG_ROLE c) = 0 → x.phase = 0 → s.cxDeadline c x.num < s.now →
        ∃ t, exec (.roundClose c h) s = .next t ∧ ∃ y ∈ (t.cx c).rounds, y.num = x.num ∧ y.phase = 1)
      ∧ (s.get (F.RC_CFG_ROLE c) = 0 → x.phase = 1 → exec (.roundClose c h) s = .next s)
      ∧ (x.phase = 1 → ∃ t, exec (.roundSend c h) s = .next t ∧ ∃ y ∈ (t.cx c).rounds, y.num = x.num ∧ y.phase = 2)
      ∧ (x.phase = 1 → unsigned 64 (mantSum (s.stage.load (s.cxArea c x.num 1) (s.cxR c)) + x.corr - (x.expect : Int)) = 0 →
          s.get (F.RC_OUT_FWD c) = 0 → s.get (F.RC_OUT_BCAST c) = 0 → s.get (F.RC_OUT_STORE c) = 0 → s.get (F.RC_OUT_CHAIN c) = 0 →
        ∃ t, exec (.roundSend c h) s = .next t ∧ t.reg (A.RC_RESULT c) = x.word2 ∧ regsBut [A.RC_RESULT c, A.RC_STATUS c] s t
          ∧ sameBytes s t)
      ∧ (x.phase = 2 → s.unsent c x.num = true → exec (.roundDone c h) s = .next s)
      ∧ (x.phase = 2 → s.unsent c x.num = false → x.num + 1 = s.cxRounds c → ∃ t, exec (.roundDone c h) s = .next t ∧ t.cxState c = 0 ∧ (t.cx c).rounds = [])
      ∧ (x.phase = 2 → s.unsent c x.num = false → x.num + 2 < s.cxRounds c → s.get (F.RC_DONE_EVERY c) = 0 → ∃ t, exec (.roundDone c h) s = .next t
        ∧ t.cxState c = 2 ∧ (∃ y ∈ (t.cx c).rounds, y.num = x.num + 2 ∧ y.phase = 0)
        ∧ (∀ i < s.cxR c, t.stage.get (s.cxArea c x.num 1 + i) = 0) ∧ t.near = s.near))

/-- Pelotons and Caravan (R339, R340, R346, R347). -/
def Obligations.PelotonsAndCaravan : Prop :=
  ∀ (s : State) (c : Nat), s.powered → s.shaped → c < 16 →
    let plain := ∀ m < 16, s.get (F.RC_OUT_CHAIN m) = 0 ∧ s.cxKind m ≠ kCaravan
    (∀ n, s.cxActive c kPeloton = true → s.get (F.RC_ARR_EN c) = 1 → (s.cx c).arrived = false →
        s.siteOf (s.get (F.RC_ARR_DIE c)) (s.get (F.RC_ARR_LCORE c)) = some n →
        s.get (F.RC_ARR_TARGET c) ≤ s.get (F.CNT_VALUE n (s.get (F.RC_ARR_COUNTER c))) →
      ∃ t, exec (.pelotonMemberArrive c) s = .next t ∧ (t.cx c).arrived = true
        ∧ t.get (F.RC_ARR_TARGET c) = (s.get (F.RC_ARR_TARGET c) + s.get (F.RC_ARR_STEP c)) % 2 ^ 32
        ∧ (s.isMaster c = true → (t.cx c).heard = (s.cx c).heard ||| 2 ^ s.cxPos c ∧ regsBut [A.RC_ARR c] s t) ∧ sameBytes s t)
    ∧ (s.cxActive c kPeloton = true → s.isMaster c = true → s.now % 256 = 0 → (s.cx c).heardAt < s.now →
        s.allHeard c = true → (s.cx c).chained = false → plain →
      ∃ t, exec (.pelotonMasterRelease c) s = .next t ∧ t.pgen c = (s.pgen c + 1) % 65536 ∧ (t.cx c).arrived = false
        ∧ (t.cx c).heard = 0 ∧ bits (t.reg (A.RC_RESULT c)) 63 48 = (s.cx c).heard % 65536 ∧ sameBytes s t)
    ∧ (s.cxActive c kPeloton = true → s.isMaster c = true → s.now % 256 = 0 → (s.cx c).deadline = true →
        s.cxDeadline c (s.pgen c) < s.now → plain →
      ∃ t, exec (.pelotonDeadline c) s = .next t ∧ t.pgen c = (s.pgen c + 1) % 65536 ∧ (t.cx c).arrived = false
        ∧ (t.cx c).heard = 0 ∧ bits (t.reg (A.RC_RESULT c)) 63 48 = (s.cx c).heard % 65536 ∧ sameBytes s t)
    ∧ (s.cxActive c kCaravan = true → (s.cx c).stage = 0 → s.get F.COLL_LAYOUT_OPEN = 0 → ∃ t, exec (.caravanFence c) s = .next t
      ∧ t.get F.COLL_LAYOUT_CUR = s.get (F.RC_CARAVAN_NEW_GEN c) ∧ t.get (F.RC_STATUS_LGEN c) = s.get (F.RC_CARAVAN_NEW_GEN c)
      ∧ (t.cx c).stage = 1 ∧ sameBytes s t)
    ∧ (s.cxActive c kCaravan = true → (s.cx c).stage = 2 →
        (s.listWord c (s.get (F.RC_STATUS_ROUND c))).toNat = (s.cx c).recv.getD (s.get (F.RC_STATUS_ROUND c)) 0 →
      ∃ t, exec (.caravanPhaseDone c) s = .next t ∧ (t.cx c).stage = 3 ∧ sameBytes s t)

/-! ## Optical ports (chapter 10) -/

/-- Link control words, steers and lane declarations of a Spoke port (R54, R366, R372, R376, R377, R379, R388). OPT_STATE.PHASE reads 7 in
SERVICE; SPK_STEER_STATUS.STATE reads 1 in progress, 2 done, 3 refused; SPARE_USE 15 says that lane 8 is idle. -/
def Obligations.WordsAndSteers : Prop :=
  ∀ (s : State) (p : Nat), s.powered → s.shaped → p < 12 →
    let idle := s.get (F.OPT_STATE_SPARE_USE p) = 15 ∧ s.laneOk p 8 = true
    let took := fun (t : State) (op k : Nat) => t.get (F.SPK_STEER_STATUS_STATE p) = 1 ∧ t.get (F.SPK_STEER_STATUS_OP p) = op
      ∧ t.get (F.SPK_STEER_STATUS_LANE p) = k ∧ t.get (F.SPK_STEER_STATUS_RETRIES p) = 0 ∧ (t.optic p).steerSlot = s.slot ∧ sameBytes s t
    let due := fun (op k : Nat) => bits (s.reg (A.SPK_STEER_ACT p)) 63 63 = 1 ∧ s.now % 256 = 0
      ∧ (∃ a, mapFind s.staged (A.SPK_STEER_ACT p) = some a ∧ a ≤ s.slot) ∧ s.get (F.SPK_STEER_STATUS_STATE p) ≠ 1 ∧ s.phase p = 7
      ∧ s.get (F.SPK_STEER_NEXT_OP p) = op ∧ s.get (F.SPK_STEER_NEXT_LANE p) = k ∧ s.get (F.UNIT_STATE_STATE (entPort p)) = 2
      ∧ (s.get (F.OPT_CTRL_AUTO_SPARE p) = 0 ∨ (s.optic p).failTx = [])
    (∀ lane cycle w corr, lane < 9 → 4 ≤ s.phase p → s.phase p ≤ 7 →
      let x := s.modLane p lane fun r => { r with came := true, corr := r.corr + corr }
      (nbits w.toNat 127 120 = 0x5A → nbits w.toNat 79 72 = crc8 w.toNat → nbits w.toNat 115 112 = 1 → nbits w.toNat 111 108 = 0 →
          nbits w.toNat 99 96 = 0 →
        exec (.lcwReceive p lane cycle w corr 0) s = .next (((x.set (F.LANE_STATE_LAST_ID p lane) (nbits w.toNat 119 116)).modLane p lane
          fun r => { r with seen := true, wrong := nbits w.toNat 119 116 != lane }).takeBeacon p false))
      ∧ (nbits w.toNat 127 120 ≠ 0x5A ∨ nbits w.toNat 79 72 ≠ crc8 w.toNat →
        exec (.lcwReceive p lane cycle w corr 0) s = .next ((x.bump (F.LANE_STATE_LCW_BAD p lane)).takeBeacon p false)))
    ∧ (∀ op k, op = 1 ∨ op = 3 → k < 8 → due op k → idle → ∃ t, exec (.steer p) s = .next t ∧ took t op k
      ∧ t.get (F.OPT_STATE_SPARE_USE p) = k ∧ t.get (F.OPT_STATE_SPARE_PERM p) = (if op = 3 then 1 else 0)
      ∧ t.get (F.LANE_STATE_ROLE p 8) = k ∧ t.get (F.SPK_STEER_ACT_ARMED p) = 0)
    ∧ (∀ k, k < 8 → due 2 k → s.get (F.OPT_STATE_SPARE_USE p) = k → s.get (F.OPT_STATE_SPARE_PERM p) = 0 →
      ∃ t, exec (.steer p) s = .next t ∧ took t 2 k ∧ t.get (F.OPT_STATE_SPARE_USE p) = k)
    ∧ (∀ op k, op = 1 ∨ op = 3 → due op k → s.get (F.OPT_STATE_SPARE_USE p) ≠ 15 → ∃ t, exec (.steer p) s = .next t
      ∧ t.get (F.SPK_STEER_STATUS_STATE p) = 3 ∧ t.get (F.OPT_STATE_SPARE_USE p) = s.get (F.OPT_STATE_SPARE_USE p) ∧ sameBytes s t)
    ∧ (s.get (F.SPK_STEER_STATUS_STATE p) = 1 → s.now % 256 = 0 → (s.optic p).steerSlot + 5 ≤ s.slot →
      (s.get (F.SPK_STEER_STATUS_RETRIES p) < 3 → ∃ t, exec (.steerRetry p) s = .next t
        ∧ t.get (F.SPK_STEER_STATUS_RETRIES p) = s.get (F.SPK_STEER_STATUS_RETRIES p) + 1 ∧ (t.optic p).steerSlot = s.slot
        ∧ t.get (F.OPT_ERR_STEER_RETRY p) = (s.bump (F.OPT_ERR_STEER_RETRY p)).get (F.OPT_ERR_STEER_RETRY p) ∧ sameBytes s t)
      ∧ (3 ≤ s.get (F.SPK_STEER_STATUS_RETRIES p) → exec (.steerRetry p) s = .next (s.set (F.SPK_STEER_STATUS_STATE p) 3)))
    ∧ (∀ k c l, s.get (F.OPT_CTRL_AUTO_SPARE p) = 1 → s.now % 256 = 0 → s.phase p = 7 → s.get (F.SPK_STEER_STATUS_STATE p) ≠ 1 →
        (s.optic p).failTx = (k, c) :: l → k < 8 → idle →
      ∃ t, exec (.autoSpare p) s = .next t ∧ took t 3 k ∧ t.get (F.OPT_STATE_SPARE_USE p) = k ∧ t.get (F.OPT_STATE_SPARE_PERM p) = 1)
    ∧ (∀ l, bits (s.reg (A.SPK_LANE_ACT p)) 63 63 = 1 → s.now % 256 = 0 → s.get (F.UNIT_STATE_STATE (entPort p)) = 2 →
        (∃ a, mapFind s.staged (A.SPK_LANE_ACT p) = some a ∧ a ≤ s.slot) → l < 8 → s.get (F.SPK_LANE_NEXT_TX_FAIL p) = 0 →
        s.get (F.SPK_LANE_NEXT_RX_FAIL p) = 2 ^ l → bitAt (s.optic p).rxFail l = false →
      ∃ t, exec (.laneDeclare p) s = .next t ∧ t.get (F.LANE_STATE_HEALTH p l) = 2 ∧ bitAt (t.optic p).rxFail l = true
        ∧ t.laneOk p l = false ∧ t.get (F.SPK_LANE_ACT_ARMED p) = 0 ∧ sameBytes s t)
    ∧ (s.phase p = 6 → ∀ w cycle,
      exec (.ping p w cycle) s = .next (s.modOptic p fun o => { o with echoOwed := some (bits w 31 0, s.now * 20 + cycle) })
      ∧ ((s.optic p).pingSeq ≠ 0 → bits w 47 32 = (s.optic p).pingSeq % 2 ^ 16 → exec (.echo p w cycle) s = .next
        ((s.set (F.SPK_CAD_DELAY_DELAY p) ((s.now * 20 + cycle - (s.optic p).pingTick * 20 - bits w 31 0) / 2)).set
          (F.SPK_CAD_DELAY_VALID p) 1)))

/-- Frames of an engine, the monitor's limits and the commands of a port (R359, R362, R363, R369, R370, R383, R387, R393). -/
def Obligations.EnginesAndPorts : Prop :=
  ∀ (s : State) (p : Nat), s.powered → s.shaped → p < 14 →
    let n := fun (f : BitVec 32) => f.toNat
    let good := fun (f : BitVec 32) (type target : Nat) => nbits (n f) 5 0 = crc6 (n f) ∧ nbits (n f) 31 28 = type
      ∧ nbits (n f) 27 23 = target
    let x := s.modOptic p fun o => { o with upSeen := true }
    (∀ f l, good f 9 l → l < laneCount p → exec (.mon p f) s = .next (x.modLane p l fun r =>
      { r with lockin := r.lockin + (if (s.optic p).window = 1 then -(nbits (n f) 19 6 : Int) else (nbits (n f) 19 6 : Int)),
               level := r.level + nbits (n f) 19 6, samples := r.samples + 1 }))
    ∧ (∀ f i, i < 2 → good f 10 (24 + i) → exec (.lmon p f) s = .next (x.modOptic p fun o => { o with
        laserSum := o.laserSum.set i (o.laserSum.getD i 0 + nbits (n f) 19 6), laserNum := o.laserNum.set i (o.laserNum.getD i 0 + 1) }))
    ∧ (∀ f, good f 10 26 → exec (.lmon p f) s = .next (x.modOptic p fun o => { o with
        refLockin := o.refLockin + (if (s.optic p).window = 1 then -(nbits (n f) 19 6 : Int) else (nbits (n f) 19 6 : Int)),
        refSamples := o.refSamples + 1 }))
    ∧ (∀ f l, good f 11 l → exec (.regData p f) s = .next (x.modOptic p fun o => { o with regRead := nbits (n f) 19 6 }))
    ∧ (∀ f l, good f 12 l → exec (.alert p f) s = .next (x.modOptic p fun o => { o with alerts := o.alerts + 1 }))
    ∧ (∀ f : BitVec 32, nbits (n f) 5 0 ≠ crc6 (n f) → exec (.mon p f) s = .next (s.bump (F.OPT_ERR_SB_CRC p)))
    ∧ (s.phase p ≠ 0 → s.phase p ≠ 8 → 1 ≤ (s.optic p).upMissed → ∃ t, exec (.sidebandLost p) s = .next t ∧ t.phase p = 8
      ∧ t.get (F.OPT_STATE_FAIL_REASON p) = 11 ∧ t.get (F.UNIT_STATE_STATE (entPort p)) = 4 ∧ sameBytes s t)
    ∧ (p < 12 → s.get (F.OPT_STATE_SPARE_LASER p) = 1 → 400 ≤ (s.optic p).warmEpochs → ∃ t, exec (.spareWarmTimeout p) s = .next t
      ∧ t.get (F.OPT_STATE_SPARE_LASER p) = 3 ∧ regsBut [A.OPT_STATE p, A.FAULT_LOST] s t ∧ sameBytes s t)
    ∧ (s.driven p = true → s.now % 3125 = 0 →
      exec (.dither p) s = .next ((s.down p 3 0 0).modOptic p fun o => { o with dither := 0 }))
    ∧ (s.driven p = true → s.now % 3125 = 1563 →
      exec (.dither p) s = .next ((s.down p 3 0 1).modOptic p fun o => { o with dither := 1 }))
    ∧ (s.driven p = true → s.now % 3125 = 781 →
      exec (.sample p) s = .next ((s.down p 4 0 0).modOptic p fun o => { o with window := 0 }))
    ∧ (s.driven p = true → s.now % 3125 = 2344 →
      exec (.sample p) s = .next ((s.down p 4 0 0).modOptic p fun o => { o with window := 1 }))
    ∧ (s.phase p = 7 →
      (∀ l < 8, p < 12 → exec (.optSpare p l) s = .next (s.modOptic p fun o => { o with cmd := some (1, l) }))
      ∧ (p < 12 → exec (.optSwap p) s = .next (s.modOptic p fun o => { o with cmd := some (2, 0) }))
      ∧ exec (.optRetakeRefs p) s = .next (s.modOptic p fun o => { o with cmd := some (3, 0) })
      ∧ ((s.optic p).tripped = false → ∃ t, exec (.retrain p) s = .next t ∧ t.phase p = 1 ∧ t.get (F.UNIT_STATE_STATE (entPort p)) = 1
        ∧ t.get (F.OPT_STATE_ATTEMPTS p) = 0 ∧ t.get (F.OPT_STATE_LANE_OK p) = 0 ∧ sameBytes s t))
    ∧ (∃ t, exec (.engineRemoved p) s = .next t ∧ t.phase p = 0 ∧ t.get (F.OPT_STATE_ACTIVE_LASER p) = 0 ∧ (t.optic p).present = false
      ∧ (t.optic p).tripped = (s.optic p).tripped
      ∧ t.pwr.cage12V.getLsbD p = false ∧ (s.get (F.UNIT_STATE_STATE (entPort p)) = 2 → t.get (F.UNIT_STATE_STATE (entPort p)) = 4)
      ∧ sameBytes s t)
    ∧ (s.pwr.cage12V.getLsbD p = true → ∃ t, exec (.overCurrent p) s = .next t ∧ t.phase p = 8 ∧ t.get (F.OPT_STATE_FAIL_REASON p) = 10
      ∧ (t.optic p).tripped = true ∧ t.pwr.cage12V.getLsbD p = false ∧ t.get (F.UNIT_STATE_STATE (entPort p)) = 4 ∧ sameBytes s t)

/-- The phases of training in their order (R387, R389, R390). OPT_STATE.PHASE reads 0 NONE, 1 DETECT, 2 laser, 3 TX_ACQ, 4 RX_ACQ, 5 EQ,
6 CAPS, 7 SERVICE, 8 FAILED. -/
def Obligations.PortTraining : Prop :=
  ∀ (s : State) (p : Nat), s.powered → s.shaped → p < 14 →
    let works := fun (l : Nat) => s.get (F.RING_TX_LOCKED p l) = 1 ∧ (∀ x ∈ (s.optic p).txMism, x.1 ≠ l)
      ∧ (∀ x ∈ (s.optic p).dips, x.1 ≠ l)
    (∀ e : EngineRecord, s.phase p = 1 → bits e.caps 63 56 = 1 → ∃ t, exec (.engineDetected p e) s = .next t ∧ t.phase p = 2
      ∧ t.reg (A.LD_CAPS p) = e.caps &&& ~~~ maskBits 33 32 ∧ t.get (F.OPT_STATE_ACTIVE_LASER p) = (if p < 12 then e.laser % 2 else 0)
      ∧ t.get (F.LINK_VER_LD_MINOR p) = min 4 (bits e.caps 55 48)
      ∧ (∀ r ∈ ringsOf p, t.get (ringCode p r) = bits (e.cal.getD r 0) 21 8 ∧ t.get (ringFsr p r) = bits (e.cal.getD r 0) 35 22)
      ∧ sameBytes s t)
    ∧ (∀ e : EngineRecord, s.phase p = 1 → bits e.caps 63 56 ≠ 1 → ∃ t, exec (.engineDetected p e) s = .next t ∧ t.phase p = 8
      ∧ t.get (F.OPT_STATE_FAIL_REASON p) = 2 ∧ t.get (F.UNIT_STATE_STATE (entPort p)) = 4 ∧ sameBytes s t)
    ∧ (s.phase p = 2 → exec (.laserStable p) s = .next (s.setPhase p 3))
    ∧ (∀ locks, s.phase p = 3 → ringsNeeded p ≤ lockCount p locks → ∃ t, exec (.txAcqDone p locks) s = .next t ∧ t.phase p = 4
      ∧ (∀ l < laneCount p, locks.getD l 0x4000 < 0x4000 →
        t.get (F.RING_TX_CODE p l) = locks.getD l 0x4000 ∧ t.get (F.RING_TX_LOCKED p l) = 1)
      ∧ (∀ l < laneCount p, 0x4000 ≤ locks.getD l 0x4000 → t.get (F.RING_TX_LOCKED p l) = 0) ∧ sameBytes s t)
    ∧ (∀ locks, s.phase p = 4 → ringsNeeded p ≤ lockCount p locks → ∃ t, exec (.rxAcqDone p locks) s = .next t ∧ t.phase p = 5
      ∧ (∀ l < laneCount p, locks.getD l 0x4000 < 0x4000 →
        t.get (F.RING_RX_CODE p l) = locks.getD l 0x4000 ∧ t.get (F.RING_RX_LOCKED p l) = 1)
      ∧ (∀ l < laneCount p, l < 8 → works l → t.get (F.LANE_STATE_ROLE p l) = l)
      ∧ (∀ l < laneCount p, ¬ works l → t.get (F.LANE_STATE_ROLE p l) = 15)
      ∧ (∀ l < laneCount p, t.get (F.LANE_STATE_HEALTH p l) = 0 ↔ works l ∧ locks.getD l 0x4000 < 0x4000) ∧ sameBytes s t)
    ∧ (∀ refs, s.phase p = 5 → ∃ t, exec (.eqDone p refs) s = .next t ∧ t.phase p = 6
      ∧ (∀ r ∈ ringsOf p, s.get (ringLocked p r) = 1 → t.get (ringTrained p r) = s.get (ringCode p r))
      ∧ (∀ l < laneCount p, t.get (F.LANE_MARGIN_SNAP_REF p l) = refs.getD (19 + l) 0 % 65536) ∧ (t.optic p).laserRef = refs.getD 0 0
      ∧ sameBytes s t)
    ∧ (∀ (caps : Word) m n, p < 12 → s.phase p = 6 → agreeVersion spokeTab (bits caps 31 0) = some (m, n) →
        s.get (F.SPK_CAD_DELAY_VALID p) = 1 → (s.optic p).doneSent = true → (s.optic p).farDone = true →
      ∃ t, exec (.capsAgreed p caps) s = .next t ∧ t.phase p = 7 ∧ t.get (F.UNIT_STATE_STATE (entPort p)) = 2
        ∧ t.get (F.LINK_VER_MAJOR p) = m ∧ t.get (F.LINK_VER_MINOR p) = n ∧ t.get (F.LINK_VER_VALID p) = 1
        ∧ t.get (F.OPT_STATE_FAIL_REASON p) = 0 ∧ sameBytes s t)
    ∧ (∀ caps : Word, p < 12 → s.phase p = 6 → agreeVersion spokeTab (bits caps 31 0) = none → ∃ t, exec (.capsAgreed p caps) s = .next t
      ∧ t.phase p = 8 ∧ t.get (F.OPT_STATE_FAIL_REASON p) = 8 ∧ t.get (F.UNIT_STATE_STATE (entPort p)) = 4 ∧ sameBytes s t)
    ∧ (1 ≤ s.phase p → s.phase p ≤ 6 → phaseLimit (s.phase p) ≤ (s.optic p).phaseEpochs → p < 12 ∨ (s.ck (p - 12)).refused = false →
      (s.get (F.OPT_STATE_ATTEMPTS p) < 2 → (s.optic p).tripped = false → ∃ t, exec (.trainPhaseTimeout p) s = .next t ∧ t.phase p = 1
        ∧ t.get (F.OPT_STATE_ATTEMPTS p) = s.get (F.OPT_STATE_ATTEMPTS p) + 1 ∧ t.get (F.UNIT_STATE_STATE (entPort p)) = 1 ∧ sameBytes s t)
      ∧ (2 ≤ s.get (F.OPT_STATE_ATTEMPTS p) → ∃ t, exec (.trainPhaseTimeout p) s = .next t ∧ t.phase p = 8
        ∧ t.get (F.OPT_STATE_FAIL_REASON p) = phaseReason (s.phase p) ∧ t.get (F.UNIT_STATE_STATE (entPort p)) = 4 ∧ sameBytes s t))
    ∧ ∀ far : Nat, (∃ m, m < 8 ∧ nbits spokeTab (4 * m + 3) (4 * m) ≠ 15 ∧ nbits far (4 * m + 3) (4 * m) ≠ 15) →
      ∃ m n, agreeVersion spokeTab far = some (m, n) ∧ m < 8 ∧ n = min (nbits spokeTab (4 * m + 3) (4 * m)) (nbits far (4 * m + 3) (4 * m))
        ∧ nbits spokeTab (4 * m + 3) (4 * m) ≠ 15 ∧ nbits far (4 * m + 3) (4 * m) ≠ 15
        ∧ ∀ k, m < k → k < 8 → nbits spokeTab (4 * k + 3) (4 * k) = 15 ∨ nbits far (4 * k + 3) (4 * k) = 15

/-! ## Colok ports and the register space (chapter 11) -/

/-- Frames on a Colok port (R397 to R403). A request that the port accepts joins the mailbox and RX_EXPECT counts on; an acknowledged
frame is forgotten; a frame that fails its CRC or comes out of order is discarded, and one NAK is sent. -/
def Obligations.ColokFrames : Prop :=
  ∀ (s : State) (c : Nat) (f : Frame), s.powered → s.shaped → c < 2 →
    let inService := s.phase (12 + c) = 7 ∧ s.get (F.UNIT_STATE_STATE (entPort (12 + c))) = 2
    let good := f.crc = BitVec.ofNat 32 f.sum
    let inOrder := f.seq = s.get (F.COLOK_SEQ_RX_EXPECT c)
    let accepted := fun (i : Instr) => ∃ t, exec i s = .next t ∧ (t.ck c).mbox = (s.ck c).mbox ++ [frameRequest f]
      ∧ t.get (F.COLOK_SEQ_RX_EXPECT c) = (s.get (F.COLOK_SEQ_RX_EXPECT c) + 1) % 2 ^ 32 ∧ (t.ck c).holdoff = false
      ∧ (t.ck c).nakSent = false ∧ sameBytes s t
    (inService → good → inOrder → (s.ck c).mbox.length < 32 → (s.ck c).holdoff = false → bits f.w1 31 31 = 0 →
        (∀ r ∈ (s.ck c).mbox, r.proxy = none) → (frameRequest f).malformed (s.countLimit c) = false →
      (f.op = 1 → accepted (.write c f)) ∧ (f.op = 2 → accepted (.read c f)) ∧ (f.op = 3 → accepted (.writeStream c f))
        ∧ (f.op = 4 → accepted (.readStream c f)) ∧ (f.op = 5 → accepted (.colokSignal c f)))
    ∧ (∀ i, inService → ¬ (good ∧ inOrder) → (f.op = 1 ∧ i = .write c f) ∨ (f.op = 2 ∧ i = .read c f) ∨ (f.op = 5 ∧ i = .colokSignal c f) →
      ((s.ck c).nakSent = true → exec i s = .next (s.bump (F.COLOK_STAT_FCS_ERR c)))
      ∧ ((s.ck c).nakSent = false → ∃ t g, exec i s = .next t ∧ t.sent = s.sent ++ [.frame c g] ∧ g.op = 0 ∧ bits g.w1 30 30 = 1
        ∧ (t.ck c).nakSent = true ∧ (t.ck c).mbox = (s.ck c).mbox ∧ regsBut [A.COLOK_STAT c] s t ∧ sameBytes s t))
    ∧ (∀ g, inService → good → f.op = 0 → bits f.w1 30 30 = 0 → (s.ck c).unacked = [g] → f.ack = g.seq → (s.ck c).outq = [] →
      exec (.flow c f) s = .next (s.setCk c { s.ck c with unacked := [], ackTick := s.now }))
    ∧ (∀ m n, s.phase (12 + c) = 6 → good → f.op = 9 → (s.ck c).refused = false →
        agreeVersion colokTab (bits f.w3 47 16) = some (m, n) →
      ∃ t, exec (.caps c f) s = .next t ∧ t.phase (12 + c) = 7 ∧ t.get (F.UNIT_STATE_STATE (entPort (12 + c))) = 2
        ∧ t.get (F.COLOK_STATE_MAJOR c) = m ∧ t.get (F.COLOK_STATE_MINOR c) = n ∧ t.get (F.COLOK_STATE_VER_VALID c) = 1
        ∧ t.get (F.COLOK_STATE_FAR_TAB c) = bits f.w3 47 16 ∧ sameBytes s t)
    ∧ (s.phase (12 + c) = 6 → good → f.op = 9 → agreeVersion colokTab (bits f.w3 47 16) = none → (s.ck c).refused = false →
      ∃ t, exec (.caps c f) s = .next t ∧ t.phase (12 + c) = 6 ∧ (t.ck c).refused = true ∧ sameBytes s t)

/-- Requests of a Colok port (R400, R401, R404, R409): a request runs and its RESP goes out; frames not acknowledged in time are sent
again; a lost link takes the port down. -/
def Obligations.ColokRequests : Prop :=
  ∀ (s : State) (c : Nat), s.powered → s.shaped → c < 2 →
    (∀ (r : Request) (v : Option Word), (s.ck c).mbox = [r] → r.op = (if v.isSome then 1 else 2) → r.count = 1 → r.proxy = none →
        r.mute = false → r.addr < 2 ^ 48 → (∀ w, v = some w → r.words = [w]) →
      let d := s.devWord (colokOrigin c) r.addr v
      (d.st.ck c).mbox = [r] → exec (.requestComplete c 0) s = .next (d.st.finishRequest c 0 r d.status
          (if d.status = stOk then noWord else 0) (if v.isSome then [] else [d.data])))
    ∧ (∀ (x : State) (r : Request) (status operand : Nat) (data : List Word), (x.ck c).mbox = [r] → x.colok.length = 2 → r.mute = false →
        (x.ck c).outq = [] → (x.ck c).unacked.length < 64 → status < 16 → data.length < 128 →
      ∃ f, (x.finishRequest c 0 r status operand data).sent = x.sent ++ [.frame c f]
        ∧ ((x.finishRequest c 0 r status operand data).ck c).mbox = [] ∧ f.op = 8 ∧ bits f.w0 59 56 = status ∧ bits f.w1 63 48 = r.tag % 65536
        ∧ f.payload = data ∧ f.crc = BitVec.ofNat 32 f.sum ∧ f.seq = x.get (F.COLOK_SEQ_TX_NEXT c)
        ∧ sameBytes x (x.finishRequest c 0 r status operand data))
    ∧ (∀ g, s.phase (12 + c) = 7 → (s.ck c).unacked = [g] → (s.ck c).ackTick + 4096 ≤ s.now →
      ∃ t f, exec (.colokResendTimeout c) s = .next t ∧ t.sent = s.sent ++ [.frame c f] ∧ f.seq = g.seq ∧ f.payload = g.payload
        ∧ (t.ck c).unacked = [g] ∧ (t.ck c).ackTick = s.now
        ∧ t.get (F.COLOK_STAT_RESENT c) = (s.bump (F.COLOK_STAT_RESENT c)).get (F.COLOK_STAT_RESENT c)
        ∧ regsBut [A.COLOK_STAT c] s t ∧ sameBytes s t)
    ∧ (s.phase (12 + c) = 7 → s.get (F.UNIT_STATE_STATE (entPort (12 + c))) = 2 → 4 ≤ (s.optic (12 + c)).missSlots →
      ∃ t, exec (.colokLinkLost c) s = .next t ∧ t.get (F.UNIT_STATE_STATE (entPort (12 + c))) = 4
        ∧ t.get (F.COLOK_STAT2_LINK_DOWN c) = (s.bump (F.COLOK_STAT2_LINK_DOWN c)).get (F.COLOK_STAT2_LINK_DOWN c)
        ∧ t.reg (A.COLOK_SEQ c) = 0 ∧ t.get (F.COLOK_STATE_VER_VALID c) = 0 ∧ (∀ r ∈ (t.ck c).mbox, r.mute = true)
        ∧ (t.ck c).mbox.length = (s.ck c).mbox.length ∧ sameBytes s t)
    ∧ (∀ (i : Nat) (r : Request), i < 32 → (s.ck c).mbox[i]? = some r → r.started = true →
        r.sentAt + max 1 (s.get F.MGMT_PROXY_TIMEOUT) ≤ s.now → (∀ q ∈ (s.ck c).mbox, q.started = true ∨ q.proxy = none) →
      exec (.proxyTimeout (32 * c + i)) s = .next (s.finishRequest c i r stTimeout 0 []))

/-- Registers and data windows (R14, R407, R8). The access codes: RW bits take what is written, RWL bits too until the module leaves TRAIN, each 1
written clears a W1C bit, every other bit stays. -/
def Obligations.RegisterAccess : Prop :=
  ∀ s : State, s.powered →
    (∀ a v r i, rowAt a = some r → i < 64 →
      let rw := r.rw.testBit i = true ∨ (s.get F.MODULE_STATE_STATE ≤ 3 ∧ r.rwl.testBit i = true)
      let w1c := r.w1c.testBit i = true
      (¬ w1c → rw → ((s.fieldWrite a v).reg a).getLsbD i = v.getLsbD i)
      ∧ (¬ w1c → ¬ rw → ((s.fieldWrite a v).reg a).getLsbD i = (s.reg a).getLsbD i)
      ∧ (w1c → ¬ rw → ((s.fieldWrite a v).reg a).getLsbD i = ((s.reg a).getLsbD i && !v.getLsbD i))
      ∧ regsBut [a] s (s.fieldWrite a v))
    ∧ (∀ (n : Nat) (v : Word), n < 16 → s.boot.recovery = false →
      exec (.registerWrite (A.MC_ARB n) v) s = .next (s.fieldWrite (A.MC_ARB n) v))
    ∧ (∀ v : Word, s.boot.recovery = false → bits v 2 2 = 0 → bits v 1 1 = 1 →
      exec (.registerWrite A.PWR_CTRL v) s = .next (retireRequest s))
    ∧ (∀ c w, c < 2 → w < 4 → s.boot.recovery = false →
      (∀ v : Word, ∃ t, exec (.dwAddrWrite c w v) s = .next t ∧ t.get (F.DW_ADDR_ADDR c w) = bits v 47 0 ∧ t.reg (A.DW_COUNT c w) = 0
        ∧ regsBut [A.DW_ADDR c w, A.DW_COUNT c w] s t ∧ sameBytes s t)
      ∧ (∀ (v : Word) pc off, s.place (s.get (F.DW_ADDR_ADDR c w) / 8 * 8) = .near pc off → s.serves (entMc (pc / 32)) = true →
          s.pcRetired pc = false →
        (∃ t, exec (.dwDataWrite c w v) s = .next t ∧ t.near.load (pc * pcBytes + off) 8 = bytesOf 8 v.toNat
          ∧ (∀ a, a < pc * pcBytes + off ∨ pc * pcBytes + off + 8 ≤ a → t.near.get a = s.near.get a)
          ∧ t.get (F.DW_ADDR_ADDR c w)
            = unsigned 48 ((s.get (F.DW_ADDR_ADDR c w) : Int) + signed 16 (s.get (F.DW_CTRL_INC c w) / 8 * 8))
          ∧ t.get (F.DW_COUNT_WORDS c w) = (s.get (F.DW_COUNT_WORDS c w) + 1) % 2 ^ 32 ∧ t.get (F.DW_COUNT_ERRS c w) = s.get (F.DW_COUNT_ERRS c w)
          ∧ regsBut [A.DW_ADDR c w, A.DW_COUNT c w, A.MC_ECC (pc / 32)] s t)
        ∧ ∃ t, exec (.dwDataRead c w) s = .next t ∧ sameBytes s t
          ∧ t.get (F.DW_ADDR_ADDR c w)
            = unsigned 48 ((s.get (F.DW_ADDR_ADDR c w) : Int) + signed 16 (s.get (F.DW_CTRL_INC c w) / 8 * 8))
          ∧ t.get (F.DW_COUNT_WORDS c w) = (s.get (F.DW_COUNT_WORDS c w) + 1) % 2 ^ 32
          ∧ regsBut [A.DW_ADDR c w, A.DW_COUNT c w, A.MC_ECC (pc / 32)] s t))
    ∧ ∀ (o : Origin) (a : Nat), s.boot.recovery = false → s.fuse.s0 = true → 0x100000000000 ≤ a → a < 0x120000000000 → a % 8 = 0 →
      (s.word o a none).status = stAbsent ∧ (s.word o a none).data = BitVec.ofNat 64 s.gradeCode

/-! ## The whole state -/

/-- Every list of the module's parts keeps one entry for each part (R2). -/
def Obligations.StepKeepsShape : Prop := ∀ s t : State, s.shaped → step s = .next t → t.shaped

/-- The state after a MODULE reset (R4, R15, R51, R107, R292, R317, R413): TRAIN, every unit idle, 24 enabled core sites on each die of
this F0 module. -/
def Obligations.ResetState : Prop :=
  let s := State.reset
  s.shaped ∧ ascending s.regs = true ∧ s.memsWf = true ∧ s.pending = [] ∧ s.powered ∧ s.get F.MODULE_STATE_STATE = 3
    ∧ s.get F.CAD_STATUS_SYNC = 0 ∧ s.get F.CAD_STATUS_ALIGNED = 0 ∧ s.get F.FAULT_HEAD_INDEX = 0 ∧ s.get F.FAULT_HEAD_NEXT_SEQ = 0
    ∧ s.seqIdle = true ∧ s.gradeMask = 0x00B1600F000009F0 ∧ (∀ d < 4, (s.dieSites d).length = 24) ∧ (∀ n < 100, (s.coreAt n).state = 0)
    ∧ (∀ c < 16, s.cxState c = 0) ∧ s.bankState 0 = 0 ∧ s.bankState 1 = 0 ∧ s.get F.RT_BANK_STATUS_SEND_VALID = 0
    ∧ (∀ p < 14, s.phase p = 0) ∧ s.get F.MAP_STATUS_GEN = 0 ∧ (∀ d < 4, s.get (F.RE_STATUS_STATE d) = 0)

/-- R55: a beacon is accepted only from a port with a measured delay, while BEACON_EN is 1, with ALIGNED 1 and HOPS at most 3; its time is
SLOT × 256 ticks plus DELAY cycles, compared with the cycle of arrival. R65: a deadline is the one value within 2^47 of CAD_NOW whose low
48 bits are the field. -/
def Obligations.BeaconsAndDeadlines : Prop :=
  (∀ (s : State) (port tick cycle : Nat) (b : Word), tick ≤ s.now →
    let valid := s.get (F.SPK_CAD_DELAY_VALID port) = 1 ∧ s.get F.CAD_CTRL_BEACON_EN = 1 ∧ bits b 3 3 = 1 ∧ bits b 7 4 ≤ 3
    (¬ valid → s.beaconIn port tick cycle b = s)
    ∧ (valid → s.get F.CAD_STATUS_SYNC ≠ 0 → mapFind ((s.beaconIn port tick cycle b).cad.beacons.map fun p => (p.port, p.offset)) port
      = some (((bits b 63 8 * 256 * 20 + s.get (F.SPK_CAD_DELAY_DELAY port) : Nat) : Int) - ((tick * 20 + cycle : Nat) : Int)))
    ∧ (valid → s.get F.CAD_STATUS_SYNC = 0 → s.cad.refPresent = false →
      (s.beaconIn port tick cycle b).now
        = ((bits b 63 8 * 256 * 20 + s.get (F.SPK_CAD_DELAY_DELAY port)) / 20 + (s.now - tick)) % 2 ^ 64))
  ∧ ∀ (s : State) (t x : Nat), x % 2 ^ 48 = t % 2 ^ 48 → s.now ≤ x + 2 ^ 47 → x < s.now + 2 ^ 47 → s.extend48 t = x
end

