-- ==== Sys2Proof/Laws/Maps.lean ====
section
/-! SUPPORT. Sparse maps and memories: what a lookup gives after a write, and the canonical form kept by every operation. -/
namespace Sys2Proof.Machine

/-! ## Maps -/

theorem mapFind_cons {α : Type} (p : Nat × α) (l : List (Nat × α)) (a : Nat) :
    mapFind (p :: l) a = if p.1 = a then some p.2 else mapFind l a := by
  unfold mapFind
  by_cases h : p.1 = a <;> simp [h]

theorem mapFind_erase {α : Type} (l : List (Nat × α)) (a b : Nat) :
    mapFind (mapErase l a) b = if b = a then none else mapFind l b := by
  induction l with
  | nil => simp [mapErase, mapFind]
  | cons p l ih =>
    have hc : mapErase (p :: l) a = if p.1 = a then mapErase l a else p :: mapErase l a := by
      by_cases h : p.1 = a <;> simp [mapErase, h]
    rw [hc, mapFind_cons]
    by_cases h : p.1 = a
    · rw [if_pos h, ih]
      by_cases hb : b = a
      · simp [hb]
      · rw [if_neg hb, if_neg hb, if_neg (by omega)]
    · rw [if_neg h, mapFind_cons, ih]
      by_cases hb : b = a
      · subst hb; simp [h]
      · simp [hb]

theorem mapFind_insert {α : Type} (l : List (Nat × α)) (a b : Nat) (v : α) (h : mapFind l a = none) :
    mapFind (mapInsert a v l) b = if b = a then some v else mapFind l b := by
  induction l with
  | nil =>
    simp only [mapInsert, mapFind_cons]
    by_cases hb : b = a
    · simp [hb]
    · simp [hb, Ne.symm hb]
  | cons p l ih =>
    rw [mapFind_cons] at h
    have hp : p.1 ≠ a := by intro e; simp [e] at h
    rw [if_neg hp] at h
    simp only [mapInsert]
    split
    · rw [mapFind_cons]
      by_cases hb : b = a
      · simp [hb]
      · simp [hb, Ne.symm hb]
    · rw [mapFind_cons, mapFind_cons, ih h]
      by_cases hb : b = a
      · subst hb; simp [hp]
      · simp [hb]

/-- A lookup after a write, for a reader that takes the default of each address. -/
theorem mapFind_put {α : Type} [DecidableEq α] (l : List (Nat × α)) (a b : Nat) (v d : α) (f : Nat → α) (hf : f a = d) :
    (mapFind (mapPut l a v d) b).getD (f b) = if b = a then v else (mapFind l b).getD (f b) := by
  unfold mapPut
  have he := mapFind_erase l a a
  simp only [if_true] at he
  split
  · rename_i hv
    rw [mapFind_erase]
    by_cases hb : b = a
    · subst hb; simp [hf, hv]
    · simp [hb]
  · rw [mapFind_insert _ _ _ _ he, mapFind_erase]
    by_cases hb : b = a <;> simp [hb]

theorem ascending_cons {α : Type} (p : Nat × α) (l : List (Nat × α)) :
    ascending (p :: l) = true ↔ (∀ q ∈ l.head?, p.1 < q.1) ∧ ascending l = true := by
  cases l with
  | nil => simp [ascending]
  | cons q l => simp [ascending]

theorem ascending_iff {α : Type} (l : List (Nat × α)) :
    ascending l = true ↔ l.Pairwise fun p q => p.1 < q.1 := by
  induction l with
  | nil => simp [ascending]
  | cons p l ih =>
    rw [ascending_cons, ih, List.pairwise_cons]
    constructor
    · rintro ⟨h1, h2⟩
      refine ⟨?_, h2⟩
      cases l with
      | nil => simp
      | cons q l =>
        have hq : p.1 < q.1 := h1 q (by simp)
        intro x hx
        rcases List.mem_cons.mp hx with rfl | hx
        · exact hq
        · exact lt_trans hq ((List.pairwise_cons.mp h2).1 x hx)
    · rintro ⟨h1, h2⟩
      refine ⟨?_, h2⟩
      intro q hq
      exact h1 q (List.mem_of_mem_head? hq)

theorem ascending_filter {α : Type} (l : List (Nat × α)) (f : Nat × α → Bool) (h : ascending l = true) :
    ascending (l.filter f) = true := by
  rw [ascending_iff] at *
  exact h.filter f

theorem mem_mapInsert {α : Type} (a : Nat) (v : α) (l : List (Nat × α)) (x : Nat × α) :
    x ∈ mapInsert a v l ↔ x = (a, v) ∨ x ∈ l := by
  induction l with
  | nil => simp [mapInsert]
  | cons p l ih =>
    simp only [mapInsert]
    split
    · simp
    · simp only [List.mem_cons, ih]; tauto

theorem ascending_insert {α : Type} (a : Nat) (v : α) (l : List (Nat × α)) (h : ascending l = true) (hn : ∀ x ∈ l, x.1 ≠ a) :
    ascending (mapInsert a v l) = true := by
  rw [ascending_iff] at *
  induction l with
  | nil => simp [mapInsert]
  | cons p l ih =>
    obtain ⟨h1, h2⟩ := List.pairwise_cons.mp h
    simp only [mapInsert]
    split
    · rename_i hlt
      refine List.pairwise_cons.mpr ⟨?_, h⟩
      intro x hx
      rcases List.mem_cons.mp hx with rfl | hx
      · exact hlt
      · exact lt_trans hlt (h1 x hx)
    · rename_i hge
      refine List.pairwise_cons.mpr ⟨?_, ih h2 fun x hx => hn x (by simp [hx])⟩
      intro x hx
      rcases (mem_mapInsert a v l x).mp hx with rfl | hx
      · have := hn p (by simp); show p.1 < a; omega
      · exact h1 x hx

theorem mem_mapErase {α : Type} (l : List (Nat × α)) (a : Nat) (x : Nat × α) : x ∈ mapErase l a ↔ x ∈ l ∧ x.1 ≠ a := by
  simp [mapErase]

theorem ascending_put {α : Type} [DecidableEq α] (l : List (Nat × α)) (a : Nat) (v d : α) (h : ascending l = true) :
    ascending (mapPut l a v d) = true := by
  unfold mapPut
  have he : ascending (mapErase l a) = true := ascending_filter _ _ h
  split
  · exact he
  · exact ascending_insert a v _ he fun x hx => ((mem_mapErase l a x).mp hx).2

/-! ## Memories -/

theorem Mem.get_put (m : Mem) (a b : Nat) (v : Byte) : (m.put a v).get b = if b = a then v else m.get b := by
  exact mapFind_put m.cells a b v (m.default a) m.default rfl

theorem Mem.put_gen (m : Mem) (a : Nat) (v : Byte) : (m.put a v).gen = m.gen := rfl

theorem Mem.wf_iff (m : Mem) : m.wf = true ↔ ascending m.cells = true ∧ ∀ c ∈ m.cells, c.2 ≠ m.default c.1 := by
  simp [Mem.wf, List.all_eq_true]

theorem Mem.wf_put (m : Mem) (a : Nat) (v : Byte) (h : m.wf = true) : (m.put a v).wf = true := by
  rw [Mem.wf_iff] at *
  refine ⟨ascending_put _ _ _ _ h.1, ?_⟩
  intro c hc
  have hd : (m.put a v).default c.1 = m.default c.1 := rfl
  rw [hd]
  simp only [Mem.put, mapPut] at hc
  split at hc
  · exact h.2 c ((mem_mapErase _ _ _).mp hc).1
  · rename_i hv
    rcases (mem_mapInsert _ _ _ _).mp hc with rfl | hc
    · exact hv
    · exact h.2 c ((mem_mapErase _ _ _).mp hc).1

theorem Mem.wf_store (m : Mem) (a : Nat) (bs : List Byte) (h : m.wf = true) : (m.store a bs).wf = true := by
  induction bs generalizing m a with
  | nil => exact h
  | cons b bs ih => exact ih _ _ (Mem.wf_put m a b h)

theorem Mem.wf_lose (m : Mem) : m.lose.wf = true := rfl

/-- Outside the stack that lost its contents an unlisted byte reads as before. -/
theorem Mem.default_loseStack (m : Mem) (n a : Nat) (h : stackOfByte a ≠ n) : (m.loseStack n).default a = m.default a := by
  have he := mapFind_erase m.lost n n
  simp only [if_true] at he
  have hg : (m.loseStack n).genAt a = m.genAt a := by
    simp only [Mem.genAt, Mem.loseStack, mapFind_insert _ _ _ _ he, mapFind_erase, if_neg h]
  simp only [Mem.default, hg]

theorem Mem.wf_loseStack (m : Mem) (n : Nat) (h : m.wf = true) : (m.loseStack n).wf = true := by
  rw [Mem.wf_iff] at *
  refine ⟨ascending_filter _ _ h.1, fun c hc => ?_⟩
  obtain ⟨hc, hn⟩ := List.mem_filter.mp hc
  rw [Mem.default_loseStack m n c.1 (by simpa using hn)]
  exact h.2 c hc

theorem Mem.wf_zero (m : Mem) (lo n : Nat) (h : m.wf = true) : (m.zero lo n).wf = true := by
  unfold Mem.zero
  split
  · rw [Mem.wf_iff] at *
    exact ⟨ascending_filter _ _ h.1, fun c hc => h.2 c (List.mem_filter.mp hc).1⟩
  · exact Mem.wf_store _ _ _ h

theorem Mem.get_store_lt (m : Mem) (a b : Nat) (bs : List Byte) (h : b < a) : (m.store a bs).get b = m.get b := by
  induction bs generalizing m a with
  | nil => rfl
  | cons x bs ih =>
    rw [Mem.store, ih _ _ (by omega), Mem.get_put, if_neg (by omega)]

end Sys2Proof.Machine
end

