-- ==== Sys2Proof/Laws/Registers.lean ====
section
/-! SUPPORT. Registers and their fields: what a read gives after a write. -/
namespace Sys2Proof.Machine

theorem regDefault_setReg (s : State) (a b : Nat) (w : Word) : regDefault (s.setReg a w) b = regDefault s b := rfl

/-- A register reads as written, every other as before. -/
theorem State.reg_setReg (s : State) (a b : Nat) (w : Word) : (s.setReg a w).reg b = if b = a then w else s.reg b := by
  have := mapFind_put s.regs a b w (regDefault s a) (regDefault s) rfl
  unfold State.reg
  rw [show regDefault (s.setReg a w) b = regDefault s b from rfl]
  exact this

@[simp] theorem State.reg_setReg_self (s : State) (a : Nat) (w : Word) : (s.setReg a w).reg a = w := by
  rw [State.reg_setReg, if_pos rfl]

theorem State.reg_setReg_ne (s : State) (a b : Nat) (w : Word) (h : b ≠ a) : (s.setReg a w).reg b = s.reg b := by
  rw [State.reg_setReg, if_neg h]

theorem maskBits_getLsbD (hi lo i : Nat) (h : lo ≤ hi) (h2 : hi < 64) :
    (maskBits hi lo).getLsbD i = (decide (lo ≤ i) && decide (i ≤ hi)) := by
  unfold maskBits
  rw [BitVec.getLsbD_ofNat, Nat.testBit_mul_two_pow, Nat.testBit_two_pow_sub_one]
  by_cases h1 : lo ≤ i <;> by_cases h3 : i ≤ hi <;> simp [h1, h3] <;> omega

/-- A bit of a word after a field has been written. -/
theorem putBits_getLsbD (w : Word) (hi lo v i : Nat) (h : lo ≤ hi) (h2 : hi < 64) :
    (putBits w hi lo v).getLsbD i = if lo ≤ i ∧ i ≤ hi then v.testBit (i - lo) else w.getLsbD i := by
  unfold putBits
  rw [BitVec.getLsbD_or, BitVec.getLsbD_and, BitVec.getLsbD_not, maskBits_getLsbD hi lo i h h2, BitVec.getLsbD_ofNat,
    Nat.testBit_mul_two_pow, Nat.testBit_mod_two_pow]
  by_cases h1 : lo ≤ i <;> by_cases h3 : i ≤ hi <;> by_cases h4 : i < 64 <;> simp [h1, h3, h4] <;> try omega
  exact BitVec.getLsbD_of_ge w i (by omega)

/-- The field written reads as the value modulo its width. -/
theorem bits_putBits_self (w : Word) (hi lo v : Nat) (h : lo ≤ hi) (h2 : hi < 64) :
    bits (putBits w hi lo v) hi lo = v % 2 ^ (hi + 1 - lo) := by
  apply Nat.eq_of_testBit_eq
  intro i
  unfold bits
  rw [Nat.testBit_mod_two_pow, Nat.testBit_mod_two_pow, Nat.testBit_div_two_pow]
  by_cases hi' : i < hi + 1 - lo
  · have := putBits_getLsbD w hi lo v (i + lo) h h2
    rw [if_pos (by omega)] at this
    have e : i + lo - lo = i := by omega
    rw [e] at this
    simp only [hi', decide_true, Bool.true_and]
    rw [← this]; rfl
  · simp [hi']

/-- A field that shares no bit with the one written reads as before. -/
theorem bits_putBits_disjoint (w : Word) (hi lo v hi' lo' : Nat) (h : lo ≤ hi) (h2 : hi < 64) (hd : hi' < lo ∨ hi < lo') :
    bits (putBits w hi lo v) hi' lo' = bits w hi' lo' := by
  apply Nat.eq_of_testBit_eq
  intro i
  unfold bits
  rw [Nat.testBit_mod_two_pow, Nat.testBit_mod_two_pow, Nat.testBit_div_two_pow, Nat.testBit_div_two_pow]
  by_cases hi' : i < hi' + 1 - lo'
  · have := putBits_getLsbD w hi lo v (i + lo') h h2
    rw [if_neg (by omega)] at this
    simp only [hi', decide_true, Bool.true_and]
    exact this
  · simp [hi']

/-- A field reads as it was written, modulo its width. -/
theorem State.get_set_self (s : State) (f : Field) (v : Nat) (h : f.lo ≤ f.hi) (h2 : f.hi < 64) :
    (s.set f v).get f = v % 2 ^ (f.hi + 1 - f.lo) := by
  simp [State.get, State.set, bits_putBits_self _ _ _ _ h h2]

/-- A field of another register reads as before. -/
theorem State.get_set_ne (s : State) (f g : Field) (v : Nat) (h : g.addr ≠ f.addr) : (s.set f v).get g = s.get g := by
  simp [State.get, State.set, State.reg_setReg_ne _ _ _ _ h]

/-- Another field of the same register, or of another, reads as before. -/
theorem State.get_set_disjoint (s : State) (f g : Field) (v : Nat) (h : f.lo ≤ f.hi) (h2 : f.hi < 64)
    (hd : g.hi < f.lo ∨ f.hi < g.lo) : (s.set f v).get g = s.get g := by
  by_cases e : g.addr = f.addr
  · simp only [State.get, State.set, e, State.reg_setReg_self]
    exact bits_putBits_disjoint _ _ _ _ _ _ h h2 hd
  · exact State.get_set_ne s f g v e

theorem State.reg_set_ne (s : State) (f : Field) (v b : Nat) (h : b ≠ f.addr) : (s.set f v).reg b = s.reg b :=
  State.reg_setReg_ne _ _ _ _ h

/-- A field never reads beyond its width. -/
theorem State.get_lt (s : State) (f : Field) : s.get f < 2 ^ (f.hi + 1 - f.lo) := Nat.mod_lt _ (Nat.two_pow_pos _)

theorem live_powered (s : State) (f : State → State) (h : s.pwr.rails = true) (h2 : s.pwr.modrst = false) :
    live s f = .next (f s) := by simp [live, h, h2]

theorem lively_powered (s : State) (n m : Nat) (f : State → State) (hn : n < m) (h : s.pwr.rails = true)
    (h2 : s.pwr.modrst = false) : lively s n m f = .next (f s) := by simp [lively, hn, live_powered s f h h2]

end Sys2Proof.Machine
end

