-- ==== Sys2Proof/Laws/State.lean ====
section
/-! SUPPORT. One lemma for each field of the state and each update: what the update leaves of the field; and what a register reads
as after an update of another field. -/
namespace Sys2Proof.Machine

@[simp] theorem State.setReg_cad (s : State) (a : Nat) (w : Word) : (s.setReg a w).cad = s.cad := rfl
@[simp] theorem State.setReg_mgmt (s : State) (a : Nat) (w : Word) : (s.setReg a w).mgmt = s.mgmt := rfl
@[simp] theorem State.setReg_colok (s : State) (a : Nat) (w : Word) : (s.setReg a w).colok = s.colok := rfl
@[simp] theorem State.setReg_sb (s : State) (a : Nat) (w : Word) : (s.setReg a w).sb = s.sb := rfl
@[simp] theorem State.setReg_pwr (s : State) (a : Nat) (w : Word) : (s.setReg a w).pwr = s.pwr := rfl
@[simp] theorem State.setReg_led (s : State) (a : Nat) (w : Word) : (s.setReg a w).led = s.led := rfl
@[simp] theorem State.setReg_boot (s : State) (a : Nat) (w : Word) : (s.setReg a w).boot = s.boot := rfl
@[simp] theorem State.setReg_fuse (s : State) (a : Nat) (w : Word) : (s.setReg a w).fuse = s.fuse := rfl
@[simp] theorem State.setReg_staged (s : State) (a : Nat) (w : Word) : (s.setReg a w).staged = s.staged := rfl
@[simp] theorem State.setReg_cores (s : State) (a : Nat) (w : Word) : (s.setReg a w).cores = s.cores := rfl
@[simp] theorem State.setReg_rt (s : State) (a : Nat) (w : Word) : (s.setReg a w).rt = s.rt := rfl
@[simp] theorem State.setReg_map (s : State) (a : Nat) (w : Word) : (s.setReg a w).map = s.map := rfl
@[simp] theorem State.setReg_mc (s : State) (a : Nat) (w : Word) : (s.setReg a w).mc = s.mc := rfl
@[simp] theorem State.setReg_ctx (s : State) (a : Nat) (w : Word) : (s.setReg a w).ctx = s.ctx := rfl
@[simp] theorem State.setReg_seq (s : State) (a : Nat) (w : Word) : (s.setReg a w).seq = s.seq := rfl
@[simp] theorem State.setReg_upd (s : State) (a : Nat) (w : Word) : (s.setReg a w).upd = s.upd := rfl
@[simp] theorem State.setReg_re (s : State) (a : Nat) (w : Word) : (s.setReg a w).re = s.re := rfl
@[simp] theorem State.setReg_opt (s : State) (a : Nat) (w : Word) : (s.setReg a w).opt = s.opt := rfl
@[simp] theorem State.setReg_drains (s : State) (a : Nat) (w : Word) : (s.setReg a w).drains = s.drains := rfl
@[simp] theorem State.setReg_near (s : State) (a : Nat) (w : Word) : (s.setReg a w).near = s.near := rfl
@[simp] theorem State.setReg_far (s : State) (a : Nat) (w : Word) : (s.setReg a w).far = s.far := rfl
@[simp] theorem State.setReg_stage (s : State) (a : Nat) (w : Word) : (s.setReg a w).stage = s.stage := rfl
@[simp] theorem State.setReg_side (s : State) (a : Nat) (w : Word) : (s.setReg a w).side = s.side := rfl
@[simp] theorem State.setReg_core (s : State) (a : Nat) (w : Word) : (s.setReg a w).core = s.core := rfl
@[simp] theorem State.setReg_flashA (s : State) (a : Nat) (w : Word) : (s.setReg a w).flashA = s.flashA := rfl
@[simp] theorem State.setReg_flashB (s : State) (a : Nat) (w : Word) : (s.setReg a w).flashB = s.flashB := rfl
@[simp] theorem State.setReg_freeCtr (s : State) (a : Nat) (w : Word) : (s.setReg a w).freeCtr = s.freeCtr := rfl
@[simp] theorem State.setReg_undefGen (s : State) (a : Nat) (w : Word) : (s.setReg a w).undefGen = s.undefGen := rfl
@[simp] theorem State.setReg_sent (s : State) (a : Nat) (w : Word) : (s.setReg a w).sent = s.sent := rfl
@[simp] theorem State.setReg_pending (s : State) (a : Nat) (w : Word) : (s.setReg a w).pending = s.pending := rfl

@[simp] theorem State.set_cad (s : State) (f : Field) (v : Nat) : (s.set f v).cad = s.cad := rfl
@[simp] theorem State.set_mgmt (s : State) (f : Field) (v : Nat) : (s.set f v).mgmt = s.mgmt := rfl
@[simp] theorem State.set_colok (s : State) (f : Field) (v : Nat) : (s.set f v).colok = s.colok := rfl
@[simp] theorem State.set_sb (s : State) (f : Field) (v : Nat) : (s.set f v).sb = s.sb := rfl
@[simp] theorem State.set_pwr (s : State) (f : Field) (v : Nat) : (s.set f v).pwr = s.pwr := rfl
@[simp] theorem State.set_led (s : State) (f : Field) (v : Nat) : (s.set f v).led = s.led := rfl
@[simp] theorem State.set_boot (s : State) (f : Field) (v : Nat) : (s.set f v).boot = s.boot := rfl
@[simp] theorem State.set_fuse (s : State) (f : Field) (v : Nat) : (s.set f v).fuse = s.fuse := rfl
@[simp] theorem State.set_staged (s : State) (f : Field) (v : Nat) : (s.set f v).staged = s.staged := rfl
@[simp] theorem State.set_cores (s : State) (f : Field) (v : Nat) : (s.set f v).cores = s.cores := rfl
@[simp] theorem State.set_rt (s : State) (f : Field) (v : Nat) : (s.set f v).rt = s.rt := rfl
@[simp] theorem State.set_map (s : State) (f : Field) (v : Nat) : (s.set f v).map = s.map := rfl
@[simp] theorem State.set_mc (s : State) (f : Field) (v : Nat) : (s.set f v).mc = s.mc := rfl
@[simp] theorem State.set_ctx (s : State) (f : Field) (v : Nat) : (s.set f v).ctx = s.ctx := rfl
@[simp] theorem State.set_seq (s : State) (f : Field) (v : Nat) : (s.set f v).seq = s.seq := rfl
@[simp] theorem State.set_upd (s : State) (f : Field) (v : Nat) : (s.set f v).upd = s.upd := rfl
@[simp] theorem State.set_re (s : State) (f : Field) (v : Nat) : (s.set f v).re = s.re := rfl
@[simp] theorem State.set_opt (s : State) (f : Field) (v : Nat) : (s.set f v).opt = s.opt := rfl
@[simp] theorem State.set_drains (s : State) (f : Field) (v : Nat) : (s.set f v).drains = s.drains := rfl
@[simp] theorem State.set_near (s : State) (f : Field) (v : Nat) : (s.set f v).near = s.near := rfl
@[simp] theorem State.set_far (s : State) (f : Field) (v : Nat) : (s.set f v).far = s.far := rfl
@[simp] theorem State.set_stage (s : State) (f : Field) (v : Nat) : (s.set f v).stage = s.stage := rfl
@[simp] theorem State.set_side (s : State) (f : Field) (v : Nat) : (s.set f v).side = s.side := rfl
@[simp] theorem State.set_core (s : State) (f : Field) (v : Nat) : (s.set f v).core = s.core := rfl
@[simp] theorem State.set_flashA (s : State) (f : Field) (v : Nat) : (s.set f v).flashA = s.flashA := rfl
@[simp] theorem State.set_flashB (s : State) (f : Field) (v : Nat) : (s.set f v).flashB = s.flashB := rfl
@[simp] theorem State.set_freeCtr (s : State) (f : Field) (v : Nat) : (s.set f v).freeCtr = s.freeCtr := rfl
@[simp] theorem State.set_undefGen (s : State) (f : Field) (v : Nat) : (s.set f v).undefGen = s.undefGen := rfl
@[simp] theorem State.set_sent (s : State) (f : Field) (v : Nat) : (s.set f v).sent = s.sent := rfl
@[simp] theorem State.set_pending (s : State) (f : Field) (v : Nat) : (s.set f v).pending = s.pending := rfl

@[simp] theorem State.add_cad (s : State) (f : Field) (n : Nat) : (s.add f n).cad = s.cad := rfl
@[simp] theorem State.add_mgmt (s : State) (f : Field) (n : Nat) : (s.add f n).mgmt = s.mgmt := rfl
@[simp] theorem State.add_colok (s : State) (f : Field) (n : Nat) : (s.add f n).colok = s.colok := rfl
@[simp] theorem State.add_sb (s : State) (f : Field) (n : Nat) : (s.add f n).sb = s.sb := rfl
@[simp] theorem State.add_pwr (s : State) (f : Field) (n : Nat) : (s.add f n).pwr = s.pwr := rfl
@[simp] theorem State.add_led (s : State) (f : Field) (n : Nat) : (s.add f n).led = s.led := rfl
@[simp] theorem State.add_boot (s : State) (f : Field) (n : Nat) : (s.add f n).boot = s.boot := rfl
@[simp] theorem State.add_fuse (s : State) (f : Field) (n : Nat) : (s.add f n).fuse = s.fuse := rfl
@[simp] theorem State.add_staged (s : State) (f : Field) (n : Nat) : (s.add f n).staged = s.staged := rfl
@[simp] theorem State.add_cores (s : State) (f : Field) (n : Nat) : (s.add f n).cores = s.cores := rfl
@[simp] theorem State.add_rt (s : State) (f : Field) (n : Nat) : (s.add f n).rt = s.rt := rfl
@[simp] theorem State.add_map (s : State) (f : Field) (n : Nat) : (s.add f n).map = s.map := rfl
@[simp] theorem State.add_mc (s : State) (f : Field) (n : Nat) : (s.add f n).mc = s.mc := rfl
@[simp] theorem State.add_ctx (s : State) (f : Field) (n : Nat) : (s.add f n).ctx = s.ctx := rfl
@[simp] theorem State.add_seq (s : State) (f : Field) (n : Nat) : (s.add f n).seq = s.seq := rfl
@[simp] theorem State.add_upd (s : State) (f : Field) (n : Nat) : (s.add f n).upd = s.upd := rfl
@[simp] theorem State.add_re (s : State) (f : Field) (n : Nat) : (s.add f n).re = s.re := rfl
@[simp] theorem State.add_opt (s : State) (f : Field) (n : Nat) : (s.add f n).opt = s.opt := rfl
@[simp] theorem State.add_drains (s : State) (f : Field) (n : Nat) : (s.add f n).drains = s.drains := rfl
@[simp] theorem State.add_near (s : State) (f : Field) (n : Nat) : (s.add f n).near = s.near := rfl
@[simp] theorem State.add_far (s : State) (f : Field) (n : Nat) : (s.add f n).far = s.far := rfl
@[simp] theorem State.add_stage (s : State) (f : Field) (n : Nat) : (s.add f n).stage = s.stage := rfl
@[simp] theorem State.add_side (s : State) (f : Field) (n : Nat) : (s.add f n).side = s.side := rfl
@[simp] theorem State.add_core (s : State) (f : Field) (n : Nat) : (s.add f n).core = s.core := rfl
@[simp] theorem State.add_flashA (s : State) (f : Field) (n : Nat) : (s.add f n).flashA = s.flashA := rfl
@[simp] theorem State.add_flashB (s : State) (f : Field) (n : Nat) : (s.add f n).flashB = s.flashB := rfl
@[simp] theorem State.add_freeCtr (s : State) (f : Field) (n : Nat) : (s.add f n).freeCtr = s.freeCtr := rfl
@[simp] theorem State.add_undefGen (s : State) (f : Field) (n : Nat) : (s.add f n).undefGen = s.undefGen := rfl
@[simp] theorem State.add_sent (s : State) (f : Field) (n : Nat) : (s.add f n).sent = s.sent := rfl
@[simp] theorem State.add_pending (s : State) (f : Field) (n : Nat) : (s.add f n).pending = s.pending := rfl

@[simp] theorem State.bump_cad (s : State) (f : Field) : (s.bump f).cad = s.cad := rfl
@[simp] theorem State.bump_mgmt (s : State) (f : Field) : (s.bump f).mgmt = s.mgmt := rfl
@[simp] theorem State.bump_colok (s : State) (f : Field) : (s.bump f).colok = s.colok := rfl
@[simp] theorem State.bump_sb (s : State) (f : Field) : (s.bump f).sb = s.sb := rfl
@[simp] theorem State.bump_pwr (s : State) (f : Field) : (s.bump f).pwr = s.pwr := rfl
@[simp] theorem State.bump_led (s : State) (f : Field) : (s.bump f).led = s.led := rfl
@[simp] theorem State.bump_boot (s : State) (f : Field) : (s.bump f).boot = s.boot := rfl
@[simp] theorem State.bump_fuse (s : State) (f : Field) : (s.bump f).fuse = s.fuse := rfl
@[simp] theorem State.bump_staged (s : State) (f : Field) : (s.bump f).staged = s.staged := rfl
@[simp] theorem State.bump_cores (s : State) (f : Field) : (s.bump f).cores = s.cores := rfl
@[simp] theorem State.bump_rt (s : State) (f : Field) : (s.bump f).rt = s.rt := rfl
@[simp] theorem State.bump_map (s : State) (f : Field) : (s.bump f).map = s.map := rfl
@[simp] theorem State.bump_mc (s : State) (f : Field) : (s.bump f).mc = s.mc := rfl
@[simp] theorem State.bump_ctx (s : State) (f : Field) : (s.bump f).ctx = s.ctx := rfl
@[simp] theorem State.bump_seq (s : State) (f : Field) : (s.bump f).seq = s.seq := rfl
@[simp] theorem State.bump_upd (s : State) (f : Field) : (s.bump f).upd = s.upd := rfl
@[simp] theorem State.bump_re (s : State) (f : Field) : (s.bump f).re = s.re := rfl
@[simp] theorem State.bump_opt (s : State) (f : Field) : (s.bump f).opt = s.opt := rfl
@[simp] theorem State.bump_drains (s : State) (f : Field) : (s.bump f).drains = s.drains := rfl
@[simp] theorem State.bump_near (s : State) (f : Field) : (s.bump f).near = s.near := rfl
@[simp] theorem State.bump_far (s : State) (f : Field) : (s.bump f).far = s.far := rfl
@[simp] theorem State.bump_stage (s : State) (f : Field) : (s.bump f).stage = s.stage := rfl
@[simp] theorem State.bump_side (s : State) (f : Field) : (s.bump f).side = s.side := rfl
@[simp] theorem State.bump_core (s : State) (f : Field) : (s.bump f).core = s.core := rfl
@[simp] theorem State.bump_flashA (s : State) (f : Field) : (s.bump f).flashA = s.flashA := rfl
@[simp] theorem State.bump_flashB (s : State) (f : Field) : (s.bump f).flashB = s.flashB := rfl
@[simp] theorem State.bump_freeCtr (s : State) (f : Field) : (s.bump f).freeCtr = s.freeCtr := rfl
@[simp] theorem State.bump_undefGen (s : State) (f : Field) : (s.bump f).undefGen = s.undefGen := rfl
@[simp] theorem State.bump_sent (s : State) (f : Field) : (s.bump f).sent = s.sent := rfl
@[simp] theorem State.bump_pending (s : State) (f : Field) : (s.bump f).pending = s.pending := rfl

@[simp] theorem State.wrapAdd_cad (s : State) (f : Field) (n : Nat) : (s.wrapAdd f n).cad = s.cad := rfl
@[simp] theorem State.wrapAdd_mgmt (s : State) (f : Field) (n : Nat) : (s.wrapAdd f n).mgmt = s.mgmt := rfl
@[simp] theorem State.wrapAdd_colok (s : State) (f : Field) (n : Nat) : (s.wrapAdd f n).colok = s.colok := rfl
@[simp] theorem State.wrapAdd_sb (s : State) (f : Field) (n : Nat) : (s.wrapAdd f n).sb = s.sb := rfl
@[simp] theorem State.wrapAdd_pwr (s : State) (f : Field) (n : Nat) : (s.wrapAdd f n).pwr = s.pwr := rfl
@[simp] theorem State.wrapAdd_led (s : State) (f : Field) (n : Nat) : (s.wrapAdd f n).led = s.led := rfl
@[simp] theorem State.wrapAdd_boot (s : State) (f : Field) (n : Nat) : (s.wrapAdd f n).boot = s.boot := rfl
@[simp] theorem State.wrapAdd_fuse (s : State) (f : Field) (n : Nat) : (s.wrapAdd f n).fuse = s.fuse := rfl
@[simp] theorem State.wrapAdd_staged (s : State) (f : Field) (n : Nat) : (s.wrapAdd f n).staged = s.staged := rfl
@[simp] theorem State.wrapAdd_cores (s : State) (f : Field) (n : Nat) : (s.wrapAdd f n).cores = s.cores := rfl
@[simp] theorem State.wrapAdd_rt (s : State) (f : Field) (n : Nat) : (s.wrapAdd f n).rt = s.rt := rfl
@[simp] theorem State.wrapAdd_map (s : State) (f : Field) (n : Nat) : (s.wrapAdd f n).map = s.map := rfl
@[simp] theorem State.wrapAdd_mc (s : State) (f : Field) (n : Nat) : (s.wrapAdd f n).mc = s.mc := rfl
@[simp] theorem State.wrapAdd_ctx (s : State) (f : Field) (n : Nat) : (s.wrapAdd f n).ctx = s.ctx := rfl
@[simp] theorem State.wrapAdd_seq (s : State) (f : Field) (n : Nat) : (s.wrapAdd f n).seq = s.seq := rfl
@[simp] theorem State.wrapAdd_upd (s : State) (f : Field) (n : Nat) : (s.wrapAdd f n).upd = s.upd := rfl
@[simp] theorem State.wrapAdd_re (s : State) (f : Field) (n : Nat) : (s.wrapAdd f n).re = s.re := rfl
@[simp] theorem State.wrapAdd_opt (s : State) (f : Field) (n : Nat) : (s.wrapAdd f n).opt = s.opt := rfl
@[simp] theorem State.wrapAdd_drains (s : State) (f : Field) (n : Nat) : (s.wrapAdd f n).drains = s.drains := rfl
@[simp] theorem State.wrapAdd_near (s : State) (f : Field) (n : Nat) : (s.wrapAdd f n).near = s.near := rfl
@[simp] theorem State.wrapAdd_far (s : State) (f : Field) (n : Nat) : (s.wrapAdd f n).far = s.far := rfl
@[simp] theorem State.wrapAdd_stage (s : State) (f : Field) (n : Nat) : (s.wrapAdd f n).stage = s.stage := rfl
@[simp] theorem State.wrapAdd_side (s : State) (f : Field) (n : Nat) : (s.wrapAdd f n).side = s.side := rfl
@[simp] theorem State.wrapAdd_core (s : State) (f : Field) (n : Nat) : (s.wrapAdd f n).core = s.core := rfl
@[simp] theorem State.wrapAdd_flashA (s : State) (f : Field) (n : Nat) : (s.wrapAdd f n).flashA = s.flashA := rfl
@[simp] theorem State.wrapAdd_flashB (s : State) (f : Field) (n : Nat) : (s.wrapAdd f n).flashB = s.flashB := rfl
@[simp] theorem State.wrapAdd_freeCtr (s : State) (f : Field) (n : Nat) : (s.wrapAdd f n).freeCtr = s.freeCtr := rfl
@[simp] theorem State.wrapAdd_undefGen (s : State) (f : Field) (n : Nat) : (s.wrapAdd f n).undefGen = s.undefGen := rfl
@[simp] theorem State.wrapAdd_sent (s : State) (f : Field) (n : Nat) : (s.wrapAdd f n).sent = s.sent := rfl
@[simp] theorem State.wrapAdd_pending (s : State) (f : Field) (n : Nat) : (s.wrapAdd f n).pending = s.pending := rfl

@[simp] theorem State.setCore_regs (s : State) (n : Nat) (c : Core) : (s.setCore n c).regs = s.regs := rfl
@[simp] theorem State.setCore_cad (s : State) (n : Nat) (c : Core) : (s.setCore n c).cad = s.cad := rfl
@[simp] theorem State.setCore_mgmt (s : State) (n : Nat) (c : Core) : (s.setCore n c).mgmt = s.mgmt := rfl
@[simp] theorem State.setCore_colok (s : State) (n : Nat) (c : Core) : (s.setCore n c).colok = s.colok := rfl
@[simp] theorem State.setCore_sb (s : State) (n : Nat) (c : Core) : (s.setCore n c).sb = s.sb := rfl
@[simp] theorem State.setCore_pwr (s : State) (n : Nat) (c : Core) : (s.setCore n c).pwr = s.pwr := rfl
@[simp] theorem State.setCore_led (s : State) (n : Nat) (c : Core) : (s.setCore n c).led = s.led := rfl
@[simp] theorem State.setCore_boot (s : State) (n : Nat) (c : Core) : (s.setCore n c).boot = s.boot := rfl
@[simp] theorem State.setCore_fuse (s : State) (n : Nat) (c : Core) : (s.setCore n c).fuse = s.fuse := rfl
@[simp] theorem State.setCore_staged (s : State) (n : Nat) (c : Core) : (s.setCore n c).staged = s.staged := rfl
@[simp] theorem State.setCore_rt (s : State) (n : Nat) (c : Core) : (s.setCore n c).rt = s.rt := rfl
@[simp] theorem State.setCore_map (s : State) (n : Nat) (c : Core) : (s.setCore n c).map = s.map := rfl
@[simp] theorem State.setCore_mc (s : State) (n : Nat) (c : Core) : (s.setCore n c).mc = s.mc := rfl
@[simp] theorem State.setCore_ctx (s : State) (n : Nat) (c : Core) : (s.setCore n c).ctx = s.ctx := rfl
@[simp] theorem State.setCore_seq (s : State) (n : Nat) (c : Core) : (s.setCore n c).seq = s.seq := rfl
@[simp] theorem State.setCore_upd (s : State) (n : Nat) (c : Core) : (s.setCore n c).upd = s.upd := rfl
@[simp] theorem State.setCore_re (s : State) (n : Nat) (c : Core) : (s.setCore n c).re = s.re := rfl
@[simp] theorem State.setCore_opt (s : State) (n : Nat) (c : Core) : (s.setCore n c).opt = s.opt := rfl
@[simp] theorem State.setCore_drains (s : State) (n : Nat) (c : Core) : (s.setCore n c).drains = s.drains := rfl
@[simp] theorem State.setCore_near (s : State) (n : Nat) (c : Core) : (s.setCore n c).near = s.near := rfl
@[simp] theorem State.setCore_far (s : State) (n : Nat) (c : Core) : (s.setCore n c).far = s.far := rfl
@[simp] theorem State.setCore_stage (s : State) (n : Nat) (c : Core) : (s.setCore n c).stage = s.stage := rfl
@[simp] theorem State.setCore_side (s : State) (n : Nat) (c : Core) : (s.setCore n c).side = s.side := rfl
@[simp] theorem State.setCore_core (s : State) (n : Nat) (c : Core) : (s.setCore n c).core = s.core := rfl
@[simp] theorem State.setCore_flashA (s : State) (n : Nat) (c : Core) : (s.setCore n c).flashA = s.flashA := rfl
@[simp] theorem State.setCore_flashB (s : State) (n : Nat) (c : Core) : (s.setCore n c).flashB = s.flashB := rfl
@[simp] theorem State.setCore_freeCtr (s : State) (n : Nat) (c : Core) : (s.setCore n c).freeCtr = s.freeCtr := rfl
@[simp] theorem State.setCore_undefGen (s : State) (n : Nat) (c : Core) : (s.setCore n c).undefGen = s.undefGen := rfl
@[simp] theorem State.setCore_sent (s : State) (n : Nat) (c : Core) : (s.setCore n c).sent = s.sent := rfl
@[simp] theorem State.setCore_pending (s : State) (n : Nat) (c : Core) : (s.setCore n c).pending = s.pending := rfl

@[simp] theorem State.setCx_regs (s : State) (c : Nat) (x : Ctx) : (s.setCx c x).regs = s.regs := rfl
@[simp] theorem State.setCx_cad (s : State) (c : Nat) (x : Ctx) : (s.setCx c x).cad = s.cad := rfl
@[simp] theorem State.setCx_mgmt (s : State) (c : Nat) (x : Ctx) : (s.setCx c x).mgmt = s.mgmt := rfl
@[simp] theorem State.setCx_colok (s : State) (c : Nat) (x : Ctx) : (s.setCx c x).colok = s.colok := rfl
@[simp] theorem State.setCx_sb (s : State) (c : Nat) (x : Ctx) : (s.setCx c x).sb = s.sb := rfl
@[simp] theorem State.setCx_pwr (s : State) (c : Nat) (x : Ctx) : (s.setCx c x).pwr = s.pwr := rfl
@[simp] theorem State.setCx_led (s : State) (c : Nat) (x : Ctx) : (s.setCx c x).led = s.led := rfl
@[simp] theorem State.setCx_boot (s : State) (c : Nat) (x : Ctx) : (s.setCx c x).boot = s.boot := rfl
@[simp] theorem State.setCx_fuse (s : State) (c : Nat) (x : Ctx) : (s.setCx c x).fuse = s.fuse := rfl
@[simp] theorem State.setCx_staged (s : State) (c : Nat) (x : Ctx) : (s.setCx c x).staged = s.staged := rfl
@[simp] theorem State.setCx_cores (s : State) (c : Nat) (x : Ctx) : (s.setCx c x).cores = s.cores := rfl
@[simp] theorem State.setCx_rt (s : State) (c : Nat) (x : Ctx) : (s.setCx c x).rt = s.rt := rfl
@[simp] theorem State.setCx_map (s : State) (c : Nat) (x : Ctx) : (s.setCx c x).map = s.map := rfl
@[simp] theorem State.setCx_mc (s : State) (c : Nat) (x : Ctx) : (s.setCx c x).mc = s.mc := rfl
@[simp] theorem State.setCx_seq (s : State) (c : Nat) (x : Ctx) : (s.setCx c x).seq = s.seq := rfl
@[simp] theorem State.setCx_upd (s : State) (c : Nat) (x : Ctx) : (s.setCx c x).upd = s.upd := rfl
@[simp] theorem State.setCx_re (s : State) (c : Nat) (x : Ctx) : (s.setCx c x).re = s.re := rfl
@[simp] theorem State.setCx_opt (s : State) (c : Nat) (x : Ctx) : (s.setCx c x).opt = s.opt := rfl
@[simp] theorem State.setCx_drains (s : State) (c : Nat) (x : Ctx) : (s.setCx c x).drains = s.drains := rfl
@[simp] theorem State.setCx_near (s : State) (c : Nat) (x : Ctx) : (s.setCx c x).near = s.near := rfl
@[simp] theorem State.setCx_far (s : State) (c : Nat) (x : Ctx) : (s.setCx c x).far = s.far := rfl
@[simp] theorem State.setCx_stage (s : State) (c : Nat) (x : Ctx) : (s.setCx c x).stage = s.stage := rfl
@[simp] theorem State.setCx_side (s : State) (c : Nat) (x : Ctx) : (s.setCx c x).side = s.side := rfl
@[simp] theorem State.setCx_core (s : State) (c : Nat) (x : Ctx) : (s.setCx c x).core = s.core := rfl
@[simp] theorem State.setCx_flashA (s : State) (c : Nat) (x : Ctx) : (s.setCx c x).flashA = s.flashA := rfl
@[simp] theorem State.setCx_flashB (s : State) (c : Nat) (x : Ctx) : (s.setCx c x).flashB = s.flashB := rfl
@[simp] theorem State.setCx_freeCtr (s : State) (c : Nat) (x : Ctx) : (s.setCx c x).freeCtr = s.freeCtr := rfl
@[simp] theorem State.setCx_undefGen (s : State) (c : Nat) (x : Ctx) : (s.setCx c x).undefGen = s.undefGen := rfl
@[simp] theorem State.setCx_sent (s : State) (c : Nat) (x : Ctx) : (s.setCx c x).sent = s.sent := rfl
@[simp] theorem State.setCx_pending (s : State) (c : Nat) (x : Ctx) : (s.setCx c x).pending = s.pending := rfl

@[simp] theorem State.setMemctl_regs (s : State) (n : Nat) (c : MemCtl) : (s.setMemctl n c).regs = s.regs := rfl
@[simp] theorem State.setMemctl_cad (s : State) (n : Nat) (c : MemCtl) : (s.setMemctl n c).cad = s.cad := rfl
@[simp] theorem State.setMemctl_mgmt (s : State) (n : Nat) (c : MemCtl) : (s.setMemctl n c).mgmt = s.mgmt := rfl
@[simp] theorem State.setMemctl_colok (s : State) (n : Nat) (c : MemCtl) : (s.setMemctl n c).colok = s.colok := rfl
@[simp] theorem State.setMemctl_sb (s : State) (n : Nat) (c : MemCtl) : (s.setMemctl n c).sb = s.sb := rfl
@[simp] theorem State.setMemctl_pwr (s : State) (n : Nat) (c : MemCtl) : (s.setMemctl n c).pwr = s.pwr := rfl
@[simp] theorem State.setMemctl_led (s : State) (n : Nat) (c : MemCtl) : (s.setMemctl n c).led = s.led := rfl
@[simp] theorem State.setMemctl_boot (s : State) (n : Nat) (c : MemCtl) : (s.setMemctl n c).boot = s.boot := rfl
@[simp] theorem State.setMemctl_fuse (s : State) (n : Nat) (c : MemCtl) : (s.setMemctl n c).fuse = s.fuse := rfl
@[simp] theorem State.setMemctl_staged (s : State) (n : Nat) (c : MemCtl) : (s.setMemctl n c).staged = s.staged := rfl
@[simp] theorem State.setMemctl_cores (s : State) (n : Nat) (c : MemCtl) : (s.setMemctl n c).cores = s.cores := rfl
@[simp] theorem State.setMemctl_rt (s : State) (n : Nat) (c : MemCtl) : (s.setMemctl n c).rt = s.rt := rfl
@[simp] theorem State.setMemctl_map (s : State) (n : Nat) (c : MemCtl) : (s.setMemctl n c).map = s.map := rfl
@[simp] theorem State.setMemctl_ctx (s : State) (n : Nat) (c : MemCtl) : (s.setMemctl n c).ctx = s.ctx := rfl
@[simp] theorem State.setMemctl_seq (s : State) (n : Nat) (c : MemCtl) : (s.setMemctl n c).seq = s.seq := rfl
@[simp] theorem State.setMemctl_upd (s : State) (n : Nat) (c : MemCtl) : (s.setMemctl n c).upd = s.upd := rfl
@[simp] theorem State.setMemctl_re (s : State) (n : Nat) (c : MemCtl) : (s.setMemctl n c).re = s.re := rfl
@[simp] theorem State.setMemctl_opt (s : State) (n : Nat) (c : MemCtl) : (s.setMemctl n c).opt = s.opt := rfl
@[simp] theorem State.setMemctl_drains (s : State) (n : Nat) (c : MemCtl) : (s.setMemctl n c).drains = s.drains := rfl
@[simp] theorem State.setMemctl_near (s : State) (n : Nat) (c : MemCtl) : (s.setMemctl n c).near = s.near := rfl
@[simp] theorem State.setMemctl_far (s : State) (n : Nat) (c : MemCtl) : (s.setMemctl n c).far = s.far := rfl
@[simp] theorem State.setMemctl_stage (s : State) (n : Nat) (c : MemCtl) : (s.setMemctl n c).stage = s.stage := rfl
@[simp] theorem State.setMemctl_side (s : State) (n : Nat) (c : MemCtl) : (s.setMemctl n c).side = s.side := rfl
@[simp] theorem State.setMemctl_core (s : State) (n : Nat) (c : MemCtl) : (s.setMemctl n c).core = s.core := rfl
@[simp] theorem State.setMemctl_flashA (s : State) (n : Nat) (c : MemCtl) : (s.setMemctl n c).flashA = s.flashA := rfl
@[simp] theorem State.setMemctl_flashB (s : State) (n : Nat) (c : MemCtl) : (s.setMemctl n c).flashB = s.flashB := rfl
@[simp] theorem State.setMemctl_freeCtr (s : State) (n : Nat) (c : MemCtl) : (s.setMemctl n c).freeCtr = s.freeCtr := rfl
@[simp] theorem State.setMemctl_undefGen (s : State) (n : Nat) (c : MemCtl) : (s.setMemctl n c).undefGen = s.undefGen := rfl
@[simp] theorem State.setMemctl_sent (s : State) (n : Nat) (c : MemCtl) : (s.setMemctl n c).sent = s.sent := rfl
@[simp] theorem State.setMemctl_pending (s : State) (n : Nat) (c : MemCtl) : (s.setMemctl n c).pending = s.pending := rfl

@[simp] theorem State.setOptic_regs (s : State) (p : Nat) (o : Optic) : (s.setOptic p o).regs = s.regs := rfl
@[simp] theorem State.setOptic_cad (s : State) (p : Nat) (o : Optic) : (s.setOptic p o).cad = s.cad := rfl
@[simp] theorem State.setOptic_mgmt (s : State) (p : Nat) (o : Optic) : (s.setOptic p o).mgmt = s.mgmt := rfl
@[simp] theorem State.setOptic_colok (s : State) (p : Nat) (o : Optic) : (s.setOptic p o).colok = s.colok := rfl
@[simp] theorem State.setOptic_sb (s : State) (p : Nat) (o : Optic) : (s.setOptic p o).sb = s.sb := rfl
@[simp] theorem State.setOptic_pwr (s : State) (p : Nat) (o : Optic) : (s.setOptic p o).pwr = s.pwr := rfl
@[simp] theorem State.setOptic_led (s : State) (p : Nat) (o : Optic) : (s.setOptic p o).led = s.led := rfl
@[simp] theorem State.setOptic_boot (s : State) (p : Nat) (o : Optic) : (s.setOptic p o).boot = s.boot := rfl
@[simp] theorem State.setOptic_fuse (s : State) (p : Nat) (o : Optic) : (s.setOptic p o).fuse = s.fuse := rfl
@[simp] theorem State.setOptic_staged (s : State) (p : Nat) (o : Optic) : (s.setOptic p o).staged = s.staged := rfl
@[simp] theorem State.setOptic_cores (s : State) (p : Nat) (o : Optic) : (s.setOptic p o).cores = s.cores := rfl
@[simp] theorem State.setOptic_rt (s : State) (p : Nat) (o : Optic) : (s.setOptic p o).rt = s.rt := rfl
@[simp] theorem State.setOptic_map (s : State) (p : Nat) (o : Optic) : (s.setOptic p o).map = s.map := rfl
@[simp] theorem State.setOptic_mc (s : State) (p : Nat) (o : Optic) : (s.setOptic p o).mc = s.mc := rfl
@[simp] theorem State.setOptic_ctx (s : State) (p : Nat) (o : Optic) : (s.setOptic p o).ctx = s.ctx := rfl
@[simp] theorem State.setOptic_seq (s : State) (p : Nat) (o : Optic) : (s.setOptic p o).seq = s.seq := rfl
@[simp] theorem State.setOptic_upd (s : State) (p : Nat) (o : Optic) : (s.setOptic p o).upd = s.upd := rfl
@[simp] theorem State.setOptic_re (s : State) (p : Nat) (o : Optic) : (s.setOptic p o).re = s.re := rfl
@[simp] theorem State.setOptic_drains (s : State) (p : Nat) (o : Optic) : (s.setOptic p o).drains = s.drains := rfl
@[simp] theorem State.setOptic_near (s : State) (p : Nat) (o : Optic) : (s.setOptic p o).near = s.near := rfl
@[simp] theorem State.setOptic_far (s : State) (p : Nat) (o : Optic) : (s.setOptic p o).far = s.far := rfl
@[simp] theorem State.setOptic_stage (s : State) (p : Nat) (o : Optic) : (s.setOptic p o).stage = s.stage := rfl
@[simp] theorem State.setOptic_side (s : State) (p : Nat) (o : Optic) : (s.setOptic p o).side = s.side := rfl
@[simp] theorem State.setOptic_core (s : State) (p : Nat) (o : Optic) : (s.setOptic p o).core = s.core := rfl
@[simp] theorem State.setOptic_flashA (s : State) (p : Nat) (o : Optic) : (s.setOptic p o).flashA = s.flashA := rfl
@[simp] theorem State.setOptic_flashB (s : State) (p : Nat) (o : Optic) : (s.setOptic p o).flashB = s.flashB := rfl
@[simp] theorem State.setOptic_freeCtr (s : State) (p : Nat) (o : Optic) : (s.setOptic p o).freeCtr = s.freeCtr := rfl
@[simp] theorem State.setOptic_undefGen (s : State) (p : Nat) (o : Optic) : (s.setOptic p o).undefGen = s.undefGen := rfl
@[simp] theorem State.setOptic_sent (s : State) (p : Nat) (o : Optic) : (s.setOptic p o).sent = s.sent := rfl
@[simp] theorem State.setOptic_pending (s : State) (p : Nat) (o : Optic) : (s.setOptic p o).pending = s.pending := rfl

@[simp] theorem State.setCk_regs (s : State) (c : Nat) (k : ColokPort) : (s.setCk c k).regs = s.regs := rfl
@[simp] theorem State.setCk_cad (s : State) (c : Nat) (k : ColokPort) : (s.setCk c k).cad = s.cad := rfl
@[simp] theorem State.setCk_mgmt (s : State) (c : Nat) (k : ColokPort) : (s.setCk c k).mgmt = s.mgmt := rfl
@[simp] theorem State.setCk_sb (s : State) (c : Nat) (k : ColokPort) : (s.setCk c k).sb = s.sb := rfl
@[simp] theorem State.setCk_pwr (s : State) (c : Nat) (k : ColokPort) : (s.setCk c k).pwr = s.pwr := rfl
@[simp] theorem State.setCk_led (s : State) (c : Nat) (k : ColokPort) : (s.setCk c k).led = s.led := rfl
@[simp] theorem State.setCk_boot (s : State) (c : Nat) (k : ColokPort) : (s.setCk c k).boot = s.boot := rfl
@[simp] theorem State.setCk_fuse (s : State) (c : Nat) (k : ColokPort) : (s.setCk c k).fuse = s.fuse := rfl
@[simp] theorem State.setCk_staged (s : State) (c : Nat) (k : ColokPort) : (s.setCk c k).staged = s.staged := rfl
@[simp] theorem State.setCk_cores (s : State) (c : Nat) (k : ColokPort) : (s.setCk c k).cores = s.cores := rfl
@[simp] theorem State.setCk_rt (s : State) (c : Nat) (k : ColokPort) : (s.setCk c k).rt = s.rt := rfl
@[simp] theorem State.setCk_map (s : State) (c : Nat) (k : ColokPort) : (s.setCk c k).map = s.map := rfl
@[simp] theorem State.setCk_mc (s : State) (c : Nat) (k : ColokPort) : (s.setCk c k).mc = s.mc := rfl
@[simp] theorem State.setCk_ctx (s : State) (c : Nat) (k : ColokPort) : (s.setCk c k).ctx = s.ctx := rfl
@[simp] theorem State.setCk_seq (s : State) (c : Nat) (k : ColokPort) : (s.setCk c k).seq = s.seq := rfl
@[simp] theorem State.setCk_upd (s : State) (c : Nat) (k : ColokPort) : (s.setCk c k).upd = s.upd := rfl
@[simp] theorem State.setCk_re (s : State) (c : Nat) (k : ColokPort) : (s.setCk c k).re = s.re := rfl
@[simp] theorem State.setCk_opt (s : State) (c : Nat) (k : ColokPort) : (s.setCk c k).opt = s.opt := rfl
@[simp] theorem State.setCk_drains (s : State) (c : Nat) (k : ColokPort) : (s.setCk c k).drains = s.drains := rfl
@[simp] theorem State.setCk_near (s : State) (c : Nat) (k : ColokPort) : (s.setCk c k).near = s.near := rfl
@[simp] theorem State.setCk_far (s : State) (c : Nat) (k : ColokPort) : (s.setCk c k).far = s.far := rfl
@[simp] theorem State.setCk_stage (s : State) (c : Nat) (k : ColokPort) : (s.setCk c k).stage = s.stage := rfl
@[simp] theorem State.setCk_side (s : State) (c : Nat) (k : ColokPort) : (s.setCk c k).side = s.side := rfl
@[simp] theorem State.setCk_core (s : State) (c : Nat) (k : ColokPort) : (s.setCk c k).core = s.core := rfl
@[simp] theorem State.setCk_flashA (s : State) (c : Nat) (k : ColokPort) : (s.setCk c k).flashA = s.flashA := rfl
@[simp] theorem State.setCk_flashB (s : State) (c : Nat) (k : ColokPort) : (s.setCk c k).flashB = s.flashB := rfl
@[simp] theorem State.setCk_freeCtr (s : State) (c : Nat) (k : ColokPort) : (s.setCk c k).freeCtr = s.freeCtr := rfl
@[simp] theorem State.setCk_undefGen (s : State) (c : Nat) (k : ColokPort) : (s.setCk c k).undefGen = s.undefGen := rfl
@[simp] theorem State.setCk_sent (s : State) (c : Nat) (k : ColokPort) : (s.setCk c k).sent = s.sent := rfl
@[simp] theorem State.setCk_pending (s : State) (c : Nat) (k : ColokPort) : (s.setCk c k).pending = s.pending := rfl

@[simp] theorem State.setCore_cores (s : State) (n : Nat) (c : Core) : (s.setCore n c).cores = s.cores.set n c := rfl
@[simp] theorem State.setCx_ctx (s : State) (c : Nat) (x : Ctx) : (s.setCx c x).ctx = s.ctx.set c x := rfl
@[simp] theorem State.setMemctl_mc (s : State) (n : Nat) (c : MemCtl) : (s.setMemctl n c).mc = s.mc.set n c := rfl
@[simp] theorem State.setOptic_opt (s : State) (p : Nat) (o : Optic) : (s.setOptic p o).opt = s.opt.set p o := rfl
@[simp] theorem State.setCk_colok (s : State) (c : Nat) (k : ColokPort) : (s.setCk c k).colok = s.colok.set c k := rfl

@[simp] theorem State.reg_setCore (s : State) (n : Nat) (c : Core) (b : Nat) : (s.setCore n c).reg b = s.reg b := rfl
@[simp] theorem State.get_setCore (s : State) (n : Nat) (c : Core) (g : Field) : (s.setCore n c).get g = s.get g := rfl
@[simp] theorem State.on_setCore (s : State) (n : Nat) (c : Core) (g : Field) : (s.setCore n c).on g = s.on g := rfl
@[simp] theorem State.reg_setCx (s : State) (c : Nat) (x : Ctx) (b : Nat) : (s.setCx c x).reg b = s.reg b := rfl
@[simp] theorem State.get_setCx (s : State) (c : Nat) (x : Ctx) (g : Field) : (s.setCx c x).get g = s.get g := rfl
@[simp] theorem State.on_setCx (s : State) (c : Nat) (x : Ctx) (g : Field) : (s.setCx c x).on g = s.on g := rfl
@[simp] theorem State.reg_setMemctl (s : State) (n : Nat) (c : MemCtl) (b : Nat) : (s.setMemctl n c).reg b = s.reg b := rfl
@[simp] theorem State.get_setMemctl (s : State) (n : Nat) (c : MemCtl) (g : Field) : (s.setMemctl n c).get g = s.get g := rfl
@[simp] theorem State.on_setMemctl (s : State) (n : Nat) (c : MemCtl) (g : Field) : (s.setMemctl n c).on g = s.on g := rfl
@[simp] theorem State.reg_setOptic (s : State) (p : Nat) (o : Optic) (b : Nat) : (s.setOptic p o).reg b = s.reg b := rfl
@[simp] theorem State.get_setOptic (s : State) (p : Nat) (o : Optic) (g : Field) : (s.setOptic p o).get g = s.get g := rfl
@[simp] theorem State.on_setOptic (s : State) (p : Nat) (o : Optic) (g : Field) : (s.setOptic p o).on g = s.on g := rfl
@[simp] theorem State.reg_setCk (s : State) (c : Nat) (k : ColokPort) (b : Nat) : (s.setCk c k).reg b = s.reg b := rfl
@[simp] theorem State.get_setCk (s : State) (c : Nat) (k : ColokPort) (g : Field) : (s.setCk c k).get g = s.get g := rfl
@[simp] theorem State.on_setCk (s : State) (c : Nat) (k : ColokPort) (g : Field) : (s.setCk c k).on g = s.on g := rfl

@[simp] theorem State.reg_with_cad (s : State) (x : Cadence) (b : Nat) : ({ s with cad := x } : State).reg b = s.reg b := rfl
@[simp] theorem State.get_with_cad (s : State) (x : Cadence) (g : Field) : ({ s with cad := x } : State).get g = s.get g := rfl
@[simp] theorem State.on_with_cad (s : State) (x : Cadence) (g : Field) : ({ s with cad := x } : State).on g = s.on g := rfl
@[simp] theorem State.reg_with_mgmt (s : State) (x : Mgmt) (b : Nat) : ({ s with mgmt := x } : State).reg b = s.reg b := rfl
@[simp] theorem State.get_with_mgmt (s : State) (x : Mgmt) (g : Field) : ({ s with mgmt := x } : State).get g = s.get g := rfl
@[simp] theorem State.on_with_mgmt (s : State) (x : Mgmt) (g : Field) : ({ s with mgmt := x } : State).on g = s.on g := rfl
@[simp] theorem State.reg_with_colok (s : State) (x : List ColokPort) (b : Nat) : ({ s with colok := x } : State).reg b = s.reg b := rfl
@[simp] theorem State.get_with_colok (s : State) (x : List ColokPort) (g : Field) : ({ s with colok := x } : State).get g = s.get g := rfl
@[simp] theorem State.on_with_colok (s : State) (x : List ColokPort) (g : Field) : ({ s with colok := x } : State).on g = s.on g := rfl
@[simp] theorem State.reg_with_sb (s : State) (x : Sideband) (b : Nat) : ({ s with sb := x } : State).reg b = s.reg b := rfl
@[simp] theorem State.get_with_sb (s : State) (x : Sideband) (g : Field) : ({ s with sb := x } : State).get g = s.get g := rfl
@[simp] theorem State.on_with_sb (s : State) (x : Sideband) (g : Field) : ({ s with sb := x } : State).on g = s.on g := rfl
@[simp] theorem State.reg_with_pwr (s : State) (x : Power) (b : Nat) : ({ s with pwr := x } : State).reg b = s.reg b := rfl
@[simp] theorem State.get_with_pwr (s : State) (x : Power) (g : Field) : ({ s with pwr := x } : State).get g = s.get g := rfl
@[simp] theorem State.on_with_pwr (s : State) (x : Power) (g : Field) : ({ s with pwr := x } : State).on g = s.on g := rfl
@[simp] theorem State.reg_with_led (s : State) (x : Ledger) (b : Nat) : ({ s with led := x } : State).reg b = s.reg b := rfl
@[simp] theorem State.get_with_led (s : State) (x : Ledger) (g : Field) : ({ s with led := x } : State).get g = s.get g := rfl
@[simp] theorem State.on_with_led (s : State) (x : Ledger) (g : Field) : ({ s with led := x } : State).on g = s.on g := rfl
@[simp] theorem State.reg_with_staged (s : State) (x : List (Nat × Nat)) (b : Nat) : ({ s with staged := x } : State).reg b = s.reg b := rfl
@[simp] theorem State.get_with_staged (s : State) (x : List (Nat × Nat)) (g : Field) :
    ({ s with staged := x } : State).get g = s.get g := rfl
@[simp] theorem State.on_with_staged (s : State) (x : List (Nat × Nat)) (g : Field) : ({ s with staged := x } : State).on g = s.on g := rfl
@[simp] theorem State.reg_with_cores (s : State) (x : List Core) (b : Nat) : ({ s with cores := x } : State).reg b = s.reg b := rfl
@[simp] theorem State.get_with_cores (s : State) (x : List Core) (g : Field) : ({ s with cores := x } : State).get g = s.get g := rfl
@[simp] theorem State.on_with_cores (s : State) (x : List Core) (g : Field) : ({ s with cores := x } : State).on g = s.on g := rfl
@[simp] theorem State.reg_with_rt (s : State) (x : Router) (b : Nat) : ({ s with rt := x } : State).reg b = s.reg b := rfl
@[simp] theorem State.get_with_rt (s : State) (x : Router) (g : Field) : ({ s with rt := x } : State).get g = s.get g := rfl
@[simp] theorem State.on_with_rt (s : State) (x : Router) (g : Field) : ({ s with rt := x } : State).on g = s.on g := rfl
@[simp] theorem State.reg_with_map (s : State) (x : MapState) (b : Nat) : ({ s with map := x } : State).reg b = s.reg b := rfl
@[simp] theorem State.get_with_map (s : State) (x : MapState) (g : Field) : ({ s with map := x } : State).get g = s.get g := rfl
@[simp] theorem State.on_with_map (s : State) (x : MapState) (g : Field) : ({ s with map := x } : State).on g = s.on g := rfl
@[simp] theorem State.reg_with_mc (s : State) (x : List MemCtl) (b : Nat) : ({ s with mc := x } : State).reg b = s.reg b := rfl
@[simp] theorem State.get_with_mc (s : State) (x : List MemCtl) (g : Field) : ({ s with mc := x } : State).get g = s.get g := rfl
@[simp] theorem State.on_with_mc (s : State) (x : List MemCtl) (g : Field) : ({ s with mc := x } : State).on g = s.on g := rfl
@[simp] theorem State.reg_with_ctx (s : State) (x : List Ctx) (b : Nat) : ({ s with ctx := x } : State).reg b = s.reg b := rfl
@[simp] theorem State.get_with_ctx (s : State) (x : List Ctx) (g : Field) : ({ s with ctx := x } : State).get g = s.get g := rfl
@[simp] theorem State.on_with_ctx (s : State) (x : List Ctx) (g : Field) : ({ s with ctx := x } : State).on g = s.on g := rfl
@[simp] theorem State.reg_with_seq (s : State) (x : Seq) (b : Nat) : ({ s with seq := x } : State).reg b = s.reg b := rfl
@[simp] theorem State.get_with_seq (s : State) (x : Seq) (g : Field) : ({ s with seq := x } : State).get g = s.get g := rfl
@[simp] theorem State.on_with_seq (s : State) (x : Seq) (g : Field) : ({ s with seq := x } : State).on g = s.on g := rfl
@[simp] theorem State.reg_with_upd (s : State) (x : List Upd) (b : Nat) : ({ s with upd := x } : State).reg b = s.reg b := rfl
@[simp] theorem State.get_with_upd (s : State) (x : List Upd) (g : Field) : ({ s with upd := x } : State).get g = s.get g := rfl
@[simp] theorem State.on_with_upd (s : State) (x : List Upd) (g : Field) : ({ s with upd := x } : State).on g = s.on g := rfl
@[simp] theorem State.reg_with_re (s : State) (x : List RowEng) (b : Nat) : ({ s with re := x } : State).reg b = s.reg b := rfl
@[simp] theorem State.get_with_re (s : State) (x : List RowEng) (g : Field) : ({ s with re := x } : State).get g = s.get g := rfl
@[simp] theorem State.on_with_re (s : State) (x : List RowEng) (g : Field) : ({ s with re := x } : State).on g = s.on g := rfl
@[simp] theorem State.reg_with_opt (s : State) (x : List Optic) (b : Nat) : ({ s with opt := x } : State).reg b = s.reg b := rfl
@[simp] theorem State.get_with_opt (s : State) (x : List Optic) (g : Field) : ({ s with opt := x } : State).get g = s.get g := rfl
@[simp] theorem State.on_with_opt (s : State) (x : List Optic) (g : Field) : ({ s with opt := x } : State).on g = s.on g := rfl
@[simp] theorem State.reg_with_drains (s : State) (x : List (Nat × Nat)) (b : Nat) : ({ s with drains := x } : State).reg b = s.reg b := rfl
@[simp] theorem State.get_with_drains (s : State) (x : List (Nat × Nat)) (g : Field) :
    ({ s with drains := x } : State).get g = s.get g := rfl
@[simp] theorem State.on_with_drains (s : State) (x : List (Nat × Nat)) (g : Field) : ({ s with drains := x } : State).on g = s.on g := rfl
@[simp] theorem State.reg_with_near (s : State) (x : Mem) (b : Nat) : ({ s with near := x } : State).reg b = s.reg b := rfl
@[simp] theorem State.get_with_near (s : State) (x : Mem) (g : Field) : ({ s with near := x } : State).get g = s.get g := rfl
@[simp] theorem State.on_with_near (s : State) (x : Mem) (g : Field) : ({ s with near := x } : State).on g = s.on g := rfl
@[simp] theorem State.reg_with_far (s : State) (x : List Mem) (b : Nat) : ({ s with far := x } : State).reg b = s.reg b := rfl
@[simp] theorem State.get_with_far (s : State) (x : List Mem) (g : Field) : ({ s with far := x } : State).get g = s.get g := rfl
@[simp] theorem State.on_with_far (s : State) (x : List Mem) (g : Field) : ({ s with far := x } : State).on g = s.on g := rfl
@[simp] theorem State.reg_with_stage (s : State) (x : Mem) (b : Nat) : ({ s with stage := x } : State).reg b = s.reg b := rfl
@[simp] theorem State.get_with_stage (s : State) (x : Mem) (g : Field) : ({ s with stage := x } : State).get g = s.get g := rfl
@[simp] theorem State.on_with_stage (s : State) (x : Mem) (g : Field) : ({ s with stage := x } : State).on g = s.on g := rfl
@[simp] theorem State.reg_with_side (s : State) (x : Mem) (b : Nat) : ({ s with side := x } : State).reg b = s.reg b := rfl
@[simp] theorem State.get_with_side (s : State) (x : Mem) (g : Field) : ({ s with side := x } : State).get g = s.get g := rfl
@[simp] theorem State.on_with_side (s : State) (x : Mem) (g : Field) : ({ s with side := x } : State).on g = s.on g := rfl
@[simp] theorem State.reg_with_core (s : State) (x : Mem) (b : Nat) : ({ s with core := x } : State).reg b = s.reg b := rfl
@[simp] theorem State.get_with_core (s : State) (x : Mem) (g : Field) : ({ s with core := x } : State).get g = s.get g := rfl
@[simp] theorem State.on_with_core (s : State) (x : Mem) (g : Field) : ({ s with core := x } : State).on g = s.on g := rfl
@[simp] theorem State.reg_with_flashA (s : State) (x : Mem) (b : Nat) : ({ s with flashA := x } : State).reg b = s.reg b := rfl
@[simp] theorem State.get_with_flashA (s : State) (x : Mem) (g : Field) : ({ s with flashA := x } : State).get g = s.get g := rfl
@[simp] theorem State.on_with_flashA (s : State) (x : Mem) (g : Field) : ({ s with flashA := x } : State).on g = s.on g := rfl
@[simp] theorem State.reg_with_flashB (s : State) (x : Mem) (b : Nat) : ({ s with flashB := x } : State).reg b = s.reg b := rfl
@[simp] theorem State.get_with_flashB (s : State) (x : Mem) (g : Field) : ({ s with flashB := x } : State).get g = s.get g := rfl
@[simp] theorem State.on_with_flashB (s : State) (x : Mem) (g : Field) : ({ s with flashB := x } : State).on g = s.on g := rfl
@[simp] theorem State.reg_with_freeCtr (s : State) (x : Nat) (b : Nat) : ({ s with freeCtr := x } : State).reg b = s.reg b := rfl
@[simp] theorem State.get_with_freeCtr (s : State) (x : Nat) (g : Field) : ({ s with freeCtr := x } : State).get g = s.get g := rfl
@[simp] theorem State.on_with_freeCtr (s : State) (x : Nat) (g : Field) : ({ s with freeCtr := x } : State).on g = s.on g := rfl
@[simp] theorem State.reg_with_sent (s : State) (x : List Egress) (b : Nat) : ({ s with sent := x } : State).reg b = s.reg b := rfl
@[simp] theorem State.get_with_sent (s : State) (x : List Egress) (g : Field) : ({ s with sent := x } : State).get g = s.get g := rfl
@[simp] theorem State.on_with_sent (s : State) (x : List Egress) (g : Field) : ({ s with sent := x } : State).on g = s.on g := rfl
@[simp] theorem State.reg_with_pending (s : State) (x : List Instr) (b : Nat) : ({ s with pending := x } : State).reg b = s.reg b := rfl
@[simp] theorem State.get_with_pending (s : State) (x : List Instr) (g : Field) : ({ s with pending := x } : State).get g = s.get g := rfl
@[simp] theorem State.on_with_pending (s : State) (x : List Instr) (g : Field) : ({ s with pending := x } : State).on g = s.on g := rfl

@[simp] theorem State.now_def (s : State) : s.now = s.cad.count := rfl
@[simp] theorem State.slot_def (s : State) : s.slot = s.cad.count / 256 := rfl
@[simp] theorem State.epoch_def (s : State) : s.epoch = s.cad.count / 50000 := rfl
theorem State.on_iff (s : State) (f : Field) : s.on f = true ↔ s.get f ≠ 0 := by simp [State.on]
@[simp] theorem State.tick_count (s : State) : s.tick.cad.count = s.cad.count + 1 := rfl

end Sys2Proof.Machine
end

