-- ==== Sys2Proof/Tests/Slice0.lean ====
section
/-! SUPPORT. Tests: ill-formed commands that the check refuses; for each statement with hypotheses, states and operands that meet
them, clause by clause; small checks of single commands against numbers worked out from the spec. -/
namespace Sys2Proof.Tests
open Sys2Proof.Machine

-- One theorem after the other: run side by side, the kernel evaluations hold one thread each.
set_option Elab.async false

/-- The module after reset. -/
def W : State := State.reset

/-- A state with fields of registers written. -/
def withF (s : State) (l : List (Field × Nat)) : State := l.foldl (fun s p => s.set p.1 p.2) s

/-- The count moved to a tick. -/
def atT (k : Nat) (s : State) : State := { s with cad := { s.cad with count := k } }

def withCore (n : Nat) (f : Core → Core) (s : State) : State := s.setCore n (f (s.coreAt n))
def withPort (p ph : Nat) (f : Optic → Optic) (s : State) : State := (s.setPhase p ph).modOptic p f
def withCtx (c : Nat) (f : Ctx → Ctx) (s : State) : State := s.setCx c (f (s.cx c))
def withCk (c : Nat) (f : ColokPort → ColokPort) (s : State) : State := s.setCk c (f (s.ck c))
def withMc (n : Nat) (f : MemCtl → MemCtl) (s : State) : State := s.setMemctl n (f (s.memctl n))
def withSeq (f : Seq → Seq) (s : State) : State := { s with seq := f s.seq }
def withPwr (f : Power → Power) (s : State) : State := { s with pwr := f s.pwr }
def withLed (f : Ledger → Ledger) (s : State) : State := { s with led := f s.led }
def withBoot (f : Boot → Boot) (s : State) : State := { s with boot := f s.boot }
def withCad (f : Cadence → Cadence) (s : State) : State := { s with cad := f s.cad }
def withMgmt (f : Mgmt → Mgmt) (s : State) : State := { s with mgmt := f s.mgmt }
def withRt (f : Router → Router) (s : State) : State := { s with rt := f s.rt }

def withUpd (n : Nat) (u : Upd) (s : State) : State := { s with upd := s.upd.set n u }
def withMap (f : MapState → MapState) (s : State) : State := { s with map := f s.map }
def withFuse (f : Fuses → Fuses) (s : State) : State := { s with fuse := f s.fuse }

/-- A staged pair armed for slot 0. -/
def armed (act : Nat) (s : State) : State := { s.setReg act (putBits (s.reg act) 63 63 1) with staged := [(act, 0)] }

/-- Core 0 RUNNING, about to issue word w at PC 0. -/
def issuing (w : Nat) (f : Core → Core := id) (s : State := W) : State :=
  withCore 0 (fun c => f { c with state := 1 }) { s with core := s.core.store 0xC00000 (bytesOf 32 w) }

/-- A control word from its fields, given by high and low bit and value. -/
def cword (l : List (Nat × Nat × Nat)) : Nat := l.foldl (fun w f => w + f.2.2 * 2 ^ f.2.1) 0

/-- An element with tag 0, and a queue that has it to pop. -/
def elem : QElem := { tag := 0, bytes := List.replicate 128 0 }
def oneElem : Queue := { ready := [elem] }

/-- Whether a command is carried out and what it leaves passes a check. -/
def after (c : Instr) (s : State) (p : State → Bool) : Bool :=
  match exec c s with
  | .next t => p t
  | _ => false

/-! ## Ill-formed commands -/

def goodPort : PortReading :=
  { rxPower := List.replicate 9 0, rxSum := List.replicate 9 0, margin := List.replicate 9 0, align := 0, found := [], noPeak := [] }
def goodReadings : Readings :=
  { alive0 := true, alive1 := true, overrun0 := false, overrun1 := false, watts := 0, aboveEnvelope := false, vin := 5400,
    vbank := 5000, dieTemp := [40, 40, 40, 40], stackTemp := List.replicate 16 40, flProgrammed := 0,
    ports := List.replicate 14 goodPort }
def goodReq : MemReq :=
  { die := 0, requester := 0, addr := 0, len := 4, data := none, sev := 0, bank := 0, row := 0, parity := 0, poison := false }
def frameOf (op : Nat) : Frame := ⟨mkWord [(63, 60, op)], 0, 0, 0, [], 0⟩

theorem wf_readings : (Instr.epochMark goodReadings).wf = true
    ∧ [{ goodReadings with dieTemp := [] }, { goodReadings with stackTemp := [] }, { goodReadings with ports := [] },
        { goodReadings with ports := List.replicate 14 { goodPort with rxPower := [] } },
        { goodReadings with ports := List.replicate 14 { goodPort with rxSum := [] } },
        { goodReadings with ports := List.replicate 14 { goodPort with margin := [] } },
        { goodReadings with ports := List.replicate 14 { goodPort with found := [(18, 0)] } },
        { goodReadings with ports := List.replicate 14 { goodPort with noPeak := [9] } }].all
      (fun r => !(Instr.epochMark r).wf) = true := by decide

theorem wf_requests : (Instr.mcAccess goodReq).wf = true
    ∧ [{ goodReq with die := 4 }, { goodReq with addr := 2 ^ 48 }, { goodReq with sev := 3 }, { goodReq with data := some [] }].all
      (fun r => !(Instr.mcAccess r).wf && !(Instr.mcAtomicAdd r).wf && !(Instr.farAccess r).wf) = true := by decide +kernel

theorem wf_units : ([.stagedPairArm .pcret 16 0, .stagedPairArm .steer 14 0, .stagedPairArm .rtSend 1 0, .faultRecordWrite 7,
    .coreRun 100, .next 100 0, .next 0 3, .streamComplete 100 0, .accFlagsClear 100 0 0, .issue 100 0, .issue 0 6,
    .elementPoppable 0 16, .elementPoppable 100 0, .reStart 4 0, .reStart 0 (2 ^ 64), .stats 4, .updGroupDone 16, .mcTrainDone 16 ⟨true, false, 0, 0, 0⟩,
    .farLinkDown 2, .farRetrain 2 true, .packetHop 12 0 ⟨0, 0, 0, 0, 0, []⟩, .packetHop 0 2 ⟨0, 0, 0, 0, 0, []⟩, .ageLimit 16 0,
    .linkLost 12, .creditReturn 12 0 0, .creditReturn 0 8 0, .bankCommit 2 0, .flashErase 2, .rcArm 16 0, .roundClose 16 0, .roundClose 0 2,
    .lcwReceive 14 0 0 0 0 0, .lcwReceive 0 9 0 0 0 0, .steer 12, .optSpare 0 8, .optSpare 12 0, .mon 14 0, .colokResendTimeout 2,
    .proxyTimeout 64, .dwAddrWrite 2 0 0, .dwAddrWrite 0 4 0, .registerWrite 1 0, .registerWrite (2 ^ 48) 0, .unitEnable 187,
    .sbWriteTransfer 256 [], .entdaa 128, .rstact 256] : List Instr).all (fun c => !c.wf) = true := by decide +kernel

theorem wf_frames : (Instr.write 0 (frameOf 1)).wf = true
    ∧ [Instr.flow 0 (frameOf 1), .write 0 (frameOf 2), .write 0 (frameOf 9), .read 0 (frameOf 1), .writeStream 0 (frameOf 1),
        .readStream 0 (frameOf 3), .colokSignal 0 (frameOf 1), .caps 0 (frameOf 8), .flow 2 (frameOf 0), .write 2 (frameOf 1),
        .read 2 (frameOf 2), .writeStream 2 (frameOf 3), .readStream 2 (frameOf 4), .colokSignal 2 (frameOf 5),
        .caps 2 (frameOf 9)].all (fun c => !c.wf) = true := by decide +kernel

/-- A command that names no unit changes nothing. -/
theorem ill_formed_changes_nothing : exec (.coreRun 100) W = .next W ∧ exec (.unitEnable 187) W = .next W := ⟨rfl, rfl⟩

/-! ## Operands and states that meet the hypotheses of the statements -/

theorem witness_StepRunsFront : ({ W with pending := [.enec, .disec] } : State).pending = .enec :: [.disec] := rfl
theorem witness_IdleStepIsATick : W.pending = [] := rfl
theorem witness_WellFormedCommandsComplete : (Instr.coreRun 99).wf = true ∧ (Instr.unitEnable 186).wf = true ∧ (Instr.enec).wf = true := by
  decide
theorem witness_UnpoweredModuleRests :
    ¬ (withPwr (fun p => { p with rails := false }) W).powered ∧ ¬ (withPwr (fun p => { p with modrst := true }) W).powered
      ∧ ∃ t, exec .enec (withPwr (fun p => { p with rails := false }) W) = .next t := by
  refine ⟨?_, ?_, _, rfl⟩ <;> unfold State.powered <;> decide
theorem witness_FieldWrites : (F.CAD_STATUS_SYNC.lo ≤ F.CAD_STATUS_SYNC.hi ∧ F.CAD_STATUS_SYNC.hi < 64) ∧ (63 < 64 ∧ 0 ≤ 63) := by decide
theorem witness_MemoryBytes : (4 < 5 ∨ 5 + 2 ≤ 4) ∧ (7 < 5 ∨ 5 + 2 ≤ 7) ∧ 255 < 256 ^ 1 ∧ 0 < 256 ^ 0 := by decide
theorem witness_MemoryOperationsKeepForm : (({} : Mem).store 3 [1, 2]).wf = true ∧ ({ gen := 1 } : Mem).wf = true := by decide
theorem witness_StepKeepsCanonical :
    ascending W.regs = true ∧ W.memsWf = true ∧ ∃ t, step { W with pending := [.restart] } = .next t := ⟨by decide, by decide, _, rfl⟩
theorem witness_StepKeepsGrade : ∃ t, step { W with pending := [.restart] } = .next t := ⟨_, rfl⟩
theorem witness_CommandsRunInOrder : ∃ t, ({ W with pending := [.restart, .enec] } : State).pending = .restart :: [.enec]
    ∧ step { W with pending := [.restart, .enec] } = .next t := ⟨_, rfl, rfl⟩

theorem witness_CadenceSources :
    (W.powered ∧ W.get F.CAD_STATUS_SYNC = 0)
    ∧ (let s := withCad (fun c => { c with loadPending := some 7 }) (withF W [(F.CAD_CTRL_REF_EN, 1)])
       s.powered ∧ s.get F.CAD_STATUS_SYNC = 0 ∧ s.get F.CAD_CTRL_REF_EN = 1 ∧ s.cad.loadPending = some 7)
    ∧ (let s := atT 50001 (withF W [(F.CAD_STATUS_SYNC, 1)])
       s.powered ∧ s.get F.CAD_STATUS_SYNC = 1 ∧ s.now % 50000 ≠ 0 ∧ s.cad.pulsesOff < 2 ∧ s.cad.badPulses = false
         ∧ s.cad.refPresent = true ∧ s.bestBeacon none = none)
    ∧ (let s := withF W [(F.CAD_STATUS_SYNC, 3), (F.CAD_CTRL_REF_EN, 1)]
       s.powered ∧ s.get F.CAD_STATUS_SYNC = 3 ∧ s.get F.CAD_CTRL_REF_EN = 1 ∧ s.cad.refPresent = true
         ∧ (atT 50000 s).cad.refSince + 50000 ≤ ((atT 50000 s).now : Int) ∧ ((atT 49999 s).now : Int) < (atT 49999 s).cad.refSince + 50000
         ∧ (withCad (fun c => { c with refPresent := false }) s).cad.refPresent = false)
    ∧ (let s := withF W [(F.CAD_STATUS_SYNC, 2), (F.CAD_CTRL_REF_EN, 1)]
       s.powered ∧ s.get F.CAD_STATUS_SYNC = 2 ∧ s.cad.beacons = [] ∧ s.cad.refPresent = true ∧ s.get F.CAD_CTRL_REF_EN = 1)
    ∧ (let s := atT 3200000 (withCad (fun c => { c with freeSince := some 0 }) (withF W [(F.CAD_STATUS_SYNC, 3)]))
       s.powered ∧ s.get F.CAD_STATUS_SYNC = 3 ∧ s.cad.freeSince = some 0 ∧ 0 + 3200000 ≤ s.now) := by
  unfold State.powered; decide +kernel

theorem witness_MarksFallOnTheirTicks :
    W.powered ∧ (let s := withCad (fun c => { c with markTaken := some 0 }) W
      s.powered ∧ s.cad.markTaken = some s.now ∧ s.now < 49999 ∧ 49999 < 50000)
    ∧ (let s := withCad (fun c => { c with slotTaken := some 0 }) W; s.powered ∧ s.cad.slotTaken = some s.now) := by
  unfold State.powered; decide +kernel

theorem witness_MarksFallOnTheirTicks_quiet :
    ((∀ n < 100, (W.coreAt n).state ≠ 2) ∧ (∀ p < 14, W.phase p = 0) ∧ W.shaped ∧ 99 < 100 ∧ W.siteEnabled 98 = true)
    ∧ (withMgmt (fun m => { m with inReset := true }) W).mgmt.inReset = true
    ∧ (let r := { goodReadings with alive0 := false, alive1 := false }
       W.mgmt.inReset = false ∧ W.ctrlOut 0 = false ∧ W.ctrlOut 1 = false ∧ r.alive0 = false ∧ r.alive1 = false ∧ r.overrun0 = false
         ∧ r.overrun1 = false)
    ∧ (∀ d ∈ [(2 : Int), -2], let s := withCad (fun c => { c with offset := d }) (withF W [(F.CAD_STATUS_SYNC, 3)])
       s.get F.CAD_STATUS_SYNC ≠ 0 ∧ s.cad.offset = d ∧ (1 < d ∨ d < -1))
    ∧ (let s := withPort 11 5 id W
       s.powered ∧ s.opt.length = 14 ∧ (∀ n < 100, (s.coreAt n).state ≠ 2) ∧ s.cad.offset = 0 ∧ s.phase 11 = 5
         ∧ (∀ q < 14, q ≠ 11 → s.phase q = 0) ∧ (s.optic 11).reports = [] ∧ (s.optic 11).rxNext = none
         ∧ s.get (F.SPK_STEER_STATUS_STATE 11) ≠ 1) := by
  unfold State.powered State.shaped; decide +kernel

theorem witness_StagedPairs : W.powered ∧ 15 < StagedPair.pcret.insts ∧ 0 < 2 ^ 56 ∧ 2 ^ 56 - 1 < 2 ^ 56 ∧ 1 < W.slot + 2 ∧ ¬ 2 < W.slot + 2 := by
  unfold State.powered; decide +kernel

theorem witness_CollectorAndMonitors :
    (let r : FaultRec := ⟨0, false, 0x0101, 0, 0x100, 0⟩
     let s := withMgmt (fun m => { m with fq := m.fq.set 6 [r] }) W
     s.powered ∧ 6 < 7 ∧ s.mgmt.fq.getD 6 [] = r :: [] ∧ r.code / 256 ≠ 9)
    ∧ 1450 < 1451 ∧ 4 ≤ 4
    ∧ (let s := armed A.PWR_THR_ACT W
       s.powered ∧ bits (s.reg A.PWR_THR_ACT) 63 63 = 1 ∧ s.now % 256 = 0 ∧ mapFind s.staged A.PWR_THR_ACT = some 0 ∧ 0 ≤ s.slot)
    ∧ (let s := atT 50000 (withMgmt (fun m => { m with lost := some (0, 0) }) W)
       s.powered ∧ s.now % 50000 = 0 ∧ s.get F.MGMT_STATUS_ROLES = 0 ∧ s.mgmt.lost = some (0, 0) ∧ 0 < s.now) := by
  unfold State.powered; decide +kernel

theorem witness_SidebandTransfers : W.onBus ∧ 5 < 6 := by unfold State.onBus State.powered; decide +kernel
theorem witness_SidebandCommands : W.onBus ∧ W.sb.dynAddr = none := by unfold State.onBus State.powered; decide +kernel

theorem witness_PowerInput :
    (W.pwr.rails = true ∧ 4199 < 4200 ∧ W.led.inFlight = [] ∧ W.led.pending = [])
    ∧ (let s := withLed (fun l => { l with inFlight := [.policy true] }) W; s.pwr.rails = true ∧ s.led.inFlight ≠ [])
    ∧ (let s := withPwr (fun p => { p with rails := false, ctrlRails := false }) W; s.pwr.rails = false ∧ s.pwr.ctrlRails = false ∧ 4400 ≤ 4400)
    ∧ (let s := withPwr (fun p => { p with rails := false }) W; s.pwr.rails = false ∧ s.pwr.ctrlRails = true)
    ∧ (W.powered ∧ 4400 ≤ 5800 ∧ 5800 ≤ 5800 ∧ 4200 ≤ 4200 ∧ 4399 < 4400)
    ∧ (let s := withPwr (fun p => { p with measured := true })
         (withF W [(F.MODULE_STATE_STATE, 1), (F.HU_MEAS_AGE, 64000), (F.HU_MEAS_CAP, 66), (F.HU_STATUS_V_BANK, 5100)])
       s.powered ∧ s.get F.MODULE_STATE_STATE = 1 ∧ s.pwr.mated = true ∧ s.pwr.measured = true ∧ s.get F.HU_MEAS_AGE ≤ 128000
         ∧ 1600000000 ≤ s.get F.HU_MEAS_CAP * (s.get F.HU_STATUS_V_BANK ^ 2 - 1000000)) := by
  unfold State.powered; decide +kernel

theorem witness_ModuleStates :
    (let s := withF W [(F.MODULE_STATE_STATE, 2)]
     s.powered ∧ s.get F.MODULE_STATE_STATE = 2 ∧ s.boot.trialPending = false ∧ s.boot.recovery = false ∧ s.led.recs = []
       ∧ s.verifyBank 0 (bitAt 3 0) ≠ 0 ∧ s.verifyBank 1 (bitAt 3 1) ≠ 0)
    ∧ (let s := (List.range 4).foldl (fun s d => s.set (F.RE_STATUS_SELFTEST_PASS d) 1)
         ((List.range 14).foldl (fun s p => s.setPhase p 7) ((List.range 16).foldl (fun s n => s.set (F.UNIT_STATE_STATE (entMc n)) 2) W))
       s.powered ∧ s.get F.MODULE_STATE_STATE = 3 ∧ s.trained = true ∧ s.get F.MAP_STATUS_GEN = 0
         ∧ (withF s [(F.MAP_STATUS_GEN, 1)]).get F.MAP_STATUS_GEN ≠ 0)
    ∧ (let s := withF (W.setBank 0 1) [(F.MODULE_STATE_STATE, 4), (F.RT_NODE_ID_VALID, 1), (F.CAD_STATUS_ALIGNED, 1),
         (F.RT_BANK_STATUS_SEND_VALID, 1)]
       s.powered ∧ s.get F.MODULE_STATE_STATE = 4 ∧ s.admissible = true ∧ s.pwr.missLog = false ∧ s.pwr.dropLog = false
         ∧ s.get F.BOOT_STATUS_TRIAL = 0)
    ∧ (let s := withF W [(F.MODULE_STATE_STATE, 4)]; s.powered ∧ s.get F.MODULE_STATE_STATE = 4 ∧ s.admissible = false)
    ∧ (3 ≤ W.get F.MODULE_STATE_STATE ∧ (withF W [(F.MODULE_STATE_STATE, 5)]).get F.MODULE_STATE_STATE ≤ 5)
    ∧ (let s := withF W [(F.MODULE_STATE_STATE, 6)]
       s.powered ∧ s.get F.MODULE_STATE_STATE = 6 ∧ s.pwr.retireStep = 0 ∧ s.seqIdle = true ∧ s.get F.SEQ_RETAIN_APPLY_PENDING = 0)
    ∧ (let s := withPwr (fun p => { p with critMarks := 16 }) W; s.powered ∧ 3 ≤ s.get F.MODULE_STATE_STATE ∧ 16 ≤ s.pwr.critMarks) := by
  unfold State.powered; decide +kernel

theorem witness_ResetDomains :
    (let s := withPwr (fun p => { p with modrst := true }) W; s.pwr.rails = true ∧ s.pwr.modrst = true)
    ∧ W.powered ∧ 98 < 100 ∧ W.siteEnabled 98 = true ∧ W.siteEnabled 0 = true ∧ 97 ≠ 98 ∧ 15 < 16 ∧ 13 < 14 ∧ W.mgmt.inReset = false
    ∧ (withMgmt (fun m => { m with inReset := true }) W).mgmt.inReset = true := by
  unfold State.powered; decide +kernel

theorem witness_HoldupAndLedger :
    (let s := withF W [(F.MODULE_STATE_STATE, 1), (F.HU_STATUS_V_BANK, 2000)]
     s.powered ∧ s.get F.MODULE_STATE_STATE = 1 ∧ s.pwr.measured = false ∧ 2000 ≤ s.get F.HU_STATUS_V_BANK)
    ∧ (let s := withPwr (fun p => { p with measureDue := true }) W
       s.powered ∧ s.get F.MODULE_STATE_STATE ≠ 1 ∧ s.now % 50000 = 0 ∧ s.pwr.measureDue = true ∧ s.led.inFlight = [])
    ∧ (0 < 1 ∧ (withPwr (fun p => { p with measuring := true }) W).pwr.measuring = true)
    ∧ (let s := withPwr (fun p => { p with measured := true }) (withLed (fun l => { l with pending := [.policy true] })
         (withF W [(F.HU_MEAS_AGE, 128000), (F.HU_MEAS_CAP, 66), (F.HU_STATUS_V_BANK, 5000)]))
       s.powered ∧ s.mgmt.inReset = false ∧ s.led.pending ≠ [] ∧ s.led.inFlight = [] ∧ s.pwr.measured = true ∧ s.get F.HU_MEAS_AGE ≤ 128000
         ∧ 800000000 ≤ s.get F.HU_MEAS_CAP * (s.get F.HU_STATUS_V_BANK ^ 2 - 1000000))
    ∧ (let s := withLed (fun l => { l with pending := [.policy true] }) W
       s.mgmt.inReset = false ∧ s.led.pending ≠ [] ∧ s.led.inFlight = [] ∧ s.pwr.measured = false)
    ∧ (let r : LedgerRec := ⟨1, [], .policy true⟩
       let s := withLed (fun l => { l with inFlight := [.policy true], half0 := [r] }) W
       s.led.inFlight = [.policy true] ∧ s.led.recs.length < 49152 ∧ s.boot.trialPending = false ∧ s.pwr.retireStep = 0
         ∧ s.led.recs.getLast? = some r)
    ∧ W.led.recs = [] ∧ (withLed (fun l => { l with refusing := true }) W).led.refusing = true := by
  unfold State.powered; decide +kernel

theorem witness_WritingAnImage :
    (W.powered ∧ 0 < 2 ∧ W.boot.recovery = false ∧ W.get F.BOOT_STATUS_BANK = 0)
    ∧ (W.get F.BOOT_STATUS_BANK = 1 - 1 ∧ W.boot.flashOp = none ∧ W.get F.FL_STATUS_VERIFIED = 0)
    ∧ (withF W [(F.FL_STATUS_VERIFIED, 1)]).get F.FL_STATUS_VERIFIED = 1
    ∧ (let s := withF W [(F.FL_STATUS_FREE, 8), (F.FL_ADDR_OFFSET, 96 * 2 ^ 20 - 8)]
       s.get F.FL_STATUS_FREE ≠ 0 ∧ s.get F.FL_ADDR_OFFSET % 8 = 0 ∧ s.get F.FL_ADDR_OFFSET < 96 * 2 ^ 20)
    ∧ (withBoot (fun b => { b with flashOp := some (1, 1) }) W).boot.flashOp = some (1, 1)
    ∧ (withBoot (fun b => { b with flashOp := some (2, 1) }) W).boot.flashOp = some (2, 1) := by
  unfold State.powered; decide +kernel

theorem witness_Identity :
    (W.powered ∧ W.get F.ID_STATUS_BUSY = 0) ∧ (withF W [(F.ID_STATUS_BUSY, 1)]).get F.ID_STATUS_BUSY = 1
    ∧ (withBoot (fun b => { b with idOp := some 1 }) W).boot.idOp = some 1
    ∧ (let s := withF W [(F.ID_PTR_SEL, 3), (F.ID_PTR_WORD, 3755)]; s.get F.ID_PTR_SEL = 3 ∧ s.get F.ID_PTR_WORD < 3756)
    ∧ (let s := withF W [(F.ID_PTR_SEL, 1)]; s.get F.ID_PTR_SEL = 1 ∧ s.boot.report = []) := by
  unfold State.powered; decide +kernel

theorem witness_QuiesceContract :
    W.powered ∧ ([99 - 1, 100, 115, 130, 159, 170].all fun n => decide (n < 187) && !entFixed n && !W.absent n) = true
    ∧ entIsPort 130 = false ∧ 116 ≤ 130 ∧ W.get (F.UNIT_STATE_STATE 130) = 0
    ∧ (withF W [(F.UNIT_STATE_STATE 130, 4)]).get (F.UNIT_STATE_STATE 130) = 4
    ∧ (let s := withF W [(F.UNIT_STATE_STATE 130, 3)]; s.get (F.UNIT_STATE_STATE 130) = 3 ∧ s.get (F.UNIT_STATE_ENABLE_PENDING 130) = 0)
    ∧ (withF W [(F.UNIT_STATE_STATE 130, 1)]).get (F.UNIT_STATE_STATE 130) = 1
    ∧ (withF W [(F.UNIT_STATE_STATE 130, 2)]).get (F.UNIT_STATE_STATE 130) = 2 := by
  unfold State.powered; decide +kernel

theorem witness_CoreStates :
    (W.powered ∧ W.shaped ∧ 0 < 100 ∧ W.siteEnabled 0 = true ∧ (W.coreAt 0).state = 0 ∧ W.get (F.CORE_CTRL_MODE 0) = 0 ∧ 1 ≠ 0)
    ∧ (withF W [(F.CORE_CTRL_MODE 0, 1)]).get (F.CORE_CTRL_MODE 0) = 1
    ∧ ([1, 2, 3, 4].all fun k => ((withCore 0 (fun c => { c with state := k }) W).coreAt 0).state == k) = true
    ∧ ((withCore 0 (fun c => { c with stopping := some 0 }) W).coreAt 0).stopping = some 0
    ∧ ((withCore 0 (fun c => { c with stopping := some 4 }) W).coreAt 0).stopping = some 4
    ∧ (let s := withCore 0 (fun c => { c with stopping := some 3 }) W; (s.coreAt 0).stopping = some 3 ∧ (s.coreAt 0).pend = [])
    ∧ (let f : Flight := ⟨0, { tag := 0, bytes := [] }⟩
       let s := withCore 0 (fun c => { c with queues := c.queues.set 15 { flight := [f] } }) W
       15 < 16 ∧ (s.coreAt 0).queues.length = 16 ∧ ((s.coreAt 0).queues.getD 15 {}).flight = [f] ∧ (s.coreAt 0).pend = []
         ∧ (s.coreAt 0).cyc = f.due) := by
  unfold State.powered State.shaped; decide +kernel

/-- Core 0 is about to issue a word and no check of R100 fails. -/
def mayIssue (s : State) (w : Nat) : Bool :=
  decide (s.pwr.rails = true ∧ s.pwr.modrst = false)
    && decide (s.cores.length = 100 ∧ s.mc.length = 16 ∧ s.ctx.length = 16 ∧ s.upd.length = 16 ∧ s.re.length = 4 ∧ s.opt.length = 14
      ∧ s.colok.length = 2 ∧ s.far.length = 2 ∧ s.mgmt.fq.length = 7 ∧ s.mgmt.evq.length = 4)
    && decide (s.siteEnabled 0 = true ∧ (s.coreAt 0).state = 1 ∧ (s.coreAt 0).stopping = none ∧ s.fetchWord 0 (s.coreAt 0).pc = w)
    && decide ((s.atIssue 0).boundChecks 0 ((s.atIssue 0).coreAt 0) w = []
      ∧ (s.atIssue 0).popChecks 0 ((s.atIssue 0).coreAt 0) ((s.atIssue 0).pops 0 ((s.atIssue 0).coreAt 0) w) = []
      ∧ (s.atIssue 0).pushChecks 0 ((s.atIssue 0).coreAt 0) ((s.atIssue 0).pops 0 ((s.atIssue 0).coreAt 0) w)
        ((s.atIssue 0).pushes 0 ((s.atIssue 0).coreAt 0) w (vop (s.atIssue 0).fuse.s0 w) ((s.atIssue 0).convPushes 0 ((s.atIssue 0).coreAt 0) w)) = [])

theorem issues_of_mayIssue {s : State} {w : Nat} (h : mayIssue s w = true) : s.issuesWord 0 w ∧ s.passes 0 w := by
  simp only [mayIssue, Bool.and_eq_true, decide_eq_true_eq] at h
  exact ⟨⟨h.1.1.1, h.1.1.2, by decide, h.1.2⟩, h.2⟩

/-- A part of a word orders nothing. -/
def idle (w : Nat) : Part → Bool
  | .seq => cwSeqOp w == 0
  | .loop => cwLop w == 0
  | .ag => (List.range 6).all fun a => cwAg w a == 0
  | .tensor => decide (cwTmode w = 0 ∧ cwSwap w = false)
  | .vector => cwVop w == 0
  | .conv => (cwConv w).cto == 0
  | .draw => !cwRdraw w
  | .ends => ((List.range 4).all fun i => !endOn (cwPop w i)) && (List.range 2).all fun i => !endOn (cwPush w i)

/-- Core 0, in STATE st, stands at a word that orders nothing but the parts listed. -/
def standing (st w : Nat) (l : List Part) (s : State) : Bool :=
  decide (s.pwr.rails = true ∧ s.pwr.modrst = false)
    && decide (s.cores.length = 100 ∧ s.mc.length = 16 ∧ s.ctx.length = 16 ∧ s.upd.length = 16 ∧ s.re.length = 4 ∧ s.opt.length = 14
      ∧ s.colok.length = 2 ∧ s.far.length = 2 ∧ s.mgmt.fq.length = 7 ∧ s.mgmt.evq.length = 4)
    && decide (s.siteEnabled 0 = true ∧ (s.coreAt 0).state = st ∧ (s.coreAt 0).stopping = none ∧ s.fetchWord 0 (s.coreAt 0).pc = w
      ∧ (s.coreAt 0).pend = [] ∧ (∀ q ∈ (s.coreAt 0).queues, q.flight = []) ∧ (s.coreAt 0).queues.length = 16 ∧ (s.coreAt 0).rep = 0
      ∧ cwRepeat w = 0 ∧ (s.coreAt 0).pc < 8191)
    && [Part.seq, .loop, .ag, .tensor, .vector, .conv, .draw, .ends].all fun p => l.contains p || idle w p

theorem idle_iff (w : Nat) (p : Part) (h : idle w p = true) : partIdle w p := by
  cases p <;> simpa [idle, partIdle] using h

theorem stands_of {st w : Nat} {l : List Part} {s : State} (h : standing st w l s = true) : s.standsAt 0 st w ∧ onlyParts l w := by
  simp only [standing, Bool.and_eq_true, decide_eq_true_eq] at h
  refine ⟨⟨h.1.1.1, h.1.1.2, by decide, h.1.2⟩, fun p hp => idle_iff w p ?_⟩
  have := List.all_eq_true.mp h.2 p (by cases p <;> decide)
  simpa [hp] using this

/-- The word of a loop operation on level 5. -/
def wLoop (op : Nat) : Nat := cword [(255, 252, op), (251, 240, 5)]
/-- A WAIT on CNT0 for the value 1. -/
def wWait : Nat := cword [(255, 252, 3), (15, 0, 1)]

theorem witness_SequenceOperations :
    (((issuing 0).issuesWord 0 0 ∧ (issuing 0).passes 0 0)
      ∧ ((issuing 0).coreAt 0).rep = cwRepeat 0 ∧ ((issuing 0).coreAt 0).pc < 8191 ∧ seqOp 0 = 0)
    ∧ (((issuing (wLoop 1)).issuesWord 0 (wLoop 1) ∧ (issuing (wLoop 1)).passes 0 (wLoop 1))
      ∧ cwRepeat (wLoop 1) = 0 ∧ seqOp (wLoop 1) = 1 ∧ cwLop (wLoop 1) = 0 ∧ ((issuing (wLoop 1)).coreAt 0).body.length = 6
      ∧ ((issuing (wLoop 1)).coreAt 0).cnt.length = 6)
    ∧ (let s := issuing (wLoop 2) fun c => { c with body := c.body.set 5 (some 3) }
      (s.issuesWord 0 (wLoop 2) ∧ s.passes 0 (wLoop 2)) ∧ cwRepeat (wLoop 2) = 0 ∧ seqOp (wLoop 2) = 2 ∧ cwLop (wLoop 2) = 0
        ∧ (s.coreAt 0).body.getD (cwSeqArg (wLoop 2) % 8) none = some 3)
    ∧ (((issuing (wLoop 5)).issuesWord 0 (wLoop 5) ∧ (issuing (wLoop 5)).passes 0 (wLoop 5)) ∧ cwRepeat (wLoop 5) = 0 ∧ seqOp (wLoop 5) = 5)
    ∧ (((issuing wWait).issuesWord 0 wWait ∧ (issuing wWait).passes 0 wWait) ∧ cwRepeat wWait = 0 ∧ seqOp wWait = 3
      ∧ ((issuing wWait).coreAt 0).rep = 0
      ∧ ((issuing wWait).atIssue 0).seenValue 0 (cwSeqArg wWait % 32) < (((issuing wWait).atIssue 0).waitTarget 0 wWait : Int)) := by
  refine ⟨⟨issues_of_mayIssue ?_, ?_⟩, ⟨issues_of_mayIssue ?_, ?_⟩, ⟨issues_of_mayIssue ?_, ?_⟩, ⟨issues_of_mayIssue ?_, ?_⟩,
    ⟨issues_of_mayIssue ?_, ?_⟩⟩ <;> decide +kernel

/-- Level 5 open at PC 3 with k trips left. -/
def opened (k : Nat) (c : Core) : Core := { c with body := c.body.set 5 (some 3), cnt := c.cnt.set 5 k }

theorem witness_SequenceOperations_plain :
    ((issuing 0).standsAt 0 1 0 ∧ onlyParts [] 0)
    ∧ (((issuing (wLoop 1)).standsAt 0 1 (wLoop 1) ∧ onlyParts [.seq] (wLoop 1)) ∧ cwSeqOp (wLoop 1) = 1 ∧ cwSeqArg (wLoop 1) % 8 = 5)
    ∧ (∀ k ∈ [2, 1], let s := issuing (wLoop 2) (opened k)
      (s.standsAt 0 1 (wLoop 2) ∧ onlyParts [.seq] (wLoop 2)) ∧ cwSeqOp (wLoop 2) = 2 ∧ (s.coreAt 0).body.getD (cwSeqArg (wLoop 2) % 8) none = some 3
        ∧ (s.coreAt 0).cnt.getD (cwSeqArg (wLoop 2) % 8) 0 = k)
    ∧ (((issuing (wLoop 5)).standsAt 0 1 (wLoop 5) ∧ onlyParts [.seq] (wLoop 5)) ∧ cwSeqOp (wLoop 5) = 5
      ∧ ∀ q ∈ ((issuing (wLoop 5)).coreAt 0).queues, q.ready = [])
    ∧ (((issuing wWait).standsAt 0 1 wWait ∧ onlyParts [.seq] wWait) ∧ cwSeqOp wWait = 3 ∧ cwSeqArg wWait / 1024 = 0
      ∧ ((issuing wWait).coreAt 0).lateSig = none ∧ (issuing wWait).get (F.CNT_VALUE 0 0) < cwImm wWait ∧ (issuing wWait).throttle = 0
      ∧ cwImm wWait ≤ (issuing wWait id (withF W [(F.CNT_VALUE 0 0, 1)])).get (F.CNT_VALUE 0 0)) := by
  refine ⟨stands_of (by decide +kernel), ⟨stands_of (by decide +kernel), by decide +kernel⟩, fun k hk => ⟨stands_of ?_, ?_⟩,
    ⟨stands_of (by decide +kernel), by decide +kernel⟩, stands_of (by decide +kernel), by decide +kernel⟩ <;> revert k <;> decide +kernel

theorem witness_WaitsAndWordErrors :
    (let w := cword [(255, 252, 3)]
     let s := issuing w
     (s.issuesWord 0 w ∧ s.passes 0 w) ∧ seqOp w = 3 ∧ (s.coreAt 0).rep = 0 ∧ (s.coreAt 0).stopping = none ∧ (s.coreAt 0).state = 1
       ∧ ((s.atIssue 0).waitTarget 0 w : Int) ≤ (s.atIssue 0).seenValue 0 (cwSeqArg w % 32))
    ∧ (let s := withCore 0 (fun c => { c with state := 2 }) W
       s.powered ∧ s.shaped ∧ s.siteEnabled 0 = true ∧ (s.coreAt 0).stopping = none ∧ (s.coreAt 0).state = 2
         ∧ (s.coreAt 0).waitTgt ≤ (s.waitNow 0).get (F.CNT_VALUE 0 (s.coreAt 0).waitCtr))
    ∧ (let s := atT 2 (withCore 0 (fun c => { c with state := 2, waitTgt := 1 }) (withF W [(F.CORE_WAIT_LIMIT_LIMIT 0, 1)]))
       s.powered ∧ s.shaped ∧ (s.coreAt 0).state = 2 ∧ s.get (F.CORE_WAIT_LIMIT_LIMIT 0) ≠ 0
         ∧ (s.coreAt 0).waitTick + s.get (F.CORE_WAIT_LIMIT_LIMIT 0) + 1 ≤ s.now
         ∧ (s.waitNow 0).get (F.CNT_VALUE 0 (s.coreAt 0).waitCtr) < (s.coreAt 0).waitTgt) := by
  refine ⟨⟨issues_of_mayIssue ?_, ?_⟩, ?_, ?_⟩ <;> try unfold State.powered State.shaped
  all_goals decide +kernel

theorem witness_WaitsAndWordErrors_plain :
    (let w := cword [(255, 252, 3)]
     let s := withCore 0 (fun c => { c with state := 2 }) (issuing w)
     (s.standsAt 0 2 w ∧ onlyParts [.seq] w) ∧ s.cad.markTaken = none ∧ cwSeqOp w = 3 ∧ cwSeqArg w / 1024 = 0 ∧ s.throttle = 0
       ∧ (s.coreAt 0).waitTgt ≤ s.get (F.CNT_VALUE 0 (s.coreAt 0).waitCtr))
    ∧ (let s := atT 2 (withCore 0 (fun c => { c with state := 2, waitTgt := 1 }) (issuing wWait id (withF W [(F.CORE_WAIT_LIMIT_LIMIT 0, 1)])))
       (s.standsAt 0 2 wWait ∧ onlyParts [.seq] wWait) ∧ s.cad.markTaken = none
         ∧ s.get (F.CNT_VALUE 0 (s.coreAt 0).waitCtr) < (s.coreAt 0).waitTgt ∧ s.get (F.CORE_WAIT_LIMIT_LIMIT 0) ≠ 0
         ∧ (s.coreAt 0).waitTick + s.get (F.CORE_WAIT_LIMIT_LIMIT 0) + 1 ≤ s.now ∧ s.get (F.CORE_FAULT_COUNT 0) = 0) := by
  refine ⟨⟨stands_of ?_, ?_⟩, stands_of ?_, ?_⟩ <;> decide +kernel

/-- The word of a LOOP operation on level 5. -/
def wLop (k : Nat) : Nat := cword [(239, 237, 5), (236, 235, k), (234, 219, 9)]

theorem witness_LoopOperations : ∀ k ∈ [1, 2, 3], ((issuing (wLop k)).issuesWord 0 (wLop k) ∧ (issuing (wLop k)).passes 0 (wLop k))
    ∧ (issuing (wLop k)).noWait 0 (wLop k) ∧ ((issuing (wLop k)).coreAt 0).rep = 0 ∧ cwLsel (wLop k) < 6
      ∧ ((issuing (wLop k)).coreAt 0).trip.length = 6 ∧ ((issuing (wLop k)).coreAt 0).cnt.length = 6 ∧ cwLop (wLop k) = k
      ∧ seqOp (wLop k) = 0 := by
  have h : ∀ k ∈ [1, 2, 3], mayIssue (issuing (wLop k)) (wLop k) = true := by decide +kernel
  refine fun k hk => ⟨issues_of_mayIssue (h k hk), ?_⟩
  revert k; unfold State.noWait; decide +kernel

theorem witness_LoopOperations_plain :
    ∀ k ∈ [1, 2, 3], ((issuing (wLop k)).standsAt 0 1 (wLop k) ∧ onlyParts [.loop] (wLop k)) ∧ cwLsel (wLop k) < 6 ∧ cwLop (wLop k) = k := by
  have h : ∀ k ∈ [1, 2, 3], standing 1 (wLop k) [.loop] (issuing (wLop k)) = true := by decide +kernel
  refine fun k hk => ⟨stands_of (h k hk), ?_⟩
  revert k; decide +kernel

/-- The word of a command to address generator a. -/
def wAg (a b : Nat) : Nat := b * 2 ^ (160 + 8 * a)
/-- A state in which generator 0 may access its queue. -/
def wAgState (a b : Nat) : State :=
  issuing (wAg a b) id (withF W [(F.AG_BASE_HI 0 0 0, 65535), (F.QCFG_DEPTH 0 0, 8)])

theorem witness_AddressGenerators :
    (∀ b ∈ [64, 69, 128, 192, 200, 205, 208, 209, 216], ((wAgState 0 b).issuesWord 0 (wAg 0 b) ∧ (wAgState 0 b).passes 0 (wAg 0 b))
      ∧ (wAgState 0 b).noWait 0 (wAg 0 b) ∧ ((wAgState 0 b).coreAt 0).agIdx.length = 6 ∧ ((wAgState 0 b).coreAt 0).agSet.length = 6)
    ∧ agCmd (cwAg (wAg 0 64) 0) = .issueStep 0 ∧ agCmd 69 = .issueStep 5 ∧ agCmd 128 = .issue ∧ agCmd 192 = .reset ∧ agCmd 200 = .step 0
    ∧ agCmd 205 = .step 5 ∧ agCmd 208 = .select 0 ∧ agCmd 209 = .select 1 ∧ agCmd (cwAg (wAg 5 216) 5) = .flush := by
  have h : ∀ b ∈ [64, 69, 128, 192, 200, 205, 208, 209, 216], mayIssue (wAgState 0 b) (wAg 0 b) = true := by decide +kernel
  refine ⟨fun b hb => ⟨issues_of_mayIssue (h b hb), ?_⟩, by decide +kernel⟩
  revert b; unfold State.noWait; decide +kernel

/-- Generator 0 transposes in 8-bit squares and holds one row. -/
def wAgFlush : State :=
  issuing (wAg 0 216) (fun c => { c with tbuf := c.tbuf.set 0 { fill := [List.replicate 128 7] } })
    (withF W [(F.AG_MODE_TRANSPOSE 0 0 0, 1), (F.QCFG_DEPTH 0 0, 8)])
/-- Generator 4 may store the head of its queue. -/
def wAgStore (b : Nat) : State :=
  issuing (wAg 4 b) (fun c => { c with queues := oneElem :: c.queues.drop 1 }) (withF W [(F.AG_BASE_HI 0 4 0, 65535)])

theorem witness_AddressGenerators_plain :
    (∀ b ∈ [64, 69, 128, 192, 200, 205, 208, 209, 216], ((wAgState 0 b).standsAt 0 1 (wAg 0 b) ∧ onlyParts [.ag] (wAg 0 b))
      ∧ (∀ k < 6, k ≠ 0 → cwAg (wAg 0 b) k = 0) ∧ let s := wAgState 0 b
        let c := s.coreAt 0
        s.agTranspose 0 c 0 = false ∧ s.agOut 0 c 0 = none ∧ c.srun = []
          ∧ (c.queues.getD (s.agQueue 0 c 0) {}).ready.length < s.get (F.QCFG_DEPTH 0 (s.agQueue 0 c 0)))
    ∧ ((wAgFlush.standsAt 0 1 (wAg 0 216) ∧ onlyParts [.ag] (wAg 0 216)) ∧ let c := wAgFlush.coreAt 0
      wAgFlush.agTranspose 0 c 0 = true ∧ (c.tbuf.getD 0 {}).full = [] ∧ (c.tbuf.getD 0 {}).fill ≠ []
        ∧ (c.queues.getD (wAgFlush.agQueue 0 c 0) {}).ready.length < wAgFlush.get (F.QCFG_DEPTH 0 (wAgFlush.agQueue 0 c 0)))
    ∧ (∀ b ∈ [128, 69], ((wAgStore b).standsAt 0 1 (wAg 4 b) ∧ onlyParts [.ag] (wAg 4 b)) ∧ (∀ k < 6, k ≠ 4 → cwAg (wAg 4 b) k = 0)
      ∧ (wAgStore b).agOut 0 ((wAgStore b).coreAt 0) 4 = none
      ∧ ((wAgStore b).coreAt 0).offers ((wAgStore b).agQueue 0 ((wAgStore b).coreAt 0) 4) (List.replicate 128 0)) := by
  have h : ∀ b ∈ [64, 69, 128, 192, 200, 205, 208, 209, 216], standing 1 (wAg 0 b) [.ag] (wAgState 0 b) = true := by decide +kernel
  have g : ∀ b ∈ [128, 69], standing 1 (wAg 4 b) [.ag] (wAgStore b) = true := by decide +kernel
  refine ⟨fun b hb => ⟨stands_of (h b hb), ?_⟩, ⟨stands_of (by decide +kernel), by decide +kernel⟩,
    fun b hb => ⟨stands_of (g b hb), ?_, ?_, ⟨elem, [], ?_, ?_, rfl⟩⟩⟩
  all_goals revert b; decide +kernel

theorem witness_AdvanceCounts :
    [2, 0, 0, 0, 0, 1].length = 6 ∧ 0 < 6 ∧ 5 < 6 ∧ (∀ k < 6, [2, 0, 0, 0, 0, 1].getD k 0 < 3) ∧ [2, 0, 0, 0, 0, 1].getD 0 0 + 1 = 3
      ∧ [2, 0, 0, 0, 0, 1].getD (0 + 1) 0 + 1 < 3 ∧ [2, 0, 0, 0, 0, 1].getD 5 0 + 1 < 3 := by decide

/-- The word of a tensor mode, pops on source 0 and 1. -/
def wTensor (m : Nat) : Nat := cword [(111, 108, m), (107, 104, 2), (103, 100, 2), (87, 86, 0), (85, 84, 1), (159, 152, 8), (151, 144, 24)]
def wSwap : Nat := cword [(80, 80, 1)]
def twoElems (c : Core) : Core := { c with queues := oneElem :: oneElem :: List.replicate 14 {} }

theorem witness_TensorOperations :
    (∀ m ∈ [1, 2, 3, 4, 5], ((issuing (wTensor m) twoElems).issuesWord 0 (wTensor m) ∧ (issuing (wTensor m) twoElems).passes 0 (wTensor m))
      ∧ (issuing (wTensor m) twoElems).noWait 0 (wTensor m) ∧ tmode false (wTensor m) = m)
    ∧ (((issuing wSwap).issuesWord 0 wSwap ∧ (issuing wSwap).passes 0 wSwap) ∧ (issuing wSwap).noWait 0 wSwap ∧ cwSwap wSwap = true
      ∧ tensorReserved (issuing wSwap).fuse.s0 wSwap = false)
    ∧ W.shaped ∧ mapFind [(0, [(1 : Byte)])] (cwSrcB 0) = some [1] ∧ mapFind [(0, [(1 : Byte)])] (cwSrcA 0) = some [1] ∧ (W.coreAt 0).held = none := by
  have h : ∀ m ∈ [1, 2, 3, 4, 5], mayIssue (issuing (wTensor m) twoElems) (wTensor m) = true := by decide +kernel
  refine ⟨fun m hm => ⟨issues_of_mayIssue (h m hm), ?_⟩, ⟨issues_of_mayIssue (by decide +kernel), ?_⟩, ?_⟩
  · revert m; unfold State.noWait; decide +kernel
  · unfold State.noWait; decide +kernel
  · unfold State.shaped; decide +kernel

/-- The word of a tensor mode with the pops that the mode takes: source 0 at A, source 1 at B. -/
def wTensorPlain (m : Nat) : Nat :=
  cword [(111, 108, m), (107, 104, 2), (103, 100, 2), (87, 86, 0), (85, 84, 1), (159, 152, if m = 1 then 0 else 8), (151, 144, if m = 2 ∨ m = 4 then 0 else 24)]

theorem witness_TensorOperations_plain :
    (∀ m ∈ [1, 2, 3, 4, 5], let w := wTensorPlain m
      let s := issuing w twoElems
      (s.standsAt 0 1 w ∧ onlyParts [.tensor, .ends] w) ∧ tmode s.fuse.s0 w = m ∧ cwSwap w = false ∧ cwSrcA w ≠ cwSrcB w
        ∧ endQueue (cwPop w (cwSrcA w)) ≠ (if m = 3 ∨ m = 5 then endQueue (cwPop w (cwSrcB w)) else 15) ∧ (s.coreAt 0).held = none
        ∧ endsAre w (if m = 1 then [cwSrcB w] else if m = 2 ∨ m = 4 then [cwSrcA w] else [cwSrcA w, cwSrcB w]) [])
    ∧ ((twoElems {}).offers 0 elem.bytes ∧ (twoElems {}).offers 1 elem.bytes)
    ∧ ((issuing wSwap).standsAt 0 1 wSwap ∧ onlyParts [.tensor, .ends] wSwap) ∧ cwTmode wSwap = 0 ∧ cwSwap wSwap = true ∧ endsAre wSwap [] [] := by
  have h : ∀ m ∈ [1, 2, 3, 4, 5], standing 1 (wTensorPlain m) [.tensor, .ends] (issuing (wTensorPlain m) twoElems) = true := by decide +kernel
  refine ⟨fun m hm => ⟨stands_of (h m hm), ?_⟩, ⟨⟨elem, [], rfl, rfl, rfl⟩, ⟨elem, [], rfl, rfl, rfl⟩⟩, stands_of (by decide +kernel), ?_⟩
  · revert m; unfold endsAre; decide +kernel
  · unfold endsAre; decide +kernel

/-- The word of a vector operation from one vector register to another. -/
def wVec (v f : Nat) : Nat := cword [(79, 74, v), (57, 56, f), (73, 71, 5), (70, 68, 5), (59, 58, 2)]

theorem witness_VectorArithmetic :
    (∀ v ∈ [1, 2, 3, 4, 5, 6, 7, 8, 9, 17, 18], ((issuing (wVec v 0)).issuesWord 0 (wVec v 0) ∧ (issuing (wVec v 0)).passes 0 (wVec v 0))
      ∧ (issuing (wVec v 0)).noWait 0 (wVec v 0) ∧ (issuing (wVec v 0)).fuse.s0 = false ∧ vop false (wVec v 0) = v ∧ cwVop (wVec v 0) = v
      ∧ cwVfmt (wVec v 0) = 0)
    ∧ 127 < 128 ∧ 0x3F800000 < 2 ^ 32 ∧ f32 0x3F800000 ≠ .nan ∧ f32 0xBF800000 ≠ .nan ∧ (f32 0xBF800000).lt (f32 0x3F800000) = true := by
  have h : ∀ v ∈ [1, 2, 3, 4, 5, 6, 7, 8, 9, 17, 18], mayIssue (issuing (wVec v 0)) (wVec v 0) = true := by decide +kernel
  refine ⟨fun v hv => ⟨issues_of_mayIssue (h v hv), ?_⟩, by decide +kernel⟩
  revert v; unfold State.noWait; decide +kernel

/-- The word of a vector operation in format f from SRCA a and VREG 0 to VREG 0. -/
def wVecRow (v f a : Nat) : Nat := cword [(79, 74, v), (57, 56, f), (73, 71, a), (70, 68, 5), (59, 58, 2)]

theorem vectorWord_of {v f a : Nat} (h : standing 1 (wVecRow v f a) [.vector] (issuing (wVecRow v f a)) = true)
    (g : W.fuse.s0 = false ∧ ((issuing (wVecRow v f a)).coreAt 0).srun = [] ∧ cwVop (wVecRow v f a) = v ∧ cwVfmt (wVecRow v f a) = f
      ∧ cwVsrcA (wVecRow v f a) = a ∧ cwVsrcB (wVecRow v f a) = 5 ∧ cwVdst (wVecRow v f a) = 2 ∧ cwVrowctl (wVecRow v f a) ≠ 3) :
    (issuing (wVecRow v f a)).vectorWord 0 (wVecRow v f a) v f a := ⟨(stands_of h).1, (stands_of h).2, g⟩

theorem witness_VectorArithmetic_plain :
    ∀ v ∈ [1, 2, 3, 4, 5, 6, 7, 8, 9, 17, 18], (issuing (wVecRow v 0 4)).vectorWord 0 (wVecRow v 0 4) v 0 4 := by
  have h : ∀ v ∈ [1, 2, 3, 4, 5, 6, 7, 8, 9, 17, 18], standing 1 (wVecRow v 0 4) [.vector] (issuing (wVecRow v 0 4)) = true := by
    decide +kernel
  refine fun v hv => vectorWord_of (h v hv) ?_
  revert v; decide +kernel

/-- The word of a vector operation at the format it has: pairs at VFMT 2. -/
def wVecOp (v : Nat) : Nat := wVec v (if 21 ≤ v then 2 else 0)

theorem witness_VectorReductions :
    (∀ v ∈ [10, 11, 12, 13, 14, 15, 16, 19, 20, 21, 22, 23], ((issuing (wVecOp v)).issuesWord 0 (wVecOp v) ∧ (issuing (wVecOp v)).passes 0 (wVecOp v))
      ∧ (issuing (wVecOp v)).noWait 0 (wVecOp v) ∧ (issuing (wVecOp v)).fuse.s0 = false ∧ vop false (wVecOp v) = v)
    ∧ (List.replicate 128 0).length = 128 ∧ 127 < 128 ∧ 0 = 0 ∧ [0x3F800000] ≠ [] ∧ ∀ c ∈ [0x3F800000], f32 c ≠ .nan := by
  have h : ∀ v ∈ [10, 11, 12, 13, 14, 15, 16, 19, 20, 21, 22, 23], mayIssue (issuing (wVecOp v)) (wVecOp v) = true := by decide +kernel
  refine ⟨fun v hv => ⟨issues_of_mayIssue (h v hv), ?_⟩, by decide +kernel⟩
  revert v; unfold State.noWait; decide +kernel

/-- PAIR_SPLIT of an accumulator row into queues 0 and 1. -/
def wSplit : Nat := wVecRow 23 0 4 + cword [(127, 120, 8), (119, 112, 24)]
def splitting : State := issuing wSplit id (withF W [(F.QCFG_DEPTH 0 0, 8), (F.QCFG_DEPTH 0 1, 8)])

theorem witness_VectorReductions_plain :
    (∀ v ∈ [10, 11, 12, 13, 14, 15, 16, 19, 20], (issuing (wVecRow v 0 4)).vectorWord 0 (wVecRow v 0 4) v 0 4
      ∧ bitAt (cwVmod (wVecRow v 0 4)) 0 = false)
    ∧ (∀ v ∈ [21, 22], (issuing (wVecRow v 2 5)).vectorWord 0 (wVecRow v 2 5) v 2 5)
    ∧ (splitting.standsAt 0 1 wSplit ∧ onlyParts [.vector, .ends] wSplit) ∧ endsAre wSplit [] [0, 1] ∧ splitting.fuse.s0 = false
    ∧ (splitting.coreAt 0).srun = [] ∧ cwVop wSplit = 23 ∧ cwVfmt wSplit = 0 ∧ cwVsrcA wSplit = 4 ∧ cwVsrcB wSplit = 5 ∧ cwVrowctl wSplit ≠ 3
    ∧ endQueue (cwPush wSplit 0) = 0 ∧ endQueue (cwPush wSplit 1) = 1 ∧ splitting.roomFor 0 0 ∧ splitting.roomFor 0 1 := by
  have h : ∀ v ∈ [10, 11, 12, 13, 14, 15, 16, 19, 20], standing 1 (wVecRow v 0 4) [.vector] (issuing (wVecRow v 0 4)) = true := by
    decide +kernel
  have g : ∀ v ∈ [21, 22], standing 1 (wVecRow v 2 5) [.vector] (issuing (wVecRow v 2 5)) = true := by decide +kernel
  refine ⟨fun v hv => ⟨vectorWord_of (h v hv) ?_, ?_⟩, fun v hv => vectorWord_of (g v hv) ?_, stands_of (by decide +kernel), ?_⟩
  · revert v; decide +kernel
  · revert v; decide +kernel
  · revert v; decide +kernel
  · unfold endsAre State.roomFor; decide +kernel

/-- A conversion from CFROM 2 to a format. -/
def wConv (cto : Nat) : Nat := cword [(47, 44, 2), (43, 40, cto)]
def wRmax : Nat := cword [(47, 44, 2), (43, 40, 3), (31, 31, 1)]
def wRdraw : Nat := cword [(23, 23, 1)]

theorem witness_Conversions :
    (∀ w ∈ [wConv 3, wConv 14, wConv 15, wRmax, wRdraw], ((issuing w).issuesWord 0 w ∧ (issuing w).passes 0 w) ∧ (issuing w).noWait 0 w)
    ∧ (∀ w ∈ [wConv 3, wConv 14, wConv 15, wRmax], convOn false w = true) ∧ (cwConv (wConv 3)).cto < 14 ∧ (cwConv (wConv 14)).cto = 14
    ∧ (cwConv (wConv 15)).cto = 15 ∧ (cwConv wRmax).rmax = true ∧ cwRdraw wRdraw = true
    ∧ (cwConv (wConv 11)).cto < 12 ∧ (cwConv (wConv 11)).cfrom ≠ 12 ∧ ¬ ((cwConv (wConv 11)).cfrom = 2 ∧ (cwConv (wConv 11)).cto = 1)
    ∧ (cwConv (wConv 12)).cto = 12 ∧ 2 ^ 64 - 1 < 2 ^ 64 := by
  have h : ∀ w ∈ [wConv 3, wConv 14, wConv 15, wRmax, wRdraw], mayIssue (issuing w) w = true := by decide +kernel
  refine ⟨fun w hw => ⟨issues_of_mayIssue (h w hw), ?_⟩, by decide +kernel⟩
  revert w; unfold State.noWait; decide +kernel

/-- A conversion of an FP32 accumulator row to E4M3, or by the table whose output format is E4M3, into queue 0. -/
def wConvRow (cto rmax : Nat) : Nat := cword [(47, 44, 10), (43, 40, cto), (30, 28, 4), (31, 31, rmax), (127, 120, 8)]
def converting (cto rmax : Nat) : State :=
  issuing (wConvRow cto rmax) id (withF W [(F.QCFG_DEPTH 0 0, 8), (F.TABLE_CFG_F_OFMT 0, 3), (F.TABLE_CFG_D_OFMT 0, 3)])

theorem witness_Conversions_plain :
    (∀ p ∈ [(3, 0), (14, 0), (15, 0), (3, 1)], let w := wConvRow p.1 p.2
      let s := converting p.1 p.2
      (s.standsAt 0 1 w ∧ onlyParts [.conv, .ends] w) ∧ endsAre w [] [(cwConv w).cdst] ∧ convOn s.fuse.s0 w = true ∧ (cwConv w).csrc = 4
        ∧ (cwConv w).cfrom = 10 ∧ (cwConv w).rnd = 0 ∧ cwVrowctl w ≠ 3 ∧ (s.coreAt 0).srun = [] ∧ (s.coreAt 0).holder = none
        ∧ (s.coreAt 0).packers.getD (cwConv w).cdst {} = {} ∧ fmtWidth (s.targetFmt 0 (cwConv w).cto) = 8
        ∧ s.roomFor 0 (endQueue (cwPush w (cwConv w).cdst)) ∧ (cwConv w).cto = p.1 ∧ ((cwConv w).rmax = true ↔ p.2 = 1))
    ∧ ((issuing wRdraw).standsAt 0 1 wRdraw ∧ onlyParts [.draw] wRdraw) := by
  have h : ∀ p ∈ [(3, 0), (14, 0), (15, 0), (3, 1)], standing 1 (wConvRow p.1 p.2) [.conv, .ends] (converting p.1 p.2) = true := by
    decide +kernel
  refine ⟨fun p hp => ⟨stands_of (h p hp), ?_⟩, stands_of (by decide +kernel)⟩
  revert p; unfold endsAre State.roomFor; decide +kernel

theorem witness_ScaleSlots : 0 < 255 ∧ 254 < 255 ∧ 15 < 16
    ∧ (let s := withF W [(F.UNIT_STATE_STATE (entCore 98), 2)]
       s.powered ∧ 98 < 100 ∧ 1 < 2 ∧ 2047 < 2048 ∧ s.boot.recovery = false ∧ s.siteEnabled 98 = true ∧ s.serves (entCore 98) = true
         ∧ (s.coreAt 98).state ≠ 1 ∧ (s.coreAt 98).state ≠ 2 ∧ s.get (F.CONV_STATUS_AUTO_BUSY 98) = 0) := by
  unfold State.powered; decide +kernel

theorem witness_VectorScale :
    (∀ f ∈ [0, 1, 2], ((issuing (wVec 19 f)).issuesWord 0 (wVec 19 f) ∧ (issuing (wVec 19 f)).passes 0 (wVec 19 f))
      ∧ (issuing (wVec 19 f)).noWait 0 (wVec 19 f) ∧ vop (issuing (wVec 19 f)).fuse.s0 (wVec 19 f) = 19 ∧ cwVop (wVec 19 f) = 19
      ∧ cwVfmt (wVec 19 f) = f) ∧ 127 < 128 ∧ 255 < 256 ∧ 63 < 64 := by
  have h : ∀ f ∈ [0, 1, 2], mayIssue (issuing (wVec 19 f)) (wVec 19 f) = true := by decide +kernel
  refine ⟨fun f hf => ⟨issues_of_mayIssue (h f hf), ?_⟩, by decide⟩
  revert f; unfold State.noWait; decide +kernel

theorem witness_ScaleEntries :
    (∀ m < 4, (withF W [(F.SCALE_CFG_MODE 0 5, m)]).get (F.SCALE_CFG_MODE 0 5) = m)
    ∧ (W.powered ∧ W.shaped ∧ W.siteEnabled 0 = true ∧ (W.coreAt 0).state = 0 ∧ W.get (F.CORE_CTRL_MODE 0) = 0 ∧ 1 ≠ 0)
    ∧ (withF W [(F.CORE_CTRL_MODE 0, 1)]).get (F.CORE_CTRL_MODE 0) = 1
    ∧ (withF W [(F.CONV_STATUS_AUTO_BUSY 0, 1)]).get (F.CONV_STATUS_AUTO_BUSY 0) = 1 := by
  unfold State.powered State.shaped; decide +kernel

def wSignal : Nat := cword [(255, 252, 4)]
def signalState (kind : Nat) : State := issuing wSignal id (withF W [(F.SIG_DESC_KIND 0 0, kind), (F.SIG_DESC_INCREMENT 0 0, 1), (F.CNT_LIMIT 0 0, 5)])

theorem witness_Signals :
    (∀ k ∈ [0, 1, 2], ((signalState k).issuesWord 0 wSignal ∧ (signalState k).passes 0 wSignal) ∧ seqOp wSignal = 4
      ∧ (signalState k).sigKind 0 wSignal = k)
    ∧ (W.shaped ∧ W.get (F.SIG_DESC_KIND 0 0) = 0 ∧ W.get (F.SIG_DESC_COUNTER 0 0) < 24)
    ∧ (31 < 32 ∧ (W.get (F.CNT_VALUE 0 31) : Int) + signed 16 0xFFFF < 0)
    ∧ (let s := withF W [(F.CNT_VALUE 0 31, 5), (F.CNT_LIMIT 0 31, 5)]
       0 < signed 16 1 ∧ (s.get (F.CNT_LIMIT 0 31) : Int) < (s.get (F.CNT_VALUE 0 31) : Int) + signed 16 1
         ∧ 0 ≤ (s.get (F.CNT_VALUE 0 31) : Int) + signed 16 0 ∧ (s.get (F.CNT_VALUE 0 31) : Int) + signed 16 0 ≤ s.get (F.CNT_LIMIT 0 31)) := by
  have h : ∀ k ∈ [0, 1, 2], mayIssue (signalState k) wSignal = true := by decide +kernel
  refine ⟨fun k hk => ⟨issues_of_mayIssue (h k hk), ?_⟩, ?_⟩
  · revert k; decide +kernel
  · unfold State.shaped; decide +kernel

/-- A signal to NodeID 77, which bank 1, the send bank, routes to port 1. -/
def sendingSignal : State :=
  (issuing wSignal id (withF W [(F.SIG_DESC_KIND 0 0, 1), (F.SIG_DESC_NODE_ID 0 0, 77), (F.RT_NODE_ID_ID, 5), (F.RT_BANK_STATUS_SEND_VALID, 1),
    (F.RT_BANK_STATUS_SEND_EPOCH, 2), (F.RT_BANK_STATUS_B1_STATE, 1), (F.RT_BANK_STATUS_B1_TAG, 2), (F.UNIT_STATE_STATE (entPort 1), 2)])).setReg
    (A.RT_TABLE 1 19) (mkWord [(31, 31, 1), (19, 16, 1)])

theorem witness_Signals_plain :
    ((∀ k ∈ [0, 2], (signalState k).standsAt 0 1 wSignal ∧ onlyParts [.seq] wSignal) ∧ cwSeqOp wSignal = 4 ∧ cwSeqArg wSignal % 64 = 0)
    ∧ (let s := signalState 0
       s.sigKind 0 wSignal = 0 ∧ s.get (F.SIG_DESC_COUNTER 0 0) = 0
         ∧ 0 ≤ (s.get (F.CNT_VALUE 0 0) : Int) + signed 16 (s.get (F.SIG_DESC_INCREMENT 0 0))
         ∧ (s.get (F.CNT_VALUE 0 0) : Int) + signed 16 (s.get (F.SIG_DESC_INCREMENT 0 0)) ≤ s.get (F.CNT_LIMIT 0 0))
    ∧ (let s := signalState 2
       s.sigKind 0 wSignal = 2 ∧ (s.coreAt 0).squeue = [] ∧ (s.coreAt 0).srun = [] ∧ s.get (F.SD_LOCAL_KIND 0 (s.get (F.SIG_DESC_STREAM 0 0))) < 6)
    ∧ (sendingSignal.standsAt 0 1 wSignal ∧ onlyParts [.seq] wSignal)
    ∧ (let s := sendingSignal
       s.sigKind 0 wSignal = 1 ∧ s.get (F.CORE_CTRL_MODE 0) = 0 ∧ s.rt.held = [] ∧ s.sendBank = some 1 ∧ 77 ≠ s.get F.RT_NODE_ID_ID
         ∧ routeOut (s.routeEntry 1 77) 0 = some (1, 0) ∧ s.get (F.UNIT_STATE_STATE (entPort 1)) = 2
         ∧ 1 ≤ (s.rt.credit.getD 1 []).getD (4 + 0) 0) := by
  have h : ∀ k ∈ [0, 2], standing 1 wSignal [.seq] (signalState k) = true := by decide +kernel
  refine ⟨⟨fun k hk => stands_of (h k hk), by decide +kernel⟩, by decide +kernel, by decide +kernel, stands_of (by decide +kernel), by decide +kernel⟩

/-- Two regions' worth of addresses on pseudo-channels 0 and 40, and the stream descriptor 3 of core 0 for one row at address 256 k. -/
def streaming (kind k : Nat) : State :=
  withMap (fun m => { m with regions := [⟨0, 0, 1, 2, [0, 40]⟩] }) (withCore 0 (fun c => { c with squeue := [3] })
    (withF W [(F.SD_SHAPE_ROWS 0 3, 1), (F.SD_SHAPE_ROW_LEN 0 3, 1), (F.SD_LOCAL_KIND 0 3, kind), (F.SD_ADDR_ADDR 0 3, 256 * k),
      (F.UNIT_STATE_STATE (entMc 0), 2), (F.UNIT_STATE_STATE (entMc 1), 2)]))

theorem witness_Streams_plain : ∀ k < 6, let s := streaming k 2
    (s.powered ∧ s.shaped ∧ (s.coreAt 0).state ≠ 2 ∧ (s.coreAt 0).squeue = [3] ∧ (s.coreAt 0).srun = [] ∧ s.get (F.CORE_CTRL_MODE 0) = 0
      ∧ s.get (F.SD_SHAPE_ROWS 0 3) = 1 ∧ s.get (F.SD_SHAPE_ROW_LEN 0 3) = 1 ∧ s.get (F.SD_LOCAL_KIND 0 3) = k ∧ s.get (F.SD_ADDR_ADDR 0 3) = 512)
    ∧ s.place 512 = .near 0 (2 ^ 20 + 256) ∧ s.place 768 = .near 40 (2 ^ 20 + 256)
    ∧ s.serves (entMc (0 / 32)) = true ∧ s.serves (entMc (40 / 32)) = true ∧ s.pcRetired 0 = false ∧ s.pcRetired 40 = false
    ∧ 0 * pcBytes + (2 ^ 20 + 256) + 256 ≤ 40 * pcBytes + (2 ^ 20 + 256) := by
  unfold State.powered State.shaped; decide +kernel

theorem witness_Streams :
    (∀ k < 6, let s := withCore 0 (fun c => { c with squeue := [3] }) (withF W [(F.SD_LOCAL_KIND 0 3, k)])
      s.powered ∧ s.shaped ∧ (s.coreAt 0).squeue = 3 :: [] ∧ (s.coreAt 0).srun.length < 4 ∧ s.get (F.SD_LOCAL_KIND 0 3) = k
        ∧ s.get (F.CORE_CTRL_MODE 0) = 0 ∧ 0 < 0x006000000000)
    ∧ (let r : StreamRun := ⟨0, 7, 0, 0, 1, 1, 1⟩
       let s := withCore 0 (fun c => { c with srun := [r] }) (withF W [(F.CNT_LIMIT 0 31, 9)])
       s.powered ∧ s.shaped ∧ (s.coreAt 0).srun[0]? = some r ∧ (s.coreAt 0).squeue = [] ∧ r.sc < 8
         ∧ s.get (F.CNT_VALUE 0 (24 + r.sc)) < s.get (F.CNT_LIMIT 0 (24 + r.sc))) := by
  unfold State.powered State.shaped; decide +kernel

theorem witness_RowEngineControl :
    (let s := withF W [(F.UNIT_STATE_STATE (entRe 3), 2)]
     s.powered ∧ s.shaped ∧ 3 < 4 ∧ 15 < 16 ∧ s.serves (entRe 3) = true ∧ s.get (F.RE_STATUS_STATE 3) = 0)
    ∧ (let s := (withF W [(F.UNIT_STATE_STATE (entRe 3), 2), (F.RE_STATUS_STATE 3, 1)]).setEng 3 { queue := List.replicate 15 0 }
       s.serves (entRe 3) = true ∧ s.get (F.RE_STATUS_STATE 3) = 1 ∧ (s.eng 3).queue.length < 16)
    ∧ (let s := (withF W [(F.UNIT_STATE_STATE (entRe 3), 2), (F.RE_STATUS_STATE 3, 1)]).setEng 3 { queue := List.replicate 16 0 }
       s.serves (entRe 3) = true ∧ s.get (F.RE_STATUS_STATE 3) = 1 ∧ 16 ≤ (s.eng 3).queue.length)
    ∧ (let s := withF W [(F.RE_STATUS_STATE 3, 2)]; s.get (F.RE_STATUS_STATE 3) = 2 ∧ (s.eng 3).queue = [])
    ∧ (let s := (withF W [(F.RE_STATUS_STATE 3, 1)]).setEng 3 { ran := true }
       s.get (F.RE_STATUS_STATE 3) = 1 ∧ (s.eng 3).ran = true ∧ (s.eng 3).queue = [] ∧ s.get (F.RE_DONE_EN 3 (s.get (F.RE_STATUS_CUR_JOB 3))) = 0) := by
  unfold State.powered State.shaped; decide +kernel

theorem witness_RowEngineJobs :
    ∀ op < 6, let s := withF W [(F.RE_STATUS_STATE 0, 1), (F.RE_SHAPE_OP 0 0, op)]
      s.powered ∧ s.shaped ∧ s.get (F.RE_STATUS_STATE 0) = 1 ∧ (s.eng 0).ran = false ∧ s.get (F.RE_STATUS_CUR_JOB 0) = 0
        ∧ s.get (F.RE_SHAPE_OP 0 0) = op := by
  unfold State.powered State.shaped; decide +kernel

/-- A plan whose start, verdict and commit are 2, 4 and 6 slots on, and one voter. -/
def planned (s : State) : State :=
  withF s [(F.SEQ_PLAN_RUN_OFF, 2), (F.SEQ_PLAN_VERDICT_OFF, 4), (F.SEQ_PLAN_COMMIT_OFF, 6), (F.SEQ_VCFG_VOTERS, 1)]

theorem witness_StepStarts :
    (let s := planned W
     s.powered ∧ s.shaped ∧ s.get F.SEQ_CTRL_APPLY_MODE = 0 ∧ 1 ≤ s.get F.SEQ_PLAN_RUN_OFF ∧ s.get F.SEQ_PLAN_RUN_OFF < s.get F.SEQ_PLAN_VERDICT_OFF
       ∧ s.get F.SEQ_PLAN_VERDICT_OFF < s.get F.SEQ_PLAN_COMMIT_OFF ∧ 1 ≤ s.get F.SEQ_VCFG_VOTERS ∧ s.get F.SEQ_VCFG_VOTERS ≤ 65536
       ∧ s.slot + 2 ≤ 2 ∧ 2 < 2 ^ 56 ∧ s.get F.SEQ_STATE_MISSED = 0 ∧ s.get F.SEQ_RETAIN_APPLY_PENDING = 0 ∧ 1 < s.slot + 2)
    ∧ (let s := withF (planned W) [(F.SEQ_START_ARMED, 1), (F.CAD_STATUS_ALIGNED, 1)]
       s.get F.SEQ_START_ARMED = 1 ∧ s.now % 256 = 0 ∧ s.get F.SEQ_START_START_SLOT = s.slot ∧ s.startAllowed = true
         ∧ s.get F.SEQ_CTRL_AUTO_NEXT = 0 ∧ ∀ c < 16, s.get (F.RC_CFG_STEP_REL c) = 0)
    ∧ (let s := withF W [(F.SEQ_START_ARMED, 1)]
       s.get F.SEQ_START_ARMED = 1 ∧ s.now % 256 = 0 ∧ s.get F.SEQ_START_START_SLOT ≤ s.slot ∧ s.startAllowed = false ∧ s.get F.SEQ_CTRL_AUTO_NEXT = 0)
    ∧ (let s := atT 512 (withF (planned W) [(F.SEQ_STATE_STATE, 1), (F.SEQ_INPUT_READY_VALID, 1)])
       s.get F.SEQ_STATE_STATE = 1 ∧ s.now % 256 = 0 ∧ s.seq.start + s.get F.SEQ_PLAN_RUN_OFF ≤ s.slot ∧ s.stepCores = []
         ∧ s.get F.SEQ_INPUT_READY_VALID = 1 ∧ s.get F.SEQ_INPUT_READY_TAG = s.get F.SEQ_STEP_TAG)
    ∧ (let s := atT 512 (withF (planned W) [(F.SEQ_STATE_STATE, 1), (F.CORE_CTRL_MODE 0, 1)])
       0 < 100 ∧ s.stepCores = [0] ∧ (s.coreAt 0).state = 0 ∧ s.get F.SEQ_INPUT_READY_VALID = 0)
    ∧ (let s := withCore 0 (fun c => { c with state := 4 }) (withF W [(F.SEQ_STATE_STATE, 2), (F.CORE_CTRL_MODE 0, 1)])
       s.get F.SEQ_STATE_STATE = 2 ∧ s.get F.SEQ_CTRL_APPLY_MODE = 0 ∧ ∀ n ∈ s.stepCores, (s.coreAt n).state = 4) := by
  unfold State.powered State.shaped; decide +kernel

theorem witness_StepVerdicts :
    (let s := atT 1024 (withF (planned W) [(F.SEQ_STATE_STATE, 3)])
     s.powered ∧ s.shaped ∧ s.get F.SEQ_STATE_STATE = 3 ∧ s.get F.SEQ_CTRL_APPLY_MODE = 0 ∧ s.get F.SEQ_STEP_PEND_VALID = 0 ∧ s.now % 256 = 0
       ∧ s.seq.start + s.get F.SEQ_PLAN_VERDICT_OFF ≤ s.slot)
    ∧ (∀ a, let s := atT 1536 (withSeq (fun q => { q with held := some (0, a) }) (withF (planned W) [(F.SEQ_STATE_PSTATE, 4)]))
      s.get F.SEQ_STATE_PSTATE = 4 ∧ s.get F.SEQ_STATE_MISSED = 0 ∧ s.now % 256 = 0 ∧ s.seq.pendStart + s.get F.SEQ_PLAN_COMMIT_OFF ≤ s.slot
        ∧ s.seq.held = some (s.get F.SEQ_STEP_PEND_TAG, a) ∧ s.get F.SEQ_CTRL_AUTO_NEXT = 0)
    ∧ (atT 1536 (withF (planned W) [(F.SEQ_STATE_PSTATE, 4)])).seq.held = none
    ∧ (let s := withSeq (fun q => { q with late := some (true, 3, 0) }) (atT 256 (withF W [(F.SEQ_STEP_PEND_VALID, 1)]))
       s.seq.late = some (true, 3, 0) ∧ 0 < s.now ∧ s.now % 256 = 0 ∧ s.get F.SEQ_STEP_PEND_VALID = 1)
    ∧ (let s := withF W [(F.SEQ_RETAIN_LC_VALID, 1), (F.SEQ_RETAIN_LAST_COMMIT, 65535)]
       65535 < 65536 ∧ s.get F.SEQ_RETAIN_LC_VALID = 1 ∧ s.get F.SEQ_RETAIN_LAST_COMMIT = 65535)
    ∧ (let s := withF W [(F.SEQ_STEP_PEND_VALID, 1), (F.SEQ_STATE_PSTATE, 4)]
       s.get F.SEQ_RETAIN_LC_VALID = 0 ∧ s.get F.SEQ_STEP_PEND_VALID = 1 ∧ s.get F.SEQ_STEP_PEND_TAG = 0 ∧ s.get F.SEQ_STATE_PSTATE = 4
         ∧ s.get F.SEQ_STATE_MISSED = 0)
    ∧ W.get F.SEQ_STEP_PEND_VALID = 0 := by
  unfold State.powered State.shaped; decide +kernel

theorem witness_StepEnds :
    (let s := atT 256 (withF W [(F.SEQ_STATE_PSTATE, 5), (F.SEQ_CTRL_APPLY_MODE, 1)])
     s.powered ∧ s.shaped ∧ s.get F.SEQ_STATE_PSTATE = 5 ∧ s.now % 256 = 0 ∧ s.seq.commitSlot < s.slot ∧ s.get F.SEQ_CTRL_APPLY_MODE = 1
       ∧ s.get F.SEQ_STATE_STATE = 0)
    ∧ (let s := atT 4096 (withF W [(F.SEQ_STATE_STATE, 7), (F.SEQ_PERIOD_RETRY_LIMIT, 0)])
       s.get F.SEQ_STATE_STATE = 7 ∧ s.now % 256 = 0 ∧ s.seq.rbSlot + max 4 (s.get F.SEQ_PLAN_RB_GAP) ≤ s.slot ∧ s.get F.SEQ_PERIOD_RETRY_LIMIT = 0)
    ∧ (let s := withF W [(F.SEQ_RETAIN_APPLY_PENDING, 1)]
       s.get F.SEQ_STATE_STATE = 0 ∧ s.get F.SEQ_RETAIN_APPLY_PENDING = 1 ∧ s.get F.SEQ_CTRL_APPLY_MODE = 0
         ∧ (∀ k < 32, s.get (F.UJ_CTRL_EN k) = 0) ∧ ∀ n < 16, (s.upd.getD n {}).journal = none ∧ (s.upd.getD n {}).past = false)
    ∧ W.get F.SEQ_RETAIN_APPLY_PENDING = 0
    ∧ (let s := withUpd 15 { journal := some (0, 0, []) } (withF W [(F.UPD_STATUS_RUNNING, 1), (F.UPD_CURSOR_JVALID 15, 1)])
       s.get F.UPD_STATUS_RUNNING = 1 ∧ s.get (F.UPD_CURSOR_JVALID 15) = 1
         ∧ (s.updWrites 15 []).2 = 0) := by
  unfold State.powered State.shaped; decide +kernel

theorem witness_StepEnds_journal : ((withUpd 15 { journal := some (0, 0, []) } W).upd.getD 15 {}).journal = some (0, 0, []) := rfl

/-- One region over pseudo-channel 0, from address 0, and controller 0 READY. -/
def mapped : State := withMap (fun m => { m with regions := [⟨0, 0, 0, 768, [0]⟩] }) (withF W [(F.UNIT_STATE_STATE (entMc 0), 2)])
def farUp : State := withF W [(F.UNIT_STATE_STATE (entFar 1), 2), (F.FAR_STATUS_CAP 1, 1)]

theorem witness_MemoryAccesses :
    (let r := { goodReq with addr := 252, data := some [1, 2, 3, 4] }
     mapped.powered ∧ mapped.shaped ∧ r.die < 4 ∧ mapped.place r.addr = .near 0 252 ∧ mapped.serves (entMc (0 / 32)) = true
       ∧ mapped.pcRetired 0 = false ∧ r.data = some [1, 2, 3, 4] ∧ 0 < 4 ∧ r.addr % 256 + 4 ≤ 256 ∧ 4 % 4 = 0
       ∧ mapped.requests r = true)
    ∧ (let r := { goodReq with addr := 0, sev := 2 }
       mapped.place r.addr = .near 0 0 ∧ 0 < 512 ∧ r.data = none ∧ 0 < r.len ∧ r.addr % 256 + r.len ≤ 256 ∧ mapped.requests r = true
         ∧ (mapped.memctl (0 / 32)).log.length < 16 ∧ r.sev = 2 ∧ { r with sev := 1 }.sev = 1)
    ∧ (let s := withF mapped [(F.MC_PCMAP_RETIRED 0, 1)]
       s.place 0 = .near 0 0 ∧ s.serves (entMc (0 / 32)) = true ∧ s.pcRetired 0 = true)
    ∧ mapped.place (2 ^ 38) = .miss
    ∧ (let r := { goodReq with addr := 0x110000000000, data := some [1, 2, 3, 4] }
       farUp.place r.addr = .far 1 0 ∧ farUp.serves (entFar 1) = true ∧ 0 < farUp.farCap 1 ∧ r.data = some [1, 2, 3, 4]
         ∧ r.addr % 256 + 4 ≤ 256 ∧ farUp.requests r = true)
    ∧ (let r := { goodReq with addr := 0x110000000000 + 2 ^ 28 - 4, poison := true }
       farUp.place r.addr = .far 1 (2 ^ 28 - 4) ∧ 2 ^ 28 - 4 < farUp.farCap 1 ∧ r.data = none ∧ r.poison = true ∧ r.addr % 256 + r.len ≤ 256
         ∧ 0 < r.len ∧ farUp.requests r = true) := by
  unfold State.powered State.shaped; decide +kernel

theorem witness_MapLoads :
    (W.powered ∧ W.mapCheck W.unmapRetired.regionRegs = 0) ∧ (withF W [(F.SEQ_STATE_STATE, 2)]).quiet = false
    ∧ (let s := atT 512 (withMap (fun m => { m with next := some (2, []) }) W)
       s.map.next = some (2, []) ∧ s.now % 256 = 0 ∧ 2 ≤ s.slot ∧ 15 < 16)
    ∧ (let r : Region := ⟨0, 0, 766, 2, [0, 511]⟩
       r.base % 256 = 0 ∧ r.chans.Nodup ∧ r.start + r.span ≤ 768 ∧ decodeMap [r] 256 = some (511, 766 * 2 ^ 20)) := by
  unfold State.powered; decide +kernel

theorem witness_StackService :
    (∀ act ∈ [A.MC_PPR_ACT 15, A.MC_PCRET_ACT 15, A.MC_THR_ACT 15], ∀ u ∈ [2, 4], let s := armed act (withF W [(F.UNIT_STATE_STATE (entMc 15), u)])
      s.powered ∧ bits (s.reg act) 63 63 = 1 ∧ s.now % 256 = 0 ∧ mapFind s.staged act = some 0 ∧ 0 ≤ s.slot
        ∧ s.get (F.UNIT_STATE_STATE (entMc 15)) = u)
    ∧ (W.shaped ∧ 15 < 16 ∧ 31 < 32 ∧ (W.memctl 15).stop = false ∧ (W.memctl 15).trip = false ∧ W.get (F.MC_THR_NEXT_STOP 15) = 0
      ∧ (withF W [(F.MC_THR_NEXT_STOP 15, 1)]).get (F.MC_THR_NEXT_STOP 15) = 1)
    ∧ (let s := withMc 15 (fun m => { m with repair := some (3, 0) }) W
       (s.memctl 15).repair = some (3, 0))
    ∧ (withF W [(F.UNIT_STATE_STATE (entMc 15), 1)]).get (F.UNIT_STATE_STATE (entMc 15)) = 1
    ∧ (1 < 2 ∧ W.fuse.s0 = false ∧ farUp.get (F.UNIT_STATE_STATE (entFar 1)) = 2)
    ∧ (withF W [(F.UNIT_STATE_STATE (entFar 1), 4)]).get (F.UNIT_STATE_STATE (entFar 1)) = 4 := by
  unfold State.powered State.shaped; decide +kernel

/-- A packet of kind WRITE to NodeID d under routing epoch e, with its header check. -/
def packetTo (d e : Nat) : Packet :=
  let p : Packet := ⟨mkWord [(63, 48, d), (31, 24, 1), (23, 22, 2), (21, 20, e), (17, 10, 1)], 0, 0, 0, 0, List.replicate 32 0⟩
  { p with w0 := putBits p.w0 9 0 p.crc }

/-- Ports 0 and 1 READY, this module NodeID 7, bank 0 LIVE for epoch 0 and the send epoch, with a route for NodeID 5 on port 1. -/
def routed : State :=
  (withF (W.setBank 0 1) [(F.UNIT_STATE_STATE (entPort 0), 2), (F.UNIT_STATE_STATE (entPort 1), 2), (F.RT_NODE_ID_ID, 7),
    (F.RT_NODE_ID_VALID, 1), (F.RT_BANK_STATUS_SEND_VALID, 1)]).setReg (A.RT_TABLE 0 1) (mkWord [(31, 31, 1), (19, 16, 1)])

theorem witness_PacketRouting :
    (routed.powered ∧ 0 < 12 ∧ routed.get (F.UNIT_STATE_STATE (entPort 0)) = 2)
    ∧ { packetTo 5 0 with w1 := 1 }.check ≠ 0
    ∧ ((packetTo 7 0).check = 0 ∧ routed.bankOfTag (packetTo 7 0).tag = some 0 ∧ (packetTo 7 0).mcast = false
      ∧ (packetTo 7 0).dst = routed.get F.RT_NODE_ID_ID ∧ routed.get F.RT_NODE_ID_VALID = 1 ∧ (packetTo 7 0).spec = false
      ∧ routed.rt.held = [])
    ∧ ((packetTo 5 0).check = 0 ∧ (packetTo 5 0).dst ≠ routed.get F.RT_NODE_ID_ID
      ∧ routeOut (routed.routeEntry 0 (packetTo 5 0).dst) (packetTo 5 0).coll = some (1, 0) ∧ 1 ≠ 0
      ∧ routed.get (F.UNIT_STATE_STATE (entPort 1)) = 2 ∧ routed.rt.held = []
      ∧ (packetTo 5 0).beats ≤ (routed.rt.credit.getD 1 []).getD ((packetTo 5 0).vc * 2 + 0) 0)
    ∧ ((packetTo 5 3).check = 0 ∧ routed.bankOfTag (packetTo 5 3).tag = none) ∧ 7 < 8
    ∧ (let h : Transit := ⟨0, 0, 0, packetTo 5 0, [(1, 0)], false⟩
       let s := atT 100000 (withRt (fun r => { r with held := [h] }) routed)
       s.rt.held = [h] ∧ h.src = 0 ∧ h.tick + max 1 (s.get (F.RT_AGE_A h.pkt.vc)) ≤ s.now) := by
  unfold State.powered; decide +kernel

theorem witness_BanksAndLinks :
    (let s := withF W [(F.RT_NODE_ID_VALID, 1)]; s.powered ∧ 1 < 2 ∧ 3 < 4 ∧ s.commitCheck 1 3 = 0)
    ∧ W.commitCheck 0 0 ≠ 0
    ∧ (let s := W.setBank 1 1; s.bankState 1 = 1 ∧ s.rt.used.getD 1 false = false ∧ s.drainSum (s.bankTag 1) = 0)
    ∧ (let s := atT 256000 (W.setBank 1 2)
       s.bankState 1 = 2 ∧ s.now % 256 = 0 ∧ s.rt.life.getD 1 0 + s.get F.RT_LIFE_SLOTS ≤ s.slot ∧ s.drainSum (s.bankTag 1) = 0)
    ∧ (let s := armed A.RT_SEND_ACT (withF ((W.setBank 0 1).setBank 1 1) [(F.RT_BANK_STATUS_B1_TAG, 2), (F.RT_BANK_STATUS_SEND_VALID, 1),
         (F.RT_SEND_NEXT_EPOCH, 2)])
       bits (s.reg A.RT_SEND_ACT) 63 63 = 1 ∧ s.now % 256 = 0 ∧ mapFind s.staged A.RT_SEND_ACT = some 0 ∧ 0 ≤ s.slot ∧ s.bankState 1 = 1
         ∧ s.bankTag 1 = s.get F.RT_SEND_NEXT_EPOCH ∧ s.bankTag (1 - 1) ≠ s.bankTag 1 ∧ s.sendBank = some (1 - 1))
    ∧ (let s := withF (withPort 11 7 (fun o => { o with missSlots := 4 }) W) [(F.UNIT_STATE_STATE (entPort 11), 2)]
       11 < 12 ∧ s.opt.length = 14 ∧ s.phase 11 = 7 ∧ s.get (F.UNIT_STATE_STATE (entPort 11)) = 2 ∧ 4 ≤ (s.optic 11).missSlots
         ∧ (s.optic 11).tripped = false)
    ∧ (let s := withF (withPort 11 7 (fun o => { o with missSlots := 4 }) W) [(F.UNIT_STATE_STATE (entPort 11), 3)]
       s.get (F.UNIT_STATE_STATE (entPort 11)) = 3 ∧ s.get (F.UNIT_STATE_ENABLE_PENDING (entPort 11)) = 0 ∧ s.rt.credit.length = 12) := by
  unfold State.powered; decide +kernel

/-- A local delivery from kind, words 1 to 3 and payload. -/
def delivery (kind : Nat) (w1 w2 w3 : Word) (pay : List Byte) : Transit :=
  ⟨3, 0, 0, ⟨mkWord [(47, 32, 50), (31, 24, kind), (17, 10, pay.length / 32)], w1, w2, w3, 0, pay⟩, [], true⟩
def got (l : Transit) (s : State) : State := withRt (fun r => { r with held := [l] }) s
def pay32 : List Byte := List.replicate 32 7
def toMem (kind a : Nat) : Transit := delivery kind 0 (mkWord [(47, 0, a)]) 0 pay32
def toCtx (kind c : Nat) (w2 w3 : Word) (pay : List Byte) : Transit := delivery kind (mkWord [(39, 32, 2 * c)]) w2 w3 pay

/-- Context 15 ACTIVE with a kind and role, one input from source 50, mask FFh, rounds of 256 bytes. -/
def active (kind role : Nat) : State :=
  withF W [(F.RC_STATUS_STATE 15, 2), (F.RC_CFG_KIND 15, kind), (F.RC_CFG_ROLE 15, role), (F.RC_CFG_NIN 15, 1), (F.RC_SEG_RSIZE 15, 1), (F.RC_IN_MASK 15 0, 0xFF),
    (F.RC_IN_VALID 15 0, 1), (F.RC_IN_SRC_ID 15 0, 50), (F.UNIT_STATE_STATE (entStage 0), 2), (F.UNIT_STATE_STATE (entCtx 15), 2)]
def oneRound (x : Round) (s : State) : State := withCtx 15 (fun k => { k with rounds := [x] }) s
def openRound (n : Nat) : Round := { num := n, ins := [{}, {}] }
def unchained (s : State) : Bool := (List.range 16).all fun m => s.get (F.RC_OUT_CHAIN m) == 0 && s.cxKind m != kCaravan
def contrib : Transit := toCtx 0x10 15 (mkWord [(63, 48, 0xFF)]) 0 pay32
def result : Transit := toCtx 0x11 15 (mkWord [(63, 48, 0xFF)]) 0 pay32
def mgmtWrite : Transit :=
  delivery 0x20 0 0 0 (bytesOfWords [mkWord [(63, 60, 1), (54, 48, 1), (47, 0, A.MC_ARB 0)], 0, 0, 0, 5, 0, 0, 0])
def askedFor : Request := ⟨2, 77, 0x300000000000, 1, [], 0, 9, some 50, true, 0, false, 0, 0, 0⟩
def mgmtAnswer : Transit :=
  delivery 0x21 0 0 0 (bytesOfWords [mkWord [(63, 60, 8), (54, 48, 1), (47, 0, 0x300000000000)], mkWord [(63, 48, 77)], mkWord [(63, 32, 9)],
    0, 5, 0, 0, 0])

theorem witness_LocalDeliveries_memory :
    (let s := got (toMem 1 224) mapped
     s.powered ∧ s.shaped ∧ s.rt.held = [toMem 1 224] ∧ (toMem 1 224).loc = true ∧ (toMem 1 224).outs = [] ∧ (toMem 1 224).pkt.spec = false ∧ (toMem 1 224).pkt.kind = 1 ∧ s.place 224 = .near 0 224
       ∧ s.serves (entMc (0 / 32)) = true ∧ s.pcRetired 0 = false ∧ 0 < 32 ∧ 224 % 256 + 32 ≤ 256 ∧ 32 % 4 = 0)
    ∧ (toMem 2 224).pkt.kind = 2
    ∧ (let l := delivery 3 0 (mkWord [(47, 46, 3), (45, 41, 23), (40, 36, 16)]) 0 []
       let s := got l (withF W [(F.UNIT_STATE_STATE (entCore 98), 2)])
       l.pkt.spec = false ∧ l.pkt.kind = 3 ∧ s.siteOf 3 23 = some 98 ∧ s.serves (entCore 98) = true ∧ bits l.pkt.w2 40 36 = 16) := by
  unfold State.powered State.shaped; decide +kernel

theorem witness_LocalDeliveries_rounds :
    (∀ p ∈ [(contrib, 0), (result, 1)], let l := p.1
     let s := oneRound (openRound 0) (got l (active kReduce p.2))
     let c := packetCtx l.pkt
     l.pkt.spec = false ∧ l.pkt.kind = 0x10 + p.2 ∧ c = 15 ∧ s.serves (entCtx c) = true ∧ (openRound 0).last = false ∧ s.cxActive c kReduce = true ∧ s.get (F.RC_CFG_ROLE c) = p.2
       ∧ s.serves (entStage (s.cxHome c)) = true ∧ 0 < (openRound 0).ins.length ∧ s.get (F.RC_IN_VALID c 0) = 1
       ∧ (∀ j ∈ s.cxInputs c, s.get (F.RC_IN_SRC_ID c j) = l.pkt.srcId ↔ j = 0) ∧ 0 ∈ s.cxInputs c ∧ l.pkt.stepTag = s.cxTag c
       ∧ l.pkt.layoutGen = s.get F.COLL_LAYOUT_CUR ∧ (s.cx c).rounds = [openRound 0] ∧ 0 = l.pkt.coll / 32
       ∧ l.pkt.deadline = s.cxDeadline c 0 % 2 ^ 48 ∧ l.pkt.offset * 32 = 0 ∧ 0 + 32 ≤ s.cxR c ∧ (0xFF &&& s.get (F.RC_IN_MASK c 0)) = 0xFF
       ∧ bitAt l.pkt.policy 11 = false) := by decide +kernel

theorem witness_LocalDeliveries_members :
    (∀ k ∈ [0x12, 0x13], let l := toCtx k 15 0 0 []
      let s := got l (active kPeloton 0)
      l.pkt.spec = false ∧ l.pkt.kind = k ∧ packetCtx l.pkt = 15 ∧ s.serves (entCtx 15) = true ∧ s.cxActive 15 kPeloton = true ∧ l.pkt.layoutGen = s.get F.COLL_LAYOUT_CUR
        ∧ bits l.pkt.w2 47 32 = s.pgen 15 ∧ unchained s = true)
    ∧ (let l := toCtx 0x14 15 0 (mkWord [(63, 48, 2)]) pay32
       let s := withF (active kCaravan 0) [(F.RC_STATUS_ROUND 15, 2)]
       l.pkt.spec = false ∧ l.pkt.kind = 0x14 ∧ s.serves (entCtx 15) = true ∧ s.cxActive 15 kCaravan = true ∧ l.pkt.layoutGen = s.get F.COLL_LAYOUT_CUR
         ∧ s.get (F.RC_STATUS_ROUND 15) = l.pkt.policy % 16) := by decide +kernel

theorem witness_LocalDeliveries_management :
    (let l := mgmtWrite
     let f := frameRequest (mgmtFrame l.pkt)
     l.pkt.spec = false ∧ l.pkt.kind = 0x20 ∧ W.rt.mailbox = [] ∧ f.op = 1 ∧ ({ f with proxy := some 0 } : Request).malformed 96 = false
       ∧ (W.devWord ⟨dieOfSrc l.src, 27⟩ f.addr (some (f.words.getD 0 0))).st.sendBank = none)
    ∧ (let s := got mgmtAnswer (withCk 0 (fun k => { k with mbox := [askedFor] }) W)
       mgmtAnswer.pkt.spec = false ∧ mgmtAnswer.pkt.kind = 0x21 ∧ s.mgmtFind mgmtAnswer.pkt = some (0, 0, askedFor) ∧ (s.ck 0).mbox = [askedFor]
         ∧ askedFor.mute = false ∧ (s.ck 0).outq = [] ∧ (s.ck 0).unacked.length < 64 ∧ bits (mgmtFrame mgmtAnswer.pkt).w0 59 56 = 0) := by
  decide +kernel

theorem witness_ContextsAndRounds :
    (let s := withF W [(F.RC_CFG_KIND 15, kReduce), (F.RC_SEG_RSIZE 15, 1)]
     s.powered ∧ s.shaped ∧ 15 < 16 ∧ 2 < 2 ^ 56 ∧ (s.set (F.RC_START_START 15) 2).armCheck 15 2 = 0 ∧ s.get (F.RC_CFG_STEP_REL 15) = 0)
    ∧ (active kReduce 0).cxState 15 ≠ 0
    ∧ (let s := withF (active kReduce 0) [(F.RC_STATUS_STATE 15, 1), (F.RC_CFG_ROUNDS 15, 2)]
       s.cxState 15 = 1 ∧ s.now % 256 = 0 ∧ (s.cx 15).startSlot ≤ s.slot ∧ s.cxKind 15 = kReduce ∧ (s.cx 15).rounds = [] ∧ 2 ≤ s.cxRounds 15)
    ∧ (let s := atT 1 (oneRound (openRound 1) (active kReduce 0))
       1 < 2 ∧ s.cxInHalf 15 1 = some (openRound 1) ∧ s.cxActive 15 kReduce = true ∧ s.get (F.RC_CFG_ROLE 15) = 0 ∧ s.cxDeadline 15 1 < s.now)
    ∧ (let x := { openRound 0 with phase := 1 }
       let s := oneRound x (active kReduce 0)
       s.cxInHalf 15 0 = some x ∧ s.cxActive 15 kReduce = true ∧ s.get (F.RC_CFG_ROLE 15) = 0 ∧ x.phase = 1
         ∧ unsigned 64 (mantSum (s.stage.load (s.cxArea 15 0 1) (s.cxR 15)) + x.corr - (x.expect : Int)) = 0
         ∧ s.get (F.RC_OUT_FWD 15) = 0 ∧ s.get (F.RC_OUT_BCAST 15) = 0 ∧ s.get (F.RC_OUT_STORE 15) = 0 ∧ s.get (F.RC_OUT_CHAIN 15) = 0)
    ∧ (let x := { openRound 1 with phase := 2 }
       let s := oneRound x (withF (active kReduce 0) [(F.RC_CFG_ROUNDS 15, 2)])
       s.cxInHalf 15 1 = some x ∧ s.cxActive 15 kReduce = true ∧ 1 + 1 = s.cxRounds 15 ∧ s.unsent 15 1 = false)
    ∧ (let x := { openRound 1 with phase := 2 }
       let s := oneRound x (withF (active kReduce 0) [(F.RC_CFG_ROUNDS 15, 4)])
       s.cxInHalf 15 1 = some x ∧ s.cxActive 15 kReduce = true ∧ 1 + 2 < s.cxRounds 15 ∧ s.get (F.RC_DONE_EVERY 15) = 0
         ∧ s.unsent 15 1 = false) := by
  unfold State.powered State.shaped; decide +kernel

theorem witness_PelotonsAndCaravan :
    (let s := withF (active kPeloton 0) [(F.RC_ARR_EN 15, 1)]
     s.powered ∧ s.shaped ∧ s.cxActive 15 kPeloton = true ∧ s.get (F.RC_ARR_EN 15) = 1 ∧ (s.cx 15).arrived = false
       ∧ s.siteOf (s.get (F.RC_ARR_DIE 15)) (s.get (F.RC_ARR_LCORE 15)) = some 0
       ∧ s.get (F.RC_ARR_TARGET 15) ≤ s.get (F.CNT_VALUE 0 (s.get (F.RC_ARR_COUNTER 15))) ∧ s.isMaster 15 = true)
    ∧ (let s := atT 256 (active kPeloton 0)
       s.cxActive 15 kPeloton = true ∧ s.isMaster 15 = true ∧ s.now % 256 = 0 ∧ (s.cx 15).heardAt < s.now ∧ s.allHeard 15 = true ∧ (s.cx 15).chained = false
         ∧ unchained s = true)
    ∧ (let s := atT 256 (withCtx 15 (fun k => { k with deadline := true }) (active kPeloton 0))
       s.cxActive 15 kPeloton = true ∧ s.isMaster 15 = true ∧ s.now % 256 = 0 ∧ (s.cx 15).deadline = true
         ∧ s.cxDeadline 15 (s.pgen 15) < s.now ∧ unchained s = true)
    ∧ (let s := active kCaravan 0
       s.cxActive 15 kCaravan = true ∧ (s.cx 15).stage = 0 ∧ s.get F.COLL_LAYOUT_OPEN = 0)
    ∧ (let s := withCtx 15 (fun k => { k with stage := 2 }) (active kCaravan 0)
       s.cxActive 15 kCaravan = true ∧ (s.cx 15).stage = 2
         ∧ (s.listWord 15 (s.get (F.RC_STATUS_ROUND 15))).toNat = (s.cx 15).recv.getD (s.get (F.RC_STATUS_ROUND 15)) 0) := by
  unfold State.powered State.shaped; decide +kernel

/-- Link control word of lane 8, type 1, with its CRC. -/
def lcw : BitVec 128 :=
  let n := 0x5A * 2 ^ 120 + 8 * 2 ^ 116 + 2 ^ 112
  BitVec.ofNat 128 (n + crc8 n * 2 ^ 72)

/-- Spoke port 11 in SERVICE with lane 8 idle. -/
def spoke : State :=
  withF (withPort 11 7 id W) [(F.UNIT_STATE_STATE (entPort 11), 2), (F.OPT_STATE_SPARE_USE 11, 15), (F.OPT_STATE_LANE_OK 11, 0x1FF)]
def steerDue (op k : Nat) : State := armed (A.SPK_STEER_ACT 11) (withF spoke [(F.SPK_STEER_NEXT_OP 11, op), (F.SPK_STEER_NEXT_LANE 11, k)])

theorem witness_WordsAndSteers :
    (spoke.powered ∧ spoke.shaped ∧ 11 < 12 ∧ 8 < 9 ∧ 4 ≤ spoke.phase 11 ∧ spoke.phase 11 ≤ 7 ∧ (withPort 0 4 id W).phase 0 = 4)
    ∧ (nbits lcw.toNat 127 120 = 0x5A ∧ nbits lcw.toNat 79 72 = crc8 lcw.toNat ∧ nbits lcw.toNat 115 112 = 1 ∧ nbits lcw.toNat 111 108 = 0
      ∧ nbits lcw.toNat 99 96 = 0)
    ∧ nbits (0 : BitVec 128).toNat 127 120 ≠ 0x5A
    ∧ (∀ op ∈ [1, 2, 3], let s := steerDue op 7
      7 < 8 ∧ bits (s.reg (A.SPK_STEER_ACT 11)) 63 63 = 1 ∧ s.now % 256 = 0 ∧ mapFind s.staged (A.SPK_STEER_ACT 11) = some 0 ∧ 0 ≤ s.slot
        ∧ s.get (F.SPK_STEER_STATUS_STATE 11) ≠ 1 ∧ s.phase 11 = 7 ∧ s.get (F.SPK_STEER_NEXT_OP 11) = op
        ∧ s.get (F.UNIT_STATE_STATE (entPort 11)) = 2 ∧ (s.optic 11).failTx = []
        ∧ s.get (F.SPK_STEER_NEXT_LANE 11) = 7 ∧ s.get (F.OPT_STATE_SPARE_USE 11) = 15 ∧ s.laneOk 11 8 = true)
    ∧ (let s := withF (steerDue 2 7) [(F.OPT_STATE_SPARE_USE 11, 7)]
       s.get (F.OPT_STATE_SPARE_USE 11) = 7 ∧ s.get (F.OPT_STATE_SPARE_PERM 11) = 0 ∧ s.get (F.SPK_STEER_NEXT_OP 11) = 2 ∧ 7 ≠ 15)
    := by
  unfold State.powered State.shaped; decide +kernel

theorem witness_WordsAndSteers_lanes :
    (∀ n ∈ [2, 3], let s := atT 1280 (withF spoke [(F.SPK_STEER_STATUS_STATE 11, 1), (F.SPK_STEER_STATUS_RETRIES 11, n)])
      s.get (F.SPK_STEER_STATUS_STATE 11) = 1 ∧ s.now % 256 = 0 ∧ (s.optic 11).steerSlot + 5 ≤ s.slot
        ∧ s.get (F.SPK_STEER_STATUS_RETRIES 11) = n)
    ∧ (let s := (withF spoke [(F.OPT_CTRL_AUTO_SPARE 11, 1)]).modOptic 11 fun o => { o with failTx := [(7, 2)] }
       s.get (F.OPT_CTRL_AUTO_SPARE 11) = 1 ∧ s.now % 256 = 0 ∧ s.phase 11 = 7 ∧ s.get (F.SPK_STEER_STATUS_STATE 11) ≠ 1
         ∧ (s.optic 11).failTx = (7, 2) :: [] ∧ s.get (F.OPT_STATE_SPARE_USE 11) = 15 ∧ s.laneOk 11 8 = true)
    ∧ (let s := armed (A.SPK_LANE_ACT 11) (withF spoke [(F.SPK_LANE_NEXT_RX_FAIL 11, 2 ^ 7)])
       bits (s.reg (A.SPK_LANE_ACT 11)) 63 63 = 1 ∧ s.now % 256 = 0 ∧ mapFind s.staged (A.SPK_LANE_ACT 11) = some 0 ∧ 0 ≤ s.slot
         ∧ s.get (F.SPK_LANE_NEXT_TX_FAIL 11) = 0 ∧ s.get (F.UNIT_STATE_STATE (entPort 11)) = 2 ∧ s.get (F.SPK_LANE_NEXT_RX_FAIL 11) = 2 ^ 7 ∧ bitAt (s.optic 11).rxFail 7 = false)
    ∧ (let s := withPort 11 6 (fun o => { o with pingSeq := 1 }) W
       s.phase 11 = 6 ∧ (s.optic 11).pingSeq ≠ 0 ∧ bits (mkWord [(47, 32, 1)]) 47 32 = (s.optic 11).pingSeq % 2 ^ 16) := by
  decide +kernel

/-- A frame from an engine, with its CRC. -/
def upFrame (type target : Nat) : BitVec 32 := let n := type * 2 ^ 28 + target * 2 ^ 23; BitVec.ofNat 32 (n + crc6 n)
def goodUp (type target : Nat) : Bool :=
  let n := (upFrame type target).toNat
  nbits n 5 0 == crc6 n && nbits n 31 28 == type && nbits n 27 23 == target
def driven (p k : Nat) : State := atT k (withPwr (fun q => { q with cage12V := BitVec.allOnes 14 }) (withPort p 7 id W))

theorem witness_EnginesAndPorts :
    (W.powered ∧ W.shaped ∧ 13 < 14 ∧ goodUp 9 8 = true ∧ goodUp 10 24 = true ∧ goodUp 10 25 = true ∧ goodUp 10 26 = true ∧ goodUp 11 31 = true ∧ goodUp 12 0 = true
      ∧ 8 < laneCount 11 ∧ 0 < laneCount 13 ∧ nbits (0 : BitVec 32).toNat 5 0 ≠ crc6 (0 : BitVec 32).toNat)
    ∧ (let s := withPort 13 7 (fun o => { o with upMissed := 1 }) W
       s.phase 13 ≠ 0 ∧ s.phase 13 ≠ 8 ∧ 1 ≤ (s.optic 13).upMissed)
    ∧ (let s := withPort 11 7 (fun o => { o with warmEpochs := 400 }) (withF W [(F.OPT_STATE_SPARE_LASER 11, 1)])
       s.get (F.OPT_STATE_SPARE_LASER 11) = 1 ∧ 400 ≤ (s.optic 11).warmEpochs)
    ∧ (∀ k ∈ [0, 1563, 781, 2344], (driven 13 (3125 + k)).driven 13 = true ∧ (driven 13 (3125 + k)).now % 3125 = k)
    ∧ ((driven 13 0).phase 13 = 7 ∧ (driven 13 0).pwr.cage12V.getLsbD 13 = true ∧ ((driven 13 0).optic 13).tripped = false) := by
  unfold State.powered State.shaped; decide +kernel

theorem witness_PortTraining :
    (∀ ph ∈ [1, 2, 3, 4, 5, 6], let s := withPort 13 ph id W; s.powered ∧ s.shaped ∧ s.phase 13 = ph)
    ∧ (bits (mkWord [(63, 56, 1)]) 63 56 = 1 ∧ bits (0 : Word) 63 56 ≠ 1)
    ∧ (ringsNeeded 11 ≤ lockCount 11 (List.replicate 8 5 ++ [0x4000]) ∧ ringsNeeded 13 ≤ lockCount 13 (List.replicate 8 0x3FFF)
      ∧ ringsNeeded 11 ≤ lockCount 11 (0x4000 :: List.replicate 8 5))
    ∧ (let s := withPort 11 6 (fun o => { o with farDone := true, doneSent := true }) (withF W [(F.SPK_CAD_DELAY_VALID 11, 1)])
       s.phase 11 = 6 ∧ agreeVersion spokeTab (bits (BitVec.ofNat 64 spokeTab) 31 0) = some (2, 3) ∧ s.get (F.SPK_CAD_DELAY_VALID 11) = 1
         ∧ (s.optic 11).farDone = true ∧ (s.optic 11).doneSent = true ∧ agreeVersion spokeTab (bits (BitVec.ofNat 64 0xFFFFFFFF) 31 0) = none)
    ∧ (∀ a ∈ [1, 2], let s := withPort 13 6 (fun o => { o with phaseEpochs := 100000 }) (withF W [(F.OPT_STATE_ATTEMPTS 13, a)])
      1 ≤ s.phase 13 ∧ s.phase 13 ≤ 6 ∧ phaseLimit (s.phase 13) ≤ (s.optic 13).phaseEpochs ∧ (s.ck (13 - 12)).refused = false
        ∧ s.get (F.OPT_STATE_ATTEMPTS 13) = a ∧ (s.optic 13).tripped = false)
    ∧ (let s := withF (withPort 11 4 id W) [(F.RING_TX_LOCKED 11 7, 1)]
       s.phase 11 = 4 ∧ s.get (F.RING_TX_LOCKED 11 7) = 1 ∧ (s.optic 11).txMism = [] ∧ (s.optic 11).dips = [] ∧ s.get (F.RING_TX_LOCKED 11 0) = 0)
    ∧ (2 < 8 ∧ nbits spokeTab (4 * 2 + 3) (4 * 2) ≠ 15 ∧ nbits 0xFFFFF0FF (4 * 2 + 3) (4 * 2) ≠ 15) := by
  unfold State.powered State.shaped; decide +kernel

/-! ### Colok -/

def served (f : ColokPort → ColokPort := id) : State := withCk 1 f (withF (withPort 13 7 id W) [(F.UNIT_STATE_STATE (entPort 13), 2)])
def framed (op count addr seq : Nat) (pay : List Word) (w3 : Word := 0) : Frame :=
  let f : Frame := ⟨mkWord [(63, 60, op), (54, 48, count), (47, 0, addr)], 0, mkWord [(63, 32, seq)], w3, pay, 0⟩
  { f with crc := BitVec.ofNat 32 f.sum }
def opFrame (op : Nat) : Frame :=
  framed op (if op = 5 then 0 else 1) (if op = 5 then A.CNT 99 23 else 8) 0 (if op % 2 = 1 && op != 5 then [5] else [])

theorem witness_ColokFrames :
    (∀ op ∈ [1, 2, 3, 4, 5], let f := opFrame op
      let s := served
      s.powered ∧ s.shaped ∧ 1 < 2 ∧ s.phase (12 + 1) = 7 ∧ s.get (F.UNIT_STATE_STATE (entPort (12 + 1))) = 2 ∧ f.crc = BitVec.ofNat 32 f.sum
        ∧ f.seq = s.get (F.COLOK_SEQ_RX_EXPECT 1) ∧ (s.ck 1).mbox = [] ∧ (s.ck 1).holdoff = false ∧ bits f.w1 31 31 = 0
        ∧ (frameRequest f).malformed (s.countLimit 1) = false ∧ f.op = op)
    ∧ (let f := framed 1 1 8 1 [5]
       f.seq ≠ served.get (F.COLOK_SEQ_RX_EXPECT 1) ∧ f.op = 1 ∧ (served.ck 1).nakSent = false
         ∧ ((served fun k => { k with nakSent := true }).ck 1).nakSent = true)
    ∧ { opFrame 2 with crc := (opFrame 2).crc + 1 }.crc ≠ BitVec.ofNat 32 (opFrame 2).sum
    ∧ (let g := opFrame 1
       let f := framed 0 0 0 0 []
       let s := served fun k => { k with unacked := [g] }
       f.crc = BitVec.ofNat 32 f.sum ∧ f.op = 0 ∧ bits f.w1 30 30 = 0 ∧ (s.ck 1).unacked = [g] ∧ f.ack = g.seq ∧ (s.ck 1).outq = [])
    ∧ (let s := withPort 13 6 id W
       ∀ tab ∈ [colokTab, 0xFFFFFFFF], let f := framed 9 0 0 0 [] (mkWord [(47, 16, tab)])
        s.phase (12 + 1) = 6 ∧ f.crc = BitVec.ofNat 32 f.sum ∧ f.op = 9 ∧ bits f.w3 47 16 = tab ∧ (s.ck 1).refused = false)
    ∧ agreeVersion colokTab colokTab = some (3, 1) ∧ agreeVersion colokTab 0xFFFFFFFF = none := by
  unfold State.powered State.shaped; decide +kernel

def askRead : Request := ⟨2, 9, A.CAD_STATUS, 1, [], 0, 0, none, false, 0, false, 0, 0, 0⟩
def askWrite : Request := ⟨1, 9, A.MC_ARB 15, 1, [5], 0, 0, none, false, 0, false, 0, 0, 0⟩

theorem witness_ColokRequests :
    (∀ p ∈ [(askRead, none), (askWrite, some 5)], let r := p.1
      let s := served fun k => { k with mbox := [r] }
      s.powered ∧ s.shaped ∧ (s.ck 1).mbox = [r] ∧ r.op = (if p.2.isSome then 1 else 2) ∧ r.count = 1 ∧ r.proxy = none ∧ r.mute = false
        ∧ r.addr < 2 ^ 48 ∧ (p.2 = none ∨ p.2 = some 5 ∧ r.words = [5]) ∧ ((s.devWord (colokOrigin 1) r.addr p.2).st.ck 1).mbox = [r])
    ∧ (let s := served fun k => { k with mbox := [askRead] }
       (s.ck 1).mbox = [askRead] ∧ s.colok.length = 2 ∧ (s.ck 1).outq = [] ∧ (s.ck 1).unacked.length < 64 ∧ 15 < 16)
    ∧ (let s := atT 4096 (served fun k => { k with unacked := [opFrame 1] })
       s.phase (12 + 1) = 7 ∧ (s.ck 1).unacked = [opFrame 1] ∧ (s.ck 1).ackTick + 4096 ≤ s.now)
    ∧ (let s := served.modOptic 13 fun o => { o with missSlots := 4 }
       s.phase (12 + 1) = 7 ∧ s.get (F.UNIT_STATE_STATE (entPort (12 + 1))) = 2 ∧ 4 ≤ (s.optic (12 + 1)).missSlots)
    ∧ (let r := { askRead with started := true, proxy := some 3 }
       let s := atT 100000 (served fun k => { k with mbox := List.replicate 32 r })
       31 < 32 ∧ (s.ck 1).mbox[31]? = some r ∧ r.started = true ∧ r.sentAt + max 1 (s.get F.MGMT_PROXY_TIMEOUT) ≤ s.now
         ∧ ∀ q ∈ (s.ck 1).mbox, q.started = true ∨ q.proxy = none) := by
  unfold State.powered State.shaped; decide +kernel

theorem witness_RegisterAccess :
    (∃ r, rowAt (A.MC_ARB 15) = some r ∧ r.rw.testBit 0 = true) ∧ (∃ r, rowAt (A.CAD_STATUS) = some r ∧ r.rw.testBit 0 = false)
    ∧ (W.powered ∧ 15 < 16 ∧ W.boot.recovery = false ∧ bits (2 : Word) 2 2 = 0 ∧ bits (2 : Word) 1 1 = 1)
    ∧ (let s := withF mapped [(F.DW_ADDR_ADDR 1 3, 255)]
       1 < 2 ∧ 3 < 4 ∧ s.place (s.get (F.DW_ADDR_ADDR 1 3) / 8 * 8) = .near 0 248 ∧ s.serves (entMc (0 / 32)) = true ∧ s.pcRetired 0 = false)
    ∧ (let s := withFuse (fun f => { f with s0 := true }) W
       s.powered ∧ s.boot.recovery = false ∧ s.fuse.s0 = true ∧ 0x11FFFFFFFFF8 < 0x120000000000 ∧ 0x11FFFFFFFFF8 % 8 = 0) := by
  refine ⟨⟨_, rfl, by decide +kernel⟩, ⟨_, rfl, by decide +kernel⟩, ?_⟩
  unfold State.powered; decide +kernel

theorem witness_StepKeepsShape : W.shaped ∧ ∃ t, step W = .next t := ⟨by unfold State.shaped; decide +kernel, _, rfl⟩

theorem witness_BeaconsAndDeadlines :
    (let s := withF W [(F.SPK_CAD_DELAY_VALID 11, 1), (F.CAD_CTRL_BEACON_EN, 1)]
     let b := mkWord [(7, 4, 3), (3, 3, 1)]
     (s.get (F.SPK_CAD_DELAY_VALID 11) = 1 ∧ s.get F.CAD_CTRL_BEACON_EN = 1 ∧ bits b 3 3 = 1 ∧ bits b 7 4 ≤ 3)
       ∧ ¬ bits (mkWord [(7, 4, 4), (3, 3, 1)]) 7 4 ≤ 3 ∧ (withF s [(F.CAD_STATUS_SYNC, 1)]).get F.CAD_STATUS_SYNC ≠ 0
       ∧ (withCad (fun c => { c with refPresent := false }) s).get F.CAD_STATUS_SYNC = 0
       ∧ (withCad (fun c => { c with refPresent := false }) s).cad.refPresent = false)
    ∧ (let s := atT (2 ^ 47) W
       (0 % 2 ^ 48 = 2 ^ 48 % 2 ^ 48 ∧ s.now ≤ 0 + 2 ^ 47 ∧ 0 < s.now + 2 ^ 47)
         ∧ (2 ^ 48 - 1) % 2 ^ 48 = 2 ^ 48 - 1 ∧ s.now ≤ 2 ^ 48 - 1 + 2 ^ 47 ∧ 2 ^ 48 - 1 < s.now + 2 ^ 47) := by
  decide +kernel

/-! ## Single commands, with results worked out from the spec -/

/-- R46: the next slot boundary after tick 1 is at tick 256. -/
theorem test_slotBoundary : after .slotBoundary (atT 1 W) (fun t => t.now == 256 && t.slot == 1) = true := by decide +kernel

/-- R51, R56: CAD_LOAD with SYNC UNSET keeps the epoch number for the next pulse; with SYNC REF it is ignored. -/
theorem test_cadLoad : after (.cadLoad 3) W (fun t => t.now == 0 && t.cad.loadPending == some 3) = true
    ∧ after (.cadLoad 3) (withF W [(F.CAD_STATUS_SYNC, 1)]) (fun t => t.cad.loadPending == none) = true := by decide +kernel

/-- R65: half a wrap ahead of the count, a field names the value before it. -/
theorem test_deadline : (atT (2 ^ 48 + 5) W).extend48 4 = 2 ^ 48 + 4 ∧ (atT 5 W).extend48 (2 ^ 48 - 1) = 2 ^ 48 - 1 := by decide +kernel

/-- R107: CORE_RUN takes a STOPPED core in MODE FREE to RUNNING at PC 0. -/
theorem test_coreRun : after (.coreRun 0) (withCore 0 (fun c => { c with pc := 9 }) W) (fun t => (t.coreAt 0).state == 1 && (t.coreAt 0).pc == 0) = true := by
  decide +kernel

/-- R78: NEXT goes to the next address; R100: a core does not issue a control word with an uncorrectable error. -/
theorem test_next : after (.next 0 0) (issuing 0) (fun t => (t.coreAt 0).state == 1 && (t.coreAt 0).pc == 1) = true
    ∧ after (.next 0 2) (issuing 0) (fun t => (t.coreAt 0).pc == 0) = true := by decide +kernel

/-- R120: 1.0 is 38h in E4M3 and 3Ch in E5M2, 3F80h in BF16. R121: LNS8 code 64 is 2^0 and 72 is 2^1. -/
theorem test_formats : (encodeFmt 3 .near (f32 0x3F800000)).1 = 0x38 ∧ (encodeFmt 4 .near (f32 0x3F800000)).1 = 0x3C
    ∧ (encodeFmt 8 .near (f32 0x3F800000)).1 = 0x3F80
    ∧ lf8.exp8 64 = 0 ∧ lf8.exp8 72 = 8 ∧ fracTable.length = 16 := by decide +kernel

/-- R170: an atomic add is an FP32 addition: 1 + 2 = 3 in FP32; ties to even at 2^24 + 1. -/
theorem test_atomic : (atomicSum (bytesOf 4 0x3F800000) (bytesOf 4 0x40000000)).1 = bytesOf 4 0x40400000
    ∧ (atomicSum (bytesOf 4 0x4B800000) (bytesOf 4 0x3F800000)).1 = bytesOf 4 0x4B800000 := by decide +kernel

/-- R235: addresses of a region over two pseudo-channels turn over every 256 bytes. -/
theorem test_decodeMap : decodeMap [⟨0, 0, 2, 1, [5, 9]⟩] 0x100 = some (9, 2 * 2 ^ 20) ∧ decodeMap [⟨0, 0, 2, 1, [5, 9]⟩] 0x2FF = some (5, 2 * 2 ^ 20 + 0x1FF) := by
  decide +kernel

/-- R279: a WRITE delivered to this module stores its payload at its address. -/
theorem test_pktWrite : after .pktWrite (got (toMem 1 224) mapped) (fun t => t.near.load 224 32 == pay32 && t.rt.held == []) = true := by decide +kernel

/-- R282, R283: a packet whose header check fails is dropped, its buffer credited, and HDR_CHECK counts. -/
theorem test_packetHop : after (.packetHop 0 0 { packetTo 5 0 with w1 := 1 }) routed
      (fun t => t.get F.RT_STAT_HDR_CHECK == 1 && t.rt.held == [] && t.sent.length == 1) = true
    ∧ after (.packetHop 0 0 (packetTo 5 0)) routed (fun t => t.sent.length == 2) = true := by decide +kernel

/-- R389: two ends agree on the highest major version both have, and on the lower of its minor versions. -/
theorem test_agree : agreeVersion spokeTab 0xFFFFF2FF = some (2, 2) ∧ agreeVersion spokeTab 0xFFFFFF0F = some (1, 0)
    ∧ agreeVersion colokTab 0xFFF00000 = some (3, 0) := by decide +kernel

/-- R327: a round past its deadline closes. R340: the master releases when all have arrived. -/
theorem test_rounds : after (.roundClose 15 1) (atT 1 (oneRound (openRound 1) (active kReduce 0))) (fun t => (t.cx 15).rounds.map (·.phase) == [1]) = true
    ∧ after (.pelotonMasterRelease 15) (atT 256 (active kPeloton 0)) (fun t => t.pgen 15 == 1) = true := by decide +kernel

/-- R398, R404: a READ of CAD_STATUS joins the mailbox and is answered OK with the register's word. -/
theorem test_colok : after (.read 1 (opFrame 2)) served (fun t => (t.ck 1).mbox.length == 1) = true
    ∧ after (.requestComplete 1 0) (served fun k => { k with mbox := [askRead] })
        (fun t => (t.ck 1).mbox == [] && t.sent.length == 1) = true := by decide +kernel

/-- R387: a detected engine takes its port from DETECT to the laser's phase; a removed engine takes it to NONE. -/
theorem test_engine : after (.engineDetected 13 ⟨mkWord [(63, 56, 1)], 0, []⟩) (withPort 13 1 id W) (fun t => t.phase 13 == 2) = true
    ∧ after (.engineRemoved 13) (withPort 13 7 id W) (fun t => t.phase 13 == 0) = true := by decide +kernel

/-- R292: BANK_COMMIT makes a FREE bank LIVE. -/
theorem test_bank : after (.bankCommit 1 3) (withF W [(F.RT_NODE_ID_VALID, 1)]) (fun t => t.bankState 1 == 1 && t.bankTag 1 == 3) = true := by decide +kernel

/-- R14: a write leaves a RO field as it is. -/
theorem test_registers : after (.registerWrite (A.MC_ARB 15) (-1)) W (fun t => t.get F.MODULE_STATE_STATE == 3) = true
    ∧ after (.registerWrite A.MODULE_STATE (-1)) W (fun t => t.get F.MODULE_STATE_STATE == 3) = true := by decide +kernel

/-- R203: SEQ_START holds the armed slot. R204: RUN ends in REDUCE when every STEP core is HALTED. -/
theorem test_sequencer : after (.seqStartArm 2) (planned W) (fun t => t.get F.SEQ_START_ARMED == 1 && t.get F.SEQ_START_START_SLOT == 2) = true
    ∧ after .stepCoresHalted (withCore 0 (fun c => { c with state := 4 }) (withF W [(F.SEQ_STATE_STATE, 2), (F.CORE_CTRL_MODE 0, 1)]))
        (fun t => t.get F.SEQ_STATE_STATE == 3) = true := by decide +kernel


end Sys2Proof.Tests
end

/-! Beacons and deadlines (R55, R56, R65): when the cadence unit accepts a beacon, what it then keeps of it, the count it takes from one
in UNSET, and the tick a 48-bit deadline field names. -/
namespace Sys2Proof.Machine

/-! ## Fields of one bit -/

/-- A field of one bit is set exactly when it reads 1. -/
theorem State.on_iff_eq_one (s : State) (f : Field) (h : f.hi = f.lo) : s.on f = true ↔ s.get f = 1 := by
  have hlt : s.get f < 2 := by simpa [h] using s.get_lt f
  rw [State.on_iff]
  omega

/-! ## Acceptance of a beacon -/

/-- The guard of `State.beaconIn`: the cadence unit accepts beacon `b` from `port` (R55). -/
def State.acceptsBeacon (s : State) (port : Nat) (b : Word) : Bool :=
  s.on (F.SPK_CAD_DELAY_VALID port) && s.on F.CAD_CTRL_BEACON_EN && bits b 3 3 == 1 && decide (bits b 7 4 ≤ 3)

/-- The time of a beacon in data-plane cycles, 20 to the tick: SLOT × 256 ticks plus the port's DELAY (R55). -/
def State.beaconTime (s : State) (port : Nat) (b : Word) : Nat :=
  bits b 63 8 * 256 * 20 + s.get (F.SPK_CAD_DELAY_DELAY port)

theorem State.acceptsBeacon_iff (s : State) (port : Nat) (b : Word) :
    s.acceptsBeacon port b = true ↔ s.get (F.SPK_CAD_DELAY_VALID port) = 1 ∧ s.get F.CAD_CTRL_BEACON_EN = 1
      ∧ bits b 3 3 = 1 ∧ bits b 7 4 ≤ 3 := by
  have hvalid := s.on_iff_eq_one (F.SPK_CAD_DELAY_VALID port) rfl
  have hen := s.on_iff_eq_one F.CAD_CTRL_BEACON_EN rfl
  simp [State.acceptsBeacon, hvalid, hen, and_assoc]

theorem State.beaconIn_of_not_accepted (s : State) (port tick cycle : Nat) (b : Word) (h : ¬ s.acceptsBeacon port b = true) :
    s.beaconIn port tick cycle b = s :=
  if_neg h

/-! ## The record kept of an accepted beacon -/

@[simp] theorem State.alignCheck_beacons (s : State) : s.alignCheck.cad.beacons = s.cad.beacons := by
  unfold State.alignCheck
  split
  · dsimp only
    split <;> rfl
  · rfl

@[simp] theorem State.regain_beacons (s : State) : s.regain.cad.beacons = s.cad.beacons := by
  unfold State.regain
  split
  · rfl
  · exact s.alignCheck_beacons

@[simp] theorem State.enterBeacon_beacons (s : State) (p : PortBeacon) : (s.enterBeacon p).cad.beacons = s.cad.beacons := by
  simp [State.enterBeacon]

/-- Outside UNSET an accepted beacon replaces the port's record, whatever the source of time does with it: the record holds the tick of
arrival, the beacon's time against the cycle of arrival, and its HOPS. -/
theorem State.beaconIn_beacons (s : State) (port tick cycle : Nat) (b : Word) (ht : tick ≤ s.now)
    (h : s.acceptsBeacon port b = true) (hsync : s.sync ≠ syUnset) :
    (s.beaconIn port tick cycle b).cad.beacons
      = ⟨port, tick, (s.beaconTime port b : Int) - ((tick * 20 + cycle : Nat) : Int), bits b 7 4⟩
        :: s.cad.beacons.filter fun p => p.port != port := by
  have htick : s.now - (s.now - tick) = tick := by omega
  have hbranch : s.beaconIn port tick cycle b = _ := (if_pos h).trans (if_neg hsync)
  rw [hbranch]
  dsimp only
  rw [htick]
  split
  case isTrue => -- REF: at most BEACON_DISAGREE counts
    split <;> simp [State.beaconTime]
  case isFalse =>
    split
    case isTrue => simp [State.beaconTime] -- FREE_RUN: the beacon becomes the source
    case isFalse =>
      split
      · simp [State.beaconTime] -- BEACON, from the source port
      · rfl -- BEACON, from another port

/-! ## The count taken from a beacon -/

/-- In UNSET without CADREF the count becomes the beacon's time in whole ticks, carried on from the tick of arrival to the present one
(R56). -/
theorem State.beaconIn_now_of_unset (s : State) (port tick cycle : Nat) (b : Word) (h : s.acceptsBeacon port b = true)
    (hsync : s.sync = syUnset) (href : s.cad.refPresent = false) :
    (s.beaconIn port tick cycle b).now = (s.beaconTime port b / 20 + (s.now - tick)) % 2 ^ 64 := by
  have hbranch : s.beaconIn port tick cycle b = _ := (if_pos h).trans (if_pos hsync)
  rw [hbranch, if_neg (by simp [href])]
  rfl

/-! ## Deadlines -/

/-- A value less than 2^47 after the count, or at most 2^47 before it, is the one its low 48 bits name (R65). -/
theorem State.extend48_eq (s : State) (t x : Nat) (hlow : x % 2 ^ 48 = t % 2 ^ 48) (hbefore : s.now ≤ x + 2 ^ 47)
    (hafter : x < s.now + 2 ^ 47) : s.extend48 t = x := by
  unfold State.extend48
  dsimp only
  split
  case isTrue hbelow => -- the field names a value after the count's own wrap
    omega
  case isFalse hbelow =>
    split
    case isTrue habove => -- the field names a value of the wrap before
      omega
    case isFalse habove =>
      omega

/-- Settles O60: the guard of `beaconIn` is R55's condition; the record kept and the count set hold the beacon's time. -/
theorem beaconsAndDeadlines : Obligations.BeaconsAndDeadlines := by
  unfold Obligations.BeaconsAndDeadlines
  refine ⟨fun s port tick cycle b ht => ?_, State.extend48_eq⟩
  dsimp only
  rw [← s.acceptsBeacon_iff port b]
  refine ⟨s.beaconIn_of_not_accepted port tick cycle b, fun h hsync => ?_, fun h => s.beaconIn_now_of_unset port tick cycle b h⟩
  rw [s.beaconIn_beacons port tick cycle b ht h hsync, List.map_cons, mapFind_cons, if_pos rfl]
  rfl

end Sys2Proof.Machine

/-! Scale slots (R132): the value of a UE8M4 slot, and what a write to the scale file leaves. -/
namespace Sys2Proof.Machine

/-! ## Scale slots (R132) -/

theorem ue8m4_of_lt (e f : Nat) (he : e < 255) (hf : f < 16) : ue8m4 (e * 16 + f) = (16 + f, (e : Int) - 131) := by
  have hexp : (e * 16 + f) / 16 % 256 = e := by omega
  have hfrac : (e * 16 + f) % 16 = f := by omega
  simp only [ue8m4, hexp, hfrac, Nat.min_eq_left (Nat.le_of_lt_succ he)]

/-- An exponent field of 255 acts as 254. -/
theorem ue8m4_of_top (f : Nat) (hf : f < 16) : ue8m4 (255 * 16 + f) = (16 + f, 254 - 131) := by
  have hexp : (255 * 16 + f) / 16 % 256 = 255 := by omega
  have hfrac : (255 * 16 + f) % 16 = f := by omega
  simp only [ue8m4, hexp, hfrac]
  rfl

/-- The bits of a scale word that a write sets: 11:0 of each slot. -/
def slotBits : Word := 0x0FFF0FFF0FFF0FFF

theorem bits_and (v m : Word) (hi lo : Nat) : bits (v &&& m) hi lo = bits v hi lo &&& bits m hi lo := by
  apply Nat.eq_of_testBit_eq
  intro i
  simp only [bits, BitVec.toNat_and, Nat.testBit_and, Nat.testBit_mod_two_pow, Nat.testBit_div_two_pow]
  cases decide (i < hi + 1 - lo) <;> simp

theorem bits_lt (v : Word) (hi lo : Nat) : bits v hi lo < 2 ^ (hi + 1 - lo) := Nat.mod_lt _ (Nat.two_pow_pos _)

/-- Bits 15:12 of each slot of a masked word are zero. -/
theorem bits_slotBits_high (v : Word) (i : Nat) (hi : i < 4) : bits (v &&& slotBits) (16 * i + 15) (16 * i + 12) = 0 := by
  have hmask : ∀ k < 4, bits slotBits (16 * k + 15) (16 * k + 12) = 0 := by decide
  rw [bits_and, hmask i hi, Nat.and_zero]

/-- Bits 11:0 of each slot stay. -/
theorem bits_slotBits_low (v : Word) (i : Nat) (hi : i < 4) :
    bits (v &&& slotBits) (16 * i + 11) (16 * i) = bits v (16 * i + 11) (16 * i) := by
  have hmask : ∀ k < 4, bits slotBits (16 * k + 11) (16 * k) = 2 ^ 12 - 1 := by decide
  have hlt : bits v (16 * i + 11) (16 * i) < 2 ^ 12 := by
    simpa [show 16 * i + 11 + 1 - 16 * i = 12 by omega] using bits_lt v (16 * i + 11) (16 * i)
  rw [bits_and, hmask i hi, Nat.and_two_pow_sub_one_eq_mod, Nat.mod_eq_of_lt hlt]

/-! ## Words of the scale file in the register space (R156, R411) -/

/-- The window of core n (16 MiB each) and the offset in it. -/
theorem scaleWord_eq (n b j : Nat) :
    A.SCALE_WORD n b j = 0x200000000000 + 0x1000000 * n + (0xF08000 + 0x4000 * b + 8 * j) := by
  simp only [A.SCALE_WORD, coreReg]
  omega

/-- The row of the scale file among the core registers (R156). -/
def scaleWordRow : RegRow :=
  ⟨"SCALE_WORD", 0x8000, 0x4000, 2, 0x8, 2048, 0x0, 1, 0xFFFFFFFFFFFFFFFF, 0x0, 0x0, 0x0, 0x0, 0x7F007F007F007F0, 0x0, false⟩

section
variable {n b j : Nat} (hn : n < 100) (hb : b < 2) (hj : j < 2048)
include hn hb hj

theorem blockOf_scaleWord : blockOf (A.SCALE_WORD n b j) = (coreRows, 0x8000 + 0x4000 * b + 8 * j) := by
  have hoff : (0x200000000000 + 0x1000000 * n + (0xF08000 + 0x4000 * b + 8 * j) - 0x200000000000) % 0x1000000
    = 0xF08000 + 0x4000 * b + 8 * j := by omega
  have hrow : 0xF08000 + 0x4000 * b + 8 * j - 0xF00000 = 0x8000 + 0x4000 * b + 8 * j := by omega
  rw [scaleWord_eq]
  unfold blockOf sbReg collReg rtReg mgmtReg mapReg seqReg pageReg
  repeat rw [if_neg (by omega)]
  rw [if_pos (by omega)]
  dsimp only
  rw [hoff, hrow, if_pos (by simp; omega)]

theorem scaleWord_isRegister : (rowAt (A.SCALE_WORD n b j)).isSome = true := by
  unfold rowAt
  rw [blockOf_scaleWord hn hb hj, List.find?_isSome]
  refine ⟨scaleWordRow, List.mem_append_right _ (by decide), ?_⟩
  have hbank : (0x8000 + 0x4000 * b + 8 * j - 0x8000) / 0x4000 = b := by omega
  have hword : (0x8000 + 0x4000 * b + 8 * j - 0x8000 - b * 0x4000) / 8 = j := by omega
  simp [scaleWordRow, RegRow.hit, hbank, hword]
  omega

end

/-! ## A write to the scale file (R14, R108, R149) -/

/-- Below the Colok blocks no address is a data window's register (R407). -/
theorem windowAt_eq_none (a : Nat) (h : a < 0x300000040000) : windowAt a = none := by
  unfold windowAt
  rw [if_neg (by omega)]

theorem State.devWord_eq_word (s : State) (o : Origin) (a : Nat) (v : Option Word) (h : a < 0x300000040000) :
    s.devWord o a v = s.word o a v := by
  unfold State.devWord State.through
  rw [windowAt_eq_none a h]

theorem State.coreRegWrite_scale (s : State) (n b j : Nat) (v : Word) (hb : b < 2) (hlo : 32 ≤ j) (hj : j < 2048)
    (hauto : s.get (F.CONV_STATUS_AUTO_BUSY n) = 0) :
    s.coreRegWrite n (0x8000 + 0x4000 * b + 8 * j) v = .ok 0 (s.setReg (A.SCALE_WORD n b j) (v &&& slotBits)) := by
  have hon : s.on (F.CONV_STATUS_AUTO_BUSY n) = false := by simp [State.on, hauto]
  have haddr : coreReg n + (0x8000 + 0x4000 * b + 8 * j) = A.SCALE_WORD n b j := by
    simp only [A.SCALE_WORD]
    omega
  unfold State.coreRegWrite
  dsimp only
  repeat rw [if_neg (by omega)]
  rw [if_pos (by omega), hon, if_neg (by simp), if_neg (by omega), haddr]
  rfl

theorem State.coreWord_scale (s : State) (n b j : Nat) (v : Word) (hn : n < 100) (hb : b < 2) (hlo : 32 ≤ j) (hj : j < 2048)
    (hsite : s.siteEnabled n = true) (hserves : s.serves (entCore n) = true) (hrun : (s.coreAt n).state ≠ 1)
    (hwait : (s.coreAt n).state ≠ 2) (hauto : s.get (F.CONV_STATUS_AUTO_BUSY n) = 0) :
    s.coreWord n (0xF08000 + 0x4000 * b + 8 * j) (A.SCALE_WORD n b j) (some v)
      = .ok 0 (s.setReg (A.SCALE_WORD n b j) (v &&& slotBits)) := by
  have hmem : (decide (0xF08000 + 0x4000 * b + 8 * j < 0xA00000)
      || (decide (0xC00000 ≤ 0xF08000 + 0x4000 * b + 8 * j) && decide (0xF08000 + 0x4000 * b + 8 * j < 0xC40000))) = false := by
    simp
    omega
  have hoff : 0xF08000 + 0x4000 * b + 8 * j - 0xF00000 = 0x8000 + 0x4000 * b + 8 * j := by omega
  have hbig : ¬ 0xF08000 + 0x4000 * b + 8 * j < 0xF00000 := by omega
  simp [State.coreWord, hsite, hserves, hrun, hwait, hmem, hbig, hoff, scaleWord_isRegister hn hb hj,
    s.coreRegWrite_scale n b j v hb hlo hj hauto]

theorem execRegisterWrite_scale (s : State) (n b j : Nat) (v : Word) (hp : s.powered) (hn : n < 100) (hb : b < 2) (hlo : 32 ≤ j)
    (hj : j < 2048) (hrec : s.boot.recovery = false) (hsite : s.siteEnabled n = true) (hserves : s.serves (entCore n) = true)
    (hrun : (s.coreAt n).state ≠ 1) (hwait : (s.coreAt n).state ≠ 2) (hauto : s.get (F.CONV_STATUS_AUTO_BUSY n) = 0) :
    execRegisterWrite (A.SCALE_WORD n b j) v s = .next (s.setReg (A.SCALE_WORD n b j) (v &&& slotBits)) := by
  have haddr := scaleWord_eq n b j
  have hwin : (A.SCALE_WORD n b j - 0x200000000000) / 0x1000000 = n := by omega
  have hoff : (A.SCALE_WORD n b j - 0x200000000000) % 0x1000000 = 0xF08000 + 0x4000 * b + 8 * j := by omega
  have hword : s.devWord (colokOrigin 0) (A.SCALE_WORD n b j) (some v) = .ok 0 (s.setReg (A.SCALE_WORD n b j) (v &&& slotBits)) := by
    rw [s.devWord_eq_word _ _ _ (by omega)]
    unfold State.word
    rw [if_neg (by simp [hrec]), if_pos (by omega), hwin, hoff]
    exact s.coreWord_scale n b j v hn hb hlo hj hsite hserves hrun hwait hauto
  unfold execRegisterWrite
  rw [live_powered s _ hp.1 hp.2, registerWrite, if_neg (by omega), if_neg (by omega), State.portWord, hword]
  rfl

theorem sameBytes_setReg (s : State) (a : Nat) (w : Word) : sameBytes s (s.setReg a w) := by
  simp [sameBytes]

/-- Settles O34: the value of a slot field by field, and a write masked to bits 11:0 of each slot. -/
theorem scaleSlots : Obligations.ScaleSlots := by
  unfold Obligations.ScaleSlots
  refine ⟨ue8m4_of_lt, ue8m4_of_top, rfl, fun s n b j v hp hn hb hlo hj hrec hsite hserves hrun hwait hauto => ?_⟩
  refine ⟨_, execRegisterWrite_scale s n b j v hp hn hb hlo hj hrec hsite hserves hrun hwait hauto, fun i hi => ?_,
    fun a ha => s.reg_setReg_ne _ _ _ (by simpa using ha), sameBytes_setReg s _ _⟩
  rw [State.reg_setReg_self]
  exact ⟨bits_slotBits_high v i hi, bits_slotBits_low v i hi⟩

end Sys2Proof.Machine

/-! What an issue of a control word leaves of the cores (R78, R81): no operation of a bundle changes how many cores the module has, and
the core that issues goes on by one cycle and one issue. -/
namespace Sys2Proof.Machine

/-- A fold keeps what each of its steps keeps. -/
theorem foldl_keeps {α β : Type} (g : State → β) (f : State → α → State) (hf : ∀ s a, g (f s a) = g s) (l : List α) (s : State) :
    g (l.foldl f s) = g s :=
  l.foldlRecOn f (motive := fun t => g t = g s) rfl fun t ht a _ => (hf t a).trans ht

/-! ## Operations that leave the cores as they are -/

@[simp] theorem State.faultAt_cores (s : State) (code unit : Nat) (slow : Bool) (detail : Word) (time : Nat) :
    (s.faultAt code unit slow detail time).cores = s.cores := by
  unfold State.faultAt
  dsimp only
  split <;> rfl

@[simp] theorem State.fault_cores (s : State) (code unit : Nat) (slow : Bool) (detail : Word) :
    (s.fault code unit slow detail).cores = s.cores := by
  simp [State.fault]

@[simp] theorem State.faultKey_cores (s : State) (key code unit : Nat) (slow : Bool) (detail : Word) :
    (s.faultKey key code unit slow detail).cores = s.cores := by
  unfold State.faultKey
  split <;> simp

@[simp] theorem State.faultOnce_cores (s : State) (code unit : Nat) (slow : Bool) (detail : Word) :
    (s.faultOnce code unit slow detail).cores = s.cores := by
  simp [State.faultOnce]

@[simp] theorem State.seqErr_cores (s : State) (n : Nat) : (s.seqErr n).cores = s.cores := rfl

@[simp] theorem State.freeBytes_cores (s : State) (k : Nat) : (s.freeBytes k).2.cores = s.cores := rfl

@[simp] theorem State.addCounter_cores (s : State) (n c inc src : Nat) : (s.addCounter n c inc src).cores = s.cores := by
  unfold State.addCounter
  dsimp only
  split
  · simp
  · split <;> simp

/-! ### The fabric -/

@[simp] theorem State.giveCredit_cores (s : State) (src : Nat) (p : Packet) (cls : Nat) : (s.giveCredit src p cls).cores = s.cores := by
  unfold State.giveCredit
  split <;> rfl

@[simp] theorem State.transitDrop_cores (s : State) (src reason vc n : Nat) : (s.transitDrop src reason vc n).cores = s.cores := by
  simp [State.transitDrop]

@[simp] theorem State.unroutable_cores (s : State) (src : Nat) (p : Packet) (group : Bool) :
    (s.unroutable src p group).cores = s.cores := by
  simp [State.unroutable]

@[simp] theorem State.sendOut_cores (s : State) (p i r cls : Nat) : (s.sendOut p i r cls).cores = s.cores := by
  unfold State.sendOut
  split
  · rfl
  · dsimp only
    split <;> simp

@[simp] theorem State.dropFor_cores (s : State) (p : Nat) : (s.dropFor p).cores = s.cores := by
  unfold State.dropFor
  exact (foldl_keeps State.cores (fun s (h : Transit) => s.giveCredit h.src h.pkt h.cls) (fun s h => by simp) _ _).trans (by simp)

@[simp] theorem State.noteOutbid_cores (s : State) (p i : Nat) : (s.noteOutbid p i).cores = s.cores := rfl

/-- What every discarded copy and every copy sent keeps, `pump` keeps. The number of ports is a variable in the proof, so that no
comparison of terms runs through the twelve ports. -/
theorem State.pump_induct (P : State → Prop) (hdrop : ∀ s p, P s → P (s.dropFor p))
    (hsend : ∀ s p i r cls, P s → P ((s.noteOutbid p i).sendOut p i r cls)) (fuel : Nat) (s : State) (hs : P s) :
    P (State.pump fuel s) := by
  delta State.pump State.pump._f
  generalize 12 = ports
  induction fuel generalizing s with
  | zero => exact hs
  | succ fuel ih =>
    have hdrops : P (s.forN ports fun s p =>
        if s.rt.held.any (fun h => h.outs.any fun o => o.1 == p) && !s.unitReady (entPort p) then s.dropFor p else s) := by
      refine List.foldlRecOn _ _ hs fun s hs p _ => ?_
      split
      · exact hdrop s p hs
      · exact hs
    dsimp only
    split
    case h_1 p i r cls _ => exact ih _ (hsend _ p i r cls hdrops)
    case h_2 => exact hdrops

@[simp] theorem State.pump_cores (fuel : Nat) (s : State) : (State.pump fuel s).cores = s.cores :=
  State.pump_induct (fun t => t.cores = s.cores) (fun t p ht => by simp [ht]) (fun t p i r cls ht => by simp [ht]) fuel s rfl

@[simp] theorem State.pumpAll_cores (s : State) : s.pumpAll.cores = s.cores := State.pump_cores _ s

@[simp] theorem State.notePeak_cores (s : State) (src vc cls : Nat) : (s.notePeak src vc cls).cores = s.cores := by
  unfold State.notePeak
  split <;> rfl

@[simp] theorem State.enqueue_cores (s : State) (src cls : Nat) (p : Packet) (outs : List (Nat × Nat)) (loc : Bool) :
    (s.enqueue src cls p outs loc).cores = s.cores := by
  have hstale : ∀ b : Bool, (if b then s.bump F.SEQ_ERR_SPEC_DROP else s).cores = s.cores := fun b => by cases b <;> rfl
  unfold State.enqueue
  dsimp only
  split
  · rw [State.giveCredit_cores, hstale]
  · rw [State.pumpAll_cores, State.notePeak_cores]
    exact hstale _

@[simp] theorem State.route_cores (s : State) (src cls : Nat) (p : Packet) : (s.route src cls p).cores = s.cores := by
  unfold State.route
  split
  · simp
  · split -- multicast, then this module, then a route out
    · split <;> simp
    · split
      · simp
      · split
        · simp
        · split <;> simp

@[simp] theorem State.sendLocal_cores (s : State) (die : Nat) (x : Send) : (s.sendLocal die x).cores = s.cores := by
  unfold State.sendLocal
  dsimp only
  split <;> simp

@[simp] theorem State.sendSignal_cores (s : State) (n : Nat) (d : Word) : (s.sendSignal n d).cores = s.cores :=
  s.sendLocal_cores _ _

/-! ### Landing -/

@[simp] theorem State.setAccRow_cores (s : State) (n t r : Nat) (bs : List Byte) : (s.setAccRow n t r bs).cores = s.cores := rfl

@[simp] theorem State.setBit_cores (s : State) (f : Field) (i : Nat) : (s.setBit f i).cores = s.cores := rfl

@[simp] theorem State.landMac_cores (s : State) (n : Nat) (u : MacUpd) : (s.landMac n u).cores = s.cores := by
  unfold State.landMac
  extract_lets +onlyGivenNames cs s1 s2
  have hs2 : s2.cores = s.cores := by
    unfold s2
    split <;> simp [s1]
  split
  · rfl
  · split
    · exact hs2
    · dsimp only
      split_ifs <;> simp [hs2]

@[simp] theorem State.landCap_cores (s : State) (n h bank : Nat) (vals : List (Nat × Nat)) : (s.landCap n h bank vals).cores = s.cores := by
  unfold State.landCap
  refine foldl_keeps State.cores _ (fun s p => ?_) vals s
  simp [State.setHist]

/-! ### Vector engine -/

@[simp] theorem State.vecOperand_cores (s : State) (n : Nat) (c : Core) (w : Nat) (popped : List (Nat × List Byte)) (row src : Nat) :
    (s.vecOperand n c w popped row src).2.cores = s.cores := by
  unfold State.vecOperand
  dsimp only
  split
  · split <;> rfl
  · split
    · split <;> rfl
    · split
      · rfl
      · split <;> rfl

@[simp] theorem State.vecResult_cores (s : State) (n : Nat) (c : Core) (w : Nat) (popped : List (Nat × List Byte)) (row : Nat) :
    (s.vecResult n c w popped row).2.cores = s.cores := by
  unfold State.vecResult
  simp only []
  split_ifs <;> simp

/-! ## Operations that keep the number of cores -/

theorem State.setCore_length (s : State) (n : Nat) (c : Core) : (s.setCore n c).cores.length = s.cores.length := by simp

@[simp] theorem State.bfpStep_length (s : State) (n : Nat) (ci : ConvIn) : (s.bfpStep n ci).cores.length = s.cores.length := by
  unfold State.bfpStep
  dsimp only
  split
  · split <;> simp
  · rfl

@[simp] theorem State.convCount_cores (s : State) (n tag : Nat) (k : CvKind) : (s.convCount n tag k).cores = s.cores := by
  cases k <;> rfl

@[simp] theorem State.convert_length (s : State) (n b row : Nat) (ci : ConvIn) (draw : Nat → Nat) (i : Nat) (vs : List Nat) :
    (s.convert n b row ci draw i vs).st.cores.length = s.cores.length := by
  induction vs generalizing s i with
  | nil => rfl
  | cons v vs ih =>
    rw [State.convert]
    dsimp only
    rw [ih]
    simp

@[simp] theorem State.doLoad_length (s : State) (n w : Nat) (popped : List (Nat × List Byte)) :
    (s.doLoad n w popped).cores.length = s.cores.length := by
  unfold State.doLoad
  split <;> simp

@[simp] theorem State.doMac_length (s : State) (n w : Nat) (init : Bool) (popped : List (Nat × List Byte)) :
    (s.doMac n w init popped).cores.length = s.cores.length := by
  unfold State.doMac
  extract_lets +onlyGivenNames c tile new s1 held
  have hs1 : s1.cores = s.cores := by
    unfold s1
    split <;> rfl
  clear_value held
  cases held with
  | none => simp [hs1]
  | some h => simp [hs1]

@[simp] theorem State.loopOp_length (s : State) (n w : Nat) : (s.loopOp n w).cores.length = s.cores.length := by
  unfold State.loopOp
  dsimp only
  split
  · rfl
  · split <;> simp

@[simp] theorem State.swapAct_length (s : State) (n w : Nat) : (s.swapAct n w).cores.length = s.cores.length := by
  unfold State.swapAct
  split <;> simp

@[simp] theorem State.haltCore_length (s : State) (n : Nat) : (s.haltCore n).cores.length = s.cores.length := by
  unfold State.haltCore
  dsimp only
  split <;> simp

@[simp] theorem State.nextPc_length (s : State) (n : Nat) : (s.nextPc n).cores.length = s.cores.length := by
  unfold State.nextPc
  dsimp only
  split <;> simp

@[simp] theorem State.streamStart_length (s : State) (n d : Nat) : (s.streamStart n d).cores.length = s.cores.length := by
  unfold State.streamStart
  dsimp only
  split <;> simp

@[simp] theorem State.streamReserved_length (fuel : Nat) (s : State) (n : Nat) :
    (State.streamReserved fuel s n).cores.length = s.cores.length := by
  induction fuel generalizing s with
  | zero => rfl
  | succ fuel ih =>
    rw [State.streamReserved]
    dsimp only
    split
    · split
      · simp [ih]
      · rfl
    · rfl

@[simp] theorem State.localSig_length (s : State) (n ctr inc : Nat) : (s.localSig n ctr inc).cores.length = s.cores.length := by
  simp [State.localSig]

@[simp] theorem State.signalAct_length (s : State) (n k : Nat) : (s.signalAct n k).cores.length = s.cores.length := by
  unfold State.signalAct
  dsimp only
  split
  · split <;> simp
  · simp
  · simp
  · simp

@[simp] theorem State.seqAct_length (s : State) (n w : Nat) : (s.seqAct n w).cores.length = s.cores.length := by
  unfold State.seqAct
  dsimp only
  split
  · simp
  · split
    · simp
    · split <;> simp
  · simp
  · simp
  · simp

theorem State.commitBundle_length (s : State) (n w : Nat) : (s.commitBundle n w).cores.length = s.cores.length := by
  unfold State.commitBundle
  extract_lets +onlyGivenNames s0 v cv ci c ps
  split
  next popped c1 _ =>
  -- the pops, reserved encodings and draws
  extract_lets +onlyGivenNames s1 s2 s3 cnt seed nv nc s4
  have h1 : s1.cores.length = s.cores.length := by simp [s1]
  have h2 : s2.cores.length = s.cores.length := by simp only [s2]; split <;> simp [h1]
  have h3 : s3.cores.length = s.cores.length := by simp only [s3]; split <;> simp [h2]
  have h4 : s4.cores.length = s.cores.length := by simp [s4, h3]
  clear_value s4
  split -- the vector row, and the reads of this cycle
  next row ptr _ =>
  extract_lets +onlyGivenNames c4 s5 accUnit
  have h5 : s5.cores.length = s.cores.length := by simp [s5, h4]
  clear_value s5
  split
  next vbytes s6 hvec =>
  have h6 : s6.cores.length = s.cores.length := by
    have hs6 : _ = s6 := congrArg Prod.snd hvec
    rw [← h5, ← hs6]
    split
    · split <;> rfl
    · simp
  clear hvec
  -- the address generators' reads and writes, and the vector destination
  extract_lets +onlyGivenNames vlanes s7 s8 cc at8 vecPush fr s' ty s9
  have h7 : s7.cores.length = s.cores.length := by
    refine (foldl_keeps (fun t => t.cores.length) _ (fun t a => ?_) _ _).trans h6
    dsimp only
    split
    · split <;> simp
    · split <;> simp
  clear_value s7
  have h8 : s8.cores.length = s.cores.length := by
    refine (foldl_keeps (fun t => t.cores.length) _ (fun t a => ?_) _ _).trans h7
    dsimp only
    split <;> simp
  clear_value s8
  have hfr : fr.2.cores = s8.cores := by simp only [fr]; split <;> rfl
  have h9 : s9.cores.length = s.cores.length := by
    simp only [s9]
    split_ifs <;> simp [s', hfr, h8]
  clear_value s9
  -- the conversion
  extract_lets +onlyGivenNames unit
  split
  next convPush sc hconv =>
  have hsc : sc.cores.length = s.cores.length := by
    have hstate : _ = sc := congrArg Prod.snd hconv
    rw [← h9, ← hstate]
    split
    · rfl
    · dsimp only
      split_ifs <;> simp
  clear hconv
  -- the pushes and the tensor array
  extract_lets +onlyGivenNames out s10 t s11 s12
  have h10 : s10.cores.length = s.cores.length := by
    refine (foldl_keeps (fun t => t.cores.length) _ (fun t a => ?_) _ _).trans hsc
    split <;> simp
  clear_value s10
  have h11 : s11.cores.length = s.cores.length := by simp only [s11]; split <;> simp [h10]
  have h12 : s12.cores.length = s.cores.length := by simp only [s12]; split <;> simp [h11]
  simp [h12]

/-! ## What an issue leaves of a core's clock (R78, R81) -/

theorem State.coreAt_setCore_self (s : State) (n : Nat) (c : Core) (h : n < s.cores.length) : (s.setCore n c).coreAt n = c := by
  rw [State.coreAt, State.setCore_cores, List.getD_eq_getElem?_getD, List.getElem?_set_self h, Option.getD_some]

theorem State.setCore_of_length_le (s : State) (n : Nat) (c : Core) (h : s.cores.length ≤ n) : s.setCore n c = s := by
  rw [State.setCore, List.set_eq_of_length_le h]

/-- The number of cores, and the cycle and REP_IDX of core n. -/
def State.clock (s : State) (n : Nat) : Nat × Nat × Nat := (s.cores.length, (s.coreAt n).cyc, (s.coreAt n).rep)

theorem State.clock_congr {s t : State} (n : Nat) (h : t.cores = s.cores) : t.clock n = s.clock n := by
  rw [State.clock, State.clock, State.coreAt, State.coreAt, h]

theorem State.clock_setCore (s : State) (n : Nat) (c : Core) (hcyc : c.cyc = (s.coreAt n).cyc) (hrep : c.rep = (s.coreAt n).rep) :
    (s.setCore n c).clock n = s.clock n := by
  by_cases h : n < s.cores.length
  · rw [State.clock, State.clock, s.coreAt_setCore_self n c h, s.setCore_length, hcyc, hrep]
  · rw [s.setCore_of_length_le n c (by omega)]

theorem State.landOp_clock (s : State) (n : Nat) (op : PendOp) : (s.landOp n op).clock n = s.clock n := by
  cases op with
  | mac u => exact State.clock_congr n (s.landMac_cores n u)
  | vec t r bs => exact State.clock_congr n rfl
  | vreg r bs => exact s.clock_setCore n _ rfl rfl
  | store e bs => exact State.clock_congr n rfl
  | cap h b vs => exact State.clock_congr n (s.landCap_cores n h b vs)

/-- What completes meanwhile does not move a core's clock. -/
theorem State.settle_clock (s : State) (n t : Nat) : (s.settle n t).clock n = s.clock n := by
  refine (foldl_keeps (State.clock · n) _ (fun s (p : Pend) => s.landOp_clock n p.op) _ _).trans ?_
  exact s.clock_setCore n _ rfl rfl

/-- A word that passes its checks takes one cycle and counts one issue (R78, R81). -/
theorem State.bundle_clock (s : State) (n w : Nat) (hn : n < s.cores.length) (hbound : s.boundChecks n (s.coreAt n) w = [])
    (hpop : s.popChecks n (s.coreAt n) (s.pops n (s.coreAt n) w) = [])
    (hpush : s.pushChecks n (s.coreAt n) (s.pops n (s.coreAt n) w)
      (s.pushes n (s.coreAt n) w (vop s.fuse.s0 w) (s.convPushes n (s.coreAt n) w)) = []) :
    ((s.bundle n w).coreAt n).cyc = (s.coreAt n).cyc + 1
      ∧ ((s.bundle n w).coreAt n).rep = if (s.coreAt n).rep = cwRepeat w then 0 else (s.coreAt n).rep + 1 := by
  unfold State.bundle
  extract_lets +onlyGivenNames c ps us bad s1 s2 last s3
  have hbad : ¬ bad.length ≠ 0 := by simp [bad, ps, us, c, hbound, hpop, hpush]
  have h1 : s1.cores.length = s.cores.length := s.commitBundle_length n w
  have h2 : s2.cores.length = s.cores.length := by simp only [s2]; split <;> simp [h1]
  have h3 : s3.cores.length = s.cores.length := by simp only [s3]; split <;> simp [h2]
  rw [if_neg hbad, State.coreAt_setCore_self _ _ _ (h3 ▸ hn)]
  exact ⟨rfl, rfl⟩

/-! ## A command that issues a word -/

theorem State.issueIf_eq_bundle (s : State) (n w : Nat) (sel : Bool → Nat → Bool) (hi : s.issuesWord n w) (hw : s.noWait n w)
    (hsel : sel s.fuse.s0 w = true) : s.issueIf n sel = (s.atIssue n).bundle n w := by
  obtain ⟨-, -, -, hsite, hstate, hstop, hfetch⟩ := hi
  have hguard : (s.siteEnabled n && (s.coreAt n).state == 1 && (s.coreAt n).stopping.isNone) = true := by
    simp [hsite, hstate, hstop]
  have hwait : ¬ (seqOp w = 3 ∧ (s.coreAt n).rep = 0) := fun ⟨hop, hrep⟩ => hw.elim (· hop) (· hrep)
  unfold State.issueIf
  dsimp only
  rw [if_pos hguard, hfetch, if_pos hsel, if_neg hwait]
  rfl

/-- Every command that selects the word about to issue, issues it (R78, R81): shared by the operations of a control word. -/
theorem issueCmd_issues (s : State) (n w : Nat) (sel : Bool → Nat → Bool) (hi : s.issuesWord n w) (hp : s.passes n w)
    (hw : s.noWait n w) (hsel : sel s.fuse.s0 w = true) : ∃ t, issueCmd n sel s = .next t ∧ issuedWord s t n w := by
  obtain ⟨⟨hrails, hpin⟩, ⟨hcores, -⟩, hn, -⟩ := id hi
  obtain ⟨hlen, hclock⟩ := Prod.mk.inj (s.settle_clock n (s.coreAt n).cyc)
  obtain ⟨hcyc, hrep⟩ := Prod.mk.inj hclock
  have hlt : n < (s.atIssue n).cores.length := by
    unfold State.atIssue
    omega
  obtain ⟨hbound, hpop, hpush⟩ := hp
  obtain ⟨hcyc', hrep'⟩ := (s.atIssue n).bundle_clock n w hlt hbound hpop hpush
  refine ⟨(s.atIssue n).bundle n w, ?_, rfl, ?_, ?_⟩
  · rw [issueCmd, lively_powered s n 100 _ hn hrails hpin, s.issueIf_eq_bundle n w sel hi hw hsel]
  · rw [hcyc', State.atIssue, hcyc]
  · rw [hrep', State.atIssue, hrep]

end Sys2Proof.Machine

/-! The vector operation SCALE (R136): values packed into bytes read back, and each value of SCALE's result. -/
namespace Sys2Proof.Machine

/-! ## Packed values (R12, R119) -/

@[simp] theorem bytesOf_length (k v : Nat) : (bytesOf k v).length = k := by simp [bytesOf]

theorem bytesOf_succ (k v : Nat) : bytesOf (k + 1) v = BitVec.ofNat 8 v :: bytesOf k (v / 256) := by
  have hbyte : ∀ i, v / 2 ^ (8 * (i + 1)) = v / 256 / 2 ^ (8 * i) := fun i => by
    rw [Nat.div_div_eq_div_mul, Nat.mul_add, Nat.pow_add, Nat.mul_comm]
  simp [bytesOf, List.range_succ_eq_map, hbyte]

/-- k bytes of a number spell the number modulo 256^k. -/
theorem ofBytes_bytesOf (k v : Nat) : ofBytes (bytesOf k v) = v % 256 ^ k := by
  induction k generalizing v with
  | zero => simp [bytesOf, ofBytes, Nat.mod_one]
  | succ k ih => rw [bytesOf_succ, ofBytes, ih, Nat.pow_succ', Nat.mod_mul, BitVec.toNat_ofNat]

theorem take_drop_flatMap_bytesOf (k i : Nat) (vs : List Nat) (hi : i < vs.length) :
    ((vs.flatMap (bytesOf k)).drop (i * k)).take k = bytesOf k (vs.getD i 0) := by
  induction vs generalizing i with
  | nil => simp at hi
  | cons v vs ih =>
    cases i with
    | zero => simp [List.take_left']
    | succ i =>
      have hskip : (i + 1) * k = (bytesOf k v).length + i * k := by rw [bytesOf_length, Nat.succ_mul, Nat.add_comm]
      rw [List.flatMap_cons, hskip, List.drop_length_add_append, ih i (by simpa using hi), List.getD_cons_succ]

/-- Value i of a packed list of values of k bytes each is entry i modulo the width. -/
theorem valueAt_packValues (k i : Nat) (vs : List Nat) (hi : i < vs.length) :
    valueAt (packValues (8 * k) vs) (8 * k) i = vs.getD i 0 % 2 ^ (8 * k) := by
  have hw : ¬ 8 * k = 4 := by omega
  have hk : 8 * k / 8 = k := by omega
  simp only [valueAt, packValues, hw, if_false, hk]
  rw [take_drop_flatMap_bytesOf k i vs hi, ofBytes_bytesOf, Nat.pow_mul]

@[simp] theorem valuesOf_length (bs : List Byte) (w n : Nat) : (valuesOf bs w n).length = n := by simp [valuesOf]

theorem valuesOf_getD (bs : List Byte) (w n i : Nat) (hi : i < n) : (valuesOf bs w n).getD i 0 = valueAt bs w i := by
  simp [valuesOf, List.getD_eq_getElem?_getD, hi]

/-! ## The result of SCALE (R136) -/

/-- What SCALE makes of value a, value i of SRCA: the product with entry VMOD's factor, rounded to the VFMT format. -/
def State.scaledLane (s : State) (n w row i a : Nat) : Nat :=
  if cwVfmt w = 2 then (pairOf .near ((decodeFmt 0xD a).mul (s.factor n (s.bankOf n) (cwVmod w) i row))).1
  else (vForm (cwVfmt w)).round (((vForm (cwVfmt w)).ieee a).mul (s.factor n (s.bankOf n) (cwVmod w) i row))

theorem State.scaledLane_fp32 (s : State) (n w row i a : Nat) (hf : cwVfmt w = 0) :
    s.scaledLane n w row i a = ffF32.round ((f32 a).mul (s.factor n (s.bankOf n) (cwVmod w) i row)) := by
  rw [State.scaledLane, hf]
  rfl

theorem State.scaledLane_bf16 (s : State) (n w row i a : Nat) (hf : cwVfmt w = 1) :
    s.scaledLane n w row i a = ffBF16.round ((bf16 a).mul (s.factor n (s.bankOf n) (cwVmod w) i row)) := by
  rw [State.scaledLane, hf]
  rfl

theorem State.scaledLane_pair (s : State) (n w row i a : Nat) (hf : cwVfmt w = 2) :
    s.scaledLane n w row i a = (pairOf .near ((decodeFmt 0xD a).mul (s.factor n (s.bankOf n) (cwVmod w) i row))).1 :=
  if_pos hf

section
variable (s : State) (n : Nat) (c : Core) (w : Nat) (popped : List (Nat × List Byte)) (row : Nat) (hv : cwVop w = 19)
include hv

theorem State.vecResult_scale :
    (s.vecResult n c w popped row).1 = packValues (vWidth (cwVfmt w)) ((List.range (vLanes (cwVfmt w))).map fun i =>
      (s.vecOperand n c w popped row (cwVsrcA w)).2.scaledLane n w row i
        ((valuesOf (s.vecOperand n c w popped row (cwVsrcA w)).1 (vWidth (cwVfmt w)) (vLanes (cwVfmt w))).getD i 0)) := by
  simp [State.vecResult, hv, State.scaledLane]

/-- Value i of the result, for values of k bytes. -/
theorem State.valueAt_vecResult_scale (k i : Nat) (hk : vWidth (cwVfmt w) = 8 * k) (hi : i < vLanes (cwVfmt w)) :
    valueAt (s.vecResult n c w popped row).1 (8 * k) i
      = (s.vecOperand n c w popped row (cwVsrcA w)).2.scaledLane n w row i
          (valueAt (s.vecOperand n c w popped row (cwVsrcA w)).1 (8 * k) i) % 2 ^ (8 * k) := by
  rw [s.vecResult_scale n c w popped row hv, hk, valueAt_packValues k i _ (by simpa using hi)]
  rw [List.getD_eq_getElem?_getD, List.getElem?_map, List.getElem?_range hi, Option.map_some, Option.getD_some,
    valuesOf_getD _ _ _ i hi]

end

/-- Settles O35: the command issues the word, and each value of the result is the rounded product of SRCA's. -/
theorem vectorScale : Obligations.VectorScale := by
  unfold Obligations.VectorScale
  refine fun s n w => ⟨fun hi hp hw hv => issueCmd_issues s n w _ hi hp hw (by simp [hv]), fun x c popped row hv => ?_⟩
  refine ⟨fun hf i hi => ?_, fun hf i hi => ?_, fun hf i hi => ?_⟩
  · have hlane := x.valueAt_vecResult_scale n c w popped row hv 4 i (by rw [hf]; rfl) (by rw [hf]; exact hi)
    rwa [State.scaledLane_fp32 _ n w row i _ hf] at hlane
  · have hlane := x.valueAt_vecResult_scale n c w popped row hv 2 i (by rw [hf]; rfl) (by rw [hf]; exact hi)
    rwa [State.scaledLane_bf16 _ n w row i _ hf] at hlane
  · have hlane := x.valueAt_vecResult_scale n c w popped row hv 8 i (by rw [hf]; rfl) (by rw [hf]; exact hi)
    rwa [State.scaledLane_pair _ n w row i _ hf] at hlane

end Sys2Proof.Machine

/-! Identity operations (R457 to R460, R467): what starts and ends one, the length of the attestation report, and the accesses of
ID_DATA. -/
namespace Sys2Proof.Machine

/-! ## Registers and memories after an update of the boot state -/

/-- The state with another boot state. -/
def State.setBoot (s : State) (x : Boot) : State := { s with boot := x }

@[simp] theorem State.setBoot_boot (s : State) (x : Boot) : (s.setBoot x).boot = x := rfl

/-- The boot state gives a register its default only through the image's settings (R15, R447). -/
theorem regDefault_setBoot (s : State) (x : Boot) (a : Nat) (h : x.settings = s.boot.settings) :
    regDefault (s.setBoot x) a = regDefault s a := by
  simp only [regDefault, imageValue, State.setBoot_boot, h]
  rfl

theorem State.reg_setBoot (s : State) (x : Boot) (a : Nat) (h : x.settings = s.boot.settings) : (s.setBoot x).reg a = s.reg a :=
  congrArg (mapFind s.regs a).getD (regDefault_setBoot s x a h)

theorem State.get_setBoot (s : State) (x : Boot) (f : Field) (h : x.settings = s.boot.settings) : (s.setBoot x).get f = s.get f :=
  congrArg (bits · f.hi f.lo) (s.reg_setBoot x f.addr h)

theorem sameBytes_refl (s : State) : sameBytes s s := by
  simp [sameBytes]

theorem regsBut_refl (l : List Nat) (s : State) : regsBut l s s := fun _ _ => rfl

theorem regsBut_set {l : List Nat} {s t : State} (h : regsBut l s t) (f : Field) (v : Nat) (hf : f.addr ∈ l) :
    regsBut l s (t.set f v) := fun a ha => by
  rw [t.reg_set_ne f v a fun e => ha (e ▸ hf), h a ha]

theorem regsBut_setBoot {l : List Nat} {s t : State} (h : regsBut l s t) (x : Boot) (hx : x.settings = t.boot.settings) :
    regsBut l s (t.setBoot x) := fun a ha => by
  rw [t.reg_setBoot x a hx, h a ha]

/-- An address other than the one written finds what it found. -/
theorem mapFind_put_ne {α : Type} [DecidableEq α] (l : List (Nat × α)) (a b : Nat) (v d : α) (h : b ≠ a) :
    mapFind (mapPut l a v d) b = mapFind l b := by
  have herase : mapFind (mapErase l a) a = none := by rw [mapFind_erase, if_pos rfl]
  unfold mapPut
  split
  · rw [mapFind_erase, if_neg h]
  · rw [mapFind_insert _ _ _ _ herase, if_neg h, mapFind_erase, if_neg h]

/-! ## The attestation report (R458) -/

@[simp] theorem padTo_length (n : Nat) (bs : List Byte) : (padTo n bs).length = n := by simp [padTo]

@[simp] theorem shakeBytes_length (n : Nat) (m : List Byte) : (shakeBytes n m).length = n := by simp [shakeBytes]

/-- The ledger head is 64 bytes, that of an empty ledger too (R456). -/
@[simp] theorem Ledger.head_length (l : Ledger) : l.head.length = 64 := by
  unfold Ledger.head
  split <;> simp

@[simp] theorem State.attestReport_length (s : State) : s.attestReport.length = 384 := by
  simp [State.attestReport, List.length_flatMap]

/-- The report and its 29,792-byte signature, as ID_DATA gives them with SEL 1. -/
def State.signedReport (s : State) : List Byte :=
  s.attestReport ++ (List.range 29792).map (Config.slhSign s.attestReport)

theorem State.signedReport_take (s : State) : s.signedReport.take 384 = s.attestReport :=
  List.take_left' s.attestReport_length

/-! ## The start of an operation (R459) -/

/-- The boot state as operation `op` starts: the report is empty, and an ATTEST forms the next one. -/
def State.idBegun (s : State) (op : Nat) : Boot :=
  { s.boot with idOp := some op, report := [], reportNext := if op = 1 then s.signedReport else [] }

theorem State.idStart_of_busy (s : State) (op : Nat) (h : s.get F.ID_STATUS_BUSY = 1) :
    s.idStart op = s.set F.ID_STATUS_RESULT 1 :=
  if_pos ((s.on_iff_eq_one F.ID_STATUS_BUSY rfl).mpr h)

theorem State.idStart_of_idle (s : State) (op : Nat) (h : s.get F.ID_STATUS_BUSY = 0) :
    s.idStart op = ((s.set F.ID_STATUS_BUSY 1).set F.ID_STATUS_DONE 0).setBoot (s.idBegun op) :=
  if_neg (by simp [State.on_iff, h])

/-- BUSY and DONE, written one after the other, each read as written. -/
theorem State.get_idBusyDone (s : State) (busy done : Nat) :
    ((s.set F.ID_STATUS_BUSY busy).set F.ID_STATUS_DONE done).get F.ID_STATUS_BUSY = busy % 2
      ∧ ((s.set F.ID_STATUS_BUSY busy).set F.ID_STATUS_DONE done).get F.ID_STATUS_DONE = done % 2 := by
  refine ⟨?_, State.get_set_self _ _ _ (by decide) (by decide)⟩
  rw [State.get_set_disjoint _ _ _ _ (by decide) (by decide) (by decide)]
  exact State.get_set_self _ _ _ (by decide) (by decide)

theorem regsBut_idBusyDone {s t : State} (h : regsBut [A.ID_STATUS] s t) (busy done : Nat) :
    regsBut [A.ID_STATUS] s ((t.set F.ID_STATUS_BUSY busy).set F.ID_STATUS_DONE done) :=
  regsBut_set (regsBut_set h _ _ (List.mem_singleton.mpr rfl)) _ _ (List.mem_singleton.mpr rfl)

theorem State.idStart_effect (s : State) (op : Nat) (h : s.get F.ID_STATUS_BUSY = 0) :
    (s.idStart op).get F.ID_STATUS_BUSY = 1 ∧ (s.idStart op).get F.ID_STATUS_DONE = 0 ∧ (s.idStart op).boot = s.idBegun op
      ∧ regsBut [A.ID_STATUS] s (s.idStart op) ∧ sameBytes s (s.idStart op) := by
  obtain ⟨hbusy, hdone⟩ := s.get_idBusyDone 1 0
  rw [s.idStart_of_idle op h]
  exact ⟨(State.get_setBoot _ _ _ rfl).trans hbusy, (State.get_setBoot _ _ _ rfl).trans hdone, rfl,
    regsBut_setBoot (regsBut_idBusyDone (regsBut_refl _ s) 1 0) _ rfl, sameBytes_refl s⟩

/-! ## The end of an ATTEST (R458) -/

/-- The boot state as an ATTEST ends: the report formed at its start is there to read. -/
def State.idAttested (s : State) : Boot :=
  { s.boot with idOp := none, report := s.boot.reportNext, reportNext := [] }

theorem idOpDone_of_attest (s : State) (h : s.boot.idOp = some 1) :
    idOpDone s = ((((s.setBoot { s.boot with idOp := none }).set F.ID_STATUS_BUSY 0).set F.ID_STATUS_DONE 1).setBoot
      s.idAttested).set F.ID_STATUS_RESULT 0 := by
  unfold idOpDone
  rw [h]
  rfl

theorem idOpDone_effect (s : State) (h : s.boot.idOp = some 1) :
    (idOpDone s).get F.ID_STATUS_BUSY = 0 ∧ (idOpDone s).get F.ID_STATUS_DONE = 1 ∧ (idOpDone s).get F.ID_STATUS_RESULT = 0
      ∧ (idOpDone s).boot = s.idAttested ∧ regsBut [A.ID_STATUS] s (idOpDone s) ∧ sameBytes s (idOpDone s) := by
  obtain ⟨hbusy, hdone⟩ := (s.setBoot { s.boot with idOp := none }).get_idBusyDone 0 1
  have hframe := regsBut_idBusyDone (regsBut_setBoot (regsBut_refl _ s) { s.boot with idOp := none } rfl) 0 1
  rw [idOpDone_of_attest s h]
  refine ⟨?busy, ?done, State.get_set_self _ _ _ (by decide) (by decide), rfl,
    regsBut_set (regsBut_setBoot hframe _ rfl) _ _ (List.mem_singleton.mpr rfl), sameBytes_refl s⟩
  case busy =>
    rw [State.get_set_disjoint _ _ _ _ (by decide) (by decide) (by decide)]
    exact (State.get_setBoot _ _ _ rfl).trans hbusy
  case done =>
    rw [State.get_set_disjoint _ _ _ _ (by decide) (by decide) (by decide)]
    exact (State.get_setBoot _ _ _ rfl).trans hdone

/-! ## The accesses of ID_DATA (R460, R467) -/

/-- The pointer goes on by one word inside the blob input. -/
theorem State.idPtr_advance (s : State) (h : s.get F.ID_PTR_WORD < 3756) :
    (s.wrapAdd F.ID_PTR_WORD 1).get F.ID_PTR_WORD = s.get F.ID_PTR_WORD + 1 :=
  (State.get_set_self _ _ _ (by decide) (by decide)).trans (Nat.mod_eq_of_lt (by change _ < 65536; omega))

theorem regsBut_idPtr {s t : State} (h : regsBut [A.ID_PTR] s t) : regsBut [A.ID_PTR] s (t.wrapAdd F.ID_PTR_WORD 1) :=
  regsBut_set h F.ID_PTR_WORD _ (List.mem_singleton.mpr rfl)

/-- The boot state with a word written at the pointer in the blob input. -/
def State.blobPut (s : State) (v : Word) : Boot :=
  { s.boot with blob := mapPut s.boot.blob (s.get F.ID_PTR_WORD) v 0 }

theorem State.idWrite_eq_blobPut (s : State) (v : Word) (hsel : s.get F.ID_PTR_SEL = 3) (hword : s.get F.ID_PTR_WORD < 3756) :
    s.idWrite v = (s.setBoot (s.blobPut v)).wrapAdd F.ID_PTR_WORD 1 :=
  congrArg (State.wrapAdd · F.ID_PTR_WORD 1) (if_pos ⟨hsel, hword⟩)

theorem State.idWrite_effect (s : State) (v : Word) (hsel : s.get F.ID_PTR_SEL = 3) (hword : s.get F.ID_PTR_WORD < 3756) :
    (mapFind (s.idWrite v).boot.blob (s.get F.ID_PTR_WORD)).getD 0 = v
      ∧ (∀ i, i ≠ s.get F.ID_PTR_WORD → mapFind (s.idWrite v).boot.blob i = mapFind s.boot.blob i)
      ∧ (s.idWrite v).get F.ID_PTR_WORD = s.get F.ID_PTR_WORD + 1 ∧ regsBut [A.ID_PTR] s (s.idWrite v)
      ∧ sameBytes s (s.idWrite v) := by
  have hptr : (s.setBoot (s.blobPut v)).get F.ID_PTR_WORD = s.get F.ID_PTR_WORD := s.get_setBoot _ _ rfl
  rw [s.idWrite_eq_blobPut v hsel hword]
  refine ⟨?here, fun i hi => mapFind_put_ne _ _ i v 0 hi, ?advance, ?frame, sameBytes_refl s⟩
  case here => exact (mapFind_put s.boot.blob _ _ v 0 (fun _ => 0) rfl).trans (if_pos rfl)
  case advance => rw [State.idPtr_advance _ (hptr ▸ hword), hptr]
  case frame => exact regsBut_idPtr (regsBut_setBoot (regsBut_refl _ s) _ rfl)

/-- An empty report reads as zero at every word. -/
theorem State.idRead_of_empty (s : State) (hsel : s.get F.ID_PTR_SEL = 1) (h : s.boot.report = []) : s.idRead.1 = 0 := by
  simp [State.idRead, hsel, h, wordAt, ofBytes]

/-! ## The commands of a powered module -/

section
variable (s : State) (hp : s.powered)
include hp

theorem exec_attest : exec .attest s = .next (s.idStart 1) := live_powered s (·.idStart 1) hp.1 hp.2

theorem exec_submit : exec .submit s = .next (s.idStart 2) := live_powered s (·.idStart 2) hp.1 hp.2

theorem exec_idOpDone : exec .idOpDone s = .next (idOpDone s) := live_powered s idOpDone hp.1 hp.2

theorem exec_idDataWrite (v : Word) : exec (.idDataAccess true v) s = .next (s.idWrite v) :=
  live_powered s (·.idWrite v) hp.1 hp.2

theorem exec_idDataRead (v : Word) : exec (.idDataAccess false v) s = .next (s.wrapAdd F.ID_PTR_WORD 1) :=
  live_powered s (·.wrapAdd F.ID_PTR_WORD 1) hp.1 hp.2

end

/-- Settles O22: an idle start empties the report and sets BUSY, a busy one sets RESULT alone, and each access of ID_DATA moves the
pointer on. -/
theorem identity : Obligations.Identity := by
  unfold Obligations.Identity
  refine fun s hp => ⟨fun hidle => ?attest, fun hidle => ?submit, fun hbusy => ?busy, fun hop => ?done,
    fun v hsel hword => ?write, s.idRead_of_empty, fun v hword => ?read⟩
  case attest =>
    obtain ⟨hbusy, hdone, hboot, hregs, hbytes⟩ := s.idStart_effect 1 hidle
    refine ⟨_, exec_attest s hp, hbusy, hdone, ?_⟩
    rw [hboot]
    exact ⟨rfl, rfl, s.signedReport_take, hregs, hbytes⟩
  case submit =>
    obtain ⟨hbusy, hdone, hboot, hregs, hbytes⟩ := s.idStart_effect 2 hidle
    refine ⟨_, exec_submit s hp, hbusy, hdone, ?_⟩
    rw [hboot]
    exact ⟨rfl, rfl, hregs, hbytes⟩
  case busy =>
    rw [exec_attest s hp, exec_submit s hp, s.idStart_of_busy 1 hbusy, s.idStart_of_busy 2 hbusy]
    exact ⟨rfl, rfl⟩
  case done =>
    obtain ⟨hbusy, hdone, hresult, hboot, hregs, hbytes⟩ := idOpDone_effect s hop
    refine ⟨_, exec_idOpDone s hp, hbusy, hdone, hresult, ?_⟩
    rw [hboot]
    exact ⟨rfl, rfl, hregs, hbytes⟩
  case write => exact ⟨_, exec_idDataWrite s hp v, s.idWrite_effect v hsel hword⟩
  case read => exact ⟨_, exec_idDataRead s hp v, s.idPtr_advance hword, rfl, regsBut_idPtr (regsBut_refl _ s), sameBytes_refl s⟩

end Sys2Proof.Machine

/-! What every step keeps: the fuses, the queue of the commands that wait, and the form of the register file, of the memories and of the
lists of parts (R2 to R4; log entry 1). `Keeps wr o s` says so of a state `s` that an operation made from `o`; with `wr` false it says too
that no memory was written. One lemma for each operation of the model, named after it and proved from the lemmas of those it calls, leads
    up
to `exec_keeps` and `step_keeps`, from which the four statements on every step follow. -/
namespace Sys2Proof.Machine

variable {wr : Bool}

/-- The memories of the module. -/
def State.mems (s : State) : Mem × List Mem × Mem × Mem × Mem × Mem × Mem := (s.near, s.far, s.stage, s.side, s.core, s.flashA, s.flashB)

theorem State.mems_eq_iff (s t : State) : s.mems = t.mems ↔ s.near = t.near ∧ s.far = t.far ∧ s.stage = t.stage ∧ s.side = t.side
    ∧ s.core = t.core ∧ s.flashA = t.flashA ∧ s.flashB = t.flashB := by
  simp only [State.mems, Prod.mk.injEq]

theorem sameBytes_of_mems {o s : State} (h : s.mems = o.mems) : sameBytes o s := by
  obtain ⟨h1, h2, h3, h4, h5, h6, h7⟩ := (State.mems_eq_iff s o).mp h
  exact ⟨fun _ => by rw [h1], fun _ _ => by rw [h2], fun _ => by rw [h3], fun _ => by rw [h4], fun _ => by rw [h5], fun _ => by rw [h6],
    fun _ => by rw [h7]⟩

/-- What every operation of the module keeps, from state `o` on: the fuses and the queue of commands stay as they are, and the register
file, the memories and the lists of parts keep their form. With `wr` false the memories are as they were. -/
structure Keeps (wr : Bool) (o s : State) : Prop where
  fuse : s.fuse = o.fuse
  pending : s.pending = o.pending
  regs : ascending o.regs = true → ascending s.regs = true
  mems : o.memsWf = true → s.memsWf = true
  parts : o.shaped → s.shaped
  same : wr = false → s.mems = o.mems

namespace Keeps

theorem refl (s : State) : Keeps wr s s := ⟨rfl, rfl, id, id, id, fun _ => rfl⟩

theorem trans {o s t : State} (h : Keeps wr o s) (h' : Keeps wr s t) : Keeps wr o t :=
  ⟨h'.fuse.trans h.fuse, h'.pending.trans h.pending, h'.regs ∘ h.regs, h'.mems ∘ h.mems, h'.parts ∘ h.parts,
    fun e => (h'.same e).trans (h.same e)⟩

theorem snd_eq {o t : State} {α : Type} {p : α × State} {a : α} (h : Keeps wr o p.2) (e : p = (a, t)) : Keeps wr o t := by
  rwa [e] at h

theorem fst_eq {o t : State} {α : Type} {p : State × α} {a : α} (h : Keeps wr o p.1) (e : p = (t, a)) : Keeps wr o t := by
  rwa [e] at h

theorem ite {o s t : State} {c : Prop} [Decidable c] (hs : Keeps wr o s) (ht : Keeps wr o t) : Keeps wr o (if c then s else t) := by
  split
  · exact hs
  · exact ht

theorem foldl {o : State} {α : Type} (f : State → α → State) (hf : ∀ s a, Keeps wr o s → Keeps wr o (f s a)) (l : List α) {s : State}
    (hs : Keeps wr o s) : Keeps wr o (l.foldl f s) :=
  l.foldlRecOn f (motive := Keeps wr o) hs fun s hs a _ => hf s a hs

/-- A fold over a value that carries a state. -/
theorem foldlOn {o : State} {α β : Type} (g : β → State) (f : β → α → β) (hf : ∀ b a, Keeps wr o (g b) → Keeps wr o (g (f b a)))
    (l : List α)
    {b : β} (hb : Keeps wr o (g b)) : Keeps wr o (g (l.foldl f b)) :=
  l.foldlRecOn f (motive := fun b => Keeps wr o (g b)) hb fun b hb a _ => hf b a hb

theorem forN {o s : State} (hs : Keeps wr o s) (n : Nat) (f : State → Nat → State) (hf : ∀ s i, Keeps wr o s → Keeps wr o (f s i)) :
    Keeps wr o (s.forN n f) :=
  foldl f hf _ hs

/-! ## Updates of one field -/

section
variable {o s : State} (hs : Keeps wr o s)
include hs

/-- Fields of which no form is asked. -/
theorem plain {cad : Cadence} {sb : Sideband} {pwr : Power} {led : Ledger} {boot : Boot} {staged drains : List (Nat × Nat)} {rt : Router}
    {map : MapState} {seq : Seq} {freeCtr undefGen : Nat} {sent : List Egress} :
    Keeps wr o { s with
      cad := cad, sb := sb, pwr := pwr, led := led, boot := boot, staged := staged, rt := rt, map := map, seq := seq, drains := drains
      freeCtr := freeCtr, undefGen := undefGen, sent := sent } :=
  ⟨hs.1, hs.2, hs.3, hs.4, hs.5, hs.6⟩

theorem with_regs (l : List (Nat × Word)) (hl : ascending s.regs = true → ascending l = true) : Keeps wr o { s with regs := l } :=
  ⟨hs.1, hs.2, hl ∘ hs.3, hs.4, hs.5, hs.6⟩

theorem with_mgmt (x : Mgmt) (hfq : x.fq.length = s.mgmt.fq.length) (hevq : x.evq.length = s.mgmt.evq.length) :
    Keeps wr o { s with mgmt := x } :=
  ⟨hs.1, hs.2, hs.3, hs.4, fun h => by simpa [State.shaped, hfq, hevq] using hs.5 h, hs.6⟩

theorem with_cores (l : List Core) (hl : l.length = s.cores.length) : Keeps wr o { s with cores := l } :=
  ⟨hs.1, hs.2, hs.3, hs.4, fun h => by simpa [State.shaped, hl] using hs.5 h, hs.6⟩
theorem with_mc (l : List MemCtl) (hl : l.length = s.mc.length) : Keeps wr o { s with mc := l } :=
  ⟨hs.1, hs.2, hs.3, hs.4, fun h => by simpa [State.shaped, hl] using hs.5 h, hs.6⟩
theorem with_ctx (l : List Ctx) (hl : l.length = s.ctx.length) : Keeps wr o { s with ctx := l } :=
  ⟨hs.1, hs.2, hs.3, hs.4, fun h => by simpa [State.shaped, hl] using hs.5 h, hs.6⟩
theorem with_upd (l : List Upd) (hl : l.length = s.upd.length) : Keeps wr o { s with upd := l } :=
  ⟨hs.1, hs.2, hs.3, hs.4, fun h => by simpa [State.shaped, hl] using hs.5 h, hs.6⟩
theorem with_re (l : List RowEng) (hl : l.length = s.re.length) : Keeps wr o { s with re := l } :=
  ⟨hs.1, hs.2, hs.3, hs.4, fun h => by simpa [State.shaped, hl] using hs.5 h, hs.6⟩
theorem with_opt (l : List Optic) (hl : l.length = s.opt.length) : Keeps wr o { s with opt := l } :=
  ⟨hs.1, hs.2, hs.3, hs.4, fun h => by simpa [State.shaped, hl] using hs.5 h, hs.6⟩
theorem with_colok (l : List ColokPort) (hl : l.length = s.colok.length) : Keeps wr o { s with colok := l } :=
  ⟨hs.1, hs.2, hs.3, hs.4, fun h => by simpa [State.shaped, hl] using hs.5 h, hs.6⟩

theorem with_far (l : List Mem) (hw : s.far.all Mem.wf = true → l.all Mem.wf = true) (hl : l.length = s.far.length) :
    Keeps true o { s with far := l } := by
  refine ⟨hs.1, hs.2, hs.3, fun h => ?_, fun h => by simpa [State.shaped, hl] using hs.5 h, nofun⟩
  have h := hs.4 h
  simp only [State.memsWf, Bool.and_eq_true] at h ⊢
  exact ⟨⟨⟨⟨⟨⟨h.1.1.1.1.1.1, hw h.1.1.1.1.1.2⟩, h.1.1.1.1.2⟩, h.1.1.1.2⟩, h.1.1.2⟩, h.1.2⟩, h.2⟩

theorem set_far (p : Nat) (m : Mem) (hm : (s.far.getD p {}).wf = true → m.wf = true) : Keeps true o { s with far := s.far.set p m } := by
  refine hs.with_far _ (fun h => ?_) (by simp)
  rw [List.all_eq_true] at h ⊢
  intro x hx
  have hp : (s.far.getD p {}).wf = true := by
    rw [List.getD_eq_getElem?_getD]
    rcases hq : s.far[p]? with _ | q
    · rfl
    · exact h q (List.mem_of_getElem? hq)
  rcases List.mem_or_eq_of_mem_set hx with hx | rfl
  · exact h x hx
  · exact hm hp
end
end Keeps

theorem State.memsWf_iff (s : State) : s.memsWf = true ↔ s.near.wf = true ∧ s.far.all Mem.wf = true ∧ s.stage.wf = true ∧ s.side.wf = true
    ∧ s.core.wf = true ∧ s.flashA.wf = true ∧ s.flashB.wf = true := by
  simp only [State.memsWf, Bool.and_eq_true, and_assoc]

namespace Keeps
section
variable {o s : State} (hs : Keeps wr o s)
include hs
theorem with_near (m : Mem) (hm : s.near.wf = true → m.wf = true) : Keeps true o { s with near := m } := by
  refine ⟨hs.1, hs.2, hs.3, fun h => ?_, hs.5, nofun⟩
  obtain ⟨h1, h2, h3, h4, h5, h6, h7⟩ := (State.memsWf_iff _).mp (hs.4 h)
  exact (State.memsWf_iff _).mpr ⟨hm h1, h2, h3, h4, h5, h6, h7⟩
theorem with_stage (m : Mem) (hm : s.stage.wf = true → m.wf = true) : Keeps true o { s with stage := m } := by
  refine ⟨hs.1, hs.2, hs.3, fun h => ?_, hs.5, nofun⟩
  obtain ⟨h1, h2, h3, h4, h5, h6, h7⟩ := (State.memsWf_iff _).mp (hs.4 h)
  exact (State.memsWf_iff _).mpr ⟨h1, h2, hm h3, h4, h5, h6, h7⟩
theorem with_side (m : Mem) (hm : s.side.wf = true → m.wf = true) : Keeps true o { s with side := m } := by
  refine ⟨hs.1, hs.2, hs.3, fun h => ?_, hs.5, nofun⟩
  obtain ⟨h1, h2, h3, h4, h5, h6, h7⟩ := (State.memsWf_iff _).mp (hs.4 h)
  exact (State.memsWf_iff _).mpr ⟨h1, h2, h3, hm h4, h5, h6, h7⟩
theorem with_core (m : Mem) (hm : s.core.wf = true → m.wf = true) : Keeps true o { s with core := m } := by
  refine ⟨hs.1, hs.2, hs.3, fun h => ?_, hs.5, nofun⟩
  obtain ⟨h1, h2, h3, h4, h5, h6, h7⟩ := (State.memsWf_iff _).mp (hs.4 h)
  exact (State.memsWf_iff _).mpr ⟨h1, h2, h3, h4, hm h5, h6, h7⟩
theorem with_flashA (m : Mem) (hm : s.flashA.wf = true → m.wf = true) : Keeps true o { s with flashA := m } := by
  refine ⟨hs.1, hs.2, hs.3, fun h => ?_, hs.5, nofun⟩
  obtain ⟨h1, h2, h3, h4, h5, h6, h7⟩ := (State.memsWf_iff _).mp (hs.4 h)
  exact (State.memsWf_iff _).mpr ⟨h1, h2, h3, h4, h5, hm h6, h7⟩
theorem with_flashB (m : Mem) (hm : s.flashB.wf = true → m.wf = true) : Keeps true o { s with flashB := m } := by
  refine ⟨hs.1, hs.2, hs.3, fun h => ?_, hs.5, nofun⟩
  obtain ⟨h1, h2, h3, h4, h5, h6, h7⟩ := (State.memsWf_iff _).mp (hs.4 h)
  exact (State.memsWf_iff _).mpr ⟨h1, h2, h3, h4, h5, h6, hm h7⟩

theorem setReg (a : Nat) (w : Word) : Keeps wr o (s.setReg a w) := hs.with_regs _ (ascending_put _ _ _ _)
theorem set (f : Field) (v : Nat) : Keeps wr o (s.set f v) := hs.setReg _ _
theorem add (f : Field) (n : Nat) : Keeps wr o (s.add f n) := hs.set _ _
theorem bump (f : Field) : Keeps wr o (s.bump f) := hs.add _ _
theorem wrapAdd (f : Field) (n : Nat) : Keeps wr o (s.wrapAdd f n) := hs.set _ _
theorem fresh : Keeps wr o s.fresh.2 := hs.plain
end
end Keeps

theorem Keeps.alert {s₀ s : State} (hs : Keeps wr s₀ s) (c : Nat) : Keeps wr s₀ (s.alert c) :=
  Keeps.ite hs (Keeps.ite (hs.set _ _).plain (hs.set _ _))

theorem Keeps.faultAt {s₀ s : State} (hs : Keeps wr s₀ s) (code unit : Nat) (slow : Bool) (detail : Word) (time : Nat) :
    Keeps wr s₀ (s.faultAt code unit slow detail time) :=
  Keeps.ite (hs.bump _) (hs.with_mgmt _ (by simp) (by simp))

theorem Keeps.fault {s₀ s : State} (hs : Keeps wr s₀ s) (code unit : Nat) (slow : Bool) (detail : Word) :
    Keeps wr s₀ (s.fault code unit slow detail) :=
  hs.faultAt _ _ _ _ _

theorem Keeps.faultKey {s₀ s : State} (hs : Keeps wr s₀ s) (key code unit : Nat) (slow : Bool) (detail : Word) :
    Keeps wr s₀ (s.faultKey key code unit slow detail) :=
  Keeps.ite hs ((hs.fault _ _ _ _).with_mgmt _ (by simp) (by simp))

theorem Keeps.faultOnce {s₀ s : State} (hs : Keeps wr s₀ s) (code unit : Nat) (slow : Bool) (detail : Word) :
    Keeps wr s₀ (s.faultOnce code unit slow detail) :=
  hs.faultKey _ _ _ _ _

theorem Keeps.post {s₀ s : State} (hs : Keeps wr s₀ s) (die : Nat) (e : Event) : Keeps wr s₀ (s.post die e) :=
  Keeps.ite (hs.bump _) (hs.with_mgmt _ (by simp) (by simp))

theorem Keeps.colokAlert {s₀ s : State} (hs : Keeps wr s₀ s) (before : Bool) : Keeps wr s₀ (s.colokAlert before) :=
  Keeps.ite (hs.alert _) hs

theorem Keeps.setMState {s₀ s : State} (hs : Keeps wr s₀ s) (m : Nat) : Keeps wr s₀ (s.setMState m) :=
  (Keeps.ite (Keeps.ite ((hs.set _ _).set _ _) (hs.set _ _)) ((Keeps.ite ((hs.set _ _).set _ _) (hs.set _ _)).alert _)).colokAlert _

theorem Keeps.reFollow {s₀ s : State} (hs : Keeps wr s₀ s) (n st : Nat) : Keeps wr s₀ (s.reFollow n st) :=
  Keeps.ite hs (Keeps.ite (hs.set _ _) (Keeps.ite (hs.set _ _) hs))

theorem Keeps.setUnit {s₀ s : State} (hs : Keeps wr s₀ s) (n st : Nat) : Keeps wr s₀ (s.setUnit n st) :=
  (((hs.set _ _).reFollow _ _).post _ _).colokAlert _

theorem Keeps.armStaged {s₀ s : State} (hs : Keeps wr s₀ s) (act slot : Nat) (armed : Bool) : Keeps wr s₀ (s.armStaged act slot armed) :=
  (hs.setReg _ _).plain

theorem Keeps.stagedDone {s₀ s : State} (hs : Keeps wr s₀ s) (act : Nat) : Keeps wr s₀ (s.stagedDone act) :=
  (hs.setReg _ _).plain

theorem Keeps.absentUnit {s₀ s : State} (hs : Keeps wr s₀ s) (unit a : Nat) : Keeps wr s₀ (s.absentUnit unit a) :=
  hs.fault _ _ _ _

/-! ### Cadence -/

theorem Keeps.alignCheck {s₀ s : State} (hs : Keeps wr s₀ s) : Keeps wr s₀ s.alignCheck :=
  Keeps.ite (Keeps.ite hs.plain (hs.plain.set _ _)) hs

theorem Keeps.regain {s₀ s : State} (hs : Keeps wr s₀ s) : Keeps wr s₀ s.regain :=
  Keeps.ite hs.plain hs.alignCheck

theorem Keeps.enterRef {s₀ s : State} (hs : Keeps wr s₀ s) (phase : Int) : Keeps wr s₀ (s.enterRef phase) :=
  (((hs.set _ _).set _ _).set _ _).plain.regain

theorem Keeps.enterBeacon {s₀ s : State} (hs : Keeps wr s₀ s) (b : PortBeacon) : Keeps wr s₀ (s.enterBeacon b) :=
  (((hs.set _ _).set _ _).set _ _).plain.regain

theorem Keeps.enterFreeRun {s₀ s : State} (hs : Keeps wr s₀ s) : Keeps wr s₀ s.enterFreeRun :=
  ((((hs.set _ _).set _ _).set _ _).set _ _).plain

theorem Keeps.setCount {s₀ s : State} (hs : Keeps wr s₀ s) (n : Nat) : Keeps wr s₀ (s.setCount n) :=
  hs.plain

theorem Keeps.refHere {s₀ s : State} (hs : Keeps wr s₀ s) : Keeps wr s₀ s.refHere :=
  Keeps.ite hs hs.plain

theorem Keeps.epochPulse {s₀ s0 : State} (hs0 : Keeps wr s₀ s0) : Keeps wr s₀ (epochPulse s0) := by
  unfold Machine.epochPulse
  extract_lets +onlyGivenNames s load
  have hs : Keeps wr s₀ s := hs0.refHere
  clear_value s load
  split
  · exact ((((hs.setCount _).set _ _).set _ _).set _ _).plain
  · extract_lets +onlyGivenNames on s1
    have h1 : Keeps wr s₀ s1 := Keeps.ite hs (hs.bump _)
    refine Keeps.ite ?_ h1
    extract_lets +onlyGivenNames off' on' src s2
    have h2 : Keeps wr s₀ s2 := h1.plain
    exact Keeps.ite (h2.set _ _).plain (Keeps.ite (Keeps.ite h2.plain (h2.plain.set _ _)) h2)

theorem Keeps.cadrefLost {s₀ s : State} (hs : Keeps wr s₀ s) : Keeps wr s₀ (cadrefLost s) := by
  unfold Machine.cadrefLost
  dsimp only
  refine Keeps.ite ?_ hs
  refine Keeps.ite ?_ ((hs.bump _).plain)
  split
  · exact (hs.bump _).plain.enterBeacon _
  · exact (hs.bump _).plain.enterFreeRun

theorem Keeps.cadrefRegained {s₀ s : State} (hs : Keeps wr s₀ s) (phase : Int) : Keeps wr s₀ (cadrefRegained phase s) :=
  Keeps.ite (hs.refHere.enterRef _) hs.refHere

theorem Keeps.beaconSourceTimeout {s₀ s : State} (hs : Keeps wr s₀ s) (phase : Int) : Keeps wr s₀ (beaconSourceTimeout phase s) := by
  unfold Machine.beaconSourceTimeout
  dsimp only
  refine Keeps.ite ?_ hs
  split
  · exact (hs.bump _).enterBeacon _
  · exact Keeps.ite (hs.enterRef _) hs.enterFreeRun

theorem Keeps.freeRunLimit {s₀ s : State} (hs : Keeps wr s₀ s) : Keeps wr s₀ (freeRunLimit s) := by
  unfold Machine.freeRunLimit
  dsimp only
  split
  · exact Keeps.ite hs.plain hs
  · exact hs

theorem Keeps.cadLoad {s₀ s : State} (hs : Keeps wr s₀ s) (epoch : Nat) : Keeps wr s₀ (cadLoad epoch s) :=
  Keeps.ite hs.plain hs

theorem Keeps.beaconIn {s₀ s : State} (hs : Keeps wr s₀ s) (port tick cycle : Nat) (b : Word) : Keeps wr s₀
    (s.beaconIn port tick cycle b) := by
  unfold State.beaconIn
  extract_lets +onlyGivenNames hops
  refine Keeps.ite ?_ hs
  extract_lets +onlyGivenNames time since off keep
  have hkeep : ∀ s o l, Keeps wr s₀ s → Keeps wr s₀ (keep s o l) := fun _ _ _ hs => hs.plain
  clear_value keep
  refine Keeps.ite (hkeep _ _ _ (Keeps.set ?_ _ _)) ?_
  · exact Keeps.ite (((hs.setCount _).set _ _).set _ _) ((((hs.setCount _).set _ _).set _ _).set _ _)
  · extract_lets +onlyGivenNames s1
    have h1 : Keeps wr s₀ s1 := hkeep _ _ _ hs
    exact Keeps.ite (Keeps.ite (h1.bump _) h1) (Keeps.ite (h1.enterBeacon _) (Keeps.ite (h1.set _ _).plain.alignCheck h1))

theorem Keeps.slew {s₀ s : State} (hs : Keeps wr s₀ s) : Keeps wr s₀ s.slew :=
  Keeps.ite hs (hs.plain.alignCheck)

theorem Keeps.takeOver {s₀ s : State} (hs : Keeps wr s₀ s) (lost : Nat) : Keeps wr s₀ (s.takeOver lost) :=
  (Keeps.ite (((hs.set _ _).set _ _).set _ _) (((hs.set _ _).set _ _).set _ _)).set _ _

theorem Keeps.mgmtTakeover {s₀ s : State} (hs : Keeps wr s₀ s) : Keeps wr s₀ (mgmtTakeover s) := by
  unfold Machine.mgmtTakeover
  split
  · exact Keeps.ite (hs.takeOver _) hs
  · exact hs

theorem Keeps.faultRecordWrite {s₀ s : State} (hs : Keeps wr s₀ s) (queue : Nat) : Keeps wr s₀ (faultRecordWrite queue s) := by
  unfold Machine.faultRecordWrite
  dsimp only
  split
  · exact hs
  · refine Keeps.ite ?_ ?_
    · refine Keeps.alert ?_ _
      refine Keeps.wrapAdd ?_ _ _
      refine Keeps.wrapAdd ?_ _ _
      refine (hs.with_mgmt _ (by simp) (by simp)).forN _ _ fun s i hs => ?_
      exact hs.setReg _ _
    · refine Keeps.wrapAdd ?_ _ _
      refine Keeps.wrapAdd ?_ _ _
      refine (hs.with_mgmt _ (by simp) (by simp)).forN _ _ fun s i hs => ?_
      exact hs.setReg _ _

/-! ### Counter -/

theorem Keeps.addCounter {s₀ s : State} (hs : Keeps wr s₀ s) (n c inc src : Nat) : Keeps wr s₀ (s.addCounter n c inc src) :=
  Keeps.ite ((hs.set _ _).fault _ _ _ _) (Keeps.ite ((hs.set _ _).fault _ _ _ _) (hs.set _ _))

/-! ### Router -/

theorem Keeps.setBank {s₀ s : State} (hs : Keeps wr s₀ s) (b st : Nat) : Keeps wr s₀ (s.setBank b st) :=
  hs.set _ _

theorem Keeps.unroutable {s₀ s : State} (hs : Keeps wr s₀ s) (src : Nat) (p : Packet) (group : Bool) : Keeps wr s₀
    (s.unroutable src p group) :=
  (hs.bump _).faultOnce _ _ _ _

theorem Keeps.transitDrop {s₀ s : State} (hs : Keeps wr s₀ s) (src reason vc n : Nat) : Keeps wr s₀ (s.transitDrop src reason vc n) :=
  hs.faultOnce _ _ _ _

theorem Keeps.giveCredit {s₀ s : State} (hs : Keeps wr s₀ s) (src : Nat) (p : Packet) (cls : Nat) : Keeps wr s₀
    (s.giveCredit src p cls) :=
  Keeps.ite hs.plain hs

theorem Keeps.sendOut {s₀ s : State} (hs : Keeps wr s₀ s) (p i r cls : Nat) : Keeps wr s₀ (s.sendOut p i r cls) := by
  unfold State.sendOut
  dsimp only
  split
  · exact hs
  · exact Keeps.ite (hs.plain.giveCredit _ _ _) hs.plain

theorem Keeps.dropFor {s₀ s : State} (hs : Keeps wr s₀ s) (p : Nat) : Keeps wr s₀ (s.dropFor p) := by
  unfold State.dropFor
  dsimp only
  refine Keeps.foldl _ (fun s x hs => ?_) _ ((hs.add _ _).transitDrop _ _ _ _).plain
  exact hs.giveCredit _ _ _

theorem Keeps.noteOutbid {s₀ s : State} (hs : Keeps wr s₀ s) (p i : Nat) : Keeps wr s₀ (s.noteOutbid p i) :=
  hs.plain

theorem Keeps.pump {s₀ s : State} (hs : Keeps wr s₀ s) (fuel : Nat) : Keeps wr s₀ (State.pump fuel s) :=
  State.pump_induct (Keeps wr s₀) (fun _ p h => h.dropFor p) (fun _ p i _ _ h => (h.noteOutbid p i).sendOut _ _ _ _) fuel s hs

theorem Keeps.pumpAll {s₀ s : State} (hs : Keeps wr s₀ s) : Keeps wr s₀ s.pumpAll :=
  (hs.pump _).plain

theorem Keeps.notePeak {s₀ s : State} (hs : Keeps wr s₀ s) (src vc cls : Nat) : Keeps wr s₀ (s.notePeak src vc cls) :=
  Keeps.ite hs.plain hs

theorem Keeps.enqueue {s₀ s : State} (hs : Keeps wr s₀ s) (src cls : Nat) (p : Packet) (outs : List (Nat × Nat)) (loc : Bool) :
    Keeps wr s₀ (s.enqueue src cls p outs loc) :=
  Keeps.ite ((Keeps.ite (hs.bump _) hs).giveCredit _ _ _) (((Keeps.ite (hs.bump _) hs).plain.notePeak _ _ _).pumpAll)

theorem Keeps.route {s₀ s : State} (hs : Keeps wr s₀ s) (src cls : Nat) (p : Packet) : Keeps wr s₀ (s.route src cls p) := by
  unfold State.route
  split
  · exact ((hs.bump _).faultOnce _ _ _ _).giveCredit _ _ _
  · refine Keeps.ite ?_ ?_
    · split
      · exact (hs.unroutable _ _ _).giveCredit _ _ _
      · exact hs.enqueue _ _ _ _ _
    · refine Keeps.ite (hs.enqueue _ _ _ _ _) ?_
      split
      · exact (hs.unroutable _ _ _).giveCredit _ _ _
      · exact Keeps.ite ((hs.unroutable _ _ _).giveCredit _ _ _) (hs.enqueue _ _ _ _ _)

theorem Keeps.packetHop {s₀ s : State} (hs : Keeps wr s₀ s) (port cls : Nat) (p : Packet) : Keeps wr s₀ (packetHop port cls p s) :=
  Keeps.ite hs (Keeps.ite (((hs.bump _).faultOnce _ _ _ _).giveCredit _ _ _) (hs.route _ _ _))

theorem Keeps.sendLocal {s₀ s : State} (hs : Keeps wr s₀ s) (die : Nat) (x : Send) : Keeps wr s₀ (s.sendLocal die x) := by
  unfold State.sendLocal
  dsimp only
  split
  · exact hs.unroutable _ _ _
  · exact hs.route _ _ _

theorem Keeps.sendSignal {s₀ s : State} (hs : Keeps wr s₀ s) (n : Nat) (d : Word) : Keeps wr s₀ (s.sendSignal n d) :=
  hs.sendLocal _ _

theorem Keeps.ageLimit {s₀ s : State} (hs : Keeps wr s₀ s) (src i : Nat) : Keeps wr s₀ (ageLimit src i s) := by
  unfold Machine.ageLimit
  dsimp only
  split
  · exact hs
  · split
    · exact hs
    · exact Keeps.ite hs ((((hs.plain.bump _).transitDrop _ _ _ _).giveCredit _ _ _).pumpAll)

theorem Keeps.creditReturn {s₀ s : State} (hs : Keeps wr s₀ s) (port buf beats : Nat) : Keeps wr s₀ (creditReturn port buf beats s) :=
  hs.plain.pumpAll

theorem Keeps.portFresh {s₀ s : State} (hs : Keeps wr s₀ s) (p : Nat) : Keeps wr s₀ (s.portFresh p) :=
  hs.plain

theorem Keeps.bankCommit {s₀ s : State} (hs : Keeps wr s₀ s) (b tag : Nat) : Keeps wr s₀ (bankCommit b tag s) :=
  Keeps.ite (hs.set _ _) ((hs.setBank _ _).set _ _).plain

theorem Keeps.bankDiscard {s₀ s : State} (hs : Keeps wr s₀ s) (b : Nat) : Keeps wr s₀ (bankDiscard b s) :=
  Keeps.ite (hs.setBank _ _) hs

theorem Keeps.bankRetire {s₀ s : State} (hs : Keeps wr s₀ s) (b : Nat) : Keeps wr s₀ (bankRetire b s) :=
  Keeps.ite (hs.setBank _ _) hs

theorem Keeps.sendSwitch {s₀ s : State} (hs : Keeps wr s₀ s) : Keeps wr s₀ (sendSwitch s) := by
  unfold Machine.sendSwitch
  dsimp only
  refine Keeps.ite hs ?_
  split
  · exact (hs.stagedDone _).set _ _
  · refine Keeps.plain ?_
    refine Keeps.set ?_ _ _
    refine Keeps.set ?_ _ _
    split
    · exact Keeps.ite (hs.stagedDone _) ((hs.stagedDone _).setBank _ _).plain
    · exact hs.stagedDone _

theorem Keeps.beatTimes {s₀ s : State} (hs : Keeps wr s₀ s) (waited : Bool) : Keeps wr s₀ (s.beatTimes waited).2 := by
  unfold State.beatTimes
  split
  · exact hs.fresh
  · exact hs

theorem Keeps.congSnap {s₀ s : State} (hs : Keeps wr s₀ s) : Keeps wr s₀ s.congSnap := by
  unfold State.congSnap
  dsimp only
  refine Keeps.plain ?_
  refine Keeps.forN ?_ _ _ fun s i hs => ?_
  · refine hs.forN _ _ fun s i hs => ?_
    refine hs.forN _ _ fun s i hs => ?_
    exact ((((hs.beatTimes _).beatTimes _).set _ _).set _ _).set _ _
  · refine hs.forN _ _ fun s i hs => ?_
    exact ((hs.beatTimes _).set _ _).set _ _

/-! ### Memory -/

theorem Keeps.applyMap {s₀ s : State} (hs : Keeps wr s₀ s) (rs : List Region) : Keeps wr s₀ (s.applyMap rs) := by
  unfold State.applyMap
  dsimp only
  refine Keeps.plain ?_
  refine Keeps.wrapAdd ?_ _ _
  refine Keeps.foldl _ (fun s x hs => ?_) _ hs
  exact hs.set _ _

theorem Keeps.countPcs {s₀ s : State} (hs : Keeps wr s₀ s) : Keeps wr s₀ s.countPcs :=
  hs.set _ _

theorem Keeps.setMemctl {s₀ s : State} (hs : Keeps wr s₀ s) (n : Nat) (c : MemCtl) : Keeps wr s₀ (s.setMemctl n c) :=
  hs.with_mc _ (by simp)

theorem Keeps.retired {s₀ s : State} (hs : Keeps wr s₀ s) (ent : Nat) : Keeps wr s₀ (s.retired ent) :=
  hs.faultOnce _ _ _ _

theorem Keeps.atomicRetired {s₀ s : State} (hs : Keeps wr s₀ s) (pc req a n : Nat) : Keeps wr s₀ (s.atomicRetired pc req a n) :=
  (hs.add _ _).faultKey _ _ _ _ _

theorem Keeps.grantMc {s₀ s : State} (hs : Keeps wr s₀ s) (n : Nat) : Keeps wr s₀ (s.grantMc n) :=
  hs.setMemctl _ _

theorem Keeps.eccNote {s₀ s : State} (hs : Keeps wr s₀ s) (n pc : Nat) (reads : Bool) (r : Burst) : Keeps wr s₀
    (s.eccNote n pc reads r) :=
  Keeps.ite (hs.add _ _) (Keeps.ite (((hs.add _ _).bump _).bump _) (((hs.add _ _).bump _).setMemctl _ _))

theorem Keeps.burst {s₀ s : State} (hs : Keeps wr s₀ s) (r : Option Burst) : Keeps wr s₀ (s.burst r).2 := by
  cases r with
  | none => exact hs.fresh
  | some r => exact hs

theorem Mem.wf_access (m : Mem) (a : Nat) (x : Access) (h : m.wf = true) : (m.access a x).2.1.wf = true := by
  cases x with
  | read n => exact h
  | write bs => exact m.wf_store a bs h
  | atomic bs => exact m.wf_store a _ h

theorem Keeps.nearAccess {s₀ s : State} (hs : Keeps true s₀ s) (o : Origin) (a pc off : Nat) (x : Access) (rep : Option Burst) :
    Keeps true s₀ (s.nearAccess o a pc off x rep).st := by
  unfold State.nearAccess
  dsimp only
  split
  · have hadd := Keeps.ite (c := x.isAtomic = true) (hs.atomicRetired pc (o.at (dieOfStack (pc / 32)) a) a x.size) hs
    exact Keeps.ite (hadd.retired _) hadd
  · have hmem := (hs.with_near _ (Mem.wf_access _ (pc * pcBytes + off) x)).burst rep
    exact ((hmem.grantMc _).eccNote _ _ _ _).add _ _

theorem Keeps.farAccess {s₀ s : State} (hs : Keeps true s₀ s) (a p off : Nat) (x : Access) (rep : Option Burst) :
    Keeps true s₀ (s.farAccess a p off x rep).st := by
  unfold State.farAccess
  extract_lets +onlyGivenNames dead beyond
  split
  · extract_lets +onlyGivenNames s1 s2
    have hs1 : Keeps true s₀ s1 := (Keeps.ite (hs.bump _) hs).bump _
    have hs2 : Keeps true s₀ s2 := Keeps.ite (hs1.faultOnce _ _ _ _) hs1
    exact Keeps.ite (hs2.retired _) hs2
  · have hfar := (hs.set_far p _ (Mem.wf_access _ off x)).burst rep
    exact (Keeps.ite (hfar.bump _) hfar).add _ _

theorem Keeps.memAccess {s₀ s : State} (hs : Keeps true s₀ s) (o : Origin) (a : Nat) (x : Access) (rep : optParam (Option Burst) none) :
    Keeps true s₀ (s.memAccess o a x rep).st := by
  unfold State.memAccess
  split
  · exact hs.nearAccess _ _ _ _ _ _
  · exact hs.bump _
  · exact hs.farAccess _ _ _ _ _
  · exact hs.absentUnit _ _
  · split
    · split
      · exact hs
      · exact hs
    · exact hs.retired _
  · exact hs

theorem Keeps.memRead {s₀ s : State} (hs : Keeps true s₀ s) (o : Origin) (a n : Nat) (rep : optParam (Option Burst) none) :
    Keeps true s₀ (s.memRead o a n rep).st := by
  unfold State.memRead
  dsimp only
  refine Keeps.foldlOn Done.st _ (fun r x hs => ?_) _ ?_
  · exact hs.memAccess _ _ _ _
  · exact hs

theorem Keeps.memPut {s₀ s : State} (hs : Keeps true s₀ s) (o : Origin) (atomic : Bool) (a : Nat) (bs : List Byte)
    (rep : optParam (Option Burst) none) :
    Keeps true s₀ (s.memPut o atomic a bs rep).st := by
  unfold State.memPut
  dsimp only
  refine Keeps.foldlOn Done.st _ (fun r x hs => ?_) _ ?_
  · exact hs.memAccess _ _ _ _
  · exact hs

theorem Keeps.stepWrote {s₀ s : State} (hs : Keeps wr s₀ s) (t a n : Nat) : Keeps wr s₀ (s.stepWrote t a n) :=
  Keeps.ite hs hs.plain

theorem Keeps.spoil {s₀ s0 : State} (hs : Keeps true s₀ s0) (a n : Nat) : Keeps true s₀ (s0.spoil a n) := by
  unfold State.spoil
  dsimp only
  refine Keeps.foldl _ (fun s x hs => ?_) _ hs.plain
  split
  · exact hs.with_near _ (Mem.wf_store _ _ _)
  · exact hs.set_far _ _ (Mem.wf_store _ _ _)
  · exact hs.with_stage _ (Mem.wf_store _ _ _)
  · exact hs

theorem Keeps.spoilStep {s₀ s : State} (hs : Keeps true s₀ s) (ts : List Nat) : Keeps true s₀ (s.spoilStep ts) := by
  unfold State.spoilStep
  dsimp only
  refine Keeps.plain ?_
  refine Keeps.foldl _ (fun s x hs => ?_) _ hs
  exact hs.spoil _ _

/-! ### Update -/

theorem Keeps.updGroup {s₀ s : State} (hs : Keeps true s₀ s) (n k g : Nat) : Keeps true s₀ (s.updGroup n k g) := by
  unfold State.updGroup
  extract_lets +onlyGivenNames o t u fresh d rs s1 c rule mf gf
  have hs1 : Keeps true s₀ s1 := by
    unfold s1 rs
    split
    · exact hs.memRead _ _ _ _
    · exact hs
  clear_value s1
  split
  next rp rm rv _ =>
  extract_lets +onlyGivenNames mw gw ap am av ax rd
  have hrd : ∀ s yes a w, Keeps true s₀ s → Keeps true s₀ (rd s yes a w).2 := fun s yes a w hs => by
    unfold rd
    split
    · exact hs.memRead _ _ _ _
    · exact hs
  clear_value rd
  split
  next bp s2 e2 =>
  have hs2 : Keeps true s₀ s2 := (hrd _ _ _ _ hs1).snd_eq e2
  split
  next bm s3 e3 =>
  have hs3 : Keeps true s₀ s3 := (hrd _ _ _ _ hs2).snd_eq e3
  split
  next bv s4 e4 =>
  have hs4 : Keeps true s₀ s4 := (hrd _ _ _ _ hs3).snd_eq e4
  split
  next bx s5 e5 =>
  have hs5 : Keeps true s₀ s5 := (hrd _ _ _ _ hs4).snd_eq e5
  exact ((((hs5.add _ _).set _ _).set _ _).set _ _).with_upd _ (by simp)

theorem Mem.wf_addMants (m : Mem) (sign : Int) (a : Nat) (bs : List Byte) (h : m.wf = true) : (m.addMants sign a bs).1.wf = true :=
  m.wf_store a _ h

theorem Keeps.updNext {s₀ s : State} (hs : Keeps true s₀ s) (n : Nat) : Keeps true s₀ (s.updNext n) := by
  unfold State.updNext
  dsimp only
  split
  · exact hs.updGroup _ _ _
  · exact Keeps.ite (((((hs.set _ _).set _ _).with_upd _ (by simp)).set _ _).set _ _)
      ((((hs.set _ _).set _ _).with_upd _ (by simp)).set _ _)

theorem Keeps.updStart {s₀ s : State} (hs : Keeps true s₀ s) (resume : Bool) : Keeps true s₀ (s.updStart resume) := by
  unfold State.updStart
  dsimp only
  refine (((hs.set _ _).set _ _).add _ _).forN _ _ fun s i hs => ?_
  exact Keeps.ite (hs.with_upd _ (by simp)) (((Keeps.ite hs (hs.setReg _ _)).with_upd _ (by simp)).updNext _)

theorem Keeps.updStop {s₀ s : State} (hs : Keeps wr s₀ s) : Keeps wr s₀ s.updStop :=
  hs.set _ _

theorem Keeps.stepWroteOut {s₀ s : State} (hs : Keeps wr s₀ s) (t a n : Nat) : Keeps wr s₀ (s.stepWroteOut t a n) :=
  Keeps.ite hs (hs.stepWrote _ _ _)

theorem Keeps.updWrites {s₀ s : State} (hs : Keeps true s₀ s) (n : Nat) (ws : List (Nat × List Byte)) : Keeps true s₀
    (s.updWrites n ws).1 := by
  unfold State.updWrites
  dsimp only
  refine Keeps.foldlOn Prod.fst _ (fun r x hs => ?_) _ ?_
  · split
    · exact (Keeps.ite ((hs.memPut _ _ _ _ _).stepWroteOut _ _ _) (hs.memPut _ _ _ _ _)).bump _
    · exact Keeps.ite ((hs.memPut _ _ _ _ _).stepWroteOut _ _ _) (hs.memPut _ _ _ _ _)
  · exact hs

theorem Keeps.updPast {s₀ s : State} (hs : Keeps true s₀ s) (n k g : Nat) : Keeps true s₀ (s.updPast n k g) :=
  ((((hs.set _ _).set _ _).set _ _).with_upd _ (by simp)).updNext _

/-! ### SeqBase -/

theorem Keeps.setSeq {s₀ s : State} (hs : Keeps wr s₀ s) (x : Nat) : Keeps wr s₀ (s.setSeq x) :=
  hs.set _ _

theorem Keeps.setPend {s₀ s : State} (hs : Keeps wr s₀ s) (x : Nat) : Keeps wr s₀ (s.setPend x) :=
  hs.set _ _

theorem Keeps.setCause {s₀ s : State} (hs : Keeps wr s₀ s) (c : Nat) : Keeps wr s₀ (s.setCause c) :=
  (hs.set _ _).set _ _

theorem Keeps.vwinRefuse {s₀ s : State} (hs : Keeps wr s₀ s) : Keeps wr s₀ s.vwinRefuse :=
  (hs.bump _).setCause _

theorem Keeps.tryApply {s₀ s : State} (hs : Keeps true s₀ s) : Keeps true s₀ s.tryApply :=
  Keeps.ite ((hs.setSeq _).updStart _) hs

theorem Keeps.normDeliver {s₀ s : State} (hs : Keeps true s₀ s) (t x : Nat) : Keeps true s₀ (s.normDeliver t x) := by
  unfold State.normDeliver
  dsimp only
  refine Keeps.ite ?_ hs
  refine Keeps.tryApply ?_
  refine Keeps.plain ?_
  refine Keeps.ite ?_ (((((Keeps.ite (hs.setCause _) hs).memPut _ _ _ _ _).stepWrote _ _ _).set _ _).set _ _)
  refine Keeps.foldl _ (fun s x hs => ?_) _ (((((Keeps.ite (hs.setCause _) hs).memPut _ _ _ _ _).stepWrote _ _ _).set _ _).set _ _)
  exact hs.addCounter _ _ _ _

theorem Keeps.verdictDeliver {s₀ s : State} (hs : Keeps wr s₀ s) (t : Nat) (r : List Nat) (marked : Bool) :
    Keeps wr s₀ (s.verdictDeliver t r marked) :=
  Keeps.ite hs (((hs.setReg _ _).setReg _ _).setReg _ _).plain

theorem Keeps.seqCheck {s₀ s : State} (hs : Keeps wr s₀ s) (t csum pfail late : Nat) : Keeps wr s₀ (s.seqCheck t csum pfail late) :=
  Keeps.ite (((hs.add _ _).add _ _).add _ _) hs

/-! ### Coll -/

theorem Keeps.setCx {s₀ s : State} (hs : Keeps wr s₀ s) (c : Nat) (x : Ctx) : Keeps wr s₀ (s.setCx c x) :=
  hs.with_ctx _ (by simp)

theorem Keeps.stray {s₀ s : State} (hs : Keeps wr s₀ s) (c : Nat) : Keeps wr s₀ (s.stray c) :=
  hs.bump _

theorem Keeps.countOpen {s₀ s : State} (hs : Keeps wr s₀ s) : Keeps wr s₀ s.countOpen :=
  hs.set _ _

theorem Keeps.setCxState {s₀ s : State} (hs : Keeps wr s₀ s) (c x : Nat) : Keeps wr s₀ (s.setCxState c x) :=
  (hs.set _ _).countOpen

theorem Keeps.showRound {s₀ s : State} (hs : Keeps wr s₀ s) (c : Nat) : Keeps wr s₀ (s.showRound c) := by
  unfold State.showRound
  split
  · exact hs
  · exact hs.set _ _

theorem Keeps.putRound {s₀ s : State} (hs : Keeps wr s₀ s) (c : Nat) (x : Round) : Keeps wr s₀ (s.putRound c x) :=
  (hs.setCx _ _).showRound _

theorem Keeps.cxWrote {s₀ s : State} (hs : Keeps wr s₀ s) (c a n : Nat) : Keeps wr s₀ (s.cxWrote c a n) :=
  Keeps.ite (hs.stepWrote _ _ _) hs

theorem Keeps.cxPut {s₀ s : State} (hs : Keeps true s₀ s) (c a : Nat) (bs : List Byte) : Keeps true s₀ (s.cxPut c a bs) :=
  (hs.memPut _ _ _ _ _).cxWrote _ _ _

theorem Keeps.openRound {s₀ s0 : State} (hs : Keeps true s₀ s0) (c r : Nat) : Keeps true s₀ (s0.openRound c r) :=
  Keeps.ite ((((hs.cxWrote _ _ _).with_ctx _ (by simp)).with_stage _ (Mem.wf_zero _ _ _)).showRound _) hs

theorem Keeps.cxIdle {s₀ s : State} (hs : Keeps wr s₀ s) (c : Nat) : Keeps wr s₀ (s.cxIdle c) :=
  (hs.setCx _ _).setCxState _ _

theorem Keeps.coreSignal {s₀ s : State} (hs : Keeps wr s₀ s) (die lcore ctr inc src : Nat) : Keeps wr s₀
    (s.coreSignal die lcore ctr inc src) :=
    by
  unfold State.coreSignal
  split
  · exact Keeps.ite ((hs.bump _).retired _) (Keeps.ite (hs.addCounter _ _ _ _) (hs.bump _))
  · exact Keeps.ite (hs.bump _) hs

theorem Keeps.rcDone {s₀ s : State} (hs : Keeps wr s₀ s) (c : Nat) : Keeps wr s₀ (s.rcDone c) := by
  unfold State.rcDone
  refine Keeps.ite ?_ hs
  refine hs.forN _ _ fun s i hs => ?_
  refine Keeps.ite ?_ hs
  refine hs.forN _ _ fun s i hs => ?_
  exact Keeps.ite (hs.coreSignal _ _ _ _ _) hs

theorem Keeps.addInput {s₀ s : State} (hs : Keeps true s₀ s) (c : Nat) (x : Round) (i off : Nat) (bs : List Byte)
    (f : RedInput → RedInput) :
    Keeps true s₀ (s.addInput c x i off bs f) :=
  (hs.with_stage _ (Mem.wf_addMants _ _ _ _)).putRound _ _

theorem Keeps.localAdd {s₀ s : State} (hs : Keeps true s₀ s) (c : Nat) (x : Round) (off : Nat) (bs : List Byte)
    (chain : Option (Word × Bool × Bool)) :
    Keeps true s₀ (s.localAdd c x off bs chain) := by
  unfold State.localAdd
  dsimp only
  exact (hs.with_stage _ (Mem.wf_store _ _ _)).addInput _ _ _ _ _ _

theorem Keeps.stageWrite {s₀ s : State} (hs : Keeps true s₀ s) (d off : Nat) (bs : List Byte) : Keeps true s₀ (s.stageWrite d off bs) :=
    by
  unfold State.stageWrite
  split
  · exact hs.with_stage _ (Mem.wf_store _ _ _)
  · split
    · exact Keeps.ite (hs.localAdd _ _ _ _ _) (hs.stray _)
    · exact hs.stray _

theorem Keeps.cxArm {s₀ s : State} (hs : Keeps wr s₀ s) (c slot d0 : Nat) (spec : Bool) (tag : Nat) :
    Keeps wr s₀ (s.cxArm c slot d0 spec tag) :=
  (((((hs.setCx _ _).set _ _).set _ _).set _ _).set _ _).setCxState _ _

theorem Keeps.rcArm {s₀ s0 : State} (hs : Keeps wr s₀ s0) (c slot : Nat) : Keeps wr s₀ (rcArm c slot s0) :=
  Keeps.ite (((hs.set _ _).set _ _).bump _) (Keeps.ite ((hs.set _ _).set _ _) (((hs.set _ _).set _ _).cxArm _ _ _ _ _))

theorem Keeps.armStep {s₀ s : State} (hs : Keeps wr s₀ s) (start tag : Nat) : Keeps wr s₀ (s.armStep start tag) := by
  unfold State.armStep
  dsimp only
  refine hs.forN _ _ fun s i hs => ?_
  exact Keeps.ite (Keeps.ite (hs.bump _) (hs.cxArm _ _ _ _ _)) hs

theorem Keeps.rcAbort {s₀ s : State} (hs : Keeps wr s₀ s) (c : Nat) : Keeps wr s₀ (rcAbort c s) :=
  (hs.set _ _).cxIdle _

theorem Keeps.raiseMax {s₀ s : State} (hs : Keeps wr s₀ s) (c r : Nat) (bs : List Byte) : Keeps wr s₀ (s.raiseMax c r bs) :=
  Keeps.ite (hs.setCx _ _) hs

theorem Keeps.resultHere {s₀ s : State} (hs : Keeps true s₀ s) (c r : Nat) (bs : List Byte) (marked sat : Bool) :
    Keeps true s₀ (s.resultHere c r bs marked sat) := by
  unfold State.resultHere
  extract_lets +onlyGivenNames s1 tag v k t2 s2
  have h1 : Keeps true s₀ s1 := hs.raiseMax _ _ _
  have ht : Keeps true s₀ t2 := h1.setCx _ _
  have h2 : Keeps true s₀ s2 := Keeps.ite (Keeps.ite (ht.normDeliver _ _) ht) h1
  exact Keeps.ite (h2.verdictDeliver _ _ _) h2

theorem Keeps.exclude {s₀ s : State} (hs : Keeps true s₀ s) (c : Nat) (x : Round) (i : Nat) : Keeps true s₀ (s.exclude c x i).1 := by
  unfold State.exclude
  dsimp only
  refine Keeps.foldlOn Prod.fst _ (fun r x hs => ?_) _ ?_
  · exact hs.with_stage _ (Mem.wf_addMants _ _ _ _)
  · exact hs

theorem Keeps.close {s₀ s : State} (hs : Keeps true s₀ s) (c : Nat) (x : Round) : Keeps true s₀ (s.close c x) := by
  unfold State.close
  extract_lets +onlyGivenNames nin dl pm inputs inp mask late rest pois inc
  split
  next s1 x1 e1 =>
  have hs1 : Keeps true s₀ s1 := (Keeps.foldlOn Prod.fst _ (fun r i hr => hr.exclude c r.2 i) _ hs).fst_eq e1
  extract_lets +onlyGivenNames pos
  split
  next s2 x2 e2 =>
  have hs2 : Keeps true s₀ s2 := by
    refine (Keeps.foldlOn Prod.fst _ (fun r j hr => ?_) _ hs1).fst_eq e2
    exact hr.with_stage _ (Mem.wf_store _ _ _)
  extract_lets +onlyGivenNames sum lateAdd poison w2 x3 s3 head s4 held s5
  have hs3 : Keeps true s₀ s3 := hs2.putRound _ _
  have hs4 : Keeps true s₀ s4 := Keeps.ite hs3 (hs3.faultAt _ _ _ _ _)
  have hs5 : Keeps true s₀ s5 := Keeps.ite hs4 (hs4.faultAt _ _ _ _ _)
  exact Keeps.ite (hs5.seqCheck _ _ _ _) hs5

theorem Keeps.roundClose {s₀ s : State} (hs : Keeps true s₀ s) (c h : Nat) : Keeps true s₀ (roundClose c h s) := by
  unfold Machine.roundClose
  split
  · exact Keeps.ite (hs.close _ _) hs
  · exact hs

theorem Keeps.sendRed {s₀ s : State} (hs : Keeps wr s₀ s) (c r off : Nat) (bs : List Byte) (w2 : Word) (policy deadline : Nat)
    (fwd : Bool)
    (kind : Nat) :
    Keeps wr s₀ (s.sendRed c r off bs w2 policy deadline fwd kind) :=
  hs.sendLocal _ _

theorem Keeps.storeRecord {s₀ s : State} (hs : Keeps true s₀ s) (c r : Nat) (w2 : Word) (policy expect : Nat) :
    Keeps true s₀ (s.storeRecord c r w2 policy expect) :=
  hs.cxPut _ _ _

theorem Keeps.chainTo {s₀ s : State} (hs : Keeps true s₀ s) (k r : Nat) (bs : List Byte) (w2 : Word) (sat marked : Bool) :
    Keeps true s₀ (s.chainTo k r bs w2 sat marked) := by
  unfold State.chainTo
  split
  · exact Keeps.ite (hs.localAdd _ _ _ _ _) (hs.stray _)
  · exact hs.stray _

theorem Keeps.sendRound {s₀ s : State} (hs : Keeps true s₀ s) (c : Nat) (x : Round) : Keeps true s₀ (s.sendRound c x) := by
  unfold State.sendRound
  dsimp only
  refine Keeps.ite ?_ ?_
  · refine Keeps.chainTo ?_ _ _ _ _ _ _
    refine Keeps.ite ?_ ?_
    · refine Keeps.resultHere ?_ _ _ _ _ _
      refine Keeps.storeRecord ?_ _ _ _ _ _
      refine Keeps.cxPut ?_ _ _ _
      refine Keeps.ite ?_ ?_
      · refine Keeps.foldl _ (fun s x hs => ?_) _ ?_
        · exact hs.sendRed _ _ _ _ _ _ _ _ _
        · refine Keeps.ite ?_
            (((Keeps.ite hs (Keeps.ite ((hs.fault _ _ _ _).seqCheck _ _ _ _) (hs.fault _ _ _ _))).putRound _ _).setReg _ _)
          refine Keeps.foldl _ (fun s x hs => ?_) _
            (((Keeps.ite hs (Keeps.ite ((hs.fault _ _ _ _).seqCheck _ _ _ _) (hs.fault _ _ _ _))).putRound _ _).setReg _ _)
          exact hs.sendRed _ _ _ _ _ _ _ _ _
      · refine Keeps.ite ?_
          (((Keeps.ite hs (Keeps.ite ((hs.fault _ _ _ _).seqCheck _ _ _ _) (hs.fault _ _ _ _))).putRound _ _).setReg _ _)
        refine Keeps.foldl _ (fun s x hs => ?_) _
          (((Keeps.ite hs (Keeps.ite ((hs.fault _ _ _ _).seqCheck _ _ _ _) (hs.fault _ _ _ _))).putRound _ _).setReg _ _)
        exact hs.sendRed _ _ _ _ _ _ _ _ _
    · refine Keeps.ite ?_ ?_
      · refine Keeps.foldl _ (fun s x hs => ?_) _ ?_
        · exact hs.sendRed _ _ _ _ _ _ _ _ _
        · refine Keeps.ite ?_
            (((Keeps.ite hs (Keeps.ite ((hs.fault _ _ _ _).seqCheck _ _ _ _) (hs.fault _ _ _ _))).putRound _ _).setReg _ _)
          refine Keeps.foldl _ (fun s x hs => ?_) _
            (((Keeps.ite hs (Keeps.ite ((hs.fault _ _ _ _).seqCheck _ _ _ _) (hs.fault _ _ _ _))).putRound _ _).setReg _ _)
          exact hs.sendRed _ _ _ _ _ _ _ _ _
      · refine Keeps.ite ?_
          (((Keeps.ite hs (Keeps.ite ((hs.fault _ _ _ _).seqCheck _ _ _ _) (hs.fault _ _ _ _))).putRound _ _).setReg _ _)
        refine Keeps.foldl _ (fun s x hs => ?_) _
          (((Keeps.ite hs (Keeps.ite ((hs.fault _ _ _ _).seqCheck _ _ _ _) (hs.fault _ _ _ _))).putRound _ _).setReg _ _)
        exact hs.sendRed _ _ _ _ _ _ _ _ _
  · refine Keeps.ite ?_ ?_
    · refine Keeps.resultHere ?_ _ _ _ _ _
      refine Keeps.storeRecord ?_ _ _ _ _ _
      refine Keeps.cxPut ?_ _ _ _
      refine Keeps.ite ?_ ?_
      · refine Keeps.foldl _ (fun s x hs => ?_) _ ?_
        · exact hs.sendRed _ _ _ _ _ _ _ _ _
        · refine Keeps.ite ?_
            (((Keeps.ite hs (Keeps.ite ((hs.fault _ _ _ _).seqCheck _ _ _ _) (hs.fault _ _ _ _))).putRound _ _).setReg _ _)
          refine Keeps.foldl _ (fun s x hs => ?_) _
            (((Keeps.ite hs (Keeps.ite ((hs.fault _ _ _ _).seqCheck _ _ _ _) (hs.fault _ _ _ _))).putRound _ _).setReg _ _)
          exact hs.sendRed _ _ _ _ _ _ _ _ _
      · refine Keeps.ite ?_
          (((Keeps.ite hs (Keeps.ite ((hs.fault _ _ _ _).seqCheck _ _ _ _) (hs.fault _ _ _ _))).putRound _ _).setReg _ _)
        refine Keeps.foldl _ (fun s x hs => ?_) _
          (((Keeps.ite hs (Keeps.ite ((hs.fault _ _ _ _).seqCheck _ _ _ _) (hs.fault _ _ _ _))).putRound _ _).setReg _ _)
        exact hs.sendRed _ _ _ _ _ _ _ _ _
    · refine Keeps.ite ?_ ?_
      · refine Keeps.foldl _ (fun s x hs => ?_) _ ?_
        · exact hs.sendRed _ _ _ _ _ _ _ _ _
        · refine Keeps.ite ?_
            (((Keeps.ite hs (Keeps.ite ((hs.fault _ _ _ _).seqCheck _ _ _ _) (hs.fault _ _ _ _))).putRound _ _).setReg _ _)
          refine Keeps.foldl _ (fun s x hs => ?_) _
            (((Keeps.ite hs (Keeps.ite ((hs.fault _ _ _ _).seqCheck _ _ _ _) (hs.fault _ _ _ _))).putRound _ _).setReg _ _)
          exact hs.sendRed _ _ _ _ _ _ _ _ _
      · refine Keeps.ite ?_
          (((Keeps.ite hs (Keeps.ite ((hs.fault _ _ _ _).seqCheck _ _ _ _) (hs.fault _ _ _ _))).putRound _ _).setReg _ _)
        refine Keeps.foldl _ (fun s x hs => ?_) _
          (((Keeps.ite hs (Keeps.ite ((hs.fault _ _ _ _).seqCheck _ _ _ _) (hs.fault _ _ _ _))).putRound _ _).setReg _ _)
        exact hs.sendRed _ _ _ _ _ _ _ _ _

theorem Keeps.roundSend {s₀ s : State} (hs : Keeps true s₀ s) (c h : Nat) : Keeps true s₀ (roundSend c h s) := by
  unfold Machine.roundSend
  split
  · exact Keeps.ite (hs.sendRound _ _) hs
  · exact hs

theorem Keeps.roundDone {s₀ s : State} (hs : Keeps true s₀ s) (c h : Nat) : Keeps true s₀ (roundDone c h s) := by
  unfold Machine.roundDone
  dsimp only
  split
  · exact Keeps.ite (Keeps.ite ((Keeps.ite ((hs.setCx _ _).rcDone _) (hs.setCx _ _)).cxIdle _)
      ((Keeps.ite ((hs.setCx _ _).rcDone _) (hs.setCx _ _)).openRound _ _)) hs
  · exact hs

theorem Keeps.layoutStale {s₀ s : State} (hs : Keeps wr s₀ s) (c : Nat) (p : Packet) : Keeps wr s₀ (s.layoutStale c p) :=
  (hs.bump _).faultKey _ _ _ _ _

theorem Keeps.receive {s₀ s : State} (hs : Keeps true s₀ s) (c : Nat) (x : Round) (p : Packet) : Keeps true s₀ (s.receive c x p) := by
  unfold State.receive
  extract_lets +onlyGivenNames r off inp n last full csum inp1 x1 s1 dl s2 s3 s4
  have hs1 : Keeps true s₀ s1 := ((hs.with_stage _ (Mem.wf_store _ _ _)).putRound _ _).setReg _ _
  have hs2 : Keeps true s₀ s2 := Keeps.ite (hs1.sendRed _ _ _ _ _ _ _ _ _) hs1
  have hs3 : Keeps true s₀ s3 := Keeps.ite (hs2.sendRed _ _ _ _ _ _ _ _ _) hs2
  have hs4 : Keeps true s₀ s4 := Keeps.ite (hs3.cxPut _ _ _) hs3
  refine Keeps.ite ?_ hs4
  extract_lets +onlyGivenNames bs s5 s6
  have hs5 : Keeps true s₀ s5 := Keeps.ite (hs4.storeRecord _ _ _ _ _) hs4
  have hs6 : Keeps true s₀ s6 := hs5.resultHere _ _ _ _ _
  exact Keeps.ite (hs6.chainTo _ _ _ _ _ _) hs6

theorem Keeps.redPacket {s₀ s : State} (hs : Keeps true s₀ s) (role : Nat) (p : Packet) : Keeps true s₀ (s.redPacket role p) := by
  unfold State.redPacket
  extract_lets +onlyGivenNames c
  refine Keeps.ite (hs.stray _) ?_
  extract_lets +onlyGivenNames from_
  clear_value from_
  split
  · exact hs.stray _
  · refine Keeps.ite (hs.stray _) (Keeps.ite (hs.layoutStale _ _) ?_)
    split
    · exact hs.stray _
    · extract_lets +onlyGivenNames inp off m bad
      refine Keeps.ite ((hs.putRound _ _).bump _) ?_
      extract_lets +onlyGivenNames src s0
      have h0 : Keeps true s₀ s0 := Keeps.ite (hs.setCx _ _) hs
      exact Keeps.ite (h0.receive _ _ _) ((h0.with_stage _ (Mem.wf_store _ _ _)).addInput _ _ _ _ _ _)

theorem Keeps.setExpt {s₀ s : State} (hs : Keeps wr s₀ s) (c b j : Nat) (e : Int) : Keeps wr s₀ (s.setExpt c b j e) :=
  hs.setReg _ _

theorem Keeps.collCommit {s₀ s : State} (hs : Keeps wr s₀ s) (t : Nat) : Keeps wr s₀ (s.collCommit t) := by
  unfold State.collCommit
  dsimp only
  refine hs.forN _ _ fun s i hs => ?_
  split
  · refine Keeps.ite ?_ ?_
    · split
      · refine Keeps.ite ?_ ?_
        · refine Keeps.ite ?_ hs
          refine Keeps.setCx ?_ _ _
          refine Keeps.foldl _ (fun s x hs => ?_) _ hs
          exact hs.setExpt _ _ _ _
        · refine Keeps.set ?_ _ _
          refine Keeps.ite ?_ hs
          refine Keeps.setCx ?_ _ _
          refine Keeps.foldl _ (fun s x hs => ?_) _ hs
          exact hs.setExpt _ _ _ _
      · refine Keeps.ite ?_ hs
        refine Keeps.setCx ?_ _ _
        refine Keeps.foldl _ (fun s x hs => ?_) _ hs
        exact hs.setExpt _ _ _ _
    · refine Keeps.ite ?_ hs
      refine Keeps.setCx ?_ _ _
      refine Keeps.foldl _ (fun s x hs => ?_) _ hs
      exact hs.setExpt _ _ _ _
  · refine Keeps.ite ?_ hs
    refine Keeps.setCx ?_ _ _
    refine Keeps.foldl _ (fun s x hs => ?_) _ hs
    exact hs.setExpt _ _ _ _

theorem Keeps.collRollback {s₀ s : State} (hs : Keeps wr s₀ s) (t : Nat) : Keeps wr s₀ (s.collRollback t) := by
  unfold State.collRollback
  dsimp only
  refine hs.forN _ _ fun s i hs => ?_
  refine Keeps.setCx ?_ _ _
  split
  · exact (Keeps.ite (hs.cxIdle _) hs).set _ _
  · exact Keeps.ite (hs.cxIdle _) hs

/-! ### Peloton -/

theorem Keeps.pelotonArrive {s₀ s : State} (hs : Keeps wr s₀ s) (c : Nat) : Keeps wr s₀ (s.pelotonArrive c) :=
  Keeps.ite (Keeps.ite (hs.setCx _ _) ((hs.setCx _ _).sendLocal _ _)) hs

theorem Keeps.pelotonMemberArrive {s₀ s : State} (hs : Keeps wr s₀ s) (c : Nat) : Keeps wr s₀ (pelotonMemberArrive c s) := by
  unfold Machine.pelotonMemberArrive
  dsimp only
  split
  · exact Keeps.ite ((hs.wrapAdd _ _).pelotonArrive _) hs
  · exact hs

theorem Keeps.sendEntry {s₀ s : State} (hs : Keeps true s₀ s) (c p src dst node len : Nat) : Keeps true s₀
    (s.sendEntry c p src dst node len) := by
  unfold State.sendEntry
  dsimp only
  refine Keeps.foldl _ (fun s x hs => ?_) _ hs
  exact (hs.memRead _ _ _ _).sendLocal _ _

theorem Keeps.caravanPhase {s₀ s : State} (hs : Keeps true s₀ s) (c p : Nat) : Keeps true s₀ (s.caravanPhase c p) := by
  unfold State.caravanPhase
  dsimp only
  refine Keeps.foldl _ (fun s x hs => ?_) _ ((hs.set _ _).setCx _ _)
  exact Keeps.ite (hs.sendEntry _ _ _ _ _ _) hs

theorem Keeps.caravanNext {s₀ s : State} (hs : Keeps true s₀ s) (c : Nat) : Keeps true s₀ (s.caravanNext c) :=
  Keeps.ite (hs.caravanPhase _ _) (Keeps.ite (Keeps.ite ((hs.rcDone _).cxIdle _) (hs.caravanPhase _ _)) hs)

theorem Keeps.caravanFence {s₀ s : State} (hs : Keeps wr s₀ s) (c : Nat) : Keeps wr s₀ (caravanFence c s) :=
  Keeps.ite ((((hs.set _ _).set _ _).setCx _ _).pelotonArrive _) hs

theorem Keeps.caravanPhaseDone {s₀ s : State} (hs : Keeps wr s₀ s) (c : Nat) : Keeps wr s₀ (caravanPhaseDone c s) :=
  Keeps.ite ((hs.setCx _ _).pelotonArrive _) hs

theorem Keeps.pelotonFree {s₀ s : State} (hs : Keeps wr s₀ s) (c mask : Nat) : Keeps wr s₀ (s.pelotonFree c mask) := by
  unfold State.pelotonFree
  extract_lets +onlyGivenNames k s1 s2 s3
  have hs1 : Keeps wr s₀ s1 := (hs.rcDone _).setReg _ _
  have hs2 : Keeps wr s₀ s2 := Keeps.ite hs1 (hs1.wrapAdd _ _)
  have hs3 : Keeps wr s₀ s3 := (hs2.wrapAdd _ _).setCx _ _
  exact Keeps.ite (hs3.cxIdle _) hs3

theorem Keeps.sendRelease {s₀ s : State} (hs : Keeps wr s₀ s) (c mask : Nat) : Keeps wr s₀ (s.sendRelease c mask) :=
  Keeps.ite (hs.sendLocal _ _) hs

theorem Keeps.pelotonSpread {s₀ s0 : State} (hs : Keeps true s₀ s0) (c mask : Nat) : Keeps true s₀ (s0.pelotonSpread c mask) := by
  unfold State.pelotonSpread
  dsimp only
  refine hs.forN _ _ fun s i hs => ?_
  exact Keeps.ite (hs.pelotonFree _ _) (Keeps.ite ((hs.sendRelease _ _).pelotonFree _ _) (Keeps.ite (hs.caravanNext _) hs))

theorem Keeps.pelotonRelease {s₀ s : State} (hs : Keeps true s₀ s) (c mask : Nat) : Keeps true s₀ (s.pelotonRelease c mask) :=
  (hs.sendRelease _ _).pelotonSpread _ _

theorem Keeps.pelotonMasterRelease {s₀ s : State} (hs : Keeps true s₀ s) (c : Nat) : Keeps true s₀ (pelotonMasterRelease c s) :=
  Keeps.ite (Keeps.ite ((hs.setCx _ _).pelotonArrive _) (hs.pelotonRelease _ _)) hs

theorem Keeps.pelotonDeadline {s₀ s : State} (hs : Keeps true s₀ s) (c : Nat) : Keeps true s₀ (pelotonDeadline c s) :=
  Keeps.ite ((Keeps.ite hs (hs.fault _ _ _ _)).pelotonRelease _ _) hs

theorem Keeps.pelotonPacket {s₀ s : State} (hs : Keeps true s₀ s) (p : Packet) (release : Bool) : Keeps true s₀
    (s.pelotonPacket p release) :=
  Keeps.ite ((hs.bump _).retired _)
      (Keeps.ite (hs.stray _) (Keeps.ite (hs.layoutStale _ _) (Keeps.ite (hs.stray _) (Keeps.ite (hs.pelotonSpread _ _) (hs.setCx _ _)))))

theorem Keeps.packetPut {s₀ s : State} (hs : Keeps true s₀ s) (die : Nat) (p : Packet) (atomic : Bool) : Keeps true s₀
    (s.packetPut die p atomic) :=
    by
  unfold State.packetPut
  dsimp only
  refine Keeps.ite (hs.bump _) ?_
  refine Keeps.ite ?_ (Keeps.ite ((hs.memPut _ _ _ _ _).bump _) (hs.memPut _ _ _ _ _))
  split
  · exact (Keeps.ite ((hs.memPut _ _ _ _ _).bump _) (hs.memPut _ _ _ _ _)).stepWroteOut _ _ _
  · exact hs.vwinRefuse

theorem Keeps.caravanPacket {s₀ s : State} (hs : Keeps true s₀ s) (die : Nat) (p : Packet) : Keeps true s₀ (s.caravanPacket die p) :=
  Keeps.ite ((hs.bump _).retired _)
      (Keeps.ite (hs.stray _) (Keeps.ite (hs.layoutStale _ _) (Keeps.ite (hs.stray _) ((hs.setCx _ _).packetPut _ _ _))))

theorem Keeps.rcActivate {s₀ s : State} (hs : Keeps true s₀ s) (c : Nat) : Keeps true s₀ (rcActivate c s) := by
  unfold Machine.rcActivate
  refine Keeps.ite ?_ hs
  extract_lets +onlyGivenNames s1
  have hs1 : Keeps true s₀ s1 := hs.setCxState _ _
  exact Keeps.ite ((hs1.openRound _ _).openRound _ _) (Keeps.ite (Keeps.ite (hs1.pelotonArrive _) hs1) hs1)

/-! ### Tensor -/

theorem Keeps.setAccRow {s₀ s : State} (hs : Keeps true s₀ s) (n t r : Nat) (bs : List Byte) : Keeps true s₀ (s.setAccRow n t r bs) :=
  hs.with_core _ (Mem.wf_store _ _ _)

theorem Keeps.setBit {s₀ s : State} (hs : Keeps wr s₀ s) (f : Field) (i : Nat) : Keeps wr s₀ (s.setBit f i) :=
  hs.set _ _

theorem Keeps.landMac {s₀ s : State} (hs : Keeps true s₀ s) (n : Nat) (u : MacUpd) : Keeps true s₀ (s.landMac n u) := by
  unfold State.landMac
  refine Keeps.ite (hs.setAccRow _ _ _ _) ?_
  extract_lets +onlyGivenNames cs s1 s2
  have hs1 : Keeps true s₀ s1 := hs.setAccRow _ _ _ _
  have hs2 : Keeps true s₀ s2 := Keeps.ite (hs1.setBit _ _) hs1
  split
  · exact hs2
  · extract_lets +onlyGivenNames first s3 sign
    have hs3 : Keeps true s₀ s3 := hs2.setBit _ _
    exact Keeps.ite (hs3.fault _ _ _ _) hs3

/-! ### Vector -/

theorem Keeps.setCore {s₀ s : State} (hs : Keeps wr s₀ s) (n : Nat) (c : Core) : Keeps wr s₀ (s.setCore n c) :=
  hs.with_cores _ (by simp)

theorem Keeps.freeBytes {s₀ s : State} (hs : Keeps wr s₀ s) (k : Nat) : Keeps wr s₀ (s.freeBytes k).2 :=
  hs.plain

/-! ### RowEngine -/

theorem Keeps.reRead {s₀ s : State} (hs : Keeps true s₀ s) (d k a : Nat) : Keeps true s₀ (s.reRead d k a).2 :=
  hs.memRead _ _ _ _

theorem Keeps.rePut {s₀ s : State} (hs : Keeps true s₀ s) (d : Nat) (atomic : Bool) (a : Nat) (bs : List Byte) :
    Keeps true s₀ (s.rePut d atomic a bs) := by
  unfold State.rePut
  dsimp only
  split
  · exact (hs.memPut _ _ _ _ _).stepWrote _ _ _
  · exact hs.memPut _ _ _ _ _

theorem Keeps.reWrite {s₀ s : State} (hs : Keeps true s₀ s) (d k a : Nat) (vs : List Nat) : Keeps true s₀ (s.reWrite d k a vs) :=
  hs.rePut _ _ _ _

theorem Keeps.reParam {s₀ s : State} (hs : Keeps true s₀ s) (d k i dflt : Nat) : Keeps true s₀ (s.reParam d k i dflt).2 := by
  unfold State.reParam
  split
  · exact hs.reRead _ _ _
  · exact hs

theorem Keeps.reRow {s₀ s0 : State} (hs : Keeps true s₀ s0) (d k i : Nat) : Keeps true s₀ (s0.reRow d k i) := by
  unfold State.reRow
  extract_lets +onlyGivenNames op bf rowB center param
  split
  next xs s1 e1 =>
  have h1 : Keeps true s₀ s1 := (hs.reRead _ _ _).snd_eq e1
  extract_lets +onlyGivenNames back own s2 out
  have h2 : Keeps true s₀ s2 := Keeps.ite h1 (h1.with_side _ (Mem.wf_store _ _ _))
  clear_value s2 op
  split
  · exact ((h2.reParam _ _ _ _).reParam _ _ _ _).reWrite _ _ _ _
  · have h5 := fun l => ((h2.reRead d k (s2.get (F.RE_GRAD_ADDR d k) + i * rowB)).reParam d k 0 fOne).reWrite d k out l
    exact Keeps.ite (((h5 _).rePut _ _ _ _).rePut _ _ _ _) (h5 _)
  · exact h2.reWrite _ _ _ _
  · exact (h2.reRead _ _ _).reWrite _ _ _ _
  · have h3 := h2.memRead (reOrigin d) (s2.get (F.RE_OUT_ADDR d k) + 16 * i) 16
    exact Keeps.ite (Keeps.ite ((h3.bump _).set _ _) (h3.bump _)) h3
  · exact h2

theorem Keeps.setEng {s₀ s : State} (hs : Keeps wr s₀ s) (d : Nat) (e : RowEng) : Keeps wr s₀ (s.setEng d e) :=
  (hs.with_re _ (by simp)).set _ _

theorem Keeps.reBegin {s₀ s : State} (hs : Keeps wr s₀ s) (d k : Nat) : Keeps wr s₀ (s.reBegin d k) :=
  (((Keeps.ite ((Keeps.ite (hs.bump _) hs).set _ _) (Keeps.ite (hs.bump _) hs)).set _ _).set _ _).setEng _ _

theorem Keeps.reNext {s₀ s : State} (hs : Keeps wr s₀ s) (d : Nat) : Keeps wr s₀ (s.reNext d) := by
  unfold State.reNext
  dsimp only
  split
  · exact Keeps.ite ((hs.setEng _ _).reBegin _ _) hs
  · exact hs

theorem Keeps.reStart {s₀ s : State} (hs : Keeps wr s₀ s) (d k : Nat) : Keeps wr s₀ (s.reStart d k) :=
  Keeps.ite hs (Keeps.ite (hs.reBegin _ _) (Keeps.ite (hs.bump _) (hs.setEng _ _)))

theorem Keeps.reWork {s₀ s : State} (hs : Keeps true s₀ s) (op d : Nat) : Keeps true s₀ (reWork op d s) := by
  unfold Machine.reWork
  dsimp only
  refine Keeps.ite ?_ hs
  refine Keeps.setEng ?_ _ _
  refine hs.forN _ _ fun s i hs => ?_
  exact hs.reRow _ _ _

theorem Keeps.reJobDone {s₀ s : State} (hs : Keeps wr s₀ s) (d : Nat) : Keeps wr s₀ (reJobDone d s) := by
  unfold Machine.reJobDone
  dsimp only
  refine Keeps.ite ?_ hs
  refine Keeps.reNext ?_ _
  refine Keeps.setEng ?_ _ _
  refine Keeps.set ?_ _ _
  refine Keeps.ite ?_ hs
  split
  · exact Keeps.ite (hs.addCounter _ _ _ _) hs
  · exact hs

theorem Keeps.reSelftest {s₀ s : State} (hs : Keeps wr s₀ s) (d : Nat) : Keeps wr s₀ (reSelftest d s) :=
  Keeps.ite (hs.set _ _) hs

theorem Keeps.reSelftestDone {s₀ s : State} (hs : Keeps wr s₀ s) (d : Nat) (pass : Bool) : Keeps wr s₀ (reSelftestDone d pass s) :=
  Keeps.ite (Keeps.ite (((hs.set _ _).set _ _).reNext _) ((((hs.set _ _).set _ _).setEng _ _).setUnit _ _)) hs

theorem Keeps.reRollback {s₀ s : State} (hs : Keeps wr s₀ s) (d : Nat) : Keeps wr s₀ (s.reRollback d) :=
  hs.setEng _ _

/-! ### Deliver -/

theorem Keeps.acceptAt {s₀ s : State} (hs : Keeps wr s₀ s) (i : Nat) (h : Transit) : Keeps wr s₀ (s.acceptAt i h) :=
  Keeps.ite ((hs.plain.giveCredit _ _ _).pumpAll) hs.plain

theorem Keeps.takeLocal {s₀ s : State} (hs : Keeps wr s₀ s) (kind : Nat) (f : State → Transit → State)
    (hf : ∀ s h, Keeps wr s₀ s → Keeps wr s₀ (f s h)) : Keeps wr s₀ (s.takeLocal kind f) := by
  unfold State.takeLocal
  split
  · exact hs
  · split
    · exact hs
    · exact Keeps.ite ((hs.acceptAt _ _).bump _) (hf _ _ (hs.acceptAt _ _))

theorem Keeps.retireLocal {s₀ s : State} (hs : Keeps wr s₀ s) (ent : Nat) (test : Packet → Bool) (n : Nat) :
    Keeps wr s₀ (s.retireLocal ent test n) := by
  induction n generalizing s with
  | zero => exact hs
  | succ n ih =>
    unfold State.retireLocal
    split
    · exact hs
    · split
      · exact hs
      · exact ih (((hs.acceptAt _ _).bump _).retired _)

theorem Keeps.actFoot {s₀ s : State} (hs : Keeps wr s₀ s) (v inc : Nat) : Keeps wr s₀ (s.actFoot v inc) :=
  Keeps.ite (((Keeps.ite (hs.bump _) hs).set _ _).set _ _) ((Keeps.ite (hs.bump _) hs).set _ _)

theorem Keeps.signalPacket {s₀ s : State} (hs : Keeps wr s₀ s) (p : Packet) : Keeps wr s₀ (s.signalPacket p) := by
  unfold State.signalPacket
  extract_lets +onlyGivenNames inc die lc ctr own
  exact Keeps.ite (Keeps.ite (hs.actFoot _ _) (hs.bump _))
      (Keeps.ite (Keeps.ite (hs.bump _) (Keeps.ite ((hs.bump _).retired _) (Keeps.ite (hs.reStart _ _) hs))) (hs.coreSignal _ _ _ _ _))

theorem Keeps.redDeliver {s₀ s : State} (hs : Keeps true s₀ s) (role : Nat) (p : Packet) : Keeps true s₀ (s.redDeliver role p) :=
  Keeps.ite ((hs.bump _).retired _) (Keeps.ite (hs.redPacket _ _) ((hs.bump _).retired _))

/-! ### OptBase -/

theorem Keeps.setOptic {s₀ s : State} (hs : Keeps wr s₀ s) (p : Nat) (o : Optic) : Keeps wr s₀ (s.setOptic p o) :=
  hs.with_opt _ (by simp)

theorem Keeps.modOptic {s₀ s : State} (hs : Keeps wr s₀ s) (p : Nat) (f : Optic → Optic) : Keeps wr s₀ (s.modOptic p f) :=
  hs.setOptic _ _

theorem Keeps.modLane {s₀ s : State} (hs : Keeps wr s₀ s) (p l : Nat) (f : LaneRun → LaneRun) : Keeps wr s₀ (s.modLane p l f) :=
  hs.modOptic _ _

theorem Keeps.down {s₀ s : State} (hs : Keeps wr s₀ s) (p type target value : Nat) : Keeps wr s₀ (s.down p type target value) :=
  (hs.setOptic _ _).plain

theorem Keeps.heater {s₀ s : State} (hs : Keeps wr s₀ s) (p r code : Nat) : Keeps wr s₀ (s.heater p r code) :=
  (hs.down _ _ _ _).modOptic _ _

theorem Keeps.applyShadow {s₀ s : State} (hs : Keeps wr s₀ s) (p : Nat) : Keeps wr s₀ (s.applyShadow p) := by
  unfold State.applyShadow
  dsimp only
  refine Keeps.modOptic ?_ _ _
  refine Keeps.foldl _ (fun s x hs => ?_) _ hs
  exact hs.set _ _

theorem Keeps.applyNow {s₀ s : State} (hs : Keeps wr s₀ s) (p : Nat) : Keeps wr s₀ (s.applyNow p) :=
  (hs.down _ _ _ _).applyShadow _

theorem Keeps.laser {s₀ s : State} (hs : Keeps wr s₀ s) (p comb : Nat) (on : Bool) : Keeps wr s₀ (s.laser p comb on) := by
  unfold State.laser
  split
  next _ _ s1 e =>
    have hs1 : Keeps wr s₀ s1 := hs.fresh.snd_eq e
    exact (hs1.down _ _ _ _).modOptic _ _

theorem Keeps.srcsel {s₀ s : State} (hs : Keeps wr s₀ s) (p l comb : Nat) : Keeps wr s₀ (s.srcsel p l comb) :=
  (hs.down _ _ _ _).modOptic _ _

theorem Keeps.opticFault {s₀ s : State} (hs : Keeps wr s₀ s) (p code lane : Nat) (slow : Bool) (detail : Word) :
    Keeps wr s₀ (s.opticFault p code lane slow detail) :=
  hs.faultKey _ _ _ _ _

theorem Keeps.laserFade {s₀ s : State} (hs : Keeps wr s₀ s) (p stage lane : Nat) (hitless : Bool) :
    Keeps wr s₀ (s.laserFade p stage lane hitless) :=
  hs.opticFault _ _ _ _ _

theorem Keeps.laneSpared {s₀ s : State} (hs : Keeps wr s₀ s) (p k cause : Nat) (hitless : Bool) :
    Keeps wr s₀ (s.laneSpared p k cause hitless) :=
  hs.opticFault _ _ _ _ _

theorem Keeps.mirageLock {s₀ s : State} (hs : Keeps wr s₀ s) (p r phase id action before after : Nat) :
    Keeps wr s₀ (s.mirageLock p r phase id action before after) :=
  hs.opticFault _ _ _ _ _

theorem Keeps.reportFor {s₀ s : State} (hs : Keeps wr s₀ s) (n p kind lane value : Nat) : Keeps wr s₀ (s.reportFor n p kind lane value) :=
    by
  unfold State.reportFor
  dsimp only
  exact hs.modOptic _ _

theorem Keeps.report {s₀ s : State} (hs : Keeps wr s₀ s) (p kind lane value : Nat) : Keeps wr s₀ (s.report p kind lane value) :=
  hs.reportFor _ _ _ _ _

theorem Keeps.linkFail {s₀ s : State} (hs : Keeps wr s₀ s) (p : Nat) : Keeps wr s₀ (s.linkFail p) :=
  hs.modOptic _ _

theorem Keeps.setLaneOk {s₀ s : State} (hs : Keeps wr s₀ s) (p l : Nat) (ok : Bool) : Keeps wr s₀ (s.setLaneOk p l ok) :=
  hs.set _ _

theorem Keeps.markFailed {s₀ s : State} (hs : Keeps wr s₀ s) (p l : Nat) : Keeps wr s₀ (s.markFailed p l) :=
  (hs.set _ _).setLaneOk _ _ _

theorem Keeps.swapHalted {s₀ s : State} (hs : Keeps wr s₀ s) (p : Nat) : Keeps wr s₀ (s.swapHalted p) := by
  unfold State.swapHalted
  split
  · exact hs
  · exact (hs.laserFade _ _ _ _).modOptic _ _

theorem Keeps.haltSwap {s₀ s : State} (hs : Keeps wr s₀ s) (p k : Nat) : Keeps wr s₀ (s.haltSwap p k) :=
  Keeps.ite ((((hs.swapHalted _).set _ _).set _ _).laneSpared _ _ _ _) (hs.swapHalted _)

theorem Keeps.copyToSpare {s₀ s : State} (hs : Keeps wr s₀ s) (p k cause : Nat) : Keeps wr s₀ (s.copyToSpare p k cause) :=
  Keeps.ite (((((hs.set _ _).swapHalted _).set _ _).set _ _).modOptic _ _) ((((hs.set _ _).swapHalted _).set _ _).laneSpared _ _ _ _)

theorem Keeps.txLaneFails {s₀ s : State} (hs : Keeps wr s₀ s) (p l cause : Nat) : Keeps wr s₀ (s.txLaneFails p l cause) := by
  unfold State.txLaneFails
  refine Keeps.ite ((hs.markFailed _ _).linkFail _) ?_
  extract_lets +onlyGivenNames use ok8 others
  refine Keeps.ite (Keeps.ite (hs.markFailed _ _) ((hs.markFailed _ _).linkFail _)) ?_
  refine Keeps.ite hs ?_
  extract_lets +onlyGivenNames s1
  have hs1 : Keeps wr s₀ s1 := hs.markFailed _ _
  exact Keeps.ite (hs1.modOptic _ _) (Keeps.ite (Keeps.ite hs1 (hs1.copyToSpare _ _ _)) (hs1.linkFail _))

theorem Keeps.rxLaneFails {s₀ s : State} (hs : Keeps wr s₀ s) (p l cause : Nat) : Keeps wr s₀ (s.rxLaneFails p l cause) := by
  unfold State.rxLaneFails
  extract_lets +onlyGivenNames o
  refine Keeps.ite hs ?_
  extract_lets +onlyGivenNames s1
  have hs1 : Keeps wr s₀ s1 := ((hs.markFailed _ _).report _ _ _ _).modOptic _ _
  exact Keeps.ite (hs1.linkFail _) (Keeps.ite (Keeps.ite (hs1.linkFail _) hs1) (Keeps.ite hs1 (Keeps.ite (hs1.linkFail _) hs1)))

theorem Keeps.steerRefuse {s₀ s : State} (hs : Keeps wr s₀ s) (p op k src : Nat) : Keeps wr s₀ (s.steerRefuse p op k src) :=
  (((hs.set _ _).set _ _).set _ _).set _ _

theorem Keeps.startSteer {s₀ s : State} (hs : Keeps wr s₀ s) (p op k src cause : Nat) : Keeps wr s₀ (s.startSteer p op k src cause) := by
  unfold State.startSteer
  extract_lets +onlyGivenNames use bad
  refine Keeps.ite (hs.steerRefuse _ _ _ _) ?_
  extract_lets +onlyGivenNames s1 s2
  have hs1 : Keeps wr s₀ s1 := (hs.steerRefuse _ _ _ _).set _ _
  have hs2 : Keeps wr s₀ s2 := (hs1.set _ _).modOptic _ _
  exact Keeps.ite hs2 (((hs2.set _ _).set _ _).set _ _)

theorem Keeps.steerAck {s₀ s : State} (hs : Keeps wr s₀ s) (p op k : Nat) : Keeps wr s₀ (s.steerAck p op k) := by
  unfold State.steerAck
  refine Keeps.ite ?_ hs
  extract_lets +onlyGivenNames o s1
  have hs1 : Keeps wr s₀ s1 := (hs.set _ _).set _ _
  refine Keeps.ite ?_ (Keeps.ite (((hs1.set _ _).set _ _).set _ _) hs1)
  extract_lets +onlyGivenNames s2
  have hs2 : Keeps wr s₀ s2 := hs1.set _ _
  exact (hs2.laneSpared _ _ _ _).modOptic _ _

theorem Keeps.setPhase {s₀ s : State} (hs : Keeps wr s₀ s) (p n : Nat) : Keeps wr s₀ (s.setPhase p n) :=
  (hs.set _ _).modOptic _ _

theorem Keeps.cage {s₀ s : State} (hs : Keeps wr s₀ s) (p : Nat) (on : Bool) : Keeps wr s₀ (s.cage p on) :=
  hs.plain

theorem Keeps.setCk {s₀ s : State} (hs : Keeps wr s₀ s) (c : Nat) (k : ColokPort) : Keeps wr s₀ (s.setCk c k) :=
  hs.with_colok _ (by simp)

theorem Keeps.colokDrop {s₀ s : State} (hs : Keeps wr s₀ s) (c : Nat) : Keeps wr s₀ (s.colokDrop c) :=
  ((hs.setCk _ _).setReg _ _).set _ _

theorem Keeps.linkDown {s₀ s : State} (hs : Keeps wr s₀ s) (p : Nat) : Keeps wr s₀ (s.linkDown p) :=
  Keeps.ite ((Keeps.ite (hs.set _ _) (hs.colokDrop _)).post _ _) (Keeps.ite (hs.set _ _) (hs.colokDrop _))

theorem Keeps.opticsFresh {s₀ s : State} (hs : Keeps wr s₀ s) (p : Nat) : Keeps wr s₀ (s.opticsFresh p) := by
  unfold State.opticsFresh
  dsimp only
  refine Keeps.modOptic ?_ _ _
  refine Keeps.set ?_ _ _
  refine Keeps.ite ?_ ?_
  · refine Keeps.set ?_ _ _
    refine Keeps.set ?_ _ _
    refine Keeps.set ?_ _ _
    refine Keeps.set ?_ _ _
    refine Keeps.foldl _ (fun s x hs => ?_) _ hs
    exact (((hs.set _ _).set _ _).set _ _).set _ _
  · refine Keeps.set ?_ _ _
    refine Keeps.set ?_ _ _
    refine Keeps.set ?_ _ _
    refine Keeps.foldl _ (fun s x hs => ?_) _ hs
    exact (((hs.set _ _).set _ _).set _ _).set _ _

theorem Keeps.spareOff {s₀ s : State} (hs : Keeps wr s₀ s) (p : Nat) : Keeps wr s₀ (s.spareOff p) :=
  Keeps.ite ((hs.set _ _).laser _ _ _) hs

theorem Keeps.portFail {s₀ s : State} (hs : Keeps wr s₀ s) (p reason : Nat) : Keeps wr s₀ (s.portFail p reason) :=
  Keeps.ite ((((((hs.linkDown _).setPhase _ _).set _ _).setUnit _ _).portFresh _).pumpAll)
      ((((hs.linkDown _).setPhase _ _).set _ _).setUnit _ _)

theorem Keeps.enterDetect {s₀ s : State} (hs : Keeps wr s₀ s) (p : Nat) : Keeps wr s₀ (s.enterDetect p) := by
  unfold State.enterDetect
  refine Keeps.ite hs ?_
  extract_lets +onlyGivenNames s1 s2
  have hs1 : Keeps wr s₀ s1 := (((hs.linkDown _).spareOff _).opticsFresh _).setPhase _ _
  have hs2 : Keeps wr s₀ s2 := (hs1.setUnit _ _).cage _ _
  exact Keeps.ite ((hs2.portFresh _).pumpAll) hs2

theorem Keeps.portEnable {s₀ s : State} (hs : Keeps wr s₀ s) (p : Nat) : Keeps wr s₀ (s.portEnable p) :=
  Keeps.ite hs (Keeps.ite (hs.portFail _ _) ((((hs.set _ _).set _ _).enterDetect _).modOptic _ _))

theorem Keeps.portEnableCmd {s₀ s : State} (hs : Keeps wr s₀ s) (p : Nat) : Keeps wr s₀ (s.portEnableCmd p) :=
  (hs.modOptic _ _).portEnable _

theorem Keeps.portNone {s₀ s : State} (hs : Keeps wr s₀ s) (p : Nat) : Keeps wr s₀ (s.portNone p) := by
  unfold State.portNone
  dsimp only
  exact (((hs.linkDown _).setPhase _ _).cage _ _).modOptic _ _

theorem Keeps.versionRefused {s₀ s : State} (hs : Keeps wr s₀ s) (p iface major tab : Nat) : Keeps wr s₀
    (s.versionRefused p iface major tab) :=
  hs.faultOnce _ _ _ _

/-! ### Power -/

theorem Keeps.showHold {s₀ s : State} (hs : Keeps wr s₀ s) (l : List Nat) : Keeps wr s₀ (s.showHold l) :=
  (hs.plain.set _ _).set _ _

theorem Keeps.setHold {s₀ s : State} (hs : Keeps wr s₀ s) (c : Nat) : Keeps wr s₀ (s.setHold c) :=
  hs.showHold _

theorem Keeps.clearHold {s₀ s : State} (hs : Keeps wr s₀ s) (c : Nat) : Keeps wr s₀ (s.clearHold c) :=
  Keeps.ite (hs.showHold _) hs

theorem Keeps.holdupLow {s₀ s : State} (hs : Keeps wr s₀ s) (need : Nat) : Keeps wr s₀ (s.holdupLow need) :=
  (hs.fault _ _ _ _).alert _

theorem Keeps.showHoldup {s₀ s : State} (hs : Keeps wr s₀ s) : Keeps wr s₀ s.showHoldup :=
  (((hs.set _ _).set _ _).set _ _).set _ _

theorem Keeps.huMeasure {s₀ s : State} (hs : Keeps wr s₀ s) : Keeps wr s₀ (huMeasure s) :=
  Keeps.ite (Keeps.ite hs hs.plain) (Keeps.ite hs.plain hs)

theorem Keeps.huMeasureDone {s₀ s : State} (hs : Keeps wr s₀ s) (dv : Nat) : Keeps wr s₀ (huMeasureDone dv s) :=
  Keeps.ite (((hs.set _ _).set _ _).plain.showHoldup) hs

theorem Keeps.ledgerAdd {s₀ s : State} (hs : Keeps wr s₀ s) (b : LedgerBody) : Keeps wr s₀ (s.ledgerAdd b) :=
  hs.plain.set _ _

theorem Keeps.commitAt {s₀ s : State} (hs : Keeps wr s₀ s) (v : Nat) : Keeps wr s₀ (s.commitAt v) :=
  Keeps.ite hs (Keeps.ite (hs.plain.clearHold _) ((hs.holdupLow _).bump _).plain)

theorem Keeps.ledgerCommit {s₀ s : State} (hs : Keeps wr s₀ s) : Keeps wr s₀ (ledgerCommit s) :=
  Keeps.ite hs (hs.commitAt _)

theorem Keeps.showLedger {s₀ s : State} (hs : Keeps wr s₀ s) : Keeps wr s₀ s.showLedger :=
  ((hs.set _ _).set _ _).set _ _

theorem Keeps.setFlash {s₀ s : State} (hs : Keeps true s₀ s) (b : Nat) (m : Mem) (hm : (s.flash b).wf = true → m.wf = true) :
    Keeps true s₀ (s.setFlash b m) := by
  unfold State.setFlash
  by_cases hb : b = 0
  · rw [if_pos hb]
    exact hs.with_flashA _ (by simpa [State.flash, hb] using hm)
  · rw [if_neg hb]
    exact hs.with_flashB _ (by simpa [State.flash, hb] using hm)

theorem Keeps.imageSignature {s₀ s : State} (hs : Keeps wr s₀ s) (b why : Nat) : Keeps wr s₀ (s.imageSignature b why) :=
  hs.fault _ _ _ _

theorem Keeps.enterTrain {s₀ s : State} (hs : Keeps wr s₀ s) : Keeps wr s₀ s.enterTrain := by
  unfold State.enterTrain
  dsimp only
  refine ((hs.plain.setMState _).bump _).forN _ _ fun s i hs => ?_
  exact Keeps.ite (hs.set _ _) (hs.set _ _)

theorem Keeps.bringUp {s₀ s : State} (hs : Keeps wr s₀ s) : Keeps wr s₀ s.bringUp := by
  unfold State.bringUp
  refine hs.enterTrain.forN _ _ fun s i hs => ?_
  exact hs.portEnable _

theorem Keeps.recover {s₀ s : State} (hs : Keeps wr s₀ s) : Keeps wr s₀ s.recover := by
  unfold State.recover
  dsimp only
  refine Keeps.foldl _ (fun s x hs => ?_) _ (hs.setHold _).plain
  exact Keeps.ite (hs.portEnable _) hs

theorem Keeps.loadImage {s₀ s : State} (hs : Keeps wr s₀ s) (b : Nat) (fallback : Bool) : Keeps wr s₀ (s.loadImage b fallback) :=
  (((((((hs.plain.set _ _).set _ _).set _ _).set _ _).set _ _).set _ _).set _ _).set _ _

theorem Keeps.imageBoot {s₀ s : State} (hs : Keeps wr s₀ s) (readFail : Nat) : Keeps wr s₀ (imageBoot readFail s) := by
  unfold Machine.imageBoot
  refine Keeps.ite ?_ hs
  extract_lets +onlyGivenNames d first w1 s1 w2 s2 s3 src s4
  have h1 : Keeps wr s₀ s1 := Keeps.ite hs (hs.imageSignature _ _)
  have h2 : Keeps wr s₀ s2 := Keeps.ite h1 (h1.imageSignature _ _)
  have h4 : Keeps wr s₀ s4 := (Keeps.ite (h2.ledgerAdd _) h2).plain
  exact Keeps.ite (Keeps.ite (h4.loadImage _ _) ((h4.loadImage _ _).clearHold _).bringUp) h4.recover

theorem Keeps.commitDone {s₀ s : State} (hs : Keeps wr s₀ s) : Keeps wr s₀ s.commitDone :=
  Keeps.ite hs (Keeps.ite (Keeps.ite (((hs.plain.showLedger).plain.clearHold _).bringUp) (hs.plain.showLedger).plain)
      (hs.plain.showLedger))

theorem Keeps.holdupRefuseTimeout {s₀ s : State} (hs : Keeps wr s₀ s) : Keeps wr s₀ (holdupRefuseTimeout s) :=
  Keeps.ite (hs.setHold _) hs

theorem Keeps.flashCtrl {s₀ s : State} (hs : Keeps wr s₀ s) (op b : Nat) : Keeps wr s₀ (s.flashCtrl op b) :=
  Keeps.ite (hs.set _ _)
      (Keeps.ite (Keeps.ite hs (hs.plain.set _ _))
          (Keeps.ite (Keeps.ite ((hs.ledgerAdd _).set _ _) (hs.set _ _)) ((hs.ledgerAdd _).set _ _)))

theorem Keeps.showFlash {s₀ s : State} (hs : Keeps wr s₀ s) : Keeps wr s₀ s.showFlash :=
  (hs.set _ _).set _ _

theorem Keeps.idStart {s₀ s : State} (hs : Keeps wr s₀ s) (op : Nat) : Keeps wr s₀ (s.idStart op) :=
  Keeps.ite (hs.set _ _) ((hs.set _ _).set _ _).plain

theorem Keeps.idOpDone {s₀ s : State} (hs : Keeps wr s₀ s) : Keeps wr s₀ (idOpDone s) := by
  unfold Machine.idOpDone
  dsimp only
  split
  · exact hs
  · refine Keeps.ite (((hs.plain.set _ _).set _ _).plain.set _ _) ?_
    split
    · exact ((hs.plain.set _ _).set _ _).set _ _
    · exact Keeps.ite ((((hs.plain.set _ _).set _ _).ledgerAdd _).set _ _) ((((hs.plain.set _ _).set _ _).holdupLow _).set _ _)

theorem Keeps.idRead {s₀ s : State} (hs : Keeps wr s₀ s) : Keeps wr s₀ (s.idRead).2 :=
  hs.wrapAdd _ _

theorem Keeps.idWrite {s₀ s : State} (hs : Keeps wr s₀ s) (v : Word) : Keeps wr s₀ (s.idWrite v) :=
  (Keeps.ite hs.plain hs).wrapAdd _ _

theorem Keeps.vinWarn {s₀ s : State} (hs : Keeps wr s₀ s) (vin : Nat) : Keeps wr s₀ (vinWarn vin s) :=
  Keeps.ite (hs.plain.alert _) hs.plain

theorem Keeps.prechargeDone {s₀ s : State} (hs : Keeps wr s₀ s) (vin : Nat) : Keeps wr s₀ (prechargeDone vin s) :=
  Keeps.ite ((hs.plain.clearHold _).setMState _) hs

theorem Keeps.prechargeTimeout {s₀ s : State} (hs : Keeps wr s₀ s) : Keeps wr s₀ (prechargeTimeout s) :=
  Keeps.ite (hs.setHold _) hs

/-! ### MemoryCtl -/

theorem Keeps.request {s₀ s : State} (hs : Keeps true s₀ s) (r : MemReq) (atomic : Bool) : Keeps true s₀ (s.request r atomic) := by
  unfold State.request
  refine Keeps.ite ?_ hs
  split
  · exact hs.memRead _ _ _ _
  · exact hs.memPut _ _ _ _ _

theorem Keeps.mcAccess {s₀ s : State} (hs : Keeps true s₀ s) (r : MemReq) : Keeps true s₀ (mcAccess r s) :=
  Keeps.ite (hs.request _ _) hs

theorem Keeps.mcAtomicAdd {s₀ s : State} (hs : Keeps true s₀ s) (r : MemReq) : Keeps true s₀ (mcAtomicAdd r s) :=
  Keeps.ite (hs.request _ _) hs

theorem Keeps.farReady {s₀ s : State} (hs : Keeps wr s₀ s) (p : Nat) : Keeps wr s₀ (s.farReady p) :=
  ((hs.set _ _).set _ _).set _ _

theorem Keeps.farRetrain {s₀ s : State} (hs : Keeps wr s₀ s) (p : Nat) (ok : Bool) : Keeps wr s₀ (farRetrain p ok s) :=
  Keeps.ite (hs.absentUnit _ _) (Keeps.ite (Keeps.ite (((hs.setUnit _ _).setUnit _ _).farReady _) ((hs.setUnit _ _).setUnit _ _)) hs)

theorem Keeps.unmapRetired {s₀ s : State} (hs : Keeps wr s₀ s) : Keeps wr s₀ s.unmapRetired := by
  unfold State.unmapRetired
  refine Keeps.countPcs ?_
  refine hs.forN _ _ fun s i hs => ?_
  exact hs.set _ _

theorem Keeps.mapLoad {s₀ s : State} (hs : Keeps wr s₀ s) : Keeps wr s₀ (mapLoad s) :=
  Keeps.ite ((hs.set _ _).bump _) (hs.unmapRetired.set _ _).plain

theorem Keeps.mapLoadEffect {s₀ s : State} (hs : Keeps wr s₀ s) : Keeps wr s₀ (mapLoadEffect s) := by
  unfold Machine.mapLoadEffect
  split
  · exact Keeps.ite ((hs.set _ _).applyMap _) hs
  · exact hs

theorem Keeps.softRepair {s₀ s : State} (hs : Keeps wr s₀ s) (n : Nat) : Keeps wr s₀ (softRepair n s) :=
  Keeps.ite ((hs.stagedDone _).setMemctl _ _) hs

theorem Keeps.softRepairDone {s₀ s : State} (hs : Keeps wr s₀ s) (n : Nat) : Keeps wr s₀ (softRepairDone n s) := by
  unfold Machine.softRepairDone
  dsimp only
  split
  · exact hs
  · exact (hs.setMemctl _ _).bump _

theorem Keeps.pcMappedOut {s₀ s : State} (hs : Keeps wr s₀ s) (n p cause : Nat) : Keeps wr s₀ (s.pcMappedOut n p cause) :=
  hs.fault _ _ _ _

theorem Keeps.pcRetire {s₀ s : State} (hs : Keeps wr s₀ s) (n : Nat) : Keeps wr s₀ (pcRetire n s) := by
  unfold Machine.pcRetire
  dsimp only
  refine Keeps.ite ?_ hs
  refine (hs.stagedDone _).forN _ _ fun s i hs => ?_
  exact Keeps.ite ((hs.set _ _).pcMappedOut _ _ _) hs

theorem Keeps.recordRetired {s₀ s : State} (hs : Keeps wr s₀ s) (n : Nat) : Keeps wr s₀ (s.recordRetired n) := by
  unfold State.recordRetired
  refine hs.forN _ _ fun s i hs => ?_
  exact Keeps.ite (hs.ledgerAdd _) hs

theorem Keeps.mcStop {s₀ s : State} (hs : Keeps wr s₀ s) (n : Nat) : Keeps wr s₀ (s.mcStop n) :=
  ((hs.setMemctl _ _).set _ _).setUnit _ _

theorem Keeps.thermalAction {s₀ s : State} (hs : Keeps wr s₀ s) (n : Nat) : Keeps wr s₀ (thermalAction n s) :=
  Keeps.ite (Keeps.ite (((hs.stagedDone _).setMemctl _ _).mcStop _)
      (Keeps.ite (((hs.stagedDone _).setMemctl _ _).setUnit _ _) ((hs.stagedDone _).setMemctl _ _))) hs

theorem Keeps.stackCritical {s₀ s : State} (hs : Keeps wr s₀ s) (n temp : Nat) (trip : Bool) : Keeps wr s₀
    (s.stackCritical n temp trip) :=
  (hs.alert _).fault _ _ _ _

theorem Keeps.loseStack {s₀ s : State} (hs : Keeps true s₀ s) (n : Nat) : Keeps true s₀ (s.loseStack n) :=
  Keeps.ite (((hs.with_near _ (Mem.wf_loseStack _ _)).set _ _).set _ _) (hs.with_near _ (Mem.wf_loseStack _ _))

theorem Keeps.catastrophicTemperature {s₀ s : State} (hs : Keeps true s₀ s) (n : Nat) : Keeps true s₀ (catastrophicTemperature n s) := by
  unfold Machine.catastrophicTemperature
  extract_lets +onlyGivenNames c s1 s2
  have hs1 : Keeps true s₀ s1 := (hs.loseStack _).setMemctl _ _
  have hs2 : Keeps true s₀ s2 := Keeps.ite hs1 ((hs1.set _ _).stackCritical _ _ _)
  exact Keeps.ite hs2 (hs2.mcStop _)

theorem Keeps.trainPc {s₀ s : State} (hs : Keeps wr s₀ s) (n p : Nat) (failed : Bool) : Keeps wr s₀ (s.trainPc n p failed) :=
  Keeps.ite (hs.pcMappedOut _ _ _) hs

theorem Keeps.recordTraining {s₀ s : State} (hs : Keeps wr s₀ s) (n p : Nat) : Keeps wr s₀ (s.recordTraining n p) :=
  Keeps.ite hs (Keeps.ite (hs.ledgerAdd _) (Keeps.ite hs (hs.ledgerAdd _)))

theorem Keeps.firstMap {s₀ s : State} (hs : Keeps wr s₀ s) : Keeps wr s₀ s.firstMap := by
  unfold State.firstMap
  dsimp only
  refine Keeps.ite hs ?_
  refine Keeps.applyMap ?_ _
  refine Keeps.countPcs ?_
  refine hs.forN _ _ fun s i hs => ?_
  exact hs.set _ _

theorem Keeps.mcTrainDone {s₀ s : State} (hs : Keeps true s₀ s) (n : Nat) (t : Training) : Keeps true s₀ (mcTrainDone n t s) := by
  unfold Machine.mcTrainDone
  refine Keeps.ite ?_ hs
  extract_lets +onlyGivenNames c failed s1 s2 s3 s4
  have hs1 : Keeps true s₀ s1 := hs.setReg _ _
  have hs2 : Keeps true s₀ s2 := ((hs1.set _ _).set _ _).setMemctl _ _
  have hs3 : Keeps true s₀ s3 := Keeps.ite (hs2.loseStack _) hs2
  have hs4 : Keeps true s₀ s4 := hs3.setUnit _ _
  refine Keeps.ite hs4 ?_
  extract_lets +onlyGivenNames s5
  have hs5 : Keeps true s₀ s5 := by
    unfold s5
    refine hs4.forN _ _ fun s i hs => ?_
    exact hs.trainPc _ _ _
  exact Keeps.ite hs5.firstMap hs5

theorem Keeps.recordRepairs {s₀ s : State} (hs : Keeps wr s₀ s) (n : Nat) : Keeps wr s₀ (s.recordRepairs n) := by
  unfold State.recordRepairs
  dsimp only
  refine Keeps.setMemctl ?_ _ _
  refine Keeps.foldl _ (fun s x hs => ?_) _ hs
  exact hs.ledgerAdd _

theorem Keeps.wantRetire {s₀ s : State} (hs : Keeps wr s₀ s) (n p cause : Nat) : Keeps wr s₀ (s.wantRetire n p cause) :=
  ((hs.setMemctl _ _).set _ _).armStaged _ _ _

theorem Keeps.monitorRow {s₀ s : State} (hs : Keeps wr s₀ s) (n : Nat) (es : List EccEntry) (e : EccEntry) :
    Keeps wr s₀ (s.monitorRow n es e) :=
  Keeps.ite hs (Keeps.ite (Keeps.ite (hs.fault _ _ _ _) ((hs.fault _ _ _ _).wantRetire _ _ _))
      (Keeps.ite hs (Keeps.ite (hs.wantRetire _ _ _) (hs.setMemctl _ _))))

theorem Keeps.armRepair {s₀ s : State} (hs : Keeps wr s₀ s) (n : Nat) : Keeps wr s₀ (s.armRepair n) := by
  unfold State.armRepair
  dsimp only
  split
  · exact Keeps.ite (((hs.setMemctl _ _).setReg _ _).armStaged _ _ _) hs
  · exact hs

theorem Keeps.latchLog {s₀ s : State} (hs : Keeps wr s₀ s) (n : Nat) : Keeps wr s₀ (s.latchLog n) := by
  unfold State.latchLog
  dsimp only
  refine Keeps.setMemctl ?_ _ _
  refine hs.forN _ _ fun s i hs => ?_
  exact hs.setReg _ _

theorem Keeps.monitorLog {s₀ s0 : State} (hs : Keeps wr s₀ s0) (n : Nat) : Keeps wr s₀ (s0.monitorLog n) := by
  unfold State.monitorLog
  dsimp only
  refine Keeps.armRepair ?_ _
  refine Keeps.foldl _ (fun s x hs => ?_) _ ?_
  · exact hs.monitorRow _ _ _
  · refine Keeps.setMemctl ?_ _ _
    refine Keeps.recordRetired ?_ _
    refine Keeps.recordRepairs ?_ _
    refine Keeps.setMemctl ?_ _ _
    refine Keeps.ite ?_ hs
    refine hs.forN _ _ fun s i hs => ?_
    exact hs.recordTraining _ _

theorem Keeps.armThermal {s₀ s : State} (hs : Keeps wr s₀ s) (n refx : Nat) (stop throttle : Bool) :
    Keeps wr s₀ (s.armThermal n refx stop throttle) :=
  (hs.setReg _ _).armStaged _ _ _

theorem Keeps.monitorTemp {s₀ s0 : State} (hs : Keeps wr s₀ s0) (n temp : Nat) : Keeps wr s₀ (s0.monitorTemp n temp) := by
  unfold State.monitorTemp
  extract_lets +onlyGivenNames hot crit hyst t s c
  have hs : Keeps wr s₀ s := (hs.set _ _).set _ _
  split
  · exact Keeps.ite (Keeps.ite ((((hs.setMemctl _ _).set _ _).alert _).armThermal _ _ _ _) (hs.setMemctl _ _)) (hs.setMemctl _ _)
  · exact Keeps.ite ((((hs.setMemctl _ _).set _ _).stackCritical _ _ _).armThermal _ _ _ _)
      (Keeps.ite (((hs.set _ _).alert _).armThermal _ _ _ _) (Keeps.ite ((hs.set _ _).armThermal _ _ _ _) hs))

theorem Keeps.monitorSnap {s₀ s : State} (hs : Keeps wr s₀ s) (n : Nat) : Keeps wr s₀ (s.monitorSnap n) :=
  ((hs.setReg _ _).setReg _ _).setMemctl _ _

/-! ### Optics -/

theorem Keeps.capsBody {s₀ s : State} (hs : Keeps wr s₀ s) (p : Nat) : Keeps wr s₀ (s.capsBody p).2 := by
  unfold State.capsBody
  dsimp only
  split
  · exact hs.setOptic _ _
  · split
    · exact hs.setOptic _ _
    · exact hs

theorem Keeps.sendLcws {s₀ s : State} (hs : Keeps wr s₀ s) (p : Nat) : Keeps wr s₀ (s.sendLcws p) := by
  unfold State.sendLcws
  dsimp only
  refine Keeps.plain ?_
  refine Keeps.ite ?_ ?_
  · refine Keeps.modOptic ?_ _ _
    split
    · exact hs
    · split
      · exact hs
      · split
        · exact hs.capsBody _
        · exact hs
  · split
    · exact hs
    · split
      · exact hs
      · split
        · exact hs.capsBody _
        · exact hs

theorem Keeps.pingIn {s₀ s : State} (hs : Keeps wr s₀ s) (p : Nat) (w : Word) (cycle : Nat) : Keeps wr s₀ (s.pingIn p w cycle) :=
  Keeps.ite (hs.modOptic _ _) hs

theorem Keeps.echoIn {s₀ s : State} (hs : Keeps wr s₀ s) (p : Nat) (w : Word) (cycle : Nat) : Keeps wr s₀ (s.echoIn p w cycle) :=
  Keeps.ite ((hs.set _ _).set _ _) hs

theorem Keeps.versionsIn {s₀ s : State} (hs : Keeps wr s₀ s) (p tab : Nat) : Keeps wr s₀ (s.versionsIn p tab) := by
  unfold State.versionsIn
  split
  · exact (((hs.set _ _).set _ _).set _ _).set _ _
  · exact (((hs.set _ _).set _ _).versionRefused _ _ _ _).portFail _ _

theorem Keeps.capsIn {s₀ s : State} (hs : Keeps wr s₀ s) (p : Nat) (w : Word) (cycle : Nat) : Keeps wr s₀ (s.capsIn p w cycle) := by
  unfold State.capsIn
  refine Keeps.ite hs ?_
  split
  · exact hs.modOptic _ _
  · exact hs.pingIn _ _ _
  · exact hs.echoIn _ _ _
  · exact hs.versionsIn _ _
  · exact hs

theorem Keeps.reportIn {s₀ s : State} (hs : Keeps wr s₀ s) (p kind lane value : Nat) : Keeps wr s₀ (s.reportIn p kind lane value) := by
  unfold State.reportIn
  dsimp only
  split
  · exact Keeps.ite ((Keeps.ite (hs.set _ _) hs).modLane _ _ _) (Keeps.ite (hs.set _ _) hs)
  · exact Keeps.ite ((Keeps.ite (hs.set _ _) hs).modLane _ _ _) (Keeps.ite (hs.set _ _) hs)
  · exact Keeps.ite ((Keeps.ite (hs.set _ _) hs).steerAck _ _ _) (Keeps.ite (hs.set _ _) hs)
  · exact Keeps.ite (((Keeps.ite (hs.set _ _) hs).modLane _ _ _).txLaneFails _ _ _) (Keeps.ite (hs.set _ _) hs)
  · exact (Keeps.ite (hs.set _ _) hs).modOptic _ _
  · exact (Keeps.ite (hs.set _ _) hs).modOptic _ _
  · exact Keeps.ite (hs.set _ _) hs

theorem Keeps.steerIn {s₀ s : State} (hs : Keeps wr s₀ s) (p op k : Nat) : Keeps wr s₀ (s.steerIn p op k) :=
  Keeps.ite hs (Keeps.ite (hs.report _ _ _ _) (Keeps.ite hs (hs.setOptic _ _)))

theorem Keeps.takeBeacon {s₀ s : State} (hs : Keeps wr s₀ s) (p : Nat) (ended : Bool) : Keeps wr s₀ (s.takeBeacon p ended) := by
  unfold State.takeBeacon
  split
  · exact hs
  · exact Keeps.ite ((hs.modOptic _ _).beaconIn _ _ _ _) hs

theorem Keeps.holdBeacon {s₀ s : State} (hs : Keeps wr s₀ s) (p lane cycle : Nat) (body : Word) :
    Keeps wr s₀ (s.holdBeacon p lane cycle body) :=
  Keeps.ite hs (hs.setOptic _ _)

theorem Keeps.lcwReceive {s₀ s : State} (hs : Keeps wr s₀ s) (p lane cycle : Nat) (w : BitVec 128) (corr uncorr : Nat) :
    Keeps wr s₀ (lcwReceive p lane cycle w corr uncorr s) := by
  unfold Machine.lcwReceive
  extract_lets +onlyGivenNames n ph
  refine Keeps.ite hs ?_
  extract_lets +onlyGivenNames s1 s2 s21
  have hs1 : Keeps wr s₀ s1 := hs.modLane _ _ _
  have hs2 : Keeps wr s₀ s2 := hs1.report _ _ _ _
  have hs21 : Keeps wr s₀ s21 := Keeps.ite (Keeps.ite (hs2.rxLaneFails _ _ _) hs2) hs1
  refine Keeps.ite ((hs21.bump _).takeBeacon _ _) ?_
  extract_lets +onlyGivenNames id s3 s4 s5 body
  have hs3 : Keeps wr s₀ s3 := (hs21.set _ _).modLane _ _ _
  have hs4 : Keeps wr s₀ s4 := hs3.reportIn _ _ _ _
  have hs5 : Keeps wr s₀ s5 := Keeps.ite (hs4.steerIn _ _ _) hs4
  split
  · exact Keeps.ite ((hs5.holdBeacon _ _ _ _).takeBeacon _ _) hs5
  · exact (hs5.capsIn _ _ _).takeBeacon _ _
  · exact hs5.takeBeacon _ _

theorem Keeps.slotChecks {s₀ s : State} (hs : Keeps wr s₀ s) (p : Nat) : Keeps wr s₀ (s.slotChecks p) := by
  unfold State.slotChecks
  dsimp only
  refine Keeps.modOptic ?_ _ _
  refine Keeps.foldl _ (fun s x hs => ?_) _ hs
  exact Keeps.ite (((((hs.modLane _ _ _).report _ _ _ _).rxLaneFails _ _ _).post _ _).modOptic _ _) (hs.modLane _ _ _)

theorem Keeps.takeSwitch {s₀ s : State} (hs : Keeps wr s₀ s) (p : Nat) : Keeps wr s₀ (s.takeSwitch p) := by
  unfold State.takeSwitch
  dsimp only
  split
  · exact hs
  · exact Keeps.ite hs ((hs.modOptic _ _).report _ _ _ _)

theorem Keeps.portSlot {s₀ s : State} (hs : Keeps wr s₀ s) (p : Nat) : Keeps wr s₀ (s.portSlot p) :=
  Keeps.ite hs ((((Keeps.ite ((hs.takeBeacon _ _).slotChecks _) hs).sendLcws _).modOptic _ _).takeSwitch _)

theorem Keeps.resend {s₀ s : State} (hs : Keeps wr s₀ s) (p : Nat) : Keeps wr s₀ (s.resend p) :=
  Keeps.ite (hs.sendLcws _) hs

theorem Keeps.steer {s₀ s : State} (hs : Keeps wr s₀ s) (p : Nat) : Keeps wr s₀ (steer p s) :=
  Keeps.ite (((hs.stagedDone _).startSteer _ _ _ _ _).resend _) hs

theorem Keeps.laneDeclare {s₀ s : State} (hs : Keeps wr s₀ s) (p : Nat) : Keeps wr s₀ (laneDeclare p s) := by
  unfold Machine.laneDeclare
  dsimp only
  refine Keeps.ite ?_ hs
  refine Keeps.foldl _ (fun s x hs => ?_) _ (hs.stagedDone _)
  exact Keeps.ite ((Keeps.ite (hs.txLaneFails _ _ _) hs).rxLaneFails _ _ _) (Keeps.ite (hs.txLaneFails _ _ _) hs)

theorem Keeps.steerRetry {s₀ s : State} (hs : Keeps wr s₀ s) (p : Nat) : Keeps wr s₀ (steerRetry p s) :=
  Keeps.ite (Keeps.ite ((((hs.bump _).bump _).setOptic _ _).resend _) (hs.set _ _)) hs

theorem Keeps.autoSpare {s₀ s : State} (hs : Keeps wr s₀ s) (p : Nat) : Keeps wr s₀ (autoSpare p s) := by
  unfold Machine.autoSpare
  refine Keeps.ite ?_ hs
  split
  · exact hs
  · exact (hs.startSteer _ _ _ _ _).resend _

theorem Keeps.linkLost {s₀ s : State} (hs : Keeps wr s₀ s) (p : Nat) : Keeps wr s₀ (linkLost p s) :=
  Keeps.ite ((((Keeps.ite (hs.set _ _) hs).linkDown _).setUnit _ _).pumpAll) hs

theorem Keeps.retrainLost {s₀ s : State} (hs : Keeps wr s₀ s) (p : Nat) : Keeps wr s₀ (s.retrainLost p) :=
  Keeps.ite hs (((hs.set _ _).enterDetect _).modOptic _ _)

theorem Keeps.portDrainDone {s₀ s : State} (hs : Keeps wr s₀ s) (p : Nat) : Keeps wr s₀ (portDrainDone p s) :=
  Keeps.ite (Keeps.ite ((((hs.setUnit _ _).portFresh _).set _ _).retrainLost _) ((hs.setUnit _ _).portFresh _)) hs

theorem Keeps.retrain {s₀ s : State} (hs : Keeps wr s₀ s) (p : Nat) : Keeps wr s₀ (retrain p s) :=
  Keeps.ite ((hs.post _ _).retrainLost _) hs

theorem Keeps.upFrame {s₀ s : State} (hs : Keeps wr s₀ s) (p : Nat) (f : BitVec 32) : Keeps wr s₀ (upFrame p f s) := by
  unfold Machine.upFrame
  dsimp only
  refine Keeps.ite (hs.bump _) ?_
  split
  · exact Keeps.ite ((hs.modOptic _ _).modLane _ _ _) (hs.modOptic _ _)
  · exact Keeps.ite ((hs.modOptic _ _).modOptic _ _) (Keeps.ite ((hs.modOptic _ _).modOptic _ _) (hs.modOptic _ _))
  · exact (hs.modOptic _ _).modOptic _ _
  · exact (hs.modOptic _ _).modOptic _ _
  · exact hs.modOptic _ _

theorem Keeps.sidebandLost {s₀ s : State} (hs : Keeps wr s₀ s) (p : Nat) : Keeps wr s₀ (sidebandLost p s) :=
  Keeps.ite (hs.portFail _ _) hs

theorem Keeps.spareWarmTimeout {s₀ s : State} (hs : Keeps wr s₀ s) (p : Nat) : Keeps wr s₀ (spareWarmTimeout p s) :=
  Keeps.ite ((hs.set _ _).laserFade _ _ _ _) hs

theorem Keeps.engineDetected {s₀ s : State} (hs : Keeps wr s₀ s) (p : Nat) (e : EngineRecord) : Keeps wr s₀ (engineDetected p e s) := by
  unfold Machine.engineDetected
  dsimp only
  refine Keeps.ite (Keeps.ite ((hs.modOptic _ _).portEnable _) (hs.modOptic _ _)) ?_
  refine Keeps.ite ?_ ?_
  · refine Keeps.portFail ?_ _ _
    refine Keeps.versionRefused ?_ _ _ _ _
    refine Keeps.set ?_ _ _
    refine Keeps.set ?_ _ _
    refine Keeps.foldl _ (fun s x hs => ?_) _ ((Keeps.ite ((hs.modOptic _ _).portEnable _) (hs.modOptic _ _)).setReg _ _)
    exact ((hs.set _ _).set _ _).set _ _
  · refine Keeps.setPhase ?_ _ _
    refine Keeps.laser ?_ _ _ _
    refine Keeps.set ?_ _ _
    refine Keeps.ite ?_ ?_
    · refine Keeps.laser ?_ _ _ _
      refine Keeps.set ?_ _ _
      refine Keeps.set ?_ _ _
      refine Keeps.foldl _ (fun s x hs => ?_) _ ((Keeps.ite ((hs.modOptic _ _).portEnable _) (hs.modOptic _ _)).setReg _ _)
      exact ((hs.set _ _).set _ _).set _ _
    · refine Keeps.set ?_ _ _
      refine Keeps.set ?_ _ _
      refine Keeps.foldl _ (fun s x hs => ?_) _ ((Keeps.ite ((hs.modOptic _ _).portEnable _) (hs.modOptic _ _)).setReg _ _)
      exact ((hs.set _ _).set _ _).set _ _

theorem Keeps.laserStable {s₀ s : State} (hs : Keeps wr s₀ s) (p : Nat) : Keeps wr s₀ (laserStable p s) :=
  Keeps.ite (hs.setPhase _ _) hs

theorem Keeps.lockRings {s₀ s : State} (hs : Keeps wr s₀ s) (p base : Nat) (locks : List Nat) : Keeps wr s₀ (s.lockRings p base locks) :=
    by
  unfold State.lockRings
  dsimp only
  refine Keeps.foldl _ (fun s x hs => ?_) _ hs
  exact Keeps.ite (((hs.set _ _).set _ _).set _ _) (hs.set _ _)

theorem Keeps.txAcqDone {s₀ s : State} (hs : Keeps wr s₀ s) (p : Nat) (locks : List Nat) : Keeps wr s₀ (txAcqDone p locks s) :=
  Keeps.ite (((hs.lockRings _ _ _).modOptic _ _).setPhase _ _) hs

theorem Keeps.buildMap {s₀ s : State} (hs : Keeps wr s₀ s) (p : Nat) (tx rx : List Nat) : Keeps wr s₀ (s.buildMap p tx rx) := by
  unfold State.buildMap
  dsimp only
  refine Keeps.modOptic ?_ _ _
  split
  · refine Keeps.set ?_ _ _
    refine Keeps.set ?_ _ _
    refine Keeps.foldl _ (fun s x hs => ?_) _ hs
    exact ((hs.set _ _).set _ _).setLaneOk _ _ _
  · refine Keeps.foldl _ (fun s x hs => ?_) _ hs
    exact ((hs.set _ _).set _ _).setLaneOk _ _ _

theorem Keeps.rxAcqDone {s₀ s : State} (hs : Keeps wr s₀ s) (p : Nat) (locks : List Nat) : Keeps wr s₀ (rxAcqDone p locks s) :=
  Keeps.ite ((((hs.lockRings _ _ _).add _ _).buildMap _ _ _).setPhase _ _) hs

theorem Keeps.eqDone {s₀ s : State} (hs : Keeps wr s₀ s) (p : Nat) (refs : List Nat) : Keeps wr s₀ (eqDone p refs s) := by
  unfold Machine.eqDone
  dsimp only
  refine Keeps.ite ?_ hs
  refine Keeps.setPhase ?_ _ _
  refine Keeps.modOptic ?_ _ _
  refine Keeps.foldl _ (fun s x hs => ?_) _ ?_
  · exact (hs.modLane _ _ _).set _ _
  · refine Keeps.foldl _ (fun s x hs => ?_) _ hs
    exact Keeps.ite (hs.set _ _) hs

theorem Keeps.portService {s₀ s : State} (hs : Keeps wr s₀ s) (p : Nat) : Keeps wr s₀ (s.portService p) := by
  unfold State.portService
  dsimp only
  refine Keeps.ite ?_ ((((((hs.setPhase _ _).set _ _).set _ _).setUnit _ _).post _ _).modOptic _ _)
  refine Keeps.pumpAll ?_
  refine Keeps.portFresh ?_ _
  split
  · exact ((((((((hs.setPhase _ _).set _ _).set _ _).setUnit _ _).post _ _).modOptic _ _).set _ _).set _ _).set _ _
  · exact ((((((hs.setPhase _ _).set _ _).set _ _).setUnit _ _).post _ _).modOptic _ _).set _ _

theorem Keeps.capsAgreed {s₀ s : State} (hs : Keeps wr s₀ s) (p : Nat) (caps : Word) : Keeps wr s₀ (capsAgreed p caps s) :=
  Keeps.ite (Keeps.ite ((hs.versionsIn _ _).portService _) (hs.versionsIn _ _)) hs

theorem Keeps.trainPhaseTimeout {s₀ s : State} (hs : Keeps wr s₀ s) (p : Nat) : Keeps wr s₀ (trainPhaseTimeout p s) :=
  Keeps.ite (Keeps.ite (((hs.bump _).bump _).portFail _ _) (((hs.bump _).bump _).enterDetect _)) hs

theorem Keeps.engineRemoved {s₀ s : State} (hs : Keeps wr s₀ s) (p : Nat) : Keeps wr s₀ (engineRemoved p s) := by
  unfold Machine.engineRemoved
  extract_lets +onlyGivenNames up s1 s2 s3
  have hs1 : Keeps wr s₀ s1 := ((hs.portNone _).opticsFresh _).set _ _
  have hs2 : Keeps wr s₀ s2 := hs1.modOptic _ _
  have hs3 : Keeps wr s₀ s3 := Keeps.ite (hs2.setUnit _ _) hs2
  exact Keeps.ite ((hs3.portFresh _).pumpAll) hs3

theorem Keeps.overCurrent {s₀ s : State} (hs : Keeps wr s₀ s) (p : Nat) : Keeps wr s₀ (overCurrent p s) :=
  Keeps.ite (((hs.cage _ _).portFail _ _).modOptic _ _) hs

theorem Keeps.optCmd {s₀ s : State} (hs : Keeps wr s₀ s) (p action lane : Nat) : Keeps wr s₀ (optCmd p action lane s) :=
  Keeps.ite (hs.modOptic _ _) hs

theorem Keeps.dither {s₀ s : State} (hs : Keeps wr s₀ s) (p : Nat) : Keeps wr s₀ (dither p s) :=
  Keeps.ite ((hs.down _ _ _ _).modOptic _ _) hs

theorem Keeps.sample {s₀ s : State} (hs : Keeps wr s₀ s) (p : Nat) : Keeps wr s₀ (sample p s) :=
  Keeps.ite ((hs.down _ _ _ _).modOptic _ _) hs

/-! ### OptLoop -/

theorem Keeps.optLatch {s₀ s : State} (hs : Keeps wr s₀ s) (p : Nat) (r : PortReading) : Keeps wr s₀ (s.optLatch p r) := by
  unfold State.optLatch
  dsimp only
  refine Keeps.modOptic ?_ _ _
  refine Keeps.foldl _ (fun s x hs => ?_) _ hs
  exact ((((((hs.set _ _).set _ _).set _ _).set _ _).set _ _).set _ _).modLane _ _ _

theorem Keeps.declareLane {s₀ s : State} (hs : Keeps wr s₀ s) (p l : Nat) (tx : Bool) : Keeps wr s₀ (s.declareLane p l tx) :=
  ((Keeps.ite hs (hs.setReg _ _)).set _ _).armStaged _ _ _

theorem Keeps.sweep {s₀ s : State} (hs : Keeps wr s₀ s) (p : Nat) (w : Sweep) : Keeps wr s₀ (s.sweep p w) :=
  hs.modOptic _ _

theorem Keeps.lockLost {s₀ s : State} (hs : Keeps wr s₀ s) (p r reason : Nat) : Keeps wr s₀ (s.lockLost p r reason) :=
  (Keeps.ite ((((hs.opticFault _ _ _ _ _).set _ _).bump _).declareLane _ _ _) (((hs.opticFault _ _ _ _ _).set _ _).bump _)).sweep _ _

theorem Keeps.lockCounts {s₀ s : State} (hs : Keeps wr s₀ s) (p : Nat) : Keeps wr s₀ (s.lockCounts p) := by
  unfold State.lockCounts
  dsimp only
  refine Keeps.foldl _ (fun s x hs => ?_) _ hs
  exact hs.modLane _ _ _

theorem Keeps.lockRing {s₀ s : State} (hs : Keeps wr s₀ s) (p r : Nat) (upd : Bool) : Keeps wr s₀ (s.lockRing p r upd) := by
  unfold State.lockRing
  refine Keeps.ite hs ?_
  extract_lets +onlyGivenNames n
  refine Keeps.ite (hs.lockLost _ _ _) ?_
  refine Keeps.ite (hs.lockLost _ _ _) ?_
  refine Keeps.ite (hs.lockLost _ _ _) ?_
  refine Keeps.ite hs ?_
  refine Keeps.ite (hs.bump _) ?_
  extract_lets +onlyGivenNames target lim step c h
  exact Keeps.ite (hs.lockLost _ _ _) (hs.modOptic _ _)

theorem Keeps.sendCodes {s₀ s : State} (hs : Keeps wr s₀ s) (p : Nat) : Keeps wr s₀ (s.sendCodes p) := by
  unfold State.sendCodes
  dsimp only
  refine Keeps.down ?_ _ _ _ _
  refine Keeps.foldl _ (fun s x hs => ?_) _ hs
  exact hs.down _ _ _ _

theorem Keeps.mirageStep {s₀ s : State} (hs : Keeps wr s₀ s) (p r id : Nat) : Keeps wr s₀ (s.mirageStep p r id) :=
  Keeps.ite ((hs.declareLane _ _ _).mirageLock _ _ _ _ _ _ _) (((((hs.set _ _).heater _ _ _).applyNow _).bump _).sweep _ _)

theorem Keeps.mirageLook {s₀ s : State} (hs : Keeps wr s₀ s) (p : Nat) : Keeps wr s₀ (s.mirageLook p) := by
  unfold State.mirageLook
  dsimp only
  refine Keeps.modOptic ?_ _ _
  refine Keeps.ite ?_ ?_
  · refine Keeps.foldl _ (fun s x hs => ?_) _ hs
    exact Keeps.ite hs (Keeps.ite (hs.mirageStep _ _ _) (hs.sweep _ _))
  · refine Keeps.foldl _ (fun s x hs => ?_) _ ?_
    · exact hs.mirageStep _ _ _
    · refine Keeps.foldl _ (fun s x hs => ?_) _ hs
      exact Keeps.ite hs (Keeps.ite (hs.mirageStep _ _ _) (hs.sweep _ _))

theorem Keeps.laneBack {s₀ s : State} (hs : Keeps wr s₀ s) (p l : Nat) : Keeps wr s₀ (s.laneBack p l) :=
  Keeps.ite (((hs.set _ _).setLaneOk _ _ _).modOptic _ _) hs

theorem Keeps.sweepOne {s₀ s : State} (hs : Keeps wr s₀ s) (p : Nat) (found : List (Nat × Nat)) (w : Sweep) :
    Keeps wr s₀ (s.sweepOne p found w) := by
  unfold State.sweepOne
  dsimp only
  refine Keeps.ite (Keeps.ite hs (Keeps.ite ((hs.set _ _).sweep _ _) (hs.sweep _ _))) ?_
  split
  · exact Keeps.ite (((hs.set _ _).set _ _).laneBack _ _) ((((hs.set _ _).set _ _).set _ _).mirageLock _ _ _ _ _ _ _)
  · exact Keeps.ite ((hs.declareLane _ _ _).mirageLock _ _ _ _ _ _ _) (hs.sweep _ _)

theorem Keeps.sweepAll {s₀ s : State} (hs : Keeps wr s₀ s) (p : Nat) (found : List (Nat × Nat)) : Keeps wr s₀ (s.sweepAll p found) := by
  unfold State.sweepAll
  dsimp only
  refine Keeps.foldl _ (fun s x hs => ?_) _ (hs.modOptic _ _)
  exact hs.sweepOne _ _ _

theorem Keeps.dipStep {s₀ s : State} (hs : Keeps wr s₀ s) (p : Nat) (found : List (Nat × Nat)) : Keeps wr s₀ (s.dipStep p found) := by
  unfold State.dipStep
  dsimp only
  refine Keeps.modOptic ?_ _ _
  refine Keeps.foldl _ (fun s x hs => ?_) _ hs
  split
  · exact hs
  · exact (hs.heater _ _ _).applyNow _
  · exact hs

theorem Keeps.fadeValues {s₀ s : State} (hs : Keeps wr s₀ s) (p : Nat) : Keeps wr s₀ (s.fadeValues p) := by
  unfold State.fadeValues
  dsimp only
  refine Keeps.ite ?_ ?_
  · refine Keeps.set ?_ _ _
    refine Keeps.set ?_ _ _
    refine Keeps.set ?_ _ _
    refine Keeps.modOptic ?_ _ _
    refine Keeps.ite ?_ hs
    refine Keeps.foldl _ (fun s x hs => ?_) _ (hs.modOptic _ _)
    exact hs.modLane _ _ _
  · refine Keeps.modOptic ?_ _ _
    refine Keeps.ite ?_ hs
    refine Keeps.foldl _ (fun s x hs => ?_) _ (hs.modOptic _ _)
    exact hs.modLane _ _ _

theorem Keeps.stageSteer {s₀ s : State} (hs : Keeps wr s₀ s) (p op k cause : Nat) : Keeps wr s₀ (s.stageSteer p op k cause) :=
  (((hs.set _ _).set _ _).modOptic _ _).armStaged _ _ _

theorem Keeps.lineStep {s₀ s : State} (hs : Keeps wr s₀ s) (p : Nat) (upd : Bool) : Keeps wr s₀ (s.lineStep p upd) :=
  Keeps.ite hs ((hs.down _ _ _ _).modOptic _ _)

theorem Keeps.warmSpare {s₀ s : State} (hs : Keeps wr s₀ s) (p : Nat) (align : Int) (upd : Bool) : Keeps wr s₀
    (s.warmSpare p align upd) := by
  unfold State.warmSpare
  extract_lets +onlyGivenNames hot o st
  refine Keeps.ite (Keeps.ite ((hs.laserFade _ _ _ _).modOptic _ _) (Keeps.ite hs (hs.modOptic _ _))) ?_
  refine Keeps.ite ?_ ?_
  · refine Keeps.ite ?_ hs
    split
    next _ _ s1 e =>
      have hs1 : Keeps wr s₀ s1 := ((((hs.set _ _).laser _ _ _).laserFade _ _ _ _).fresh).snd_eq e
      exact hs1.modOptic _ _
  · extract_lets +onlyGivenNames s1
    have hs1 : Keeps wr s₀ s1 := hs.set _ _
    exact Keeps.ite (Keeps.ite (hs1.set _ _) ((hs1.lineStep _ _).modOptic _ _)) hs1

theorem Keeps.startSwap {s₀ s : State} (hs : Keeps wr s₀ s) (p : Nat) : Keeps wr s₀ (s.startSwap p) :=
  Keeps.ite hs (Keeps.ite (((hs.laserFade _ _ _ _).srcsel _ _ _).modOptic _ _) (((hs.laserFade _ _ _ _).srcsel _ _ _).modOptic _ _))

theorem Keeps.endSwap {s₀ s : State} (hs : Keeps wr s₀ s) (p : Nat) (hitless : Bool) : Keeps wr s₀ (s.endSwap p hitless) := by
  unfold State.endSwap
  dsimp only
  exact (((((hs.laserFade _ _ _ _).laser _ _ _).set _ _).down _ _ _ _).set _ _).modOptic _ _

theorem Keeps.sourceRest {s₀ s : State} (hs : Keeps wr s₀ s) (p : Nat) : Keeps wr s₀ (s.sourceRest p) := by
  unfold State.sourceRest
  refine Keeps.foldl _ (fun s x hs => ?_) _ hs
  exact hs.srcsel _ _ _

theorem Keeps.stepSwap {s₀ s : State} (hs : Keeps wr s₀ s) (p : Nat) : Keeps wr s₀ (s.stepSwap p) := by
  unfold State.stepSwap
  dsimp only
  split
  · exact hs
  · split
    · exact Keeps.ite ((hs.stageSteer _ _ _ _).modOptic _ _) (Keeps.ite (hs.haltSwap _ _) (hs.modOptic _ _))
    · exact Keeps.ite ((hs.srcsel _ _ _).modOptic _ _) (Keeps.ite (hs.haltSwap _ _) hs)
    · exact Keeps.ite ((hs.stageSteer _ _ _ _).modOptic _ _) (Keeps.ite (hs.haltSwap _ _) (hs.modOptic _ _))
    · exact Keeps.ite (Keeps.ite (hs.endSwap _ _) ((hs.stageSteer _ _ _ _).modOptic _ _)) (Keeps.ite (hs.haltSwap _ _) hs)
    · exact Keeps.ite ((hs.sourceRest _).endSwap _ _) ((hs.srcsel _ _ _).modOptic _ _)

theorem Keeps.marginSpare {s₀ s : State} (hs : Keeps wr s₀ s) (p : Nat) : Keeps wr s₀ (s.marginSpare p) := by
  unfold State.marginSpare
  dsimp only
  refine Keeps.ite ?_ ?_
  · refine Keeps.foldl _ (fun s x hs => ?_) _ hs
    exact hs.modLane _ _ _
  · split
    · refine Keeps.stageSteer ?_ _ _ _ _
      refine Keeps.foldl _ (fun s x hs => ?_) _ hs
      exact hs.modLane _ _ _
    · split
      · refine Keeps.stageSteer ?_ _ _ _ _
        refine Keeps.foldl _ (fun s x hs => ?_) _ hs
        exact hs.modLane _ _ _
      · refine Keeps.foldl _ (fun s x hs => ?_) _ hs
        exact hs.modLane _ _ _

theorem Keeps.runCmd {s₀ s : State} (hs : Keeps wr s₀ s) (p : Nat) : Keeps wr s₀ (s.runCmd p) := by
  unfold State.runCmd
  dsimp only
  split
  · exact hs
  · refine Keeps.ite (hs.modOptic _ _) ?_
    split
    · exact Keeps.ite ((hs.modOptic _ _).stageSteer _ _ _ _) (hs.modOptic _ _)
    · exact Keeps.ite ((hs.modOptic _ _).startSwap _) (hs.modOptic _ _)
    · exact (hs.modOptic _ _).modOptic _ _

theorem Keeps.readEngine {s₀ s : State} (hs : Keeps wr s₀ s) (p : Nat) : Keeps wr s₀ (s.readEngine p) := by
  unfold State.readEngine
  split
  next _ _ s1 e =>
    have hs1 : Keeps wr s₀ s1 := hs.fresh.snd_eq e
    exact hs1.down _ _ _ _

theorem Keeps.portWork {s₀ s : State} (hs : Keeps wr s₀ s) (p : Nat) (r : PortReading) (upd : Bool) : Keeps wr s₀ (s.portWork p r upd) :=
    by
  unfold State.portWork
  extract_lets +onlyGivenNames ph
  refine Keeps.ite hs ?_
  extract_lets +onlyGivenNames s0 s1
  have hs0 : Keeps wr s₀ s0 := hs.readEngine _
  have hs1 : Keeps wr s₀ s1 := Keeps.ite (hs0.retrainLost _) hs0
  refine Keeps.ite ?_ ?_
  · extract_lets +onlyGivenNames s2 s3
    have hs2 : Keeps wr s₀ s2 := by
      unfold s2
      refine Keeps.ite ?_ hs1
      refine Keeps.foldl _ (fun s x hs => ?_) _ hs1
      exact hs.reportFor _ _ _ _ _
    have hs3 : Keeps wr s₀ s3 := Keeps.ite (hs2.dipStep _ _) hs2
    exact Keeps.ite (hs3.sendCodes _) hs3
  · extract_lets +onlyGivenNames s2 held s3 s4 s5
    have hs2 : Keeps wr s₀ s2 := hs1.lockCounts _
    have hs3 : Keeps wr s₀ s3 := Keeps.ite ((hs2.sweepAll _ _).mirageLook _) hs2
    have hs4 : Keeps wr s₀ s4 := by
      unfold s4
      refine Keeps.foldl _ (fun s x hs => ?_) _ hs3
      exact hs.lockRing _ _ _
    have hs5 : Keeps wr s₀ s5 := ((Keeps.ite (hs4.sendCodes _) hs4).fadeValues _).warmSpare _ _ _
    refine Keeps.ite (hs5.runCmd _) ?_
    extract_lets +onlyGivenNames s6 s7
    have hs6 : Keeps wr s₀ s6 := hs5.stepSwap _
    have hs7 : Keeps wr s₀ s7 := Keeps.ite (hs6.startSwap _) hs6
    exact (hs7.marginSpare _).runCmd _

theorem Keeps.flDataWrite {s₀ s : State} (hs : Keeps true s₀ s) (v : Word) : Keeps true s₀ (flDataWrite v s) := by
  unfold Machine.flDataWrite
  extract_lets +onlyGivenNames b o s1 src s2
  have hs1 : Keeps true s₀ s1 := Keeps.ite (hs.setFlash _ _ (Mem.wf_store _ _ _)) hs
  have hs2 : Keeps true s₀ s2 := hs1.plain.showFlash
  exact Keeps.ite (hs.set _ _) ((hs2.set _ _).set _ _)

theorem Keeps.flashOpDone {s₀ s : State} (hs : Keeps true s₀ s) (ok : Bool) : Keeps true s₀ (flashOpDone ok s) := by
  unfold Machine.flashOpDone
  split
  · exact hs
  · extract_lets +onlyGivenNames src s1 s2 w
    have hs1 : Keeps true s₀ s1 := hs.plain.showFlash
    have hs2 : Keeps true s₀ s2 := hs1.set _ _
    exact Keeps.ite (Keeps.ite ((hs2.setFlash _ _ fun _ => Mem.wf_lose _).set _ _) (hs2.set _ _)) ((hs1.set _ _).set _ _)

theorem Keeps.farLinkDown {s₀ s : State} (hs : Keeps true s₀ s) (p : Nat) : Keeps true s₀ (farLinkDown p s) :=
  Keeps.ite (((hs.set_far p _ fun _ => Mem.wf_lose _).setUnit _ _).bump _) hs

theorem Keeps.portMark {s₀ s : State} (hs : Keeps wr s₀ s) (p : Nat) (r : PortReading) (work upd : Bool) :
    Keeps wr s₀ (s.portMark p r work upd) := by
  unfold State.portMark
  dsimp only
  exact (Keeps.ite (((hs.applyShadow _).optLatch _ _).portWork _ _ _) ((hs.applyShadow _).optLatch _ _)).modOptic _ _

/-! ### Conv -/

theorem Keeps.bfpStep {s₀ s : State} (hs : Keeps wr s₀ s) (n : Nat) (ci : ConvIn) : Keeps wr s₀ (s.bfpStep n ci) :=
  Keeps.ite (Keeps.ite ((hs.setCore _ _).wrapAdd _ _) (hs.setCore _ _)) hs

theorem Keeps.setHist {s₀ s : State} (hs : Keeps wr s₀ s) (n h c j v : Nat) : Keeps wr s₀ (s.setHist n h c j v) :=
  hs.setReg _ _

theorem Keeps.landCap {s₀ s : State} (hs : Keeps wr s₀ s) (n h bank : Nat) (vals : List (Nat × Nat)) : Keeps wr s₀
    (s.landCap n h bank vals) :=
    by
  unfold State.landCap
  refine Keeps.foldl _ (fun s x hs => ?_) _ hs
  exact hs.setHist _ _ _ _ _

theorem Keeps.clearWorking {s₀ s : State} (hs : Keeps wr s₀ s) (n bank : Nat) : Keeps wr s₀ (s.clearWorking n bank) := by
  unfold State.clearWorking
  refine hs.forN _ _ fun s i hs => ?_
  refine hs.forN _ _ fun s i hs => ?_
  exact hs.setReg _ _

theorem Keeps.shiftHist {s₀ s : State} (hs : Keeps wr s₀ s) (n b : Nat) : Keeps wr s₀ (s.shiftHist n b) := by
  unfold State.shiftHist
  dsimp only
  refine Keeps.clearWorking ?_ _ _
  refine hs.forN _ _ fun s i hs => ?_
  refine hs.forN _ _ fun s i hs => ?_
  exact (((hs.setReg _ _).setReg _ _).setReg _ _).setReg _ _

theorem Keeps.autoRecomputeDone {s₀ s : State} (hs : Keeps wr s₀ s) (n : Nat) : Keeps wr s₀ (autoRecomputeDone n s) := by
  unfold Machine.autoRecomputeDone
  dsimp only
  refine Keeps.ite ?_ hs
  refine Keeps.set ?_ _ _
  refine Keeps.setCore ?_ _ _
  refine Keeps.foldl _ (fun s x hs => ?_) _ hs
  exact hs.setReg _ _

theorem Keeps.convCommit {s₀ s : State} (hs : Keeps wr s₀ s) (n b : Nat) : Keeps wr s₀ (s.convCommit n b) :=
  (((hs.autoRecomputeDone _).shiftHist _ _).setCore _ _).set _ _

theorem Keeps.convCommitTag {s₀ s : State} (hs : Keeps wr s₀ s) (n tag : Nat) : Keeps wr s₀ (s.convCommitTag n tag) :=
  Keeps.ite hs (((hs.convCommit _ _).set _ _).set _ _)

theorem Keeps.convDiscard {s₀ s : State} (hs : Keeps wr s₀ s) (n : Nat) : Keeps wr s₀ (s.convDiscard n) :=
  ((hs.setCore _ _).clearWorking _ _).clearWorking _ _

theorem Keeps.commitNow {s₀ s : State} (hs : Keeps wr s₀ s) (n : Nat) : Keeps wr s₀ (commitNow n s) :=
  Keeps.ite (hs.absentUnit _ _) (Keeps.ite (hs.convCommit _ _) hs)

/-! ### Issue -/

theorem Keeps.coreFault {s₀ s : State} (hs : Keeps wr s₀ s) (n : Nat) (f : Check) : Keeps wr s₀ (s.coreFault n f) :=
  (Keeps.ite ((((hs.fault _ _ _ _).set _ _).set _ _).set _ _) (hs.fault _ _ _ _)).bump _

theorem Keeps.raiseAll {s₀ s : State} (hs : Keeps wr s₀ s) (n : Nat) (fs : List Check) : Keeps wr s₀ (s.raiseAll n fs) := by
  unfold State.raiseAll
  dsimp only
  refine Keeps.setCore ?_ _ _
  refine Keeps.foldl _ (fun s x hs => ?_) _ hs
  exact hs.coreFault _ _

theorem Keeps.seqErr {s₀ s : State} (hs : Keeps wr s₀ s) (n : Nat) : Keeps wr s₀ (s.seqErr n) :=
  hs.bump _

theorem Keeps.vecOperand {s₀ s : State} (hs : Keeps wr s₀ s) (n : Nat) (c : Core) (w : Nat) (popped : List (Nat × List Byte))
    (row src : Nat)
    :
    Keeps wr s₀ (s.vecOperand n c w popped row src).2 := by
  unfold State.vecOperand
  dsimp only
  split
  · split
    · exact hs.freeBytes _
    · exact hs.freeBytes _
  · split
    · split
      · exact hs
      · exact hs.freeBytes _
    · split
      · exact hs
      · split
        · exact hs
        · exact hs

theorem Keeps.vecResult {s₀ s : State} (hs : Keeps wr s₀ s) (n : Nat) (c : Core) (w : Nat) (popped : List (Nat × List Byte)) (row : Nat) :
    Keeps wr s₀ (s.vecResult n c w popped row).2 := by
  unfold State.vecResult
  dsimp only
  split
  · exact hs.vecOperand _ _ _ _ _ _
  · split
    · exact hs.vecOperand _ _ _ _ _ _
    · split
      · exact ((hs.vecOperand _ _ _ _ _ _).set _ _).freeBytes _
      · split
        · exact ((hs.vecOperand _ _ _ _ _ _).vecOperand _ _ _ _ _ _).freeBytes _
        · split
          · exact hs.vecOperand _ _ _ _ _ _
          · split
            · exact hs.freeBytes _
            · split
              · exact (hs.vecOperand _ _ _ _ _ _).vecOperand _ _ _ _ _ _
              · split
                · exact hs.vecOperand _ _ _ _ _ _
                · exact (hs.vecOperand _ _ _ _ _ _).vecOperand _ _ _ _ _ _

theorem Keeps.doLoad {s₀ s : State} (hs : Keeps wr s₀ s) (n w : Nat) (popped : List (Nat × List Byte)) : Keeps wr s₀
    (s.doLoad n w popped) := by
  unfold State.doLoad
  dsimp only
  split
  · exact hs.seqErr _
  · exact hs.setCore _ _

theorem Keeps.doMac {s₀ s : State} (hs : Keeps wr s₀ s) (n w : Nat) (init : Bool) (popped : List (Nat × List Byte)) :
    Keeps wr s₀ (s.doMac n w init popped) := by
  unfold State.doMac
  dsimp only
  split
  · exact Keeps.ite (hs.seqErr _) hs
  · exact ((Keeps.ite (hs.seqErr _) hs).setCore _ _).set _ _

theorem Keeps.loopOp {s₀ s : State} (hs : Keeps wr s₀ s) (n w : Nat) : Keeps wr s₀ (s.loopOp n w) := by
  unfold State.loopOp
  dsimp only
  refine Keeps.ite hs ?_
  split
  · exact hs.setCore _ _
  · exact hs.setCore _ _
  · exact hs.setCore _ _
  · exact hs

theorem Keeps.haltCore {s₀ s : State} (hs : Keeps wr s₀ s) (n : Nat) : Keeps wr s₀ (s.haltCore n) :=
  (Keeps.ite (hs.bump _) hs).setCore _ _

theorem Keeps.nextPc {s₀ s : State} (hs : Keeps wr s₀ s) (n : Nat) : Keeps wr s₀ (s.nextPc n) :=
  Keeps.ite ((hs.seqErr _).haltCore _) (hs.setCore _ _)

theorem Keeps.streamStart {s₀ s : State} (hs : Keeps wr s₀ s) (n d : Nat) : Keeps wr s₀ (s.streamStart n d) :=
  Keeps.ite (hs.seqErr _) (hs.setCore _ _)

theorem Keeps.localSig {s₀ s : State} (hs : Keeps wr s₀ s) (n ctr inc : Nat) : Keeps wr s₀ (s.localSig n ctr inc) :=
  (hs.addCounter _ _ _ _).setCore _ _

theorem Keeps.swapAct {s₀ s : State} (hs : Keeps wr s₀ s) (n w : Nat) : Keeps wr s₀ (s.swapAct n w) :=
  Keeps.ite (hs.setCore _ _) hs

/-! ### CoreCtl -/

theorem Keeps.enterRunning {s₀ s : State} (hs : Keeps wr s₀ s) (n : Nat) : Keeps wr s₀ (s.enterRunning n) :=
  ((((hs.setCore _ _).setReg _ _).setReg _ _).set _ _).set _ _

theorem Keeps.coreRun {s₀ s : State} (hs : Keeps wr s₀ s) (n : Nat) : Keeps wr s₀ (coreRun n s) :=
  Keeps.ite (hs.absentUnit _ _) (Keeps.ite (hs.enterRunning _) hs)

theorem Keeps.coreStop {s₀ s : State} (hs : Keeps wr s₀ s) (n : Nat) : Keeps wr s₀ (coreStop n s) := by
  unfold Machine.coreStop
  dsimp only
  refine Keeps.ite (hs.absentUnit _ _) ?_
  split
  · exact hs.setCore _ _
  · exact hs.setCore _ _
  · exact hs.setCore _ _
  · exact hs.setCore _ _
  · exact hs

theorem Keeps.hostReject {s₀ s : State} (hs : Keeps wr s₀ s) (n : Nat) : Keeps wr s₀ (s.hostReject n) :=
  hs.bump _

theorem Keeps.accFlagsClear {s₀ s : State} (hs : Keeps wr s₀ s) (n sat poison : Nat) : Keeps wr s₀ (accFlagsClear n sat poison s) :=
  Keeps.ite (hs.absentUnit _ _) (Keeps.ite ((hs.set _ _).set _ _) (Keeps.ite (hs.hostReject _) hs))

/-! ### Stream -/

theorem Keeps.streamRead {s₀ s : State} (hs : Keeps true s₀ s) (n a w : Nat) : Keeps true s₀ (s.streamRead n a w).2 :=
  hs.memRead _ _ _ _

theorem Keeps.convCount {s₀ s : State} (hs : Keeps wr s₀ s) (n tag : Nat) (k : CvKind) : Keeps wr s₀ (s.convCount n tag k) := by
  cases k with
  | plain => exact hs
  | sat => exact hs.bump _
  | flush => exact hs.bump _
  | poison => exact hs.bump _

theorem Keeps.convert {s₀ s : State} (hs : Keeps wr s₀ s) (n b row : Nat) (ci : ConvIn) (draw : Nat → Nat) (i : Nat) (l : List Nat) :
    Keeps wr s₀ (s.convert n b row ci draw i l).st := by
  induction l generalizing s i with
  | nil => exact hs
  | cons c cs ih =>
    unfold State.convert
    exact ih ((hs.convCount _ _ _).bfpStep _ _) _

theorem Keeps.landOp {s₀ s : State} (hs : Keeps true s₀ s) (n : Nat) (op : PendOp) : Keeps true s₀ (s.landOp n op) := by
  cases op with
  | mac u => exact hs.landMac _ _
  | vec t r bs => exact hs.setAccRow _ _ _ _
  | vreg r bs => exact hs.setCore _ _
  | store e bs => exact hs.with_core _ (Mem.wf_store _ _ _)
  | cap h b vs => exact hs.landCap _ _ _ _

theorem Keeps.commitBundle {s₀ s : State} (hs : Keeps wr s₀ s) (n w : Nat) : Keeps wr s₀ (s.commitBundle n w) := by
  unfold State.commitBundle
  extract_lets +onlyGivenNames s0 v cv ci c ps
  split
  next popped c1 _ =>
  -- the pops, reserved encodings and draws
  extract_lets +onlyGivenNames s1 s2 s3 cnt seed nv nc s4
  have h1 : Keeps wr s₀ s1 := hs.setCore _ _
  have h2 : Keeps wr s₀ s2 := Keeps.ite (h1.seqErr _) h1
  have h3 : Keeps wr s₀ s3 := Keeps.ite (h2.seqErr _) h2
  have h4 : Keeps wr s₀ s4 := h3.wrapAdd _ _
  clear_value s4
  split -- the vector row, and the reads of this cycle
  next row ptr _ =>
  extract_lets +onlyGivenNames c4 s5 accUnit
  have h5 : Keeps wr s₀ s5 := h4.setCore _ _
  clear_value s5
  split
  next vbytes s6 hvec =>
  have h6 : Keeps wr s₀ s6 := by
    refine Keeps.snd_eq ?_ hvec
    split
    · split
      · exact h5.freeBytes _
      · exact h5
    · exact h5.vecResult _ _ _ _ _
  clear hvec
  -- the address generators' reads and writes, and the vector destination
  extract_lets +onlyGivenNames vlanes s7 s8 cc at8 vecPush fr s' ty s9
  have h7 : Keeps wr s₀ s7 := by
    refine Keeps.foldl _ (fun s a hs => ?_) _ h6
    dsimp only
    split
    · split <;> exact hs.setCore _ _
    · exact Keeps.ite (hs.setCore _ _) hs
  clear_value s7
  have h8 : Keeps wr s₀ s8 := Keeps.foldl _ (fun s a hs => Keeps.ite (hs.setCore _ _) hs) _ h7
  clear_value s8
  have hfr : Keeps wr s₀ fr.2 := by
    unfold fr
    split
    · exact h8
    · exact h8.freeBytes _
  have hs' : Keeps wr s₀ s' := hfr.setCore _ _
  have h9 : Keeps wr s₀ s9 := Keeps.ite h8 (Keeps.ite (h8.setCore _ _) (Keeps.ite (hs'.set _ _) hs'))
  clear_value s9
  -- the conversion
  extract_lets +onlyGivenNames unit
  split
  next convPush sc hconv =>
  have hsc : Keeps wr s₀ sc := by
    refine Keeps.snd_eq ?_ hconv
    split
    · exact h9
    · extract_lets +onlyGivenNames cc pl b src out t codes lat so rest core c' c2 t1 t2
      have hc : Keeps wr s₀ t1 := (h9.convert _ _ _ _ _ _ _).setCore _ _
      have ht : Keeps wr s₀ t2 := Keeps.ite (hc.seqErr _) hc
      split
      · split
        · exact ht
        · exact ht.seqErr _
      · exact ht
  clear hconv
  -- the pushes and the tensor array
  extract_lets +onlyGivenNames out s10 t s11 s12
  have h10 : Keeps wr s₀ s10 := Keeps.foldl _ (fun s p hs => Keeps.ite (hs.setCore _ _) hs) _ hsc
  clear_value s10
  have h11 : Keeps wr s₀ s11 := Keeps.ite (h10.doMac _ _ _ _) h10
  have h12 : Keeps wr s₀ s12 := Keeps.ite (h11.doLoad _ _ _) h11
  exact h12.setCore _ _

theorem Keeps.streamReserved {s₀ s : State} (hs : Keeps wr s₀ s) (fuel n : Nat) : Keeps wr s₀ (State.streamReserved fuel s n) := by
  induction fuel generalizing s with
  | zero => exact hs
  | succ fuel ih =>
    unfold State.streamReserved
    dsimp only
    split
    · split
      · exact ih (((hs.setCore _ _).seqErr _).addCounter _ _ _ _)
      · exact hs
    · exact hs

theorem Keeps.settle {s₀ s : State} (hs : Keeps true s₀ s) (n t : Nat) : Keeps true s₀ (s.settle n t) := by
  unfold State.settle
  dsimp only
  refine Keeps.foldl _ (fun s x hs => ?_) _ (hs.setCore _ _)
  exact hs.landOp _ _

theorem Keeps.settleAll {s₀ s : State} (hs : Keeps true s₀ s) (n : Nat) : Keeps true s₀ (s.settleAll n) :=
  hs.settle _ _

theorem Keeps.signalAct {s₀ s : State} (hs : Keeps wr s₀ s) (n k : Nat) : Keeps wr s₀ (s.signalAct n k) := by
  unfold State.signalAct
  dsimp only
  split
  · exact Keeps.ite (hs.seqErr _) (hs.localSig _ _ _)
  · exact hs.sendSignal _ _
  · exact (hs.streamStart _ _).streamReserved _ _
  · exact hs.seqErr _

theorem Keeps.seqAct {s₀ s : State} (hs : Keeps wr s₀ s) (n w : Nat) : Keeps wr s₀ (s.seqAct n w) := by
  unfold State.seqAct
  dsimp only
  split
  · exact (hs.setCore _ _).nextPc _
  · split
    · exact (hs.seqErr _).nextPc _
    · exact Keeps.ite (hs.setCore _ _) ((hs.setCore _ _).nextPc _)
  · exact (hs.signalAct _ _).nextPc _
  · exact hs.haltCore _
  · exact hs.nextPc _

theorem Keeps.bundle {s₀ s : State} (hs : Keeps wr s₀ s) (n w : Nat) : Keeps wr s₀ (s.bundle n w) := by
  unfold State.bundle
  extract_lets +onlyGivenNames c ps us bad
  refine Keeps.ite (hs.raiseAll _ _) ?_
  extract_lets +onlyGivenNames s1 s2 last s3 c3
  have hs1 : Keeps wr s₀ s1 := hs.commitBundle _ _
  have hs2 : Keeps wr s₀ s2 := Keeps.ite (hs1.loopOp _ _) hs1
  have hs3 : Keeps wr s₀ s3 := Keeps.ite ((hs2.swapAct _ _).seqAct _ _) hs2
  exact hs3.setCore _ _

theorem Keeps.waitIssue {s₀ s : State} (hs : Keeps true s₀ s) (n w : Nat) : Keeps true s₀ (s.waitIssue n w) :=
  Keeps.ite ((((hs.setCore _ _).settle _ _).bundle _ _).set _ _) (((hs.setCore _ _).settle _ _).bundle _ _)

theorem Keeps.issueIf {s₀ s : State} (hs : Keeps true s₀ s) (n : Nat) (sel : Bool → Nat → Bool) : Keeps true s₀ (s.issueIf n sel) :=
  Keeps.ite (Keeps.ite (Keeps.ite (Keeps.ite ((hs.settle _ _).waitIssue _ _) ((hs.settle _ _).setCore _ _)) ((hs.settle _ _).bundle _ _))
      hs) hs

theorem Keeps.nextIssue {s₀ s : State} (hs : Keeps true s₀ s) (n ecc : Nat) : Keeps true s₀ (nextIssue n ecc s) :=
  Keeps.ite (hs.issueIf _ _) (Keeps.ite hs (Keeps.ite ((hs.bump _).issueIf _ _) ((hs.settle _ _).plain.raiseAll _ _)))

theorem Keeps.waitNow {s₀ s : State} (hs : Keeps true s₀ s) (n : Nat) : Keeps true s₀ (s.waitNow n) :=
  (hs.setCore _ _).settle _ _

theorem Keeps.endWait {s₀ s : State} (hs : Keeps true s₀ s) (n : Nat) : Keeps true s₀ (s.endWait n) :=
  Keeps.ite (hs.waitNow _) hs

theorem Keeps.catchUp {s₀ s : State} (hs : Keeps true s₀ s) (n : Nat) : Keeps true s₀ (s.catchUp n) :=
  Keeps.ite (hs.settle _ _) hs

theorem Keeps.finishCore {s₀ s : State} (hs : Keeps true s₀ s) (n st : Nat) : Keeps true s₀ (s.finishCore n st) :=
  Keeps.ite (((hs.endWait _).settleAll _).setCore _ _) hs

theorem Keeps.waitRelease {s₀ s : State} (hs : Keeps true s₀ s) (n : Nat) : Keeps true s₀ (waitRelease n s) :=
  Keeps.ite (Keeps.ite ((hs.waitNow _).waitIssue _ _) hs) hs

theorem Keeps.waitTimeout {s₀ s : State} (hs : Keeps true s₀ s) (n : Nat) : Keeps true s₀ (waitTimeout n s) :=
  Keeps.ite (Keeps.ite hs ((hs.waitNow _).raiseAll _ _)) hs

theorem Keeps.elementPoppable {s₀ s : State} (hs : Keeps true s₀ s) (n q : Nat) : Keeps true s₀ (elementPoppable n q s) := by
  unfold Machine.elementPoppable
  dsimp only
  split
  · exact hs
  · exact Keeps.ite hs ((hs.setCore _ _).settle _ _)

theorem Keeps.streamWrite {s₀ s : State} (hs : Keeps true s₀ s) (n kind a : Nat) (bs : List Byte) : Keeps true s₀
    (s.streamWrite n kind a bs) := by
  unfold State.streamWrite
  dsimp only
  split
  · split
    · refine Keeps.stepWroteOut ?_ _ _ _
      split
      · exact Keeps.ite (Keeps.ite (hs.stageWrite _ _ _) (hs.retired _)) hs
      · exact hs.memPut _ _ _ _ _
    · exact hs.vwinRefuse
  · split
    · exact Keeps.ite (Keeps.ite (hs.stageWrite _ _ _) (hs.retired _)) hs
    · exact hs.memPut _ _ _ _ _

theorem Keeps.streamMove {s₀ s : State} (hs : Keeps true s₀ s) (n kind : Nat) (m : Nat × Nat) : Keeps true s₀ (s.streamMove n kind m) :=
    by
  unfold State.streamMove
  dsimp only
  split
  · exact (hs.streamRead _ _ _).with_core _ (Mem.wf_store _ _ _)
  · exact hs.streamWrite _ _ _ _
  · exact hs.streamWrite _ _ _ _
  · exact hs.streamWrite _ _ _ _
  · exact hs.streamWrite _ _ _ _
  · exact (hs.streamRead _ _ _).with_core _ (Mem.wf_store _ _ _)
  · exact hs

theorem Keeps.streamBegin {s₀ s0 : State} (hs : Keeps true s₀ s0) (kind n : Nat) : Keeps true s₀ (streamBegin kind n s0) := by
  unfold Machine.streamBegin
  dsimp only
  split
  · refine Keeps.ite ?_ (hs.catchUp _)
    refine Keeps.streamReserved ?_ _ _
    refine Keeps.setCore ?_ _ _
    refine Keeps.foldl _ (fun s x hs => ?_) _ (hs.catchUp _)
    exact hs.streamMove _ _ _
  · exact hs.catchUp _

theorem Keeps.streamComplete {s₀ s : State} (hs : Keeps wr s₀ s) (n i : Nat) : Keeps wr s₀ (streamComplete n i s) := by
  unfold Machine.streamComplete
  dsimp only
  split
  · exact hs
  · exact ((hs.setCore _ _).streamReserved _ _).addCounter _ _ _ _

/-! ### Sequencer -/

theorem Keeps.seqStartArm {s₀ s0 : State} (hs : Keeps wr s₀ s0) (slot : Nat) : Keeps wr s₀ (seqStartArm slot s0) :=
  Keeps.ite ((hs.set _ _).set _ _) (((hs.set _ _).set _ _).bump _)

theorem Keeps.rearm {s₀ s : State} (hs : Keeps wr s₀ s) (start : Nat) : Keeps wr s₀ (s.rearm start) :=
  Keeps.ite ((hs.set _ _).set _ _) hs

theorem Keeps.enterLoad {s₀ s : State} (hs : Keeps wr s₀ s) (start : Nat) : Keeps wr s₀ (s.enterLoad start) := by
  unfold State.enterLoad
  dsimp only
  refine Keeps.armStep ?_ _ _
  refine Keeps.ite ?_ ?_
  · refine Keeps.set ?_ _ _
    refine Keeps.set ?_ _ _
    refine Keeps.plain ?_
    refine Keeps.forN ?_ _ _ fun s i hs => ?_
    · refine Keeps.set ?_ _ _
      refine Keeps.setReg ?_ _ _
      refine Keeps.setReg ?_ _ _
      refine Keeps.foldl _ (fun s x hs => ?_) _ ((hs.set _ _).setSeq _)
      exact hs.setReg _ _
    · exact hs.setReg _ _
  · refine Keeps.plain ?_
    refine Keeps.forN ?_ _ _ fun s i hs => ?_
    · refine Keeps.set ?_ _ _
      refine Keeps.setReg ?_ _ _
      refine Keeps.setReg ?_ _ _
      refine Keeps.foldl _ (fun s x hs => ?_) _ ((hs.set _ _).setSeq _)
      exact hs.setReg _ _
    · exact hs.setReg _ _

theorem Keeps.stepStart {s₀ s : State} (hs : Keeps wr s₀ s) : Keeps wr s₀ (stepStart s) :=
  Keeps.ite (Keeps.ite (hs.enterLoad _) (((hs.set _ _).bump _).rearm _)) hs

theorem Keeps.runStart {s₀ s : State} (hs : Keeps wr s₀ s) : Keeps wr s₀ (runStart s) := by
  unfold Machine.runStart
  dsimp only
  refine Keeps.ite ?_ hs
  refine Keeps.foldl _ (fun s x hs => ?_) _ (Keeps.ite ((hs.set _ _).setSeq _) (((hs.set _ _).setSeq _).setCause _))
  exact Keeps.ite (hs.enterRunning _) hs

theorem Keeps.stepCoresHalted {s₀ s : State} (hs : Keeps true s₀ s) : Keeps true s₀ (stepCoresHalted s) :=
  Keeps.ite ((hs.setSeq _).tryApply) hs

theorem Keeps.seqStop {s₀ s : State} (hs : Keeps wr s₀ s) (n : Nat) : Keeps wr s₀ (s.seqStop n) :=
  Keeps.ite (hs.setCore _ _) hs

theorem Keeps.coreFreeze {s₀ s : State} (hs : Keeps true s₀ s) (n : Nat) : Keeps true s₀ (coreFreeze n s) := by
  unfold Machine.coreFreeze
  dsimp only
  refine Keeps.ite ?_ hs
  refine Keeps.ite ?_ (hs.finishCore _ _)
  refine Keeps.foldl _ (fun s x hs => ?_) _ ((hs.finishCore _ _).setCause _)
  exact hs.seqStop _

theorem Keeps.sendVote {s₀ s : State} (hs : Keeps true s₀ s) : Keeps true s₀ s.sendVote := by
  unfold State.sendVote
  dsimp only
  split
  · exact Keeps.ite (hs.localAdd _ _ _ _ _) (hs.stray _)
  · exact hs.stray _

theorem Keeps.verdictCauses {s₀ s : State} (hs : Keeps true s₀ s) (core apply : Bool) : Keeps true s₀ (s.verdictCauses core apply) := by
  unfold State.verdictCauses
  extract_lets +onlyGivenNames put loss s0 s1 s2 s3 s4
  have hput : ∀ s c b, Keeps true s₀ s → Keeps true s₀ (put s c b) := fun _ _ _ hs => Keeps.ite (hs.setCause _) hs
  have h1 : Keeps true s₀ s1 := hput _ _ _ (Keeps.ite (hs.memRead _ _ _ _) hs)
  have h2 : Keeps true s₀ s2 := Keeps.ite h1 ((h1.setCause _).set _ _)
  have h4 : Keeps true s₀ s4 := hput _ _ _ (hput _ _ _ h2)
  exact hput _ _ _ (hput _ _ _ h4)

theorem Keeps.verdictEntry {s₀ s : State} (hs : Keeps true s₀ s) : Keeps true s₀ (verdictEntry s) := by
  unfold Machine.verdictEntry
  dsimp only
  refine Keeps.ite ?_ hs
  refine Keeps.ite ?_ ?_
  · refine Keeps.setSeq ?_ _
    refine Keeps.set ?_ _ _
    refine Keeps.sendVote ?_
    refine Keeps.rcActivate ?_ _
    refine Keeps.plain ?_
    refine Keeps.setPend ?_ _
    refine Keeps.set ?_ _ _
    refine Keeps.set ?_ _ _
    refine Keeps.forN ?_ _ _ fun s i hs => ?_
    · refine Keeps.verdictCauses ?_ _ _
      refine Keeps.ite ?_ ?_
      · refine Keeps.ite ?_ ?_
        · refine Keeps.updStop ?_
          refine Keeps.ite ?_ hs
          refine Keeps.foldl _ (fun s x hs => ?_) _ hs
          exact hs.seqStop _
        · refine Keeps.set ?_ _ _
          refine Keeps.ite ?_ hs
          refine Keeps.foldl _ (fun s x hs => ?_) _ hs
          exact hs.seqStop _
      · refine Keeps.ite ?_ hs
        refine Keeps.foldl _ (fun s x hs => ?_) _ hs
        exact hs.seqStop _
    · exact hs.set _ _
  · refine Keeps.setSeq ?_ _
    refine Keeps.sendVote ?_
    refine Keeps.rcActivate ?_ _
    refine Keeps.plain ?_
    refine Keeps.setPend ?_ _
    refine Keeps.set ?_ _ _
    refine Keeps.set ?_ _ _
    refine Keeps.forN ?_ _ _ fun s i hs => ?_
    · refine Keeps.verdictCauses ?_ _ _
      refine Keeps.ite ?_ ?_
      · refine Keeps.ite ?_ ?_
        · refine Keeps.updStop ?_
          refine Keeps.ite ?_ hs
          refine Keeps.foldl _ (fun s x hs => ?_) _ hs
          exact hs.seqStop _
        · refine Keeps.set ?_ _ _
          refine Keeps.ite ?_ hs
          refine Keeps.foldl _ (fun s x hs => ?_) _ hs
          exact hs.seqStop _
      · refine Keeps.ite ?_ hs
        refine Keeps.foldl _ (fun s x hs => ?_) _ hs
        exact hs.seqStop _
    · exact hs.set _ _

theorem Keeps.commitMissed {s₀ s : State} (hs : Keeps wr s₀ s) (reason : Nat) : Keeps wr s₀ (s.commitMissed reason) :=
  hs.fault _ _ _ _

theorem Keeps.commitStep {s₀ s : State} (hs : Keeps wr s₀ s) : Keeps wr s₀ s.commitStep := by
  unfold State.commitStep
  dsimp only
  refine Keeps.plain ?_
  refine Keeps.setPend ?_ _
  refine Keeps.set ?_ _ _
  refine Keeps.set ?_ _ _
  refine Keeps.ite ?_ ?_
  · refine Keeps.set ?_ _ _
    refine Keeps.set ?_ _ _
    refine Keeps.set ?_ _ _
    refine Keeps.set ?_ _ _
    refine Keeps.set ?_ _ _
    refine Keeps.set ?_ _ _
    refine Keeps.collCommit ?_ _
    refine Keeps.foldl _ (fun s x hs => ?_) _ hs
    exact hs.convCommitTag _ _
  · refine Keeps.setSeq ?_ _
    refine Keeps.set ?_ _ _
    refine Keeps.set ?_ _ _
    refine Keeps.set ?_ _ _
    refine Keeps.set ?_ _ _
    refine Keeps.collCommit ?_ _
    refine Keeps.foldl _ (fun s x hs => ?_) _ hs
    exact hs.convCommitTag _ _

theorem Keeps.rollCore {s₀ s : State} (hs : Keeps wr s₀ s) (t n : Nat) : Keeps wr s₀ (s.rollCore t n) :=
  (hs.coreStop _).setReg _ _

theorem Keeps.rollConv {s₀ s : State} (hs : Keeps wr s₀ s) : Keeps wr s₀ s.rollConv := by
  unfold State.rollConv
  refine hs.forN _ _ fun s i hs => ?_
  exact Keeps.ite (hs.convDiscard _) hs

theorem Keeps.rollbackStep {s₀ s : State} (hs : Keeps true s₀ s) : Keeps true s₀ s.rollbackStep := by
  unfold State.rollbackStep
  dsimp only
  refine Keeps.rearm ?_ _
  refine Keeps.plain ?_
  refine Keeps.setSeq ?_ _
  refine Keeps.set ?_ _ _
  refine Keeps.setPend ?_ _
  refine Keeps.set ?_ _ _
  refine Keeps.set ?_ _ _
  refine Keeps.ite ?_ ?_
  · refine Keeps.set ?_ _ _
    refine Keeps.updStop ?_
    refine Keeps.spoilStep ?_ _
    refine Keeps.ite ?_ ?_
    · refine Keeps.collRollback ?_ _
      refine Keeps.collRollback ?_ _
      refine Keeps.forN ?_ _ _ fun s i hs => ?_
      · refine Keeps.rollConv ?_
        refine Keeps.foldl _ (fun s x hs => ?_) _ (hs.fault _ _ _ _)
        exact hs.rollCore _ _
      · exact hs.reRollback _
    · refine Keeps.collRollback ?_ _
      refine Keeps.forN ?_ _ _ fun s i hs => ?_
      · refine Keeps.rollConv ?_
        refine Keeps.foldl _ (fun s x hs => ?_) _ (hs.fault _ _ _ _)
        exact hs.rollCore _ _
      · exact hs.reRollback _
  · refine Keeps.spoilStep ?_ _
    refine Keeps.ite ?_ ?_
    · refine Keeps.collRollback ?_ _
      refine Keeps.collRollback ?_ _
      refine Keeps.forN ?_ _ _ fun s i hs => ?_
      · refine Keeps.rollConv ?_
        refine Keeps.foldl _ (fun s x hs => ?_) _ (hs.fault _ _ _ _)
        exact hs.rollCore _ _
      · exact hs.reRollback _
    · refine Keeps.collRollback ?_ _
      refine Keeps.forN ?_ _ _ fun s i hs => ?_
      · refine Keeps.rollConv ?_
        refine Keeps.foldl _ (fun s x hs => ?_) _ (hs.fault _ _ _ _)
        exact hs.rollCore _ _
      · exact hs.reRollback _

theorem Keeps.decideStep {s₀ s : State} (hs : Keeps true s₀ s) (accept : Bool) : Keeps true s₀ (s.decideStep accept) :=
  Keeps.ite hs.commitStep hs.rollbackStep

theorem Keeps.commitSlot {s₀ s : State} (hs : Keeps true s₀ s) : Keeps true s₀ (commitSlot s) := by
  unfold Machine.commitSlot
  refine Keeps.ite ?_ hs
  split
  · exact Keeps.ite (hs.decideStep _) ((hs.set _ _).commitMissed _)
  · exact (hs.set _ _).commitMissed _

theorem Keeps.lateVerdictAct {s₀ s : State} (hs : Keeps true s₀ s) : Keeps true s₀ (lateVerdictAct s) := by
  unfold Machine.lateVerdictAct
  split
  · exact Keeps.ite ((hs.commitMissed _).decideStep _) hs
  · exact hs

theorem Keeps.seqMark {s₀ s : State} (hs : Keeps wr s₀ s) (accept : Bool) (tag : Nat) : Keeps wr s₀ (seqMark accept tag s) :=
  Keeps.ite hs (Keeps.ite (Keeps.ite (hs.setReg _ _).plain (hs.setReg _ _).plain) (hs.bump _))

theorem Keeps.finishApply {s₀ s : State} (hs : Keeps wr s₀ s) : Keeps wr s₀ s.finishApply :=
  Keeps.ite ((hs.setSeq _).set _ _) hs

theorem Keeps.applyStart {s₀ s : State} (hs : Keeps true s₀ s) : Keeps true s₀ (applyStart s) :=
  Keeps.ite (Keeps.ite (((hs.setPend _).set _ _).tryApply)
      (((((((hs.setPend _).set _ _).set _ _).set _ _).setSeq _).updStart _).finishApply)) hs

theorem Keeps.updGroupDone {s₀ s : State} (hs : Keeps true s₀ s) (n : Nat) : Keeps true s₀ (updGroupDone n s) := by
  unfold Machine.updGroupDone
  dsimp only
  split
  · exact Keeps.ite (((Keeps.ite (hs.updWrites _ _)
      (Keeps.ite ((hs.updWrites _ _).setCause _) (((hs.updWrites _ _).set _ _).set _ _))).updPast _ _ _).finishApply) hs
  · exact hs

theorem Keeps.rollbackEnd {s₀ s : State} (hs : Keeps wr s₀ s) : Keeps wr s₀ (rollbackEnd s) :=
  Keeps.ite (Keeps.ite (((hs.setSeq _).bump _).set _ _) ((hs.setSeq _).bump _)) hs

theorem Keeps.resumeApply {s₀ s : State} (hs : Keeps true s₀ s) : Keeps true s₀ (resumeApply s) :=
  Keeps.ite (((hs.setSeq _).updStart _).finishApply) hs

/-! ### Units -/

theorem Keeps.startUnit {s₀ s : State} (hs : Keeps wr s₀ s) (n : Nat) : Keeps wr s₀ (s.startUnit n) :=
  Keeps.ite (hs.portEnableCmd _) (hs.setUnit _ _)

theorem Keeps.enableUnit {s₀ s : State} (hs : Keeps wr s₀ s) (n source : Nat) : Keeps wr s₀ (s.enableUnit n source) := by
  unfold State.enableUnit
  refine Keeps.ite hs ?_
  split
  · exact hs.startUnit _
  · exact hs.startUnit _
  · exact (hs.set _ _).fault _ _ _ _
  · exact hs.absentUnit _ _
  · exact hs

theorem Keeps.drainUnit {s₀ s : State} (hs : Keeps wr s₀ s) (n : Nat) : Keeps wr s₀ (s.drainUnit n) := by
  unfold State.drainUnit
  dsimp only
  refine Keeps.ite hs ?_
  split
  · exact (hs.setUnit _ _).plain
  · exact (hs.setUnit _ _).plain
  · exact hs.set _ _
  · exact hs.absentUnit _ _
  · exact hs

theorem Keeps.downUnit {s₀ s : State} (hs : Keeps wr s₀ s) (n : Nat) : Keeps wr s₀ (s.downUnit n) := by
  unfold State.downUnit
  extract_lets +onlyGivenNames s1 s11
  have hs1 : Keeps wr s₀ s1 := hs.setUnit _ _
  have hs11 : Keeps wr s₀ s11 := hs1.plain
  refine Keeps.ite ?_ (Keeps.ite (hs11.set _ _) (Keeps.ite (hs11.setEng _ _) hs11))
  extract_lets +onlyGivenNames p s2
  have hs2 : Keeps wr s₀ s2 := hs11.portNone _
  exact Keeps.ite ((hs2.portFresh _).pumpAll) hs2

theorem Keeps.retireNext {s₀ s : State} (hs : Keeps wr s₀ s) : Keeps wr s₀ s.retireNext := by
  unfold State.retireNext
  dsimp only
  refine Keeps.ite ?_ (Keeps.ite ((Keeps.ite hs.plain hs).commitAt _) (Keeps.ite hs.plain hs))
  refine Keeps.plain ?_
  refine Keeps.alert ?_ _
  refine Keeps.set ?_ _ _
  refine (Keeps.ite ((Keeps.ite hs.plain hs).commitAt _) (Keeps.ite hs.plain hs)).forN _ _ fun s i hs => ?_
  exact hs.cage _ _

theorem Keeps.endDrain {s₀ s : State} (hs : Keeps wr s₀ s) (n : Nat) : Keeps wr s₀ (s.endDrain n) :=
  Keeps.ite (Keeps.ite (((hs.downUnit _).set _ _).startUnit _) (Keeps.ite ((hs.downUnit _).retireNext) (hs.downUnit _))) hs

theorem Keeps.unitInitDone {s₀ s : State} (hs : Keeps wr s₀ s) (n : Nat) (ok : Bool) : Keeps wr s₀ (unitInitDone n ok s) :=
  Keeps.ite hs (Keeps.ite (Keeps.ite ((hs.setUnit _ _).farReady _) (hs.setUnit _ _)) hs)

theorem Keeps.resetUnit {s₀ s : State} (hs : Keeps wr s₀ s) (n : Nat) : Keeps wr s₀ (s.resetUnit n) := by
  unfold State.resetUnit
  dsimp only
  split
  · exact hs.setUnit _ _
  · exact hs.setUnit _ _
  · exact Keeps.ite ((hs.plain.set _ _).setUnit _ _) (hs.plain.setUnit _ _)
  · exact Keeps.ite ((hs.set _ _).setUnit _ _) hs
  · exact hs

theorem Keeps.retireRequest {s₀ s : State} (hs : Keeps wr s₀ s) : Keeps wr s₀ (retireRequest s) :=
  Keeps.ite ((hs.setMState _).set _ _).plain hs

theorem Keeps.retireDrain {s₀ s : State} (hs : Keeps wr s₀ s) : Keeps wr s₀ (retireDrain s) := by
  unfold Machine.retireDrain
  dsimp only
  refine Keeps.ite ?_ hs
  refine Keeps.retireNext ?_
  refine Keeps.plain ?_
  refine hs.forN _ _ fun s i hs => ?_
  exact Keeps.ite hs (hs.drainUnit _)

theorem Keeps.dieCritRetire {s₀ s : State} (hs : Keeps wr s₀ s) : Keeps wr s₀ (dieCritRetire s) :=
  Keeps.ite (hs.retireRequest.bump _).plain hs

theorem Keeps.throttleLevel {s₀ s : State} (hs : Keeps wr s₀ s) : Keeps wr s₀ (throttleLevel s) :=
  Keeps.ite ((hs.stagedDone _).set _ _) hs

theorem Keeps.trainDone {s₀ s : State} (hs : Keeps wr s₀ s) : Keeps wr s₀ (trainDone s) :=
  Keeps.ite (hs.firstMap.setMState _) hs

theorem Keeps.owedRecords {s₀ s : State} (hs : Keeps wr s₀ s) : Keeps wr s₀ s.owedRecords :=
  (Keeps.ite ((Keeps.ite (hs.commitMissed _) hs).fault _ _ _ _) (Keeps.ite (hs.commitMissed _) hs)).plain

theorem Keeps.admitModule {s₀ s : State} (hs : Keeps wr s₀ s) : Keeps wr s₀ (admitModule s) :=
  Keeps.ite hs (Keeps.ite (hs.bump _) (Keeps.ite (((hs.setMState _).owedRecords).ledgerAdd _) ((hs.setMState _).owedRecords)))

/-! ### Reset -/

theorem Keeps.resetRegs {s₀ s : State} (hs : Keeps wr s₀ s) (lo hi : Nat) (but : List Nat) : Keeps wr s₀ (s.resetRegs lo hi but) := by
  unfold State.resetRegs
  refine Keeps.foldl _ (fun s p hs => ?_) _ (hs.with_regs _ (ascending_filter _ _))
  split
  · exact hs.setReg _ _
  · exact hs

theorem Keeps.reloadImage {s₀ s : State} (hs : Keeps wr s₀ s) : Keeps wr s₀ s.reloadImage := by
  unfold State.reloadImage
  refine Keeps.foldl _ (fun s x hs => ?_) _ hs
  split
  · exact Keeps.ite hs (hs.setReg _ _)
  · exact hs

theorem Keeps.rstStatus {s₀ s : State} (hs : Keeps wr s₀ s) (domain cause epoch : Nat) : Keeps wr s₀ (s.rstStatus domain cause epoch) :=
  hs.setReg _ _

theorem Keeps.cutCommit {s₀ s : State} (hs : Keeps wr s₀ s) : Keeps wr s₀ s.cutCommit :=
  Keeps.ite hs.plain hs.fresh.plain

/-- The memories after the loss of power keep their form, and every list of parts its length (R461). -/
theorem Keeps.powerReset {s₀ s0 : State} (hs : Keeps true s₀ s0) (cause vin : Nat) : Keeps true s₀ (s0.powerReset cause vin) := by
  unfold State.powerReset
  extract_lets +onlyGivenNames s epoch s1
  have hcut : Keeps true s₀ s := hs.cutCommit
  have h1 : Keeps true s₀ s1 := by
    refine ⟨hcut.fuse, hcut.pending, fun _ => rfl, fun h => ?_, fun h => ?_, nofun⟩
    · obtain ⟨-, -, -, -, -, hA, hB⟩ := (State.memsWf_iff _).mp (hcut.mems h)
      refine (State.memsWf_iff _).mpr ⟨Mem.wf_lose _, ?_, Mem.wf_lose _, Mem.wf_lose _, Mem.wf_lose _, hA, hB⟩
      simp [s1, Mem.wf_lose]
    · obtain ⟨-, -, -, -, -, hopt, -, hfar, -⟩ := hcut.parts h
      exact ⟨rfl, rfl, rfl, rfl, rfl, by simpa [s1] using hopt, rfl, by simpa [s1] using hfar, rfl, rfl⟩
  exact ((h1.set _ _).alert _).rstStatus _ _ _

theorem Keeps.powerApplied {s₀ s : State} (hs : Keeps true s₀ s) (vin : Nat) : Keeps true s₀ (powerApplied vin s) :=
  Keeps.ite (hs.powerReset _ _) hs

theorem Keeps.inputLoss {s₀ s : State} (hs : Keeps wr s₀ s) (vin vbank : Nat) : Keeps wr s₀ (inputLoss vin vbank s) :=
  Keeps.ite hs (Keeps.ite hs.plain hs.plain)

theorem Keeps.ledgerCommitDone {s₀ s : State} (hs : Keeps wr s₀ s) : Keeps wr s₀ (ledgerCommitDone s) :=
  Keeps.ite (Keeps.ite hs (hs.commitDone.retireNext)) (Keeps.ite hs.plain hs)

theorem Keeps.inputReturn {s₀ s : State} (hs : Keeps true s₀ s) (vin : Nat) : Keeps true s₀ (inputReturn vin s) :=
  Keeps.ite (hs.ledgerCommitDone.powerReset _ _) hs

theorem Keeps.keepMapOuts {s₀ s : State} (hs : Keeps wr s₀ s) : Keeps wr s₀ s.keepMapOuts := by
  unfold State.keepMapOuts
  dsimp only
  refine Keeps.plain ?_
  refine Keeps.cutCommit ?_
  refine hs.forN _ _ fun s i hs => ?_
  exact hs.recordRetired _

theorem Keeps.moduleFresh {s₀ s0 : State} (hs : Keeps true s₀ s0) (cause : Nat) : Keeps true s₀ (s0.moduleFresh cause) := by
  -- the ledger is settled first; its state gets a name, so that no check unfolds it
  obtain ⟨s, hs'⟩ : ∃ s, s0.keepMapOuts = s := ⟨_, rfl⟩
  have hkept : Keeps true s₀ s := hs' ▸ hs.keepMapOuts
  unfold State.moduleFresh
  rw [hs']
  extract_lets +onlyGivenNames s epoch was drops pend p s1 s2 s3
  have h1 : Keeps true s₀ s1 := by
    refine ⟨hkept.fuse, hkept.pending, hkept.regs, fun h => ?_, fun h => ?_, nofun⟩
    · obtain ⟨hnear, -, -, -, hcore, hA, hB⟩ := (State.memsWf_iff _).mp (hkept.mems h)
      refine (State.memsWf_iff _).mpr ⟨hnear, ?_, Mem.wf_lose _, Mem.wf_lose _, hcore, hA, hB⟩
      simp [s1, Mem.wf_lose]
    · obtain ⟨-, hmc, -, hupd, -, hopt, -, hfar, -⟩ := hkept.parts h
      exact ⟨List.length_replicate, by simpa [s1] using hmc, List.length_replicate, by simpa [s1] using hupd, List.length_replicate,
        by simpa [s1] using hopt, rfl, by simpa [s1] using hfar, rfl, rfl⟩
  have h2 : Keeps true s₀ s2 := (h1.resetRegs _ _ _).set _ _
  have h3 : Keeps true s₀ s3 := (h2.set _ _).rstStatus _ _ _
  exact Keeps.ite h3 (h3.alert _)

theorem Keeps.moduleReset {s₀ s : State} (hs : Keeps true s₀ s) (byPin digestOk : Bool) : Keeps true s₀ (moduleReset byPin digestOk s) :=
  Keeps.ite (hs.powerReset _ _) (Keeps.ite (hs.moduleFresh _).plain ((hs.moduleFresh _).bringUp))

theorem Keeps.modrstNRelease {s₀ s : State} (hs : Keeps wr s₀ s) : Keeps wr s₀ (modrstNRelease s) :=
  Keeps.ite (hs.plain.bringUp) hs

theorem Keeps.coreFresh {s₀ s0 : State} (hs : Keeps true s₀ s0) (n : Nat) : Keeps true s₀ (s0.coreFresh n) := by
  unfold State.coreFresh
  dsimp only
  refine Keeps.convDiscard ?_ _
  refine ((hs.endWait _).setCore _ _).forN _ _ fun s i hs => ?_
  exact hs.set _ _

theorem Keeps.coreReset {s₀ s : State} (hs : Keeps true s₀ s) (n : Nat) : Keeps true s₀ (coreReset n s) :=
  Keeps.ite ((((hs.retireLocal _ _ _).coreFresh _).resetUnit _).rstStatus _ _ _) (hs.absentUnit _ _)

theorem Keeps.computeReset {s₀ s : State} (hs : Keeps true s₀ s) : Keeps true s₀ (computeReset s) := by
  unfold Machine.computeReset
  extract_lets +onlyGivenNames s1 s2 s3 s4 s5 s6
  have h1 : Keeps true s₀ s1 := hs.forN _ _ fun s n hs => Keeps.ite ((hs.coreFresh _).resetUnit _) hs
  have h2 : Keeps true s₀ s2 := h1.resetRegs _ _ _
  have h3 : Keeps true s₀ s3 := h2.updStop
  have hu : Keeps true s₀ { s3 with upd := s3.upd.map fun (u : Upd) => { u with scal := [] } } := h3.with_upd _ (by simp)
  have h4 : Keeps true s₀ s4 := hu.plain
  have h5 : Keeps true s₀ s5 := h4.forN _ _ fun s d hs => (hs.reRollback _).resetUnit _
  have h6 : Keeps true s₀ s6 := h5.forN _ _ fun s n hs => hs.resetUnit _
  exact (h6.resetUnit _).rstStatus _ _ _

theorem Keeps.stackReset {s₀ s0 : State} (hs : Keeps wr s₀ s0) (n : Nat) : Keeps wr s₀ (stackReset n s0) :=
  ((((((hs.retireLocal _ _ _).setMemctl _ _).with_upd _ (by simp)).set _ _).resetUnit _).resetUnit _).rstStatus _ _ _

theorem Keeps.dropPort {s₀ s : State} (hs : Keeps wr s₀ s) (p reason : Nat) : Keeps wr s₀ (s.dropPort p reason) :=
  Keeps.ite hs.plain (hs.plain.transitDrop _ _ _ _)

theorem Keeps.resetPort {s₀ s : State} (hs : Keeps wr s₀ s) (p : Nat) : Keeps wr s₀ (s.resetPort p) := by
  unfold State.resetPort
  extract_lets +onlyGivenNames s1 n
  have hs1 : Keeps wr s₀ s1 := Keeps.ite (((hs.bump _).dropPort _ _).portFresh _) (hs.with_colok _ (by simp))
  split
  · exact hs1.retrainLost _
  · exact hs1.retrainLost _
  · exact hs1
  · exact Keeps.ite ((hs1.set _ _).retrainLost _) ((hs1.plain.setUnit _ _).portNone _)

theorem Keeps.arbWatchdog {s₀ s : State} (hs : Keeps wr s₀ s) (p : Nat) : Keeps wr s₀ (arbWatchdog p s) :=
  Keeps.ite ((((hs.bump _).transitDrop _ _ _ _).resetPort _).rstStatus _ _ _) hs

theorem Keeps.managementReset {s₀ s : State} (hs : Keeps true s₀ s) (digestOk : Bool) : Keeps true s₀ (managementReset digestOk s) := by
  unfold Machine.managementReset
  refine Keeps.ite hs (Keeps.ite (hs.powerReset _ _) ?_)
  extract_lets +onlyGivenNames m p l b s1 s2 s3
  have hmgmt := hs.with_mgmt { s.mgmt with missed0 := 0, missed1 := 0, lost := none, inReset := true } rfl rfl
  have hmc := hmgmt.with_mc (s.mc.map fun c => { c with recent := [], want := [], cool := 0 }) (by simp)
  have h1 : Keeps true s₀ s1 := by
    refine (hmc.with_opt _ ?_).plain
    simp
  have h2 : Keeps true s₀ s2 := (((h1.set _ _).set _ _).set _ _).set _ _
  have h3 : Keeps true s₀ s3 := (h2.showFlash.set _ _).set _ _
  exact (h3.reloadImage.set _ _).rstStatus _ _ _

theorem Keeps.mgmtResume {s₀ s : State} (hs : Keeps wr s₀ s) : Keeps wr s₀ (mgmtResume s) :=
  Keeps.ite (((((hs.with_mgmt _ (by simp) (by simp)).set _ _).set _ _).setUnit _ _).setUnit _ _) hs

theorem Keeps.ok {s₀ s : State} (hs : Keeps wr s₀ s) (w : Word) : Keeps wr s₀ (WordDone.ok w s).st :=
  hs

/-! ### RegSpace -/

theorem Keeps.fieldWrite {s₀ s : State} (hs : Keeps wr s₀ s) (a : Nat) (v : Word) : Keeps wr s₀ (s.fieldWrite a v) := by
  unfold State.fieldWrite
  dsimp only
  split
  · exact hs
  · exact hs.setReg _ _

theorem Keeps.coreCtrl {s₀ s : State} (hs : Keeps wr s₀ s) (n : Nat) (v : Word) : Keeps wr s₀ (s.coreCtrl n v) :=
  Keeps.ite ((hs.set _ _).coreStop _) (Keeps.ite ((hs.set _ _).coreRun _) (hs.set _ _))

theorem Keeps.coreRegWrite {s₀ s : State} (hs : Keeps wr s₀ s) (n o : Nat) (v : Word) : Keeps wr s₀ (s.coreRegWrite n o v).st := by
  unfold State.coreRegWrite
  dsimp only
  split
  · exact (hs.coreCtrl _ _).ok _
  · split
    · split
      · exact (hs.fieldWrite _ _).ok _
      · exact hs.hostReject _
    · split
      · split
        · exact hs.hostReject _
        · exact (hs.fieldWrite _ _).ok _
      · split
        · exact (Keeps.ite ((hs.fieldWrite _ _).commitNow _) (hs.fieldWrite _ _)).ok _
        · split
          · exact hs.ok _
          · split
            · exact (hs.accFlagsClear _ _ _).ok _
            · split
              · split
                · exact (hs.bump _).ok _
                · split
                  · exact hs.ok _
                  · exact (hs.setReg _ _).ok _
              · exact (hs.fieldWrite _ _).ok _

theorem Keeps.coreWord {s₀ s : State} (hs : Keeps true s₀ s) (n o a : Nat) (v : Option Word) : Keeps true s₀ (s.coreWord n o a v).st := by
  unfold State.coreWord
  dsimp only
  split
  · exact hs.absentUnit _ _
  · split
    · exact hs
    · split
      · exact hs.retired _
      · split
        · split
          · exact hs.hostReject _
          · split
            · exact hs.ok _
            · exact (Keeps.ite hs.fresh hs).ok _
        · split
          · exact hs.hostReject _
          · split
            · exact (hs.with_core _ (Mem.wf_store _ _ _)).ok _
            · split
              · exact hs.coreRegWrite _ _ _
              · exact hs.ok _

theorem Keeps.unitCtrl {s₀ s : State} (hs : Keeps wr s₀ s) (n source : Nat) (enable drain : Bool) :
    Keeps wr s₀ (s.unitCtrl n source enable drain) :=
  Keeps.ite ((Keeps.ite (hs.drainUnit _) hs).enableUnit _ _) (Keeps.ite (hs.drainUnit _) hs)

theorem Keeps.pageWrite {s₀ s : State} (hs : Keeps wr s₀ s) (o : Nat) (v : Word) : Keeps wr s₀ (s.pageWrite o v) :=
  Keeps.ite (hs.cadLoad _) (Keeps.ite (hs.unitCtrl _ _ _ _) (hs.fieldWrite _ _))

theorem Keeps.seqLocked {s₀ s : State} (hs : Keeps wr s₀ s) (ok : Bool) (a : Nat) (v : Word) : Keeps wr s₀ (s.seqLocked ok a v) :=
  Keeps.ite (hs.fieldWrite _ _) (hs.bump _)

theorem Keeps.seqWrite {s₀ s : State} (hs : Keeps true s₀ s) (o : Nat) (v : Word) : Keeps true s₀ (s.seqWrite o v) := by
  unfold State.seqWrite
  extract_lets +onlyGivenNames a free quiet
  refine Keeps.ite ?_ ?_
  · extract_lets +onlyGivenNames s1 s2
    have hs1 : Keeps true s₀ s1 := hs.set _ _
    have hs2 : Keeps true s₀ s2 := Keeps.ite ((hs1.set _ _).set _ _) (Keeps.ite (hs1.bump _) hs1)
    exact Keeps.ite hs2.resumeApply hs2
  · refine Keeps.ite (hs.seqLocked _ _ _) ?_
    refine Keeps.ite (Keeps.ite (hs.seqStartArm _) (hs.fieldWrite _ _)) ?_
    refine Keeps.ite (Keeps.ite (hs.seqMark _ _) hs) ?_
    refine Keeps.ite (hs.fieldWrite _ _) ?_
    split
    · exact Keeps.ite (hs.fieldWrite _ _) (hs.seqLocked _ _ _)
    · exact hs

theorem Keeps.farWrite {s₀ s : State} (hs : Keeps wr s₀ s) (p o : Nat) (v : Word) : Keeps wr s₀ (s.farWrite p o v) :=
  Keeps.ite (hs.setUnit _ _) hs

theorem Keeps.optWrite {s₀ s : State} (hs : Keeps wr s₀ s) (p o : Nat) (v : Word) : Keeps wr s₀ (s.optWrite p o v) :=
  Keeps.ite (Keeps.ite ((hs.fieldWrite _ _).retrain _) (hs.fieldWrite _ _))
      (Keeps.ite (Keeps.ite (hs.optCmd _ _ _) hs) (Keeps.ite hs (hs.fieldWrite _ _)))

theorem Keeps.spkWrite {s₀ s : State} (hs : Keeps wr s₀ s) (p o : Nat) (v : Word) : Keeps wr s₀ (s.spkWrite p o v) :=
  Keeps.ite (hs.unitCtrl _ _ _ _) (hs.optWrite _ _ _)

theorem Keeps.mcWrite {s₀ s : State} (hs : Keeps wr s₀ s) (n o : Nat) (v : Word) : Keeps wr s₀ (s.mcWrite n o v) :=
  Keeps.ite (hs.unitCtrl _ _ _ _) (Keeps.ite hs (hs.fieldWrite _ _))

theorem Keeps.rstCtrl {s₀ s : State} (hs : Keeps true s₀ s) (domain i : Nat) : Keeps true s₀ (s.rstCtrl domain i) := by
  unfold State.rstCtrl
  split
  · exact hs.moduleReset _ _
  · exact hs.computeReset
  · exact Keeps.ite (hs.coreReset _) hs
  · exact Keeps.ite (hs.stackReset _) hs
  · exact Keeps.ite ((hs.resetPort _).rstStatus _ _ _) hs
  · exact hs.managementReset _
  · exact hs

theorem Keeps.mgmtWrite {s₀ s : State} (hs : Keeps true s₀ s) (a : Nat) (v : Word) : Keeps true s₀ (s.mgmtWrite a v) := by
  unfold State.mgmtWrite
  exact Keeps.ite (Keeps.ite (hs.powerReset _ _) (Keeps.ite hs.retireRequest hs))
      (Keeps.ite (Keeps.ite (hs.rstCtrl _ _) hs)
          (Keeps.ite (Keeps.ite hs.admitModule hs)
              (Keeps.ite (Keeps.ite (hs.flashCtrl _ _) hs)
                  (Keeps.ite (hs.flDataWrite _)
                      (Keeps.ite (Keeps.ite (hs.idStart _) hs) (Keeps.ite (hs.idWrite _) (Keeps.ite hs (hs.fieldWrite _ _))))))))

theorem Keeps.bankWrite {s₀ s : State} (hs : Keeps wr s₀ s) (b a : Nat) (v : Word) : Keeps wr s₀ (s.bankWrite b a v) :=
  Keeps.ite (hs.fieldWrite _ _) (hs.bump _)

theorem Keeps.rtWrite {s₀ s : State} (hs : Keeps wr s₀ s) (o : Nat) (v : Word) : Keeps wr s₀ (s.rtWrite o v) := by
  unfold State.rtWrite
  extract_lets +onlyGivenNames a
  refine Keeps.ite (Keeps.ite (hs.fieldWrite _ _) hs) ?_
  refine Keeps.ite (hs.armStaged _ _ _) ?_
  refine Keeps.ite ?_ (Keeps.ite (hs.bankWrite _ _ _)
      (Keeps.ite (hs.bankWrite _ _ _) (Keeps.ite (hs.bankWrite _ _ _) (hs.fieldWrite _ _))))
  extract_lets +onlyGivenNames b s1
  have hs1 : Keeps wr s₀ s1 := Keeps.ite (hs.bankCommit _ _) hs
  exact Keeps.ite (hs1.bankDiscard _) hs1

theorem Keeps.ctxLocked {s₀ s : State} (hs : Keeps wr s₀ s) (c a : Nat) (v : Word) : Keeps wr s₀ (s.ctxLocked c a v) :=
  Keeps.ite (hs.fieldWrite _ _) (hs.bump _)

theorem Keeps.collWrite {s₀ s : State} (hs : Keeps wr s₀ s) (o : Nat) (v : Word) : Keeps wr s₀ (s.collWrite o v) := by
  unfold State.collWrite
  dsimp only
  refine Keeps.ite (Keeps.ite (hs.fieldWrite _ _) (hs.bump _)) ?_
  refine Keeps.ite ?_ (Keeps.ite (hs.ctxLocked _ _ _) (hs.fieldWrite _ _))
  refine Keeps.ite (Keeps.ite ((hs.set _ _).rcAbort _) (Keeps.ite (hs.rcArm _ _) (hs.fieldWrite _ _))) ?_
  refine Keeps.ite (hs.fieldWrite _ _) ?_
  split
  · exact Keeps.ite hs (hs.ctxLocked _ _ _)
  · exact hs

theorem Keeps.reWriteReg {s₀ s : State} (hs : Keeps wr s₀ s) (d o : Nat) (v : Word) : Keeps wr s₀ (s.reWriteReg d o v).st := by
  unfold State.reWriteReg
  dsimp only
  split
  · split
    · split
      · split
        · exact ((hs.reSelftest _).reStart _ _).ok _
        · exact (hs.reSelftest _).retired _
      · split
        · exact (hs.reStart _ _).ok _
        · exact hs.retired _
    · exact (Keeps.ite (hs.reSelftest _) hs).ok _
  · split
    · split
      · exact (hs.fieldWrite _ _).ok _
      · exact (Keeps.ite (hs.bump _) hs).ok _
      · exact hs.ok _
    · exact (hs.fieldWrite _ _).ok _

theorem Keeps.dwAddr {s₀ s : State} (hs : Keeps wr s₀ s) (c w : Nat) (v : Word) : Keeps wr s₀ (s.dwAddr c w v) :=
  (hs.fieldWrite _ _).setReg _ _

theorem Keeps.dwStep {s₀ s : State} (hs : Keeps wr s₀ s) (c w status : Nat) : Keeps wr s₀ (s.dwStep c w status) :=
  Keeps.ite ((hs.set _ _).wrapAdd _ _) (((hs.set _ _).wrapAdd _ _).bump _)

theorem Keeps.iteSt {o : State} {c : Prop} [Decidable c] {x y : WordDone} (hx : Keeps wr o x.st) (hy : Keeps wr o y.st) :
    Keeps wr o (if c then x else y).st := by
  split
  · exact hx
  · exact hy

theorem Keeps.iteOk {o s : State} {c : Prop} [Decidable c] {w : Word} {y : WordDone} (hs : Keeps wr o s) (hy : Keeps wr o y.st) :
    Keeps wr o (if c then .ok w s else y).st :=
  Keeps.iteSt (x := .ok w s) hs hy

theorem Keeps.regWrite {s₀ s : State} (hs : Keeps true s₀ s) (a : Nat) (v : Word) : Keeps true s₀ (s.regWrite a v).st := by
  unfold State.regWrite
  refine iteOk (hs.pageWrite _ _) <| iteOk (hs.seqWrite _ _) <| iteOk (ite (ite hs.mapLoad hs) (hs.fieldWrite _ _)) <|
    iteOk (hs.farWrite _ _ _) <| iteOk hs <| iteOk (hs.spkWrite _ _ _) <| iteOk (hs.mcWrite _ _ _) <| iteOk (hs.mgmtWrite _ _) <|
    iteSt ?_ <| iteOk (hs.rtWrite _ _) <| iteOk (hs.collWrite _ _) (hs.reWriteReg _ _ _)
  refine iteOk (ite ((hs.unitCtrl _ _ _ _).retrain _) (hs.unitCtrl _ _ _ _)) ?_
  split
  · exact hs.dwAddr _ _ _
  · exact hs.optWrite _ _ _

theorem Keeps.word {s₀ s : State} (hs : Keeps true s₀ s) (o : Origin) (a : Nat) (v : Option Word) : Keeps true s₀ (s.word o a v).st := by
  unfold State.word
  refine iteSt hs <| iteSt (hs.coreWord _ _ _ _) <| iteSt (iteSt (hs.absentUnit _ _) ?_) ?_
  · split
    · exact iteSt (hs.regWrite _ _) hs
    · split
      · exact hs.fresh
      · exact iteSt hs.idRead (iteSt hs hs)
  · extract_lets +onlyGivenNames mem
    have hmem : Keeps true s₀ (mem s).st := by
      unfold mem
      split <;> exact hs.memAccess _ _ _
    clear_value mem
    split
    · exact iteSt (hs.stageWrite _ _ _) (hs.retired _)
    · exact hmem

theorem Keeps.through {s₀ s : State} (hs : Keeps true s₀ s) (o : Origin) (a : Nat) (v : Option Word) (n : Nat) :
    Keeps true s₀ (s.through o a v n).st := by
  induction n generalizing a with
  | zero => exact hs.word _ _ _
  | succ n ih =>
    unfold State.through
    split
    · exact iteSt hs ((ih _).dwStep _ _ _)
    · exact hs.word _ _ _

theorem Keeps.devWord {s₀ s : State} (hs : Keeps true s₀ s) (o : Origin) (a : Nat) (v : Option Word) : Keeps true s₀
    (s.devWord o a v).st :=
  hs.through _ _ _ _

theorem Keeps.countStatus {s₀ s : State} (hs : Keeps wr s₀ s) (c status : Nat) : Keeps wr s₀ (s.countStatus c status) := by
  unfold State.countStatus
  split
  · exact hs.bump _
  · exact hs.bump _
  · exact hs.bump _
  · exact hs.bump _
  · exact hs.bump _
  · exact hs

theorem Keeps.portWord {s₀ s : State} (hs : Keeps true s₀ s) (c a : Nat) (v : Option Word) : Keeps true s₀ (s.portWord c a v) :=
  (hs.devWord _ _ _).countStatus _ _

theorem Keeps.registerWrite {s₀ s : State} (hs : Keeps true s₀ s) (addr : Nat) (v : Word) : Keeps true s₀ (registerWrite addr v s) :=
  Keeps.ite hs (Keeps.ite (hs.countStatus _ _) (hs.portWord _ _ _))

/-! ### Colok -/

theorem Keeps.wire {s₀ s : State} (hs : Keeps wr s₀ s) (c : Nat) (f : Frame) : Keeps wr s₀ (s.wire c f) :=
  hs.plain.setCk _ _

theorem Keeps.sendFlow {s₀ s : State} (hs : Keeps wr s₀ s) (c : Nat) (nak : Bool) : Keeps wr s₀ (s.sendFlow c nak) :=
  hs.wire _ _

theorem Keeps.sendCaps {s₀ s : State} (hs : Keeps wr s₀ s) (c : Nat) : Keeps wr s₀ (s.sendCaps c) :=
  (hs.wire _ _).setCk _ _

theorem Keeps.drainOut {s₀ s : State} (hs : Keeps wr s₀ s) (c n : Nat) : Keeps wr s₀ (s.drainOut c n) := by
  induction n generalizing s with
  | zero => exact hs
  | succ n ih =>
    unfold State.drainOut
    dsimp only
    split
    · exact hs
    · exact ite hs (ih (((hs.setCk _ _).wire _ _).wrapAdd _ _))

theorem Keeps.emit {s₀ s : State} (hs : Keeps wr s₀ s) (c : Nat) (f : Frame) : Keeps wr s₀ (s.emit c f) :=
  (hs.setCk _ _).drainOut _ _

theorem Keeps.resendAll {s₀ s : State} (hs : Keeps wr s₀ s) (c : Nat) : Keeps wr s₀ (s.resendAll c) := by
  unfold State.resendAll
  dsimp only
  refine Keeps.setCk ?_ _ _
  refine Keeps.foldl _ (fun s x hs => ?_) _ hs
  exact (hs.wire _ _).bump _

theorem Keeps.ackIn {s₀ s : State} (hs : Keeps wr s₀ s) (c ack : Nat) : Keeps wr s₀ (s.ackIn c ack) :=
  (Keeps.ite hs (hs.setCk _ _)).drainOut _ _

theorem Keeps.respond {s₀ s : State} (hs : Keeps wr s₀ s) (c tag addr status operand : Nat) (data : List Word) :
    Keeps wr s₀ (s.respond c tag addr status operand data) :=
  (hs.countStatus _ _).emit _ _

theorem Keeps.ckSignal {s₀ s : State} (hs : Keeps wr s₀ s) (a inc : Nat) : Keeps wr s₀ (s.ckSignal a inc).st := by
  unfold State.ckSignal
  dsimp only
  split
  · exact hs
  · split
    · exact hs.absentUnit _ _
    · split
      · exact hs.retired _
      · exact (hs.addCounter _ _ _ _).ok _

theorem Keeps.runningWord {s₀ : State} {x : Running} (hx : Keeps true s₀ x.1) (o : Origin) (r : Request) (i : Nat) :
    Keeps true s₀ (x.word o r i).1 :=
  hx.devWord _ _ _

theorem Keeps.runningGranule {s₀ : State} {x : Running} (hx : Keeps true s₀ x.1) (o : Origin) (r : Request) (c w a i n : Nat) :
    Keeps true s₀ (x.granule o r c w a i n).1 := by
  unfold Running.granule
  split
  · exact (hx.memAccess _ _ _).forN _ _ fun s _ hs => hs.dwStep _ _ _
  · exact foldlOn Prod.fst _ (fun x k hx => hx.runningWord _ _ _) _ hx

theorem Keeps.runWords {s₀ s : State} (hs : Keeps true s₀ s) (o : Origin) (r : Request) : Keeps true s₀ (s.runWords o r).1 := by
  have hwords : Keeps true s₀ ((List.range r.count).foldl (fun (x : Running) i => x.word o r i) (s, stOk, noWord, [])).1 :=
    foldlOn Prod.fst _ (fun x i hx => hx.runningWord _ _ _) _ hs
  unfold State.runWords
  split
  · exact hs.ckSignal _ _
  · split
    · split
      · exact foldlOn Prod.fst _ (fun x g hx => hx.runningGranule _ _ _ _ _ _ _) _ hs
      · exact hwords
    · exact hwords

theorem Keeps.sendMgmt {s₀ s : State} (hs : Keeps wr s₀ s) (die kind dst addr : Nat) (f : Frame) (count : Nat) :
    Keeps wr s₀ (s.sendMgmt die kind dst addr f count) :=
  hs.sendLocal _ _

theorem Keeps.finishRequest {s₀ s : State} (hs : Keeps wr s₀ s) (c i : Nat) (r : Request) (status operand : Nat) (data : List Word) :
    Keeps wr s₀ (s.finishRequest c i r status operand data) :=
  Keeps.ite ((hs.setCk _ _).countStatus _ _) ((hs.setCk _ _).respond _ _ _ _ _ _)

theorem Keeps.forwardOne {s₀ s : State} (hs : Keeps wr s₀ s) (c i : Nat) (r : Request) : Keeps wr s₀ (s.forwardOne c i r) :=
  Keeps.ite ((Keeps.ite (hs.sendMgmt _ _ _ _ _ _) hs).setCk _ _) ((Keeps.ite (hs.sendMgmt _ _ _ _ _ _) hs).finishRequest _ _ _ _ _ _)

theorem Keeps.forwardAll {s₀ s : State} (hs : Keeps wr s₀ s) (c n : Nat) : Keeps wr s₀ (s.forwardAll c n) := by
  induction n generalizing s with
  | zero => exact hs
  | succ n ih =>
    unfold State.forwardAll
    dsimp only
    split
    · exact hs
    · split
      · exact hs
      · exact ih (hs.forwardOne _ _ _)

theorem Keeps.requestComplete {s₀ s : State} (hs : Keeps true s₀ s) (c i : Nat) : Keeps true s₀ (requestComplete c i s) := by
  unfold Machine.requestComplete
  dsimp only
  split
  · exact hs
  · refine Keeps.ite hs ?_
    split
    · exact hs.runWords _ _
    · exact ((hs.runWords _ _).finishRequest _ _ _ _ _ _).forwardAll _ _

theorem Keeps.ckBusy {s₀ s : State} (hs : Keeps wr s₀ s) (c : Nat) (r : Request) : Keeps wr s₀ (s.ckBusy c r) :=
  (hs.faultOnce _ _ _ _).respond _ _ _ _ _ _

theorem Keeps.requestIn {s₀ s : State} (hs : Keeps wr s₀ s) (c : Nat) (r : Request) (retry : Bool) : Keeps wr s₀
    (s.requestIn c r retry) := by
  unfold State.requestIn
  extract_lets +onlyGivenNames k full two
  refine Keeps.ite ((hs.retired _).respond _ _ _ _ _ _) ?_
  refine Keeps.ite ((hs.setCk _ _).ckBusy _ _) ?_
  extract_lets +onlyGivenNames s1
  have hs1 : Keeps wr s₀ s1 := hs.setCk _ _
  exact Keeps.ite (hs1.respond _ _ _ _ _ _) ((hs1.setCk _ _).forwardAll _ _)

theorem Keeps.ckDiscard {s₀ s : State} (hs : Keeps wr s₀ s) (c : Nat) : Keeps wr s₀ (s.ckDiscard c) :=
  Keeps.ite (hs.bump _) (((hs.bump _).setCk _ _).sendFlow _ _)

theorem Keeps.ckCapsIn {s₀ s : State} (hs : Keeps wr s₀ s) (c : Nat) (w : Word) : Keeps wr s₀ (s.ckCapsIn c w) := by
  unfold State.ckCapsIn
  dsimp only
  refine Keeps.ite (hs.set _ _) ?_
  split
  · exact (Keeps.ite (((((hs.set _ _).set _ _).set _ _).set _ _).setCk _ _)
      ((((((hs.set _ _).set _ _).set _ _).set _ _).setCk _ _).sendCaps _)).portService _
  · exact (((hs.set _ _).set _ _).setCk _ _).versionRefused _ _ _ _

theorem Keeps.colokFrame {s₀ s : State} (hs : Keeps wr s₀ s) (c : Nat) (f : Frame) : Keeps wr s₀ (colokFrame c f s) := by
  unfold Machine.colokFrame
  extract_lets +onlyGivenNames p good
  refine Keeps.ite (Keeps.ite (hs.bump _) (Keeps.ite (hs.ckCapsIn _ _) hs)) (Keeps.ite (Keeps.ite (hs.ckDiscard _) ?_) hs)
  have hack : ∀ {t}, Keeps wr s₀ t → Keeps wr s₀ (if bits f.w1 30 30 = 1 then (t.ackIn c f.ack).resendAll c else t.ackIn c f.ack) :=
    fun ht => Keeps.ite ((ht.ackIn _ _).resendAll _) (ht.ackIn _ _)
  exact Keeps.ite (hack hs) (Keeps.ite hs (Keeps.ite (hs.ckDiscard _) ((hack ((hs.wrapAdd _ _).setCk _ _)).requestIn _ _ _)))

theorem Keeps.colokResendTimeout {s₀ s : State} (hs : Keeps wr s₀ s) (c : Nat) : Keeps wr s₀ (colokResendTimeout c s) :=
  Keeps.ite (hs.resendAll _) hs

theorem Keeps.colokSlot {s₀ s : State} (hs : Keeps wr s₀ s) (c : Nat) : Keeps wr s₀ (s.colokSlot c) :=
  (Keeps.ite (hs.sendCaps _) (Keeps.ite (hs.sendFlow _ _) hs)).setCk _ _

theorem Keeps.colokLinkLost {s₀ s : State} (hs : Keeps wr s₀ s) (c : Nat) : Keeps wr s₀ (colokLinkLost c s) :=
  Keeps.ite ((((Keeps.ite (hs.set _ _) hs).linkDown _).bump _).setUnit _ _) hs

theorem Keeps.mgmtAnswer {s₀ s : State} (hs : Keeps wr s₀ s) (die : Nat) (p : Packet) (status operand : Nat) (data : List Word) :
    Keeps wr s₀ (s.mgmtAnswer die p status operand data) :=
  hs.sendMgmt _ _ _ _ _ _

theorem Keeps.proxyIn {s₀ s : State} (hs : Keeps wr s₀ s) (n : Nat) : Keeps wr s₀ (s.proxyIn n) := by
  induction n generalizing s with
  | zero => exact hs
  | succ n ih => exact ih (hs.takeLocal _ _ fun s h hs => ite (hs.mgmtAnswer _ _ _ _ _) hs.plain)

theorem Keeps.mgmtRun {s₀ s : State} (hs : Keeps true s₀ s) (l : Transit) : Keeps true s₀ (s.mgmtRun l) :=
  Keeps.ite (hs.mgmtAnswer _ _ _ _ _) ((hs.runWords _ _).mgmtAnswer _ _ _ _ _)

theorem Keeps.mgmtReq {s₀ s : State} (hs : Keeps true s₀ s) : Keeps true s₀ (mgmtReq s) := by
  unfold Machine.mgmtReq
  dsimp only
  split
  · exact hs.proxyIn _
  · exact (hs.proxyIn _).plain.mgmtRun _

theorem Keeps.mgmtBack {s₀ s : State} (hs : Keeps wr s₀ s) (l : Transit) : Keeps wr s₀ (s.mgmtBack l) := by
  unfold State.mgmtBack
  dsimp only
  split
  · exact hs
  · exact (hs.finishRequest _ _ _ _ _ _).forwardAll _ _

theorem Keeps.proxyTimeout {s₀ s : State} (hs : Keeps wr s₀ s) (idx : Nat) : Keeps wr s₀ (proxyTimeout idx s) := by
  unfold Machine.proxyTimeout
  dsimp only
  split
  · exact hs
  · exact Keeps.ite ((hs.finishRequest _ _ _ _ _ _).forwardAll _ _) hs

/-! ### Epoch -/

theorem Keeps.heartbeat {s₀ s : State} (hs : Keeps wr s₀ s) (r : Readings) (i : Nat) : Keeps wr s₀ (s.heartbeat r i) := by
  unfold State.heartbeat
  refine ite hs ?_
  extract_lets +onlyGivenNames s1
  have h1 : Keeps wr s₀ s1 := ite (hs.bump _) hs
  split
  · have h2 := ite (c := i = 0) (h1.set F.MGMT_STATUS_PRI_UP 1) (h1.set F.MGMT_STATUS_SEC_UP 1)
    exact h2.with_mgmt _ (by split <;> rfl) (by split <;> rfl)
  · exact (h1.bump _).with_mgmt _ (by split <;> rfl) (by split <;> rfl)

theorem Keeps.noteLost {s₀ s : State} (hs : Keeps wr s₀ s) : Keeps wr s₀ s.noteLost :=
  Keeps.ite hs (Keeps.ite (hs.with_mgmt _ (by simp) (by simp)) (Keeps.ite (hs.with_mgmt _ (by simp) (by simp)) hs))

theorem Keeps.readEvents {s₀ s : State} (hs : Keeps wr s₀ s) (r : Readings) : Keeps wr s₀ (s.readEvents r) := by
  unfold State.readEvents
  dsimp only
  refine hs.forN _ _ fun s i hs => ?_
  exact Keeps.ite (hs.with_mgmt _ (by simp) (by simp)) hs

theorem Keeps.perfSnap {s₀ s : State} (hs : Keeps wr s₀ s) (n : Nat) : Keeps wr s₀ (s.perfSnap n) :=
  (hs.setReg _ _).setCore _ _

theorem Keeps.tagSnap {s₀ s : State} (hs : Keeps wr s₀ s) : Keeps wr s₀ s.tagSnap :=
  foldl _ (fun _ _ hs => ite (hs.setReg _ _) hs) _ (hs.with_regs _ (ascending_filter _ _))

theorem Keeps.powerRead {s₀ s : State} (hs : Keeps wr s₀ s) (r : Readings) : Keeps wr s₀ (s.powerRead r) := by
  unfold State.powerRead
  extract_lets +onlyGivenNames seen s1 s2 s3 s4 s5
  have hs1 : Keeps wr s₀ s1 := (((hs.set _ _).set _ _).set _ _).set _ _
  have hs2 : Keeps wr s₀ s2 := hs1.set _ _
  have hs3 : Keeps wr s₀ s3 := Keeps.ite (hs2.bump _) hs2
  have hs4 : Keeps wr s₀ s4 := Keeps.ite (hs3.bump _) hs3
  have hs5 : Keeps wr s₀ s5 := Keeps.ite (hs4.alert _) hs4
  exact hs5.plain

theorem Keeps.powerLevel {s₀ s : State} (hs : Keeps wr s₀ s) : Keeps wr s₀ s.powerLevel :=
  hs.plain

theorem Keeps.thermalFloor {s₀ s : State} (hs : Keeps wr s₀ s) (r : Readings) : Keeps wr s₀ (s.thermalFloor r) := by
  unfold State.thermalFloor
  dsimp only
  refine Keeps.set ?_ _ _
  refine Keeps.plain ?_
  refine Keeps.ite ?_ ?_
  · refine Keeps.alert ?_ _
    refine Keeps.set ?_ _ _
    refine hs.forN _ _ fun s i hs => ?_
    exact hs.set _ _
  · refine Keeps.ite ?_ ?_
    · refine Keeps.alert ?_ _
      refine Keeps.set ?_ _ _
      refine hs.forN _ _ fun s i hs => ?_
      exact hs.set _ _
    · refine Keeps.ite ?_ ?_
      · refine Keeps.set ?_ _ _
        refine hs.forN _ _ fun s i hs => ?_
        exact hs.set _ _
      · refine hs.forN _ _ fun s i hs => ?_
        exact hs.set _ _

theorem Keeps.powerArm {s₀ s : State} (hs : Keeps wr s₀ s) : Keeps wr s₀ s.powerArm :=
  (hs.set _ _).armStaged _ _ _

theorem Keeps.holdupMark {s₀ s : State} (hs : Keeps wr s₀ s) (r : Readings) : Keeps wr s₀ (s.holdupMark r) :=
  ((hs.set _ _).set _ _).plain.showHoldup

theorem Keeps.slowMark {s₀ s : State} (hs : Keeps wr s₀ s) (r : Readings) : Keeps wr s₀ (s.slowMark r) := by
  unfold State.slowMark
  extract_lets +onlyGivenNames src s1 s2 s3
  have h1 : Keeps wr s₀ s1 := hs.plain
  have h2 : Keeps wr s₀ s2 := Keeps.ite h1 h1.showFlash
  have h3 : Keeps wr s₀ s3 := Keeps.ite (h2.commitAt _) h2
  exact Keeps.ite h3 (Keeps.ite h3.plain h3.retireNext)

theorem Keeps.fillPage {s₀ s : State} (hs : Keeps wr s₀ s) (now : List Word) (ok : Bool) : Keeps wr s₀ (s.fillPage now ok) := by
  unfold State.fillPage
  dsimp only
  refine Keeps.ite ?_ (hs.setReg _ _)
  refine Keeps.setReg ?_ _ _
  refine (hs.setReg _ _).forN _ _ fun s i hs => ?_
  exact hs.setReg _ _

theorem Keeps.coresCatchUp {s₀ s : State} (hs : Keeps true s₀ s) : Keeps true s₀ s.coresCatchUp := by
  unfold State.coresCatchUp
  refine hs.forN _ _ fun s i hs => ?_
  exact hs.catchUp _

theorem Keeps.snapshots {s₀ s : State} (hs : Keeps wr s₀ s) : Keeps wr s₀ s.snapshots := by
  unfold State.snapshots
  dsimp only
  refine Keeps.forN ?_ _ _ fun s i hs => ?_
  · refine Keeps.congSnap ?_
    refine Keeps.tagSnap ?_
    refine hs.forN _ _ fun s i hs => ?_
    exact Keeps.ite (hs.perfSnap _) hs
  · exact (hs.monitorSnap _).latchLog _

theorem Keeps.slowWork {s₀ s : State} (hs : Keeps wr s₀ s) (r : Readings) (now : List Word) : Keeps wr s₀ (s.slowWork r now) := by
  unfold State.slowWork
  dsimp only
  refine Keeps.ite ?_ ?_
  · refine Keeps.fillPage ?_ _ _
    refine Keeps.ite ?_ ?_
    · refine Keeps.slowMark ?_ _
      refine Keeps.holdupMark ?_ _
      refine Keeps.powerArm ?_
      refine Keeps.thermalFloor ?_ _
      refine Keeps.powerLevel ?_
      refine Keeps.powerRead ?_ _
      refine Keeps.forN ?_ _ _ fun s i hs => ?_
      · refine (hs.readEvents _).forN _ _ fun s i hs => ?_
        exact Keeps.ite ((hs.monitorLog _).monitorTemp _ _) hs
      · exact hs.portMark _ _ _ _
    · refine Keeps.forN ?_ _ _ fun s i hs => ?_
      · refine (hs.readEvents _).forN _ _ fun s i hs => ?_
        exact Keeps.ite ((hs.monitorLog _).monitorTemp _ _) hs
      · exact hs.portMark _ _ _ _
  · refine Keeps.ite ?_ ?_
    · refine Keeps.slowMark ?_ _
      refine Keeps.holdupMark ?_ _
      refine Keeps.powerArm ?_
      refine Keeps.thermalFloor ?_ _
      refine Keeps.powerLevel ?_
      refine Keeps.powerRead ?_ _
      refine Keeps.forN ?_ _ _ fun s i hs => ?_
      · refine (hs.readEvents _).forN _ _ fun s i hs => ?_
        exact Keeps.ite ((hs.monitorLog _).monitorTemp _ _) hs
      · exact hs.portMark _ _ _ _
    · refine Keeps.forN ?_ _ _ fun s i hs => ?_
      · refine (hs.readEvents _).forN _ _ fun s i hs => ?_
        exact Keeps.ite ((hs.monitorLog _).monitorTemp _ _) hs
      · exact hs.portMark _ _ _ _

theorem Keeps.epochMark {s₀ s : State} (hs : Keeps true s₀ s) (r : Readings) : Keeps true s₀ (epochMark r s) := by
  unfold Machine.epochMark
  extract_lets +onlyGivenNames t c m s0 s1 c1 s2
  have h0 : Keeps true s₀ s0 := ((hs.with_mgmt { s.mgmt with logged := [] } rfl rfl).plain).coresCatchUp
  have h2 : Keeps true s₀ s2 := h0.snapshots.plain
  exact ((((h2.bump _).heartbeat _ _).heartbeat _ _).noteLost).slowWork _ _

theorem Keeps.slotBoundary {s₀ s : State} (hs : Keeps true s₀ s) : Keeps true s₀ (slotBoundary s) := by
  unfold Machine.slotBoundary
  dsimp only
  refine Keeps.forN ?_ _ _ fun s i hs => ?_
  · refine ((hs.plain.coresCatchUp).slew).forN _ _ fun s i hs => ?_
    exact hs.portSlot _
  · exact hs.colokSlot _

/-! ### Sideband -/

theorem Keeps.alertClear {s₀ s : State} (hs : Keeps wr s₀ s) (b : Nat) : Keeps wr s₀ (s.alertClear b) :=
  hs.set _ _

theorem Keeps.sbWriteByte {s₀ s : State} (hs : Keeps wr s₀ s) (i : Nat) (b : Byte) : Keeps wr s₀ (s.sbWriteByte i b) :=
  Keeps.ite (hs.alertClear _) (Keeps.ite (hs.set _ _) (Keeps.ite (Keeps.ite hs.retireRequest hs) hs))

theorem Keeps.sbWrite {s₀ s : State} (hs : Keeps wr s₀ s) (l : List Byte) : Keeps wr s₀ (s.sbWrite l) := by
  induction l generalizing s with
  | nil => exact hs
  | cons b bs ih => exact ih (hs.sbWriteByte _ _).plain

theorem Keeps.sbAnswer {s₀ s : State} (hs : Keeps wr s₀ s) (bs : List Byte) : Keeps wr s₀ (s.sbAnswer bs) :=
  hs.plain

/-! ## The commands -/

/-- What a command keeps where it leaves a next state. -/
def OutKeeps (s : State) (o : Out) : Prop := ∀ t, o = .next t → Keeps true s t

theorem next_keeps {s t : State} (h : Keeps true s t) : OutKeeps s (.next t) := fun _ e => by
  cases e
  exact h

theorem live_keeps {s : State} {f : State → State} (h : Keeps true s (f s)) : OutKeeps s (live s f) := next_keeps (h.ite (.refl s))

theorem lively_keeps {s : State} {n m : Nat} {f : State → State} (h : Keeps true s (f s)) : OutKeeps s (lively s n m f) :=
  live_keeps (h.ite (.refl s))

theorem issueCmd_keeps (n : Nat) (sel : Bool → Nat → Bool) (s : State) : OutKeeps s (issueCmd n sel s) :=
  lively_keeps ((Keeps.refl s).issueIf n sel)

theorem frameCmd_keeps (port : Nat) (f : Frame) (ops : Nat → Bool) (s : State) : OutKeeps s (frameCmd port f ops s) :=
  lively_keeps (((Keeps.refl s).colokFrame port f).ite (.refl s))

theorem sbCmd_keeps {s : State} {f : State → State} (h : Keeps true s (f s)) : OutKeeps s (sbCmd s f) := live_keeps (h.ite (.refl s))

theorem i3cCmd_keeps {s : State} {f : State → State} (h : ∀ t, Keeps true s t → Keeps true s (f t)) : OutKeeps s (i3cCmd s f) :=
  sbCmd_keeps (h _ (Keeps.refl s).plain)

theorem Keeps.farRequest {s₀ s : State} (hs : Keeps true s₀ s) (r : MemReq) : Keeps true s₀ (Machine.farAccess r s) :=
  (hs.request r false).ite hs

/-- Every command keeps the form of the state, the fuses and the queue. -/
theorem exec_keeps (c : Instr) (s : State) : OutKeeps s (exec c s) := by
  have hs : Keeps true s s := .refl s
  cases c with
  | epochMark _ => exact live_keeps (hs.epochMark _)
  | slotBoundary => exact live_keeps hs.slotBoundary
  | epochPulse => exact live_keeps hs.epochPulse
  | cadrefLost => exact live_keeps hs.cadrefLost
  | cadrefRegained _ => exact live_keeps (hs.cadrefRegained _)
  | beaconSourceTimeout _ => exact live_keeps (hs.beaconSourceTimeout _)
  | freeRunLimit => exact live_keeps hs.freeRunLimit
  | cadLoad _ => exact live_keeps (hs.cadLoad _)
  | stagedPairArm _ _ _ => exact (lively_keeps (hs.armStaged _ _ _) : OutKeeps s (execStagedPairArm _ _ _ s))
  | mgmtTakeover => exact live_keeps hs.mgmtTakeover
  | faultRecordWrite _ => exact lively_keeps (hs.faultRecordWrite _)
  | peakAssert _ => exact live_keeps (Keeps.ite hs.plain hs)
  | peakRelease _ => exact live_keeps (Keeps.ite hs.plain hs)
  | coreRun _ => exact lively_keeps (hs.coreRun _)
  | coreStop _ => exact lively_keeps (hs.coreStop _)
  | coreStopped _ => exact lively_keeps (hs.finishCore _ _)
  | coreHalted _ => exact lively_keeps (hs.finishCore _ _)
  | coreFreeze _ => exact lively_keeps (hs.coreFreeze _)
  | next _ _ => exact lively_keeps (hs.nextIssue _ _)
  | loopOpen _ => exact issueCmd_keeps _ _ _
  | loopClose _ => exact issueCmd_keeps _ _ _
  | wait _ => exact issueCmd_keeps _ _ _
  | waitRelease _ => exact lively_keeps (hs.waitRelease _)
  | waitTimeout _ => exact lively_keeps (hs.waitTimeout _)
  | halt _ => exact issueCmd_keeps _ _ _
  | loopTripImm _ => exact issueCmd_keeps _ _ _
  | loopTripReg _ => exact issueCmd_keeps _ _ _
  | loopStep _ => exact issueCmd_keeps _ _ _
  | issueStep _ _ => exact issueCmd_keeps _ _ _
  | issue _ _ => exact issueCmd_keeps _ _ _
  | agStep _ _ => exact issueCmd_keeps _ _ _
  | agReset _ _ => exact issueCmd_keeps _ _ _
  | agSelect _ _ => exact issueCmd_keeps _ _ _
  | flush _ _ => exact issueCmd_keeps _ _ _
  | elementPoppable _ _ => exact lively_keeps (Keeps.ite (hs.elementPoppable _ _) hs)
  | load _ => exact issueCmd_keeps _ _ _
  | mac _ => exact issueCmd_keeps _ _ _
  | macLoad _ => exact issueCmd_keeps _ _ _
  | macInit _ => exact issueCmd_keeps _ _ _
  | macInitLoad _ => exact issueCmd_keeps _ _ _
  | swap _ => exact issueCmd_keeps _ _ _
  | move _ => exact issueCmd_keeps _ _ _
  | add _ => exact issueCmd_keeps _ _ _
  | sub _ => exact issueCmd_keeps _ _ _
  | mul _ => exact issueCmd_keeps _ _ _
  | fma _ => exact issueCmd_keeps _ _ _
  | max _ => exact issueCmd_keeps _ _ _
  | min _ => exact issueCmd_keeps _ _ _
  | abs _ => exact issueCmd_keeps _ _ _
  | neg _ => exact issueCmd_keeps _ _ _
  | recip _ => exact issueCmd_keeps _ _ _
  | rsqrt _ => exact issueCmd_keeps _ _ _
  | exp2 _ => exact issueCmd_keeps _ _ _
  | log2 _ => exact issueCmd_keeps _ _ _
  | rowsum _ => exact issueCmd_keeps _ _ _
  | rowmax _ => exact issueCmd_keeps _ _ _
  | top8 _ => exact issueCmd_keeps _ _ _
  | cmpGt _ => exact issueCmd_keeps _ _ _
  | select _ => exact issueCmd_keeps _ _ _
  | scale _ => exact issueCmd_keeps _ _ _
  | drawmask _ => exact issueCmd_keeps _ _ _
  | pairAdd _ => exact issueCmd_keeps _ _ _
  | pairMul _ => exact issueCmd_keeps _ _ _
  | pairSplit _ => exact issueCmd_keeps _ _ _
  | conv _ => exact issueCmd_keeps _ _ _
  | functionTable _ => exact issueCmd_keeps _ _ _
  | derivativeTable _ => exact issueCmd_keeps _ _ _
  | historyCapture _ => exact issueCmd_keeps _ _ _
  | rdraw _ => exact issueCmd_keeps _ _ _
  | localSignal _ => exact issueCmd_keeps _ _ _
  | remoteSignal _ => exact issueCmd_keeps _ _ _
  | streamStart _ => exact issueCmd_keeps _ _ _
  | streamMemToStore _ => exact lively_keeps (hs.streamBegin _ _)
  | streamStoreToMem _ => exact lively_keeps (hs.streamBegin _ _)
  | streamStoreAtomic _ => exact lively_keeps (hs.streamBegin _ _)
  | streamAccToMem _ => exact lively_keeps (hs.streamBegin _ _)
  | streamAccAtomic _ => exact lively_keeps (hs.streamBegin _ _)
  | streamMemToAcc _ => exact lively_keeps (hs.streamBegin _ _)
  | streamComplete _ _ => exact lively_keeps (hs.streamComplete _ _)
  | accFlagsClear _ _ _ => exact lively_keeps (hs.accFlagsClear _ _ _)
  | commitNow _ => exact lively_keeps (hs.commitNow _)
  | autoRecomputeDone _ => exact lively_keeps (hs.autoRecomputeDone _)
  | reStart _ _ => exact (lively_keeps (hs.reStart _ _) : OutKeeps s (execReStart _ _ s))
  | reSelftest _ => exact lively_keeps (hs.reSelftest _)
  | reSelftestDone _ _ => exact lively_keeps (hs.reSelftestDone _ _)
  | stats _ => exact lively_keeps (hs.reWork _ _)
  | normFwd _ => exact lively_keeps (hs.reWork _ _)
  | normBwd _ => exact lively_keeps (hs.reWork _ _)
  | smaxFwd _ => exact lively_keeps (hs.reWork _ _)
  | smaxBwd _ => exact lively_keeps (hs.reWork _ _)
  | testCmp _ => exact lively_keeps (hs.reWork _ _)
  | reJobDone _ => exact lively_keeps (hs.reJobDone _)
  | seqStartArm _ => exact live_keeps (hs.seqStartArm _)
  | stepStart => exact live_keeps hs.stepStart
  | runStart => exact live_keeps hs.runStart
  | stepCoresHalted => exact live_keeps hs.stepCoresHalted
  | verdictEntry => exact live_keeps hs.verdictEntry
  | commitSlot => exact live_keeps hs.commitSlot
  | lateVerdictAct => exact live_keeps hs.lateVerdictAct
  | seqMark _ _ => exact live_keeps (hs.seqMark _ _)
  | applyStart => exact live_keeps hs.applyStart
  | updGroupDone _ => exact lively_keeps (hs.updGroupDone _)
  | rollbackEnd => exact live_keeps hs.rollbackEnd
  | resume => exact live_keeps hs.resumeApply
  | mcAccess _ => exact lively_keeps (hs.mcAccess _)
  | mcAtomicAdd _ => exact lively_keeps (hs.mcAtomicAdd _)
  | mapLoad => exact live_keeps hs.mapLoad
  | mapLoadEffect => exact live_keeps hs.mapLoadEffect
  | softRepair _ => exact lively_keeps (hs.softRepair _)
  | pcRetire _ => exact lively_keeps (hs.pcRetire _)
  | thermalAction _ => exact lively_keeps (hs.thermalAction _)
  | catastrophicTemperature _ => exact lively_keeps (hs.catastrophicTemperature _)
  | mcTrainDone _ _ => exact lively_keeps (hs.mcTrainDone _ _)
  | farAccess _ => exact lively_keeps (hs.farRequest _)
  | farLinkDown _ => exact lively_keeps (hs.farLinkDown _)
  | farRetrain _ _ => exact lively_keeps (hs.farRetrain _ _)
  | packetHop _ _ _ => exact lively_keeps (hs.packetHop _ _ _)
  | mgmtReq => exact live_keeps hs.mgmtReq
  | ageLimit _ _ => exact lively_keeps (hs.ageLimit _ _)
  | linkLost _ => exact lively_keeps (hs.linkLost _)
  | portDrainDone _ => exact lively_keeps (hs.portDrainDone _)
  | arbWatchdog _ => exact lively_keeps (hs.arbWatchdog _)
  | creditReturn _ _ _ => exact lively_keeps (Keeps.ite (hs.creditReturn _ _ _) hs)
  | bankCommit _ _ => exact lively_keeps (hs.bankCommit _ _)
  | bankDiscard _ => exact lively_keeps (hs.bankDiscard _)
  | bankRetire _ => exact lively_keeps (hs.bankRetire _)
  | sendSwitch => exact live_keeps hs.sendSwitch
  | rcArm _ _ => exact lively_keeps (hs.rcArm _ _)
  | rcAbort _ => exact lively_keeps (hs.rcAbort _)
  | rcActivate _ => exact lively_keeps (hs.rcActivate _)
  | roundClose _ _ => exact lively_keeps (Keeps.ite (hs.roundClose _ _) hs)
  | roundSend _ _ => exact lively_keeps (Keeps.ite (hs.roundSend _ _) hs)
  | roundDone _ _ => exact lively_keeps (Keeps.ite (hs.roundDone _ _) hs)
  | pelotonMemberArrive _ => exact lively_keeps (hs.pelotonMemberArrive _)
  | pelotonMasterRelease _ => exact lively_keeps (hs.pelotonMasterRelease _)
  | pelotonDeadline _ => exact lively_keeps (hs.pelotonDeadline _)
  | caravanFence _ => exact lively_keeps (hs.caravanFence _)
  | caravanPhaseDone _ => exact lively_keeps (hs.caravanPhaseDone _)
  | lcwReceive _ _ _ _ _ _ => exact lively_keeps (hs.lcwReceive _ _ _ _ _ _)
  | steer _ => exact lively_keeps (hs.steer _)
  | laneDeclare _ => exact lively_keeps (hs.laneDeclare _)
  | steerRetry _ => exact lively_keeps (hs.steerRetry _)
  | autoSpare _ => exact lively_keeps (hs.autoSpare _)
  | mon _ _ => exact lively_keeps (hs.upFrame _ _)
  | lmon _ _ => exact lively_keeps (hs.upFrame _ _)
  | regData _ _ => exact lively_keeps (hs.upFrame _ _)
  | alert _ _ => exact lively_keeps (hs.upFrame _ _)
  | sidebandLost _ => exact lively_keeps (hs.sidebandLost _)
  | spareWarmTimeout _ => exact lively_keeps (hs.spareWarmTimeout _)
  | engineDetected _ _ => exact lively_keeps (hs.engineDetected _ _)
  | laserStable _ => exact lively_keeps (hs.laserStable _)
  | txAcqDone _ _ => exact lively_keeps (hs.txAcqDone _ _)
  | rxAcqDone _ _ => exact lively_keeps (hs.rxAcqDone _ _)
  | eqDone _ _ => exact lively_keeps (hs.eqDone _ _)
  | capsAgreed _ _ => exact lively_keeps (hs.capsAgreed _ _)
  | ping _ _ _ => exact lively_keeps (hs.pingIn _ _ _)
  | echo _ _ _ => exact (lively_keeps (hs.echoIn _ _ _) : OutKeeps s (execEcho _ _ _ s))
  | trainPhaseTimeout _ => exact lively_keeps (hs.trainPhaseTimeout _)
  | engineRemoved _ => exact lively_keeps (hs.engineRemoved _)
  | overCurrent _ => exact lively_keeps (hs.overCurrent _)
  | retrain _ => exact lively_keeps (hs.retrain _)
  | optSpare _ _ => exact lively_keeps (Keeps.ite (hs.optCmd _ _ _) hs)
  | optSwap _ => exact lively_keeps (hs.optCmd _ _ _)
  | optRetakeRefs _ => exact lively_keeps (hs.optCmd _ _ _)
  | flow _ _ => exact (frameCmd_keeps _ _ _ _ : OutKeeps s (execFlow _ _ s))
  | write _ _ => exact (frameCmd_keeps _ _ _ _ : OutKeeps s (execWrite _ _ s))
  | read _ _ => exact (frameCmd_keeps _ _ _ _ : OutKeeps s (execRead _ _ s))
  | writeStream _ _ => exact (frameCmd_keeps _ _ _ _ : OutKeeps s (execWriteStream _ _ s))
  | readStream _ _ => exact (frameCmd_keeps _ _ _ _ : OutKeeps s (execReadStream _ _ s))
  | colokSignal _ _ => exact (frameCmd_keeps _ _ _ _ : OutKeeps s (execColokSignal _ _ s))
  | caps _ _ => exact (frameCmd_keeps _ _ _ _ : OutKeeps s (execCaps _ _ s))
  | colokResendTimeout _ => exact lively_keeps (hs.colokResendTimeout _)
  | requestComplete _ _ => exact lively_keeps (hs.requestComplete _ _)
  | colokLinkLost _ => exact lively_keeps (hs.colokLinkLost _)
  | proxyTimeout _ => exact lively_keeps (hs.proxyTimeout _)
  | dwAddrWrite _ _ _ => exact (lively_keeps (Keeps.ite (hs.portWord _ _ _) hs) : OutKeeps s (execDwAddrWrite _ _ _ s))
  | dwDataWrite _ _ _ => exact (lively_keeps (Keeps.ite (hs.portWord _ _ _) hs) : OutKeeps s (execDwDataWrite _ _ _ s))
  | dwDataRead _ _ => exact (lively_keeps (Keeps.ite (hs.portWord _ _ _) hs) : OutKeeps s (execDwDataRead _ _ s))
  | registerWrite _ _ => exact live_keeps (hs.registerWrite _ _)
  | sbWriteTransfer _ _ => exact (sbCmd_keeps (hs.plain.sbWrite _) : OutKeeps s (execSbWriteTransfer _ _ s))
  | sbReadTransfer _ => exact (sbCmd_keeps hs.plain : OutKeeps s (execSbReadTransfer _ s))
  | entdaa _ => exact i3cCmd_keeps fun _ ht => Keeps.ite ht (ht.plain.sbAnswer _)
  | setdasa _ => exact i3cCmd_keeps fun _ ht => Keeps.ite ht ht.plain
  | rstdaa => exact i3cCmd_keeps fun _ ht => ht.plain
  | enec => exact i3cCmd_keeps fun _ ht => ht.plain
  | disec => exact i3cCmd_keeps fun _ ht => ht.plain
  | getpid => exact i3cCmd_keeps fun _ ht => ht.sbAnswer _
  | getbcr => exact i3cCmd_keeps fun _ ht => ht.sbAnswer _
  | getdcr => exact i3cCmd_keeps fun _ ht => ht.sbAnswer _
  | getstatus => exact i3cCmd_keeps fun _ ht => ht.fresh.sbAnswer _
  | getmwl => exact i3cCmd_keeps fun _ ht => ht.sbAnswer _
  | getmrl => exact i3cCmd_keeps fun _ ht => ht.sbAnswer _
  | rstact _ => exact i3cCmd_keeps fun _ ht => ht.plain
  | alertCauseClear _ => exact (sbCmd_keeps (hs.alertClear _) : OutKeeps s (execAlertCauseClear _ s))
  | powerApplied _ => exact next_keeps (hs.powerApplied _)
  | vinWarn _ => exact live_keeps (hs.vinWarn _)
  | inputLoss _ _ => exact next_keeps (hs.inputLoss _ _)
  | inputReturn _ => exact next_keeps (hs.inputReturn _)
  | prsntDebounced => exact (live_keeps hs.plain : OutKeeps s (execPrsntDebounced s))
  | prechargeDone _ => exact live_keeps (hs.prechargeDone _)
  | prechargeTimeout => exact live_keeps hs.prechargeTimeout
  | imageBoot _ => exact live_keeps (hs.imageBoot _)
  | trainDone => exact live_keeps hs.trainDone
  | admitModule => exact live_keeps hs.admitModule
  | retireRequest => exact live_keeps hs.retireRequest
  | retireDrain => exact live_keeps hs.retireDrain
  | dieCritRetire => exact live_keeps hs.dieCritRetire
  | throttleLevel => exact live_keeps hs.throttleLevel
  | moduleReset _ _ => exact live_keeps (hs.moduleReset _ _)
  | computeReset => exact live_keeps hs.computeReset
  | coreReset _ => exact lively_keeps (hs.coreReset _)
  | stackReset _ => exact lively_keeps (hs.stackReset _)
  | portReset _ => exact (lively_keeps ((hs.resetPort _).rstStatus _ _ _) : OutKeeps s (execPortReset _ s))
  | managementReset _ => exact live_keeps (hs.managementReset _)
  | mgmtResume => exact live_keeps hs.mgmtResume
  | restart => exact (live_keeps (hs.powerReset _ _) : OutKeeps s (execRestart s))
  | huMeasure => exact live_keeps hs.huMeasure
  | huMeasureDone _ => exact live_keeps (hs.huMeasureDone _)
  | ledgerCommit => exact live_keeps hs.ledgerCommit
  | ledgerCommitDone => exact next_keeps hs.ledgerCommitDone
  | holdupRefuseTimeout => exact live_keeps hs.holdupRefuseTimeout
  | flashErase _ => exact (lively_keeps (hs.flashCtrl _ _) : OutKeeps s (execFlashErase _ s))
  | flashVerify _ => exact (lively_keeps (hs.flashCtrl _ _) : OutKeeps s (execFlashVerify _ s))
  | armTrial _ => exact (lively_keeps (hs.flashCtrl _ _) : OutKeeps s (execArmTrial _ s))
  | disarm _ => exact (lively_keeps (hs.flashCtrl _ _) : OutKeeps s (execDisarm _ s))
  | flDataWrite _ => exact live_keeps (hs.flDataWrite _)
  | flashOpDone _ => exact live_keeps (hs.flashOpDone _)
  | attest => exact (live_keeps (hs.idStart _) : OutKeeps s (execAttest s))
  | submit => exact (live_keeps (hs.idStart _) : OutKeeps s (execSubmit s))
  | idOpDone => exact live_keeps hs.idOpDone
  | idDataAccess write v =>
    exact (live_keeps (Keeps.ite (hs.idWrite v) hs.idRead) : OutKeeps s (execIdDataAccess write v s))
  | unitEnable _ => exact (lively_keeps (hs.enableUnit _ _) : OutKeeps s (execUnitEnable _ s))
  | unitDrain _ => exact (lively_keeps (hs.drainUnit _) : OutKeeps s (execUnitDrain _ s))
  | unitDrainEnd _ => exact (lively_keeps (hs.endDrain _) : OutKeeps s (execUnitDrainEnd _ s))
  | unitInitDone _ _ => exact lively_keeps (hs.unitInitDone _ _)
  | dither _ => exact lively_keeps (hs.dither _)
  | sample _ => exact lively_keeps (hs.sample _)
  | modrstNRelease => exact next_keeps hs.modrstNRelease
  | softRepairDone _ => exact lively_keeps (hs.softRepairDone _)
  | pktWrite => exact (live_keeps (hs.takeLocal _ _ fun _ _ hs => hs.packetPut _ _ _) : OutKeeps s (execPktWrite s))
  | atomicAdd => exact (live_keeps (hs.takeLocal _ _ fun _ _ hs => hs.packetPut _ _ _) : OutKeeps s (execAtomicAdd s))
  | signal => exact (live_keeps (hs.takeLocal _ _ fun _ _ hs => hs.signalPacket _) : OutKeeps s (execSignal s))
  | redContrib => exact (live_keeps (hs.takeLocal _ _ fun _ _ hs => hs.redDeliver _ _) : OutKeeps s (execRedContrib s))
  | redResult => exact (live_keeps (hs.takeLocal _ _ fun _ _ hs => hs.redDeliver _ _) : OutKeeps s (execRedResult s))
  | pelotonArrive => exact (live_keeps (hs.takeLocal _ _ fun _ _ hs => hs.pelotonPacket _ _) : OutKeeps s (execPelotonArrive s))
  | pelotonRelease => exact (live_keeps (hs.takeLocal _ _ fun _ _ hs => hs.pelotonPacket _ _) : OutKeeps s (execPelotonRelease s))
  | caravan => exact (live_keeps (hs.takeLocal _ _ fun _ _ hs => hs.caravanPacket _ _) : OutKeeps s (execCaravan s))
  | mgmtResp => exact (live_keeps (hs.takeLocal _ _ fun _ _ hs => hs.mgmtBack _) : OutKeeps s (execMgmtResp s))

/-! ## A step -/

/-- A step takes the command at the front from the queue, and keeps the fuses, the rest of the queue and the form of the state. -/
theorem step_keeps {s t : State} (h : step s = .next t) : Keeps true { s with pending := s.pending.tail } t := by
  unfold step at h
  split at h
  next hp =>
    have hs : { s with pending := s.pending.tail } = s := by rw [hp, List.tail_nil, ← hp]
    cases h
    rw [hs]
    exact (Keeps.refl s).plain
  next c rest hp =>
    rw [hp]
    exact exec_keeps c _ t h

/-- Settles O8: a step keeps the form of the register file and of every memory. -/
theorem stepKeepsCanonical : Obligations.StepKeepsCanonical := by
  unfold Obligations.StepKeepsCanonical
  exact fun s t hregs hmems h => ⟨(step_keeps h).regs hregs, (step_keeps h).mems hmems⟩

/-- Settles O9: what software and the sideband read of the grade is read from the fuses, which a step keeps. -/
theorem stepKeepsGrade : Obligations.StepKeepsGrade := by
  unfold Obligations.StepKeepsGrade
  intro s t h
  have hfuse : t.fuse = s.fuse := (step_keeps h).fuse
  have hmask : t.gradeMask = s.gradeMask := by rw [State.gradeMask, State.gradeMask, hfuse]
  have hsite : ∀ n, t.siteEnabled n = s.siteEnabled n := fun n => by rw [State.siteEnabled, State.siteEnabled, hfuse]
  refine ⟨hfuse, hmask, ?_, ?_, ?_, hsite, fun n => ?_⟩
  · rw [State.siteMap0, State.siteMap0, hfuse]
  · rw [State.siteMap1, State.siteMap1, hfuse]
  · rw [State.gradeCode, State.gradeCode, hmask]
  · rw [State.absent, State.absent, hsite, hfuse]

/-- Settles O10: the queue of a step is the rest of the queue before it. -/
theorem commandsRunInOrder : Obligations.CommandsRunInOrder := by
  unfold Obligations.CommandsRunInOrder
  intro s t c rest hp h
  rw [(step_keeps h).pending, hp, List.tail_cons]

/-- Settles O58: a step keeps one entry for each part. -/
theorem stepKeepsShape : Obligations.StepKeepsShape := by
  unfold Obligations.StepKeepsShape
  exact fun s t hshape h => (step_keeps h).parts hshape

end Sys2Proof.Machine

/-! The step itself, register fields, the bytes of memories, and a module without power (R12, R14, R442, R446, R462). -/
namespace Sys2Proof.Machine

/-- Settles O1: it is what a step does with a queue that is not empty. -/
theorem stepRunsFront : Obligations.StepRunsFront := by
  unfold Obligations.StepRunsFront
  intro c rest s hp
  rw [step, hp]

/-- Settles O2: it is what a step does with an empty queue. -/
theorem idleStepIsATick : Obligations.IdleStepIsATick := by
  unfold Obligations.IdleStepIsATick
  intro s hp
  exact ⟨s.tick, by rw [step, hp], rfl, rfl⟩

/-! ## Fields (R12, R14) -/

theorem regsBut_setReg (s : State) (a : Nat) (w : Word) : regsBut [a] s (s.setReg a w) := fun b hb =>
  s.reg_setReg_ne a b w fun h => hb (h ▸ List.mem_singleton_self b)

/-- A saturating counter goes up by one and stays at its largest value. -/
theorem State.get_bump (s : State) (f : Field) (h : f.lo ≤ f.hi) (h2 : f.hi < 64) :
    (s.bump f).get f = if s.get f = f.max then s.get f else s.get f + 1 := by
  have hlt := s.get_lt f
  have hmin : min (s.get f + 1) f.max < 2 ^ (f.hi + 1 - f.lo) := by unfold Field.max; omega
  rw [State.bump, State.add, State.get_set_self _ _ _ h h2, Nat.mod_eq_of_lt hmin]
  unfold Field.max
  split <;> omega

/-- Settles O5, from what a register reads after a write of a field. -/
theorem fieldWrites : Obligations.FieldWrites := by
  unfold Obligations.FieldWrites
  intro s f v hlo hhi
  refine ⟨s.get_set_self f v hlo hhi, regsBut_setReg _ _ _, fun i hi => ?_, sameBytes_setReg _ _ _, s.get_bump f hlo hhi,
    regsBut_setReg _ _ _⟩
  rw [State.set, State.reg_setReg_self, putBits_getLsbD _ _ _ _ _ hlo hhi, if_neg (by omega)]

/-! ## Memories (R12) -/

/-- What a byte reads after a store. -/
theorem Mem.get_store (m : Mem) (a : Nat) (bs : List Byte) (b : Nat) :
    (m.store a bs).get b = if a ≤ b ∧ b < a + bs.length then bs.getD (b - a) 0 else m.get b := by
  induction bs generalizing m a with
  | nil =>
    rw [if_neg (by simp), Mem.store]
  | cons x bs ih =>
    rw [Mem.store, ih, Mem.get_put, List.length_cons]
    by_cases hb : b = a
    · subst hb
      simp
    · by_cases hin : a + 1 ≤ b ∧ b < a + 1 + bs.length
      · rw [if_pos hin, if_pos (by omega), show b - a = b - (a + 1) + 1 by omega, List.getD_cons_succ]
      · rw [if_neg hin, if_neg hb, if_neg (by omega)]

theorem Mem.load_store (m : Mem) (a : Nat) (bs : List Byte) : (m.store a bs).load a bs.length = bs := by
  refine List.ext_getElem (by simp [Mem.load]) fun i hi _ => ?_
  have hlen : i < bs.length := by simpa [Mem.load] using hi
  simp [Mem.load, Mem.get_store, hlen]

/-- Settles O6: a byte in the range of the store reads as stored, any other as before. -/
theorem memoryBytes : Obligations.MemoryBytes := by
  unfold Obligations.MemoryBytes
  refine ⟨fun m a bs => ⟨m.load_store a bs, fun b hb => ?_⟩, fun n v hv => ⟨?_, bytesOf_length n v⟩⟩
  · rw [Mem.get_store, if_neg (by omega)]
  · rw [ofBytes_bytesOf, Nat.mod_eq_of_lt hv]

/-- Settles O7, from the form each operation keeps. -/
theorem memoryOperationsKeepForm : Obligations.MemoryOperationsKeepForm := by
  unfold Obligations.MemoryOperationsKeepForm
  exact fun m h => ⟨fun a b => m.wf_put a b h, fun a bs => m.wf_store a bs h, fun lo n => m.wf_zero lo n h, m.wf_lose,
    fun n => m.wf_loseStack n h⟩

/-! ## Without power (R442, R446, R462) -/

/-- What a command leaves of a module without power where it leaves a next state. -/
def OutRests (s : State) (o : Out) : Prop := ¬ s.powered → ∀ t, o = .next t → t = s

theorem live_rests (s : State) (f : State → State) : OutRests s (live s f) := fun hs t h => by
  have hoff : ¬ (s.pwr.rails && !s.pwr.modrst) = true := by simpa [State.powered] using hs
  rw [live, if_neg hoff] at h
  cases h
  rfl

theorem lively_rests (s : State) (n m : Nat) (f : State → State) : OutRests s (lively s n m f) := live_rests s _
theorem issueCmd_rests (n : Nat) (sel : Bool → Nat → Bool) (s : State) : OutRests s (issueCmd n sel s) := live_rests s _
theorem frameCmd_rests (n : Nat) (f : Frame) (ops : Nat → Bool) (s : State) : OutRests s (frameCmd n f ops s) := live_rests s _
theorem sbCmd_rests (s : State) (f : State → State) : OutRests s (sbCmd s f) := live_rests s _

/-- The commands of the power input, the commit that the controllers finish, and the release of the pin. -/
def needsNoPower : Instr → Bool
  | .powerApplied _ | .inputLoss _ _ | .inputReturn _ | .ledgerCommitDone | .modrstNRelease => true
  | _ => false

theorem exec_rests (c : Instr) (s : State) (hc : needsNoPower c = false) : OutRests s (exec c s) := by
  cases c with
  | powerApplied _ | inputLoss _ _ | inputReturn _ | ledgerCommitDone | modrstNRelease => exact absurd hc (by simp [needsNoPower])
  | epochMark _ | slotBoundary | epochPulse | cadrefLost | cadrefRegained _ | beaconSourceTimeout _ | freeRunLimit | cadLoad _
  | mgmtTakeover | peakAssert _ | peakRelease _ | seqStartArm _ | stepStart | runStart | stepCoresHalted | verdictEntry | commitSlot
  | lateVerdictAct | seqMark _ _ | applyStart | rollbackEnd | resume | mapLoad | mapLoadEffect | mgmtReq | sendSwitch
  | registerWrite _ _ | vinWarn _ | prechargeDone _ | prechargeTimeout | imageBoot _ | trainDone | admitModule | retireRequest
  | retireDrain | dieCritRetire | throttleLevel | moduleReset _ _ | computeReset | managementReset _ | mgmtResume | huMeasure
  | huMeasureDone _ | ledgerCommit | holdupRefuseTimeout | flDataWrite _ | flashOpDone _ | idOpDone => exact live_rests _ _
  | faultRecordWrite _ | coreRun _ | coreStop _ | coreStopped _ | coreHalted _ | coreFreeze _ | next _ _ | waitRelease _ | waitTimeout _
  | elementPoppable _ _ | streamMemToStore _ | streamStoreToMem _ | streamStoreAtomic _ | streamAccToMem _ | streamAccAtomic _
  | streamMemToAcc _ | streamComplete _ _ | accFlagsClear _ _ _ | commitNow _ | autoRecomputeDone _ | reSelftest _ | reSelftestDone _ _
  | stats _ | normFwd _ | normBwd _ | smaxFwd _ | smaxBwd _ | testCmp _ | reJobDone _ | updGroupDone _ | mcAccess _ | mcAtomicAdd _
  | softRepair _ | pcRetire _ | thermalAction _ | catastrophicTemperature _ | mcTrainDone _ _ | farAccess _ | farLinkDown _
  | farRetrain _ _ | packetHop _ _ _ | ageLimit _ _ | linkLost _ | portDrainDone _ | arbWatchdog _ | creditReturn _ _ _ | bankCommit _ _
  | bankDiscard _ | bankRetire _ | rcArm _ _ | rcAbort _ | rcActivate _ | roundClose _ _ | roundSend _ _ | roundDone _ _
  | pelotonMemberArrive _ | pelotonMasterRelease _ | pelotonDeadline _ | caravanFence _ | caravanPhaseDone _ | lcwReceive _ _ _ _ _ _
  | steer _ | laneDeclare _ | steerRetry _ | autoSpare _ | mon _ _ | lmon _ _ | regData _ _ | alert _ _ | sidebandLost _
  | spareWarmTimeout _ | engineDetected _ _ | laserStable _ | txAcqDone _ _ | rxAcqDone _ _ | eqDone _ _ | capsAgreed _ _ | ping _ _ _
  | trainPhaseTimeout _ | engineRemoved _ | overCurrent _ | retrain _ | optSpare _ _ | optSwap _ | optRetakeRefs _
  | colokResendTimeout _ | requestComplete _ _ | colokLinkLost _ | proxyTimeout _ | coreReset _ | stackReset _ | unitInitDone _ _
  | dither _ | sample _ | softRepairDone _ => exact lively_rests _ _ _ _
  | loopOpen _ | loopClose _ | wait _ | halt _ | loopTripImm _ | loopTripReg _ | loopStep _ | issueStep _ _ | issue _ _ | agStep _ _
  | agReset _ _ | agSelect _ _ | flush _ _ | load _ | mac _ | macLoad _ | macInit _ | macInitLoad _ | swap _ | move _ | add _ | sub _
  | mul _ | fma _ | max _ | min _ | abs _ | neg _ | recip _ | rsqrt _ | exp2 _ | log2 _ | rowsum _ | rowmax _ | top8 _ | cmpGt _
  | select _ | scale _ | drawmask _ | pairAdd _ | pairMul _ | pairSplit _ | conv _ | functionTable _ | derivativeTable _
  | historyCapture _ | rdraw _ | localSignal _ | remoteSignal _ | streamStart _ => exact issueCmd_rests _ _ _
  | entdaa _ | setdasa _ | rstdaa | enec | disec | getpid | getbcr | getdcr | getstatus | getmwl | getmrl | rstact _ => exact live_rests _ _
  | stagedPairArm _ _ _ => exact (lively_rests _ _ _ _ : OutRests s (execStagedPairArm _ _ _ s))
  | reStart _ _ => exact (lively_rests _ _ _ _ : OutRests s (execReStart _ _ s))
  | echo _ _ _ => exact (lively_rests _ _ _ _ : OutRests s (execEcho _ _ _ s))
  | flow _ _ => exact (frameCmd_rests _ _ _ _ : OutRests s (execFlow _ _ s))
  | write _ _ => exact (frameCmd_rests _ _ _ _ : OutRests s (execWrite _ _ s))
  | read _ _ => exact (frameCmd_rests _ _ _ _ : OutRests s (execRead _ _ s))
  | writeStream _ _ => exact (frameCmd_rests _ _ _ _ : OutRests s (execWriteStream _ _ s))
  | readStream _ _ => exact (frameCmd_rests _ _ _ _ : OutRests s (execReadStream _ _ s))
  | colokSignal _ _ => exact (frameCmd_rests _ _ _ _ : OutRests s (execColokSignal _ _ s))
  | caps _ _ => exact (frameCmd_rests _ _ _ _ : OutRests s (execCaps _ _ s))
  | dwAddrWrite _ _ _ => exact (lively_rests _ _ _ _ : OutRests s (execDwAddrWrite _ _ _ s))
  | dwDataWrite _ _ _ => exact (lively_rests _ _ _ _ : OutRests s (execDwDataWrite _ _ _ s))
  | dwDataRead _ _ => exact (lively_rests _ _ _ _ : OutRests s (execDwDataRead _ _ s))
  | sbWriteTransfer _ _ => exact (sbCmd_rests _ _ : OutRests s (execSbWriteTransfer _ _ s))
  | sbReadTransfer _ => exact (sbCmd_rests _ _ : OutRests s (execSbReadTransfer _ s))
  | alertCauseClear _ => exact (sbCmd_rests _ _ : OutRests s (execAlertCauseClear _ s))
  | prsntDebounced => exact (live_rests _ _ : OutRests s (execPrsntDebounced s))
  | portReset _ => exact (lively_rests _ _ _ _ : OutRests s (execPortReset _ s))
  | restart => exact (live_rests _ _ : OutRests s (execRestart s))
  | flashErase _ => exact (lively_rests _ _ _ _ : OutRests s (execFlashErase _ s))
  | flashVerify _ => exact (lively_rests _ _ _ _ : OutRests s (execFlashVerify _ s))
  | armTrial _ => exact (lively_rests _ _ _ _ : OutRests s (execArmTrial _ s))
  | disarm _ => exact (lively_rests _ _ _ _ : OutRests s (execDisarm _ s))
  | attest => exact (live_rests _ _ : OutRests s (execAttest s))
  | submit => exact (live_rests _ _ : OutRests s (execSubmit s))
  | idDataAccess _ _ => exact (live_rests _ _ : OutRests s (execIdDataAccess _ _ s))
  | unitEnable _ => exact (lively_rests _ _ _ _ : OutRests s (execUnitEnable _ s))
  | unitDrain _ => exact (lively_rests _ _ _ _ : OutRests s (execUnitDrain _ s))
  | unitDrainEnd _ => exact (lively_rests _ _ _ _ : OutRests s (execUnitDrainEnd _ s))
  | pktWrite => exact (live_rests _ _ : OutRests s (execPktWrite s))
  | atomicAdd => exact (live_rests _ _ : OutRests s (execAtomicAdd s))
  | signal => exact (live_rests _ _ : OutRests s (execSignal s))
  | redContrib => exact (live_rests _ _ : OutRests s (execRedContrib s))
  | redResult => exact (live_rests _ _ : OutRests s (execRedResult s))
  | pelotonArrive => exact (live_rests _ _ : OutRests s (execPelotonArrive s))
  | pelotonRelease => exact (live_rests _ _ : OutRests s (execPelotonRelease s))
  | caravan => exact (live_rests _ _ : OutRests s (execCaravan s))
  | mgmtResp => exact (live_rests _ _ : OutRests s (execMgmtResp s))

/-- Settles O4: any other command is let through only by the rails and the pin together. -/
theorem unpoweredModuleRests : Obligations.UnpoweredModuleRests := by
  unfold Obligations.UnpoweredModuleRests
  intro c s t hs h
  by_cases hc : needsNoPower c = false
  · exact .inl (exec_rests c s hc hs t h)
  · cases c <;> simp_all [needsNoPower]

end Sys2Proof.Machine

/-! Staged pairs (R71) and the I3C commands of the sideband (R421). -/
namespace Sys2Proof.Machine

/-! ## Staged pairs (R71) -/

theorem mapFind_put_self {α : Type} [DecidableEq α] (l : List (Nat × α)) (a : Nat) (v d : α) :
    mapFind (mapPut l a v d) a = if v = d then none else some v := by
  have herase : mapFind (mapErase l a) a = none := by rw [mapFind_erase, if_pos rfl]
  unfold mapPut
  split
  · exact herase
  · rw [mapFind_insert _ _ _ _ herase, if_pos rfl]

/-- The word of a staged pair after it has been armed for a slot. -/
def armedWord (w : Word) (slot : Nat) (late : Prop) [Decidable late] : Word :=
  let w1 := putBits (putBits w 55 0 slot) 63 63 1
  if late then putBits w1 62 56 (min (bits w 62 56 + 1) 127) else w1

theorem bits_armedWord (w : Word) (slot : Nat) (late : Prop) [Decidable late] (hslot : slot < 2 ^ 56) :
    bits (armedWord w slot late) 63 63 = 1 ∧ bits (armedWord w slot late) 55 0 = slot
      ∧ bits (armedWord w slot late) 62 56 = if late then min (bits w 62 56 + 1) 127 else bits w 62 56 := by
  have hcount : min (bits w 62 56 + 1) 127 % 128 = min (bits w 62 56 + 1) 127 := Nat.mod_eq_of_lt (by omega)
  by_cases h : late
  · simp [armedWord, h, bits_putBits_self, bits_putBits_disjoint, hcount]
    omega
  · simp [armedWord, h, bits_putBits_self, bits_putBits_disjoint]
    omega

theorem State.armStaged_reg (s : State) (act slot a : Nat) :
    (s.armStaged act slot true).reg a = if a = act then armedWord (s.reg act) slot (slot < s.slot + 2) else s.reg a := by
  have h : (s.armStaged act slot true).reg a = (s.setReg act (armedWord (s.reg act) slot (true = true ∧ slot < s.slot + 2))).reg a := rfl
  rw [h, State.reg_setReg]
  simp only [true_and]

theorem State.armStaged_staged (s : State) (act slot : Nat) :
    (s.armStaged act slot true).staged = mapPut s.staged act (if slot < s.slot + 2 then s.slot + 2 else slot) 0 := by
  simp only [State.armStaged, State.setReg_staged, if_true, true_and]

/-- Settles O13, from the word of the pair and the slot under which it is held. -/
theorem stagedPairs : Obligations.StagedPairs := by
  unfold Obligations.StagedPairs
  intro s p i slot ⟨hrails, hpin⟩ hi hslot
  have hcount : p.insts = pairCount p := by cases p <;> rfl
  refine ⟨_, (lively_powered s i _ _ (hcount ▸ hi) hrails hpin : execStagedPairArm p i slot s = _), ?_⟩
  generalize actReg p i = a
  obtain ⟨harmed, hact, hlate⟩ := bits_armedWord (s.reg a) slot (slot < s.slot + 2) hslot
  have hword : (s.armStaged a slot true).reg a = armedWord (s.reg a) slot (slot < s.slot + 2) := by
    rw [State.armStaged_reg, if_pos rfl]
  refine ⟨hword ▸ harmed, hword ▸ hact, ?_, hword ▸ hlate, fun b hb => ?_, ?_⟩
  · rw [State.armStaged_staged, mapFind_put_self]
    by_cases hl : slot < s.slot + 2
    · rw [if_pos hl, if_pos hl, if_neg (by omega)]
    · rw [if_neg hl, if_neg hl]
  · rw [State.armStaged_reg, if_neg (by simpa using hb)]
  · exact sameBytes_setReg s a 0

/-! ## The I3C commands (R421) -/

theorem i3cCmd_onBus (s : State) (f : State → State) (h : s.onBus) : i3cCmd s f = .next (f { s with sb := { s.sb with i3c := true } }) := by
  obtain ⟨⟨hrails, hpin⟩, hstate, hreset⟩ := h
  have hserved : s.sbServed = true := by
    simp only [State.sbServed, hreset, Bool.not_false, Bool.and_true, decide_eq_true_eq]
    exact hstate
  rw [i3cCmd, sbCmd, live_powered _ _ hrails hpin, if_pos hserved]

/-- Settles O16: each command is what it does on a bus switched to I3C. -/
theorem sidebandCommands : Obligations.SidebandCommands := by
  unfold Obligations.SidebandCommands
  intro s h
  refine ⟨fun a ha => ?entdaa, fun a ha => ?setdasa, (i3cCmd_onBus s _ h : execRstdaa s = _), (i3cCmd_onBus s _ h : execEnec s = _),
    (i3cCmd_onBus s _ h : execDisec s = _), (i3cCmd_onBus s _ h : execGetpid s = _), (i3cCmd_onBus s _ h : execGetbcr s = _),
    (i3cCmd_onBus s _ h : execGetdcr s = _), (i3cCmd_onBus s _ h : execGetmwl s = _), (i3cCmd_onBus s _ h : execGetmrl s = _),
    ⟨_, _, (i3cCmd_onBus s _ h : execGetstatus s = _)⟩, fun a => (i3cCmd_onBus s _ h : execRstact a s = _)⟩
  case entdaa =>
    change execEntdaa a s = _
    rw [execEntdaa, i3cCmd_onBus s _ h, if_neg (by simp [ha])]
    rfl
  case setdasa =>
    change execSetdasa a s = _
    rw [execSetdasa, i3cCmd_onBus s _ h, if_neg (by simp [ha])]
end Sys2Proof.Machine

/-! An advance of an address generator (R83). -/
namespace Sys2Proof.Machine

/-! ## The address generators' counts (R83) -/

theorem getD_set_eq {α : Type} (l : List α) (k j : Nat) (v d : α) (hk : k < l.length) :
    (l.set k v).getD j d = if j = k then v else l.getD j d := by
  by_cases h : j = k
  · subst h
    simp [hk]
  · simp [h, List.getElem?_set_ne (Ne.symm h)]

/-- What is left of the indices by an advance at level k: those of lower levels as they were, none beyond its count, and only level 5 may
have reached it. -/
theorem agCarry_bounds (count : Nat → Nat) (fuel k : Nat) (idx : List Nat) (hlen : idx.length = 6) (hk : k < 6) (hfuel : 6 ≤ k + fuel)
    (hidx : ∀ j < 6, idx.getD j 0 < count j) :
    (agCarry count fuel k idx).length = 6
      ∧ (∀ j < 6, (agCarry count fuel k idx).getD j 0 < count j ∨ j = 5 ∧ (agCarry count fuel k idx).getD 5 0 = count 5)
      ∧ ∀ j < k, (agCarry count fuel k idx).getD j 0 = idx.getD j 0 := by
  induction fuel generalizing k idx with
  | zero => omega
  | succ fuel ih =>
    have hset : ∀ v j, (idx.set k v).getD j 0 = if j = k then v else idx.getD j 0 := fun v j => getD_set_eq _ _ _ _ _ (by omega)
    have hlow : ∀ v, ∀ j < k, (idx.set k v).getD j 0 = idx.getD j 0 := fun v j hj => by rw [hset, if_neg (by omega)]
    have hcount := hidx k hk
    unfold agCarry
    dsimp only
    split
    next h =>
      refine ⟨by simpa using hlen, fun j hj => ?_, hlow _⟩
      by_cases hj' : j = k
      · subst hj'
        rw [hset, if_pos rfl]
        rcases h with h | h
        · exact .inl h
        · subst h
          rw [hset, if_pos rfl]
          omega
      · rw [hset, if_neg hj']
        exact .inl (hidx j hj)
    next h =>
      obtain ⟨hl, hb, he⟩ := ih (k + 1) (idx.set k 0) (by simpa using hlen) (by omega) (by omega) fun j hj => by
        rw [hset]
        split
        next hj' => subst hj'; omega
        next => exact hidx j hj
      exact ⟨hl, hb, fun j hj => (he j (by omega)).trans (hlow 0 j hj)⟩

/-- The indices an advance at level l starts from: those of lower levels cleared. -/
theorem getD_cleared (l : Nat) (idx : List Nat) (hlen : idx.length = 6) (k : Nat) :
    ((List.range 6).map fun k => if k < l then 0 else idx.getD k 0).getD k 0 = if k < l then 0 else idx.getD k 0 := by
  by_cases hk : k < 6
  · simp [hk]
  · rw [List.getD_eq_default _ _ (by simp; omega), List.getD_eq_default _ _ (by omega), ite_self]

/-- Level 5 wraps; no other level is changed by it. -/
theorem getD_wrapped (r : List Nat) (n k : Nat) (hlen : r.length = 6) (hk : k ≠ 5) :
    (if r.getD 5 0 = n then r.set 5 0 else r).getD k 0 = r.getD k 0 := by
  split
  · rw [getD_set_eq _ _ _ _ _ (by omega), if_neg hk]
  · rfl

/-- Settles O29: the bounds hold for every level, and a level that is not full takes one step of the carry. -/
theorem advanceCounts : Obligations.AdvanceCounts := by
  unfold Obligations.AdvanceCounts
  intro count l idx hlen hl hidx
  unfold agAdvance
  extract_lets +onlyGivenNames z r
  have hz : ∀ k, z.getD k 0 = if k < l then 0 else idx.getD k 0 := getD_cleared l idx hlen
  have hzlen : z.length = 6 := by simp [z]
  have hzl : z.getD l 0 = idx.getD l 0 := by rw [hz, if_neg (by omega)]
  have hzlt : ∀ j < 6, z.getD j 0 < count j := fun j hj => by
    have := hidx j hj
    rw [hz]
    split <;> omega
  clear_value z
  have hset : ∀ (y : List Nat) k v j, y.length = 6 → k < 6 → (y.set k v).getD j 0 = if j = k then v else y.getD j 0 :=
    fun y k v j hy hk => getD_set_eq _ _ _ _ _ (by omega)
  obtain ⟨hrlen, hrb, hrlow⟩ : r.length = 6 ∧ (∀ j < 6, r.getD j 0 < count j ∨ j = 5 ∧ r.getD 5 0 = count 5)
    ∧ ∀ j < l, r.getD j 0 = z.getD j 0 := agCarry_bounds count 6 l z hzlen hl (by omega) hzlt
  have hwrap := fun k (hk : k ≠ 5) => getD_wrapped r (count 5) k hrlen hk
  have hplain : ∀ k < 6, r.getD k 0 < count k → (if r.getD 5 0 = count 5 then r.set 5 0 else r).getD k 0 = r.getD k 0 := fun k hk hlt => by
    by_cases hk5 : k = 5
    · subst hk5
      rw [if_neg (by omega)]
    · exact hwrap k hk5
  have h5 : 0 < count 5 := Nat.zero_lt_of_lt (hidx 5 (by omega))
  refine ⟨?len, fun k hk => ?bound, fun k hk => ?low, fun h => ?room, fun h => ⟨?full, fun hl5 hnext => ?next⟩⟩
  case len =>
    split
    · rw [List.length_set, hrlen]
    · exact hrlen
  case bound =>
    rcases hrb k hk with h | ⟨rfl, h⟩
    · rwa [hplain k hk h]
    · rwa [if_pos h, hset _ _ _ _ hrlen hk, if_pos rfl]
  case low => rw [hwrap k (by omega), hrlow k hk, hz, if_pos hk]
  case room =>
    have hr : r = z.set l (z.getD l 0 + 1) := by
      have : z.getD l 0 + 1 < count l ∨ l = 5 := .inl (hzl ▸ h)
      simp only [r, agCarry, if_pos this]
    have hrl : r.getD l 0 = idx.getD l 0 + 1 := by rw [hr, hset _ _ _ _ hzlen hl, if_pos rfl, hzl]
    refine ⟨by rw [hplain l hl (by omega), hrl], fun k hlk hk => ?_⟩
    have hrk : r.getD k 0 = idx.getD k 0 := by rw [hr, hset _ _ _ _ hzlen hl, if_neg (by omega), hz, if_neg (by omega)]
    rw [hplain k hk (by rw [hrk]; exact hidx k hk), hrk]
  case full =>
    by_cases hl5 : l = 5
    · have hr : r = z.set 5 (count 5) := by
        subst hl5
        simp only [r, agCarry, or_true, if_true, hzl, h]
      rw [if_pos (by rw [hr, hset _ _ _ _ hzlen (by omega), if_pos rfl]), hl5, hset _ _ _ _ hrlen (by omega), if_pos rfl]
    · have hr : r = agCarry count 5 (l + 1) (z.set l 0) := by
        have : ¬ (z.getD l 0 + 1 < count l ∨ l = 5) := by omega
        simp only [r, agCarry.eq_def count 6, if_neg this]
      obtain ⟨-, -, hlow⟩ := agCarry_bounds count 5 (l + 1) (z.set l 0) (by simpa using hzlen) (by omega) (by omega) fun j hj => by
        rw [hset _ _ _ _ hzlen hl]
        split
        next hj' => subst hj'; omega
        next => exact hzlt j hj
      rw [hwrap l hl5, hr, hlow l (by omega), hset _ _ _ _ hzlen hl, if_pos rfl]
  case next =>
    have hr : r = (z.set l 0).set (l + 1) ((z.set l 0).getD (l + 1) 0 + 1) := by
      have hfull : ¬ (z.getD l 0 + 1 < count l ∨ l = 5) := by omega
      have hroom : (z.set l 0).getD (l + 1) 0 + 1 < count (l + 1) ∨ l + 1 = 5 := by
        rw [hset _ _ _ _ hzlen hl, if_neg (by omega), hz, if_neg (by omega)]
        exact .inl hnext
      simp only [r, agCarry.eq_def count 6, if_neg hfull, agCarry.eq_def count 5, if_pos hroom]
    have hrl : r.getD (l + 1) 0 = idx.getD (l + 1) 0 + 1 := by
      rw [hr, hset _ _ _ _ (by simpa using hzlen) (by omega), if_pos rfl, hset _ _ _ _ hzlen hl, if_neg (by omega), hz, if_neg (by omega)]
    rw [hplain _ (by omega) (by omega), hrl]

end Sys2Proof.Machine

/-! The state after a MODULE reset. -/
namespace Sys2Proof.Machine

/-- Settles O59: the state after a MODULE reset has no variables, so each part of it is read off. -/
theorem resetState : Obligations.ResetState := by
  unfold Obligations.ResetState
  have hshape : State.reset.shaped := ⟨rfl, rfl, rfl, rfl, rfl, rfl, rfl, rfl, rfl, rfl⟩
  refine ⟨hshape, rfl, rfl, rfl, ⟨rfl, rfl⟩, ?_⟩
  decide +kernel

end Sys2Proof.Machine

/-! What an operation on registers leaves of the module, and the cadence's commands (R51, R56 to R58). -/
namespace Sys2Proof.Machine

/-! ## Registers that read as before -/

/-- A register reads as before where nothing its value comes from has changed. -/
theorem State.reg_congr {s t : State} (a : Nat) (hregs : t.regs = s.regs) (hboot : t.boot.settings = s.boot.settings) (hfuse : t.fuse = s.fuse)
    (hgen : t.undefGen = s.undefGen) : t.reg a = s.reg a := by
  have hgrade : t.gradeCode = s.gradeCode := by rw [State.gradeCode, State.gradeCode, State.gradeMask, State.gradeMask, hfuse]
  have himage : ∀ r, imageValue t a r = imageValue s a r := fun r => by rw [imageValue, imageValue, hboot, hgrade]
  simp only [State.reg, hregs, regDefault, himage, hgen]

/-- What an operation on registers leaves of the module, from state `o` on: the registers outside a list, and every memory. -/
structure Frame (l : List Nat) (o s : State) : Prop where
  regs : regsBut l o s
  near : s.near = o.near
  far : s.far = o.far
  stage : s.stage = o.stage
  side : s.side = o.side
  core : s.core = o.core
  flashA : s.flashA = o.flashA
  flashB : s.flashB = o.flashB

namespace Frame

theorem refl (l : List Nat) (s : State) : Frame l s s := ⟨regsBut_refl l s, rfl, rfl, rfl, rfl, rfl, rfl, rfl⟩

theorem bytes {l : List Nat} {o s : State} (h : Frame l o s) : sameBytes o s := by
  simp [sameBytes, h.near, h.far, h.stage, h.side, h.core, h.flashA, h.flashB]

theorem ite {l : List Nat} {o s t : State} {c : Prop} [Decidable c] (hs : Frame l o s) (ht : Frame l o t) :
    Frame l o (if c then s else t) := by
  split
  · exact hs
  · exact ht

section
variable {l : List Nat} {o s : State} (hs : Frame l o s)
include hs

theorem setReg (a : Nat) (w : Word) (ha : a ∈ l := by exact .head _) : Frame l o (s.setReg a w) :=
  { hs with regs := fun b hb => (s.reg_setReg_ne a b w fun e => hb (e ▸ ha)).trans (hs.regs b hb) }

theorem set (f : Field) (v : Nat) (ha : f.addr ∈ l := by exact .head _) : Frame l o (s.set f v) := hs.setReg _ _ (by exact ha)
theorem add (f : Field) (n : Nat) (ha : f.addr ∈ l := by exact .head _) : Frame l o (s.add f n) := hs.set _ _ (by exact ha)
theorem bump (f : Field) (ha : f.addr ∈ l := by exact .head _) : Frame l o (s.bump f) := hs.add _ _ (by exact ha)
theorem wrapAdd (f : Field) (n : Nat) (ha : f.addr ∈ l := by exact .head _) : Frame l o (s.wrapAdd f n) := hs.set _ _ (by exact ha)

/-- Updates of other parts of the module. -/
theorem plain {cad : Cadence} {mgmt : Mgmt} {colok : List ColokPort} {sb : Sideband} {pwr : Power} {led : Ledger}
    {staged drains : List (Nat × Nat)} {cores : List Core} {rt : Router} {map : MapState} {mc : List MemCtl} {ctx : List Ctx} {seq : Seq}
    {upd : List Upd} {re : List RowEng} {opt : List Optic} {freeCtr : Nat} {sent : List Egress} {pending : List Instr} :
    Frame l o { s with
      cad := cad, mgmt := mgmt, colok := colok, sb := sb, pwr := pwr, led := led, staged := staged, drains := drains, cores := cores
      rt := rt, map := map, mc := mc, ctx := ctx, seq := seq, upd := upd, re := re, opt := opt, freeCtr := freeCtr, sent := sent
      pending := pending } :=
  { hs with regs := fun a ha => (State.reg_congr a rfl rfl rfl rfl).trans (hs.regs a ha) }

end
end Frame

/-! ## The cadence (R51, R56 to R58) -/

theorem Frame.alignCheck {l : List Nat} {o s : State} (hs : Frame l o s) (hl : A.CAD_STATUS ∈ l) : Frame l o s.alignCheck :=
  (hs.plain.ite (hs.plain.set _ _ (by exact hl))).ite hs

theorem Frame.regain {l : List Nat} {o s : State} (hs : Frame l o s) (hl : A.CAD_STATUS ∈ l) : Frame l o s.regain :=
  hs.plain.ite (hs.alignCheck hl)


theorem State.get_congr {s t : State} (f : Field) (h : t.reg f.addr = s.reg f.addr) : t.get f = s.get f := by rw [State.get, State.get, h]

/-- What the check of ALIGNED leaves. -/
theorem State.alignCheck_get (s : State) (f : Field) (hf : f.hi < 2 ∨ 2 < f.lo) : s.alignCheck.get f = s.get f := by
  unfold State.alignCheck
  dsimp only
  split_ifs
  · rfl
  · exact State.get_set_disjoint _ F.CAD_STATUS_ALIGNED f 1 (by decide) (by decide) hf
  · rfl

theorem State.alignCheck_offset (s : State) : s.alignCheck.cad.offset = s.cad.offset ∧ s.alignCheck.cad.refPresent = s.cad.refPresent := by
  unfold State.alignCheck
  dsimp only
  split_ifs <;> exact ⟨rfl, rfl⟩

theorem State.regain_get (s : State) (f : Field) (hf : f.hi < 2 ∨ 2 < f.lo) : s.regain.get f = s.get f := by
  unfold State.regain
  split
  · rfl
  · exact s.alignCheck_get f hf

theorem State.regain_offset (s : State) : s.regain.cad.offset = s.cad.offset ∧ s.regain.cad.refPresent = s.cad.refPresent := by
  unfold State.regain
  split
  · exact ⟨rfl, rfl⟩
  · exact s.alignCheck_offset

/-- What the module takes CADREF as its source with (R56). -/
theorem State.enterRef_effect (s : State) (d : Int) : (s.enterRef d).get F.CAD_STATUS_SYNC = 1 ∧ (s.enterRef d).get F.CAD_STATUS_HOPS = 0
    ∧ (s.enterRef d).cad.offset = d ∧ (s.enterRef d).cad.refPresent = s.cad.refPresent ∧ Frame [A.CAD_STATUS] s (s.enterRef d) := by
  unfold State.enterRef
  extract_lets +onlyGivenNames s1
  have hframe : Frame [A.CAD_STATUS] s s1 := (((Frame.refl _ s).set _ _).set _ _).set _ _
  refine ⟨?_, ?_, (State.regain_offset _).1, (State.regain_offset _).2, hframe.plain.regain (.head _)⟩
  · rw [State.regain_get _ _ (by decide), State.get_with_cad]
    simp (disch := decide) only [s1, State.get_set_disjoint, State.get_set_self]
    rfl
  · rw [State.regain_get _ _ (by decide), State.get_with_cad]
    simp (disch := decide) only [s1, State.get_set_disjoint, State.get_set_self]
    rfl

theorem State.get_set_lt (s : State) (f : Field) (v : Nat) (h : f.lo ≤ f.hi) (h2 : f.hi < 64) (hv : v < 2 ^ (f.hi + 1 - f.lo)) :
    (s.set f v).get f = v := by
  rw [State.get_set_self _ _ _ h h2, Nat.mod_eq_of_lt hv]

/-- EPOCH_PULSE that loads the count (R51). -/
theorem epochPulse_load (s : State) (e : Nat) (hsync : s.get F.CAD_STATUS_SYNC = 0) (hen : s.get F.CAD_CTRL_REF_EN = 1)
    (hload : s.cad.loadPending = some e) :
    (epochPulse s).now = e * 50000 % 2 ^ 64 ∧ (epochPulse s).get F.CAD_STATUS_SYNC = 1 ∧ (epochPulse s).get F.CAD_STATUS_HOPS = 0
      ∧ (epochPulse s).get F.CAD_STATUS_ALIGNED = 1 ∧ (epochPulse s).cad.loadPending = none ∧ Frame [A.CAD_STATUS] s (epochPulse s) := by
  have hhere : ∀ f, s.refHere.get f = s.get f := fun f => by
    unfold State.refHere
    split <;> rfl
  have hframe : Frame [A.CAD_STATUS] s s.refHere := (Frame.refl _ s).ite (Frame.refl _ s).plain
  have hpend : s.refHere.cad.loadPending = some e := by
    unfold State.refHere
    split <;> exact hload
  have hcond : s.refHere.sync = syUnset ∧ s.refHere.on F.CAD_CTRL_REF_EN = true :=
    ⟨(hhere _).trans hsync, (State.on_iff_eq_one _ _ rfl).mpr ((hhere _).trans hen)⟩
  unfold epochPulse
  dsimp only
  rw [if_pos hcond, hpend]
  refine ⟨rfl, ?_, ?_, ?_, rfl, ((((hframe.plain : Frame _ s (s.refHere.setCount (e * 50000))).set _ _).set _ _).set _ _).plain⟩
  all_goals simp (disch := decide) only [State.get_with_cad, State.get_set_disjoint, State.get_set_lt, syRef]

/-- EPOCH_PULSE off the mark, in REF (R51). -/
theorem epochPulse_off (s : State) (hsync : s.get F.CAD_STATUS_SYNC = 1) (hoff : s.now % 50000 ≠ 0) (hfew : s.cad.pulsesOff < 2)
    (hgood : s.cad.badPulses = false) :
    (epochPulse s).now = s.now ∧ (epochPulse s).cad.pulsesOff = s.cad.pulsesOff + 1
      ∧ (∀ a, (epochPulse s).reg a = (s.bump F.CAD_ERR_EPOCH_MISMATCH).reg a) ∧ sameBytes s (epochPulse s) := by
  obtain ⟨c, hc, hnow, hpo, hbp⟩ : ∃ c, s.refHere = { s with cad := c } ∧ c.count = s.now ∧ c.pulsesOff = s.cad.pulsesOff
      ∧ c.badPulses = false := by
    unfold State.refHere
    split
    · exact ⟨s.cad, rfl, rfl, rfl, hgood⟩
    · exact ⟨_, rfl, rfl, rfl, hgood⟩
  have hsync' : ({ s with cad := c } : State).sync = syRef := hsync
  have hon : (({ s with cad := c } : State).now % 50000 == 0) = false := by simpa [hnow] using hoff
  unfold epochPulse
  dsimp only
  rw [hc, hsync', if_neg (by simp [syRef, syUnset])]
  dsimp only
  rw [hon]
  simp only [Bool.false_eq_true, if_false, if_true]
  rw [if_neg (by rw [hpo]; omega), if_neg (by simp [hbp])]
  refine ⟨hnow, ?_, fun a => ?_, ?_⟩
  · exact congrArg (· + 1) hpo
  · exact State.reg_congr a rfl rfl rfl rfl
  · exact sameBytes_refl s

theorem State.bestBeacon_congr {s t : State} (but : Option Nat) (hb : t.cad.beacons = s.cad.beacons) (hn : t.now = s.now) :
    t.bestBeacon but = s.bestBeacon but := by
  simp only [State.bestBeacon, State.beaconFresh, hb, hn]

/-- What the module runs freely with (R56). -/
theorem State.enterFreeRun_effect (s : State) : s.enterFreeRun.get F.CAD_STATUS_SYNC = 3 ∧ s.enterFreeRun.get F.CAD_STATUS_ALIGNED = 0
    ∧ s.enterFreeRun.get F.CAD_STATUS_HOPS = 15 ∧ s.enterFreeRun.get F.CAD_STATUS_SRC_PORT = 15 ∧ s.enterFreeRun.cad.freeSince = some s.now
    ∧ s.enterFreeRun.cad.refPresent = s.cad.refPresent ∧ Frame [A.CAD_STATUS] s s.enterFreeRun := by
  unfold State.enterFreeRun
  refine ⟨?_, ?_, ?_, ?_, by simp, by simp, (((((Frame.refl _ s).set _ _).set _ _).set _ _).set _ _).plain⟩
  all_goals simp (disch := decide) only [State.get_with_cad, State.get_set_disjoint, State.get_set_lt, syFree]

theorem Frame.trans {l : List Nat} {o s t : State} (h : Frame l o s) (h' : Frame l s t) : Frame l o t :=
  ⟨fun a ha => (h'.regs a ha).trans (h.regs a ha), h'.near.trans h.near, h'.far.trans h.far, h'.stage.trans h.stage,
    h'.side.trans h.side, h'.core.trans h.core, h'.flashA.trans h.flashA, h'.flashB.trans h.flashB⟩

theorem Frame.mono {l l' : List Nat} {o s : State} (h : Frame l o s) (hl : l ⊆ l') : Frame l' o s :=
  { h with regs := fun a ha => h.regs a fun hm => ha (hl hm) }

/-- CADREF is lost with no beacon to follow (R56). -/
theorem cadrefLost_freeRun (s : State) (hpresent : s.cad.refPresent = true) (hsync : s.get F.CAD_STATUS_SYNC = 1)
    (hnone : s.bestBeacon none = none) :
    cadrefLost s = ({ s.bump F.CAD_ERR_REF_LOSS with cad := { s.cad with refPresent := false } } : State).enterFreeRun := by
  unfold cadrefLost
  rw [if_pos hpresent]
  extract_lets +onlyGivenNames s0 c s1
  have hsync1 : s1.sync = syRef := by
    refine (State.get_with_cad s0 _ _).trans ((State.get_set_ne _ _ _ _ ?_).trans hsync)
    decide
  have hbest : s1.bestBeacon none = none := (State.bestBeacon_congr none (by simp [s1, c, s0]) (by simp [s1, c, s0])).trans hnone
  rw [if_pos hsync1, hbest]
  rfl

/-- Settles O11, one lemma or equation for each command. -/
theorem cadenceSources : Obligations.CadenceSources := by
  unfold Obligations.CadenceSources
  intro s ⟨hrails, hpin⟩
  have hlive : ∀ f, live s f = .next (f s) := fun f => live_powered s f hrails hpin
  refine ⟨fun e hsync => ?load, fun e hsync hen hload => ?pulse, fun hsync hoff hfew hgood => ?off, fun hpresent hsync hnone => ?lost,
    fun d hsync hen hpresent => ⟨fun hsince => ?regained, fun hsince => ?early⟩, fun d habsent => ?present,
    fun d hsync hbeacons hpresent hen => ?timeout, fun n hsync hfree hn => ?limit⟩
  case load => exact (hlive _ : execCadLoad e s = _).trans (congrArg _ (if_pos hsync))
  case pulse =>
    obtain ⟨hnow, h1, h2, h3, h4, hframe⟩ := epochPulse_load s e hsync hen hload
    exact ⟨_, hlive epochPulse, hnow, h1, h2, h3, h4, hframe.regs, hframe.bytes⟩
  case off => exact ⟨_, hlive epochPulse, epochPulse_off s hsync hoff hfew hgood⟩
  case lost =>
    set s1 : State := { s.bump F.CAD_ERR_REF_LOSS with cad := { s.cad with refPresent := false } } with hs1
    have hframe1 : Frame [A.CAD_STATUS, A.CAD_ERR] s s1 := ((Frame.refl _ s).bump F.CAD_ERR_REF_LOSS (.tail _ (.head _))).plain
    obtain ⟨h1, h2, h3, h4, h5, h6, hframe⟩ := s1.enterFreeRun_effect
    have hloss : s1.enterFreeRun.get F.CAD_ERR_REF_LOSS = s1.get F.CAD_ERR_REF_LOSS :=
      State.get_congr _ (hframe.regs _ (by decide))
    refine ⟨s1.enterFreeRun, (hlive cadrefLost).trans (congrArg _ (cadrefLost_freeRun s hpresent hsync hnone)), h6, h1, h2, h3, h4, h5, hloss,
      (hframe1.trans (hframe.mono (by simp))).regs, (hframe1.trans (hframe.mono (by simp))).bytes⟩
  case regained =>
    obtain ⟨h1, h2, h3, h4, hframe⟩ := s.enterRef_effect d
    have hcond : s.cad.refSince + 50000 ≤ (s.now : Int) ∧ (s.sync = syBeacon ∨ s.sync = syFree) ∧ s.on F.CAD_CTRL_REF_EN = true :=
      ⟨hsince, hsync, (State.on_iff_eq_one _ _ rfl).mpr hen⟩
    refine ⟨s.enterRef d, (hlive _ : execCadrefRegained d s = _).trans ?_, h4.trans hpresent, h1, h2, h3, hframe.regs, hframe.bytes⟩
    rw [cadrefRegained, State.refHere, if_pos hpresent, if_pos hcond]
  case early =>
    refine (hlive _ : execCadrefRegained d s = _).trans ?_
    rw [cadrefRegained, State.refHere, if_pos hpresent, if_neg (by omega)]
  case present =>
    refine (hlive _ : execCadrefRegained d s = _).trans ?_
    have hhere : s.refHere = { s with cad := { s.cad with refPresent := true, refSince := s.now } } := if_neg (by simp [habsent])
    rw [cadrefRegained, hhere]
    refine congrArg _ (if_neg fun h => ?_)
    have hnot : ((s.now : Int) + 50000 ≤ (s.now : Int)) := h.1
    omega
  case timeout =>
    obtain ⟨h1, h2, h3, h4, hframe⟩ := s.enterRef_effect d
    refine ⟨s.enterRef d, (hlive _ : execBeaconSourceTimeout d s = _).trans ?_, h1, h2, h3, hframe.regs, hframe.bytes⟩
    have hbest : s.bestBeacon (some (s.get F.CAD_STATUS_SRC_PORT)) = none := by simp [State.bestBeacon, hbeacons]
    rw [beaconSourceTimeout, if_pos ⟨hsync, by simp [hbeacons]⟩, hbest]
    exact congrArg _ (if_pos ⟨hpresent, (State.on_iff_eq_one _ _ rfl).mpr hen⟩)
  case limit =>
    refine (hlive _ : execFreeRunLimit s = _).trans ?_
    rw [freeRunLimit, hfree]
    exact congrArg _ (if_pos ⟨hsync, hn⟩)

end Sys2Proof.Machine

/-! The collector, the monitors of power and the takeover (R25, R37, R38, R70, R426, R427). -/
namespace Sys2Proof.Machine

/-! ## The collector (R37, R38) -/

/-- A record's four words are written to the ring, whatever else the collector does. -/
def State.ringPut (s : State) (k : Nat) (ws : List Word) : State := s.forN 4 fun t i => t.setReg (A.FAULT_RING k i) (ws.getD i 0)

theorem State.ringPut_eq (s : State) (k : Nat) (ws : List Word) : s.ringPut k ws
    = (((s.setReg (A.FAULT_RING k 0) (ws.getD 0 0)).setReg (A.FAULT_RING k 1) (ws.getD 1 0)).setReg (A.FAULT_RING k 2) (ws.getD 2 0)).setReg
      (A.FAULT_RING k 3) (ws.getD 3 0) := rfl

theorem State.ringPut_reg (s : State) (k : Nat) (ws : List Word) (i : Nat) (hi : i < 4) :
    (s.ringPut k ws).reg (A.FAULT_RING k i) = ws.getD i 0 := by
  have hne : ∀ i j, i ≠ j → A.FAULT_RING k i ≠ A.FAULT_RING k j := fun i j h => by unfold A.FAULT_RING; omega
  rw [State.ringPut_eq]
  interval_cases i <;> simp [State.reg_setReg, hne]

theorem Frame.ringPut {l : List Nat} {o s : State} (hs : Frame l o s) (k : Nat) (ws : List Word) (hl : ∀ i < 4, A.FAULT_RING k i ∈ l) :
    Frame l o (s.ringPut k ws) :=
  (((hs.setReg _ _ (hl 0 (by omega))).setReg _ _ (hl 1 (by omega))).setReg _ _ (hl 2 (by omega))).setReg _ _ (hl 3 (by omega))

theorem faultRecordWrite_eq (s : State) (q : Nat) (r : FaultRec) (rest : List FaultRec) (hq : s.mgmt.fq.getD q [] = r :: rest)
    (hcode : r.code / 256 ≠ 9) :
    faultRecordWrite q s = ((({ s with mgmt := { s.mgmt with fq := s.mgmt.fq.set q rest } } : State).ringPut (s.get F.FAULT_HEAD_INDEX)
      (r.words (s.get F.FAULT_HEAD_NEXT_SEQ))).wrapAdd F.FAULT_HEAD_INDEX 1).wrapAdd F.FAULT_HEAD_NEXT_SEQ 1 := by
  unfold faultRecordWrite
  rw [hq]
  exact if_neg hcode

/-- The head of the ring reads as before while a record is written. -/
theorem State.ringPut_head (s : State) (k : Nat) (ws : List Word) : (s.ringPut k ws).reg A.FAULT_HEAD = s.reg A.FAULT_HEAD := by
  have hne : ∀ i, A.FAULT_HEAD ≠ A.FAULT_RING k i := fun i => by unfold A.FAULT_HEAD A.FAULT_RING; omega
  simp [State.ringPut_eq, State.reg_setReg, hne]

@[simp] theorem State.ringPut_mgmt (s : State) (k : Nat) (ws : List Word) : (s.ringPut k ws).mgmt = s.mgmt := rfl

/-- What the collector leaves of a record that raises no alert. -/
theorem faultRecordWrite_effect (s : State) (q : Nat) (r : FaultRec) (rest : List FaultRec) (hq : s.mgmt.fq.getD q [] = r :: rest)
    (hcode : r.code / 256 ≠ 9) (t : State) (ht : faultRecordWrite q s = t) :
    t.mgmt.fq = s.mgmt.fq.set q rest
      ∧ (∀ i < 4, t.reg (A.FAULT_RING (s.get F.FAULT_HEAD_INDEX) i) = (r.words (s.get F.FAULT_HEAD_NEXT_SEQ)).getD i 0)
      ∧ t.get F.FAULT_HEAD_INDEX = (s.get F.FAULT_HEAD_INDEX + 1) % 1024
      ∧ t.get F.FAULT_HEAD_NEXT_SEQ = (s.get F.FAULT_HEAD_NEXT_SEQ + 1) % 65536
      ∧ Frame (A.FAULT_HEAD :: (List.range 4).map (A.FAULT_RING (s.get F.FAULT_HEAD_INDEX))) s t := by
  rw [faultRecordWrite_eq s q r rest hq hcode] at ht
  subst ht
  set k := s.get F.FAULT_HEAD_INDEX
  set u := ({ s with mgmt := { s.mgmt with fq := s.mgmt.fq.set q rest } } : State).ringPut k (r.words (s.get F.FAULT_HEAD_NEXT_SEQ)) with hu
  have hhead : ∀ f : Field, f.addr = A.FAULT_HEAD → u.get f = s.get f := fun f hf => by
    rw [State.get, State.get, hf, hu, State.ringPut_head]
    rfl
  have hne : ∀ i, A.FAULT_RING k i ≠ A.FAULT_HEAD := fun i => by unfold A.FAULT_HEAD A.FAULT_RING; omega
  refine ⟨by simp [hu], fun i hi => ?_, ?_, ?_, ?_⟩
  · rw [State.wrapAdd, State.reg_set_ne _ _ _ _ (hne i), State.wrapAdd, State.reg_set_ne _ _ _ _ (hne i), hu, State.ringPut_reg _ _ _ _ hi]
  · simp (disch := decide) only [State.wrapAdd, State.get_set_disjoint, State.get_set_self]
    rw [hhead _ rfl]
    rfl
  · simp (disch := decide) only [State.wrapAdd, State.get_set_disjoint, State.get_set_self]
    rw [hhead _ rfl]
    rfl
  · exact (((Frame.refl _ s).plain.ringPut _ _ fun i hi => .tail _ (List.mem_map.mpr ⟨i, List.mem_range.mpr hi, rfl⟩)).wrapAdd _ _).wrapAdd _ _

/-! ## Staged pairs that are done (R70) -/

theorem Frame.stagedDone {l : List Nat} {o s : State} (hs : Frame l o s) (a : Nat) (ha : a ∈ l := by exact .head _) :
    Frame l o (s.stagedDone a) :=
  (hs.setReg a _ ha).plain

theorem State.stagedDone_armed (s : State) (a : Nat) : bits ((s.stagedDone a).reg a) 63 63 = 0 := by
  change bits ((s.setReg a _).reg a) 63 63 = 0
  rw [State.reg_setReg_self, bits_putBits_self _ _ _ _ (by omega) (by omega), Nat.zero_mod]

theorem State.stagedDone_staged (s : State) (a : Nat) : mapFind (s.stagedDone a).staged a = none :=
  (mapFind_erase s.staged a a).trans (if_pos rfl)

theorem State.get_stagedDone_ne (s : State) (a : Nat) (f : Field) (h : f.addr ≠ a) : (s.stagedDone a).get f = s.get f := by
  change bits ((s.setReg a _).reg f.addr) _ _ = _
  rw [State.reg_setReg_ne _ _ _ _ h]
  rfl

theorem State.stagedDue_of (s : State) (a k : Nat) (harmed : bits (s.reg a) 63 63 = 1) (hslot : s.now % 256 = 0)
    (hk : mapFind s.staged a = some k) (hle : k ≤ s.slot) : s.stagedDue a = true := by
  have hat : s.atSlot = true := beq_iff_eq.mpr hslot
  rw [State.stagedDue, harmed, hat, hk]
  exact decide_eq_true hle

theorem throttleLevel_effect (s : State) (k : Nat) (harmed : bits (s.reg A.PWR_THR_ACT) 63 63 = 1) (hslot : s.now % 256 = 0)
    (hk : mapFind s.staged A.PWR_THR_ACT = some k) (hle : k ≤ s.slot) (t : State) (ht : throttleLevel s = t) :
    t.get F.PWR_STATUS_LEVEL = s.get F.PWR_THR_NEXT_LEVEL ∧ bits (t.reg A.PWR_THR_ACT) 63 63 = 0
      ∧ mapFind t.staged A.PWR_THR_ACT = none ∧ Frame [A.PWR_STATUS, A.PWR_THR_ACT] s t := by
  rw [throttleLevel, if_pos (s.stagedDue_of _ k harmed hslot hk hle)] at ht
  subst ht
  have hlevel := s.get_lt F.PWR_THR_NEXT_LEVEL
  generalize s.get F.PWR_THR_NEXT_LEVEL = level at hlevel ⊢
  refine ⟨?_, ?_, ?_, ((Frame.refl _ s).stagedDone _ (.tail _ (.head _))).set _ _⟩
  · simp (disch := decide) only [State.get_set_self]
    exact Nat.mod_eq_of_lt hlevel
  · rw [State.reg_set_ne _ _ _ _ (by decide)]
    exact s.stagedDone_armed _
  · rw [State.set_staged]
    exact s.stagedDone_staged _

/-! ## The takeover of a controller (R25) -/

theorem takeOver_effect (s t : State) (ht : s.takeOver 0 = t) :
    t.get F.MGMT_STATUS_ROLES = 2 ∧ t.get F.MGMT_STATUS_PRI_UP = 0 ∧ t.get F.MGMT_STATUS_TAKEOVER_EPOCH = s.epoch % 65536
      ∧ t.get (F.UNIT_STATE_STATE (entMgmt 0)) = 4 ∧ Frame [A.MGMT_STATUS, A.UNIT_STATE (entMgmt 0)] s t := by
  subst ht
  have h : s.takeOver 0 = (((s.set F.MGMT_STATUS_ROLES 2).set F.MGMT_STATUS_TAKEOVER_EPOCH s.epoch).set F.MGMT_STATUS_PRI_UP 0).set
      (F.UNIT_STATE_STATE (entMgmt 0)) 4 := rfl
  rw [h]
  refine ⟨?_, ?_, ?_, ?_, ?_⟩
  · simp (disch := decide) only [State.get_set_ne, State.get_set_disjoint, State.get_set_self]
    rfl
  · simp (disch := decide) only [State.get_set_ne, State.get_set_self]
    rfl
  · simp (disch := decide) only [State.get_set_ne, State.get_set_disjoint, State.get_set_self]
    rfl
  · simp (disch := decide) only [State.get_set_self]
    rfl
  · exact ((((Frame.refl _ s).set _ _).set _ _).set _ _).set (F.UNIT_STATE_STATE (entMgmt 0)) _ (.tail _ (.head _))

/-- Settles O14, one reading of the model a command: the collector, the PEAK line, the throttle level and the takeover. -/
theorem collectorAndMonitors : Obligations.CollectorAndMonitors := by
  unfold Obligations.CollectorAndMonitors
  intro s ⟨hrails, hpin⟩
  have hlive : ∀ f, live s f = .next (f s) := fun f => live_powered s f hrails hpin
  refine ⟨fun q r rest hq hfq hcode => ?_, fun w hw => (hlive _ : execPeakAssert w s = _).trans (congrArg _ (if_pos hw)),
    fun n hn => (hlive _ : execPeakRelease n s = _).trans (congrArg _ (if_pos hn)), fun k harmed hslot hk hle => ?_,
    fun m hnow hroles hlost hm => ?_⟩
  · obtain ⟨h1, h2, h3, h4, hframe⟩ := faultRecordWrite_effect s q r rest hfq hcode _ rfl
    exact ⟨_, (lively_powered s q 7 _ hq hrails hpin : execFaultRecordWrite q s = _), h1, h2, h3, h4, hframe.regs, hframe.bytes⟩
  · obtain ⟨h1, h2, h3, hframe⟩ := throttleLevel_effect s k harmed hslot hk hle _ rfl
    exact ⟨_, (hlive _ : execThrottleLevel s = _), h1, h2, h3, hframe.regs, hframe.bytes⟩
  · obtain ⟨h1, h2, h3, h4, hframe⟩ := takeOver_effect s _ rfl
    have htake : mgmtTakeover s = s.takeOver 0 := by rw [mgmtTakeover, hlost]; exact if_pos ⟨hnow, hm, hroles⟩
    exact ⟨_, (hlive _ : execMgmtTakeover s = _).trans (congrArg _ htake), h1, h2, h3, h4, hframe.regs, hframe.bytes⟩

end Sys2Proof.Machine

/-! What the operations shared by many commands touch: alerts, fault records, events, the state of the module and of a unit. -/
namespace Sys2Proof.Machine

/-! ## What the shared operations touch -/

theorem Keeps.bytes {o s : State} (h : Keeps false o s) : sameBytes o s := sameBytes_of_mems (h.same rfl)

theorem Frame.get {l : List Nat} {o s : State} (h : Frame l o s) (f : Field) (hf : f.addr ∉ l) : s.get f = o.get f :=
  State.get_congr f (h.regs _ hf)

/-- An operation after others: what they touch together. -/
theorem Frame.next {l l' : List Nat} {o s t : State} (h : Frame l o s) (h' : Frame l' s t) (hl : l' ⊆ l) : Frame l o t := h.trans (h'.mono hl)

theorem State.alert_frame (s : State) (c : Nat) : Frame [A.ALERT_CAUSE] s (s.alert c) := by
  have h : Frame [A.ALERT_CAUSE] s (s.set F.ALERT_CAUSE_CAUSE (s.get F.ALERT_CAUSE_CAUSE + 2 ^ c)) := (Frame.refl _ s).set _ _
  exact (Frame.refl _ s).ite (h.plain.ite h)

theorem State.alert_only (s : State) (c : Nat) : s.alert c = { s with regs := (s.alert c).regs, sent := (s.alert c).sent } := by
  unfold State.alert
  dsimp only
  split_ifs <;> rfl

/-- An alert sets its bit. -/
theorem State.alert_bit (s : State) (c : Nat) (hc : c < 6) : ((s.alert c).get F.ALERT_CAUSE_CAUSE).testBit c = true := by
  have hset : ∀ v, v.testBit c = true → ((s.set F.ALERT_CAUSE_CAUSE v).get F.ALERT_CAUSE_CAUSE).testBit c = true := fun v hv => by
    rw [State.get_set_self _ _ _ (by decide) (by decide)]
    change (v % 2 ^ 6).testBit c = true
    rw [Nat.testBit_mod_two_pow, hv, decide_eq_true hc]
    rfl
  unfold State.alert
  dsimp only
  split
  next h => rwa [bitAt] at h
  next h =>
    have hbit : (s.get F.ALERT_CAUSE_CAUSE + 2 ^ c).testBit c = true := by
      rw [Nat.add_comm, Nat.testBit_two_pow_add_eq]
      simpa [bitAt] using h
    split
    · exact hset _ hbit
    · exact hset _ hbit

theorem State.faultAt_frame (s : State) (code unit : Nat) (slow : Bool) (detail : Word) (time : Nat) :
    Frame [A.FAULT_LOST] s (s.faultAt code unit slow detail time) :=
  ((Frame.refl _ s).bump _).ite (Frame.refl _ s).plain

theorem State.faultAt_only (s : State) (code unit : Nat) (slow : Bool) (detail : Word) (time : Nat) :
    s.faultAt code unit slow detail time = { s with
      regs := (s.faultAt code unit slow detail time).regs, mgmt := (s.faultAt code unit slow detail time).mgmt } := by
  unfold State.faultAt
  dsimp only
  split <;> rfl

theorem State.fault_frame (s : State) (code unit : Nat) (slow : Bool) (detail : Word) : Frame [A.FAULT_LOST] s (s.fault code unit slow detail) :=
  s.faultAt_frame _ _ _ _ _

theorem State.fault_only (s : State) (code unit : Nat) (slow : Bool) (detail : Word) : s.fault code unit slow detail = { s with
    regs := (s.fault code unit slow detail).regs, mgmt := (s.fault code unit slow detail).mgmt } :=
  s.faultAt_only _ _ _ _ _

theorem State.faultKey_frame (s : State) (key code unit : Nat) (slow : Bool) (detail : Word) :
    Frame [A.FAULT_LOST] s (s.faultKey key code unit slow detail) :=
  (Frame.refl _ s).ite (s.fault_frame _ _ _ _).plain

theorem State.faultKey_only (s : State) (key code unit : Nat) (slow : Bool) (detail : Word) : s.faultKey key code unit slow detail = { s with
    regs := (s.faultKey key code unit slow detail).regs, mgmt := (s.faultKey key code unit slow detail).mgmt } := by
  unfold State.faultKey
  dsimp only
  split
  · rfl
  · rw [s.fault_only]

theorem State.faultOnce_frame (s : State) (code unit : Nat) (slow : Bool) (detail : Word) :
    Frame [A.FAULT_LOST] s (s.faultOnce code unit slow detail) :=
  s.faultKey_frame _ _ _ _ _

theorem State.faultOnce_only (s : State) (code unit : Nat) (slow : Bool) (detail : Word) : s.faultOnce code unit slow detail = { s with
    regs := (s.faultOnce code unit slow detail).regs, mgmt := (s.faultOnce code unit slow detail).mgmt } :=
  s.faultKey_only _ _ _ _ _

theorem State.post_frame (s : State) (die : Nat) (e : Event) : Frame [A.MGMT_ERR] s (s.post die e) :=
  ((Frame.refl _ s).bump _).ite (Frame.refl _ s).plain

theorem State.post_only (s : State) (die : Nat) (e : Event) :
    s.post die e = { s with regs := (s.post die e).regs, mgmt := (s.post die e).mgmt } := by
  unfold State.post
  dsimp only
  split <;> rfl

theorem State.colokAlert_frame (s : State) (before : Bool) : Frame [A.ALERT_CAUSE] s (s.colokAlert before) :=
  (s.alert_frame 4).ite (Frame.refl _ s)

theorem State.colokAlert_only (s : State) (before : Bool) :
    s.colokAlert before = { s with regs := (s.colokAlert before).regs, sent := (s.colokAlert before).sent } := by
  unfold State.colokAlert
  split
  · exact s.alert_only 4
  · rfl

/-! ## The state of the module and of a unit -/

theorem State.setMState_frame (s : State) (m : Nat) : Frame [A.MODULE_STATE, A.SB_STATE, A.ALERT_CAUSE] s (s.setMState m) := by
  unfold State.setMState
  extract_lets s1 s2
  have h1 : Frame [A.MODULE_STATE, A.SB_STATE, A.ALERT_CAUSE] s s1 := (Frame.refl _ s).set _ _
  have h2 : Frame [A.MODULE_STATE, A.SB_STATE, A.ALERT_CAUSE] s s2 := (h1.set _ _ (.tail _ (.head _))).ite h1
  exact (h2.ite (h2.next (s2.alert_frame 3) (by simp))).next (State.colokAlert_frame _ _) (by simp)

theorem State.setMState_only (s : State) (m : Nat) : s.setMState m = { s with regs := (s.setMState m).regs, sent := (s.setMState m).sent } := by
  unfold State.setMState
  extract_lets s1 s2
  have h2 : s2 = { s with regs := s2.regs } := by
    unfold s2
    split <;> rfl
  have h3 : (if s.mstate = m then s2 else s2.alert 3) = { s with
      regs := (if s.mstate = m then s2 else s2.alert 3).regs, sent := (if s.mstate = m then s2 else s2.alert 3).sent } := by
    split
    · rw [h2]
    · rw [s2.alert_only, h2]
  rw [State.colokAlert_only, h3]

theorem State.setMState_mstate (s : State) (m : Nat) (hm : m < 8) : (s.setMState m).get F.MODULE_STATE_STATE = m := by
  unfold State.setMState
  extract_lets s1 s2
  have h1 : s1.get F.MODULE_STATE_STATE = m := State.get_set_lt s F.MODULE_STATE_STATE m (by decide) (by decide) hm
  have h2 : s2.get F.MODULE_STATE_STATE = m := by
    unfold s2
    split
    · rw [State.get_set_ne _ _ _ _ (by decide), h1]
    · exact h1
  rw [(State.colokAlert_frame _ _).get _ (by decide)]
  split
  · exact h2
  · rw [(State.alert_frame _ _).get _ (by decide), h2]

theorem State.set_only (s : State) (f : Field) (v : Nat) : s.set f v = { s with regs := (s.set f v).regs } := rfl

theorem State.reFollow_frame (s : State) (n st : Nat) : Frame [A.RE_STATUS (n - 154)] s (s.reFollow n st) :=
  (Frame.refl _ s).ite (((Frame.refl _ s).set _ _).ite (((Frame.refl _ s).set _ _).ite (Frame.refl _ s)))

theorem State.reFollow_only (s : State) (n st : Nat) : s.reFollow n st = { s with regs := (s.reFollow n st).regs } := by
  unfold State.reFollow
  split
  · rfl
  · split
    · exact s.set_only _ _
    · split
      · exact s.set_only _ _
      · rfl

/-- The registers that a change of a unit's state may touch. -/
def unitRegs (n : Nat) : List Nat := [A.UNIT_STATE n, A.RE_STATUS (n - 154), A.MGMT_ERR, A.ALERT_CAUSE]

theorem State.setUnit_frame (s : State) (n st : Nat) : Frame (unitRegs n) s (s.setUnit n st) := by
  have h1 : Frame (unitRegs n) s (s.set (F.UNIT_STATE_STATE n) st) := (Frame.refl _ s).set _ _
  unfold State.setUnit
  refine ((h1.next (State.reFollow_frame _ n st) ?_).next (State.post_frame _ _ _) ?_).next (State.colokAlert_frame _ _) ?_ <;> simp [unitRegs]

theorem State.setUnit_only (s : State) (n st : Nat) : s.setUnit n st = { s with
    regs := (s.setUnit n st).regs, mgmt := (s.setUnit n st).mgmt, sent := (s.setUnit n st).sent } := by
  unfold State.setUnit
  dsimp only
  rw [State.colokAlert_only, State.post_only, State.reFollow_only]
  rfl

/-- The page of the unit states lies apart from the other registers that a change of a unit's state touches. -/
theorem unitState_apart (n : Nat) (hn : n < 187) (k : Nat) :
    A.UNIT_STATE n ∉ [A.RE_STATUS k, A.MGMT_ERR, A.ALERT_CAUSE] := by
  simp only [A.UNIT_STATE, A.RE_STATUS, A.MGMT_ERR, A.ALERT_CAUSE, pageReg, mgmtReg, sbReg, reReg, List.mem_cons, List.not_mem_nil, or_false]
  omega

/-- The unit's state after the change. -/
theorem State.setUnit_state (s : State) (n st : Nat) (hn : n < 187) (hst : st < 8) : (s.setUnit n st).get (F.UNIT_STATE_STATE n) = st := by
  obtain ⟨h1, h2, h3⟩ : A.UNIT_STATE n ∉ [A.RE_STATUS (n - 154)] ∧ A.UNIT_STATE n ∉ [A.MGMT_ERR] ∧ A.UNIT_STATE n ∉ [A.ALERT_CAUSE] := by
    simpa only [List.mem_cons, List.not_mem_nil, or_false, not_or] using unitState_apart n hn (n - 154)
  unfold State.setUnit
  rw [(State.colokAlert_frame _ _).get _ h3, (State.post_frame _ _ _).get _ h2, (State.reFollow_frame _ n st).get _ h1]
  exact State.get_set_lt s (F.UNIT_STATE_STATE n) st (Nat.zero_le _) (show 2 < 64 by omega) hst

end Sys2Proof.Machine

/-! The hold-up bank, the holds and the ledger (R433, R438 to R440, R454, R455). -/
namespace Sys2Proof.Machine

/-! ## Holds and the hold-up measurement (R433, R437 to R440) -/

theorem State.showHold_frame (s : State) (l : List Nat) : Frame [A.PWR_STATUS, A.SB_ATTN] s (s.showHold l) :=
  ((Frame.refl _ s).plain.set _ _).set _ _ (.tail _ (.head _))

theorem State.showHold_cause (s : State) (l : List Nat) : (s.showHold l).get F.PWR_STATUS_HOLD_CAUSE = l.headD 0 % 16 := by
  unfold State.showHold
  dsimp only
  rw [State.get_set_ne _ _ _ _ (by decide), State.get_set_self _ _ _ (by decide) (by decide)]
  rfl

theorem State.clearHold_frame (s : State) (c : Nat) : Frame [A.PWR_STATUS, A.SB_ATTN] s (s.clearHold c) :=
  (s.showHold_frame _).ite (Frame.refl _ s)

theorem State.clearHold_led (s : State) (c : Nat) : (s.clearHold c).led = s.led := by
  unfold State.clearHold
  split <;> rfl

/-- What the registers of the hold-up bank show. -/
theorem State.showHoldup_frame (s : State) : Frame [A.HU_MEAS, A.HU_STATUS, A.SB_HOLDUP] s s.showHoldup :=
  ((((Frame.refl _ s).set F.HU_STATUS_ENERGY _ (.tail _ (.head _))).set F.SB_HOLDUP_JOULES _ (.tail _ (.tail _ (.head _)))).set
    F.HU_STATUS_DEGRADED _ (.tail _ (.head _))).set F.HU_STATUS_MEAS_VALID _ (.tail _ (.head _))

theorem State.showHoldup_meas (s : State) (f : Field) (hf : f.addr = A.HU_MEAS) : s.showHoldup.get f = s.get f := by
  have h1 : f.addr ≠ A.HU_STATUS := hf ▸ by decide
  have h2 : f.addr ≠ A.SB_HOLDUP := hf ▸ by decide
  unfold State.showHoldup
  dsimp only
  rw [State.get_set_ne _ F.HU_STATUS_MEAS_VALID _ _ h1, State.get_set_ne _ F.HU_STATUS_DEGRADED _ _ h1,
    State.get_set_ne _ F.SB_HOLDUP_JOULES _ _ h2, State.get_set_ne _ F.HU_STATUS_ENERGY _ _ h1]

/-- A measurement of the present counts. -/
theorem State.showHoldup_valid (s : State) (hm : s.pwr.measured = true) (hage : s.get F.HU_MEAS_AGE = 0) :
    s.showHoldup.get F.HU_STATUS_MEAS_VALID = 1 := by
  unfold State.showHoldup
  dsimp only
  rw [State.get_set_self _ _ _ (by decide) (by decide), hm, hage]
  rfl

theorem huMeasureDone_effect (s : State) (dv : Nat) (hdv : 0 < dv) (hm : s.pwr.measuring = true) (t : State) (ht : huMeasureDone dv s = t) :
    t.get F.HU_MEAS_CAP = min ((4000000 + dv) / (2 * dv)) 65535 ∧ t.get F.HU_MEAS_AGE = 0 ∧ t.pwr.measured = true
      ∧ t.pwr.measuring = false ∧ t.get F.HU_STATUS_MEAS_VALID = 1 ∧ Frame [A.HU_MEAS, A.HU_STATUS, A.SB_HOLDUP] s t := by
  rw [huMeasureDone, if_pos ⟨hm, Nat.pos_iff_ne_zero.mp hdv⟩] at ht
  extract_lets s1 at ht
  obtain ⟨u, hu⟩ : ∃ u, ({ s1 with pwr := { s1.pwr with measuring := false, measured := true } } : State) = u := ⟨_, rfl⟩
  have hframe : Frame [A.HU_MEAS, A.HU_STATUS, A.SB_HOLDUP] s u := hu ▸ (((Frame.refl _ s).set _ _).set _ _).plain
  have hcap : u.get F.HU_MEAS_CAP = min ((4000000 + dv) / (2 * dv)) 65535 := by
    subst hu
    rw [State.get_with_pwr]
    simp (disch := decide) only [s1, State.get_set_disjoint, State.get_set_self]
    exact Nat.mod_eq_of_lt (show _ < 65536 by omega)
  have hage : u.get F.HU_MEAS_AGE = 0 := by
    subst hu
    rw [State.get_with_pwr]
    simp (disch := decide) only [s1, State.get_set_self]
    rfl
  have hmeas : u.pwr.measured = true := hu ▸ rfl
  rw [hu] at ht
  subst ht
  exact ⟨(u.showHoldup_meas _ rfl).trans hcap, (u.showHoldup_meas _ rfl).trans hage, hmeas, hu ▸ rfl, u.showHoldup_valid hmeas hage,
    hframe.trans u.showHoldup_frame⟩

/-! ## The ledger (R440, R454, R455) -/

theorem holdupScaled_eq (cap v : Nat) : holdupScaled cap v = cap * (v ^ 2 - 1000000) := by
  have h := pow_two v
  generalize v ^ 2 = x at h ⊢
  subst h
  rfl

theorem State.holdupOk_of (s : State) (need n v : Nat) (hn : need * 20000000 = n) (hmeas : s.pwr.measured = true)
    (hage : s.get F.HU_MEAS_AGE ≤ 128000) (hcap : n ≤ s.get F.HU_MEAS_CAP * (v ^ 2 - 1000000)) : s.holdupOk need v = true := by
  unfold State.holdupOk
  rw [hn, holdupScaled_eq, hmeas, decide_eq_true hage, decide_eq_true hcap]
  rfl

theorem State.commitAt_accept (s : State) (v : Nat) (hpend : s.led.pending ≠ []) (hidle : s.led.inFlight = []) (hok : s.holdupOk 40 v = true) :
    s.commitAt v
      = ({ s with led := { s.led with inFlight := s.led.pending, pending := [], refusing := false } } : State).clearHold 3 := by
  have hno : ¬ (s.led.pending.isEmpty = true ∨ ¬ s.led.inFlight.isEmpty = true) := by simp [hpend, hidle]
  rw [State.commitAt, if_neg hno, if_pos hok]

theorem State.holdupLow_led (s : State) (need : Nat) : (s.holdupLow need).led = s.led := by
  rw [State.holdupLow, State.alert_only, State.fault_only]

theorem State.commitAt_refuse (s : State) (v : Nat) (hpend : s.led.pending ≠ []) (hidle : s.led.inFlight = []) (hok : s.holdupOk 40 v = false) :
    (s.commitAt v).led = { s.led with refusing := true } := by
  have hno : ¬ (s.led.pending.isEmpty = true ∨ ¬ s.led.inFlight.isEmpty = true) := by simp [hpend, hidle]
  have hno2 : ¬ s.holdupOk 40 v = true := by simp [hok]
  have hled : ((s.holdupLow 40).bump F.LEDGER_STATUS_REFUSED).led = s.led := s.holdupLow_led 40
  rw [State.commitAt, if_neg hno, if_neg hno2]
  dsimp only
  rw [hled]

theorem Ledger.recs_hold (l : Ledger) (rs : List LedgerRec) : (l.hold rs).recs = rs := if_pos (le_refl _)

/-- A commit of one record appends it, chained to the one before. -/
theorem Ledger.recs_commit (l : Ledger) (b : LedgerBody) (hb : l.inFlight = [b]) (hlen : l.recs.length < 49152) :
    ∃ r, l.commit.recs = l.recs ++ [r] ∧ r.body = b ∧ (∀ p, l.recs.getLast? = some p → r.seq = p.seq + 1 ∧ r.prev = shakeBytes 32 p.bytes)
      ∧ (l.recs = [] → r.seq = 1 ∧ r.prev = List.replicate 32 0) := by
  obtain ⟨r, hr⟩ : ∃ r, appendRecs l.recs l.inFlight = l.recs ++ [r] ∧ r.body = b
      ∧ (∀ p, l.recs.getLast? = some p → r.seq = p.seq + 1 ∧ r.prev = shakeBytes 32 p.bytes)
      ∧ (l.recs = [] → r.seq = 1 ∧ r.prev = List.replicate 32 0) := by
    rw [hb, appendRecs, appendRecs]
    refine ⟨_, rfl, ?_⟩
    rcases hlast : l.recs.getLast? with _ | p
    · exact ⟨rfl, nofun, fun _ => ⟨rfl, rfl⟩⟩
    · refine ⟨rfl, fun q hq => ?_, fun he => ?_⟩
      · cases hq
        exact ⟨rfl, rfl⟩
      · rw [he] at hlast
        cases hlast
  obtain ⟨happ, hrest⟩ := hr
  have hrecs : ({ l.hold (l.recs ++ [r]) with inFlight := [] } : Ledger).recs = l.recs ++ [r] := l.recs_hold _
  refine ⟨r, ?_, hrest⟩
  rw [Ledger.commit, happ, Ledger.compact, hrecs, if_neg (by rw [List.length_append, List.length_singleton]; omega), hrecs]

theorem Ledger.inFlight_commit (l : Ledger) : l.commit.inFlight = [] := by
  unfold Ledger.commit Ledger.compact
  split <;> rfl

theorem State.showLedger_frame (s : State) : Frame [A.LEDGER_STATUS] s s.showLedger := (((Frame.refl _ s).set _ _).set _ _).set _ _

/-- A retire that has not begun goes no further. -/
theorem State.retireNext_idle (s : State) (h : s.pwr.retireStep = 0) : s.retireNext = s := by
  simp [State.retireNext, h]

theorem ledgerCommitDone_eq (s : State) (hrails : s.pwr.rails = true) (hpin : s.pwr.modrst = false) (hflight : s.led.inFlight ≠ [])
    (htrial : s.boot.trialPending = false) (hstep : s.pwr.retireStep = 0) :
    ledgerCommitDone s = ({ s with led := s.led.commit } : State).showLedger := by
  have hne : ¬ s.led.inFlight.isEmpty = true := by simp [hflight]
  have hno : ¬ s.pwr.modrst = true := by simp [hpin]
  have hno2 : ¬ (({ s with led := s.led.commit } : State).showLedger).boot.trialPending = true := by
    change ¬ s.boot.trialPending = true
    simp [htrial]
  have hcommit : s.commitDone = ({ s with led := s.led.commit } : State).showLedger := by
    unfold State.commitDone
    rw [if_neg hne]
    exact if_neg hno2
  rw [ledgerCommitDone, if_pos hrails, if_neg hno, hcommit]
  exact State.retireNext_idle _ hstep

theorem State.setHold_cause (s : State) (c : Nat) (hc : c < 16) : (s.setHold c).get F.PWR_STATUS_HOLD_CAUSE = c :=
  (s.showHold_cause _).trans (Nat.mod_eq_of_lt hc)

/-- Settles O20, one operation of the hold-up bank or of the ledger a clause. -/
theorem holdupAndLedger : Obligations.HoldupAndLedger := by
  unfold Obligations.HoldupAndLedger
  intro s ⟨hrails, hpin⟩
  have hlive : ∀ f, live s f = .next (f s) := fun f => live_powered s f hrails hpin
  have hcommits : s.mgmt.inReset = false → ledgerCommit s = s.commitAt (s.get F.HU_STATUS_V_BANK) := fun h => if_neg (by simp [h])
  refine ⟨fun hst hmeas hv => ?_, fun hst hnow hdue hidle => ?_, fun dv hdv hm => ?_, fun hreset hpend hidle hmeas hage hcap => ?_,
    fun hreset hpend hidle hmeas => ?_, fun b hb hlen htrial hstep => ?_, fun href => ?_⟩
  · refine (hlive _ : execHuMeasure s = _).trans (congrArg _ ((if_pos hst).trans (if_neg ?_)))
    simp [hmeas, hv]
  · exact (hlive _ : execHuMeasure s = _).trans (congrArg _ ((if_neg hst).trans (if_pos ⟨hnow, hdue, by rw [hidle]; rfl⟩)))
  · obtain ⟨h1, h2, h3, h4, h5, hframe⟩ := huMeasureDone_effect s dv hdv hm _ rfl
    exact ⟨_, (hlive _ : execHuMeasureDone dv s = _), h1, h2, h3, h4, h5, hframe.regs, hframe.bytes⟩
  · have hok : s.holdupOk 40 (s.get F.HU_STATUS_V_BANK) = true := s.holdupOk_of 40 _ _ rfl hmeas hage hcap
    refine ⟨_, (hlive _ : execLedgerCommit s = _).trans (congrArg _ ((hcommits hreset).trans (s.commitAt_accept _ hpend hidle hok))), ?_⟩
    rw [State.clearHold_led]
    have hframe : Frame [A.PWR_STATUS, A.SB_ATTN] s
        (({ s with led := { s.led with inFlight := s.led.pending, pending := [], refusing := false } } : State).clearHold 3) :=
      (Frame.refl _ s).plain.trans (State.clearHold_frame _ 3)
    exact ⟨rfl, rfl, rfl, rfl, hframe.regs, hframe.bytes⟩
  · have hok : s.holdupOk 40 (s.get F.HU_STATUS_V_BANK) = false := by simp [State.holdupOk, hmeas]
    exact ⟨_, (hlive _ : execLedgerCommit s = _).trans (congrArg _ (hcommits hreset)), s.commitAt_refuse _ hpend hidle hok,
      ((Keeps.refl s).commitAt _).bytes⟩
  · have hne : s.led.inFlight ≠ [] := by simp [hb]
    refine ⟨_, (congrArg Host.Outcome.next (ledgerCommitDone_eq s hrails hpin hne htrial hstep) : execLedgerCommitDone s = _), s.led.inFlight_commit, s.led.recs_commit b hb hlen, ?_⟩
    have hframe : Frame [A.LEDGER_STATUS] s ({ s with led := s.led.commit } : State).showLedger :=
      (Frame.refl _ s).plain.trans (State.showLedger_frame _)
    exact ⟨hframe.regs, hframe.bytes⟩
  · refine ⟨_, (hlive _ : execHoldupRefuseTimeout s = _).trans (congrArg _ (if_pos href)), s.setHold_cause 3 (by omega), ?_⟩
    exact ⟨(s.showHold_frame _).regs, (s.showHold_frame _).bytes⟩

end Sys2Proof.Machine

/-! Writing an image (R451, R453, R467). -/
namespace Sys2Proof.Machine

theorem State.reg_with_boot (s : State) (x : Boot) (a : Nat) (hx : x.settings = s.boot.settings) : ({ s with boot := x } : State).reg a = s.reg a :=
  State.reg_congr a rfl hx rfl rfl

theorem State.get_with_boot (s : State) (x : Boot) (f : Field) (hx : x.settings = s.boot.settings) :
    ({ s with boot := x } : State).get f = s.get f :=
  State.get_congr f (s.reg_with_boot x _ hx)

theorem Frame.boot {l : List Nat} {o s : State} (hs : Frame l o s) (x : Boot) (hx : x.settings = s.boot.settings := by exact rfl) :
    Frame l o { s with boot := x } :=
  { hs with regs := fun a ha => (s.reg_with_boot x a hx).trans (hs.regs a ha) }

/-! ## The flash of a bank -/

theorem State.flash_setFlash_self (s : State) (b : Nat) (m : Mem) : (s.setFlash b m).flash b = m := by
  unfold State.setFlash State.flash
  split
  · rfl
  · rfl

theorem State.flash_setFlash_other (s : State) (b : Nat) (m : Mem) (hb : b < 2) : (s.setFlash b m).flash (1 - b) = s.flash (1 - b) := by
  interval_cases b <;> rfl

theorem State.setFlash_regs (s : State) (b : Nat) (m : Mem) : regsBut [] s (s.setFlash b m) := fun a _ => by
  unfold State.setFlash
  split <;> rfl

theorem State.setFlash_only (s : State) (b : Nat) (m : Mem) :
    s.setFlash b m = { s with flashA := (s.setFlash b m).flashA, flashB := (s.setFlash b m).flashB } := by
  unfold State.setFlash
  split <;> rfl

theorem State.showFlash_frame (s : State) : Frame [A.FL_STATUS] s s.showFlash := ((Frame.refl _ s).set _ _).set _ _

/-! ## The operations of FL_CTRL (R453, R467) -/

theorem State.isBooted_iff (s : State) (b : Nat) (hrec : s.boot.recovery = false) : s.isBooted b = true ↔ s.get F.BOOT_STATUS_BANK = b := by
  rw [State.isBooted, hrec, Bool.not_false, Bool.true_and, beq_iff_eq]

theorem State.flashCtrl_booted (s : State) (op b : Nat) (h : s.isBooted b = true) : s.flashCtrl op b = s.set F.FL_STATUS_LAST_RESULT 1 :=
  if_pos h

/-- An erase or a verify begins. -/
theorem flashCtrl_begins (s : State) (op b : Nat) (hop : op = 1 ∨ op = 2) (h : ¬ s.isBooted b = true) (hidle : s.boot.flashOp = none) :
    (s.flashCtrl op b).boot.flashOp = some (op, b) ∧ (s.flashCtrl op b).get F.FL_STATUS_BUSY = 1
      ∧ Frame [A.FL_STATUS] s (s.flashCtrl op b) := by
  have hno : ¬ s.boot.flashOp.isSome = true := by simp [hidle]
  rw [State.flashCtrl, if_neg h, if_pos hop, if_neg hno]
  exact ⟨rfl, State.get_set_lt _ F.FL_STATUS_BUSY 1 (by decide) (by decide) (by decide), ((Frame.refl _ s).boot _).set _ _⟩

theorem State.ledgerAdd_frame (s : State) (b : LedgerBody) : Frame [A.LEDGER_STATUS] s (s.ledgerAdd b) := (Frame.refl _ s).plain.set _ _

theorem State.ledgerAdd_pending (s : State) (b : LedgerBody) : (s.ledgerAdd b).led.pending = s.led.pending ++ [b] := rfl

/-- A record that waits, and the result of the operation that ordered it. -/
theorem ledgerAdd_result (s : State) (b : LedgerBody) (t : State) (ht : (s.ledgerAdd b).set F.FL_STATUS_LAST_RESULT 0 = t) :
    t.led.pending = s.led.pending ++ [b] ∧ t.get F.FL_STATUS_LAST_RESULT = 0 ∧ t.get F.LEDGER_STATUS_PENDING = 1
      ∧ Frame [A.FL_STATUS, A.LEDGER_STATUS] s t := by
  subst ht
  refine ⟨rfl, State.get_set_lt _ F.FL_STATUS_LAST_RESULT 0 (by decide) (by decide) (by decide), ?_, ?_⟩
  · rw [State.get_set_ne _ _ _ _ (by decide)]
    exact State.get_set_lt _ F.LEDGER_STATUS_PENDING 1 (by decide) (by decide) (by decide)
  · exact (((Frame.refl _ s).next (s.ledgerAdd_frame b) (by simp))).set F.FL_STATUS_LAST_RESULT 0

theorem flashCtrl_armTrial (s : State) (b : Nat) (h : ¬ s.isBooted b = true) (hv : s.get F.FL_STATUS_VERIFIED = 1) :
    s.flashCtrl 3 b = (s.ledgerAdd (.boot s.led.bootNext.1 true b s.led.bootNext.2.2.2)).set F.FL_STATUS_LAST_RESULT 0 := by
  rw [State.flashCtrl, if_neg h, if_neg (by decide)]
  exact (if_pos rfl).trans (if_pos ((s.on_iff_eq_one F.FL_STATUS_VERIFIED rfl).mpr hv))

theorem flashCtrl_unverified (s : State) (b : Nat) (h : ¬ s.isBooted b = true) (hv : s.get F.FL_STATUS_VERIFIED = 0) :
    s.flashCtrl 3 b = s.set F.FL_STATUS_LAST_RESULT 9 := by
  have hno : ¬ s.on F.FL_STATUS_VERIFIED = true := fun he => by
    rw [(s.on_iff_eq_one F.FL_STATUS_VERIFIED rfl).mp he] at hv
    cases hv
  rw [State.flashCtrl, if_neg h, if_neg (by decide)]
  exact (if_pos rfl).trans (if_neg hno)

theorem flashCtrl_disarm (s : State) (b : Nat) (h : ¬ s.isBooted b = true) :
    s.flashCtrl 4 b
      = (s.ledgerAdd (.boot s.led.bootNext.1 false s.led.bootNext.2.2.1 s.led.bootNext.2.2.2)).set F.FL_STATUS_LAST_RESULT 0 := by
  rw [State.flashCtrl, if_neg h, if_neg (by decide)]
  exact if_neg (by decide)

/-! ## Programming a word, and the end of an operation (R453) -/

theorem flDataWrite_eq (s : State) (v : Word) (b : Nat) (hb : b < 2) (hrec : s.boot.recovery = false) (hbank : s.get F.BOOT_STATUS_BANK = 1 - b)
    (hfree : s.get F.FL_STATUS_FREE ≠ 0) (hal : s.get F.FL_ADDR_OFFSET % 8 = 0) (hlt : s.get F.FL_ADDR_OFFSET < 96 * 2 ^ 20) :
    ∃ x : Boot, x.settings = s.boot.settings ∧ flDataWrite v s
      = ((({ s.setFlash b ((s.flash b).store (s.get F.FL_ADDR_OFFSET) (bytesOf 8 v.toNat)) with boot := x } : State).showFlash.set
        F.FL_STATUS_VERIFIED 0).set F.FL_ADDR_OFFSET (s.get F.FL_ADDR_OFFSET + 8)) := by
  have ho : s.get F.FL_ADDR_OFFSET / 8 * 8 = s.get F.FL_ADDR_OFFSET := Nat.div_mul_cancel (Nat.dvd_of_mod_eq_zero hal)
  have hb' : (if s.boot.recovery = true then s.boot.flBank else 1 - s.get F.BOOT_STATUS_BANK) = b := by
    rw [hrec, hbank]
    exact (if_neg (by decide)).trans (by omega)
  have hboot : (s.setFlash b ((s.flash b).store (s.get F.FL_ADDR_OFFSET) (bytesOf 8 v.toNat))).boot = s.boot := by
    rw [State.setFlash_only]
  unfold flDataWrite
  rw [if_neg hfree]
  dsimp only
  rw [hb', ho, if_pos hlt, hboot]
  exact ⟨{ s.boot with held := s.boot.held + 8 }, rfl, rfl⟩

theorem flDataWrite_effect (s : State) (v : Word) (b : Nat) (hb : b < 2) (hrec : s.boot.recovery = false) (hbank : s.get F.BOOT_STATUS_BANK = 1 - b)
    (hfree : s.get F.FL_STATUS_FREE ≠ 0) (hal : s.get F.FL_ADDR_OFFSET % 8 = 0) (hlt : s.get F.FL_ADDR_OFFSET < 96 * 2 ^ 20) (t : State)
    (ht : flDataWrite v s = t) : (t.flash b).load (s.get F.FL_ADDR_OFFSET) 8 = bytesOf 8 v.toNat
      ∧ (∀ a, a < s.get F.FL_ADDR_OFFSET ∨ s.get F.FL_ADDR_OFFSET + 8 ≤ a → (t.flash b).get a = (s.flash b).get a)
      ∧ (∀ a, (t.flash (1 - b)).get a = (s.flash (1 - b)).get a) ∧ (∀ a, t.near.get a = s.near.get a)
      ∧ t.get F.FL_ADDR_OFFSET = (s.get F.FL_ADDR_OFFSET + 8) % 2 ^ 27 ∧ t.get F.FL_STATUS_VERIFIED = 0
      ∧ regsBut [A.FL_STATUS, A.FL_ADDR] s t := by
  obtain ⟨x, hx, heq⟩ := flDataWrite_eq s v b hb hrec hbank hfree hal hlt
  rw [ht] at heq
  set o := s.get F.FL_ADDR_OFFSET
  set m := (s.flash b).store o (bytesOf 8 v.toNat) with hm
  have hflash : ∀ c, t.flash c = (s.setFlash b m).flash c := fun c => by rw [heq]; rfl
  have hself : t.flash b = m := (hflash b).trans (s.flash_setFlash_self b m)
  have hregs : regsBut [A.FL_STATUS, A.FL_ADDR] s ({ s.setFlash b m with boot := x } : State) := fun a _ =>
    (State.reg_with_boot _ x a (by rw [State.setFlash_only]; exact hx)).trans (s.setFlash_regs b m a (by simp))
  have hframe : Frame [A.FL_STATUS, A.FL_ADDR] ({ s.setFlash b m with boot := x } : State) t := by
    rw [heq]
    exact (((Frame.refl _ _).next (State.showFlash_frame _) (by simp)).set F.FL_STATUS_VERIFIED 0).set F.FL_ADDR_OFFSET (o + 8)
      (.tail _ (.head _))
  refine ⟨?_, fun a ha => ?_, fun a => ?_, fun a => ?_, ?_, ?_, fun a ha => (hframe.regs a ha).trans (hregs a ha)⟩
  · rw [hself, hm]
    have hload := (s.flash b).load_store o (bytesOf 8 v.toNat)
    rwa [bytesOf_length] at hload
  · rw [hself, hm, Mem.get_store, if_neg]
    rw [bytesOf_length]
    omega
  · rw [hflash, s.flash_setFlash_other b m hb]
  · rw [hframe.near]
    change ((s.setFlash b m).near).get a = _
    rw [State.setFlash_only]
  · rw [heq, State.get_set_self _ _ _ (by decide) (by decide)]
    rfl
  · rw [heq, State.get_set_ne _ _ _ _ (by decide)]
    exact State.get_set_lt _ F.FL_STATUS_VERIFIED 0 (by decide) (by decide) (by decide)

/-- The state of the flash with no operation in progress, as FL_STATUS shows it. -/
def State.flashIdle (s : State) : State := ({ s with boot := { s.boot with flashOp := none } } : State).showFlash

theorem State.flashIdle_frame (s : State) : Frame [A.FL_STATUS] s s.flashIdle := ((Frame.refl _ s).boot _).trans (State.showFlash_frame _)

theorem flashOpDone_erase (s : State) (b : Nat) (hb : b < 2) (hop : s.boot.flashOp = some (1, b)) (t : State) (ht : flashOpDone true s = t) :
    t.boot.flashOp = none ∧ t.get F.FL_STATUS_LAST_RESULT = 0 ∧ t.get F.FL_STATUS_VERIFIED = 0
      ∧ (∀ a, (t.flash (1 - b)).get a = (s.flash (1 - b)).get a) ∧ (∀ a, t.near.get a = s.near.get a) ∧ regsBut [A.FL_STATUS] s t := by
  set s2 := s.flashIdle.set F.FL_STATUS_VERIFIED 0 with hs2
  have heq : t = (s2.setFlash b (s2.flash b).lose).set F.FL_STATUS_LAST_RESULT 0 := by
    rw [← ht, flashOpDone, hop]
    rfl
  have hframe : Frame [A.FL_STATUS] s s2 := s.flashIdle_frame.set _ _
  have hregs := s2.setFlash_regs b (s2.flash b).lose
  have hver : (s2.setFlash b (s2.flash b).lose).get F.FL_STATUS_VERIFIED = 0 :=
    (State.get_congr _ (hregs _ (by simp))).trans (State.get_set_lt _ F.FL_STATUS_VERIFIED 0 (by decide) (by decide) (by decide))
  rw [heq]
  refine ⟨?_, State.get_set_lt _ F.FL_STATUS_LAST_RESULT 0 (by decide) (by decide) (by decide), ?_, fun a => ?_, fun a => ?_, fun a ha => ?_⟩
  · rw [State.setFlash_only]
    rfl
  · rw [State.get_set_disjoint _ _ _ _ (by decide) (by decide) (by decide), hver]
  · change ((s2.setFlash b (s2.flash b).lose).flash (1 - b)).get a = _
    rw [s2.flash_setFlash_other b _ hb]
    rfl
  · rw [State.setFlash_only]
    rfl
  · rw [State.reg_set_ne _ F.FL_STATUS_LAST_RESULT _ a fun e : a = A.FL_STATUS => ha (e ▸ .head _), hregs _ (by simp), hframe.regs _ ha]

theorem State.verifyBank_congr (s t : State) (b : Nat) (rf : Bool) (hled : t.led = s.led) (hA : t.flashA = s.flashA) (hB : t.flashB = s.flashB) :
    t.verifyBank b rf = s.verifyBank b rf := by
  have hflash : t.flash b = s.flash b := by rw [State.flash, State.flash, hA, hB]
  have hword : ∀ k, t.imgWord b k = s.imgWord b k := fun k => by rw [State.imgWord, State.imgWord, hflash]
  simp only [State.verifyBank, hword, hled, hflash]

theorem flashOpDone_verify (s : State) (b : Nat) (hop : s.boot.flashOp = some (2, b)) (t : State) (ht : flashOpDone true s = t) :
    t.boot.flashOp = none ∧ t.get F.FL_STATUS_LAST_RESULT = verifyResult (s.verifyBank b false)
      ∧ (t.get F.FL_STATUS_VERIFIED = 1 ↔ s.verifyBank b false = 0) ∧ Frame [A.FL_STATUS] s t := by
  have hver : s.flashIdle.verifyBank b false = s.verifyBank b false := s.verifyBank_congr _ b false rfl rfl rfl
  have heq : t = (s.flashIdle.set F.FL_STATUS_LAST_RESULT (verifyResult (s.verifyBank b false))).set F.FL_STATUS_VERIFIED
      (boolBit (s.verifyBank b false == 0)) := by
    rw [← ht, flashOpDone, hop, ← hver]
    rfl
  rw [heq]
  generalize s.verifyBank b false = w
  refine ⟨rfl, ?_, ?_, (s.flashIdle_frame.set _ _).set _ _⟩
  · have hres : verifyResult w < 256 := by
      unfold verifyResult
      split <;> decide
    rw [State.get_set_disjoint _ _ _ _ (by decide) (by decide) (by decide)]
    exact State.get_set_lt _ F.FL_STATUS_LAST_RESULT _ (by decide) (by decide) hres
  · rw [State.get_set_self _ _ _ (by decide) (by decide)]
    rcases Nat.eq_zero_or_pos w with rfl | hw
    · exact iff_of_true rfl rfl
    · have hne : (w == 0) = false := beq_false_of_ne hw.ne'
      rw [hne]
      exact iff_of_false (by decide) hw.ne'

/-- Settles O21: on the bank that booted every operation is refused; on the other each has its effect. -/
theorem writingAnImage : Obligations.WritingAnImage := by
  unfold Obligations.WritingAnImage
  refine ⟨fun s b ⟨hrails, hpin⟩ hb hrec hbank => ?_, fun s b ⟨hrails, hpin⟩ hb hrec hbank => ?_⟩
  · have hbooted := (s.isBooted_iff b hrec).mpr hbank
    have hctrl : ∀ op, lively s b 2 (fun s => s.flashCtrl op b) = .next (s.set F.FL_STATUS_LAST_RESULT 1) := fun op =>
      (lively_powered s b 2 _ hb hrails hpin).trans (congrArg _ (s.flashCtrl_booted op b hbooted))
    exact ⟨hctrl 1, hctrl 2, hctrl 3, hctrl 4⟩
  · have hnot : ¬ s.isBooted b = true := fun he => by
      have := (s.isBooted_iff b hrec).mp he
      omega
    have hctrl : ∀ op, lively s b 2 (fun s => s.flashCtrl op b) = .next (s.flashCtrl op b) := fun op => lively_powered s b 2 _ hb hrails hpin
    have hlive : ∀ f, live s f = .next (f s) := fun f => live_powered s f hrails hpin
    refine ⟨fun hidle => ?_, fun hidle => ?_, fun hv => ?_, fun hv => ?_, ?_, fun v hfree hal hlt => ?_, fun hop => ?_, fun hop => ?_⟩
    · obtain ⟨h1, h2, hframe⟩ := flashCtrl_begins s 1 b (.inl rfl) hnot hidle
      exact ⟨_, hctrl 1, h1, h2, hframe.regs, hframe.bytes⟩
    · obtain ⟨h1, h2, hframe⟩ := flashCtrl_begins s 2 b (.inr rfl) hnot hidle
      exact ⟨_, hctrl 2, h1, h2, hframe.regs, hframe.bytes⟩
    · obtain ⟨h1, h2, h3, hframe⟩ := ledgerAdd_result s _ _ (flashCtrl_armTrial s b hnot hv).symm
      exact ⟨_, hctrl 3, ⟨_, _, h1⟩, h2, h3, hframe.regs, hframe.bytes⟩
    · refine ⟨_, (hctrl 3).trans (congrArg _ (flashCtrl_unverified s b hnot hv)), rfl, ?_⟩
      exact State.get_set_lt _ F.FL_STATUS_LAST_RESULT 9 (by decide) (by decide) (by decide)
    · obtain ⟨h1, h2, -, hframe⟩ := ledgerAdd_result s _ _ (flashCtrl_disarm s b hnot).symm
      exact ⟨_, hctrl 4, ⟨_, _, _, h1⟩, h2, hframe.regs, hframe.bytes⟩
    · exact ⟨_, (hlive _ : execFlDataWrite v s = _), flDataWrite_effect s v b hb hrec hbank hfree hal hlt _ rfl⟩
    · exact ⟨_, (hlive _ : execFlashOpDone true s = _), flashOpDone_erase s b hb hop _ rfl⟩
    · obtain ⟨h1, h2, h3, hframe⟩ := flashOpDone_verify s b hop _ rfl
      exact ⟨_, (hlive _ : execFlashOpDone true s = _), h1, h2, h3, hframe.regs, hframe.bytes⟩

end Sys2Proof.Machine

/-! The power input, and the POWER reset (R425, R432, R433, R441 to R446, R461). -/
namespace Sys2Proof.Machine

/-! ## RST_STATUS (R467) -/

theorem State.rstStatus_domain (s : State) (domain cause epoch : Nat) (h : domain < 16) :
    (s.rstStatus domain cause epoch).get F.RST_STATUS_DOMAIN = domain := by
  unfold State.rstStatus State.get
  change bits ((s.setReg A.RST_STATUS _).reg A.RST_STATUS) 55 52 = domain
  rw [State.reg_setReg_self]
  simp only [mkWord, List.foldl_cons, List.foldl_nil]
  rw [bits_putBits_disjoint _ _ _ _ _ _ (by omega) (by omega) (by omega), bits_putBits_disjoint _ _ _ _ _ _ (by omega) (by omega) (by omega),
    bits_putBits_self _ _ _ _ (by omega) (by omega)]
  exact Nat.mod_eq_of_lt h

theorem State.rstStatus_cause (s : State) (domain cause epoch : Nat) (h : cause < 16) :
    (s.rstStatus domain cause epoch).get F.RST_STATUS_CAUSE = cause := by
  unfold State.rstStatus State.get
  change bits ((s.setReg A.RST_STATUS _).reg A.RST_STATUS) 51 48 = cause
  rw [State.reg_setReg_self]
  simp only [mkWord, List.foldl_cons, List.foldl_nil]
  rw [bits_putBits_disjoint _ _ _ _ _ _ (by omega) (by omega) (by omega), bits_putBits_self _ _ _ _ (by omega) (by omega)]
  exact Nat.mod_eq_of_lt h

theorem State.rstStatus_frame (s : State) (domain cause epoch : Nat) : Frame [A.RST_STATUS] s (s.rstStatus domain cause epoch) :=
  (Frame.refl _ s).setReg _ _

/-! ## POWER reset (R446, R455, R461) -/

theorem State.cutCommit_only (s : State) : s.cutCommit = { s with led := s.cutCommit.led, freeCtr := s.cutCommit.freeCtr } := by
  unfold State.cutCommit
  split <;> rfl

/-- Nothing waits in the ledger after a reset of the controllers. -/
theorem State.cutCommit_idle (s : State) : s.cutCommit.led.inFlight = [] ∧ s.cutCommit.led.pending = [] := by
  unfold State.cutCommit
  split
  next h => exact ⟨List.isEmpty_iff.mp h, rfl⟩
  · exact ⟨rfl, rfl⟩

/-- With no commit in progress the records stay. -/
theorem State.cutCommit_recs (s : State) (h : s.led.inFlight = []) : s.cutCommit.led.recs = s.led.recs := by
  rw [State.cutCommit, if_pos (by rw [h]; rfl)]
  rfl

/-- How a module that has its rails begins, whatever it holds. -/
theorem powerOn_effect (s : State) (cause epoch : Nat) (hcause : cause < 16) (t : State)
    (ht : ((s.set F.MODULE_STATE_STATE msPrecharge).alert 3).rstStatus 6 cause epoch = t) :
    t.get F.MODULE_STATE_STATE = 1 ∧ t.get F.RST_STATUS_DOMAIN = 6 ∧ t.get F.RST_STATUS_CAUSE = cause ∧ t.pwr = s.pwr ∧ t.led = s.led
      ∧ t.flashA = s.flashA ∧ t.flashB = s.flashB ∧ t.fuse = s.fuse := by
  have honly := (s.set F.MODULE_STATE_STATE msPrecharge).alert_only 3
  have hstate : ((s.set F.MODULE_STATE_STATE msPrecharge).alert 3).get F.MODULE_STATE_STATE = 1 := by
    rw [(State.alert_frame _ _).get _ (by decide)]
    exact State.get_set_lt _ F.MODULE_STATE_STATE 1 (by decide) (by decide) (by decide)
  generalize (s.set F.MODULE_STATE_STATE msPrecharge).alert 3 = u at *
  subst ht
  refine ⟨?_, u.rstStatus_domain _ _ _ (by omega), u.rstStatus_cause _ _ _ hcause, ?_⟩
  · rw [(State.rstStatus_frame _ _ _ _).get _ (by decide), hstate]
  · have honly' : u.rstStatus 6 cause epoch = { u with regs := (u.rstStatus 6 cause epoch).regs } := rfl
    rw [honly', honly, State.set_only]
    exact ⟨rfl, rfl, rfl, rfl, rfl⟩

theorem powerReset_effect (s : State) (cause vin : Nat) (hcause : cause < 16) (t : State) (ht : s.powerReset cause vin = t) :
    t.powered ∧ t.get F.MODULE_STATE_STATE = 1 ∧ t.get F.RST_STATUS_DOMAIN = 6 ∧ t.get F.RST_STATUS_CAUSE = cause ∧ t.pwr.vin = vin
      ∧ t.pwr.mated = (s.pwr.mated && cause != 4) ∧ t.led = s.cutCommit.led ∧ t.flashA = s.flashA ∧ t.flashB = s.flashB
      ∧ t.fuse = s.fuse := by
  obtain ⟨u, epoch, hu, hpwr, hled, hA, hB, hfuse⟩ : ∃ u epoch, ((State.set u F.MODULE_STATE_STATE msPrecharge).alert 3).rstStatus 6 cause epoch = t
      ∧ u.pwr = { rails := true, ctrlRails := true, vin := vin, mated := s.pwr.mated && cause != 4, modrst := false, measureDue := false }
      ∧ u.led = s.cutCommit.led ∧ u.flashA = s.flashA ∧ u.flashB = s.flashB ∧ u.fuse = s.fuse := by
    unfold State.powerReset at ht
    refine ⟨_, _, ht, ?_⟩
    rw [s.cutCommit_only]
    exact ⟨rfl, rfl, rfl, rfl, rfl⟩
  obtain ⟨h1, h2, h3, h4, h5, h6, h7, h8⟩ := powerOn_effect u cause epoch hcause t hu
  rw [hpwr] at h4
  refine ⟨?_, h1, h2, h3, ?_, ?_, h5.trans hled, h6.trans hA, h7.trans hB, h8.trans hfuse⟩
  · rw [State.powered, h4]
    exact ⟨rfl, rfl⟩
  · rw [h4]
  · rw [h4]

/-! ## The input (R425, R432, R433, R441 to R443) -/

theorem inputLoss_idle (s : State) (v b : Nat) (hrails : s.pwr.rails = true) (hv : v < 4200) (hflight : s.led.inFlight = [])
    (hpend : s.led.pending = []) :
    inputLoss v b s = { s with pwr := { s.pwr with rails := false, ctrlRails := false, vin := v } } := by
  have h1 : ¬ ¬ s.pwr.rails = true := by simp [hrails]
  have h2 : ¬ (s.mstate = msPrecharge ∧ 4200 ≤ v ∧ v ≤ 6000) := by omega
  have h3 : ¬ (4200 ≤ v ∧ v ≤ 6000) := by omega
  rw [inputLoss, if_neg h1, if_neg h2]
  simp only [hflight, hpend, List.isEmpty_nil, Bool.not_true, Bool.and_false, Bool.false_and, if_neg h3, Bool.false_eq_true, if_false]

theorem inputLoss_busy (s : State) (v b : Nat) (hrails : s.pwr.rails = true) (hv : v < 4200) (hflight : s.led.inFlight ≠ []) :
    inputLoss v b s = { s with pwr := { s.pwr with rails := false, ctrlRails := true, vin := v } } := by
  have h1 : ¬ ¬ s.pwr.rails = true := by simp [hrails]
  have h2 : ¬ (s.mstate = msPrecharge ∧ 4200 ≤ v ∧ v ≤ 6000) := by omega
  have h3 : ¬ (4200 ≤ v ∧ v ≤ 6000) := by omega
  have h4 : s.led.inFlight.isEmpty = false := by simpa using hflight
  rw [inputLoss, if_neg h1, if_neg h2]
  simp only [h4, Bool.false_and, if_neg h3]
  simp only [Bool.false_eq_true, if_false, h4, Bool.not_false]

theorem vinWarn_inRange (s : State) (v : Nat) (h1 : 4400 ≤ v) (h2 : v ≤ 5800) : vinWarn v s = { s with pwr := { s.pwr with vin := v } } :=
  if_neg (by omega)

theorem vinWarn_low (s : State) (v : Nat) (h1 : 4200 ≤ v) (h2 : v < 4400) :
    vinWarn v s = ({ s with pwr := { s.pwr with vin := v } } : State).alert 1 :=
  if_pos (.inl ⟨h1, h2⟩)

theorem prechargeDone_eq (s : State) (v : Nat) (hst : s.get F.MODULE_STATE_STATE = 1) (hmated : s.pwr.mated = true) (h1 : 4400 ≤ v)
    (h2 : v ≤ 5800) (hok : s.holdupOk 80 (s.get F.HU_STATUS_V_BANK) = true) :
    prechargeDone v s = (({ s with pwr := { s.pwr with vin := v } } : State).clearHold 1).setMState 2 :=
  if_pos ⟨hst, hmated, h1, h2, hok⟩

theorem State.clearHold_vin (s : State) (c : Nat) : (s.clearHold c).pwr.vin = s.pwr.vin := by
  unfold State.clearHold
  split <;> rfl

theorem State.showHold_attn (s : State) (l : List Nat) (hl : l.headD 0 ≠ 0) : ((s.showHold l).get F.SB_ATTN_CAUSE).testBit 1 = true := by
  unfold State.showHold
  rw [State.get_set_self _ _ _ (by decide) (by decide), if_neg hl]
  generalize State.get _ F.SB_ATTN_CAUSE = x
  have hmod : (x % 2 + 2) % 2 ^ (F.SB_ATTN_CAUSE.hi + 1 - F.SB_ATTN_CAUSE.lo) / 2 = 1 := by
    change (x % 2 + 2) % 4 / 2 = 1
    omega
  rw [Nat.testBit_succ, hmod]
  rfl

/-- Settles O17: what each event of the input does, with the POWER reset said once. -/
theorem powerInput : Obligations.PowerInput := by
  unfold Obligations.PowerInput
  refine ⟨fun s v b hrails hv => ⟨fun hflight hpend => ?_, fun hflight => ?_⟩, fun s v hrails hctrl hv => ?_, fun s v hrails hctrl hv => ?_,
    fun s ⟨hrails, hpin⟩ => ?_⟩
  · exact (congrArg Host.Outcome.next (inputLoss_idle s v b hrails hv hflight hpend) : execInputLoss v b s = _)
  · exact (congrArg Host.Outcome.next (inputLoss_busy s v b hrails hv hflight) : execInputLoss v b s = _)
  · have hreset : powerApplied v s = s.powerReset 4 v := if_pos ⟨by simp [hrails], by simp [hctrl], hv⟩
    obtain ⟨h1, h2, h3, h4, h5, h6, h7, h8, h9, h10⟩ := powerReset_effect s 4 v (by omega) _ rfl
    refine ⟨_, (congrArg Host.Outcome.next hreset : execPowerApplied v s = _), h1, h2, h5, h3, h4, fun he => ?_, ?_, h8, h9, h10⟩
    · rw [h7, s.cutCommit_recs he]
    · rw [h6, bne_self_eq_false, Bool.and_false]
  · have hdone : ledgerCommitDone s = { s with led := s.led.commit, pwr := { s.pwr with ctrlRails := false } } :=
      (if_neg (by simp [hrails])).trans (if_pos hctrl)
    have hreset : inputReturn v s = ({ s with led := s.led.commit, pwr := { s.pwr with ctrlRails := false } } : State).powerReset 4 v :=
      (if_pos ⟨by simp [hrails], hctrl, hv⟩).trans (congrArg (State.powerReset · 4 v) hdone)
    obtain ⟨h1, h2, -, h4, -, -, h7, h8, h9, -⟩ :=
      powerReset_effect ({ s with led := s.led.commit, pwr := { s.pwr with ctrlRails := false } } : State) 4 v (by omega) _ rfl
    refine ⟨_, (congrArg Host.Outcome.next hreset : execInputReturn v s = _), h1, h2, h4, ?_, ?_, h8, h9⟩
    · rw [h7, (State.cutCommit_idle _).1]
    · rw [h7, (State.cutCommit_idle _).2]
  · have hlive : ∀ f, live s f = .next (f s) := fun f => live_powered s f hrails hpin
    refine ⟨?_, (hlive _ : execPrsntDebounced s = _), fun v h1 h2 => ?_, fun v h1 h2 => ?_,
      fun v hst hmated h1 h2 hmeas hage hcap => ?_, fun hst => ?_⟩
    · obtain ⟨h1, h2, h3, h4, -, h6, h7, h8, h9, -⟩ := powerReset_effect s 5 s.pwr.vin (by omega) _ rfl
      refine ⟨_, (hlive _ : execRestart s = _), h1, h2, h3, h4, fun he => ?_, ?_, ?_, h8, h9⟩
      · rw [h7, s.cutCommit_recs he]
      · rw [h7, s.cutCommit_idle.2]
      · rw [h6]
        exact Bool.and_true _
    · exact (hlive _ : execVinWarn v s = _).trans (congrArg _ (vinWarn_inRange s v h1 h2))
    · have hframe : Frame [A.ALERT_CAUSE] s (({ s with pwr := { s.pwr with vin := v } } : State).alert 1) :=
        (Frame.refl _ s).plain.trans (State.alert_frame _ 1)
      refine ⟨_, (hlive _ : execVinWarn v s = _).trans (congrArg _ (vinWarn_low s v h1 h2)), State.alert_bit _ 1 (by omega), ?_, hframe.regs,
        hframe.bytes⟩
      rw [State.alert_only]
    · have hok := s.holdupOk_of 80 _ _ rfl hmeas hage hcap
      refine ⟨_, (hlive _ : execPrechargeDone v s = _), ?_, ?_, ((Keeps.refl s).prechargeDone v).bytes⟩
      · rw [prechargeDone_eq s v hst hmated h1 h2 hok]
        exact State.setMState_mstate _ 2 (by omega)
      · rw [prechargeDone_eq s v hst hmated h1 h2 hok, State.setMState_only]
        exact State.clearHold_vin _ 1
    · have hhold : prechargeTimeout s = s.setHold 1 := if_pos hst
      refine ⟨_, (hlive _ : execPrechargeTimeout s = _).trans (congrArg _ hhold), s.setHold_cause 1 (by omega), s.showHold_attn _ ?_,
        (s.showHold_frame _).regs, (s.showHold_frame _).bytes⟩
      exact Nat.one_ne_zero

end Sys2Proof.Machine

/-! What the operations on a port touch (R299, R359, R383, R387). -/
namespace Sys2Proof.Machine

/-! ## Packets that leave or are dropped -/

theorem State.giveCredit_frame (l : List Nat) (s : State) (src : Nat) (p : Packet) (cls : Nat) : Frame l s (s.giveCredit src p cls) :=
  (Frame.refl _ s).plain.ite (Frame.refl _ s)

theorem State.giveCredit_only (s : State) (src : Nat) (p : Packet) (cls : Nat) :
    s.giveCredit src p cls = { s with sent := (s.giveCredit src p cls).sent } := by
  unfold State.giveCredit
  split <;> rfl

/-! ## What the operations on a port touch -/

/-- The registers of the ports, and those in which the router, the fault collector and the units show what happens to a port. -/
def portArea (a : Nat) : Bool :=
  (0x300000000200 ≤ a && a < 0x300000000800) || (0x300000010000 ≤ a && a < 0x30000001C000) || (0x300000040000 ≤ a && a < 0x300000042000)
    || [A.RT_DROP, A.FAULT_LOST, A.MGMT_ERR, A.ALERT_CAUSE].contains a

/-- What an operation on ports leaves of the module, from state `o` on: every register outside the ports' own, and every part but the ports,
the router, the queues of the slow plane, the output and the cages' supply. -/
structure PortOp (o s : State) : Prop where
  regs : ∀ a, portArea a = false → s.reg a = o.reg a
  only : s = { o with
    regs := s.regs, mgmt := s.mgmt, colok := s.colok, pwr := s.pwr, opt := s.opt, rt := s.rt, sent := s.sent, freeCtr := s.freeCtr }
  cage : s.pwr = { o.pwr with cage12V := s.pwr.cage12V }

namespace PortOp

theorem refl (s : State) : PortOp s s := ⟨fun _ _ => rfl, rfl, rfl⟩

theorem trans {o s t : State} (h : PortOp o s) (h' : PortOp s t) : PortOp o t := by
  refine ⟨fun a ha => (h'.regs a ha).trans (h.regs a ha), ?_, ?_⟩
  · rw [h'.only, h.only]
  · rw [h'.cage, h.cage]

theorem ite {o s t : State} {c : Prop} [Decidable c] (hs : PortOp o s) (ht : PortOp o t) : PortOp o (if c then s else t) := by
  split
  · exact hs
  · exact ht

theorem foldl {o : State} {α : Type} (f : State → α → State) (l : List α) (hf : ∀ s, ∀ a ∈ l, PortOp o s → PortOp o (f s a)) {s : State}
    (hs : PortOp o s) : PortOp o (l.foldl f s) :=
  l.foldlRecOn f (motive := PortOp o) hs fun s hs a ha => hf s a ha hs

theorem forN {o s : State} (hs : PortOp o s) (n : Nat) (f : State → Nat → State) (hf : ∀ s, ∀ i < n, PortOp o s → PortOp o (f s i)) :
    PortOp o (s.forN n f) :=
  foldl f _ (fun s i hi => hf s i (List.mem_range.mp hi)) hs

section
variable {o s : State} (hs : PortOp o s)
include hs

theorem get (f : Field) (hf : portArea f.addr = false := by decide) : s.get f = o.get f := State.get_congr f (hs.regs _ hf)

theorem setReg (a : Nat) (w : Word) (ha : portArea a = true) : PortOp o (s.setReg a w) := by
  refine hs.trans ⟨fun b hb => State.reg_setReg_ne _ _ _ _ fun e => ?_, rfl, rfl⟩
  rw [e, ha] at hb
  cases hb

theorem set (f : Field) (v : Nat) (hf : portArea f.addr = true) : PortOp o (s.set f v) := hs.setReg _ _ hf

theorem bump (f : Field) (hf : portArea f.addr = true) : PortOp o (s.bump f) := hs.set _ _ hf

/-- Updates of the parts that ports share. -/
theorem plain {mgmt : Mgmt} {colok : List ColokPort} {opt : List Optic} {rt : Router} {sent : List Egress} {freeCtr : Nat} :
    PortOp o { s with mgmt := mgmt, colok := colok, opt := opt, rt := rt, sent := sent, freeCtr := freeCtr } :=
  hs.trans ⟨fun a _ => State.reg_congr a rfl rfl rfl rfl, rfl, rfl⟩

theorem alert (c : Nat) : PortOp o (s.alert c) := by
  have h : PortOp s (s.set F.ALERT_CAUSE_CAUSE (s.get F.ALERT_CAUSE_CAUSE + 2 ^ c)) := (refl s).set _ _ (by decide)
  exact hs.trans ((refl s).ite (h.plain.ite h))

theorem faultKey (key code unit : Nat) (slow : Bool) (detail : Word) : PortOp o (s.faultKey key code unit slow detail) :=
  hs.ite (((hs.bump F.FAULT_LOST_COUNT (by decide)).ite hs.plain).plain)

theorem faultOnce (code unit : Nat) (slow : Bool) (detail : Word) : PortOp o (s.faultOnce code unit slow detail) := hs.faultKey _ _ _ _ _

theorem post (die : Nat) (e : Event) : PortOp o (s.post die e) := (hs.bump F.MGMT_ERR_EVQ_LOST (by decide)).ite hs.plain

theorem setUnit (p st : Nat) (hp : p < 14) : PortOp o (s.setUnit (entPort p) st) := by
  have harea : portArea (F.UNIT_STATE_STATE (entPort p)).addr = true := by
    interval_cases p <;> decide
  have hfollow : (s.set (F.UNIT_STATE_STATE (entPort p)) st).reFollow (entPort p) st = s.set (F.UNIT_STATE_STATE (entPort p)) st :=
    if_pos (.inl (by unfold entPort; omega))
  unfold State.setUnit
  rw [hfollow]
  exact (((hs.set _ _ harea).post _ _).alert 4).ite ((hs.set _ _ harea).post _ _)

end

/-! ### Ports and the router -/

/-- The registers of a port's page. -/
theorem portArea_page (p k : Nat) (hp : p < 14) (hk : k < 0x1000) : portArea (optReg p + k) = true := by
  have hpage : optReg p = if p < 12 then 0x300000010000 + 0x1000 * p else 0x300000040000 + 0x1000 * (p - 12) := rfl
  rw [portArea, hpage]
  split <;> simp <;> omega

section
variable {o s : State} (hs : PortOp o s)
include hs

theorem modOptic (p : Nat) (f : Optic → Optic) : PortOp o (s.modOptic p f) := hs.plain

theorem setPhase (p n : Nat) (hp : p < 14) : PortOp o (s.setPhase p n) := (hs.set _ _ (portArea_page p 0x10 hp (by omega))).modOptic _ _

theorem setCage (p : Nat) (on : Bool) : PortOp o (s.cage p on) :=
  hs.trans ⟨fun a _ => State.reg_congr a rfl rfl rfl rfl, rfl, rfl⟩

theorem down (p type target value : Nat) : PortOp o (s.down p type target value) := hs.plain

theorem laser (p comb : Nat) (on : Bool) : PortOp o (s.laser p comb on) := hs.plain

theorem giveCredit (src : Nat) (p : Packet) (cls : Nat) : PortOp o (s.giveCredit src p cls) := hs.plain.ite hs

theorem sendOut (p i r cls : Nat) : PortOp o (s.sendOut p i r cls) := by
  unfold State.sendOut
  split
  · exact hs
  · exact (hs.plain.giveCredit _ _ _).ite hs.plain

theorem dropFor (p : Nat) : PortOp o (s.dropFor p) := by
  unfold State.dropFor
  refine foldl _ _ (fun s h _ hs => hs.giveCredit _ _ _) (plain ?_)
  exact (hs.set F.RT_DROP_PORT_DOWN _ (by decide)).faultOnce _ _ _ _

theorem pumpAll : PortOp o s.pumpAll :=
  (State.pump_induct (PortOp o) (fun _ p h => h.dropFor p) (fun _ _ _ _ _ h => h.plain.sendOut _ _ _ _) _ s hs).plain

theorem portFresh (p : Nat) : PortOp o (s.portFresh p) := hs.plain

theorem colokDrop (c : Nat) (hc : c < 2) : PortOp o (s.colokDrop c) := by
  have harea : portArea (A.COLOK_SEQ c) = true ∧ portArea (F.COLOK_STATE_VER_VALID c).addr = true := by
    interval_cases c <;> exact ⟨by decide, by decide⟩
  exact (hs.plain.setReg _ _ harea.1).set _ _ harea.2

theorem linkDown (p : Nat) (hp : p < 14) : PortOp o (s.linkDown p) := by
  have h1 : PortOp o (if p < 12 then s.set (F.SPK_CAD_DELAY_VALID p) 0 else s.colokDrop (p - 12)) := by
    split
    · exact hs.set _ _ (portArea_page p 0 hp (by omega))
    · exact hs.colokDrop _ (by omega)
  exact (h1.post _ _).ite h1

theorem spareOff (p : Nat) (hp : p < 14) : PortOp o (s.spareOff p) :=
  ((hs.set _ _ (portArea_page p 0x10 hp (by omega))).laser _ _ _).ite hs

theorem setRing (p r v : Nat) (hp : p < 14) (hr : r < 18) : PortOp o (s.set (ringLocked p r) v) := by
  unfold ringLocked
  split
  · exact hs.set _ _ (by rw [show (F.RING_TX_LOCKED p r).addr = optReg p + (0x180 + 0x8 * r) from Nat.add_assoc _ _ _]
                         exact portArea_page _ _ hp (by omega))
  · exact hs.set _ _ (by rw [show (F.RING_RX_LOCKED p (r - 9)).addr = optReg p + (0x200 + 0x8 * (r - 9)) from Nat.add_assoc _ _ _]
                         exact portArea_page _ _ hp (by omega))

theorem setLane (p l v : Nat) (f : Field) (hf : f.addr = A.LANE_STATE p l) (hp : p < 14) (hl : l < 9) : PortOp o (s.set f v) := by
  refine hs.set _ _ ?_
  rw [hf, show A.LANE_STATE p l = optReg p + (0x100 + 0x8 * l) from Nat.add_assoc _ _ _]
  exact portArea_page _ _ hp (by omega)

theorem freshLane (p l : Nat) (hp : p < 14) (hl : l < 9) : PortOp o
    ((((s.set (F.LANE_STATE_ROLE p l) 0xF).set (F.LANE_STATE_HEALTH p l) 0).set (ringLocked p l) 0).set (ringLocked p (l + 9)) 0) :=
  (((hs.setLane p l _ _ rfl hp hl).setLane p l _ _ rfl hp hl).setRing p l _ hp (by omega)).setRing p (l + 9) _ hp (by omega)

theorem freshState (p : Nat) (hp : p < 14) : PortOp o (((s.set (F.OPT_STATE_SPARE_USE p) 0xF).set (F.OPT_STATE_SPARE_PERM p) 0).set
    (F.OPT_STATE_LANE_OK p) 0) := by
  have hpage : portArea (A.OPT_STATE p) = true := portArea_page p 0x10 hp (by omega)
  exact ((hs.set _ _ hpage).set _ _ hpage).set _ _ hpage

theorem opticsFresh (p : Nat) (hp : p < 14) : PortOp o (s.opticsFresh p) := by
  have hlanes : ∀ l ∈ List.range (laneCount p), l < 9 := fun l hl => by
    have hle : laneCount p ≤ 9 := by
      unfold laneCount
      split <;> omega
    exact (List.mem_range.mp hl).trans_le hle
  have h1 := foldl _ _ (fun s l hl hs => freshLane (o := o) (s := s) hs p l hp (hlanes l hl)) hs
  have h2 := freshState h1 p hp
  have h3 := h2.set (F.SPK_STEER_STATUS_STATE p) 0 (portArea_page p 0x70 hp (by omega))
  unfold State.opticsFresh
  exact modOptic ((ite (c := p < 12) h3 h2).set (F.LINK_VER_VALID p) 0 (portArea_page p 0x48 hp (by omega))) p _

theorem portFail (p reason : Nat) (hp : p < 14) : PortOp o (s.portFail p reason) := by
  have h2 := ((((hs.linkDown p hp).setPhase p 8 hp).set (F.OPT_STATE_FAIL_REASON p) reason (portArea_page p 0x10 hp (by omega)))).setUnit p usDown hp
  exact (h2.portFresh _).pumpAll.ite h2

theorem enterDetect (p : Nat) (hp : p < 14) : PortOp o (s.enterDetect p) := by
  have h2 := (((((hs.linkDown p hp).spareOff p hp).opticsFresh p hp).setPhase p 1 hp).setUnit p usStarting hp).setCage p true
  exact hs.ite ((h2.portFresh _).pumpAll.ite h2)

theorem portEnable (p : Nat) (hp : p < 14) : PortOp o (s.portEnable p) := by
  have hpage := portArea_page p 0x10 hp (by omega)
  exact hs.ite ((hs.portFail p 1 hp).ite ((((hs.set (F.OPT_STATE_ATTEMPTS p) 0 hpage).set (F.OPT_STATE_FAIL_REASON p) 0 hpage).enterDetect p
    hp).modOptic _ _))

theorem portNone (p : Nat) (hp : p < 14) : PortOp o (s.portNone p) := by
  unfold State.portNone
  exact (((hs.linkDown p hp).setPhase p 0 hp).setCage p false).modOptic p _

end
end PortOp

end Sys2Proof.Machine

/-! The module's states from IMAGE to SERVICE and RETIRE (R237, R429, R434, R435, R445, R446, R452). -/
namespace Sys2Proof.Machine

/-! ## Folds over registers -/

theorem Frame.foldl {l : List Nat} {o : State} {α : Type} (f : State → α → State) (xs : List α)
    (hf : ∀ s, ∀ x ∈ xs, Frame l o s → Frame l o (f s x))
    {s : State} (hs : Frame l o s) : Frame l o (xs.foldl f s) :=
  xs.foldlRecOn f (motive := Frame l o) hs fun s hs x hx => hf s x hx hs

theorem Frame.forN {l : List Nat} {o s : State} (hs : Frame l o s) (n : Nat) (f : State → Nat → State)
    (hf : ∀ s, ∀ i < n, Frame l o s → Frame l o (f s i)) : Frame l o (s.forN n f) :=
  Frame.foldl f _ (fun s i hi => hf s i (List.mem_range.mp hi)) hs

/-- What every step of a counted fold leaves, the fold leaves. -/
theorem State.forN_keeps {α : Type} (g : State → α) (s : State) (n : Nat) (f : State → Nat → State) (hf : ∀ s, ∀ i < n, g (f s i) = g s) :
    g (s.forN n f) = g s :=
  (List.range n).foldlRecOn f (motive := fun t => g t = g s) rfl fun t ht i hi => (hf t i (List.mem_range.mp hi)).trans ht

theorem State.on_eq_false (s : State) (f : Field) (hf : f.hi = f.lo) (h : s.get f = 0) : ¬ s.on f = true := fun he => by
  rw [(s.on_iff_eq_one f hf).mp he] at h
  cases h

/-- The sideband mirrors the state of the module from IMAGE on (R422). -/
theorem State.setMState_mirror (s : State) (m : Nat) (hm : 2 ≤ m) (hlt : m < 8) : (s.setMState m).get F.SB_STATE_STATE = m := by
  unfold State.setMState
  extract_lets s1 s2
  have h2 : s2.get F.SB_STATE_STATE = m := by
    have hsb : s2 = s1.set F.SB_STATE_STATE m := if_pos hm
    rw [hsb]
    exact State.get_set_lt _ F.SB_STATE_STATE m (by decide) (by decide) hlt
  rw [(State.colokAlert_frame _ _).get _ (by decide)]
  split
  · exact h2
  · rw [(State.alert_frame _ _).get _ (by decide), h2]

/-! ## From IMAGE to TRAIN (R445, R446, R452) -/

/-- The registers that the entry to TRAIN touches, besides the units' own. -/
def trainRegs : List Nat := [A.MODULE_STATE, A.SB_STATE, A.ALERT_CAUSE, A.BOOT_STATUS]

/-- The units' states lie apart from the state of the module and from BOOT_STATUS. -/
theorem notUnitState : A.MODULE_STATE ∉ (List.range 187).map A.UNIT_STATE ∧ A.BOOT_STATUS ∉ (List.range 187).map A.UNIT_STATE := by
  refine ⟨fun h => ?_, fun h => ?_⟩
  · obtain ⟨n, -, hn⟩ := List.mem_map.mp h
    unfold A.UNIT_STATE A.MODULE_STATE pageReg at hn
    omega
  · obtain ⟨n, hlt, hn⟩ := List.mem_map.mp h
    have hlt := List.mem_range.mp hlt
    unfold A.UNIT_STATE A.BOOT_STATUS pageReg mgmtReg at hn
    omega

theorem enterTrain_effect (s t : State) (ht : s.enterTrain = t) : t.get F.MODULE_STATE_STATE = 3 ∧ t.boot = s.boot
    ∧ (∀ f : Field, f.addr = A.BOOT_STATUS → (f.hi < 16 ∨ 23 < f.lo) → t.get f = s.get f)
    ∧ Frame (trainRegs ++ (List.range 187).map A.UNIT_STATE) s t := by
  subst ht
  unfold State.enterTrain
  extract_lets s1
  have hstate : s1.get F.MODULE_STATE_STATE = 3 :=
    (State.get_set_ne _ _ _ _ (by decide)).trans (State.setMState_mstate _ 3 (by decide))
  have hboot : s1.boot = s.boot := by
    change (State.setMState _ msTrain).boot = _
    rw [State.setMState_only]
  have hstatus : ∀ f : Field, f.addr = A.BOOT_STATUS → (f.hi < 16 ∨ 23 < f.lo) → s1.get f = s.get f := fun f hf hd => by
    refine (State.get_set_disjoint _ _ _ _ (by decide) (by decide) ?_).trans ?_
    · exact hd
    · rw [(State.setMState_frame _ _).get f (by rw [hf]; decide)]
      rfl
  have h1 : Frame (trainRegs ++ (List.range 187).map A.UNIT_STATE) s s1 := by
    refine ((Frame.refl _ s).plain.next (State.setMState_frame _ msTrain) ?_).bump F.BOOT_STATUS_BOOTS ?_
    · intro a ha
      exact List.mem_append_left _
          (by simpa [trainRegs] using Or.elim3 (by simpa using ha) Or.inl (fun h => .inr (.inl h)) fun h => .inr (.inr (.inl h)))
    · exact List.mem_append_left _ (by decide)
  clear_value s1
  have hunits : Frame ((List.range 187).map A.UNIT_STATE) s1 (s1.forN 187 fun s n =>
      if s.absent n then s.set (F.UNIT_STATE_STATE n) usAbsent else s.set (F.UNIT_STATE_STATE n) usStarting) := by
    refine (Frame.refl _ s1).forN _ _ fun s n hn hs => ?_
    have hmem : A.UNIT_STATE n ∈ (List.range 187).map A.UNIT_STATE := List.mem_map.mpr ⟨n, List.mem_range.mpr hn, rfl⟩
    exact (hs.set (F.UNIT_STATE_STATE n) _ hmem).ite (hs.set (F.UNIT_STATE_STATE n) _ hmem)
  obtain ⟨hmod, hbs⟩ := notUnitState
  refine ⟨(hunits.get _ hmod).trans hstate, ?_, fun f hf hd => ?_, ?_⟩
  · refine (State.forN_keeps State.boot s1 187 _ fun s n _ => ?_).trans hboot
    split <;> rfl
  · exact (hunits.get f (hf ▸ hbs)).trans (hstatus f hf hd)
  · exact h1.next hunits (List.subset_append_right _ _)

/-- What bringing the units up leaves of the boot, and the state it ends in. -/
theorem bringUp_effect (s t : State) (ht : s.bringUp = t) : t.get F.MODULE_STATE_STATE = 3 ∧ t.boot = s.boot
    ∧ ∀ f : Field, f.addr = A.BOOT_STATUS → (f.hi < 16 ∨ 23 < f.lo) → t.get f = s.get f := by
  obtain ⟨hstate, hboot, hstatus, -⟩ := enterTrain_effect s _ rfl
  have hports : PortOp s.enterTrain t := ht ▸ (PortOp.refl _).forN 14 _ fun s p hp hs => hs.portEnable p hp
  refine ⟨(hports.get F.MODULE_STATE_STATE).trans hstate, ?_, fun f hf hd => ?_⟩
  · rw [hports.only, hboot]
  · exact (hports.get f (hf ▸ by decide)).trans (hstatus f hf hd)

theorem loadImage_effect (s : State) (b : Nat) (fb : Bool) (hb : b < 2) (t : State) (ht : s.loadImage b fb = t) :
    t.get F.BOOT_STATUS_BANK = b ∧ t.get F.BOOT_STATUS_FALLBACK = boolBit fb ∧ t.boot.recovery = false := by
  obtain ⟨u, trial, owner, hu, hrec⟩ : ∃ u : State, ∃ trial owner, s.loadImage b fb =
      (((u.set F.BOOT_STATUS_BANK b).set F.BOOT_STATUS_FALLBACK
      (boolBit fb)).set F.BOOT_STATUS_TRIAL trial).set F.BOOT_STATUS_OWNER_ONLY owner ∧ u.boot.recovery = false := ⟨_, _, _, rfl, rfl⟩
  rw [hu] at ht
  subst ht
  refine ⟨?_, ?_, hrec⟩
  · simp (disch := decide) only [State.get_set_disjoint, State.get_set_self]
    exact Nat.mod_eq_of_lt hb
  · simp (disch := decide) only [State.get_set_disjoint, State.get_set_self]
    cases fb <;> rfl

theorem State.clearHold_boot (s : State) (c : Nat) : (s.clearHold c).boot = s.boot := by
  unfold State.clearHold
  split <;> rfl

/-- A bank that verified starts. -/
theorem loadAndBringUp_effect (s : State) (b : Nat) (fb : Bool) (hb : b < 2) (t : State)
    (ht : ((s.loadImage b fb).clearHold 2).bringUp = t) :
    t.get F.MODULE_STATE_STATE = 3 ∧ t.get F.BOOT_STATUS_BANK = b ∧ t.get F.BOOT_STATUS_FALLBACK = boolBit fb ∧ t.boot.recovery = false :=
        by
  obtain ⟨hbank, hfb, hrec⟩ := loadImage_effect s b fb hb _ rfl
  obtain ⟨hstate, hboot, hstatus⟩ := bringUp_effect _ t ht
  have hhold := (s.loadImage b fb).clearHold_frame 2
  refine ⟨hstate, ?_, ?_, ?_⟩
  · rw [hstatus _ rfl (by decide), hhold.get _ (by decide), hbank]
  · rw [hstatus _ rfl (by decide), hhold.get _ (by decide), hfb]
  · rw [hboot, State.clearHold_boot, hrec]

theorem recover_effect (s t : State) (ht : s.recover = t) : t.get F.PWR_STATUS_HOLD_CAUSE = 2 ∧ t.boot.recovery = true := by
  obtain ⟨u, x, hu, hx, hrec, hhold⟩ : ∃ u : State, ∃ x : Boot, PortOp ({ u with boot := x } : State) t ∧ x.settings = u.boot.settings
      ∧ x.recovery = true ∧ u.get F.PWR_STATUS_HOLD_CAUSE = 2 := by
    refine ⟨s.setHold 2, { (s.setHold 2).boot with recovery := true }, ?_, rfl, rfl, s.setHold_cause 2 (by decide)⟩
    rw [← ht]
    refine PortOp.foldl _ _ (fun s p hp hs => (hs.portEnable p ?_).ite hs) (.refl _)
    simp only [List.mem_cons, List.not_mem_nil, or_false] at hp
    omega
  refine ⟨?_, ?_⟩
  · rw [hu.get _, State.get_with_boot _ _ _ hx, hhold]
  · rw [hu.only]
    exact hrec

/-- IMAGE_BOOT with an empty ledger: bank 0 is tried first (R452). -/
theorem imageBoot_effect (s : State) (m : Nat) (hst : s.get F.MODULE_STATE_STATE = 2) (htrial : s.boot.trialPending = false)
    (hrec : s.boot.recovery = false) (hrecs : s.led.recs = []) (t : State) (ht : imageBoot m s = t) :
    (s.verifyBank 0 (bitAt m 0) = 0 → t.get F.MODULE_STATE_STATE = 3 ∧ t.get F.BOOT_STATUS_BANK = 0 ∧ t.get F.BOOT_STATUS_FALLBACK = 0
        ∧ t.boot.recovery = false)
      ∧ (s.verifyBank 0 (bitAt m 0) ≠ 0 → s.verifyBank 1 (bitAt m 1) = 0 → t.get F.MODULE_STATE_STATE = 3
        ∧ t.get F.BOOT_STATUS_BANK = 1 ∧ t.get F.BOOT_STATUS_FALLBACK = 1 ∧ t.boot.recovery = false)
      ∧ (s.verifyBank 0 (bitAt m 0) ≠ 0 → s.verifyBank 1 (bitAt m 1) ≠ 0 → t.get F.PWR_STATUS_HOLD_CAUSE = 2 ∧ t.boot.recovery = true) :=
          by
  have hcond : s.mstate = msImage ∧ ¬ s.boot.trialPending = true ∧ ¬ s.boot.recovery = true := ⟨hst, by simp [htrial], by simp [hrec]⟩
  have hdata : bootOf s.led.bodies = (0, false, 0, 0) := by rw [Ledger.bodies, hrecs]; rfl
  unfold imageBoot at ht
  rw [if_pos hcond, hdata] at ht
  dsimp only at ht
  simp only [Bool.false_eq_true, if_false, Nat.zero_mod, Nat.sub_zero] at ht
  refine ⟨fun h0 => ?_, fun h0 h1 => ?_, fun h0 h1 => ?_⟩
  · simp only [h0, true_or, if_true] at ht
    exact loadAndBringUp_effect _ 0 false (by decide) t ht
  · simp only [h0, h1, or_true, if_true, if_false] at ht
    have hfb : (s.verifyBank 0 (bitAt m 0) != 0) = true := bne_iff_ne.mpr h0
    rw [hfb] at ht
    exact loadAndBringUp_effect _ 1 true (by decide) t ht
  · simp only [h0, h1, or_self, if_false] at ht
    exact recover_effect _ t ht

/-! ## From TRAIN to SERVICE (R237, R446) -/

theorem Frame.countPcs {l : List Nat} {o s : State} (hs : Frame l o s) (hl : A.MAP_STATUS ∈ l) : Frame l o s.countPcs := hs.set _ _ hl

/-- The registers of the regions' sizes. -/
def sizeRegs : List Nat := (List.range 16).map A.MAP_RGN_SIZE

theorem State.setSizes_frame (s : State) (v : Nat → Nat) :
    Frame sizeRegs s ((List.range 16).foldl (fun (s : State) r => s.set (F.MAP_RGN_SIZE_SIZE r) (v r)) s) :=
  Frame.foldl _ _ (fun _ r hr hs => hs.set (F.MAP_RGN_SIZE_SIZE r) (v r) (List.mem_map.mpr ⟨r, hr, rfl⟩)) (.refl _ s)

/-- A map in force counts as the next generation. -/
theorem State.applyMap_gen (s : State) (rs : List Region) :
    (s.applyMap rs).get F.MAP_STATUS_GEN = (s.get F.MAP_STATUS_GEN + 1) % 256 ∧ (s.applyMap rs).map = { regions := rs, next := none } :=
        by
  have hsizes := s.setSizes_frame fun r => ((rs.find? fun g => g.idx == r).map Region.size).getD 0
  refine ⟨?_, rfl⟩
  unfold State.applyMap
  dsimp only
  generalize List.foldl _ s (List.range 16) = u at hsizes
  rw [State.get_with_map, State.wrapAdd, State.get_set_self _ _ _ (by decide) (by decide), hsizes.get _ (by decide)]
  rfl

/-- The count of the channels in the map leaves its generation. -/
theorem State.countPcs_gen (s : State) : s.countPcs.get F.MAP_STATUS_GEN = s.get F.MAP_STATUS_GEN :=
  State.get_set_disjoint _ _ _ _ (by decide) (by decide) (by decide)

theorem State.mapTrained_gen (s : State) (v : State → Nat → Nat) :
    (s.forN 16 fun s n => s.set (F.MC_PCMAP_MAPPED n) (v s n)).get F.MAP_STATUS_GEN = s.get F.MAP_STATUS_GEN := by
  refine State.forN_keeps (fun t => t.get F.MAP_STATUS_GEN) s 16 _ fun _ n _ => State.get_set_ne _ _ _ _ ?_
  change A.MAP_STATUS ≠ A.MC_PCMAP n
  unfold A.MAP_STATUS A.MC_PCMAP mapReg mcReg
  omega

theorem trainDone_effect (s : State) (hst : s.get F.MODULE_STATE_STATE = 3) (htr : s.trained = true) (t : State) (ht : trainDone s = t) :
    t.get F.MODULE_STATE_STATE = 4 ∧ t.get F.SB_STATE_STATE = 4
      ∧ (s.get F.MAP_STATUS_GEN ≠ 0 → t.map = s.map ∧ Frame [A.MODULE_STATE, A.SB_STATE, A.ALERT_CAUSE] s t)
      ∧ (s.get F.MAP_STATUS_GEN = 0 → t.get F.MAP_STATUS_GEN = 1 ∧ t.map.next = none) := by
  have heq : trainDone s = s.firstMap.setMState 4 := if_pos ⟨hst, htr⟩
  rw [heq] at ht
  subst ht
  refine ⟨State.setMState_mstate _ 4 (by decide), State.setMState_mirror _ 4 (by decide) (by decide), fun hgen => ?_, fun hgen => ?_⟩
  · have hfirst : s.firstMap = s := if_pos hgen
    rw [hfirst]
    exact ⟨by rw [State.setMState_only], s.setMState_frame 4⟩
  · rw [(State.setMState_frame _ 4).get _ (by decide), State.setMState_only, State.firstMap, if_neg (by simp [hgen])]
    have hcounted := s.mapTrained_gen State.trainedPcs
    dsimp only
    generalize s.forN 16 _ = u at hcounted
    obtain ⟨hg, hm⟩ := u.countPcs.applyMap_gen u.countPcs.imageRegions
    rw [hg, hm, u.countPcs_gen, hcounted, hgen]
    exact ⟨rfl, rfl⟩

theorem admitModule_service (s : State) (hst : s.get F.MODULE_STATE_STATE = 4) (hadm : s.admissible = true)
    (hmiss : s.pwr.missLog = false)
    (hdrop : s.pwr.dropLog = false) (htrial : s.get F.BOOT_STATUS_TRIAL = 0) : (admitModule s).get F.MODULE_STATE_STATE = 5 := by
  have hpwr : (s.setMState 5).pwr = s.pwr := by rw [State.setMState_only]
  have howed : (s.setMState 5).owedRecords =
      { s.setMState 5 with pwr := { (s.setMState 5).pwr with dropLog := false, missLog := false } } := by
    simp [State.owedRecords, hpwr, hmiss, hdrop]
  have hno : ¬ ((s.setMState 5).owedRecords.on F.BOOT_STATUS_TRIAL = true ∧ (s.setMState 5).owedRecords.led.bootNext.1
      ≠ (s.setMState 5).owedRecords.get F.BOOT_STATUS_BANK) := fun h => by
    refine State.on_eq_false _ F.BOOT_STATUS_TRIAL rfl ?_ h.1
    rw [howed, State.get_with_pwr, (s.setMState_frame 5).get _ (by decide), htrial]
  have heq : admitModule s = (s.setMState 5).owedRecords :=
    (if_neg (not_not.mpr hst)).trans ((if_neg (not_not.mpr hadm)).trans (if_neg hno))
  rw [heq, howed, State.get_with_pwr]
  exact State.setMState_mstate _ 5 (by decide)

theorem admitModule_refused (s : State) (hst : s.get F.MODULE_STATE_STATE = 4) (hadm : s.admissible = false) :
    admitModule s = s.bump F.PWR_STAT_ADMIT_REFUSED :=
  (if_neg (not_not.mpr hst)).trans (if_pos (by simp [hadm]))

/-! ## RETIRE (R429, R434, R435) -/

theorem retireRequest_effect (s : State) (h3 : 3 ≤ s.get F.MODULE_STATE_STATE) (h5 : s.get F.MODULE_STATE_STATE ≤ 5) (t : State)
    (ht : retireRequest s = t) : t.get F.MODULE_STATE_STATE = 6 ∧ t.get F.SEQ_CTRL_HOLD = 1 ∧ t.pwr.retireWait = 0 ∧ t.pwr.retireStep = 0
      ∧ Frame [A.MODULE_STATE, A.SB_STATE, A.ALERT_CAUSE, A.SEQ_CTRL] s t := by
  have heq : retireRequest s = { (s.setMState 6).set F.SEQ_CTRL_HOLD 1 with
      pwr := { ((s.setMState 6).set F.SEQ_CTRL_HOLD 1).pwr with retireWait := 0, retireStep := 0 } } := if_pos ⟨h3, h5⟩
  rw [heq] at ht
  subst ht
  refine ⟨?_, ?_, rfl, rfl, ?_⟩
  · rw [State.get_with_pwr, State.get_set_ne _ _ _ _ (by decide)]
    exact State.setMState_mstate _ 6 (by decide)
  · rw [State.get_with_pwr]
    exact State.get_set_lt _ F.SEQ_CTRL_HOLD 1 (by decide) (by decide) (by decide)
  · exact (((Frame.refl _ s).next (s.setMState_frame 6) (by simp)).set F.SEQ_CTRL_HOLD 1
      (.tail _ (.tail _ (.tail _ (.head _))))).plain

/-- The registers that a commit check, and with it a step of a RETIRE, may touch. -/
def retireRegs : List Nat := [A.PWR_STATUS, A.SB_ATTN, A.LEDGER_STATUS, A.FAULT_LOST, A.ALERT_CAUSE]

theorem State.commitAt_frame (s : State) (v : Nat) : Frame retireRegs s (s.commitAt v) := by
  have hlow : Frame retireRegs s (s.holdupLow 40) :=
    ((Frame.refl _ s).next (s.fault_frame _ _ _ _) (by simp [retireRegs])).next (State.alert_frame _ _) (by simp [retireRegs])
  exact (Frame.refl _ s).ite (((Frame.refl _ s).plain.next (State.clearHold_frame _ 3) (by simp [retireRegs])).ite
    (hlow.bump F.LEDGER_STATUS_REFUSED (by simp [retireRegs, F.LEDGER_STATUS_REFUSED])).plain)

theorem State.commitAt_step (s : State) (v : Nat) : (s.commitAt v).pwr.retireStep = s.pwr.retireStep := by
  have hhold : ∀ u : State, (u.clearHold 3).pwr.retireStep = u.pwr.retireStep := fun u => by
    unfold State.clearHold
    split <;> rfl
  have hlow : ((s.holdupLow 40).bump F.LEDGER_STATUS_REFUSED).pwr = s.pwr := by
    change (s.holdupLow 40).pwr = s.pwr
    rw [State.holdupLow, State.alert_only, State.fault_only]
  unfold State.commitAt
  split
  · rfl
  · split
    · exact hhold _
    · exact congrArg Power.retireStep hlow

/-- The end of a RETIRE: the cages lose their supply and ATTN_N is pulled low. -/
def State.retireEnd (s : State) : State :=
  let s2 := s.forN 12 fun s p => s.cage p false
  let s3 := (s2.set F.SB_ATTN_CAUSE (s2.get F.SB_ATTN_CAUSE ||| 1)).alert 3
  { s3 with pwr := { s3.pwr with retireStep := 3 } }

theorem State.retireEnd_frame (s : State) : Frame retireRegs s s.retireEnd := by
  have h2 : Frame retireRegs s (s.forN 12 fun s p => s.cage p false) := (Frame.refl _ s).forN _ _ fun s p _ hs => hs.plain
  exact ((h2.set F.SB_ATTN_CAUSE _ (by simp [retireRegs, F.SB_ATTN_CAUSE])).next (State.alert_frame _ 3) (by simp [retireRegs])).plain

/-- A step of a RETIRE: the ledger's commit and the end, or neither. -/
theorem State.retireNext_cases (s : State) : ∃ s0 : State, (s0 = s ∨ s0 = { s with pwr := { s.pwr with retireStep := 2 } })
    ∧ ∃ s1, (s1 = s0 ∨ s1 = s0.commitAt (s0.get F.HU_STATUS_V_BANK)) ∧ (s.retireNext = s1 ∨ s.retireNext = s1.retireEnd) := by
  unfold State.retireNext
  extract_lets +onlyGivenNames drained src s0 s1
  refine ⟨s0, ?_, s1, ?_, ?_⟩
  · unfold s0
    split
    · exact .inr rfl
    · exact .inl rfl
  · unfold s1
    split
    · exact .inr rfl
    · exact .inl rfl
  · split
    · exact .inr rfl
    · exact .inl rfl

theorem State.retireNext_frame (s : State) : Frame retireRegs s s.retireNext := by
  obtain ⟨s0, h0, s1, h1, h⟩ := s.retireNext_cases
  have hs0 : Frame retireRegs s s0 := by
    rcases h0 with rfl | rfl
    · exact .refl _ _
    · exact (Frame.refl _ s).plain
  have hs1 : Frame retireRegs s s1 := by
    rcases h1 with rfl | rfl
    · exact hs0
    · exact hs0.trans (s0.commitAt_frame _)
  rcases h with h | h
  · exact h ▸ hs1
  · exact h ▸ hs1.trans s1.retireEnd_frame

theorem State.retireNext_step (s : State) (h : s.pwr.retireStep ≠ 0) : s.retireNext.pwr.retireStep ≠ 0 := by
  obtain ⟨s0, h0, s1, h1, hn⟩ := s.retireNext_cases
  have hs0 : s0.pwr.retireStep ≠ 0 := by
    rcases h0 with rfl | rfl
    · exact h
    · exact two_ne_zero
  have hs1 : s1.pwr.retireStep ≠ 0 := by
    rcases h1 with rfl | rfl
    · exact hs0
    · rwa [s0.commitAt_step]
  rcases hn with hn | hn
  · rwa [hn]
  · rw [hn]
    exact Nat.succ_ne_zero 2

/-! ### The drain of every unit -/

theorem State.drainUnit_other (s : State) (n k : Nat) (hk : k < 187) (hn : n ≠ k) :
    (s.drainUnit n).get (F.UNIT_STATE_STATE k) = s.get (F.UNIT_STATE_STATE k) := by
  have hne : A.UNIT_STATE k ≠ A.UNIT_STATE n := by
    unfold A.UNIT_STATE
    omega
  have hapart := unitState_apart k hk (n - 154)
  have hset : Frame (unitRegs n) s { s.setUnit n usDraining with drains := mapInsert n s.now (mapErase s.drains n) } :=
    (s.setUnit_frame n usDraining).plain
  have hkeep := hset.get (F.UNIT_STATE_STATE k) (by
    rw [unitRegs, List.mem_cons, not_or]
    exact ⟨hne, hapart⟩)
  unfold State.drainUnit
  split
  · rfl
  · split
    · exact hkeep
    · exact hkeep
    · exact State.get_set_ne _ _ _ _ hne
    · refine (s.fault_frame _ _ _ _).get _ ?_
      simp only [F.UNIT_STATE_STATE, A.UNIT_STATE, A.FAULT_LOST, pageReg, List.mem_cons, List.not_mem_nil, or_false]
      omega
    · rfl

/-- A unit that is READY drains. -/
theorem State.drainUnit_ready (s : State) (n : Nat) (hfix : entFixed n = false) (habs : s.absent n = false)
    (hst : s.get (F.UNIT_STATE_STATE n) = 1 ∨ s.get (F.UNIT_STATE_STATE n) = 2) :
    s.drainUnit n = { s.setUnit n 3 with drains := mapInsert n s.now (mapErase s.drains n) } := by
  have hfix' : ¬ entFixed n = true := by simp [hfix]
  have hunit : s.unit n = s.get (F.UNIT_STATE_STATE n) := if_neg (by simp [habs])
  unfold State.drainUnit
  rw [if_neg hfix', hunit]
  rcases hst with h | h <;> rw [h] <;> rfl

theorem State.drainUnit_fuse (s : State) (n : Nat) : (s.drainUnit n).fuse = s.fuse := ((Keeps.refl (wr := true) s).drainUnit n).fuse

/-- The units that drain when a RETIRE begins. -/
def State.drainAll (s : State) : State := s.forN 187 fun s n => if n = 128 ∨ n = 129 ∨ s.absent n then s else s.drainUnit n

theorem State.drainAll_state (s : State) (k : Nat) (hk : k < 100) (hen : s.siteEnabled k = true) (hst : s.get (F.UNIT_STATE_STATE k) = 2)
    :
    s.drainAll.get (F.UNIT_STATE_STATE k) = 3 := by
  have hstep : ∀ m ≤ 187, ∀ u : State, u = (List.range m).foldl (fun s n => if n = 128 ∨ n = 129 ∨ s.absent n then s else s.drainUnit n) s
      →
      u.fuse = s.fuse ∧ u.get (F.UNIT_STATE_STATE k) = if k < m then 3 else 2 := by
    intro m
    induction m with
    | zero => exact fun _ u hu => hu ▸ ⟨rfl, by rw [if_neg (by omega)]; exact hst⟩
    | succ m ih =>
      intro hm u hu
      rw [List.range_succ, List.foldl_append, List.foldl_cons, List.foldl_nil] at hu
      obtain ⟨hfuse, hget⟩ := ih (by omega) _ rfl
      generalize List.foldl _ s (List.range m) = v at hu hfuse hget
      have hufuse : u.fuse = s.fuse := by
        rw [hu, ← hfuse]
        split
        · rfl
        · exact v.drainUnit_fuse m
      refine ⟨hufuse, ?_⟩
      rcases eq_or_ne m k with rfl | hne
      · have habs : v.absent m = false := by
          rw [State.absent, if_pos hk, State.siteEnabled, hfuse]
          simpa [State.siteEnabled] using hen
        have hfix : entFixed m = false := by
          unfold entFixed
          simp
          omega
        have hcond : ¬ (m = 128 ∨ m = 129 ∨ v.absent m = true) := by simp [habs]; omega
        rw [if_neg (by omega)] at hget
        rw [hu, if_neg hcond, v.drainUnit_ready m hfix habs (.inr hget), if_pos (by omega)]
        exact v.setUnit_state m 3 (by omega) (by decide)
      · have hkeep : u.get (F.UNIT_STATE_STATE k) = v.get (F.UNIT_STATE_STATE k) := by
          rw [hu]
          split
          · rfl
          · exact v.drainUnit_other m k (by omega) hne
        rw [hkeep, hget]
        congr 1
        exact propext ⟨fun h => by omega, fun h => by omega⟩
  have h := (hstep 187 (le_refl _) s.drainAll rfl).2
  rwa [if_pos (by omega)] at h

theorem unitState_notRetire (n : Nat) (hn : n < 187) : A.UNIT_STATE n ∉ retireRegs := by
  simp only [retireRegs, List.mem_cons, List.not_mem_nil, or_false, not_or]
  unfold A.UNIT_STATE A.PWR_STATUS A.SB_ATTN A.LEDGER_STATUS A.FAULT_LOST A.ALERT_CAUSE pageReg mgmtReg sbReg
  omega

theorem retireDrain_effect (s : State) (hst : s.get F.MODULE_STATE_STATE = 6) (hstep : s.pwr.retireStep = 0) (hidle : s.seqIdle = true)
    (hpend : s.get F.SEQ_RETAIN_APPLY_PENDING = 0) (t : State) (ht : retireDrain s = t) : t.pwr.retireStep ≠ 0
      ∧ ∀ n < 100, s.siteEnabled n = true → s.get (F.UNIT_STATE_STATE n) = 2 → t.get (F.UNIT_STATE_STATE n) = 3 := by
  have heq : retireDrain s = ({ s.drainAll with pwr := { s.drainAll.pwr with retireStep := 1 } } : State).retireNext :=
    by
      unfold retireDrain State.drainAll
      exact if_pos ⟨hst, hstep, .inl ⟨hidle, s.on_eq_false _ rfl hpend⟩⟩
  rw [heq] at ht
  subst ht
  refine ⟨State.retireNext_step _ (Nat.succ_ne_zero 0), fun n hn hen hready => ?_⟩
  rw [(State.retireNext_frame _).get _ ?_, State.get_with_pwr, s.drainAll_state n hn hen hready]
  exact unitState_notRetire n (hn.trans (by omega))

/-- Settles O18: the boot by its banks, the first map, and the passage of the module through JOIN, SERVICE and RETIRE. -/
theorem moduleStates : Obligations.ModuleStates := by
  unfold Obligations.ModuleStates
  intro s ⟨hrails, hpin⟩
  have hlive : ∀ f, live s f = .next (f s) := fun f => live_powered s f hrails hpin
  refine ⟨fun m hst htrial hrec hrecs => ?_, fun hst htr => ?_, fun hst hadm hmiss hdrop htrial => ?_, fun hst hadm => ?_, fun h3 h5 =>
      ?_,
    fun hst hstep hidle hpend => ?_, fun h3 h5 hcrit => ?_⟩
  · exact ⟨_, (hlive _ : execImageBoot m s = _), ((Keeps.refl s).imageBoot m).bytes, imageBoot_effect s m hst htrial hrec hrecs _ rfl⟩
  · obtain ⟨h1, h2, h3, h4⟩ := trainDone_effect s hst htr _ rfl
    exact ⟨_, (hlive _ : execTrainDone s = _), h1, h2, (Keeps.refl s).trainDone.bytes, fun h => ⟨(h3 h).1, (h3 h).2.regs⟩, h4⟩
  · exact ⟨_, (hlive _ : execAdmit s = _), admitModule_service s hst hadm hmiss hdrop htrial, (Keeps.refl s).admitModule.bytes⟩
  · exact (hlive _ : execAdmit s = _).trans (congrArg _ (admitModule_refused s hst hadm))
  · obtain ⟨h1, h2, h3, h4, hframe⟩ := retireRequest_effect s h3 h5 _ rfl
    exact ⟨_, (hlive _ : execRetireRequest s = _), h1, h2, h3, h4, hframe.regs, hframe.bytes⟩
  · obtain ⟨h1, h2⟩ := retireDrain_effect s hst hstep hidle hpend _ rfl
    exact ⟨_, (hlive _ : execRetireDrain s = _), h1, (Keeps.refl s).retireDrain.bytes, h2⟩
  · obtain ⟨h1, -, -, -, hframe⟩ := retireRequest_effect s h3 h5 _ rfl
    have heq : dieCritRetire s = { (retireRequest s).bump F.PWR_TEMP_CRIT_RETIRE with
        pwr := { ((retireRequest s).bump F.PWR_TEMP_CRIT_RETIRE).pwr with critMarks := 0 } } := if_pos hcrit
    refine ⟨_, (hlive _ : execDieCritRetire s = _), ?_, ?_, ?_, (Keeps.refl s).dieCritRetire.bytes⟩
    · rw [heq, State.get_with_pwr, State.bump, State.add, State.get_set_ne _ _ _ _ (by decide), h1]
    · rw [heq]
    · rw [heq, State.get_with_pwr, State.get_bump _ _ (by decide) (by decide), State.get_bump _ _ (by decide) (by decide),
        hframe.get _ (by decide)]

end Sys2Proof.Machine

/-! The quiesce contract of the units (R463). -/
namespace Sys2Proof.Machine

/-! ## The quiesce contract (R463) -/

theorem State.unit_present (s : State) (n : Nat) (h : s.absent n = false) : s.unit n = s.get (F.UNIT_STATE_STATE n) := if_neg
    (by simp [h])

/-- A unit that is no port starts by initialising. -/
theorem State.enableUnit_starts (s : State) (n source : Nat) (hfix : entFixed n = false) (habs : s.absent n = false)
    (hport : entIsPort n = false)
    (h : s.get (F.UNIT_STATE_STATE n) = 0 ∨ s.get (F.UNIT_STATE_STATE n) = 4) : s.enableUnit n source = s.setUnit n 1 := by
  unfold State.enableUnit State.startUnit
  rw [if_neg (by simp [hfix]), s.unit_present n habs, if_neg (by simp [hport])]
  rcases h with h | h <;> rw [h] <;> rfl

/-- An enable of a unit that drains is held. -/
theorem State.enableUnit_held (s : State) (n source : Nat) (hfix : entFixed n = false) (habs : s.absent n = false) (hn : n < 187)
    (h : s.get (F.UNIT_STATE_STATE n) = 3) : (s.enableUnit n source).get (F.UNIT_STATE_ENABLE_PENDING n) = 1
      ∧ (s.enableUnit n source).get (F.UNIT_STATE_STATE n) = 3 := by
  have hapart : A.UNIT_STATE n ∉ [A.FAULT_LOST] := by
    simp only [A.UNIT_STATE, A.FAULT_LOST, pageReg, List.mem_cons, List.not_mem_nil, or_false]
    omega
  obtain ⟨d, hd⟩ : ∃ d, s.enableUnit n source = (s.set (F.UNIT_STATE_ENABLE_PENDING n) 1).fault 0x0904 (unitOfEntry n) false d := by
    unfold State.enableUnit
    rw [if_neg (by simp [hfix]), s.unit_present n habs, h]
    exact ⟨_, rfl⟩
  rw [hd, (State.fault_frame _ _ _ _ _).get _ hapart, (State.fault_frame _ _ _ _ _).get _ hapart]
  refine ⟨State.get_set_lt _ _ _ ?_ ?_ ?_, ?_⟩
  · exact le_refl 3
  · exact Nat.lt_of_sub_eq_succ rfl
  · exact Nat.one_lt_two
  · rw [← h]
    exact State.get_set_disjoint s (F.UNIT_STATE_ENABLE_PENDING n) (F.UNIT_STATE_STATE n) 1 (le_refl 3)
      (show 3 < 64 by omega) (.inl (Nat.lt_succ_self 2))

/-- How a unit that is neither a port nor a memory controller goes down. -/
theorem State.downUnit_effect (s : State) (n : Nat) (hn : n < 187) (hport : entIsPort n = false) (hmc : n < 100 ∨ 116 ≤ n) :
    (s.downUnit n).get (F.UNIT_STATE_STATE n) = 4 ∧ mapFind (s.downUnit n).drains n = none := by
  have hstate : ({ s.setUnit n usDown with drains := mapErase s.drains n } : State).get (F.UNIT_STATE_STATE n) = 4 :=
    s.setUnit_state n 4 hn (by omega)
  have hdrains : mapFind (mapErase s.drains n) n = none := by rw [mapFind_erase, if_pos rfl]
  unfold State.downUnit
  rw [if_neg (by simp [hport]), if_neg (by omega)]
  split
  · refine ⟨?_, hdrains⟩
    rw [← hstate]
    refine State.get_set_ne _ _ _ _ ?_
    have happ := unitState_apart n hn (n - 154)
    simp only [List.mem_cons, not_or] at happ
    exact happ.1
  · exact ⟨hstate, hdrains⟩

theorem State.commitAt_drains (s : State) (v : Nat) : (s.commitAt v).drains = s.drains := by
  have hhold : ∀ u : State, (u.clearHold 3).drains = u.drains := fun u => by
    unfold State.clearHold
    split <;> rfl
  have hlow : (s.holdupLow 40).drains = s.drains := by
    rw [State.holdupLow, State.alert_only, State.fault_only]
  unfold State.commitAt
  split
  · rfl
  · split
    · exact hhold _
    · exact hlow

theorem State.retireEnd_drains (s : State) : s.retireEnd.drains = s.drains := by
  have h : (s.forN 12 fun s p => s.cage p false).drains = s.drains := State.forN_keeps State.drains s 12 _ fun u p _ => rfl
  have hend : ∀ u : State, ((u.set F.SB_ATTN_CAUSE (u.get F.SB_ATTN_CAUSE ||| 1)).alert 3).drains = u.drains := fun u => by
    rw [State.alert_only]
    rfl
  exact (hend _).trans h

theorem State.retireNext_drains (s : State) : s.retireNext.drains = s.drains := by
  obtain ⟨s0, h0, s1, h1, hn⟩ := s.retireNext_cases
  have hs0 : s0.drains = s.drains := by rcases h0 with rfl | rfl <;> rfl
  have hs1 : s1.drains = s.drains := by
    rcases h1 with rfl | rfl
    · exact hs0
    · rw [s0.commitAt_drains, hs0]
  rcases hn with hn | hn
  · rw [hn, hs1]
  · rw [hn, s1.retireEnd_drains, hs1]

/-- The end of a drain with no enable held. -/
theorem State.endDrain_effect (s : State) (n : Nat) (hn : n < 187) (habs : s.absent n = false) (hport : entIsPort n = false)
    (hmc : n < 100 ∨ 116 ≤ n) (hst : s.get (F.UNIT_STATE_STATE n) = 3) (hpend : s.get (F.UNIT_STATE_ENABLE_PENDING n) = 0) :
    (s.endDrain n).get (F.UNIT_STATE_STATE n) = 4 ∧ mapFind (s.endDrain n).drains n = none := by
  obtain ⟨hdown, hdrains⟩ := s.downUnit_effect n hn hport hmc
  have happ := unitState_notRetire n hn
  unfold State.endDrain
  rw [if_pos (show s.unit n = usDraining from (s.unit_present n habs).trans hst)]
  dsimp only
  rw [if_neg (s.on_eq_false _ rfl hpend)]
  split
  · exact ⟨((State.retireNext_frame _).get _ happ).trans hdown, by rw [State.retireNext_drains, hdrains]⟩
  · exact ⟨hdown, hdrains⟩

/-- The end of a unit's initialisation. -/
theorem unitInitDone_eq (s : State) (n : Nat) (ok : Bool) (habs : s.absent n = false) (hport : entIsPort n = false)
    (hmc : n < 100 ∨ 116 ≤ n)
    (hst : s.get (F.UNIT_STATE_STATE n) = 1) (hfar : ok = true → n ≠ 158 ∧ n ≠ 159) :
    unitInitDone n ok s = s.setUnit n (if ok then 2 else 4) := by
  unfold unitInitDone
  rw [if_neg (by simp [hport]; omega), if_pos (.inl ((s.unit_present n habs).trans hst))]
  refine if_neg fun h => ?_
  obtain ⟨h1, h2⟩ := hfar h.1
  exact h.2.elim h1 h2

/-- Settles O23, by the unit's state in each branch; a RETIRE that goes on leaves the states of the units. -/
theorem quiesceContract : Obligations.QuiesceContract := by
  unfold Obligations.QuiesceContract
  intro s n hs hn hfix habs
  have hlive (f : State → State) : lively s n 187 f = .next (f s) := lively_powered s n 187 f hn hs.1 hs.2
  have hbytes (st : Nat) : sameBytes s (s.setUnit n st) := (s.setUnit_frame n st).bytes
  refine ⟨fun hport h => ?_, fun h => ?_, fun h => ?_, fun hport hmc h hpend => ?_, fun hport hmc h => ⟨?_, fun h1 h2 => ?_⟩⟩
  · refine ⟨_, (hlive _ : execUnitEnable n s = _), ?_⟩
    rw [s.enableUnit_starts n 1 hfix habs hport h]
    exact ⟨s.setUnit_state n 1 hn (by omega), hbytes 1⟩
  · obtain ⟨h1, h2⟩ := s.enableUnit_held n 1 hfix habs hn h
    exact ⟨_, (hlive _ : execUnitEnable n s = _), h1, h2, ((Keeps.refl s).enableUnit n 1).bytes⟩
  · refine ⟨_, (hlive _ : execUnitDrain n s = _), ?_⟩
    rw [s.drainUnit_ready n hfix habs h]
    refine ⟨s.setUnit_state n 3 hn (by omega), ?_, hbytes 3⟩
    exact (mapFind_insert _ n n s.now (by rw [mapFind_erase, if_pos rfl])).trans (if_pos rfl)
  · obtain ⟨h1, h2⟩ := s.endDrain_effect n hn habs hport hmc h hpend
    exact ⟨_, (hlive _ : execUnitDrainEnd n s = _), h1, h2, ((Keeps.refl s).endDrain n).bytes⟩
  · refine ⟨_, (hlive _ : execUnitInitDone n false s = _), ?_⟩
    rw [unitInitDone_eq s n false habs hport hmc h (by simp)]
    exact ⟨s.setUnit_state n 4 hn (by omega), hbytes 4⟩
  · refine ⟨_, (hlive _ : execUnitInitDone n true s = _), ?_⟩
    rw [unitInitDone_eq s n true habs hport hmc h fun _ => ⟨h1, h2⟩]
    exact ⟨s.setUnit_state n 2 hn (by omega), hbytes 2⟩

end Sys2Proof.Machine

/-! Registers across resets, the MODULE reset and the reset of a core (R107, R148, R197, R455, R461). -/
namespace Sys2Proof.Machine

/-! ## Operations on registers alone -/

/-- All but the registers is as in `o`. -/
structure RegsOnly (o s : State) : Prop where
  eq : s = { o with regs := s.regs }

namespace RegsOnly

theorem refl (s : State) : RegsOnly s s := ⟨rfl⟩

section
variable {o s : State} (hs : RegsOnly o s)
include hs

theorem setReg (a : Nat) (w : Word) : RegsOnly o (s.setReg a w) :=
  ⟨congrArg (fun x : State => { x with regs := (s.setReg a w).regs }) hs.eq⟩

theorem set (f : Field) (v : Nat) : RegsOnly o (s.set f v) := hs.setReg _ _

theorem foldl {α : Type} (f : State → α → State) (l : List α) (hf : ∀ s a, RegsOnly o s → RegsOnly o (f s a)) : RegsOnly o
    (l.foldl f s) :=
  List.foldlRecOn (motive := RegsOnly o) _ _ hs fun s hs a _ => hf s a hs

theorem trans {t : State} (h : RegsOnly s t) : RegsOnly o t :=
  ⟨h.eq.trans (congrArg (fun x : State => { x with regs := t.regs }) hs.eq)⟩

theorem cores : s.cores = o.cores := (congrArg State.cores hs.eq).trans rfl

theorem mems : s.mems = o.mems := (congrArg State.mems hs.eq).trans rfl

end

end RegsOnly

/-! ## Registers across resets (R197) -/

/-- The kept fields of a register are put back. -/
def State.restoreKept (s : State) (p : Nat × Word) : State :=
  match keptWord s p.1 p.2 with
  | some w => s.setReg p.1 w
  | none => s

theorem State.resetRegs_eq (s : State) (lo hi : Nat) (but : List Nat) : s.resetRegs lo hi but
    = (s.regs.filter fun p => lo ≤ p.1 && p.1 < hi && !but.contains p.1).foldl State.restoreKept
      { s with regs := s.regs.filter fun p => p.1 < lo || hi ≤ p.1 || but.contains p.1 } := rfl

theorem State.resetRegs_only (s : State) (lo hi : Nat) (but : List Nat) : RegsOnly s (s.resetRegs lo hi but) := by
  rw [State.resetRegs_eq]
  refine RegsOnly.foldl ⟨rfl⟩ _ _ fun u p hu => ?_
  unfold State.restoreKept
  split
  · exact hu.setReg _ _
  · exact hu

/-- A register of the range with no kept field reads its Reset value. -/
theorem State.resetRegs_reg (s : State) (lo hi : Nat) (but : List Nat) (a : Nat) (r : RegRow) (hr : rowAt a = some r) (hkept : r.kept = 0)
    (hlo : lo ≤ a) (hhi : a < hi) (hbut : but.contains a = false) : (s.resetRegs lo hi but).reg a = regDefault s a := by
  have hnone (u : State) (w : Word) : keptWord u a w = none := by
    unfold keptWord
    rw [hr]
    exact if_pos hkept
  have hstart : mapFind (s.regs.filter fun p => p.1 < lo || hi ≤ p.1 || but.contains p.1) a = none := by
    unfold mapFind
    rw [Option.map_eq_none_iff, List.find?_eq_none]
    intro p hp
    have hp := (List.mem_filter.mp hp).2
    refine fun he => absurd hp ?_
    rw [beq_iff_eq] at he
    rw [he, hbut, decide_eq_false (not_lt.mpr hlo), decide_eq_false (not_le.mpr hhi)]
    exact Bool.false_ne_true
  have hlast : mapFind (s.resetRegs lo hi but).regs a = none := by
    rw [State.resetRegs_eq]
    refine List.foldlRecOn (motive := fun u : State => mapFind u.regs a = none) _ _ hstart fun u hu p _ => ?_
    unfold State.restoreKept
    split
    · next w hw =>
      have hne : a ≠ p.1 := by
        rintro rfl
        rw [hnone] at hw
        cases hw
      exact (mapFind_put_ne _ _ _ _ _ hne).trans hu
    · exact hu
  unfold State.reg
  rw [hlast, (s.resetRegs_only lo hi but).eq]
  rfl

theorem rowAt_alertMask : (rowAt A.ALERT_MASK).map (fun r => (r.kept, r.image, r.undef, r.reset)) = some (0, 0, false, 0x3F) := by decide

theorem rowAt_sbAttn : (rowAt A.SB_ATTN).map (fun r => (r.kept, r.image, r.undef, r.reset)) = some (0, 0, false, 0) := by decide

/-- A register with a fixed Reset value reads it after a reset of its range. -/
theorem State.resetRegs_fixed (s : State) (lo hi : Nat) (a v : Nat)
    (hrow : (rowAt a).map (fun r => (r.kept, r.image, r.undef, r.reset)) = some (0, 0, false, v)) (hlo : lo ≤ a) (hhi : a < hi) :
    (s.resetRegs lo hi []).reg a = BitVec.ofNat 64 v := by
  obtain ⟨r, hr, hf⟩ := Option.map_eq_some_iff.mp hrow
  simp only [Prod.mk.injEq] at hf
  obtain ⟨hkept, himage, hundef, hreset⟩ := hf
  rw [s.resetRegs_reg lo hi [] a r hr hkept hlo hhi rfl]
  unfold regDefault
  rw [hr]
  simp [hundef, himage, hreset]


/-! ## The MODULE reset (R461, R455) -/

theorem State.resetRegs_masks (s : State) (hi : Nat) (hmask : A.ALERT_MASK < hi) (hattn : A.SB_ATTN < hi) :
    (s.resetRegs 0 hi []).get F.ALERT_MASK_MASK = 0x3F ∧ (s.resetRegs 0 hi []).get F.SB_ATTN_CAUSE = 0 := by
  have h1 := s.resetRegs_fixed 0 hi A.ALERT_MASK 0x3F rowAt_alertMask (Nat.zero_le _) hmask
  have h2 := s.resetRegs_fixed 0 hi A.SB_ATTN 0 rowAt_sbAttn (Nat.zero_le _) hattn
  generalize s.resetRegs 0 hi [] = u at *
  unfold State.get
  exact ⟨(congrArg (bits · 5 0) h1).trans (by decide), (congrArg (bits · 1 0) h2).trans (by decide)⟩

/-- The registers a reset of the module writes once the others have their reset values. -/
def State.afterReset (s : State) (drops cause epoch : Nat) (pending : Bool) (was : Nat) : State :=
  let s3 := ((s.set F.RT_RESET_DROP_COUNT drops).set F.LEDGER_STATUS_PENDING (boolBit pending)).rstStatus 0 cause epoch
  if was = msTrain then s3 else s3.alert 3

theorem State.afterReset_frame (s : State) (drops cause epoch : Nat) (pending : Bool) (was : Nat) :
    Frame [A.RT_RESET_DROP, A.LEDGER_STATUS, A.RST_STATUS, A.ALERT_CAUSE] s (s.afterReset drops cause epoch pending was) := by
  have h3 : Frame [A.RT_RESET_DROP, A.LEDGER_STATUS, A.RST_STATUS, A.ALERT_CAUSE] s
      (((s.set F.RT_RESET_DROP_COUNT drops).set F.LEDGER_STATUS_PENDING (boolBit pending)).rstStatus 0 cause epoch) :=
    (((Frame.refl _ s).set F.RT_RESET_DROP_COUNT _).set F.LEDGER_STATUS_PENDING _ (.tail _ (.head _))).next
        (State.rstStatus_frame _ _ _ _)
      (by simp)
  exact h3.ite (h3.next (State.alert_frame _ _) (by simp))

theorem State.afterReset_status (s : State) (drops cause epoch : Nat) (pending : Bool) (was : Nat) (hcause : cause < 16) (t : State)
    (ht : s.afterReset drops cause epoch pending was = t) : t.get F.RST_STATUS_DOMAIN = 0 ∧ t.get F.RST_STATUS_CAUSE = cause := by
  subst ht
  unfold State.afterReset
  extract_lets w
  have halert (f : Field) (hf : f.addr ∉ [A.ALERT_CAUSE]) : (if was = msTrain then w else w.alert 3).get f = w.get f := by
    split
    · rfl
    · exact (w.alert_frame 3).get f hf
  exact ⟨(halert _ (by decide)).trans (State.rstStatus_domain _ 0 cause epoch (by omega)),
    (halert _ (by decide)).trans (State.rstStatus_cause _ 0 cause epoch hcause)⟩

theorem State.afterReset_only (s : State) (drops cause epoch : Nat) (pending : Bool) (was : Nat) :
    ∃ regs sent, s.afterReset drops cause epoch pending was = { s with regs := regs, sent := sent } := by
  unfold State.afterReset
  extract_lets w
  have hw : w = { s with regs := w.regs } := rfl
  clear_value w
  split
  · exact ⟨w.regs, s.sent, hw⟩
  · refine ⟨(w.alert 3).regs, (w.alert 3).sent, (w.alert_only 3).trans ?_⟩
    generalize (w.alert 3).regs = r
    generalize (w.alert 3).sent = x
    rw [hw]

theorem State.recordRetired_keeps (s : State) (n : Nat) : Frame [A.LEDGER_STATUS] s (s.recordRetired n)
    ∧ (s.recordRetired n).led.inFlight = s.led.inFlight ∧ (s.recordRetired n).led.recs = s.led.recs := by
  refine List.foldlRecOn
      (motive := fun u : State => Frame [A.LEDGER_STATUS] s u ∧ u.led.inFlight = s.led.inFlight ∧ u.led.recs = s.led.recs)
    _ _ ⟨.refl _ _, rfl, rfl⟩ fun u hu p _ => ?_
  split
  · exact ⟨hu.1.trans (u.ledgerAdd_frame _), hu.2⟩
  · exact hu

theorem State.recordRetired_only (s : State) (n : Nat) :
    s.recordRetired n = { s with regs := (s.recordRetired n).regs, led := (s.recordRetired n).led } := by
  refine List.foldlRecOn (motive := fun u : State => u = { s with regs := u.regs, led := u.led }) _ _ rfl fun u hu p _ => ?_
  split
  · rw [hu]
    rfl
  · exact hu


/-- The ledger after a reset of the module: the records that count, and the map-outs that wait. -/
theorem State.keepMapOuts_effect (s t : State) (ht : s.keepMapOuts = t) :
    (∃ regs led ctr, t = { s with regs := regs, led := led, freeCtr := ctr })
    ∧ t.seqKept = s.seqKept ∧ (s.led.inFlight = [] → t.led.recs = s.led.recs) ∧ (∀ b ∈ t.led.pending, b.isMapOut = true) := by
  subst ht
  obtain ⟨s1, hs1⟩ : ∃ s1, (s.forN 16 fun s n => s.recordRetired n) = s1 := ⟨_, rfl⟩
  have hframe : Frame [A.LEDGER_STATUS] s s1 := hs1 ▸ (Frame.refl _ s).forN 16 _ fun u n _ hu => hu.trans (u.recordRetired_keeps n).1
  have honly : s1 = { s with regs := s1.regs, led := s1.led } := by
    rw [← hs1]
    refine List.foldlRecOn (motive := fun u : State => u = { s with regs := u.regs, led := u.led }) _ _ rfl fun u hu n _ => ?_
    rw [u.recordRetired_only, hu]
  have hled : s1.led.inFlight = s.led.inFlight ∧ s1.led.recs = s.led.recs := by
    rw [← hs1]
    refine List.foldlRecOn (motive := fun u : State => u.led.inFlight = s.led.inFlight ∧ u.led.recs = s.led.recs) _ _ ⟨rfl, rfl⟩ fun u hu
        n _ => ?_
    obtain ⟨-, h1, h2⟩ := u.recordRetired_keeps n
    exact ⟨h1.trans hu.1, h2.trans hu.2⟩
  have hkept : s1.seqKept = s.seqKept := by
    have hseq : s1.seq = s.seq := by rw [honly]
    unfold State.seqKept State.pendValid State.on State.pendSlot
    rw [hframe.get F.SEQ_STEP_PEND_VALID (by decide), hframe.get F.SEQ_PLAN_COMMIT_OFF (by decide), hseq]
  obtain ⟨p, hp, hmap⟩ : ∃ p : List LedgerBody, s.keepMapOuts = { s1.cutCommit with led := { s1.cutCommit.led with pending := p } }
      ∧ ∀ b ∈ p, b.isMapOut = true := by
    unfold State.keepMapOuts
    rw [hs1]
    exact ⟨_, rfl, fun b hb => (List.mem_filter.mp (List.mem_filter.mp hb).1).2⟩
  have hcut := s1.cutCommit_only
  have hrecs := s1.cutCommit_recs
  rw [hp]
  generalize s1.cutCommit = u at *
  refine ⟨⟨s1.regs, { u.led with pending := p }, u.freeCtr, ?_⟩, ?_, fun h => (hrecs (hled.1.trans h)).trans hled.2, hmap⟩
  · rw [hcut, honly]
  · rw [← hkept, hcut]
    rfl

/-- What every block holds after a MODULE reset, before the units are brought up. -/
theorem State.moduleFresh_effect (s : State) (cause : Nat) (hcause : cause < 16) (t : State) (ht : s.moduleFresh cause = t) :
    t.get F.RST_STATUS_DOMAIN = 0 ∧ t.get F.RST_STATUS_CAUSE = cause ∧ t.get F.ALERT_MASK_MASK = 0x3F ∧ t.get F.SB_ATTN_CAUSE = 0
      ∧ t.seq = s.seqKept ∧ t.rt.held = [] ∧ t.fuse = s.fuse ∧ t.near = s.near ∧ t.flashA = s.flashA ∧ t.flashB = s.flashB
      ∧ t.pwr.rails = s.pwr.rails ∧ t.pwr.modrst = false ∧ (s.led.inFlight = [] → t.led.recs = s.led.recs)
      ∧ (∀ b ∈ t.led.pending, b.isMapOut = true) := by
  unfold State.moduleFresh at ht
  obtain ⟨v, hv⟩ : ∃ v, s.keepMapOuts = v := ⟨_, rfl⟩
  obtain ⟨⟨regs, led, ctr, honly⟩, hkept, hrecs, hmap⟩ := s.keepMapOuts_effect v hv
  rw [hv] at ht
  have hmem : v.fuse = s.fuse ∧ v.near = s.near ∧ v.flashA = s.flashA ∧ v.flashB = s.flashB ∧ v.pwr = s.pwr := by
    rw [honly]
    exact ⟨rfl, rfl, rfl, rfl, rfl⟩
  obtain ⟨hfuse, hnear, hA, hB, hpwr⟩ := hmem
  obtain ⟨u, hi, drops, epoch, pending, was, hu, hhi, h1, h2, h3, h4, h5, h6, h7, h8, h9⟩ : ∃ (u : State) (hi drops epoch : Nat)
      (pending : Bool) (was : Nat), (u.resetRegs 0 hi []).afterReset drops cause epoch pending was = t ∧ hi = 2 ^ 49 ∧ u.seq = v.seqKept
      ∧ u.rt.held = [] ∧ u.fuse = v.fuse ∧ u.near = v.near ∧ u.flashA = v.flashA ∧ u.flashB = v.flashB ∧ u.pwr.rails = v.pwr.rails
      ∧ u.pwr.modrst = false ∧ u.led = v.led :=
    ⟨_, _, _, _, _, _, ht, rfl, rfl, rfl, rfl, rfl, rfl, rfl, rfl, rfl, rfl⟩
  obtain ⟨r1, r2⟩ := State.afterReset_status _ drops cause epoch pending was hcause t hu
  obtain ⟨m1, m2⟩ := u.resetRegs_masks hi (by rw [hhi]; decide) (by rw [hhi]; decide)
  have hframe := hu ▸ (u.resetRegs 0 hi []).afterReset_frame drops cause epoch pending was
  have hparts := (u.resetRegs 0 hi []).afterReset_only drops cause epoch pending was
  have hreset := u.resetRegs_only 0 hi []
  rw [hu] at hparts
  clear hu ht
  generalize u.resetRegs 0 hi [] = w at *
  obtain ⟨regs', sent, hparts⟩ := hparts
  have hall : t.seq = u.seq ∧ t.rt = u.rt ∧ t.fuse = u.fuse ∧ t.near = u.near ∧ t.flashA = u.flashA ∧ t.flashB = u.flashB ∧ t.pwr = u.pwr
      ∧ t.led = u.led := by
    rw [hparts, hreset.eq]
    exact ⟨rfl, rfl, rfl, rfl, rfl, rfl, rfl, rfl⟩
  obtain ⟨e1, e2, e3, e4, e5, e6, e7, e8⟩ := hall
  refine ⟨r1, r2, (hframe.get _ (by decide)).trans m1, (hframe.get _ (by decide)).trans m2, e1.trans (h1.trans hkept), ?_,
    e3.trans (h3.trans hfuse), e4.trans (h4.trans hnear), e5.trans (h5.trans hA), e6.trans (h6.trans hB), ?_, ?_, fun h => ?_, ?_⟩
  · rw [e2, h2]
  · rw [e7, h7, hpwr]
  · rw [e7, h8]
  · rw [e8, h9, hrecs h]
  · rw [e8, h9]
    exact hmap


/-! ## The units come up (R446) -/

theorem State.enterTrain_only (s : State) : ∃ regs sent, s.enterTrain = { s with regs := regs, led := s.led.repair, sent := sent } := by
  unfold State.enterTrain
  refine List.foldlRecOn (motive := fun u : State => ∃ regs sent, u = { s with regs := regs, led := s.led.repair, sent := sent }) _ _ ?_
    fun u hu n _ => ?_
  · rw [State.setMState_only]
    exact ⟨_, _, rfl⟩
  · obtain ⟨regs, sent, rfl⟩ := hu
    split <;> exact ⟨_, sent, rfl⟩

theorem State.post_rt (s : State) (die : Nat) (e : Event) : (s.post die e).rt = s.rt := by rw [State.post_only]

theorem State.cage_rt (s : State) (p : Nat) (on : Bool) : (s.cage p on).rt = s.rt := rfl

theorem State.setPhase_rt (s : State) (p n : Nat) : (s.setPhase p n).rt = s.rt := rfl

theorem State.colokDrop_rt (s : State) (c : Nat) : (s.colokDrop c).rt = s.rt := by
  unfold State.colokDrop
  simp only [State.set_rt, State.setReg_rt]
  rfl

theorem State.linkDown_rt (s : State) (p : Nat) : (s.linkDown p).rt = s.rt := by
  have h1 : (if p < 12 then s.set (F.SPK_CAD_DELAY_VALID p) 0 else s.colokDrop (p - 12)).rt = s.rt := by
    split
    · exact State.set_rt _ _ _
    · exact s.colokDrop_rt _
  unfold State.linkDown
  dsimp only
  split
  · rw [State.post_rt, h1]
  · exact h1

theorem State.setUnit_rt (s : State) (n st : Nat) : (s.setUnit n st).rt = s.rt := by rw [State.setUnit_only]

theorem State.spareOff_rt (s : State) (p : Nat) : (s.spareOff p).rt = s.rt := by
  unfold State.spareOff
  dsimp only
  split <;> rfl

theorem State.opticsFresh_rt (s : State) (p : Nat) : (s.opticsFresh p).rt = s.rt := by
  unfold State.opticsFresh
  extract_lets s1 s2 s3
  have h1 : s1.rt = s.rt := List.foldlRecOn (motive := fun u : State => u.rt = s.rt) _ _ rfl fun u hu l _ => hu
  have h3 : s3.rt = s1.rt := by
    unfold s3
    split <;> rfl
  exact h3.trans h1

theorem State.pumpAll_held (s : State) (h : s.rt.held = []) : s.pumpAll.rt.held = [] := by
  unfold State.pumpAll
  rw [h]
  exact h

theorem State.enterDetect_held (s : State) (p : Nat) (h : s.rt.held = []) : (s.enterDetect p).rt.held = [] := by
  have h1 : ((((s.linkDown p).spareOff p).opticsFresh p).setPhase p 1).rt = s.rt := by
    rw [State.setPhase_rt, State.opticsFresh_rt, State.spareOff_rt, State.linkDown_rt]
  have h2 : ((((((s.linkDown p).spareOff p).opticsFresh p).setPhase p 1).setUnit (entPort p) usStarting).cage p true).rt = s.rt := by
    rw [State.cage_rt, State.setUnit_rt, h1]
  unfold State.enterDetect
  split
  · exact h
  · dsimp only
    split
    · exact State.pumpAll_held _ ((congrArg Router.held h2).trans h)
    · exact (congrArg Router.held h2).trans h

theorem State.portFail_held (s : State) (p reason : Nat) (h : s.rt.held = []) : (s.portFail p reason).rt.held = [] := by
  have h2 : ((((s.linkDown p).setPhase p 8).set (F.OPT_STATE_FAIL_REASON p) reason).setUnit (entPort p) usDown).rt = s.rt := by
    rw [State.setUnit_rt, State.set_rt, State.setPhase_rt, State.linkDown_rt]
  unfold State.portFail
  dsimp only
  split
  · exact State.pumpAll_held _ ((congrArg Router.held h2).trans h)
  · exact (congrArg Router.held h2).trans h

theorem State.portEnable_held (s : State) (p : Nat) (h : s.rt.held = []) : (s.portEnable p).rt.held = [] := by
  unfold State.portEnable
  dsimp only
  split
  · exact h
  · split
    · exact s.portFail_held p 1 h
    · exact State.enterDetect_held _ p h

theorem Ledger.recs_repair (l : Ledger) : l.repair.recs = l.recs := l.recs_hold _

/-- What a module that comes up keeps of the rest. -/
theorem State.bringUp_rest (s t : State) (ht : s.bringUp = t) : t.get F.MODULE_STATE_STATE = 3 ∧ t.seq = s.seq ∧ t.fuse = s.fuse
    ∧ t.near = s.near ∧ t.flashA = s.flashA ∧ t.flashB = s.flashB ∧ t.led = s.led.repair ∧ t.pwr.rails = s.pwr.rails
    ∧ t.pwr.modrst = s.pwr.modrst ∧ (s.rt.held = [] → t.rt.held = []) ∧ t.get F.ALERT_MASK_MASK = s.get F.ALERT_MASK_MASK
    ∧ t.get F.SB_ATTN_CAUSE = s.get F.SB_ATTN_CAUSE := by
  obtain ⟨hstate, -, -⟩ := bringUp_effect s t ht
  obtain ⟨-, -, -, hframe⟩ := enterTrain_effect s _ rfl
  obtain ⟨regs, sent, honly⟩ := s.enterTrain_only
  have hports : PortOp s.enterTrain t := ht ▸ (PortOp.refl _).forN 14 _ fun s p hp hs => hs.portEnable p hp
  have hheld : s.enterTrain.rt.held = [] → t.rt.held = [] := fun h => by
    rw [← ht, State.bringUp, State.forN]
    exact List.foldlRecOn (motive := fun u : State => u.rt.held = []) _ _ h fun u hu p _ => u.portEnable_held p hu
  have hmask (f : Field) (hf : sbReg ≤ f.addr) (hport : portArea f.addr = false) (htrain : f.addr ∉ trainRegs) : t.get f = s.get f := by
    refine (hports.get f hport).trans (hframe.get f ?_)
    rw [List.mem_append, not_or]
    refine ⟨htrain, fun h => ?_⟩
    obtain ⟨n, hn, ha⟩ := List.mem_map.mp h
    have hn := List.mem_range.mp hn
    unfold A.UNIT_STATE pageReg at ha
    unfold sbReg at hf
    omega
  have hpwr := hports.cage
  have honly' := hports.only
  have hparts : s.enterTrain.seq = s.seq ∧ s.enterTrain.fuse = s.fuse ∧ s.enterTrain.near = s.near ∧ s.enterTrain.flashA = s.flashA
      ∧ s.enterTrain.flashB = s.flashB ∧ s.enterTrain.led = s.led.repair ∧ s.enterTrain.pwr = s.pwr ∧ s.enterTrain.rt = s.rt := by
    rw [honly]
    exact ⟨rfl, rfl, rfl, rfl, rfl, rfl, rfl, rfl⟩
  obtain ⟨e1, e2, e3, e4, e5, e6, e7, e8⟩ := hparts
  refine ⟨hstate, ?_, ?_, ?_, ?_, ?_, ?_, ?_, ?_, ?_, ?_, ?_⟩
  · rw [honly', ← e1]
  · rw [honly', ← e2]
  · rw [honly', ← e3]
  · rw [honly', ← e4]
  · rw [honly', ← e5]
  · rw [honly', ← e6]
  · rw [hpwr, ← e7]
  · rw [hpwr, ← e7]
  · exact fun h => hheld (by rw [e8, h])
  · exact hmask F.ALERT_MASK_MASK (by decide) (by decide) (by decide)
  · exact hmask F.SB_ATTN_CAUSE (by decide) (by decide) (by decide)

/-! ## The reset of the controllers (R461, R447) -/

theorem State.reloadImage_only (s : State) : RegsOnly s s.reloadImage := by
  unfold State.reloadImage
  refine (RegsOnly.refl s).foldl _ _ fun u p hu => ?_
  split
  · split
    · exact hu
    · exact hu.setReg _ _
  · exact hu

/-! ## Operations on one core (R93, R96, R99) -/

/-- What an operation on core n leaves of the module: the other cores, and every part but the registers, the cores, their memory and the
records of faults. -/
structure CoreOp (n : Nat) (o s : State) : Prop where
  others : ∀ m, m ≠ n → s.coreAt m = o.coreAt m
  len : s.cores.length = o.cores.length
  only : s = { o with regs := s.regs, cores := s.cores, core := s.core, mgmt := s.mgmt }

namespace CoreOp

theorem refl (n : Nat) (s : State) : CoreOp n s s := ⟨fun _ _ => rfl, rfl, rfl⟩

section
variable {n : Nat} {o s : State} (hs : CoreOp n o s)
include hs

theorem trans {t : State} (h : CoreOp n s t) : CoreOp n o t :=
  ⟨fun m hm => (h.others m hm).trans (hs.others m hm), h.len.trans hs.len, by rw [h.only, hs.only]⟩

theorem sameCores {t : State} (honly : t = { s with regs := t.regs, core := t.core, mgmt := t.mgmt }) : CoreOp n o t := by
  refine hs.trans ⟨fun m _ => ?_, ?_, ?_⟩
  · rw [honly]
    rfl
  · rw [honly]
  · rw [honly]

theorem regsOnly {t : State} (h : RegsOnly s t) : CoreOp n o t := by
  obtain ⟨r, rfl⟩ : ∃ r, t = { s with regs := r } := ⟨_, h.eq⟩
  exact hs.sameCores rfl

theorem set (f : Field) (v : Nat) : CoreOp n o (s.set f v) := hs.sameCores rfl

theorem setReg (a : Nat) (w : Word) : CoreOp n o (s.setReg a w) := hs.sameCores rfl

theorem fault (code unit : Nat) (slow : Bool) (d : Word) : CoreOp n o (s.fault code unit slow d) :=
  hs.sameCores (by rw [State.fault_only])

theorem setCore (c : Core) : CoreOp n o (s.setCore n c) := by
  refine hs.trans ⟨fun m hm => ?_, by simp, rfl⟩
  rw [State.coreAt, State.setCore_cores, List.getD_eq_getElem?_getD, List.getElem?_set_ne (Ne.symm hm)]
  rfl

theorem foldl {α : Type} (f : State → α → State) (l : List α) (hf : ∀ s a, CoreOp n o s → CoreOp n o (f s a)) : CoreOp n o
    (l.foldl f s) :=
  List.foldlRecOn (motive := CoreOp n o) _ _ hs fun s hs a _ => hf s a hs

theorem landMac (u : MacUpd) : CoreOp n o (s.landMac n u) := by
  unfold State.landMac
  extract_lets +onlyGivenNames cs s1 s2
  have h1 : CoreOp n o s1 := hs.sameCores rfl
  have h2 : CoreOp n o s2 := by
    unfold s2
    split
    · exact h1.set _ _
    · exact h1
  clear_value s2
  split
  · exact hs.sameCores rfl
  · split
    · exact h2
    · dsimp only
      split
      · exact (h2.set _ _).fault _ _ _ _
      · exact h2.set _ _

theorem landOp (op : PendOp) : CoreOp n o (s.landOp n op) := by
  cases op with
  | mac u => exact hs.landMac u
  | vec t r bs => exact hs.sameCores rfl
  | vreg r bs => exact hs.setCore _
  | store e bs => exact hs.sameCores rfl
  | cap h b vs => exact hs.foldl _ _ fun s p hs => hs.setReg _ _

theorem settle (t : Nat) : CoreOp n o (s.settle n t) := (hs.setCore _).foldl _ _ fun _ p hs => hs.landOp p.op

theorem waitNow : CoreOp n o (s.waitNow n) := (hs.setCore _).settle _

theorem endWait : CoreOp n o (s.endWait n) := by
  unfold State.endWait
  split
  · exact hs.waitNow
  · exact hs

theorem clearWorking (b : Nat) : CoreOp n o (s.clearWorking n b) := by
  unfold State.clearWorking State.forN
  exact hs.foldl _ _ fun s h hs => hs.foldl _ _ fun s w hs => hs.setReg _ _

theorem convDiscard : CoreOp n o (s.convDiscard n) := ((hs.setCore _).clearWorking 0).clearWorking 1

end

/-- The core's own part. -/
theorem own (n : Nat) (s : State) (c : Core) : (s.setCore n c).coreAt n = if n < s.cores.length then c else {} := by
  split
  next h => exact s.coreAt_setCore_self n c h
  next h =>
    rw [s.setCore_of_length_le n c (by omega), State.coreAt, List.getD_eq_getElem?_getD, List.getElem?_eq_none (by omega)]
    rfl

end CoreOp

theorem State.endWait_idle (s : State) (n : Nat) (h : (s.coreAt n).state ≠ 2) : s.endWait n = s := if_neg h

theorem State.clearWorking_only (s : State) (n b : Nat) : RegsOnly s (s.clearWorking n b) := by
  unfold State.clearWorking State.forN
  exact (RegsOnly.refl s).foldl _ _ fun u h hu => hu.foldl _ _ fun u w hu => hu.setReg _ _

theorem State.setCore_mems (s : State) (n : Nat) (c : Core) : (s.setCore n c).mems = s.mems := rfl

/-- What a discard of captures keeps of the core. -/
theorem State.convDiscard_own (s : State) (n : Nat) (hpend : (s.coreAt n).pend = []) : ((s.convDiscard n).coreAt n).state =
    (s.coreAt n).state
    ∧ ((s.convDiscard n).coreAt n).pend = [] ∧ ((s.convDiscard n).coreAt n).queues = (s.coreAt n).queues := by
  have hcores : (s.convDiscard n).cores = (s.setCore n { s.coreAt n with pend := [] }).cores := by
    unfold State.convDiscard
    dsimp only
    rw [(State.clearWorking_only _ n 1).cores, (State.clearWorking_only _ n 0).cores, hpend]
    rfl
  have hat : (s.convDiscard n).coreAt n = (s.setCore n { s.coreAt n with pend := [] }).coreAt n := by
    unfold State.coreAt
    rw [hcores]
    rfl
  rw [hat]
  by_cases hn : n < s.cores.length
  · rw [State.coreAt_setCore_self _ _ _ hn]
    exact ⟨rfl, rfl, rfl⟩
  · rw [State.setCore_of_length_le _ _ _ (by omega)]
    exact ⟨rfl, hpend, rfl⟩

/-- A core after its reset (R107, R148). -/
theorem State.coreFresh_effect (s : State) (n : Nat) : CoreOp n s (s.coreFresh n) ∧ ((s.coreFresh n).coreAt n).state = 0
    ∧ ((s.coreFresh n).coreAt n).pend = [] ∧ ((s.coreFresh n).coreAt n).queues = List.replicate 16 {}
    ∧ ((s.coreAt n).state ≠ 2 → (s.coreFresh n).mems = s.mems) := by
  unfold State.coreFresh
  extract_lets u c s1 s2
  have hu : CoreOp n s u := (CoreOp.refl n s).endWait
  have hmems : (s.coreAt n).state ≠ 2 → u.mems = s.mems := fun h => congrArg State.mems (s.endWait_idle n h)
  have h1 : (s1.coreAt n).state = 0 ∧ (s1.coreAt n).pend = [] ∧ (s1.coreAt n).queues = List.replicate 16 {} := by
    unfold s1
    rw [CoreOp.own]
    split <;> exact ⟨rfl, rfl, rfl⟩
  have h2 : RegsOnly s1 s2 := (RegsOnly.refl s1).foldl _ _ fun u k hu => hu.set _ _
  have hc2 : s2.coreAt n = s1.coreAt n := congrArg (·.getD n {}) h2.cores
  have hop2 : CoreOp n s s2 := (hu.setCore _).regsOnly h2
  have hm2 : s2.mems = u.mems := h2.mems
  have hm3 : (s2.convDiscard n).mems = s2.mems := by
    unfold State.convDiscard
    dsimp only
    rw [(State.clearWorking_only _ n 1).mems, (State.clearWorking_only _ n 0).mems, State.setCore_mems]
  obtain ⟨hst, hpend, hq⟩ := h1
  obtain ⟨e1, e2, e3⟩ := s2.convDiscard_own n (by rw [hc2, hpend])
  refine ⟨hop2.convDiscard, ?_, e2, ?_, fun h => ?_⟩
  · rw [e1, hc2, hst]
  · rw [e3, hc2, hq]
  · rw [hm3, hm2, hmems h]

end Sys2Proof.Machine

/-! The reset domains (R461, R462). -/
namespace Sys2Proof.Machine

/-! ## The units of a domain that is reset (R463) -/

/-- All but the registers, the drains, the slow plane's queues and the output is as in `o`. -/
structure UnitOp (o s : State) : Prop where
  eq : s = { o with regs := s.regs, drains := s.drains, mgmt := s.mgmt, sent := s.sent }

namespace UnitOp

theorem refl (s : State) : UnitOp s s := ⟨rfl⟩

section
variable {o s : State} (hs : UnitOp o s)
include hs

theorem trans {t : State} (h : UnitOp s t) : UnitOp o t :=
  ⟨h.eq.trans (congrArg (fun x : State => { x with regs := t.regs, drains := t.drains, mgmt := t.mgmt, sent := t.sent }) hs.eq)⟩

theorem setReg (a : Nat) (w : Word) : UnitOp o (s.setReg a w) := hs.trans ⟨rfl⟩

theorem set (f : Field) (v : Nat) : UnitOp o (s.set f v) := hs.setReg _ _

theorem drains (l : List (Nat × Nat)) : UnitOp o { s with drains := l } := hs.trans ⟨rfl⟩

theorem setUnit (n st : Nat) : UnitOp o (s.setUnit n st) := hs.trans ⟨by rw [State.setUnit_only]⟩

theorem resetUnit (n : Nat) : UnitOp o (s.resetUnit n) := by
  unfold State.resetUnit
  split
  · exact hs.setUnit _ _
  · exact hs.setUnit _ _
  · dsimp only
    split
    · exact ((hs.drains _).set _ _).setUnit _ _
    · exact (hs.drains _).setUnit _ _
  · split
    · exact (hs.set _ _).setUnit _ _
    · exact hs
  · exact hs

theorem rstStatus (d c e : Nat) : UnitOp o (s.rstStatus d c e) := hs.setReg _ _

theorem cores : s.cores = o.cores := (congrArg State.cores hs.eq).trans rfl

theorem mems : s.mems = o.mems := (congrArg State.mems hs.eq).trans rfl

theorem seq : s.seq = o.seq := (congrArg State.seq hs.eq).trans rfl

theorem fuse : s.fuse = o.fuse := (congrArg State.fuse hs.eq).trans rfl

theorem coreAt (n : Nat) : s.coreAt n = o.coreAt n := congrArg (·.getD n {}) hs.cores

end

end UnitOp

theorem CoreOp.fuse {n : Nat} {o s : State} (hs : CoreOp n o s) : s.fuse = o.fuse := (congrArg State.fuse hs.only).trans rfl

theorem State.siteEnabled_congr {s t : State} (n : Nat) (h : t.fuse = s.fuse) : t.siteEnabled n = s.siteEnabled n := by
  unfold State.siteEnabled
  rw [h]

/-! ## The COMPUTE reset (R461, R182, R227) -/

/-- The cores of a COMPUTE reset. -/
def State.freshCores (s : State) : State :=
  s.forN 100 fun s n => if s.siteEnabled n then (s.coreFresh n).resetUnit (entCore n) else s

/-- Core m across the reset of core n. -/
theorem State.freshCore_coreAt (s : State) (n m : Nat) :
    (((s.coreFresh n).resetUnit (entCore n)).coreAt m).state = if m = n then 0 else (s.coreAt m).state := by
  obtain ⟨hop, hst, -⟩ := s.coreFresh_effect n
  rw [((UnitOp.refl _).resetUnit _).coreAt]
  split
  next h => rw [h, hst]
  next h => rw [hop.others m h]

theorem State.freshCores_effect (s : State) : s.freshCores.fuse = s.fuse
    ∧ ((∀ n < 100, (s.coreAt n).state ≠ 2) → s.freshCores.mems = s.mems)
    ∧ ∀ n < 100, s.siteEnabled n = true → (s.freshCores.coreAt n).state = 0 := by
  have hind : ∀ k ≤ 100, ∃ u, s.forN k (fun s n => if s.siteEnabled n then (s.coreFresh n).resetUnit (entCore n) else s) = u ∧ u.fuse =
      s.fuse
      ∧ (∀ n, (u.coreAt n).state = 0 ∨ (u.coreAt n).state = (s.coreAt n).state)
      ∧ ((∀ n < 100, (s.coreAt n).state ≠ 2) → u.mems = s.mems)
      ∧ ∀ n < k, s.siteEnabled n = true → (u.coreAt n).state = 0 := by
    intro k hk
    induction k with
    | zero => exact ⟨s, rfl, rfl, fun n => .inr rfl, fun _ => rfl, fun n h => absurd h (Nat.not_lt_zero n)⟩
    | succ k ih =>
      obtain ⟨u, hu, hfuse, hor, hmems, hdone⟩ := ih (by omega)
      refine ⟨if u.siteEnabled k then (u.coreFresh k).resetUnit (entCore k) else u, ?_, ?_⟩
      · rw [State.forN, List.range_succ, List.foldl_append, ← State.forN, hu]
        rfl
      · split
        next hen =>
          obtain ⟨hop, -, -, -, hkeep⟩ := u.coreFresh_effect k
          have hunit : UnitOp (u.coreFresh k) ((u.coreFresh k).resetUnit (entCore k)) := (UnitOp.refl _).resetUnit _
          refine ⟨hunit.fuse.trans (hop.fuse.trans hfuse), fun n => ?_, fun h => ?_, fun n hn hsite => ?_⟩
          · rw [u.freshCore_coreAt k n]
            split
            · exact .inl rfl
            · exact hor n
          · have hk2 : (u.coreAt k).state ≠ 2 := by
              rcases hor k with h0 | h0 <;> rw [h0]
              · exact Nat.zero_ne_add_one 1
              · exact h k (by omega)
            exact hunit.mems.trans ((hkeep hk2).trans (hmems h))
          · rw [u.freshCore_coreAt k n]
            split
            · rfl
            · exact hdone n (by omega) hsite
        next hen =>
          refine ⟨hfuse, hor, hmems, fun n hn hsite => ?_⟩
          by_cases hnk : n = k
          · rw [State.siteEnabled_congr k hfuse, ← hnk, hsite] at hen
            exact absurd rfl hen
          · exact hdone n (by omega) hsite
  obtain ⟨u, hu, hfuse, -, hmems, hdone⟩ := hind 100 (le_refl _)
  have hu : s.freshCores = u := hu
  rw [hu]
  exact ⟨hfuse, hmems, hdone⟩

theorem State.setEng_unitless (s : State) (d : Nat) (e : RowEng) : (s.setEng d e).cores = s.cores ∧ (s.setEng d e).mems = s.mems
    ∧ (s.setEng d e).seq = s.seq := ⟨rfl, rfl, rfl⟩

theorem computeReset_effect (s t : State) (ht : computeReset s = t) : t.get F.RST_STATUS_DOMAIN = 1 ∧ t.get F.RST_STATUS_CAUSE = 2
    ∧ t.seq = s.seqKept ∧ ((∀ n < 100, (s.coreAt n).state ≠ 2) → t.mems = s.mems)
    ∧ ∀ n < 100, s.siteEnabled n = true → (t.coreAt n).state = 0 := by
  unfold computeReset at ht
  extract_lets +onlyGivenNames s1 s2 s3 s4 s5 s6 at ht
  obtain ⟨-, hmems, hstates⟩ := s.freshCores_effect
  have h1 : s1 = s.freshCores := rfl
  have h2 : RegsOnly s1 s2 := s1.resetRegs_only _ _ _
  have h3 : RegsOnly s1 s3 := h2.set _ _
  have h4 : s4.cores = s1.cores ∧ s4.mems = s1.mems ∧ s4.seq = s.seqKept := ⟨h3.cores, h3.mems, rfl⟩
  clear_value s4
  have h5 : s5.cores = s4.cores ∧ s5.mems = s4.mems ∧ s5.seq = s4.seq := by
    refine List.foldlRecOn (motive := fun u : State => u.cores = s4.cores ∧ u.mems = s4.mems ∧ u.seq = s4.seq) _ _ ⟨rfl, rfl, rfl⟩
      fun u hu d _ => ?_
    have hunit : UnitOp (u.reRollback d) ((u.reRollback d).resetUnit (entRe d)) := (UnitOp.refl _).resetUnit _
    obtain ⟨e1, e2, e3⟩ := hu
    obtain ⟨g1, g2, g3⟩ := u.setEng_unitless d { u.eng d with queue := [], quiet := true }
    exact ⟨hunit.cores.trans (g1.trans e1), hunit.mems.trans (g2.trans e2), hunit.seq.trans (g3.trans e3)⟩
  clear_value s5
  have h6 : UnitOp s5 s6 :=
    List.foldlRecOn (motive := UnitOp s5) _ _ (UnitOp.refl s5) fun u hu n _ => hu.resetUnit _
  clear_value s6
  have h7 : UnitOp s5 t := ht ▸ (h6.resetUnit _).rstStatus 1 2 _
  obtain ⟨a1, a2, a3⟩ := h4
  obtain ⟨b1, b2, b3⟩ := h5
  have hcores : t.cores = s.freshCores.cores := h7.cores.trans (b1.trans (a1.trans (congrArg State.cores h1)))
  refine ⟨?_, ?_, h7.seq.trans (b3.trans a3), fun h => ?_, fun n hn hsite => ?_⟩
  · rw [← ht]
    exact State.rstStatus_domain _ 1 2 _ (by omega)
  · rw [← ht]
    exact State.rstStatus_cause _ 1 2 _ (by omega)
  · exact h7.mems.trans (b2.trans (a2.trans ((congrArg State.mems h1).trans (hmems h))))
  · rw [State.coreAt, hcores]
    exact hstates n hn hsite

/-! ## A core's reset (R461, R301) -/

theorem State.acceptAt_cores (s : State) (i : Nat) (h : Transit) : (s.acceptAt i h).cores = s.cores := by
  unfold State.acceptAt
  split
  · rw [State.pumpAll_cores, State.giveCredit_cores]
  · rfl

theorem State.retired_cores (s : State) (ent : Nat) : (s.retired ent).cores = s.cores := by
  unfold State.retired
  rw [State.faultOnce_only]

theorem State.retireLocal_cores (s : State) (ent : Nat) (test : Packet → Bool) (k : Nat) : (s.retireLocal ent test k).cores = s.cores :=
    by
  induction k generalizing s with
  | zero => rfl
  | succ k ih =>
    unfold State.retireLocal
    split
    · rfl
    · split
      · rfl
      · rw [ih, State.retired_cores, State.bump_cores, State.acceptAt_cores]

theorem coreReset_effect (s : State) (n : Nat) (hsite : s.siteEnabled n = true) (t : State) (ht : coreReset n s = t) :
    t.get F.RST_STATUS_DOMAIN = 2 ∧ t.get F.RST_STATUS_CAUSE = 2 ∧ (t.coreAt n).state = 0 ∧ (t.coreAt n).pend = []
      ∧ (t.coreAt n).queues = List.replicate 16 {} ∧ (∀ m, m ≠ n → t.coreAt m = s.coreAt m) ∧ ((s.coreAt n).state ≠ 2 → sameBytes s t) :=
          by
  have hcores := s.retireLocal_cores (entCore n) (forCore n) s.rt.held.length
  have hmems : (s.retireLocal (entCore n) (forCore n) s.rt.held.length).mems = s.mems :=
    ((Keeps.refl (wr := false) s).retireLocal _ _ _).same rfl
  unfold coreReset at ht
  rw [if_pos hsite] at ht
  dsimp only at ht
  generalize s.retireLocal (entCore n) (forCore n) s.rt.held.length = u at *
  have hu (m : Nat) : u.coreAt m = s.coreAt m := congrArg (·.getD m {}) hcores
  obtain ⟨hop, hst, hpend, hq, hkeep⟩ := u.coreFresh_effect n
  have hunit : UnitOp (u.coreFresh n) t := ht ▸ ((UnitOp.refl _).resetUnit _).rstStatus 2 2 _
  refine ⟨?_, ?_, ?_, ?_, ?_, fun m hm => ?_, fun h => ?_⟩
  · rw [← ht]
    exact State.rstStatus_domain _ 2 2 _ (by omega)
  · rw [← ht]
    exact State.rstStatus_cause _ 2 2 _ (by omega)
  · rw [hunit.coreAt, hst]
  · rw [hunit.coreAt, hpend]
  · rw [hunit.coreAt, hq]
  · rw [hunit.coreAt, hop.others m hm, hu]
  · exact sameBytes_of_mems (hunit.mems.trans ((hkeep (by rwa [hu])).trans hmems))

/-! ## The controllers (R461, R447, R455) -/

theorem State.get_rstStatus (s t : State) (d c e : Nat) (hd : d < 16) (hc : c < 16) (ht : s.rstStatus d c e = t) :
    t.get F.RST_STATUS_DOMAIN = d ∧ t.get F.RST_STATUS_CAUSE = c := by
  subst ht
  exact ⟨s.rstStatus_domain d c e hd, s.rstStatus_cause d c e hc⟩

theorem managementReset_effect (s : State) (hin : s.mgmt.inReset = false) (t : State) (ht : managementReset true s = t) :
    t.get F.RST_STATUS_DOMAIN = 5 ∧ t.get F.RST_STATUS_CAUSE = 2 ∧ t.mgmt.inReset = true ∧ t.led.pending = s.led.inFlight ++ s.led.pending
      ∧ t.led.recs = s.led.recs ∧ sameBytes s t := by
  unfold managementReset at ht
  rw [if_neg (by simp [hin]), if_neg (by simp)] at ht
  extract_lets +onlyGivenNames srcM srcL srcP srcB s1 s2 s3 at ht
  have h3 : s3.mgmt = s1.mgmt ∧ s3.led = s1.led ∧ s3.mems = s1.mems := ⟨rfl, rfl, rfl⟩
  have h1 : s1.mgmt.inReset = true ∧ s1.led.pending = s.led.inFlight ++ s.led.pending ∧ s1.led.recs = s.led.recs ∧ s1.mems = s.mems :=
    ⟨rfl, rfl, rfl, rfl⟩
  clear_value s3
  clear s2
  clear_value s1
  obtain ⟨u, hu⟩ : ∃ u, s3.reloadImage.set F.LEDGER_STATUS_PENDING (boolBit (!s3.led.pending.isEmpty)) = u := ⟨_, rfl⟩
  have h4 : RegsOnly s3 u := hu ▸ s3.reloadImage_only.set _ _
  rw [hu] at ht
  have h5 : RegsOnly s3 t := ht ▸ h4.setReg _ _
  obtain ⟨hdom, hcause⟩ := u.get_rstStatus t 5 2 _ (by omega) (by omega) ht
  obtain ⟨a1, a2, a3⟩ := h3
  obtain ⟨b1, b2, b3, b4⟩ := h1
  have hled : t.led = s1.led := (congrArg State.led h5.eq).trans a2
  refine ⟨hdom, hcause, ?_, ?_, ?_, sameBytes_of_mems (h5.mems.trans (a3.trans b4))⟩
  · rw [show t.mgmt = s1.mgmt from (congrArg State.mgmt h5.eq).trans a1, b1]
  · rw [hled, b2]
  · rw [hled, b3]

theorem State.setUnit_inReset (s : State) (n st : Nat) : (s.setUnit n st).mgmt.inReset = s.mgmt.inReset := by
  have hpost (u : State) (die : Nat) (e : Event) : (u.post die e).mgmt.inReset = u.mgmt.inReset := by
    unfold State.post
    dsimp only
    split <;> rfl
  unfold State.setUnit
  dsimp only
  rw [State.colokAlert_only]
  refine (hpost _ _ _).trans ?_
  rw [State.reFollow_only]
  rfl

theorem mgmtResume_effect (s : State) (hin : s.mgmt.inReset = true) (t : State) (ht : mgmtResume s = t) :
    t.mgmt.inReset = false ∧ t.get F.MGMT_STATUS_PRI_UP = 1 ∧ t.get F.MGMT_STATUS_SEC_UP = 1 := by
  unfold mgmtResume at ht
  rw [if_pos hin] at ht
  extract_lets +onlyGivenNames src s1 s2 at ht
  have hpri : s2.get F.MGMT_STATUS_PRI_UP = 1 := by
    refine (State.get_set_disjoint _ _ _ _ (by decide) (by decide) (by decide)).trans ?_
    exact State.get_set_lt _ F.MGMT_STATUS_PRI_UP 1 (by decide) (by decide) (by decide)
  have hsec : s2.get F.MGMT_STATUS_SEC_UP = 1 := State.get_set_lt _ F.MGMT_STATUS_SEC_UP 1 (by decide) (by decide) (by decide)
  have hreset : s2.mgmt.inReset = false := rfl
  clear_value s2
  have hkeep (u : State) (i st : Nat) (hi : i < 2) (f : Field) (hf : f.addr = A.MGMT_STATUS) :
      (u.setUnit (entMgmt i) st).get f = u.get f := (u.setUnit_frame _ _).get f (by
    rw [hf]
    simp only [unitRegs, List.mem_cons, List.not_mem_nil, or_false, not_or]
    unfold A.MGMT_STATUS A.UNIT_STATE A.RE_STATUS A.MGMT_ERR A.ALERT_CAUSE entMgmt pageReg mgmtReg sbReg reReg
    omega)
  subst ht
  refine ⟨?_, ?_, ?_⟩
  · rw [State.setUnit_inReset, State.setUnit_inReset, hreset]
  · rw [hkeep _ 1 _ (by omega) _ rfl, hkeep _ 0 _ (by omega) _ rfl, hpri]
  · rw [hkeep _ 1 _ (by omega) _ rfl, hkeep _ 0 _ (by omega) _ rfl, hsec]

/-! ## The domains -/

theorem modrstNRelease_effect (s : State) (hrails : s.pwr.rails = true) (hpin : s.pwr.modrst = true) (t : State)
    (ht : modrstNRelease s = t) :
    t.powered ∧ t.get F.MODULE_STATE_STATE = 3 := by
  unfold modrstNRelease at ht
  rw [if_pos ⟨hrails, hpin⟩] at ht
  obtain ⟨hstate, -, -, -, -, -, -, hr, hm, -⟩ := State.bringUp_rest _ t ht
  exact ⟨⟨hr.trans hrails, hm⟩, hstate⟩

/-- A MODULE reset with the pin released: the module goes on to TRAIN. -/
theorem moduleReset_train (s : State) (t : State) (ht : moduleReset false true s = t) : t.get F.MODULE_STATE_STATE = 3
    ∧ (s.led.inFlight = [] → t.led.recs = s.led.recs) ∧ (∀ b ∈ t.led.pending, b.isMapOut = true) ∧ t.get F.ALERT_MASK_MASK = 0x3F
    ∧ t.get F.SB_ATTN_CAUSE = 0 ∧ t.seq = s.seqKept ∧ t.rt.held = [] ∧ t.fuse = s.fuse ∧ t.near = s.near ∧ t.flashA = s.flashA
    ∧ t.flashB = s.flashB := by
  obtain ⟨u, hu⟩ : ∃ u, s.moduleFresh 2 = u := ⟨_, rfl⟩
  obtain ⟨-, -, hmask, hattn, hseq, hheld, hfuse, hnear, hA, hB, -, -, hrecs, hmap⟩ := s.moduleFresh_effect 2 (by omega) u hu
  have ht : u.bringUp = t := by
    rw [← ht, ← hu]
    rfl
  obtain ⟨hstate, eseq, efuse, enear, eA, eB, eled, -, -, eheld, emask, eattn⟩ := u.bringUp_rest t ht
  refine ⟨hstate, fun h => ?_, ?_, emask.trans hmask, eattn.trans hattn, eseq.trans hseq, eheld hheld, efuse.trans hfuse, enear.trans
      hnear,
    eA.trans hA, eB.trans hB⟩
  · rw [eled, Ledger.recs_repair, hrecs h]
  · rw [eled]
    exact hmap

/-- A MODULE reset that MODRST_N holds. -/
theorem moduleReset_held (s : State) (t : State) (ht : moduleReset true true s = t) : t.pwr.rails = s.pwr.rails ∧ t.pwr.modrst = true
    ∧ t.get F.RST_STATUS_DOMAIN = 0 ∧ t.get F.RST_STATUS_CAUSE = 1 ∧ t.near = s.near := by
  obtain ⟨u, hu⟩ : ∃ u, s.moduleFresh 1 = u := ⟨_, rfl⟩
  obtain ⟨hdom, hcause, -, -, -, -, -, hnear, -, -, hrails, -⟩ := s.moduleFresh_effect 1 (by omega) u hu
  have ht : { u with pwr := { u.pwr with modrst := true } } = t := by
    rw [← ht, ← hu]
    rfl
  subst ht
  exact ⟨hrails, rfl, hdom, hcause, hnear⟩

/-- Settles O19, domain by domain. -/
theorem resetDomains : Obligations.ResetDomains := by
  unfold Obligations.ResetDomains
  refine ⟨fun s hrails hpin => ?_, fun s hs =>
      ⟨?_, ?_, fun p => ?_, ?_, fun n hn hsite => ?_, fun n hn => ?_, fun p hp => ?_, fun hin => ?_,
    fun hin => ?_⟩⟩
  · obtain ⟨h1, h2⟩ := modrstNRelease_effect s hrails hpin _ rfl
    exact ⟨modrstNRelease s, rfl, h1, h2, ((Keeps.refl s).modrstNRelease).bytes⟩
  · have hlive : execModuleReset false true s = .next _ := live_powered s (moduleReset false true) hs.1 hs.2
    obtain ⟨h1, h2, h3, h4, h5, h6, h7, h8, h9, hA, hB⟩ := moduleReset_train s _ rfl
    exact ⟨_, hlive, h1, h2, h3, h4, h5, h6, h7, h8, fun a => by rw [h9], fun a => by rw [hA], fun a => by rw [hB]⟩
  · have hlive : execModuleReset true true s = .next _ := live_powered s (moduleReset true true) hs.1 hs.2
    obtain ⟨h1, h2, h3, h4, h5⟩ := moduleReset_held s _ rfl
    exact ⟨_, hlive, h1.trans hs.1, h2, h3, h4, fun a => by rw [h5]⟩
  · have hlive : execModuleReset p false s = .next _ := live_powered s (moduleReset p false) hs.1 hs.2
    have hoff : moduleReset p false s = s.powerReset 6 s.pwr.vin := if_pos Bool.false_ne_true
    obtain ⟨-, h1, h2, h3, -, -, hled, -⟩ := powerReset_effect s 6 s.pwr.vin (by omega) _ hoff.symm
    exact ⟨_, hlive, h1, h2, h3, fun h => by rw [hled, s.cutCommit_recs h]⟩
  · have hlive : execComputeReset s = .next _ := live_powered s computeReset hs.1 hs.2
    obtain ⟨h1, h2, h3, h4, h5⟩ := computeReset_effect s _ rfl
    exact ⟨_, hlive, h1, h2, h3, fun h => sameBytes_of_mems (h4 h), h5⟩
  · have hlive : execCoreReset n s = .next _ := lively_powered s n 100 (coreReset n) hn hs.1 hs.2
    exact ⟨_, hlive, coreReset_effect s n hsite _ rfl⟩
  · have hlive : execStackReset n s = .next _ := lively_powered s n 16 (stackReset n) hn hs.1 hs.2
    obtain ⟨h1, h2⟩ := State.get_rstStatus _ (stackReset n s) 3 2 _ (by omega) (by omega) rfl
    exact ⟨_, hlive, h1, h2, ((Keeps.refl s).stackReset n).bytes⟩
  · have hlive : execPortReset p s = .next _ := lively_powered s p 14 (fun s => (s.resetPort p).rstStatus 4 2 s.epoch) hp hs.1 hs.2
    obtain ⟨h1, h2⟩ := State.get_rstStatus _ ((s.resetPort p).rstStatus 4 2 s.epoch) 4 2 _ (by omega) (by omega) rfl
    exact ⟨_, hlive, h1, h2, (((Keeps.refl s).resetPort p).rstStatus 4 2 _).bytes⟩
  · have hlive : execManagementReset true s = .next _ := live_powered s (managementReset true) hs.1 hs.2
    exact ⟨_, hlive, managementReset_effect s hin _ rfl⟩
  · have hlive : execMgmtResume s = .next _ := live_powered s mgmtResume hs.1 hs.2
    obtain ⟨h1, h2, h3⟩ := mgmtResume_effect s hin _ rfl
    exact ⟨_, hlive, h1, h2, h3, ((Keeps.refl s).mgmtResume).bytes⟩

end Sys2Proof.Machine

/-! The states of a core and what completes on it (R93, R96, R99, R107, R166). -/
namespace Sys2Proof.Machine

/-! ## What completes (R92, R93, R96) -/

theorem State.coreAt_set_self (s : State) (n : Nat) (c : Core) (h : n < s.cores.length) :
    ({ s with cores := s.cores.set n c } : State).coreAt n = c :=
  s.coreAt_setCore_self n c h

/-- With no operation to complete, only elements in flight land. -/
theorem State.settle_idle (s : State) (n t : Nat) (hpend : (s.coreAt n).pend = []) :
    s.settle n t = s.setCore n { s.coreAt n with pend := [], queues := (s.coreAt n).queues.map (landFlight t) } := by
  unfold State.settle
  dsimp only
  rw [hpend]
  rfl

theorem landFlight_one (t : Nat) (q : Queue) (f : Flight) (hf : q.flight = [f]) (hdue : f.due ≤ t) :
    landFlight t q = { q with ready := q.ready ++ [f.elem], flight := [] } := by
  have hgo : ([f].filter fun g : Flight => g.due ≤ t) = [f] := by simp [hdue]
  have hrest : ([f].filter fun g : Flight => t < g.due) = [] := by simp [hdue]
  unfold landFlight
  dsimp only
  rw [hf, hgo, hrest]
  rfl

theorem Frame.setCore {l : List Nat} {o s : State} (hs : Frame l o s) (n : Nat) (c : Core) : Frame l o (s.setCore n c) := hs.plain

/-! ## Core states (R99, R107) -/

/-- A core's operations complete and it reaches its state. -/
theorem State.finishCore_effect (s : State) (n st : Nat) (hn : n < s.cores.length) (h : (s.coreAt n).stopping = some st) :
    ((s.finishCore n st).coreAt n).state = st ∧ ((s.finishCore n st).coreAt n).stopping = none := by
  have hlen : ((s.endWait n).settleAll n).cores.length = s.cores.length := ((CoreOp.refl n s).endWait.settle _).len
  unfold State.finishCore
  rw [if_pos h]
  dsimp only
  rw [State.coreAt_setCore_self _ _ _ (by omega)]
  exact ⟨rfl, rfl⟩

/-- With no operation to complete, a settlement leaves all but the core's own part. -/
theorem State.settleAll_idle (s : State) (n : Nat) (hn : n < s.cores.length) (hpend : (s.coreAt n).pend = []) (f : Field) :
    (s.settleAll n).get f = s.get f ∧ ((s.settleAll n).coreAt n).pend = [] := by
  unfold State.settleAll
  dsimp only
  rw [State.settle_idle _ _ _ hpend]
  refine ⟨rfl, ?_⟩
  rw [State.coreAt_setCore_self _ _ _ hn]

theorem State.endWait_idle_get (s : State) (n : Nat) (hn : n < s.cores.length) (hpend : (s.coreAt n).pend = []) (f : Field) :
    (s.endWait n).get f = s.get f ∧ ((s.endWait n).coreAt n).pend = [] := by
  unfold State.endWait
  split
  · unfold State.waitNow
    dsimp only
    rw [State.settle_idle _ _ _ (by rw [State.coreAt_setCore_self _ _ _ hn, hpend])]
    refine ⟨rfl, ?_⟩
    rw [State.coreAt_setCore_self _ _ _ (by simpa using hn)]
  · exact ⟨rfl, hpend⟩

theorem State.finishCore_idle_get (s : State) (n st : Nat) (hn : n < s.cores.length) (hpend : (s.coreAt n).pend = []) (f : Field) :
    (s.finishCore n st).get f = s.get f := by
  obtain ⟨h1, h2⟩ := s.endWait_idle_get n hn hpend f
  have hlen : (s.endWait n).cores.length = s.cores.length := (CoreOp.refl n s).endWait.len
  obtain ⟨h3, -⟩ := (s.endWait n).settleAll_idle n (by omega) h2 f
  unfold State.finishCore
  split
  · exact h3.trans h1
  · rfl

theorem coreFreeze_free (s : State) (n : Nat) (hn : n < s.cores.length) (h : (s.coreAt n).stopping = some 3)
    (hmode : s.get (F.CORE_CTRL_MODE n) = 0) (hpend : (s.coreAt n).pend = []) : coreFreeze n s = s.finishCore n 3 := by
  unfold coreFreeze
  rw [if_pos h]
  refine if_neg fun hc => State.on_eq_false _ (F.CORE_CTRL_MODE n) rfl ?_ hc.1
  rw [s.finishCore_idle_get n 3 hn hpend, hmode]

/-- A core enters RUNNING (R107). -/
theorem State.enterRunning_effect (s : State) (n : Nat) (hn : n < s.cores.length) (t : State) (ht : s.enterRunning n = t) :
    (t.coreAt n).state = 1 ∧ (t.coreAt n).pc = s.get (F.CORE_ENTRY_ENTRY_PC n) ∧ (t.coreAt n).rep = 0
      ∧ (t.coreAt n).queues = List.replicate 16 {} ∧ (∀ m, m ≠ n → t.coreAt m = s.coreAt m)
      ∧ Frame [A.CORE_FAULT n, A.ACC_FLAGS n, A.TOP8_STATE n, A.CONV_BFP_POS n] s t := by
  rw [← ht]
  unfold State.enterRunning
  extract_lets c fresh c1
  have hframe : Frame [A.CORE_FAULT n, A.ACC_FLAGS n, A.TOP8_STATE n, A.CONV_BFP_POS n] s
      (((((s.setCore n c1).setReg (A.CORE_FAULT n) 0).setReg (A.ACC_FLAGS n) 0).set (F.TOP8_STATE_CHUNK n) 0).set
        (F.CONV_BFP_POS_BLOCK n) (s.get (F.CONV_BFP_START n))) :=
    (((((Frame.refl _ s).setCore n c1).setReg (A.CORE_FAULT n) 0).setReg (A.ACC_FLAGS n) 0 (by simp)).set (F.TOP8_STATE_CHUNK n) 0
      (by simp [F.TOP8_STATE_CHUNK])).set (F.CONV_BFP_POS_BLOCK n) _ (by simp [F.CONV_BFP_POS_BLOCK])
  have hregs : RegsOnly (s.setCore n c1)
      (((((s.setCore n c1).setReg (A.CORE_FAULT n) 0).setReg (A.ACC_FLAGS n) 0).set (F.TOP8_STATE_CHUNK n) 0).set
        (F.CONV_BFP_POS_BLOCK n) (s.get (F.CONV_BFP_START n))) := ((((RegsOnly.refl _).setReg _ _).setReg _ _).set _ _).set _ _
  have hop : CoreOp n s _ := ((CoreOp.refl n s).setCore c1).regsOnly hregs
  have hat := (congrArg (·.getD n {}) hregs.cores).trans (s.coreAt_setCore_self n c1 hn)
  exact ⟨(congrArg Core.state hat).trans rfl, (congrArg Core.pc hat).trans rfl, (congrArg Core.rep hat).trans rfl,
    (congrArg Core.queues hat).trans rfl, hop.others, hframe⟩

/-- A core that runs (R107). -/
theorem coreRun_effect (s : State) (n : Nat) (hn : n < s.cores.length) (hsite : s.siteEnabled n = true) (hst : (s.coreAt n).state = 0)
    (hmode : s.get (F.CORE_CTRL_MODE n) = 0) (t : State) (ht : coreRun n s = t) : (t.coreAt n).state = 1
      ∧ (t.coreAt n).pc = s.get (F.CORE_ENTRY_ENTRY_PC n) ∧ (t.coreAt n).rep = 0 ∧ (t.coreAt n).queues = List.replicate 16 {}
      ∧ (∀ m, m ≠ n → t.coreAt m = s.coreAt m) ∧ sameBytes s t
      ∧ regsBut [A.CORE_FAULT n, A.ACC_FLAGS n, A.TOP8_STATE n, A.CONV_BFP_POS n] s t := by
  have hrun : s.enterRunning n = t := by
    rw [← ht]
    unfold coreRun
    dsimp only
    rw [if_neg (by simp [hsite]), if_pos ⟨hst, s.on_eq_false (F.CORE_CTRL_MODE n) rfl hmode⟩]
  obtain ⟨h1, h2, h3, h4, h5, hframe⟩ := s.enterRunning_effect n hn t hrun
  exact ⟨h1, h2, h3, h4, h5, hframe.bytes, hframe.regs⟩

/-- An element lands (R96). -/
theorem elementPoppable_effect (s : State) (n q : Nat) (f : Flight) (hn : n < s.cores.length) (hq : q < (s.coreAt n).queues.length)
    (hf : ((s.coreAt n).queues.getD q {}).flight = [f]) (hpend : (s.coreAt n).pend = []) (hcyc : (s.coreAt n).cyc = f.due)
    (t : State) (ht : elementPoppable n q s = t) :
    ((t.coreAt n).queues.getD q {}).ready = ((s.coreAt n).queues.getD q {}).ready ++ [f.elem] ∧ ((t.coreAt n).queues.getD q {}).flight =
        []
      ∧ (t.coreAt n).cyc = (s.coreAt n).cyc ∧ (∀ a, t.reg a = s.reg a) ∧ sameBytes s t := by
  have hmin : ([f].map (·.due)).min? = some f.due := rfl
  unfold elementPoppable at ht
  dsimp only at ht
  rw [hf, hmin] at ht
  dsimp only at ht
  rw [if_neg (by omega), hcyc, max_self, State.settle_idle _ _ _ (by rw [State.coreAt_setCore_self _ _ _ hn]; exact hpend),
    State.coreAt_setCore_self _ _ _ hn] at ht
  subst ht
  have hget : ((s.coreAt n).queues.map (landFlight f.due)).getD q {} = landFlight f.due ((s.coreAt n).queues.getD q {}) := by
    rw [List.getD_eq_getElem?_getD, List.getElem?_map, List.getElem?_eq_getElem hq, Option.map_some, Option.getD_some,
      List.getD_eq_getElem?_getD, List.getElem?_eq_getElem hq, Option.getD_some]
  rw [State.coreAt_setCore_self _ _ _ (by simpa using hn)]
  dsimp only
  rw [hget, landFlight_one _ _ f hf (le_refl _)]
  exact ⟨rfl, rfl, hcyc.symm, fun a => rfl, sameBytes_of_mems rfl⟩

/-! ## ACC_FLAGS (R166) -/

/-- A flag written with 1 is cleared, every other one stays. -/
theorem testBit_cleared (g x i : Nat) (hi : i < 32) : ((g &&& (2 ^ 32 - 1 - x % 2 ^ 32)) % 2 ^ 32).testBit i =
    (g.testBit i && !x.testBit i) := by
  have hx : x % 2 ^ 32 < 2 ^ 32 := Nat.mod_lt _ (by omega)
  rw [Nat.testBit_mod_two_pow, Nat.testBit_and, Nat.sub_sub, Nat.add_comm 1, Nat.testBit_two_pow_sub_succ hx, Nat.testBit_mod_two_pow]
  simp [hi]

theorem accFlagsClear_effect (s : State) (n x y : Nat) (hsite : s.siteEnabled n = true)
    (hst : (s.coreAt n).state = 0 ∨ (s.coreAt n).state = 4)
    (t : State) (ht : accFlagsClear n x y s = t) :
    (∀ i < 32, (t.get (F.ACC_FLAGS_SAT n)).testBit i = ((s.get (F.ACC_FLAGS_SAT n)).testBit i && !x.testBit i))
      ∧ (∀ i < 32, (t.get (F.ACC_FLAGS_POISON n)).testBit i = ((s.get (F.ACC_FLAGS_POISON n)).testBit i && !y.testBit i))
      ∧ Frame [A.ACC_FLAGS n] s t := by
  unfold accFlagsClear at ht
  dsimp only at ht
  rw [if_neg (by simp [hsite]), if_pos hst] at ht
  obtain ⟨u, hu⟩ : ∃ u, s.set (F.ACC_FLAGS_SAT n) (s.get (F.ACC_FLAGS_SAT n) &&& (2 ^ 32 - 1 - x % 2 ^ 32)) = u := ⟨_, rfl⟩
  have hsat : u.get (F.ACC_FLAGS_SAT n) = (s.get (F.ACC_FLAGS_SAT n) &&& (2 ^ 32 - 1 - x % 2 ^ 32)) % 2 ^ 32 :=
    hu ▸ State.get_set_self s (F.ACC_FLAGS_SAT n) _ (Nat.zero_le 31) (show 31 < 64 by omega)
  have hpoison : u.get (F.ACC_FLAGS_POISON n) = s.get (F.ACC_FLAGS_POISON n) :=
    hu ▸ State.get_set_disjoint s (F.ACC_FLAGS_SAT n) (F.ACC_FLAGS_POISON n) _ (Nat.zero_le 31) (show 31 < 64 by omega)
      (.inr (show 31 < 32 by omega))
  have hframe : Frame [A.ACC_FLAGS n] s u := hu ▸ (Frame.refl _ s).set _ _
  rw [hu] at ht
  clear hu
  refine ⟨fun i hi => ?_, fun i hi => ?_, ht ▸ hframe.set _ _⟩
  · rw [← ht, ← testBit_cleared _ _ i hi, ← hsat]
    exact congrArg (Nat.testBit · i) (State.get_set_disjoint u (F.ACC_FLAGS_POISON n) (F.ACC_FLAGS_SAT n) _ (show 32 ≤ 63 by omega)
      (show 63 < 64 by omega) (.inl (show 31 < 32 by omega)))
  · rw [← ht, ← testBit_cleared _ _ i hi, ← hpoison]
    exact congrArg (Nat.testBit · i) (State.get_set_self u (F.ACC_FLAGS_POISON n) _ (show 32 ≤ 63 by omega) (show 63 < 64 by omega))

/-! ## A stop (R107) -/

theorem coreStop_running (s : State) (n : Nat) (hsite : s.siteEnabled n = true) (hst : (s.coreAt n).state = 1 ∨ (s.coreAt n).state = 2) :
    coreStop n s = s.setCore n { s.coreAt n with stopping := some 0 } := by
  unfold coreStop
  rw [if_neg (by simp [hsite])]
  split
  · rfl
  · rfl
  · omega
  · omega
  next h1 h2 _ _ => exact (hst.elim h1 h2).elim

theorem coreStop_still (s : State) (n : Nat) (hsite : s.siteEnabled n = true) (hst : (s.coreAt n).state = 3 ∨ (s.coreAt n).state = 4) :
    coreStop n s = s.setCore n { s.coreAt n with state := 0 } := by
  unfold coreStop
  rw [if_neg (by simp [hsite])]
  split
  · omega
  · omega
  · rfl
  · rfl
  next _ _ h3 h4 => exact (hst.elim h3 h4).elim

/-- Settles O24, state by state. -/
theorem coreStates : Obligations.CoreStates := by
  unfold Obligations.CoreStates
  intro s n hs hshape hn hsite
  have hlen : n < s.cores.length := by
    rw [hshape.1]
    exact hn
  have hlive (f : State → State) : lively s n 100 f = .next (f s) := lively_powered s n 100 f hn hs.1 hs.2
  have hstop (c : Core) (hst : coreStop n s = s.setCore n c) :
      execCoreStop n s = .next { s with cores := s.cores.set n c } := by
    rw [execCoreStop, hlive, hst]
    rfl
  refine ⟨fun hst hmode => ?_, fun hmode => ?_, fun hst => ?_, fun hst => ?_, fun h => ?_, fun h => ?_, fun h hmode hpend => ?_,
    fun q f hq hlq hf hpend hcyc => ?_, fun x y hst => ?_⟩
  · exact ⟨_, (hlive (coreRun n) : execCoreRun n s = _), coreRun_effect s n hlen hsite hst hmode _ rfl⟩
  · refine (hlive (coreRun n) : execCoreRun n s = _).trans (congrArg Host.Outcome.next ?_)
    unfold coreRun
    rw [if_neg (by simp [hsite])]
    exact if_neg fun h => h.2 ((s.on_iff_eq_one (F.CORE_CTRL_MODE n) rfl).mpr hmode)
  · exact hstop _ (coreStop_running s n hsite hst)
  · exact hstop _ (coreStop_still s n hsite hst)
  · exact ⟨_, (hlive _ : execCoreStopped n s = _), s.finishCore_effect n 0 hlen h⟩
  · exact ⟨_, (hlive _ : execCoreHalted n s = _), s.finishCore_effect n 4 hlen h⟩
  · refine ⟨_, (hlive _ : execCoreFreeze n s = _), ?_⟩
    rw [coreFreeze_free s n hlen h hmode hpend]
    exact s.finishCore_effect n 3 hlen h
  · refine ⟨_, (hlive _ : execElementPoppable n q s = _), ?_⟩
    rw [if_pos hq]
    exact elementPoppable_effect s n q f hlen (by omega) hf hpend hcyc _ rfl
  · obtain ⟨h1, h2, h3⟩ := accFlagsClear_effect s n x y hsite hst _ rfl
    exact ⟨_, (hlive _ : execAccFlagsClear n x y s = _), h1, h2, h3.regs, h3.bytes⟩

end Sys2Proof.Machine

/-! The stages of a bundle, what each keeps of its core, and the end of an issue (R78 to R81, R86 to R93). -/
namespace Sys2Proof.Machine

/-! ## The stages of a bundle (R81, R86 to R93) -/

/-- The pops of a bundle: the elements by end, and the core without them. -/
def Core.popAll (c : Core) (ps : List (Nat × Nat)) : List (Nat × List Byte) × Core :=
  ps.foldl (fun (r : List (Nat × List Byte) × Core) p => let (bs, c') := r.2.pop p.2; (r.1 ++ [(p.1, bs)], c')) ([], c)

/-- Reserved encodings and fused-off operations are counted. -/
def State.countErrs (s : State) (n w : Nat) (s0 : Bool) : State :=
  let s2 := if wordReserved s0 w then s.seqErr n else s
  if vectorFused s0 w ∧ ¬ vectorReserved w then s2.seqErr n else s2

/-- The vector operation: its bytes, or those that a conversion of its output reads without one. -/
def State.vecStage (s : State) (n : Nat) (c : Core) (w v : Nat) (cv : Bool) (popped : List (Nat × List Byte)) (row : Nat) : List Byte ×
    State :=
  if v = 0 then (if cv ∧ (cwConv w).csrc = 5 then s.freeBytes 512 else ([], s)) else s.vecResult n c w popped row

/-- One read port's part of a bundle. -/
def State.agFetch (n w : Nat) (s : State) (a : Nat) : State :=
  let cmd := agCmd (cwAg w a)
  let cc := s.coreAt n
  if s.agTranspose n cc a then
    let r := tbufStep (s.agWidth n cc a) cmd (if cmd.access then s.agRead n cc a else []) (cc.tbuf.getD a {})
    let c' := { cc with tbuf := cc.tbuf.set a r.2 }
    match r.1 with
    | some col => s.setCore n (c'.push (s.agQueue n cc a) (cc.cyc + 6) col)
    | none => s.setCore n c'
  else if cmd.access then s.setCore n (cc.push (s.agQueue n cc a) (cc.cyc + 6) (s.agRead n cc a))
  else s

/-- One write port's part of a bundle. -/
def State.agStore (n w : Nat) (popped : List (Nat × List Byte)) (s : State) (a : Nat) : State :=
  let cc := s.coreAt n
  if (agCmd (cwAg w a)).access then
    s.setCore n (cc.defer (cc.cyc + 3) 0 (.store (s.agAddr n cc a) ((mapFind popped (8 + a)).getD [])))
  else s

/-- What the vector engine pushes. -/
def vecPushes (v w at8 : Nat) (vbytes : List Byte) : List (Nat × Nat × List Byte) :=
  if v = 0 then []
  else if v = 23 then [(0, at8, vbytes.take 128), (1, at8, vbytes.drop 128)]
  else if cwVdst w < 2 then [(cwVdst w, at8, vbytes.take 128)] else []

/-- The vector result on its way to a vector register or to an accumulator row. -/
def State.vecTo (s : State) (n w v row : Nat) (vbytes : List Byte) : State :=
  let cc := s.coreAt n
  let at8 := cc.cyc + 8
  if v = 0 ∨ v = 23 ∨ cwVdst w < 2 then s
  else if cwVdst w = 2 then s.setCore n (cc.defer at8 0 (.vreg (cwVreg w) vbytes))
  else
    let fr := if cwVfmt w = 0 then (vbytes, s) else s.freeBytes 512
    let s' := fr.2.setCore n ((fr.2.coreAt n).defer at8 0 (.vec (cwVtile w) row fr.1))
    let ty := s'.get (F.ACC_TYPE_INT n)
    if bitAt ty (cwVtile w) then s'.set (F.ACC_TYPE_INT n) (ty - 2 ^ cwVtile w) else s'

/-- The source unit of a conversion. -/
def convUnit (ci : ConvIn) (popped : List (Nat × List Byte)) (accUnit vlanes : Holder) : Option Holder :=
  if ci.csrc < 4 then (mapFind popped ci.csrc).map fun bs => sourceVals ci.cfrom bs (fmtCount ci.cfrom)
  else if ci.csrc = 4 then some accUnit else some vlanes

/-- The conversion of a bundle: what it pushes, and the state. -/
def State.convStage (s9 : State) (n w : Nat) (cv : Bool) (row seed cnt : Nat) (unit : Option Holder) : List (Nat × Nat × List Byte) ×
    State :=
  let ci := cwConv w
  if !cv then ([], s9) else
    let cc := s9.coreAt n
    let pl := s9.convPlan n cc ci unit
    let b := s9.bankOf n
    let out := s9.convert n b row { ci with cfrom := pl.src.fmt } (fun l => drawLane seed cnt l) pl.src.next
      (pl.src.vals.take pl.take)
    let t := s9.targetFmt n ci.cto
    let codes := pl.codes ++ out.codes
    let lat := if ci.csrc = 5 then 15 else 7
    let so := out.st
    let rest := pl.src.vals.drop pl.take
    let c' := { so.coreAt n with
      holder := if rest.length = 0 then none else some { pl.src with next := pl.src.next + pl.take, vals := rest }
      packers := cc.packers.set ci.cdst (if pl.full then {} else ⟨t, codes⟩) }
    let c2 := if out.caps.length = 0 then c' else c'.defer (cc.cyc + lat) 0 (.cap ci.chist b out.caps)
    let s' := so.setCore n c2
    let s'' := if pl.errs = 1 then s'.seqErr n else s'
    if pl.full then
      (if endOn (cwPush w ci.cdst) then ([(ci.cdst, cc.cyc + lat, packValues (fmtWidth t) codes)], s'') else ([], s''.seqErr n))
    else ([], s'')

/-- One push of a bundle. -/
def State.pushOne (n w : Nat) (s : State) (p : Nat × Nat × List Byte) : State :=
  if endOn (cwPush w p.1) then s.setCore n ((s.coreAt n).push (endQueue (cwPush w p.1)) p.2.1 p.2.2) else s

def State.pushStage (s : State) (n w : Nat) (out : List (Nat × Nat × List Byte)) : State :=
  (out.filter (·.1 == 0) ++ out.filter (·.1 != 0)).foldl (State.pushOne n w) s

/-- The tensor array's part of a bundle. -/
def State.tensorStage (s : State) (n w t : Nat) (popped : List (Nat × List Byte)) : State :=
  let s11 := if hasMac t then s.doMac n w (t == 4 || t == 5) popped else s
  if hasLoad t then s11.doLoad n w popped else s11

/-- What a command leaves of address generator a. -/
def State.agMove (s : State) (n w : Nat) (c : Core) (a : Nat) : Core :=
  let set := c.agSet.getD a 0
  let idx := c.agIdx.getD a []
  let adv := fun (l : Nat) => { c with agIdx := c.agIdx.set a (agAdvance (s.agCount n a set) l idx) }
  let zero : List Nat := [0, 0, 0, 0, 0, 0]
  match agCmd (cwAg w a) with
  | .issueStep l => adv l
  | .step l => adv l
  | .reset => { c with agIdx := c.agIdx.set a zero, tbuf := if a < 4 then c.tbuf.set a {} else c.tbuf }
  | .select st => { c with agIdx := c.agIdx.set a zero, agSet := c.agSet.set a st,
                           tbuf := if a < 4 then c.tbuf.set a {} else c.tbuf }
  | _ => c

def State.agStage (s : State) (n w : Nat) : State := s.setCore n ((List.range 6).foldl (s.agMove n w) (s.coreAt n))

/-- A bundle up to its draws and its vector row. -/
def State.bundleStart (s : State) (n w : Nat) : State :=
  let s0 := s.fuse.s0
  let c := s.coreAt n
  let p := c.popAll (s.pops n c w)
  let s3 := (s.setCore n p.2).countErrs n w s0
  let s4 := s3.wrapAdd (F.RNG_COUNT_COUNT n) (boolBit (cwRdraw w) + boolBit (convOn s0 w && (cwConv w).rnd == 1))
  s4.setCore n { s4.coreAt n with vPtr := (vecRow (vop s0 w != 0 || convOn s0 w) (cwVrowctl w) c.vPtr).2 }

/-- From the vector operation's result to the end of a bundle. -/
def State.bundleRest (s6 : State) (n w : Nat) (s0 : Bool) (popped : List (Nat × List Byte)) (row seed cnt : Nat) (accUnit : Holder)
    (vbytes : List Byte) : State :=
  let v := vop s0 w
  let vlanes := sourceVals (vCode (cwVfmt w)) vbytes (vLanes (cwVfmt w))
  let s7 := (List.range 4).foldl (State.agFetch n w) s6
  let s8 := ([4, 5] : List Nat).foldl (State.agStore n w popped) s7
  let vecPush := vecPushes v w ((s8.coreAt n).cyc + 8) vbytes
  let s9 := s8.vecTo n w v row vbytes
  let r := s9.convStage n w (convOn s0 w) row seed cnt (convUnit (cwConv w) popped accUnit vlanes)
  let s10 := r.2.pushStage n w (vecPush ++ r.1)
  (s10.tensorStage n w (tmode s0 w) popped).agStage n w

theorem State.commitBundle_eq (s : State) (n w : Nat) : s.commitBundle n w =
    let s0 := s.fuse.s0
    let c := s.coreAt n
    let p := c.popAll (s.pops n c w)
    let s3 := (s.setCore n p.2).countErrs n w s0
    let row := (vecRow (vop s0 w != 0 || convOn s0 w) (cwVrowctl w) c.vPtr).1
    let s5 := s.bundleStart n w
    let r := s5.vecStage n c w (vop s0 w) (convOn s0 w) p.1 row
    r.2.bundleRest n w s0 p.1 row (s3.get (F.RNG_SEED_SEED n)) (s3.get (F.RNG_COUNT_COUNT n) + boolBit (cwRdraw w))
      (sourceVals (cwConv w).cfrom (s5.accRow n (cwVtile w) row) 128) r.1 := by
  unfold State.commitBundle State.bundleRest State.bundleStart State.vecStage State.convStage
  rfl


/-! ## What a bundle keeps of its core (R78, R99, R104) -/

/-- The core without its data: what its engines, queues and registers hold is left out. -/
def Core.ctl (c : Core) : Core := { c with
  tbuf := [], queues := [], active := [], shadow := [], shPtr := 0, rowPtr := [], half := [], held := none, vPtr := 0, vregs := []
  holder := none, packers := [], bfpCnt := 0, pend := [] }

/-- Core n has gone on only with its data. -/
structure KeepsCtl (n : Nat) (s t : State) : Prop where
  len : t.cores.length = s.cores.length
  ctl : (t.coreAt n).ctl = (s.coreAt n).ctl

namespace KeepsCtl

theorem refl (n : Nat) (s : State) : KeepsCtl n s s := ⟨rfl, rfl⟩

section
variable {n : Nat} {o s : State} (hs : KeepsCtl n o s)
include hs

theorem trans {t : State} (h : KeepsCtl n s t) : KeepsCtl n o t := ⟨h.len.trans hs.len, h.ctl.trans hs.ctl⟩

theorem sameCores {t : State} (h : t.cores = s.cores) : KeepsCtl n o t :=
  hs.trans ⟨congrArg List.length h, congrArg (fun l : List Core => (l.getD n {}).ctl) h⟩

theorem set (f : Field) (v : Nat) : KeepsCtl n o (s.set f v) := hs.sameCores (s.set_cores f v)

theorem wrapAdd (f : Field) (k : Nat) : KeepsCtl n o (s.wrapAdd f k) := hs.sameCores (s.wrapAdd_cores f k)

theorem seqErr (k : Nat) : KeepsCtl n o (s.seqErr k) := hs.sameCores (s.seqErr_cores k)

theorem freeBytes (k : Nat) : KeepsCtl n o (s.freeBytes k).2 := hs.sameCores (s.freeBytes_cores k)

theorem setCore (c : Core) (h : c.ctl = (s.coreAt n).ctl) : KeepsCtl n o (s.setCore n c) := by
  refine hs.trans ⟨s.setCore_length n c, ?_⟩
  by_cases hn : n < s.cores.length
  · rw [s.coreAt_setCore_self n c hn, h]
  · rw [s.setCore_of_length_le n c (by omega)]

theorem ite {t : State} {c : Prop} [Decidable c] (ht : KeepsCtl n o t) : KeepsCtl n o (if c then s else t) := by
  split
  · exact hs
  · exact ht

theorem foldl {α : Type} (f : State → α → State) (l : List α) (hf : ∀ s a, KeepsCtl n o s → KeepsCtl n o (f s a)) : KeepsCtl n o
    (l.foldl f s) :=
  List.foldlRecOn (motive := KeepsCtl n o) _ _ hs fun s hs a _ => hf s a hs

theorem landOp (op : PendOp) : KeepsCtl n o (s.landOp n op) := by
  cases op with
  | mac u => exact hs.sameCores (s.landMac_cores n u)
  | vec t r bs => exact hs.sameCores rfl
  | vreg r bs => exact hs.setCore _ (by rfl)
  | store e bs => exact hs.sameCores rfl
  | cap h b vs => exact hs.sameCores (s.landCap_cores n h b vs)

theorem settle (t : Nat) : KeepsCtl n o (s.settle n t) := (hs.setCore _ (by rfl)).foldl _ _ fun _ p hs => hs.landOp p.op

theorem countErrs (w : Nat) (s0 : Bool) : KeepsCtl n o (s.countErrs n w s0) := by
  have h2 : KeepsCtl n o (if wordReserved s0 w then s.seqErr n else s) := (hs.seqErr n).ite hs
  exact (h2.seqErr n).ite h2

theorem bundleStart (w : Nat) : KeepsCtl n o (s.bundleStart n w) := by
  have hpop : ((s.coreAt n).popAll (s.pops n (s.coreAt n) w)).2.ctl = (s.coreAt n).ctl :=
    List.foldlRecOn (motive := fun r : List (Nat × List Byte) × Core => r.2.ctl = (s.coreAt n).ctl) _ _ rfl fun r hr p _ => hr
  exact (((hs.setCore _ hpop).countErrs w _).wrapAdd _ _).setCore _ (by rfl)

theorem vecStage (c : Core) (w v : Nat) (cv : Bool) (popped : List (Nat × List Byte)) (row : Nat) :
    KeepsCtl n o (s.vecStage n c w v cv popped row).2 := by
  unfold State.vecStage
  split
  · split
    · exact hs.freeBytes 512
    · exact hs
  · exact hs.sameCores (s.vecResult_cores n c w popped row)

theorem agFetch (w a : Nat) : KeepsCtl n o (State.agFetch n w s a) := by
  unfold State.agFetch
  dsimp only
  split
  · split
    · exact hs.setCore _ (by rfl)
    · exact hs.setCore _ (by rfl)
  · exact (hs.setCore _ (by rfl)).ite hs

theorem agStore (w : Nat) (popped : List (Nat × List Byte)) (a : Nat) : KeepsCtl n o (State.agStore n w popped s a) :=
  (hs.setCore _ (by rfl)).ite hs

theorem vecTo (w v row : Nat) (vbytes : List Byte) : KeepsCtl n o (s.vecTo n w v row vbytes) := by
  unfold State.vecTo
  extract_lets cc at8 fr s' ty
  have hfr : KeepsCtl n o fr.2 := by
    unfold fr
    split
    · exact hs
    · exact hs.freeBytes 512
  have hs' : KeepsCtl n o s' := hfr.setCore _ (by rfl)
  exact hs.ite ((hs.setCore _ (by rfl)).ite ((hs'.set _ _).ite hs'))

theorem bfpStep (ci : ConvIn) : KeepsCtl n o (s.bfpStep n ci) := by
  unfold State.bfpStep
  split
  · dsimp only
    split
    · exact (hs.setCore _ (by rfl)).wrapAdd _ _
    · exact hs.setCore _ (by rfl)
  · exact hs

theorem convert (b row : Nat) (ci : ConvIn) (draw : Nat → Nat) (i : Nat) (vs : List Nat) : KeepsCtl n o
    (s.convert n b row ci draw i vs).st := by
  induction vs generalizing s i with
  | nil => exact hs
  | cons v vs ih =>
    unfold State.convert
    exact ih ((hs.sameCores (s.convCount_cores n _ _)).bfpStep ci) (i + 1)

theorem convStage (w : Nat) (cv : Bool) (row seed cnt : Nat) (unit : Option Holder) :
    KeepsCtl n o (s.convStage n w cv row seed cnt unit).2 := by
  unfold State.convStage
  extract_lets +onlyGivenNames ci
  split
  · exact hs
  · extract_lets +onlyGivenNames cc pl b out t codes lat so rest src srcH c' c2 s' s''
    have hso : KeepsCtl n o so := hs.convert _ _ _ _ _ _
    clear_value so
    have hc' : c'.ctl = (so.coreAt n).ctl := rfl
    have hdefer (due rank : Nat) (op : PendOp) : (c'.defer due rank op).ctl = (so.coreAt n).ctl := hc'
    have hc2 : c2.ctl = (so.coreAt n).ctl := by
      unfold c2
      split
      · exact hc'
      · exact hdefer _ _ _
    clear_value c2
    have hs' : KeepsCtl n o s' := hso.setCore _ hc2
    have hs'' : KeepsCtl n o s'' := (hs'.seqErr n).ite hs'
    clear_value s''
    split
    · split
      · exact hs''
      · exact hs''.seqErr n
    · exact hs''

theorem pushStage (w : Nat) (out : List (Nat × Nat × List Byte)) : KeepsCtl n o (s.pushStage n w out) :=
  hs.foldl _ _ fun _ _ hs => (hs.setCore _ (by rfl)).ite hs

theorem doLoad (w : Nat) (popped : List (Nat × List Byte)) : KeepsCtl n o (s.doLoad n w popped) := by
  unfold State.doLoad
  split
  · exact hs.seqErr n
  · exact hs.setCore _ (by rfl)

theorem doMac (w : Nat) (init : Bool) (popped : List (Nat × List Byte)) : KeepsCtl n o (s.doMac n w init popped) := by
  unfold State.doMac
  extract_lets +onlyGivenNames c tile new s1 held
  have h1 : KeepsCtl n o s1 := (hs.seqErr n).ite hs
  have hc : (s1.coreAt n).ctl = c.ctl := by
    unfold s1
    split <;> rfl
  clear_value held s1
  cases held with
  | none => exact h1
  | some h =>
    dsimp only
    refine (h1.setCore _ (Eq.trans ?_ hc.symm)).set _ _
    exact List.foldlRecOn (motive := fun r : Core => r.ctl = c.ctl) _ _ rfl fun r hr p _ => hr

theorem tensorStage (w t : Nat) (popped : List (Nat × List Byte)) : KeepsCtl n o (s.tensorStage n w t popped) := by
  have h11 : KeepsCtl n o (if hasMac t then s.doMac n w (t == 4 || t == 5) popped else s) := (hs.doMac _ _ _).ite hs
  exact (h11.doLoad _ _).ite h11

end

end KeepsCtl

/-- A bundle moves its core's address generators at its end; before that it goes on only with the core's data. -/
theorem State.commitBundle_keepsCtl (s : State) (n w : Nat) : ∃ x, s.commitBundle n w = x.agStage n w ∧ KeepsCtl n s x := by
  rw [s.commitBundle_eq n w]
  refine ⟨_, rfl, ?_⟩
  have h6 := (((KeepsCtl.refl n s).bundleStart w).vecStage (s.coreAt n) w (vop s.fuse.s0 w) (convOn s.fuse.s0 w)
    ((s.coreAt n).popAll (s.pops n (s.coreAt n) w)).1
        (vecRow (vop s.fuse.s0 w != 0 || convOn s.fuse.s0 w) (cwVrowctl w) (s.coreAt n).vPtr).1)
  have h7 := h6.foldl (State.agFetch n w) (List.range 4) fun _ a hs => hs.agFetch w a
  have h8 := h7.foldl (State.agStore n w ((s.coreAt n).popAll (s.pops n (s.coreAt n) w)).1) [4, 5] fun _ a hs => hs.agStore w _ a
  exact (((h8.vecTo w _ _ _).convStage w _ _ _ _ _).pushStage w _).tensorStage w _ _


/-! ## Words that leave all but one core (R78, R81) -/

theorem regsBut_trans {l : List Nat} {s t u : State} (h : regsBut l s t) (h' : regsBut l t u) : regsBut l s u := fun a ha =>
    (h' a ha).trans (h a ha)

theorem List.set_getD_self {α : Type} (l : List α) (i : Nat) (d : α) : l.set i (l.getD i d) = l := by
  by_cases h : i < l.length
  · rw [List.getD_eq_getElem?_getD, List.getElem?_eq_getElem h, Option.getD_some, List.set_getElem_self]
  · exact List.set_eq_of_length_le (by omega)

theorem coreGoes.refl (l : List Nat) (s : State) (n : Nat) : coreGoes l s s n (s.coreAt n) := by
  refine ⟨?_, regsBut_refl l s⟩
  rw [State.coreAt, List.set_getD_self]

section
variable {l : List Nat} {s t : State} {n : Nat} {c : Core} (h : coreGoes l s t n c)
include h

theorem coreGoes.eq : t = { s with cores := s.cores.set n c, regs := t.regs, freeCtr := t.freeCtr } := h.1

theorem coreGoes.cores : t.cores = s.cores.set n c := by rw [h.eq]

theorem coreGoes.len : t.cores.length = s.cores.length := by rw [h.cores, List.length_set]

theorem coreGoes.coreAt (hn : n < s.cores.length) : t.coreAt n = c := by
  rw [State.coreAt, h.cores, List.getD_eq_getElem?_getD, List.getElem?_set_self hn, Option.getD_some]

theorem coreGoes.core : t.core = s.core := by rw [h.eq]

theorem coreGoes.fuse : t.fuse = s.fuse := by rw [h.eq]

theorem coreGoes.cad : t.cad = s.cad := by rw [h.eq]

theorem coreGoes.pwr : t.pwr = s.pwr := by rw [h.eq]

theorem coreGoes.reg (a : Nat) (ha : a ∉ l) : t.reg a = s.reg a := h.2 a ha

theorem coreGoes.get (f : Field) (hf : f.addr ∉ l) : t.get f = s.get f := State.get_congr f (h.reg _ hf)

theorem coreGoes.setCore (c' : Core) : coreGoes l s (t.setCore n c') n c' := by
  refine ⟨?_, h.2⟩
  have hcores : t.cores.set n c' = s.cores.set n c' := by rw [h.cores, List.set_set]
  unfold State.setCore
  rw [hcores]
  exact congrArg (fun x : State => { x with cores := s.cores.set n c' }) h.eq

theorem coreGoes.setReg (a : Nat) (w : Word) (ha : a ∈ l) : coreGoes l s (t.setReg a w) n c :=
  ⟨congrArg (fun x : State => { x with regs := (t.setReg a w).regs }) h.eq, regsBut_trans h.2 fun b hb =>
    t.reg_setReg_ne a b w fun e => hb (e ▸ ha)⟩

theorem coreGoes.set (f : Field) (v : Nat) (hf : f.addr ∈ l) : coreGoes l s (t.set f v) n c := h.setReg _ _ hf

/-- A field written with what it holds. -/
theorem coreGoes.setSame (f : Field) (v : Nat) (hsame : (t.set f v).reg f.addr = t.reg f.addr) : coreGoes l s (t.set f v) n c := by
  refine ⟨congrArg (fun x : State => { x with regs := (t.set f v).regs }) h.eq, regsBut_trans h.2 fun b _ => ?_⟩
  by_cases hb : b = f.addr
  · rw [hb, hsame]
  · exact t.reg_set_ne f v b hb

theorem coreGoes.freeBytes (k : Nat) : coreGoes l s (t.freeBytes k).2 n c :=
  ⟨congrArg (fun x : State => { x with freeCtr := t.freeCtr + k / 8 }) h.eq, h.2⟩

theorem coreGoes.mono {l' : List Nat} (hl : l ⊆ l') : coreGoes l' s t n c := ⟨h.1, fun a ha => h.2 a fun hm => ha (hl hm)⟩

end


/-! ## Encodings that order nothing (R77) -/

theorem seqReserved_idle (w : Nat) (h : cwSeqOp w = 0) : seqReserved w = false := by simp [seqReserved, h]

theorem seqOp_of (w : Nat) (h : seqReserved w = false) : seqOp w = cwSeqOp w := if_neg (by simp [h])

theorem loopReserved_idle (w : Nat) (h : cwLop w = 0) : loopReserved w = false := by simp [loopReserved, h]

theorem tensorReserved_idle (s0 : Bool) (w : Nat) (h : cwTmode w = 0) : tensorReserved s0 w = false := if_pos h

theorem vectorReserved_idle (w : Nat) (h : cwVop w = 0) (hc : (cwConv w).cto = 0) : vectorReserved w = false := by
  simp [vectorReserved, h, hc]

theorem vectorFused_idle (s0 : Bool) (w : Nat) (h : cwVop w = 0) : vectorFused s0 w = false := by simp [vectorFused, h]

theorem convReserved_idle (s0 : Bool) (w : Nat) (h : (cwConv w).cto = 0) : convReserved s0 w = false := by simp [convReserved, h]

theorem convOn_idle (s0 : Bool) (w : Nat) (h : (cwConv w).cto = 0) : convOn s0 w = false := by simp [convOn, h]

theorem vop_idle (s0 : Bool) (w : Nat) (h : cwVop w = 0) : vop s0 w = 0 := by
  unfold vop
  split
  · rfl
  · exact h

theorem tmode_idle (s0 : Bool) (w : Nat) (h : cwTmode w = 0) : tmode s0 w = 0 := by
  unfold tmode
  split
  · rfl
  · exact h

/-- A word each of whose parts is well formed. -/
theorem wordReserved_eq_false (s0 : Bool) (w : Nat) (hseq : seqReserved w = false) (hloop : loopReserved w = false)
    (htensor : tensorReserved s0 w = false) (hvec : vectorReserved w = false) (hconv : convReserved s0 w = false)
    (hag : ∀ a < 6, agCmd (cwAg w a) ≠ .reserved) : wordReserved s0 w = false := by
  unfold wordReserved
  rw [hseq, hloop, htensor, hvec, hconv]
  simp only [Bool.false_or, List.any_eq_false, List.mem_range, beq_iff_eq]
  exact hag

/-! ## A field written with what it holds -/

theorem putBits_bits (w : Word) (hi lo : Nat) (h : lo ≤ hi) (h2 : hi < 64) : putBits w hi lo (bits w hi lo) = w := by
  refine BitVec.eq_of_getLsbD_eq fun i hi' => ?_
  rw [putBits_getLsbD w hi lo _ i h h2]
  split
  next hin =>
    have hpos : i - lo < hi + 1 - lo := by omega
    rw [bits, Nat.testBit_mod_two_pow, Nat.testBit_div_two_pow, Nat.sub_add_cancel hin.1, decide_eq_true hpos, Bool.true_and]
    rfl
  · rfl

theorem State.set_get_same (s : State) (f : Field) (h : f.lo ≤ f.hi) (h2 : f.hi < 64) : (s.set f (s.get f)).reg f.addr = s.reg f.addr :=
    by
  rw [State.set, s.reg_setReg_self, State.get, putBits_bits _ _ _ h h2]

/-! ## The stages of a bundle whose part orders nothing -/

section
variable {l : List Nat} {s x : State} {n : Nat} {c : Core} (h : coreGoes l s x n c)
include h

theorem coreGoes.countErrs (w : Nat) (s0 : Bool) (hres : wordReserved s0 w = false) (hfused : vectorFused s0 w = false) :
    coreGoes l s (x.countErrs n w s0) n c := by
  have heq : x.countErrs n w s0 = x := by simp [State.countErrs, hres, hfused]
  rwa [heq]

/-- A bundle without a draw, up to its vector row. -/
theorem coreGoes.bundleStart (hn : n < s.cores.length) (w : Nat) (ps : List (Nat × Nat)) (hps : x.pops n c w = ps)
    (hres : wordReserved x.fuse.s0 w = false) (hfused : vectorFused x.fuse.s0 w = false) (hdraw : cwRdraw w = false)
    (hnear : convOn x.fuse.s0 w = false ∨ (cwConv w).rnd ≠ 1) :
    coreGoes l s (x.bundleStart n w) n
      { (c.popAll ps).2 with vPtr := (vecRow (vop x.fuse.s0 w != 0 || convOn x.fuse.s0 w) (cwVrowctl w) c.vPtr).2 } := by
  have hnc : boolBit (convOn x.fuse.s0 w && (cwConv w).rnd == 1) = 0 := by
    rcases hnear with h | h <;> simp [h, boolBit]
  have hnv : boolBit (cwRdraw w) = 0 := by simp [hdraw, boolBit]
  unfold State.bundleStart
  dsimp only
  rw [h.coreAt hn, hps, hnc, hnv]
  have h3 := (h.setCore (c.popAll ps).2).countErrs w x.fuse.s0 hres hfused
  have h4 : coreGoes l s (((x.setCore n (c.popAll ps).2).countErrs n w x.fuse.s0).wrapAdd (F.RNG_COUNT_COUNT n) (0 + 0)) n
      (c.popAll ps).2 :=
    h3.setSame _ _ (State.set_get_same _ _ (Nat.zero_le 63) (show 63 < 64 by omega))
  rw [h4.coreAt hn]
  exact h4.setCore _

theorem coreGoes.vecStage_idle (c' : Core) (w : Nat) (popped : List (Nat × List Byte)) (row : Nat) :
    coreGoes l s (x.vecStage n c' w 0 false popped row).2 n c := by
  unfold State.vecStage
  simpa using h

/-- An address generator that neither reads nor flushes. -/
theorem coreGoes.agFetch_idle (hn : n < s.cores.length) (w a : Nat) (hacc : (agCmd (cwAg w a)).access = false)
    (hflush : agCmd (cwAg w a) ≠ .flush) :
    coreGoes l s (State.agFetch n w x a) n c := by
  have hstep (wd : Nat) (row : List Byte) (t : TBuf) : tbufStep wd (agCmd (cwAg w a)) row t = (none, t) := by
    simp [tbufStep, hacc, hflush]
  unfold State.agFetch
  dsimp only
  rw [h.coreAt hn, hstep, hacc]
  dsimp only
  rw [List.set_getD_self]
  split
  · exact h.setCore c
  · exact h

theorem coreGoes.agStore_idle (w : Nat) (popped : List (Nat × List Byte)) (a : Nat) (hacc : (agCmd (cwAg w a)).access = false) :
    coreGoes l s (State.agStore n w popped x a) n c := by
  unfold State.agStore
  rw [hacc]
  exact h

end

theorem State.vecTo_idle (x : State) (n w row : Nat) (vbytes : List Byte) : x.vecTo n w 0 row vbytes = x := by
  unfold State.vecTo
  exact if_pos (.inl rfl)

theorem State.convStage_idle (x : State) (n w row seed cnt : Nat) (unit : Option Holder) : x.convStage n w false row seed cnt unit =
    ([], x) := rfl

theorem State.tensorStage_idle (x : State) (n w : Nat) (popped : List (Nat × List Byte)) : x.tensorStage n w 0 popped = x := rfl

/-- From the address generators on, of a word with neither a vector operation nor a conversion. -/
theorem coreGoes.bundleRest {l : List Nat} {s x8 x : State} {n : Nat} {c : Core} (w : Nat) (s0 : Bool) (popped : List (Nat × List Byte))
    (row seed cnt : Nat) (accUnit : Holder) (vbytes : List Byte) (hv : vop s0 w = 0) (hcv : convOn s0 w = false)
    (h8 : ([4, 5] : List Nat).foldl (State.agStore n w popped) ((List.range 4).foldl (State.agFetch n w) x) = x8)
    (h10 : coreGoes l s (x8.tensorStage n w (tmode s0 w) popped) n c) (hn : n < s.cores.length) :
    coreGoes l s (x.bundleRest n w s0 popped row seed cnt accUnit vbytes) n
      ((List.range 6).foldl ((x8.tensorStage n w (tmode s0 w) popped).agMove n w) c) := by
  unfold State.bundleRest
  dsimp only
  rw [h8, hv, hcv, State.vecTo_idle, State.convStage_idle]
  have hpush : x8.pushStage n w (vecPushes 0 w ((x8.coreAt n).cyc + 8) vbytes ++ []) = x8 := rfl
  dsimp only
  rw [hpush]
  unfold State.agStage
  rw [h10.coreAt hn]
  exact h10.setCore _

/-! ## A word at which the core stands -/

theorem landFlight_idle (t : Nat) (q : Queue) (h : q.flight = []) : landFlight t q = q := by
  unfold landFlight
  dsimp only
  rw [h]
  change { q with ready := q.ready ++ [], flight := [] } = q
  rw [List.append_nil, ← h]

/-- With nothing issued before on its way, nothing completes. -/
theorem State.settle_still (s : State) (n t : Nat) (hpend : (s.coreAt n).pend = []) (hflight : ∀ q ∈ (s.coreAt n).queues, q.flight = []) :
    s.settle n t = s := by
  have hland : (s.coreAt n).queues.map (landFlight t) = (s.coreAt n).queues :=
    (List.map_congr_left fun q hq => landFlight_idle _ q (hflight q hq)).trans (List.map_id _)
  rw [s.settle_idle n _ hpend, hland]
  have hcore : ({ s.coreAt n with pend := [], queues := (s.coreAt n).queues } : Core) = s.coreAt n := by rw [← hpend]
  rw [hcore]
  exact ((coreGoes.refl [] s n).setCore (s.coreAt n)).1.trans (coreGoes.refl [] s n).1.symm

theorem State.atIssue_still (s : State) (n : Nat) (hpend : (s.coreAt n).pend = []) (hflight : ∀ q ∈ (s.coreAt n).queues, q.flight = []) :
    s.atIssue n = s := s.settle_still n _ hpend hflight

/-! ## The end of an issue (R78 to R81) -/

/-- The bundle of a word that passes its checks, from the state its commit leaves on. -/
theorem State.bundle_eq (s : State) (n w : Nat) (hbound : s.boundChecks n (s.coreAt n) w = [])
    (hpop : s.popChecks n (s.coreAt n) (s.pops n (s.coreAt n) w) = [])
    (hpush : s.pushChecks n (s.coreAt n) (s.pops n (s.coreAt n) w)
      (s.pushes n (s.coreAt n) w (vop s.fuse.s0 w) (s.convPushes n (s.coreAt n) w)) = []) :
    s.bundle n w =
      let s1 := s.commitBundle n w
      let s2 := if (s.coreAt n).rep = 0 then s1.loopOp n w else s1
      let s3 := if (s.coreAt n).rep = cwRepeat w then (s2.swapAct n w).seqAct n w else s2
      s3.setCore n { s3.coreAt n with rep := if (s.coreAt n).rep = cwRepeat w then 0 else (s.coreAt n).rep + 1, cyc := (s.coreAt n).cyc +
          1
                                      issued := (s3.coreAt n).issued + 1, since := (s3.coreAt n).since + 1 } := by
  unfold State.bundle
  dsimp only
  rw [hbound, hpop, hpush]
  exact if_neg fun h => h rfl

theorem State.setCore_setCore (s : State) (n : Nat) (c c' : Core) : (s.setCore n c).setCore n c' = s.setCore n c' := by
  simp [State.setCore]

/-- A core that goes on at the next word. -/
theorem State.nextPc_of (s : State) (n : Nat) (hpc : (s.coreAt n).pc < 8191) : s.nextPc n = s.setCore n
    { s.coreAt n with pc := (s.coreAt n).pc + 1 } :=
  if_neg (by omega)

theorem State.setCore_nextPc (s : State) (n : Nat) (c : Core) (hn : n < s.cores.length) (hpc : c.pc < 8191) :
    (s.setCore n c).nextPc n = s.setCore n { c with pc := c.pc + 1 } := by
  have hat := s.coreAt_setCore_self n c hn
  rw [State.nextPc_of _ _ (by rw [hat]; exact hpc), hat, State.setCore_setCore]

section
variable (s : State) (n w : Nat)

theorem State.seqAct_next (hop : seqOp w = 0 ∨ seqOp w = 3) (hpc : (s.coreAt n).pc < 8191) :
    s.seqAct n w = s.setCore n { s.coreAt n with pc := (s.coreAt n).pc + 1 } := by
  rw [← s.nextPc_of n hpc]
  unfold State.seqAct
  rcases hop with h | h <;> simp [h]

theorem State.seqAct_open (hop : seqOp w = 1) (hn : n < s.cores.length) (hpc : (s.coreAt n).pc < 8191) :
    s.seqAct n w = s.setCore n { s.coreAt n with
      body := (s.coreAt n).body.set (cwSeqArg w % 8) (some ((s.coreAt n).pc + 1))
      cnt := (s.coreAt n).cnt.set (cwSeqArg w % 8) ((s.coreAt n).trip.getD (cwSeqArg w % 8) 0)
      pc := (s.coreAt n).pc + 1 } := by
  unfold State.seqAct
  rw [hop]
  exact State.setCore_nextPc s n _ hn hpc

theorem State.seqAct_again (hop : seqOp w = 2) (b : Nat) (hb : (s.coreAt n).body.getD (cwSeqArg w % 8) none = some b)
    (hcnt : 1 < (s.coreAt n).cnt.getD (cwSeqArg w % 8) 0) :
    s.seqAct n w = s.setCore n { s.coreAt n with
      cnt := (s.coreAt n).cnt.set (cwSeqArg w % 8) ((s.coreAt n).cnt.getD (cwSeqArg w % 8) 0 - 1), pc := b } := by
  unfold State.seqAct
  rw [hop]
  dsimp only
  rw [hb]
  exact if_pos hcnt

theorem State.seqAct_done (hop : seqOp w = 2) (b : Nat) (hb : (s.coreAt n).body.getD (cwSeqArg w % 8) none = some b)
    (hcnt : ¬ 1 < (s.coreAt n).cnt.getD (cwSeqArg w % 8) 0) (hn : n < s.cores.length) (hpc : (s.coreAt n).pc < 8191) :
    s.seqAct n w = s.setCore n { s.coreAt n with cnt := (s.coreAt n).cnt.set (cwSeqArg w % 8) 0, pc := (s.coreAt n).pc + 1 } := by
  unfold State.seqAct
  rw [hop]
  dsimp only
  rw [hb]
  exact (if_neg hcnt).trans (State.setCore_nextPc s n _ hn hpc)

theorem State.seqAct_halt (hop : seqOp w = 5) : s.seqAct n w = s.haltCore n := by
  unfold State.seqAct
  rw [hop]
  rfl

end

/-! ## The core's flow of control across a bundle -/

/-- What an issue's end reads of the core: all but its data and its address generators. -/
def Core.flow (c : Core) : Core := { c.ctl with agIdx := [], agSet := [] }

theorem State.agMove_flow (s : State) (n w : Nat) (c : Core) (a : Nat) : (s.agMove n w c a).flow = c.flow := by
  unfold State.agMove
  dsimp only
  split <;> rfl

theorem State.commitBundle_flow (s : State) (n w : Nat) : ((s.commitBundle n w).coreAt n).flow = (s.coreAt n).flow := by
  obtain ⟨x, heq, hlen, hctl⟩ := s.commitBundle_keepsCtl n w
  have hx : (x.coreAt n).flow = (s.coreAt n).flow := congrArg (fun c : Core => ({ c with agIdx := [], agSet := [] } : Core)) hctl
  have hmoves : ((List.range 6).foldl (x.agMove n w) (x.coreAt n)).flow = (x.coreAt n).flow :=
    List.foldlRecOn (motive := fun c : Core => c.flow = (x.coreAt n).flow) _ _ rfl fun c hc a _ => (x.agMove_flow n w c a).trans hc
  rw [heq, State.agStage, ← hx, CoreOp.own]
  split
  · exact hmoves
  next hn =>
    rw [State.coreAt, List.getD_eq_getElem?_getD, List.getElem?_eq_none (by omega)]
    rfl

theorem State.atIssue_keepsCtl (s : State) (n : Nat) : KeepsCtl n s (s.atIssue n) := (KeepsCtl.refl n s).settle _

theorem Core.flow_of_ctl {c c' : Core} (h : c.ctl = c'.ctl) : c.flow = c'.flow :=
  congrArg (fun c : Core => ({ c with agIdx := [], agSet := [] } : Core)) h

end Sys2Proof.Machine

/-! The SEQ operations, and words that order nothing but SEQ and LOOP (R78 to R81, R104). -/
namespace Sys2Proof.Machine

/-! ## The last issue of a word (R78, R81) -/

theorem State.loopOp_idle (s : State) (n w : Nat) (h : cwLop w = 0) : s.loopOp n w = s := by simp [State.loopOp, h]

theorem State.loopOp_pc (s : State) (n w : Nat) : ((s.loopOp n w).coreAt n).pc = (s.coreAt n).pc ∧ (s.loopOp n w).cores.length =
    s.cores.length := by
  have hset (c : Core) (hc : c.pc = (s.coreAt n).pc) : ((s.setCore n c).coreAt n).pc = (s.coreAt n).pc
      ∧ (s.setCore n c).cores.length = s.cores.length := by
    refine ⟨?_, s.setCore_length n c⟩
    by_cases hn : n < s.cores.length
    · rw [s.coreAt_setCore_self n c hn, hc]
    · rw [s.setCore_of_length_le n c (by omega)]
  unfold State.loopOp
  dsimp only
  split
  · exact ⟨rfl, rfl⟩
  · split
    · exact hset _ rfl
    · exact hset _ rfl
    · exact hset _ rfl
    · exact ⟨rfl, rfl⟩

theorem State.swapAct_keepsCtl (s : State) (n w : Nat) : KeepsCtl n s (s.swapAct n w) :=
  ((KeepsCtl.refl n s).setCore _ (by rfl)).ite (KeepsCtl.refl n s)

theorem Core.flow_parts {c c' : Core} (h : c.flow = c'.flow) : c.pc = c'.pc ∧ c.rep = c'.rep ∧ c.cyc = c'.cyc ∧ c.body = c'.body
    ∧ c.cnt = c'.cnt ∧ c.trip = c'.trip :=
  ⟨(congrArg Core.pc h :), (congrArg Core.rep h :), (congrArg Core.cyc h :), (congrArg Core.body h :), (congrArg Core.cnt h :),
    (congrArg Core.trip h :)⟩

/-- The core as an issue leaves it, from the state before the clock goes on. -/
def Core.ticked (c : Core) (rep cyc : Nat) : Core := { c with rep := rep, cyc := cyc + 1, issued := c.issued + 1, since := c.since + 1 }

/-- The last issue of a word, whose operation acts on a state that keeps the core's flow of control. -/
theorem State.bundle_last (s : State) (n w : Nat) (hp : s.passes n w) (hrep : (s.coreAt n).rep = cwRepeat w) :
    ∃ y : State, (s.atIssue n).bundle n w = (y.seqAct n w).setCore n (((y.seqAct n w).coreAt n).ticked 0 (s.coreAt n).cyc)
      ∧ y.cores.length = s.cores.length ∧ (y.coreAt n).pc = (s.coreAt n).pc
      ∧ (cwLop w = 0 → (y.coreAt n).flow = (s.coreAt n).flow) := by
  obtain ⟨hbound, hpop, hpush⟩ := hp
  obtain ⟨hlen, hctl⟩ := s.atIssue_keepsCtl n
  have hflow : ((s.atIssue n).coreAt n).flow = (s.coreAt n).flow := Core.flow_of_ctl hctl
  generalize s.atIssue n = x at *
  have hxrep : (x.coreAt n).rep = cwRepeat w := (congrArg Core.rep hflow).trans hrep
  have hxcyc : (x.coreAt n).cyc = (s.coreAt n).cyc := (congrArg Core.cyc hflow).trans rfl
  have hcommit := (x.commitBundle_flow n w).trans hflow
  have hclen := x.commitBundle_length n w
  rw [x.bundle_eq n w hbound hpop hpush]
  dsimp only
  rw [if_pos hxrep, if_pos hxrep, hxcyc]
  generalize x.commitBundle n w = u at *
  obtain ⟨v, hv, hvlen, hvpc, hvflow⟩ : ∃ v : State, (if (x.coreAt n).rep = 0 then u.loopOp n w else u) = v ∧ v.cores.length =
      u.cores.length
      ∧ (v.coreAt n).pc = (u.coreAt n).pc ∧ (cwLop w = 0 → (v.coreAt n).flow = (u.coreAt n).flow) := by
    refine ⟨_, rfl, ?_⟩
    obtain ⟨h1, h2⟩ := u.loopOp_pc n w
    split
    · exact ⟨h2, h1, fun h => by rw [u.loopOp_idle n w h]⟩
    · exact ⟨rfl, rfl, fun _ => rfl⟩
  rw [hv]
  obtain ⟨hslen, hsctl⟩ := v.swapAct_keepsCtl n w
  have hsflow := Core.flow_of_ctl hsctl
  refine ⟨v.swapAct n w, rfl, ?_, ?_, fun h => ?_⟩
  · rw [hslen, hvlen, hclen, hlen]
  · rw [(Core.flow_parts hsflow).1, hvpc, (Core.flow_parts hcommit).1]
  · rw [hsflow, hvflow h, hcommit]

/-- The core after a last issue whose operation sets the core. -/
theorem State.seqAct_ticked (y z : State) (n rep cyc : Nat) (c : Core) (hz : z = y.setCore n c) (hn : n < y.cores.length) :
    (z.setCore n ((z.coreAt n).ticked rep cyc)).coreAt n = c.ticked rep cyc := by
  rw [hz, State.coreAt_setCore_self _ _ _ hn, State.coreAt_setCore_self _ _ _ (by rw [State.setCore_length]; exact hn)]

theorem exec_next (s : State) (n : Nat) : exec (.next n 0) s = issueCmd n (fun _ w => seqOp w == 0) s := by
  have h : nextIssue n 0 = fun s => s.issueIf n fun _ w => seqOp w == 0 := funext fun s => if_pos rfl
  change execNext n 0 s = _
  rw [execNext, h]
  rfl

section
variable (s : State) (n w : Nat) (hi : s.issuesWord n w) (hp : s.passes n w) (hrep : (s.coreAt n).rep = cwRepeat w)
include hi hp hrep

/-- The last issue of a word whose SEQ operation is not tested before: what the core is after it. -/
theorem last_issue (cmd : Instr) (sel : Bool → Nat → Bool) (hexec : exec cmd s = issueCmd n sel s) (hsel : sel s.fuse.s0 w = true)
    (hw : seqOp w ≠ 3) : ∃ t, ∃ y : State, exec cmd s = .next t ∧ issuedWord s t n w
      ∧ t = (y.seqAct n w).setCore n (((y.seqAct n w).coreAt n).ticked 0 (s.coreAt n).cyc) ∧ n < y.cores.length
      ∧ (y.coreAt n).pc = (s.coreAt n).pc ∧ (cwLop w = 0 → (y.coreAt n).flow = (s.coreAt n).flow) := by
  obtain ⟨t, ht, hissued⟩ := issueCmd_issues s n w sel hi hp (.inl hw) hsel
  obtain ⟨y, hy, hlen, hypc, hflow⟩ := s.bundle_last n w hp hrep
  obtain ⟨-, hshape, hn, -⟩ := hi
  exact ⟨t, y, hexec.trans ht, hissued, hissued.1.trans hy, by rw [hlen, hshape.1]; exact hn, hypc, hflow⟩

variable (hpc : (s.coreAt n).pc < 8191)

include hpc in
theorem next_last (hop : seqOp w = 0) : ∃ t, exec (.next n 0) s = .next t ∧ issuedWord s t n w ∧ (t.coreAt n).pc = (s.coreAt n).pc + 1 :=
    by
  obtain ⟨t, y, ht, hissued, hty, hn, hypc, -⟩ := last_issue s n w hi hp hrep (.next n 0) _ (exec_next s n) (by simp [hop]) (by omega)
  refine ⟨t, ht, hissued, ?_⟩
  rw [hty, State.seqAct_ticked y _ n 0 _ _ (y.seqAct_next n w (.inl hop) (by omega)) hn]
  exact congrArg (· + 1) hypc

include hpc in
theorem loopOpen_last (hop : seqOp w = 1) (hlop : cwLop w = 0) (hbody : cwSeqArg w % 8 < (s.coreAt n).body.length)
    (hcnt : cwSeqArg w % 8 < (s.coreAt n).cnt.length) :
    ∃ t, exec (.loopOpen n) s = .next t ∧ issuedWord s t n w ∧ (t.coreAt n).pc = (s.coreAt n).pc + 1
      ∧ (t.coreAt n).body.getD (cwSeqArg w % 8) none = some ((s.coreAt n).pc + 1)
      ∧ (t.coreAt n).cnt.getD (cwSeqArg w % 8) 0 = (s.coreAt n).trip.getD (cwSeqArg w % 8) 0 := by
  obtain ⟨t, y, ht, hissued, hty, hn, hypc, hflow⟩ := last_issue s n w hi hp hrep (.loopOpen n) _ rfl (by simp [hop]) (by omega)
  obtain ⟨-, -, -, hybody, hycnt, hytrip⟩ := Core.flow_parts (hflow hlop)
  refine ⟨t, ht, hissued, ?_⟩
  rw [hty, State.seqAct_ticked y _ n 0 _ _ (y.seqAct_open n w hop hn (by omega)) hn]
  refine ⟨congrArg (· + 1) hypc, ?_, ?_⟩
  · refine (getD_set_eq _ _ _ _ _ (by rw [hybody]; exact hbody)).trans ?_
    rw [if_pos rfl, hypc]
  · refine (getD_set_eq _ _ _ _ _ (by rw [hycnt]; exact hcnt)).trans ?_
    rw [if_pos rfl, hytrip]

include hpc in
theorem loopClose_last (b : Nat) (hop : seqOp w = 2) (hlop : cwLop w = 0) (hcnt : cwSeqArg w % 8 < (s.coreAt n).cnt.length)
    (hb : (s.coreAt n).body.getD (cwSeqArg w % 8) none = some b) :
    ∃ t, exec (.loopClose n) s = .next t ∧ issuedWord s t n w
      ∧ ((t.coreAt n).pc = if 1 < (s.coreAt n).cnt.getD (cwSeqArg w % 8) 0 then b else (s.coreAt n).pc + 1)
      ∧ (t.coreAt n).cnt.getD (cwSeqArg w % 8) 0 = (s.coreAt n).cnt.getD (cwSeqArg w % 8) 0 - 1 := by
  obtain ⟨t, y, ht, hissued, hty, hn, hypc, hflow⟩ := last_issue s n w hi hp hrep (.loopClose n) _ rfl (by simp [hop]) (by omega)
  obtain ⟨-, -, -, hybody, hycnt, -⟩ := Core.flow_parts (hflow hlop)
  refine ⟨t, ht, hissued, ?_⟩
  by_cases h1 : 1 < (s.coreAt n).cnt.getD (cwSeqArg w % 8) 0
  · rw [hty, State.seqAct_ticked y _ n 0 _ _ (y.seqAct_again n w hop b (by rw [hybody, hb]) (by rw [hycnt]; exact h1)) hn, if_pos h1]
    refine ⟨rfl, (getD_set_eq _ _ _ _ _ (by rw [hycnt]; exact hcnt)).trans ?_⟩
    rw [if_pos rfl, hycnt]
  · rw [hty, State.seqAct_ticked y _ n 0 _ _ (y.seqAct_done n w hop b (by rw [hybody, hb]) (by rw [hycnt]; exact h1) hn (by omega)) hn,
      if_neg h1]
    refine ⟨congrArg (· + 1) hypc, (getD_set_eq _ _ _ _ _ (by rw [hycnt]; exact hcnt)).trans ?_⟩
    rw [if_pos rfl]
    omega

theorem halt_last (hop : seqOp w = 5) : ∃ t, exec (.halt n) s = .next t ∧ issuedWord s t n w ∧ (t.coreAt n).stopping = some 4
    ∧ (t.coreAt n).pc = (s.coreAt n).pc := by
  obtain ⟨t, y, ht, hissued, hty, hn, hypc, -⟩ := last_issue s n w hi hp hrep (.halt n) _ rfl (by simp [hop]) (by omega)
  obtain ⟨u, hu, hlen⟩ : ∃ u : State, y.seqAct n w = State.setCore u n { y.coreAt n with stopping := some 4, packers := [{}, {}] }
      ∧ u.cores.length = y.cores.length := by
    rw [y.seqAct_halt n w hop]
    refine ⟨_, rfl, ?_⟩
    split <;> rfl
  refine ⟨t, ht, hissued, ?_⟩
  rw [hty, State.seqAct_ticked u _ n 0 _ _ hu (by omega)]
  exact ⟨rfl, hypc⟩

end

section
variable (s : State) (n w : Nat) (hi : s.issuesWord n w) (hop : seqOp w = 3) (hrep : (s.coreAt n).rep = 0)
include hi hop hrep

/-- A WAIT word at its first issue is tested. -/
theorem wait_tested : exec (.wait n) s = .next (if ((s.atIssue n).waitTarget n w : Int) ≤ (s.atIssue n).seenValue n (cwSeqArg w % 32)
    then (s.atIssue n).waitIssue n w
    else (s.atIssue n).setCore n { (s.atIssue n).coreAt n with
      state := 2, waitCtr := cwSeqArg w % 32, waitTgt := (s.atIssue n).waitTarget n w, waitTick := s.now }) := by
  obtain ⟨⟨hrails, hpin⟩, -, hn, hsite, hstate, hstop, hfetch⟩ := hi
  refine (lively_powered s n 100 (fun s => s.issueIf n fun _ w => seqOp w == 3) hn hrails hpin : execWait n s = _).trans
    (congrArg Host.Outcome.next ?_)
  have hguard : (s.siteEnabled n && (s.coreAt n).state == 1 && (s.coreAt n).stopping.isNone) = true := by simp [hsite, hstate, hstop]
  unfold State.issueIf
  dsimp only
  rw [if_pos hguard, hfetch, if_pos (by simp [hop]), if_pos ⟨hop, hrep⟩]
  rfl

/-- A WAIT whose counter has not reached its target. -/
theorem wait_unmet (hunmet : (s.atIssue n).seenValue n (cwSeqArg w % 32) < ((s.atIssue n).waitTarget n w : Int)) :
    exec (.wait n) s = .next ((s.atIssue n).setCore n { (s.atIssue n).coreAt n with
      state := 2, waitCtr := cwSeqArg w % 32, waitTgt := (s.atIssue n).waitTarget n w, waitTick := s.now }) := by
  rw [wait_tested s n w hi hop hrep, if_neg (not_le.mpr hunmet)]

/-- A WAIT whose counter has reached its target. -/
theorem wait_met (hmet : ((s.atIssue n).waitTarget n w : Int) ≤ (s.atIssue n).seenValue n (cwSeqArg w % 32)) :
    exec (.wait n) s = .next ((s.atIssue n).waitIssue n w) := by
  rw [wait_tested s n w hi hop hrep, if_pos hmet]

end

/-! ## One issue of a plain word -/

/-- Nothing issued before is on its way, and word w has one issue, after which the core goes on. -/
structure Core.readyFor (c : Core) (w : Nat) : Prop where
  pend : c.pend = []
  flight : ∀ q ∈ c.queues, q.flight = []
  rep : c.rep = 0
  one : cwRepeat w = 0
  pc : c.pc < 8191

/-- The conversion part and the vector part order nothing. -/
structure noLanes (w : Nat) : Prop where
  vec : cwVop w = 0
  conv : (cwConv w).cto = 0

/-- No address generator reads, writes or flushes. -/
def agQuiet (w : Nat) : Prop := ∀ a < 6, (agCmd (cwAg w a)).access = false ∧ agCmd (cwAg w a) ≠ .flush

theorem agCmd_zero : agCmd 0 = .idle := rfl

theorem agQuiet_of_idle (w : Nat) (h : ∀ a < 6, cwAg w a = 0) : agQuiet w := fun a ha => by
  rw [h a ha, agCmd_zero]
  exact ⟨rfl, fun h => nomatch h⟩

section
variable (s : State) (n : Nat) (c : Core) (w : Nat)

theorem boundChecks_quiet (h : agQuiet w) : s.boundChecks n c w = [] := by
  rw [State.boundChecks, List.filterMap_eq_nil_iff]
  intro a ha
  rw [(h a (List.mem_range.mp ha)).1]
  rfl

theorem pops_ends (h : agQuiet w) : s.pops n c w = (List.range 4).filterMap fun i => if endOn (cwPop w i) then some
    (i, endQueue (cwPop w i)) else none := by
  have h4 := (h 4 (by omega)).1
  have h5 := (h 5 (by omega)).1
  simp [State.pops, h4, h5]

theorem pops_none (h : agQuiet w) (hends : ∀ i < 4, endOn (cwPop w i) = false) : s.pops n c w = [] := by
  rw [pops_ends s n c w h, List.filterMap_eq_nil_iff]
  intro i hi
  rw [hends i (List.mem_range.mp hi)]
  rfl

/-- The pushes of a word whose address generators are quiet come from its push ends. -/
theorem pushes_none (h : agQuiet w) (v : Nat) (cp : Bool) (hends : ∀ i < 2, endOn (cwPush w i) = false) : s.pushes n c w v cp = [] := by
  have hag : ((List.range 4).filterMap fun a =>
      let cmd := agCmd (cwAg w a)
      let yes := if s.agTranspose n c a then (tbufStep (s.agWidth n c a) cmd [] (c.tbuf.getD a {})).1.isSome else cmd.access
      if yes then some (8 + a, s.agQueue n c a) else none) = [] := by
    rw [List.filterMap_eq_nil_iff]
    intro a ha
    obtain ⟨h1, h2⟩ := h a (by have := List.mem_range.mp ha; omega)
    simp [tbufStep, h1, h2]
  unfold State.pushes
  dsimp only
  rw [hag]
  simp [List.range_succ, hends 0 (by omega), hends 1 (by omega)]

theorem popChecks_none : s.popChecks n c [] = [] := rfl

theorem pushChecks_none (ps : List (Nat × Nat)) : s.pushChecks n c ps [] = [] := rfl

end

theorem Core.popAll_vPtr (c : Core) (ps : List (Nat × Nat)) : (c.popAll ps).2.vPtr = c.vPtr :=
  List.foldlRecOn (motive := fun r : List (Nat × List Byte) × Core => r.2.vPtr = c.vPtr) _ _ rfl fun _ hr _ _ => hr

/-- The commit of a word without vector operation, conversion or draw: its address generators' accesses, its tensor operation, which may
change registers, and where its address generators go. -/
theorem coreGoes.commitTo {l : List Nat} {s s' x : State} {n : Nat} {c c1 c2 c3 c4 : Core} (h : coreGoes [] s x n c) (hn : n < s.cores.length)
    (hn' : n < s'.cores.length) (w : Nat) (ps : List (Nat × Nat)) (popped : List (Nat × List Byte)) (hps : x.pops n c w = ps)
    (hpop : c.popAll ps = (popped, c1)) (hlanes : noLanes w) (hdraw : cwRdraw w = false) (hres : wordReserved s.fuse.s0 w = false)
    (hfetch : ∀ y, coreGoes [] s y n c1 →
      coreGoes [] s (([4, 5] : List Nat).foldl (State.agStore n w popped) ((List.range 4).foldl (State.agFetch n w) y)) n c2)
    (htensor : ∀ y, coreGoes [] s y n c2 → coreGoes l s' (y.tensorStage n w (tmode s.fuse.s0 w) popped) n c3)
    (hmove : ∀ y, coreGoes l s' y n c3 → (List.range 6).foldl (y.agMove n w) c3 = c4) : coreGoes l s' (x.commitBundle n w) n c4 := by
  have hfuse := h.fuse
  have hv : vop s.fuse.s0 w = 0 := vop_idle _ _ hlanes.vec
  have hcv : convOn s.fuse.s0 w = false := convOn_idle _ _ hlanes.conv
  have hvptr : c1.vPtr = c.vPtr := by rw [← c.popAll_vPtr ps, hpop]
  have h5 := h.bundleStart hn w ps hps (hfuse ▸ hres) (vectorFused_idle _ _ hlanes.vec) hdraw (.inl (hfuse ▸ hcv))
  have hc1 : ({ (c.popAll ps).2 with
      vPtr := (vecRow (vop x.fuse.s0 w != 0 || convOn x.fuse.s0 w) (cwVrowctl w) c.vPtr).2 } : Core) = c1 := by
    rw [hfuse, hv, hcv, hpop]
    change { c1 with vPtr := c.vPtr } = c1
    rw [← hvptr]
  rw [hc1] at h5
  rw [x.commitBundle_eq n w]
  dsimp only
  rw [h.coreAt hn, hfuse, hps, hpop, hv, hcv]
  have h6 := fun row => h5.vecStage_idle c w popped row
  have h8 := fun row => hfetch _ (h6 row)
  have h10 := fun row => htensor _ (h8 row)
  rw [← hmove _ (h10 _)]
  exact coreGoes.bundleRest w s.fuse.s0 popped _ _ _ _ _ hv hcv rfl (h10 _) hn'

/-- The commit of such a word whose tensor operation leaves registers to `l` alone. -/
theorem coreGoes.commit {l : List Nat} {s x : State} {n : Nat} {c c1 c2 c3 c4 : Core} (h : coreGoes [] s x n c) (hn : n < s.cores.length)
    (w : Nat) (ps : List (Nat × Nat)) (popped : List (Nat × List Byte)) (hps : x.pops n c w = ps) (hpop : c.popAll ps = (popped, c1))
    (hlanes : noLanes w) (hdraw : cwRdraw w = false) (hres : wordReserved s.fuse.s0 w = false)
    (hfetch : ∀ y, coreGoes [] s y n c1 →
      coreGoes [] s (([4, 5] : List Nat).foldl (State.agStore n w popped) ((List.range 4).foldl (State.agFetch n w) y)) n c2)
    (htensor : ∀ y, coreGoes [] s y n c2 → coreGoes l s (y.tensorStage n w (tmode s.fuse.s0 w) popped) n c3)
    (hmove : ∀ y, coreGoes l s y n c3 → (List.range 6).foldl (y.agMove n w) c3 = c4) : coreGoes l s (x.commitBundle n w) n c4 :=
  h.commitTo hn hn w ps popped hps hpop hlanes hdraw hres hfetch htensor hmove

/-- A list of quiet address generators leaves the core. -/
theorem coreGoes.fetch_quiet {l : List Nat} {s y : State} {n : Nat} {c : Core} (h : coreGoes l s y n c) (hn : n < s.cores.length)
    (w : Nat)
    (popped : List (Nat × List Byte)) (hag : agQuiet w) :
    coreGoes l s (([4, 5] : List Nat).foldl (State.agStore n w popped) ((List.range 4).foldl (State.agFetch n w) y)) n c := by
  have h7 : coreGoes l s ((List.range 4).foldl (State.agFetch n w) y) n c :=
    List.foldlRecOn (motive := fun u : State => coreGoes l s u n c) _ _ h fun u hu a ha =>
      hu.agFetch_idle hn w a (hag a (by have := List.mem_range.mp ha; omega)).1 (hag a (by have := List.mem_range.mp ha; omega)).2
  exact (h7.agStore_idle w popped 4 (hag 4 (by omega)).1).agStore_idle w popped 5 (hag 5 (by omega)).1

theorem State.agMove_idle (x : State) (n w : Nat) (c : Core) (a : Nat) (h : cwAg w a = 0) : x.agMove n w c a = c := by
  unfold State.agMove
  rw [h, agCmd_zero]

theorem State.agMoves_idle (x : State) (n w : Nat) (c : Core) (h : ∀ a < 6, cwAg w a = 0) : (List.range 6).foldl (x.agMove n w) c = c :=
  List.foldlRecOn (motive := fun u : Core => u = c) _ _ rfl fun u hu a ha => by
    rw [x.agMove_idle n w u a (h a (List.mem_range.mp ha)), hu]

/-- The bundle of a word that passes its checks, from its commit on. -/
theorem coreGoes.bundleTo {l l' : List Nat} {s s' x : State} {n : Nat} {c c1 c2 c3 : Core} (h : coreGoes [] s x n c)
    (hn : n < s.cores.length) (hn' : n < s'.cores.length) (w : Nat)
    (hc : c.readyFor w) (hbound : x.boundChecks n c w = []) (hpop : x.popChecks n c (x.pops n c w) = [])
    (hpush : x.pushChecks n c (x.pops n c w) (x.pushes n c w (vop x.fuse.s0 w) (x.convPushes n c w)) = [])
    (hcommit : coreGoes l s' (x.commitBundle n w) n c1)
    (hloop : ∀ y, coreGoes l s' y n c1 → coreGoes l s' (y.loopOp n w) n c2)
    (hseq : ∀ y, coreGoes l s' y n c2 → coreGoes l' s' ((y.swapAct n w).seqAct n w) n c3) :
    coreGoes l' s' (x.bundle n w) n (c3.ticked 0 c.cyc) := by
  have hat := h.coreAt hn
  have h3 := hseq _ (hloop _ hcommit)
  rw [x.bundle_eq n w (by rw [hat]; exact hbound) (by rw [hat]; exact hpop) (by rw [hat]; exact hpush), hat]
  dsimp only
  rw [if_pos hc.rep, if_pos (hc.rep.trans hc.one.symm), if_pos (hc.rep.trans hc.one.symm), h3.coreAt hn']
  exact h3.setCore _

/-- The bundle of such a word that leaves registers to a list alone. -/
theorem coreGoes.bundle {l l' : List Nat} {s x : State} {n : Nat} {c c1 c2 c3 : Core} (h : coreGoes [] s x n c) (hn : n < s.cores.length)
    (w : Nat)
    (hc : c.readyFor w) (hbound : x.boundChecks n c w = []) (hpop : x.popChecks n c (x.pops n c w) = [])
    (hpush : x.pushChecks n c (x.pops n c w) (x.pushes n c w (vop x.fuse.s0 w) (x.convPushes n c w)) = [])
    (hcommit : coreGoes l s (x.commitBundle n w) n c1)
    (hloop : ∀ y, coreGoes l s y n c1 → coreGoes l s (y.loopOp n w) n c2)
    (hseq : ∀ y, coreGoes l s y n c2 → coreGoes l' s ((y.swapAct n w).seqAct n w) n c3) :
    coreGoes l' s (x.bundle n w) n (c3.ticked 0 c.cyc) :=
  h.bundleTo hn hn w hc hbound hpop hpush hcommit hloop hseq

theorem State.swapAct_idle (x : State) (n w : Nat) (h : cwSwap w = false) : x.swapAct n w = x := by simp [State.swapAct, h]

/-- After a word with no SEQ operation the core goes on. -/
theorem coreGoes.seqAct_next {l : List Nat} {s y : State} {n : Nat} {c : Core} (h : coreGoes l s y n c) (hn : n < s.cores.length)
    (w : Nat)
    (hop : seqOp w = 0 ∨ seqOp w = 3) (hpc : c.pc < 8191) : coreGoes l s (y.seqAct n w) n { c with pc := c.pc + 1 } := by
  have hat := h.coreAt hn
  rw [y.seqAct_next n w hop (by rw [hat]; exact hpc), hat]
  exact h.setCore _


/-! ## A word of SEQ and LOOP alone -/

/-- A word orders nothing but its SEQ and LOOP operations, which are no reserved encodings. -/
structure controlWord (w : Nat) : Prop where
  ag : ∀ a < 6, cwAg w a = 0
  tmode : cwTmode w = 0
  swap : cwSwap w = false
  lanes : noLanes w
  draw : cwRdraw w = false
  pops : ∀ i < 4, endOn (cwPop w i) = false
  pushes : ∀ i < 2, endOn (cwPush w i) = false
  seqOk : seqReserved w = false
  loopOk : loopReserved w = false

theorem controlWord_of (w : Nat) (l : List Part) (h : onlyParts l w) (hl : l ⊆ [.seq, .loop]) (hseq : seqReserved w = false)
    (hloop : loopReserved w = false) : controlWord w := by
  have hidle (p : Part) (hp : p ∉ [Part.seq, Part.loop]) : partIdle w p := h p fun hm => hp (hl hm)
  obtain ⟨htm, hswap⟩ := hidle .tensor (by decide)
  obtain ⟨hpops, hpushes⟩ := hidle .ends (by decide)
  exact ⟨hidle .ag (by decide), htm, hswap, ⟨hidle .vector (by decide), hidle .conv (by decide)⟩, hidle .draw (by decide), hpops, hpushes,
      hseq, hloop⟩

section
variable {w : Nat} (hw : controlWord w)
include hw

theorem controlWord.wordReserved (s0 : Bool) : wordReserved s0 w = false :=
  wordReserved_eq_false s0 w hw.seqOk hw.loopOk (tensorReserved_idle s0 w hw.tmode) (vectorReserved_idle w hw.lanes.vec hw.lanes.conv)
    (convReserved_idle s0 w hw.lanes.conv) fun a ha => by
      rw [hw.ag a ha]
      exact fun h => nomatch h

theorem controlWord.goes {l : List Nat} {s x : State} {n : Nat} {c c2 c3 : Core} (h : coreGoes [] s x n c) (hn : n < s.cores.length)
    (hc : c.readyFor w) (hloop : ∀ y, coreGoes [] s y n c → coreGoes [] s (y.loopOp n w) n c2)
    (hseq : ∀ y, coreGoes [] s y n c2 → coreGoes l s (y.seqAct n w) n c3) : coreGoes l s (x.bundle n w) n (c3.ticked 0 c.cyc) := by
  have hquiet := agQuiet_of_idle w hw.ag
  have hpops := pops_none x n c w hquiet hw.pops
  have hpushes (v : Nat) (cp : Bool) := pushes_none x n c w hquiet v cp hw.pushes
  have hcommit : coreGoes [] s (x.commitBundle n w) n c := h.commit hn w [] [] hpops rfl hw.lanes hw.draw (hw.wordReserved _)
    (fun y hy => hy.fetch_quiet hn w [] hquiet)
    (fun y hy => by
      rw [tmode_idle _ _ hw.tmode, State.tensorStage_idle]
      exact hy)
    fun y _ => y.agMoves_idle n w c hw.ag
  refine coreGoes.bundle h hn w hc (boundChecks_quiet x n c w hquiet) ?_ ?_ hcommit hloop fun y hy => ?_
  · rw [hpops, popChecks_none]
  · rw [hpushes, pushChecks_none]
  · rw [y.swapAct_idle n w hw.swap]
    exact hseq y hy

end

/-! ## What the commands leave of a core that stands at such a word -/

section
variable {s : State} {n st w : Nat} (hst : s.standsAt n st w)
include hst

theorem State.standsAt.lt : n < s.cores.length := by
  obtain ⟨-, hshape, hn, -⟩ := hst
  rw [hshape.1]
  exact hn

theorem State.standsAt.ready : (s.coreAt n).readyFor w := by
  obtain ⟨-, -, -, -, -, -, -, hpend, hflight, -, hrep, hone, hpc⟩ := hst
  exact ⟨hpend, hflight, hrep, hone, hpc⟩

theorem State.standsAt.atIssue : s.atIssue n = s := s.atIssue_still n hst.ready.pend hst.ready.flight

end

theorem State.standsAt.issues {s : State} {n w : Nat} (hst : s.standsAt n 1 w) : s.issuesWord n w := by
  obtain ⟨hs, hshape, hn, hsite, hstate, hstop, hfetch, -⟩ := hst
  exact ⟨hs, hshape, hn, hsite, hstate, hstop, hfetch⟩

theorem State.standsAt.issueCmd {s : State} {n w : Nat} (hst : s.standsAt n 1 w) (sel : Bool → Nat → Bool) (hsel : sel s.fuse.s0 w = true)
    (hw : seqOp w ≠ 3) : issueCmd n sel s = .next (s.bundle n w) := by
  have hi := hst.issues
  have heq := s.issueIf_eq_bundle n w sel hi (.inl hw) hsel
  obtain ⟨⟨hrails, hpin⟩, -, hn, -⟩ := hi
  rw [Machine.issueCmd, lively_powered s n 100 _ hn hrails hpin, heq, hst.atIssue]


/-! ## Settlement of the SEQ and LOOP operations -/

theorem Core.ticked_next (c : Core) (h : c.rep = 0) : ({ c with pc := c.pc + 1 } : Core).ticked 0 c.cyc = c.next := by
  rw [← h]
  rfl

theorem coreGoes.loopOp_idle {l : List Nat} {s y : State} {n : Nat} {c : Core} (h : coreGoes l s y n c) (w : Nat) (hl : cwLop w = 0) :
    coreGoes l s (y.loopOp n w) n c := by
  rw [y.loopOp_idle n w hl]
  exact h

/-- A WAIT word that issues at once. -/
theorem controlWord.waitIssue {w : Nat} (hw : controlWord w) {s x : State} {n : Nat} {c : Core} (h : coreGoes [] s x n c)
    (hn : n < s.cores.length) (hc : c.readyFor w) (hop : cwSeqOp w = 3) (hlop : cwLop w = 0) (hmode : cwSeqArg w / 1024 = 0)
    (hthr : s.throttle = 0) : coreGoes [] s (x.waitIssue n w) n { c.next with state := 1, since := 1 } := by
  have hthr' : x.throttle = 0 := by
    rw [← hthr]
    unfold State.throttle
    rw [h.pwr, h.get F.PWR_STATUS_LEVEL List.not_mem_nil]
  obtain ⟨c', hc'⟩ : ∃ c' : Core, { c with state := 1, cyc := c.cyc + 0, waited := c.waited + 0, since := 0 } = c' := ⟨_, rfl⟩
  have h1 : coreGoes [] s (x.setCore n c') n c' := h.setCore c'
  have hready : c'.readyFor w := by
    rw [← hc']
    exact ⟨hc.pend, hc.flight, hc.rep, hc.one, hc.pc⟩
  have h2 : coreGoes [] s ((x.setCore n c').settle n c.cyc) n c' := by
    rw [State.settle_still _ _ _ (by rw [h1.coreAt hn]; exact hready.pend) (by rw [h1.coreAt hn]; exact hready.flight)]
    exact h1
  have h3 := hw.goes h2 hn hready (fun y hy => hy.loopOp_idle w hlop) fun y hy =>
    hy.seqAct_next hn w (.inr (by rw [seqOp_of w hw.seqOk, hop])) hready.pc
  rw [c'.ticked_next hready.rep] at h3
  unfold State.waitIssue
  dsimp only
  rw [h.coreAt hn, hthr', Nat.zero_mul, Nat.zero_div, hc', Nat.add_zero, if_neg (by omega)]
  have hcore : ({ c.next with state := 1, since := 1 } : Core) = c'.next := by rw [← hc']; rfl
  rw [hcore]
  exact h3

/-- A SEQ operation that is carried out is no reserved encoding. -/
theorem seqOp_ne (w k : Nat) (h : seqOp w = k) (hk : k ≠ 0) : seqReserved w = false ∧ cwSeqOp w = k := by
  unfold seqOp at h
  cases hr : seqReserved w with
  | true =>
    rw [hr] at h
    exact absurd h.symm hk
  | false =>
    rw [hr] at h
    exact ⟨rfl, h⟩

theorem seqLevel_lt (w : Nat) (h : seqOp w = 1 ∨ seqOp w = 2) : cwSeqArg w % 8 < 6 := by
  obtain ⟨hres, hop⟩ : seqReserved w = false ∧ (cwSeqOp w = 1 ∨ cwSeqOp w = 2) := by
    rcases h with h | h
    · exact ⟨(seqOp_ne w 1 h (by omega)).1, .inl (seqOp_ne w 1 h (by omega)).2⟩
    · exact ⟨(seqOp_ne w 2 h (by omega)).1, .inr (seqOp_ne w 2 h (by omega)).2⟩
  unfold seqReserved at hres
  rcases hop with hop | hop <;> rw [hop] at hres <;> simpa using hres

theorem seqReserved_loop (w : Nat) (h : cwSeqOp w = 1 ∨ cwSeqOp w = 2) (hl : cwSeqArg w % 8 < 6) : seqReserved w = false := by
  unfold seqReserved
  rcases h with h | h <;> rw [h] <;> simpa using hl

section
variable {s : State} {n w : Nat} (hst : s.standsAt n 1 w)
include hst

/-- A word of SEQ alone that the core goes on from in one issue. -/
theorem State.standsAt.seqGoes (hparts : onlyParts [.seq] w) (hok : seqReserved w = false) (cmd : Instr) (sel : Bool → Nat → Bool)
    (hexec : exec cmd s = Machine.issueCmd n sel s) (hsel : sel s.fuse.s0 w = true) (hw : seqOp w ≠ 3) (l : List Nat) (c3 : Core)
    (hseq : ∀ y, coreGoes [] s y n (s.coreAt n) → coreGoes l s (y.seqAct n w) n c3) :
    ∃ t, exec cmd s = .next t ∧ coreGoes l s t n (c3.ticked 0 (s.coreAt n).cyc) := by
  have hlop : cwLop w = 0 := hparts .loop (by decide)
  have hword := controlWord_of w _ hparts (by simp) hok (loopReserved_idle w hlop)
  refine ⟨_, hexec.trans (hst.issueCmd sel hsel hw), ?_⟩
  exact hword.goes (.refl [] s n) hst.lt hst.ready (fun y hy => hy.loopOp_idle w hlop) hseq

theorem State.standsAt.next (hparts : onlyParts [] w) : ∃ t, exec (.next n 0) s = .next t ∧ coreGoes [] s t n (s.coreAt n).next := by
  have hseq : cwSeqOp w = 0 := hparts .seq (by simp)
  have hok := seqReserved_idle w hseq
  have hop : seqOp w = 0 := (seqOp_of w hok).trans hseq
  obtain ⟨t, ht, hgo⟩ := hst.seqGoes (fun p hp => hparts p (by simp)) hok (.next n 0) _ (exec_next s n) (by simp [hop]) (by omega) [] _
    fun y hy => hy.seqAct_next hst.lt w (.inl hop) hst.ready.pc
  exact ⟨t, ht, Core.ticked_next _ hst.ready.rep ▸ hgo⟩

theorem State.standsAt.loopOpen (hparts : onlyParts [.seq] w) (hop : cwSeqOp w = 1) (hl : cwSeqArg w % 8 < 6) :
    ∃ t, exec (.loopOpen n) s = .next t ∧ coreGoes [] s t n { (s.coreAt n).next with
      body := (s.coreAt n).body.set (cwSeqArg w % 8) (some ((s.coreAt n).pc + 1))
      cnt := (s.coreAt n).cnt.set (cwSeqArg w % 8) ((s.coreAt n).trip.getD (cwSeqArg w % 8) 0) } := by
  have hok := seqReserved_loop w (.inl hop) hl
  have hop : seqOp w = 1 := (seqOp_of w hok).trans hop
  obtain ⟨t, ht, hgo⟩ := hst.seqGoes hparts hok (.loopOpen n) _ rfl (by simp [hop]) (by omega) [] _ fun y hy => by
    have hat := hy.coreAt hst.lt
    rw [y.seqAct_open n w hop (by rw [hy.len]; exact hst.lt) (by rw [hat]; exact hst.ready.pc), hat]
    exact hy.setCore _
  refine ⟨t, ht, ?_⟩
  convert hgo using 1
  simp [Core.ticked, Core.next, Core.spent, hst.ready.rep]

theorem State.standsAt.loopClose (hparts : onlyParts [.seq] w) (b : Nat) (hop : cwSeqOp w = 2) (hl : cwSeqArg w % 8 < 6)
    (hb : (s.coreAt n).body.getD (cwSeqArg w % 8) none = some b) :
    (1 < (s.coreAt n).cnt.getD (cwSeqArg w % 8) 0 → ∃ t, exec (.loopClose n) s = .next t ∧ coreGoes [] s t n { (s.coreAt n).spent with
      pc := b, cnt := (s.coreAt n).cnt.set (cwSeqArg w % 8) ((s.coreAt n).cnt.getD (cwSeqArg w % 8) 0 - 1) })
    ∧ ((s.coreAt n).cnt.getD (cwSeqArg w % 8) 0 ≤ 1 → ∃ t, exec (.loopClose n) s = .next t ∧ coreGoes [] s t n { (s.coreAt n).next with
      cnt := (s.coreAt n).cnt.set (cwSeqArg w % 8) 0 }) := by
  have hok := seqReserved_loop w (.inr hop) hl
  have hop : seqOp w = 2 := (seqOp_of w hok).trans hop
  refine ⟨fun hcnt => ?_, fun hcnt => ?_⟩
  · obtain ⟨t, ht, hgo⟩ := hst.seqGoes hparts hok (.loopClose n) _ rfl (by simp [hop]) (by omega) [] _ fun y hy => by
      have hat := hy.coreAt hst.lt
      rw [y.seqAct_again n w hop b (by rw [hat, hb]) (by rw [hat]; exact hcnt), hat]
      exact hy.setCore _
    refine ⟨t, ht, ?_⟩
    convert hgo using 1
    simp [Core.ticked, Core.spent, hst.ready.rep]
  · obtain ⟨t, ht, hgo⟩ := hst.seqGoes hparts hok (.loopClose n) _ rfl (by simp [hop]) (by omega) [] _ fun y hy => by
      have hat := hy.coreAt hst.lt
      rw [y.seqAct_done n w hop b (by rw [hat, hb]) (by rw [hat]; omega) (by rw [hy.len]; exact hst.lt)
        (by rw [hat]; exact hst.ready.pc), hat]
      exact hy.setCore _
    refine ⟨t, ht, ?_⟩
    convert hgo using 1
    simp [Core.ticked, Core.next, Core.spent, hst.ready.rep]

theorem State.standsAt.halt (hparts : onlyParts [.seq] w) (hop : cwSeqOp w = 5) (hempty : ∀ q ∈ (s.coreAt n).queues, q.ready = []) :
    ∃ t, exec (.halt n) s = .next t ∧ coreGoes [] s t n { (s.coreAt n).spent with stopping := some 4, packers := [{}, {}] } := by
  have hok : seqReserved w = false := by simp [seqReserved, hop]
  have hop : seqOp w = 5 := (seqOp_of w hok).trans hop
  have hleft : ((s.coreAt n).queues.any fun q => q.ready.length != 0 || q.flight.length != 0) = false := by
    rw [List.any_eq_false]
    intro q hq
    simp [hempty q hq, hst.ready.flight q hq]
  obtain ⟨t, ht, hgo⟩ := hst.seqGoes hparts hok (.halt n) _ rfl (by simp [hop]) (by omega) [] _ fun y hy => by
    have hat := hy.coreAt hst.lt
    rw [y.seqAct_halt n w hop]
    unfold State.haltCore
    dsimp only
    rw [hat, hleft]
    exact hy.setCore _
  refine ⟨t, ht, ?_⟩
  convert hgo using 1
  simp [Core.ticked, Core.spent, hst.ready.rep]

theorem State.standsAt.seenValue (k : Nat) (hlate : (s.coreAt n).lateSig = none) : (s.atIssue n).seenValue n k =
    (s.get (F.CNT_VALUE n k) : Int) := by
  rw [hst.atIssue, State.seenValue, hlate]

theorem State.standsAt.wait (hparts : onlyParts [.seq] w) (hop : cwSeqOp w = 3) (hmode : cwSeqArg w / 1024 = 0)
    (hlate : (s.coreAt n).lateSig = none) :
    (s.get (F.CNT_VALUE n (cwSeqArg w % 32)) < cwImm w → ∃ t, exec (.wait n) s = .next t ∧ coreGoes [] s t n { s.coreAt n with
      state := 2, waitCtr := cwSeqArg w % 32, waitTgt := cwImm w, waitTick := s.now })
    ∧ (cwImm w ≤ s.get (F.CNT_VALUE n (cwSeqArg w % 32)) → s.throttle = 0 →
      ∃ t, exec (.wait n) s = .next t ∧ coreGoes [] s t n { (s.coreAt n).next with since := 1 }) := by
  have hok : seqReserved w = false := by simp [seqReserved, hop, hmode]
  have hop' : seqOp w = 3 := (seqOp_of w hok).trans hop
  have hlop : cwLop w = 0 := hparts .loop (by decide)
  have hword := controlWord_of w _ hparts (by simp) hok (loopReserved_idle w hlop)
  have hseen := hst.seenValue (cwSeqArg w % 32) hlate
  have htgt : (s.atIssue n).waitTarget n w = cwImm w := if_pos hmode
  refine ⟨fun hlt => ?_, fun hle hthr => ?_⟩
  · refine ⟨_, wait_unmet s n w hst.issues hop' hst.ready.rep ?_, ?_⟩
    · rw [hseen, htgt]
      exact Int.ofNat_lt.mpr hlt
    · rw [htgt, hst.atIssue]
      exact (coreGoes.refl [] s n).setCore _
  · refine ⟨_, wait_met s n w hst.issues hop' hst.ready.rep ?_, ?_⟩
    · rw [hseen, htgt]
      exact Int.ofNat_le.mpr hle
    · rw [hst.atIssue]
      have hgo := hword.waitIssue (.refl [] s n) hst.lt hst.ready hop hlop hmode hthr
      convert hgo using 1
      simp [Core.next, Core.spent, hst.issues.2.2.2.2.1]

end

/-- Settles O25: the last issue acts on the core's flow of control alone, and a word of SEQ alone leaves all else. -/
theorem sequenceOperations : Obligations.SequenceOperations := by
  unfold Obligations.SequenceOperations
  refine ⟨fun s n w hi hp hrep hpc => ⟨fun hop => ?_, fun hop hlop hbody hcnt => ?_, fun b hop hlop hcnt hb => ?_, fun hop => ?_,
    fun hop h0 hunmet => ?_⟩, fun s n w hst => ?_⟩
  · exact next_last s n w hi hp hrep hpc hop
  · have hl := seqLevel_lt w (.inl hop)
    exact loopOpen_last s n w hi hp hrep hpc hop hlop (by omega) (by omega)
  · have hl := seqLevel_lt w (.inr hop)
    exact loopClose_last s n w hi hp hrep hpc b hop hlop (by omega) hb
  · exact halt_last s n w hi hp hrep hop
  · obtain ⟨hlen, hctl⟩ := s.atIssue_keepsCtl n
    obtain ⟨hpc', -⟩ := Core.flow_parts (Core.flow_of_ctl hctl)
    have hn : n < (s.atIssue n).cores.length := by
      obtain ⟨-, hshape, hn, -⟩ := hi
      rw [hlen, hshape.1]
      exact hn
    refine ⟨_, wait_unmet s n w hi hop h0 hunmet, ?_⟩
    rw [State.coreAt_setCore_self _ _ _ hn]
    exact ⟨rfl, rfl, rfl, rfl, hpc'⟩
  · exact ⟨hst.next, fun hparts => ⟨hst.loopOpen hparts, fun b hop hl hb => hst.loopClose hparts b hop hl hb, hst.halt hparts,
      fun hop hmode hlate => hst.wait hparts hop hmode hlate⟩⟩

end Sys2Proof.Machine

/-! The LOOP operations (R80, R81). -/
namespace Sys2Proof.Machine

/-! ## LOOP (R80, R81) -/

section
variable (s : State) (n w : Nat)

theorem State.loopOp_imm (hl : cwLsel w < 6) (h : cwLop w = 1) :
    s.loopOp n w = s.setCore n { s.coreAt n with trip := (s.coreAt n).trip.set (cwLsel w) (cwTripImm w) } := by
  have hok : ¬ loopReserved w = true := by simp [loopReserved]; omega
  unfold State.loopOp
  dsimp only
  rw [if_neg hok, h]
  rfl

theorem State.loopOp_reg (hl : cwLsel w < 6) (h : cwLop w = 2) : s.loopOp n w = s.setCore n { s.coreAt n with
    trip := (s.coreAt n).trip.set (cwLsel w) (s.get (F.LOOP_TRIP_TRIP n (cwLsel w))) } := by
  have hok : ¬ loopReserved w = true := by simp [loopReserved]; omega
  unfold State.loopOp
  dsimp only
  rw [if_neg hok, h]
  rfl

theorem State.loopOp_step (hl : cwLsel w < 6) (h : cwLop w = 3) : s.loopOp n w = s.setCore n { s.coreAt n with
    cnt := (s.coreAt n).cnt.set (cwLsel w) ((s.coreAt n).cnt.getD (cwLsel w) 0 - 1) } := by
  have hok : ¬ loopReserved w = true := by simp [loopReserved]; omega
  unfold State.loopOp
  dsimp only
  rw [if_neg hok, h]
  rfl

end

/-- A part of core n that a write of the core keeps. -/
theorem State.coreAt_setCore_part {α : Type} (g : Core → α) (s : State) (n : Nat) (c : Core) (h : g c = g (s.coreAt n)) :
    g ((s.setCore n c).coreAt n) = g (s.coreAt n) := by
  by_cases hn : n < s.cores.length
  · rw [s.coreAt_setCore_self n c hn, h]
  · rw [s.setCore_of_length_le n c (by omega)]

/-- What no SEQ operation changes of a core: its trip counts and its address generators. -/
def Core.still (c : Core) : List Nat × List (List Nat) × List Nat := (c.trip, c.agIdx, c.agSet)

def State.still (s : State) (n : Nat) : List Nat × List (List Nat) × List Nat := (s.coreAt n).still

theorem State.coreAt_congr {s t : State} (n : Nat) (h : t.cores = s.cores) : t.coreAt n = s.coreAt n := congrArg (·.getD n {}) h

theorem State.still_congr {s t : State} (n : Nat) (h : t.cores = s.cores) : t.still n = s.still n := congrArg Core.still
    (State.coreAt_congr n h)

theorem State.still_setCore (s : State) (n : Nat) (c : Core) (h : c.still = s.still n) : (s.setCore n c).still n = s.still n :=
  s.coreAt_setCore_part Core.still n c h

/-- A halt keeps the trip counts, the address generators and the loop counters. -/
theorem State.haltCore_loops (s : State) (n : Nat) : ((s.haltCore n).coreAt n).still = (s.coreAt n).still ∧ ((s.haltCore n).coreAt n).cnt =
    (s.coreAt n).cnt := by
  unfold State.haltCore
  dsimp only
  split
  · exact ⟨State.coreAt_setCore_part Core.still _ n _ rfl, State.coreAt_setCore_part Core.cnt _ n _ rfl⟩
  · exact ⟨State.coreAt_setCore_part Core.still _ n _ rfl, State.coreAt_setCore_part Core.cnt _ n _ rfl⟩

theorem State.nextPc_loops (s : State) (n : Nat) : ((s.nextPc n).coreAt n).still = (s.coreAt n).still ∧ ((s.nextPc n).coreAt n).cnt =
    (s.coreAt n).cnt := by
  unfold State.nextPc
  dsimp only
  split
  · exact (s.seqErr n).haltCore_loops n
  · exact ⟨State.coreAt_setCore_part Core.still _ n _ rfl, State.coreAt_setCore_part Core.cnt _ n _ rfl⟩

theorem State.haltCore_still (s : State) (n : Nat) : (s.haltCore n).still n = s.still n := (s.haltCore_loops n).1

theorem State.nextPc_still (s : State) (n : Nat) : (s.nextPc n).still n = s.still n := (s.nextPc_loops n).1

theorem State.streamReserved_still (fuel : Nat) (s : State) (n : Nat) : (State.streamReserved fuel s n).still n = s.still n := by
  induction fuel generalizing s with
  | zero => rfl
  | succ fuel ih =>
    rw [State.streamReserved]
    dsimp only
    split
    · split
      · exact (ih _).trans ((State.still_congr n ((State.addCounter_cores _ _ _ _ _).trans (State.seqErr_cores _ n))).trans
        (s.still_setCore n _ rfl))
      · rfl
    · rfl

theorem State.signalAct_still (s : State) (n k : Nat) : (s.signalAct n k).still n = s.still n := by
  unfold State.signalAct
  dsimp only
  split
  · split
    · exact State.still_congr n (s.seqErr_cores n)
    · exact (State.still_setCore _ n _ (by rfl)).trans (State.still_congr n (s.addCounter_cores _ _ _ _))
  · exact State.still_congr n (s.sendSignal_cores n _)
  · refine (State.streamReserved_still _ _ n).trans ?_
    unfold State.streamStart
    dsimp only
    split
    · exact State.still_congr n (s.seqErr_cores n)
    · exact s.still_setCore n _ rfl
  · exact State.still_congr n (s.seqErr_cores n)

/-- No SEQ operation changes a trip count or moves an address generator. -/
theorem State.seqAct_still (s : State) (n w : Nat) : (s.seqAct n w).still n = s.still n := by
  unfold State.seqAct
  dsimp only
  split
  · exact (State.nextPc_still _ n).trans (s.still_setCore n _ rfl)
  · split
    · exact (State.nextPc_still _ n).trans (State.still_congr n (s.seqErr_cores n))
    · split
      · exact s.still_setCore n _ rfl
      · exact (State.nextPc_still _ n).trans (s.still_setCore n _ rfl)
  · exact (State.nextPc_still _ n).trans (s.signalAct_still n _)
  · exact s.haltCore_still n
  · exact s.nextPc_still n

theorem State.swapAct_still (s : State) (n w : Nat) : (s.swapAct n w).still n = s.still n :=
  (congrArg Core.still (s.swapAct_keepsCtl n w).ctl :)

/-- The first issue of a word: the LOOP operation acts on what the commit leaves, and the word's end on that. -/
theorem State.bundle_first (s : State) (n w : Nat) (hp : s.passes n w) (hrep : (s.coreAt n).rep = 0) :
    ∃ z : State, (s.atIssue n).bundle n w = z.setCore n ((z.coreAt n).ticked (if 0 = cwRepeat w then 0 else 0 + 1) (s.coreAt n).cyc)
      ∧ z = (if 0 = cwRepeat w then ((((s.atIssue n).commitBundle n w).loopOp n w).swapAct n w).seqAct n w
        else ((s.atIssue n).commitBundle n w).loopOp n w)
      ∧ z.cores.length = s.cores.length ∧ (((s.atIssue n).commitBundle n w).coreAt n).flow = (s.coreAt n).flow := by
  obtain ⟨hbound, hpop, hpush⟩ := hp
  obtain ⟨hlen, hctl⟩ := s.atIssue_keepsCtl n
  have hflow : ((s.atIssue n).coreAt n).flow = (s.coreAt n).flow := Core.flow_of_ctl hctl
  generalize s.atIssue n = x at *
  obtain ⟨-, hxrep, hxcyc, -⟩ := Core.flow_parts hflow
  have hclen := x.commitBundle_length n w
  refine ⟨_, ?_, rfl, ?_, (x.commitBundle_flow n w).trans hflow⟩
  · rw [x.bundle_eq n w hbound hpop hpush]
    dsimp only
    rw [if_pos (hxrep.trans hrep), hxrep, hrep, hxcyc]
    rfl
  · split
    · simp [hclen, hlen]
    · simp [hclen, hlen]

section
variable (s : State) (n w : Nat) (hi : s.issuesWord n w) (hp : s.passes n w) (hw : s.noWait n w) (hrep : (s.coreAt n).rep = 0)
include hi hp hw hrep

/-- What the first issue of a LOOP word leaves, whatever the word's end does to the counters. -/
theorem first_issue (cmd : Instr) (sel : Bool → Nat → Bool) (hexec : exec cmd s = issueCmd n sel s) (hsel : sel s.fuse.s0 w = true) :
    ∃ t, ∃ y : State, exec cmd s = .next t ∧ issuedWord s t n w ∧ y = (s.atIssue n).commitBundle n w ∧ n < y.cores.length
      ∧ (y.coreAt n).flow = (s.coreAt n).flow ∧ (t.coreAt n).still = (y.loopOp n w).still n
      ∧ (cwRepeat w ≠ 0 ∨ seqOp w = 0 → (t.coreAt n).cnt = ((y.loopOp n w).coreAt n).cnt) := by
  obtain ⟨t, ht, hissued⟩ := issueCmd_issues s n w sel hi hp hw hsel
  obtain ⟨z, hz, hzdef, hzlen, hflow⟩ := s.bundle_first n w hp hrep
  obtain ⟨-, hshape, hn, -⟩ := hi
  have hlen : ((s.atIssue n).commitBundle n w).cores.length = s.cores.length := by
    rw [State.commitBundle_length, (s.atIssue_keepsCtl n).len]
  have hns : n < s.cores.length := by
    rw [hshape.1]
    exact hn
  refine ⟨t, _, hexec.trans ht, hissued, rfl, by omega, hflow, ?_⟩
  have hat : t.coreAt n = (z.coreAt n).ticked (if 0 = cwRepeat w then 0 else 0 + 1) (s.coreAt n).cyc := by
    rw [hissued.1, hz, State.coreAt_setCore_self _ _ _ (by omega)]
  rw [hat]
  refine ⟨?_, fun hend => ?_⟩
  · change z.still n = _
    rw [hzdef]
    split
    · rw [State.seqAct_still, State.swapAct_still]
    · rfl
  · change (z.coreAt n).cnt = _
    rw [hzdef]
    split
    next h0 =>
      have hop : seqOp w = 0 := hend.resolve_left fun h => h h0.symm
      have hact (y : State) : (y.seqAct n w) = y.nextPc n := by
        unfold State.seqAct
        rw [hop]
        rfl
      rw [hact, (State.nextPc_loops _ n).2]
      exact (Core.flow_parts (Core.flow_of_ctl (State.swapAct_keepsCtl _ n w).ctl)).2.2.2.2.1
    · rfl

end

/-- A word of LOOP alone. -/
theorem State.standsAt.loopGoes {s : State} {n w : Nat} (hst : s.standsAt n 1 w) (hparts : onlyParts [.loop] w) (hl : cwLsel w < 6)
    (cmd : Instr) (sel : Bool → Nat → Bool) (hexec : exec cmd s = Machine.issueCmd n sel s) (hsel : sel s.fuse.s0 w = true) (c2 : Core)
    (hpc : c2.pc = (s.coreAt n).pc) (hloop : ∀ y, coreGoes [] s y n (s.coreAt n) → coreGoes [] s (y.loopOp n w) n c2) :
    ∃ t, exec cmd s = .next t ∧ coreGoes [] s t n (({ c2 with pc := c2.pc + 1 } : Core).ticked 0 (s.coreAt n).cyc) := by
  have hseq : cwSeqOp w = 0 := hparts .seq (by decide)
  have hok := seqReserved_idle w hseq
  have hop : seqOp w = 0 := (seqOp_of w hok).trans hseq
  have hloopOk : loopReserved w = false := by simp [loopReserved]; omega
  have hword := controlWord_of w _ hparts (by simp) hok hloopOk
  refine ⟨_, hexec.trans (hst.issueCmd sel hsel (by omega)), ?_⟩
  exact hword.goes (.refl [] s n) hst.lt hst.ready hloop fun y hy => hy.seqAct_next hst.lt w (.inl hop) (by rw [hpc]; exact hst.ready.pc)

/-- Settles O27: the LOOP operation acts on what the commit leaves, which keeps the core's loop counters. -/
theorem loopOperations : Obligations.LoopOperations := by
  unfold Obligations.LoopOperations
  refine ⟨fun s n w hi hp hw hrep hl htrip hcnt => ⟨fun hlop => ?_, fun hlop => ?_, fun hlop hend => ?_⟩,
    fun s n w hst hparts hl => ⟨fun hlop => ?_, fun hlop => ?_, fun hlop => ?_⟩⟩
  · obtain ⟨t, y, ht, hissued, -, hn, hflow, hstill, -⟩ := first_issue s n w hi hp hw hrep (.loopTripImm n) _ rfl
      (by simp [loopReserved, hlop]; omega)
    obtain ⟨-, -, -, -, -, hytrip⟩ := Core.flow_parts hflow
    refine ⟨t, ht, hissued, ?_⟩
    rw [show (t.coreAt n).trip = _ from congrArg Prod.fst hstill, y.loopOp_imm n w hl hlop, State.still, State.coreAt_setCore_self _ _ _ hn]
    exact (getD_set_eq _ _ _ _ _ (by rw [hytrip, htrip]; exact hl)).trans (if_pos rfl)
  · obtain ⟨t, y, ht, hissued, hy, hn, hflow, hstill, -⟩ := first_issue s n w hi hp hw hrep (.loopTripReg n) _ rfl
      (by simp [loopReserved, hlop]; omega)
    obtain ⟨-, -, -, -, -, hytrip⟩ := Core.flow_parts hflow
    refine ⟨t, ht, hissued, ?_⟩
    rw [show (t.coreAt n).trip = _ from congrArg Prod.fst hstill, y.loopOp_reg n w hl hlop, State.still, State.coreAt_setCore_self _ _ _ hn, ← hy]
    exact (getD_set_eq _ _ _ _ _ (by rw [hytrip, htrip]; exact hl)).trans (if_pos rfl)
  · obtain ⟨t, y, ht, hissued, hy, hn, hflow, -, hcnts⟩ := first_issue s n w hi hp hw hrep (.loopStep n) _ rfl
      (by simp [loopReserved, hlop]; omega)
    obtain ⟨-, -, -, -, hycnt, -⟩ := Core.flow_parts hflow
    refine ⟨t, ht, hissued, ?_⟩
    rw [hcnts hend, y.loopOp_step n w hl hlop, State.coreAt_setCore_self _ _ _ hn]
    refine (getD_set_eq _ _ _ _ _ (by rw [hycnt, hcnt]; exact hl)).trans ?_
    rw [if_pos rfl, hycnt]
  · obtain ⟨t, ht, hgo⟩ := hst.loopGoes hparts hl (.loopTripImm n) _ rfl (by simp [loopReserved, hlop]; omega)
      { s.coreAt n with trip := (s.coreAt n).trip.set (cwLsel w) (cwTripImm w) } rfl fun y hy => by
      rw [y.loopOp_imm n w hl hlop, hy.coreAt hst.lt]
      exact hy.setCore _
    refine ⟨t, ht, ?_⟩
    convert hgo using 1
    simp [Core.ticked, Core.next, Core.spent, hst.ready.rep]
  · obtain ⟨t, ht, hgo⟩ := hst.loopGoes hparts hl (.loopTripReg n) _ rfl (by simp [loopReserved, hlop]; omega)
      { s.coreAt n with trip := (s.coreAt n).trip.set (cwLsel w) (s.get (F.LOOP_TRIP_TRIP n (cwLsel w))) } rfl fun y hy => by
      rw [y.loopOp_reg n w hl hlop, hy.coreAt hst.lt, hy.get (F.LOOP_TRIP_TRIP n (cwLsel w)) List.not_mem_nil]
      exact hy.setCore _
    refine ⟨t, ht, ?_⟩
    convert hgo using 1
    simp [Core.ticked, Core.next, Core.spent, hst.ready.rep]
  · obtain ⟨t, ht, hgo⟩ := hst.loopGoes hparts hl (.loopStep n) _ rfl (by simp [loopReserved, hlop]; omega)
      { s.coreAt n with cnt := (s.coreAt n).cnt.set (cwLsel w) ((s.coreAt n).cnt.getD (cwLsel w) 0 - 1) } rfl fun y hy => by
      rw [y.loopOp_step n w hl hlop, hy.coreAt hst.lt]
      exact hy.setCore _
    refine ⟨t, ht, ?_⟩
    convert hgo using 1
    simp [Core.ticked, Core.next, Core.spent, hst.ready.rep]

end Sys2Proof.Machine

/-! Waits of a core that are met, released or time out, and words whose check bits fail (O26). -/
namespace Sys2Proof.Machine

/-! ## Faults of a core (R99, R105, R113) -/

/-- The records of a check that fails leave the cores. -/
theorem State.coreFault_cores (s : State) (n : Nat) (f : Check) : (s.coreFault n f).cores = s.cores := by
  unfold State.coreFault
  extract_lets +onlyGivenNames c s1 s2
  have h1 : s1.cores = s.cores := by
    unfold s1
    rw [State.fault_only]
  have h2 : s2.cores = s1.cores := by
    unfold s2
    split
    · simp
    · rfl
  rw [State.bump_cores, h2, h1]

/-- A core that raises a fault goes to FROZEN and is else as it was. -/
theorem State.raiseAll_own (s : State) (n : Nat) (fs : List Check) (hn : n < s.cores.length) :
    (s.raiseAll n fs).coreAt n = { s.coreAt n with stopping := some 3 } := by
  have hcores : (fs.foldl (fun s f => s.coreFault n f) s).cores = s.cores :=
    foldl_keeps State.cores _ (fun s f => s.coreFault_cores n f) fs s
  unfold State.raiseAll
  dsimp only
  rw [State.coreAt_setCore_self _ _ _ (by rw [hcores]; exact hn), State.coreAt_congr n hcores]

/-- The record of a core's first fault (R113). -/
theorem State.coreFault_first (s : State) (n : Nat) (f : Check) (hlt : n < 100) (hcount : s.get (F.CORE_FAULT_COUNT n) = 0)
    (hcode : f.code < 2 ^ 16)
    (hpc : (s.coreAt n).pc < 2 ^ 13) (t : State) (ht : s.coreFault n f = t) : t.get (F.CORE_FAULT_FIRST_CODE n) = f.code
      ∧ t.get (F.CORE_FAULT_PC n) = (s.coreAt n).pc ∧ t.get (F.CORE_FAULT_COUNT n) = 1 ∧ Frame [A.CORE_FAULT n, A.FAULT_LOST] s t := by
  unfold State.coreFault at ht
  extract_lets +onlyGivenNames c s1 s2 at ht
  have hne : A.CORE_FAULT n ∉ [A.FAULT_LOST] := by
    simp only [A.CORE_FAULT, A.FAULT_LOST, coreReg, pageReg, List.mem_cons, List.not_mem_nil, or_false]
    omega
  have hframe1 : Frame [A.FAULT_LOST] s s1 := s.fault_frame _ _ _ _
  have hcount1 : s1.get (F.CORE_FAULT_COUNT n) = 0 := (hframe1.get _ hne).trans hcount
  have hs2 : s2 = ((s1.set (F.CORE_FAULT_FIRST_CODE n) f.code).set (F.CORE_FAULT_PC n) (s.coreAt n).pc).set (F.CORE_FAULT_REP_IDX n)
      (s.coreAt n).rep := if_pos hcount1
  clear_value s1
  have hframe2 : Frame [A.CORE_FAULT n, A.FAULT_LOST] s s2 := by
    rw [hs2]
    exact ((((Frame.refl _ s).next hframe1 (by simp)).set (F.CORE_FAULT_FIRST_CODE n) _).set (F.CORE_FAULT_PC n) _).set
        (F.CORE_FAULT_REP_IDX n) _
  have hcode2 : s2.get (F.CORE_FAULT_FIRST_CODE n) = f.code := by
    rw [hs2]
    refine (State.get_set_disjoint _ (F.CORE_FAULT_REP_IDX n) (F.CORE_FAULT_FIRST_CODE n) _ (show 8 ≤ 18 by omega) (show 18 < 64 by omega)
      (.inr (show 18 < 48 by omega))).trans ?_
    refine (State.get_set_disjoint _ (F.CORE_FAULT_PC n) (F.CORE_FAULT_FIRST_CODE n) _ (show 19 ≤ 31 by omega) (show 31 < 64 by omega)
      (.inr (show 31 < 48 by omega))).trans ?_
    exact State.get_set_lt _ (F.CORE_FAULT_FIRST_CODE n) _ (show 48 ≤ 63 by omega) (show 63 < 64 by omega) hcode
  have hpc2 : s2.get (F.CORE_FAULT_PC n) = (s.coreAt n).pc := by
    rw [hs2]
    refine (State.get_set_disjoint _ (F.CORE_FAULT_REP_IDX n) (F.CORE_FAULT_PC n) _ (show 8 ≤ 18 by omega) (show 18 < 64 by omega)
      (.inr (show 18 < 19 by omega))).trans ?_
    exact State.get_set_lt _ (F.CORE_FAULT_PC n) _ (show 19 ≤ 31 by omega) (show 31 < 64 by omega) hpc
  have hcount2 : s2.get (F.CORE_FAULT_COUNT n) = 0 := by
    rw [hs2]
    refine (State.get_set_disjoint _ (F.CORE_FAULT_REP_IDX n) (F.CORE_FAULT_COUNT n) _ (show 8 ≤ 18 by omega) (show 18 < 64 by omega)
      (.inr (show 18 < 32 by omega))).trans ?_
    refine (State.get_set_disjoint _ (F.CORE_FAULT_PC n) (F.CORE_FAULT_COUNT n) _ (show 19 ≤ 31 by omega) (show 31 < 64 by omega)
      (.inr (show 31 < 32 by omega))).trans ?_
    refine (State.get_set_disjoint _ (F.CORE_FAULT_FIRST_CODE n) (F.CORE_FAULT_COUNT n) _ (show 48 ≤ 63 by omega) (show 63 < 64 by omega)
      (.inl (show 47 < 48 by omega))).trans hcount1
  clear_value s2
  have hbump (g : Field) (hg : g.addr = A.CORE_FAULT n) (hd : g.hi < 32 ∨ 47 < g.lo) : t.get g = s2.get g := by
    rw [← ht]
    exact State.get_set_disjoint s2 (F.CORE_FAULT_COUNT n) g _ (show 32 ≤ 47 by omega) (show 47 < 64 by omega) hd
  refine ⟨(hbump (F.CORE_FAULT_FIRST_CODE n) rfl (.inr (show 47 < 48 by omega))).trans hcode2,
    (hbump (F.CORE_FAULT_PC n) rfl (.inl (show 31 < 32 by omega))).trans hpc2, ?_, ht ▸ hframe2.bump (F.CORE_FAULT_COUNT n)⟩
  rw [← ht, State.get_bump s2 (F.CORE_FAULT_COUNT n) (show 32 ≤ 47 by omega) (show 47 < 64 by omega), hcount2]
  rfl

/-! ## Waits (R104, R105) -/

theorem State.waitNow_keeps (s : State) (n : Nat) (hn : n < s.cores.length) : (s.waitNow n).cores.length = s.cores.length
    ∧ ((s.waitNow n).coreAt n).state = (s.coreAt n).state := by
  have h1 : (s.setCore n { s.coreAt n with
      cyc := (s.coreAt n).cyc + s.waitGap n, waited := (s.coreAt n).waited + (s.waitGap n - s.waitCounted n) }).cores.length =
          s.cores.length :=
    s.setCore_length n _
  obtain ⟨hlen, hctl⟩ := (KeepsCtl.refl n (s.setCore n { s.coreAt n with
      cyc := (s.coreAt n).cyc + s.waitGap n, waited := (s.coreAt n).waited + (s.waitGap n - s.waitCounted n) })).settle
        ((s.coreAt n).cyc + s.waitGap n)
  refine ⟨hlen.trans h1, (congrArg Core.state hctl).trans ?_⟩
  rw [s.coreAt_setCore_self n _ hn]
  rfl

/-- A core that waits, as it stands now, with nothing on its way. -/
theorem State.waitNow_still (s : State) (n : Nat) (hn : n < s.cores.length) (hpend : (s.coreAt n).pend = [])
    (hflight : ∀ q ∈ (s.coreAt n).queues, q.flight = []) (hmark : s.cad.markTaken = none) :
    s.waitNow n = s.setCore n { s.coreAt n with
      cyc := (s.coreAt n).cyc + s.waitGap n, waited := (s.coreAt n).waited + s.waitGap n } := by
  have hcounted : s.waitCounted n = 0 := by rw [State.waitCounted, hmark]
  have hat := s.coreAt_setCore_self n { s.coreAt n with
    cyc := (s.coreAt n).cyc + s.waitGap n, waited := (s.coreAt n).waited + s.waitGap n } hn
  unfold State.waitNow
  dsimp only
  rw [hcounted, Nat.sub_zero, State.settle_still _ _ _ (by rw [hat]; exact hpend) (by rw [hat]; exact hflight)]

theorem waitRelease_met (s : State) (n : Nat) (hst : (s.coreAt n).state = 2) (hstop : (s.coreAt n).stopping = none)
    (hmet : (s.coreAt n).waitTgt ≤ (s.waitNow n).get (F.CNT_VALUE n (s.coreAt n).waitCtr)) :
    waitRelease n s = (s.waitNow n).waitIssue n ((s.waitNow n).fetchWord n (s.coreAt n).pc) := by
  unfold waitRelease
  dsimp only
  rw [if_pos ⟨hst, hstop⟩, if_pos hmet]

theorem waitTimeout_raises (s : State) (n : Nat) (hst : (s.coreAt n).state = 2) (hstop : (s.coreAt n).stopping = none)
    (hlim : s.get (F.CORE_WAIT_LIMIT_LIMIT n) ≠ 0) (hlate : (s.coreAt n).waitTick + s.get (F.CORE_WAIT_LIMIT_LIMIT n) + 1 ≤ s.now)
    (hunmet : (s.waitNow n).get (F.CNT_VALUE n (s.coreAt n).waitCtr) < (s.coreAt n).waitTgt) : ∃ low,
    waitTimeout n s = (s.waitNow n).raiseAll n [⟨0x0106, 0, 0, low⟩] := by
  unfold waitTimeout
  dsimp only
  rw [if_pos ⟨hst, hstop, hlim, hlate⟩, if_neg (by omega)]
  exact ⟨_, rfl⟩

section
variable {s : State} {n w : Nat} (hst : s.standsAt n 2 w) (hmark : s.cad.markTaken = none)
include hst hmark

theorem State.standsAt.waitNow : s.waitNow n = s.setCore n { s.coreAt n with
    cyc := (s.coreAt n).cyc + s.waitGap n, waited := (s.coreAt n).waited + s.waitGap n } :=
  s.waitNow_still n hst.lt hst.ready.pend hst.ready.flight hmark

theorem State.standsAt.waitRelease (hop : cwSeqOp w = 3) (hparts : onlyParts [.seq] w) (hmode : cwSeqArg w / 1024 = 0)
    (hthr : s.throttle = 0) (hmet : (s.coreAt n).waitTgt ≤ s.get (F.CNT_VALUE n (s.coreAt n).waitCtr)) :
    ∃ t, exec (.waitRelease n) s = .next t ∧ coreGoes [] s t n { (s.coreAt n).next with
      state := 1, cyc := (s.coreAt n).cyc + s.waitGap n + 1, waited := (s.coreAt n).waited + s.waitGap n, since := 1 } := by
  have hnow := hst.waitNow hmark
  have hr := hst.ready
  have hlt := hst.lt
  obtain ⟨hs, -, hn, -, hstate, hstop, hfetch, -⟩ := hst
  have hlive : execWaitRelease n s = .next _ := lively_powered s n 100 (Machine.waitRelease n) hn hs.1 hs.2
  have hok : seqReserved w = false := by simp [seqReserved, hop, hmode]
  have hlop : cwLop w = 0 := hparts .loop (by decide)
  have hword := controlWord_of w _ hparts (by simp) hok (loopReserved_idle w hlop)
  generalize hc : ({ s.coreAt n with
    cyc := (s.coreAt n).cyc + s.waitGap n, waited := (s.coreAt n).waited + s.waitGap n } : Core) = c at *
  have hready : c.readyFor w := hc ▸ ⟨hr.pend, hr.flight, hr.rep, hr.one, hr.pc⟩
  have hgo := hword.waitIssue ((coreGoes.refl [] s n).setCore c) hlt hready hop hlop hmode hthr
  refine ⟨_, hlive, ?_⟩
  rw [waitRelease_met s n hstate hstop (by rw [hnow]; exact hmet), hnow,
    show (s.setCore n c).fetchWord n (s.coreAt n).pc = w from hfetch]
  convert hgo using 1
  rw [← hc]
  rfl

theorem State.standsAt.waitTimeout (hunmet : s.get (F.CNT_VALUE n (s.coreAt n).waitCtr) < (s.coreAt n).waitTgt)
    (hlim : s.get (F.CORE_WAIT_LIMIT_LIMIT n) ≠ 0) (hlate : (s.coreAt n).waitTick + s.get (F.CORE_WAIT_LIMIT_LIMIT n) + 1 ≤ s.now)
    (hcount : s.get (F.CORE_FAULT_COUNT n) = 0) : ∃ t, exec (.waitTimeout n) s = .next t
      ∧ t.coreAt n = { s.coreAt n with
          cyc := (s.coreAt n).cyc + s.waitGap n, waited := (s.coreAt n).waited + s.waitGap n, stopping := some 3 }
      ∧ t.get (F.CORE_FAULT_FIRST_CODE n) = 0x0106 ∧ t.get (F.CORE_FAULT_PC n) = (s.coreAt n).pc ∧ t.get (F.CORE_FAULT_COUNT n) = 1
      ∧ regsBut [A.CORE_FAULT n, A.FAULT_LOST] s t ∧ sameBytes s t := by
  have hnow := hst.waitNow hmark
  have hlt := hst.lt
  have hpc := hst.ready.pc
  obtain ⟨hs, -, hn, -, hstate, hstop, -⟩ := hst
  have hlive : execWaitTimeout n s = .next _ := lively_powered s n 100 (Machine.waitTimeout n) hn hs.1 hs.2
  obtain ⟨low, hraise⟩ := waitTimeout_raises s n hstate hstop hlim hlate (by rw [hnow]; exact hunmet)
  rw [hnow] at hraise
  generalize hc : ({ s.coreAt n with
    cyc := (s.coreAt n).cyc + s.waitGap n, waited := (s.coreAt n).waited + s.waitGap n } : Core) = c at *
  have hat := s.coreAt_setCore_self n c hlt
  have hcpc : c.pc = (s.coreAt n).pc := by rw [← hc]
  obtain ⟨hcode, hfpc, hcnt, hframe⟩ := (s.setCore n c).coreFault_first n ⟨0x0106, 0, 0, low⟩ hn hcount (by decide : 0x0106 < 2 ^ 16)
    (by rw [hat, hcpc]; omega) _ rfl
  rw [hat, hcpc] at hfpc
  refine ⟨_, hlive, ?_⟩
  rw [hraise]
  refine ⟨?_, hcode, hfpc, hcnt, ?_⟩
  · rw [State.raiseAll_own _ _ _ (by rw [State.setCore_length]; exact hlt), hat, ← hc]
  · have hall : Frame [A.CORE_FAULT n, A.FAULT_LOST] s ((s.setCore n c).raiseAll n [⟨0x0106, 0, 0, low⟩]) :=
      (((Frame.refl _ s).setCore n c).trans hframe).setCore n _
    exact ⟨hall.regs, hall.bytes⟩

end

/-- Settles O26, by the test of the counter; a core that raises a fault is else as it was. -/
theorem waitsAndWordErrors : Obligations.WaitsAndWordErrors := by
  unfold Obligations.WaitsAndWordErrors
  refine ⟨fun s n hs hshape hn hsite hstop => ⟨fun w hi hop hrep hmet => wait_met s n w hi hop hrep hmet, fun hst hmet => ?_,
    fun hst hlim hlate hunmet => ?_, fun hst => ?_⟩, fun s n w hst => ?_⟩
  · have hlive : execWaitRelease n s = .next _ := lively_powered s n 100 (waitRelease n) hn hs.1 hs.2
    exact hlive.trans (congrArg Host.Outcome.next (waitRelease_met s n hst hstop hmet))
  · have hlen : n < s.cores.length := by
      rw [hshape.1]
      exact hn
    have hlive : execWaitTimeout n s = .next _ := lively_powered s n 100 (waitTimeout n) hn hs.1 hs.2
    obtain ⟨low, hraise⟩ := waitTimeout_raises s n hst hstop hlim hlate hunmet
    obtain ⟨hwlen, hwst⟩ := s.waitNow_keeps n hlen
    refine ⟨_, hlive, ?_⟩
    rw [hraise, State.raiseAll_own _ _ _ (by omega)]
    exact ⟨rfl, hwst.trans hst⟩
  · have hlive : execNext n 2 s = .next _ := lively_powered s n 100 (nextIssue n 2) hn hs.1 hs.2
    obtain ⟨u, hu, hcores⟩ : ∃ (u : State) (f : Check), nextIssue n 2 s = u.raiseAll n [f] ∧ u.cores = (s.atIssue n).cores := by
      unfold nextIssue
      rw [if_neg (by omega), if_neg (by simp [State.issuing, hsite, hst, hstop]), if_neg (by omega)]
      exact ⟨_, _, rfl, rfl⟩
    obtain ⟨hraise, hcores⟩ := hcores
    obtain ⟨hlen, hctl⟩ := s.atIssue_keepsCtl n
    have hat := State.coreAt_congr n hcores
    refine ⟨_, hlive, ?_⟩
    rw [hraise, State.raiseAll_own _ _ _ (by rw [hcores, hlen, hshape.1]; exact hn), hat]
    exact ⟨rfl, (congrArg Core.state hctl).trans hst, (congrArg Core.pc hctl :)⟩
  · exact fun hmark => ⟨fun hop hparts hmode hthr hmet => hst.waitRelease hmark hop hparts hmode hthr hmet,
      fun hunmet hlim hlate hcount => hst.waitTimeout hmark hunmet hlim hlate hcount⟩

end Sys2Proof.Machine

/-! Requests to near and far memory: what an access changes (R232, R236). -/
namespace Sys2Proof.Machine

/-! ## What an access to memory leaves (R232, R236) -/

/-- Accesses to memory change near and far memory, their controllers, counters and fault records alone. -/
def MemOnly (o s : State) : Prop :=
  ∃ near far mc regs mgmt freeCtr,
    s = { o with near := near, far := far, mc := mc, regs := regs, mgmt := mgmt, freeCtr := freeCtr }

namespace MemOnly

theorem refl (s : State) : MemOnly s s := ⟨_, _, _, _, _, _, rfl⟩

theorem trans {o s t : State} (h : MemOnly o s) (h' : MemOnly s t) : MemOnly o t := by
  obtain ⟨_, _, _, _, _, _, rfl⟩ := h
  obtain ⟨_, _, _, _, _, _, rfl⟩ := h'
  exact ⟨_, _, _, _, _, _, rfl⟩

theorem ite {o s t : State} {c : Prop} [Decidable c] (hs : MemOnly o s) (ht : MemOnly o t) : MemOnly o (if c then s else t) := by
  split
  · exact hs
  · exact ht

section
variable {o s : State} (h : MemOnly o s)
include h

theorem setReg (a : Nat) (w : Word) : MemOnly o (s.setReg a w) := h.trans ⟨_, _, _, _, _, _, rfl⟩

theorem set (f : Field) (v : Nat) : MemOnly o (s.set f v) := h.setReg _ _

theorem add (f : Field) (n : Nat) : MemOnly o (s.add f n) := h.set _ _

theorem bump (f : Field) : MemOnly o (s.bump f) := h.add _ _

theorem plain {near : Mem} {far : List Mem} {mc : List MemCtl} {freeCtr : Nat} :
    MemOnly o { s with near := near, far := far, mc := mc, freeCtr := freeCtr } := h.trans ⟨_, _, _, _, _, _, rfl⟩

theorem faultKey (key code unit : Nat) (slow : Bool) (detail : Word) : MemOnly o (s.faultKey key code unit slow detail) :=
  h.trans ⟨_, _, _, _, _, _, s.faultKey_only key code unit slow detail⟩

theorem fault (code unit : Nat) (slow : Bool) (detail : Word) : MemOnly o (s.fault code unit slow detail) :=
  h.trans ⟨_, _, _, _, _, _, s.fault_only code unit slow detail⟩

theorem retired (ent : Nat) : MemOnly o (s.retired ent) := h.faultKey _ _ _ _ _

theorem atomicRetired (pc req a n : Nat) : MemOnly o (s.atomicRetired pc req a n) := (h.add _ _).faultKey _ _ _ _ _

theorem burst (rep : Option Burst) : MemOnly o (s.burst rep).2 := by
  cases rep with
  | none => exact h.plain
  | some r => exact h

theorem grantMc (n : Nat) : MemOnly o (s.grantMc n) := h.plain

theorem eccNote (n pc : Nat) (reads : Bool) (r : Burst) : MemOnly o (s.eccNote n pc reads r) :=
  (h.add _ _).ite (((h.add _ _).bump _ |>.bump _).ite ((h.add _ _).bump _).plain)

theorem nearAccess (org : Origin) (a pc off : Nat) (x : Access) (rep : Option Burst) : MemOnly o (s.nearAccess org a pc off x rep).st :=
    by
  unfold State.nearAccess
  dsimp only
  split
  · have hadd := (h.atomicRetired pc (org.at (dieOfStack (pc / 32)) a) a x.size).ite (c := x.isAtomic = true) h
    exact (hadd.retired _).ite hadd
  · exact (((h.plain.burst rep).grantMc _).eccNote _ _ _ _).add _ _

theorem farAccess (a p off : Nat) (x : Access) (rep : Option Burst) : MemOnly o (s.farAccess a p off x rep).st := by
  unfold State.farAccess
  extract_lets +onlyGivenNames dead beyond
  split
  · extract_lets +onlyGivenNames s1 s2
    have hs1 : MemOnly o s1 := ((h.bump _).ite h).bump _
    have hs2 : MemOnly o s2 := (hs1.faultKey _ _ _ _ _).ite hs1
    exact (hs2.retired _).ite hs2
  · exact (((h.plain.burst rep).bump _).ite (h.plain.burst rep)).add _ _

theorem memAccess (org : Origin) (a : Nat) (x : Access) (rep : Option Burst) : MemOnly o (s.memAccess org a x rep).st := by
  unfold State.memAccess
  split
  · exact h.nearAccess _ _ _ _ _ _
  · exact h.bump _
  · exact h.farAccess _ _ _ _ _
  · exact h.fault _ _ _ _
  · split
    · split <;> exact h
    · exact h.retired _
  · exact h

theorem memRead (org : Origin) (a n : Nat) (rep : Option Burst) : MemOnly o (s.memRead org a n rep).st := by
  unfold State.memRead
  exact List.foldlRecOn (motive := fun d : Done => MemOnly o d.st) _ _ h fun d hd g _ => hd.memAccess _ _ _ _

theorem memPut (org : Origin) (atomic : Bool) (a : Nat) (bs : List Byte) (rep : Option Burst) :
    MemOnly o (s.memPut org atomic a bs rep).st := by
  unfold State.memPut
  exact List.foldlRecOn (motive := fun d : Done => MemOnly o d.st) _ _ h fun d hd g _ => hd.memAccess _ _ _ _

theorem side : s.side = o.side := by
  obtain ⟨_, _, _, _, _, _, rfl⟩ := h
  rfl

theorem core : s.core = o.core := by
  obtain ⟨_, _, _, _, _, _, rfl⟩ := h
  rfl

theorem cores : s.cores = o.cores := by
  obtain ⟨_, _, _, _, _, _, rfl⟩ := h
  rfl

theorem place (a : Nat) : s.place a = o.place a := by
  obtain ⟨_, _, _, _, _, _, rfl⟩ := h
  rfl

end

end MemOnly

/-! ## Requests within a granule -/

/-- Bytes within one granule are one request (R232). -/
theorem granules_one (a n : Nat) (hn : 0 < n) (h : a % 256 + n ≤ 256) : granules a n = [(a, n)] := by
  have hcount : (a + n + 255) / 256 - a / 256 = 1 := by omega
  unfold granules
  rw [hcount]
  simp only [List.range_one, List.map_cons, List.map_nil, Nat.add_zero]
  have h1 : max a (a / 256 * 256) = a := by omega
  have h2 : min (a + n) ((a / 256 + 1) * 256) - a = n := by omega
  rw [h1, h2]

theorem State.memRead_one (s : State) (o : Origin) (a n : Nat) (rep : Option Burst) (hn : 0 < n) (h : a % 256 + n ≤ 256) :
    s.memRead o a n rep = s.memAccess o a (.read n) rep := by
  unfold State.memRead
  rw [granules_one a n hn h]
  simp

theorem State.memPut_one (s : State) (o : Origin) (atomic : Bool) (a : Nat) (bs : List Byte) (rep : Option Burst) (hn : 0 < bs.length)
    (h : a % 256 + bs.length ≤ 256) : (s.memPut o atomic a bs rep).st =
        (s.memAccess o a (if atomic then .atomic bs else .write bs) rep).st := by
  unfold State.memPut
  rw [granules_one a _ hn h]
  simp

/-- Two whole granules. -/
theorem granules_two (a c g : Nat) (hg : g = 256) (h : a = c * 256) : granules a (g + g) = [(a, g), (a + g, g)] := by
  have hc : a / 256 = c := by omega
  have hcount : (a + (g + g) + 255) / 256 - a / 256 = 2 := by
    rw [hc, hg, h]
    omega
  have h0 : max a ((c + 0) * 256) = a := by
    rw [Nat.max_eq_left (by omega)]
  have h1 : max a ((c + 1) * 256) = a + g := by
    rw [Nat.max_eq_right (by omega)]
    omega
  have h2 : min (a + (g + g)) ((c + 0 + 1) * 256) - a = g := by
    rw [Nat.min_eq_right (by omega)]
    omega
  have h3 : min (a + (g + g)) ((c + 1 + 1) * 256) - (a + g) = g := by
    rw [Nat.min_eq_left (by omega)]
    omega
  unfold granules
  rw [hcount, hc]
  simp only [List.range_succ, List.range_zero, List.map_cons, List.map_nil, List.nil_append, List.cons_append, h0, h1, h2, h3]

/-! ## Near memory -/

/-- A field that counts nothing is written with what it holds. -/
theorem State.add_zero_reg (s : State) (f : Field) (h : f.lo ≤ f.hi) (h2 : f.hi < 64) (a : Nat) : (s.add f 0).reg a = s.reg a := by
  have hzero : s.add f 0 = s.set f (s.get f) := by
    unfold State.add
    rw [Nat.add_zero, Nat.min_eq_left]
    have := bits_lt (s.reg f.addr) f.hi f.lo
    unfold Field.max
    exact Nat.le_sub_one_of_lt this
  rw [hzero]
  by_cases ha : a = f.addr
  · rw [ha, s.set_get_same f h h2]
  · exact s.reg_set_ne f _ a ha

theorem State.eccNote_frame (s : State) (n pc : Nat) (reads : Bool) (r : Burst) : Frame [A.MC_ECC n] s (s.eccNote n pc reads r) := by
  have h1 : Frame [A.MC_ECC n] s (s.add (F.MC_ECC_CA_PARITY n) r.parity) := (Frame.refl _ s).set (F.MC_ECC_CA_PARITY n) _
  have h2 : Frame [A.MC_ECC n] s ((s.add (F.MC_ECC_CA_PARITY n) r.parity).bump
      (if r.sev = 1 then F.MC_ECC_CE n else F.MC_ECC_UE n)) := by
    split
    · exact h1.bump (F.MC_ECC_CE n)
    · exact h1.bump (F.MC_ECC_UE n)
  exact h1.ite ((h2.bump (F.MC_ECC_LOG_LOST n)).ite h2.plain)

theorem State.eccNote_only (s : State) (n pc : Nat) (reads : Bool) (r : Burst) : ∃ mc regs,
    s.eccNote n pc reads r = { s with mc := mc, regs := regs } := by
  unfold State.eccNote
  generalize (if r.sev = 1 then F.MC_ECC_CE n else F.MC_ECC_UE n) = f
  dsimp only
  split
  · exact ⟨_, _, rfl⟩
  · split
    · exact ⟨_, _, rfl⟩
    · exact ⟨_, _, rfl⟩

/-- An access that a controller serves: its effect on the memory, and what is counted (R232, R242). -/
theorem State.nearAccess_served (s : State) (o : Origin) (a pc off : Nat) (x : Access) (rep : Option Burst)
    (hserves : s.serves (entMc (pc / 32)) = true) (hret : s.pcRetired pc = false) (d : Done) (hd : s.nearAccess o a pc off x rep = d) :
    d.status = stOk ∧ d.data = (s.near.access (pc * pcBytes + off) x).1
    ∧ (∃ mc regs freeCtr, d.st = { s with
        near := (s.near.access (pc * pcBytes + off) x).2.1, mc := mc, regs := regs, freeCtr := freeCtr })
    ∧ regsBut [A.MC_ATOM (pc / 32), A.MC_ECC (pc / 32)] s d.st
    ∧ ((s.near.access (pc * pcBytes + off) x).2.2 = 0 → regsBut [A.MC_ECC (pc / 32)] s d.st) := by
  unfold State.nearAccess at hd
  dsimp only at hd
  rw [if_neg (by simp [hserves, hret])] at hd
  obtain ⟨y, hy⟩ : ∃ y : State, { s with near := (s.near.access (pc * pcBytes + off) x).2.1 } = y := ⟨_, rfl⟩
  rw [hy] at hd
  obtain ⟨freeCtr, hburst⟩ : ∃ freeCtr, (y.burst rep).2 = { y with freeCtr := freeCtr } := by
    cases rep with
    | none => exact ⟨_, rfl⟩
    | some r => exact ⟨_, rfl⟩
  have hframe : Frame [A.MC_ECC (pc / 32)] y
      (((y.burst rep).2.grantMc (pc / 32)).eccNote (pc / 32) pc (x.readsBurst off) (y.burst rep).1) := by
    refine Frame.trans ?_ (State.eccNote_frame _ _ _ _ _)
    rw [hburst]
    exact (Frame.refl _ y).plain
  obtain ⟨mc, regs, honly⟩ := ((y.burst rep).2.grantMc (pc / 32)).eccNote_only (pc / 32) pc (x.readsBurst off) (y.burst rep).1
  have hregs (b : Nat) : y.reg b = s.reg b := by rw [← hy]; rfl
  rw [← hd]
  refine ⟨rfl, rfl, ?_, fun b hb => ?_, fun hsat b hb => ?_⟩
  · dsimp only
    rw [honly, hburst, ← hy]
    exact ⟨_, _, _, rfl⟩
  · rw [List.mem_cons, not_or] at hb
    exact (State.reg_set_ne _ _ _ _ hb.1).trans ((hframe.regs b hb.2).trans (hregs b))
  · dsimp only
    rw [hsat, State.add_zero_reg _ (F.MC_ATOM_SAT (pc / 32)) (show 32 ≤ 63 by omega) (show 63 < 64 by omega)]
    exact (hframe.regs b hb).trans (hregs b)

end Sys2Proof.Machine

/-! Starts, self-test and completion of a row engine (O39). -/
namespace Sys2Proof.Machine

/-! ## Fields of one register -/

/-- Two fields share no bit of a register, and both lie within one. -/
def Field.apart (f g : Field) : Bool := Nat.ble f.lo f.hi && Nat.blt f.hi 64 && (Nat.blt g.hi f.lo || Nat.blt f.hi g.lo)

theorem State.get_set_apart (s : State) (f g : Field) (v : Nat) (h : f.apart g = true) : (s.set f v).get g = s.get g := by
  simp only [Field.apart, Bool.and_eq_true, Bool.or_eq_true, Nat.ble_eq, Nat.blt_eq] at h
  obtain ⟨⟨h1, h2⟩, h3⟩ := h
  exact s.get_set_disjoint f g v h1 h2 h3

/-- A value fits a field. -/
def Field.fits (f : Field) (v : Nat) : Bool := Nat.ble f.lo f.hi && Nat.blt f.hi 64 && Nat.blt v (2 ^ (f.hi + 1 - f.lo))

theorem State.get_set_fits (s : State) (f : Field) (v : Nat) (h : f.fits v = true) : (s.set f v).get f = v := by
  simp only [Field.fits, Bool.and_eq_true, Nat.ble_eq, Nat.blt_eq] at h
  obtain ⟨⟨h1, h2⟩, h3⟩ := h
  exact s.get_set_lt f v h1 h2 h3

/-! ## The state of a row engine -/

theorem State.setEng_eng (s : State) (d : Nat) (e : RowEng) (hd : d < s.re.length) : (s.setEng d e).eng d = e :=
  (getD_set_eq s.re d d e {} hd).trans (if_pos rfl)

@[simp] theorem State.setEng_re (s : State) (d : Nat) (e : RowEng) : (s.setEng d e).re = s.re.set d e := rfl

theorem State.get_setEng (s : State) (d : Nat) (e : RowEng) (g : Field) (h : (F.RE_STATUS_QUEUED d).apart g = true) :
    (s.setEng d e).get g = s.get g := State.get_set_apart _ _ _ _ h

theorem Frame.setEng {l : List Nat} {o s : State} (hs : Frame l o s) (d : Nat) (e : RowEng) (ha : A.RE_STATUS d ∈ l) :
    Frame l o (s.setEng d e) := Frame.set (Frame.plain hs) (F.RE_STATUS_QUEUED d) _ ha

theorem State.reNext_idle (s : State) (d : Nat) (h : (s.eng d).queue = []) : s.reNext d = s := by
  unfold State.reNext
  rw [h]

/-- A job begins (R180). -/
theorem State.reBegin_effect (s : State) (d k : Nat) (hk : k < 16) (hd : d < s.re.length) : ((s.reBegin d k).get (F.RE_STATUS_STATE d) = 1
    ∧ (s.reBegin d k).get (F.RE_STATUS_CUR_JOB d) = k) ∧ ((s.reBegin d k).eng d).queue = (s.eng d).queue := by
  unfold State.reBegin
  extract_lets +onlyGivenNames bad idle s1 s2
  have hre : s2.re = s.re := by
    unfold s2 s1
    split <;> split <;> rfl
  clear_value s2
  refine ⟨⟨?_, ?_⟩, ?_⟩
  · rw [State.get_setEng _ _ _ _ rfl, State.get_set_apart _ _ _ _ rfl]
    exact State.get_set_fits _ (F.RE_STATUS_STATE d) _ rfl
  · rw [State.get_setEng _ _ _ _ rfl]
    exact State.get_set_lt _ (F.RE_STATUS_CUR_JOB d) _ (show 16 ≤ 19 by omega) (show 19 < 64 by omega) hk
  · rw [State.setEng_eng _ _ _ (by simpa [hre] using hd)]
    simp [State.eng, hre]

theorem State.reStart_served (s : State) (d k : Nat) (hserves : s.serves (entRe d) = true) (h3 : s.get (F.RE_STATUS_STATE d) ≠ 3) :
    s.reStart d k = if s.get (F.RE_STATUS_STATE d) = 0 then s.reBegin d (k % 16)
      else if 16 ≤ (s.eng d).queue.length then s.bump (F.RE_ERR_START_DROP d)
      else s.setEng d { s.eng d with queue := (s.eng d).queue ++ [k % 16] } := by
  unfold State.reStart
  rw [if_neg (by simp [hserves, h3])]

theorem entRe_apart (d : Nat) (hd : d < 4) : A.RE_STATUS d ≠ A.UNIT_STATE (entRe d) := by
  simp only [A.RE_STATUS, A.UNIT_STATE, entRe, reReg, pageReg]
  omega

/-- A row engine's unit that goes DOWN shows it in RE_STATUS (R186). -/
theorem State.setUnit_down_re (s : State) (d : Nat) (hd : d < 4) (f : Field) (hf : f.addr = A.RE_STATUS d := by rfl) :
    (s.setUnit (entRe d) usDown).get f = ((s.set (F.UNIT_STATE_STATE (entRe d)) usDown).set (F.RE_STATUS_STATE d) 3).get f := by
  have hfollow (x : State) : x.reFollow (entRe d) usDown = x.set (F.RE_STATUS_STATE d) 3 := by
    unfold State.reFollow entRe
    rw [if_neg (by omega), if_pos rfl, Nat.add_sub_cancel_left]
  unfold State.setUnit
  extract_lets +onlyGivenNames u d'
  rw [hfollow]
  refine ((State.colokAlert_frame _ _).get f ?_).trans ((State.post_frame _ _ _).get f ?_)
  · rw [hf]
    simp only [A.RE_STATUS, A.ALERT_CAUSE, reReg, sbReg, List.mem_singleton]
    omega
  · rw [hf]
    simp only [A.RE_STATUS, A.MGMT_ERR, reReg, mgmtReg, List.mem_singleton]
    omega

/-- Settles O39, by what a start, the self-test and a completion leave of the engine. -/
theorem rowEngineControl : Obligations.RowEngineControl := by
  unfold Obligations.RowEngineControl
  intro s d hs hshape hd
  have hlen : d < s.re.length := by
    obtain ⟨-, -, -, -, hre, -⟩ := hshape
    omega
  have hrun (f : State → State) : lively s d 4 f = .next (f s) := lively_powered s d 4 f hd hs.1 hs.2
  refine ⟨fun k hk hserves h0 => ?_, fun k hk hserves h1 hroom => ?_, fun k hk hserves h1 hfull => ?_, fun h0 => ?_,
    fun h2 hq => ?_, fun h2 => ?_, fun h1 hran hq hen => ?_⟩
  · refine ⟨_, hrun fun s => s.reStart d k, ?_⟩
    rw [s.reStart_served d k hserves (by omega), if_pos h0, Nat.mod_eq_of_lt hk]
    obtain ⟨⟨hst, hjob⟩, hqueue⟩ := s.reBegin_effect d k hk hlen
    exact ⟨hst, hjob, hqueue, ((Keeps.refl s).reBegin d k).bytes⟩
  · refine ⟨_, hrun fun s => s.reStart d k, ?_⟩
    rw [s.reStart_served d k hserves (by omega), if_neg (by omega), if_neg (by omega), Nat.mod_eq_of_lt hk]
    have hf : Frame [A.RE_STATUS d] s (s.setEng d { s.eng d with queue := (s.eng d).queue ++ [k] }) := (Frame.refl _ s).setEng d _
        (.head _)
    refine ⟨by rw [s.setEng_eng d _ hlen], ?_, hf.regs, hf.bytes⟩
    refine (State.get_set_lt _ (F.RE_STATUS_QUEUED d) _ (show 8 ≤ 15 by omega) (show 15 < 64 by omega) ?_).trans (by simp)
    simp only [List.length_append, List.length_singleton]
    show _ < 2 ^ 8
    omega
  · refine (hrun fun s => s.reStart d k).trans (congrArg Host.Outcome.next ?_)
    rw [s.reStart_served d k hserves (by omega), if_neg (by omega), if_pos hfull]
  · refine (hrun _).trans (congrArg Host.Outcome.next ?_)
    rw [reSelftest, if_pos h0]
  · refine ⟨_, hrun _, ?_⟩
    have heq : reSelftestDone d true s = (s.set (F.RE_STATUS_SELFTEST_PASS d) 1).set (F.RE_STATUS_STATE d) 0 := by
      unfold reSelftestDone
      rw [if_pos h2, if_pos rfl, State.reNext_idle]
      exact hq
    have hf : Frame [A.RE_STATUS d] s ((s.set (F.RE_STATUS_SELFTEST_PASS d) 1).set (F.RE_STATUS_STATE d) 0) :=
      ((Frame.refl _ s).set (F.RE_STATUS_SELFTEST_PASS d) 1).set (F.RE_STATUS_STATE d) 0
    rw [heq]
    refine ⟨State.get_set_fits _ (F.RE_STATUS_STATE d) _ rfl, ?_, hf.regs, hf.bytes⟩
    rw [State.get_set_apart _ _ _ _ rfl]
    exact State.get_set_fits _ (F.RE_STATUS_SELFTEST_PASS d) _ rfl
  · refine ⟨_, hrun _, ?_⟩
    have heq : reSelftestDone d false s = _ := if_pos h2
    rw [if_neg (by simp)] at heq
    obtain ⟨x, hx⟩ : ∃ x, (((s.set (F.RE_STATUS_SELFTEST_PASS d) 0).set (F.RE_STATUS_STATE d) 3).setEng d {}) = x := ⟨_, rfl⟩
    rw [hx] at heq
    have hunit : (x.setUnit (entRe d) usDown).get (F.UNIT_STATE_STATE (entRe d)) = usDown :=
      x.setUnit_state _ _ (by unfold entRe; omega) (by decide)
    refine ⟨?_, ?_, ?_, ((Keeps.refl s).reSelftestDone d false).bytes⟩
    · rw [heq, x.setUnit_down_re d hd (F.RE_STATUS_STATE d)]
      exact State.get_set_fits _ (F.RE_STATUS_STATE d) _ rfl
    · rw [heq, x.setUnit_down_re d hd (F.RE_STATUS_SELFTEST_PASS d), State.get_set_apart _ _ _ _ rfl, State.get_set_ne _ _ _ _
        (entRe_apart d hd), ← hx,
        State.get_setEng _ _ _ _ rfl, State.get_set_apart _ _ _ _ rfl]
      exact State.get_set_fits _ (F.RE_STATUS_SELFTEST_PASS d) _ rfl
    · rw [heq]
      exact hunit
  · refine ⟨_, hrun _, ?_⟩
    have heq : reJobDone d s = (s.set (F.RE_STATUS_STATE d) 0).setEng d { s.eng d with ran := false, quiet := false } := by
      unfold reJobDone
      dsimp only
      rw [if_pos ⟨h1, hran⟩, if_neg (by simp [State.on, hen]), State.reNext_idle]
      rw [(s.set (F.RE_STATUS_STATE d) 0).setEng_eng d _ hlen]
      exact hq
    have hf : Frame [A.RE_STATUS d] s ((s.set (F.RE_STATUS_STATE d) 0).setEng d { s.eng d with ran := false, quiet := false }) :=
      ((Frame.refl _ s).set (F.RE_STATUS_STATE d) 0).setEng d _ (.head _)
    rw [heq]
    refine ⟨?_, ?_, hf.regs, hf.bytes⟩
    · rw [State.get_setEng _ _ _ _ rfl]
      exact State.get_set_fits _ (F.RE_STATUS_STATE d) _ rfl
    · rw [(s.set (F.RE_STATUS_STATE d) 0).setEng_eng d _ hlen]

end Sys2Proof.Machine

/-! The rows of a row-engine job (O40). -/
namespace Sys2Proof.Machine

section
variable (s : State) (d k i : Nat)

/-- What a row of STATS leaves (R179): the record of the row's statistics. -/
theorem State.reRow_stats (h : s.get (F.RE_SHAPE_OP d k) = 0) (r : List Nat × State)
    (hr : s.reRead d k (s.get (F.RE_IN_ADDR d k) + i * (s.reLen d k * s.reW d k)) = r) :
    s.reRow d k i = { r.2 with
      side := r.2.side.store (r.2.statAt d k i)
        (rowStat 0 r.1 (s.on (F.RE_SHAPE_CENTER d k)) (r.2.get (F.RE_EPS_EPS d))).bytes } := by
  unfold State.reRow
  dsimp only
  rw [hr]
  have hop : s.reOp d k = 0 := h
  simp [hop]

theorem State.reRow_smax (h : s.get (F.RE_SHAPE_OP d k) = 3) (r : List Nat × State)
    (hr : s.reRead d k (s.get (F.RE_IN_ADDR d k) + i * (s.reLen d k * s.reW d k)) = r) : ∃ a vs,
    s.reRow d k i = State.reWrite { r.2 with
      side := r.2.side.store (r.2.statAt d k i)
        (rowStat 3 r.1 (s.on (F.RE_SHAPE_CENTER d k)) (r.2.get (F.RE_EPS_EPS d))).bytes } d k a vs := by
  unfold State.reRow
  dsimp only
  rw [hr]
  have hop : s.reOp d k = 3 := h
  simp only [hop]
  exact ⟨_, _, rfl⟩

/-- A write of the engine leaves side memory. -/
theorem State.reWrite_side (a : Nat) (vs : List Nat) : (s.reWrite d k a vs).side = s.side := by
  have hput := ((MemOnly.refl s).memPut (reOrigin d) false a (packValues (8 * s.reW d k) vs) none).side
  unfold State.reWrite State.rePut
  dsimp only
  split
  · refine Eq.trans ?_ hput
    unfold State.stepWrote
    split <;> rfl
  · exact hput

end

theorem Mem.load_store_of (m : Mem) (a : Nat) (bs : List Byte) (n : Nat) (h : bs.length = n) : (m.store a bs).load a n = bs :=
  h ▸ m.load_store a bs

theorem Stat.bytes_length (t : Stat) : t.bytes.length = 16 := by
  simp [Stat.bytes, bytesOf]

/-- Settles O40: a record of 16 bytes goes to side memory for each row. -/
theorem rowEngineJobs : Obligations.RowEngineJobs := by
  unfold Obligations.RowEngineJobs
  intro s d hs hshape hd k rows works
  have hworks (op : Nat) (c : Instr) (hc : exec c s = lively s d 4 (reWork op d)) : works op c := fun h1 hran hop => by
    refine ⟨_, hc.trans (lively_powered s d 4 _ hd hs.1 hs.2), ?_⟩
    unfold reWork
    dsimp only
    rw [if_pos ⟨h1, hran, hop⟩]
  refine ⟨hworks 0 (.stats d) rfl, hworks 1 (.normFwd d) rfl, hworks 2 (.normBwd d) rfl, hworks 3 (.smaxFwd d) rfl,
    hworks 4 (.smaxBwd d) rfl, hworks 5 (.testCmp d) rfl, fun x k i => ⟨fun hop => ?_, fun hop => ?_⟩⟩
  · generalize hr : x.reRead d k (x.get (F.RE_IN_ADDR d k) + i * (x.reLen d k * x.reW d k)) = r
    rw [x.reRow_stats d k i hop r hr]
    refine ⟨Mem.load_store_of _ _ _ _ (Stat.bytes_length _), fun a ha => ?_, rfl⟩
    refine (Mem.get_store _ _ _ _).trans (if_neg ?_)
    rw [Stat.bytes_length]
    omega
  · generalize hr : x.reRead d k (x.get (F.RE_IN_ADDR d k) + i * (x.reLen d k * x.reW d k)) = r
    obtain ⟨a, vs, hrow⟩ := x.reRow_smax d k i hop r hr
    refine ⟨rowStat 3 r.1 (x.on (F.RE_SHAPE_CENTER d k)) (r.2.get (F.RE_EPS_EPS d)), rfl, rfl, rfl, ?_⟩
    rw [hrow, State.reWrite_side]
    exact Mem.load_store_of _ _ _ _ (Stat.bytes_length _)

end Sys2Proof.Machine

/-! Reads, writes and atomic adds of a requester (O44). -/
namespace Sys2Proof.Machine

/-! ## Places (R410) -/

theorem State.place_near {s : State} {a pc off : Nat} (h : s.place a = .near pc off) : a < 0x006000000000 := by
  unfold State.place at h
  by_contra hc
  rw [if_neg hc] at h
  split at h
  · dsimp only at h
    split at h <;> exact absurd h (by simp)
  · split at h <;> exact absurd h (by simp)

theorem State.place_miss {s : State} {a : Nat} (h : s.place a = .miss) : a < 0x006000000000 := by
  unfold State.place at h
  by_contra hc
  rw [if_neg hc] at h
  split at h
  · dsimp only at h
    split at h <;> exact absurd h (by simp)
  · split at h <;> exact absurd h (by simp)

theorem State.place_far {s : State} {a p off : Nat} (h : s.place a = .far p off) :
    (0x100000000000 ≤ a ∧ a < 0x120000000000) ∧ p < 2 := by
  unfold State.place at h
  split at h
  · split at h <;> exact absurd h (by simp)
  · split at h
    · next hr =>
      refine ⟨hr, ?_⟩
      dsimp only at h
      split at h
      · exact absurd h (by simp)
      · injection h with hp _
        omega
    · split at h <;> exact absurd h (by simp)

theorem State.memAccess_near {s : State} {a pc off : Nat} (o : Origin) (x : Access) (rep : Option Burst) (h : s.place a = .near pc off) :
    s.memAccess o a x rep = s.nearAccess o a pc off x rep := by
  unfold State.memAccess
  rw [h]

theorem State.memAccess_far {s : State} {a p off : Nat} (o : Origin) (x : Access) (rep : Option Burst) (h : s.place a = .far p off) :
    s.memAccess o a x rep = s.farAccess a p off x rep := by
  unfold State.memAccess
  rw [h]

/-! ## The commands of a requester (R239) -/

theorem State.request_put (s : State) (r : MemReq) (atomic : Bool) (bs : List Byte) (hbs : r.data = some bs)
    (hin : 0 < bs.length ∧ r.addr % 256 + bs.length ≤ 256 ∧ s.requests r = true) :
    s.request r atomic = (s.memAccess ⟨r.die, r.requester⟩ r.addr (if atomic then .atomic bs else .write bs) (reportOf r)).st := by
  unfold State.request
  rw [if_pos hin.2.2, hbs]
  exact s.memPut_one _ _ _ _ _ hin.1 hin.2.1

theorem State.request_read (s : State) (r : MemReq) (atomic : Bool) (hr : r.data = none)
    (hin : 0 < r.len ∧ r.addr % 256 + r.len ≤ 256 ∧ s.requests r = true) :
    s.request r atomic = (s.memAccess ⟨r.die, r.requester⟩ r.addr (.read r.len) (reportOf r)).st := by
  unfold State.request
  rw [if_pos hin.2.2, hr]
  exact congrArg Done.st (s.memRead_one _ _ _ _ hin.1 hin.2.1)

/-! ## Far memory -/

theorem State.farAccess_served (s : State) (a p off : Nat) (x : Access) (rep : Option Burst) (hserves : s.serves (entFar p) = true)
    (hcap : off < s.farCap p) (y : State) (hy : y = { s with far := s.far.set p ((s.far.getD p {}).access off x).2.1 }) :
    (s.farAccess a p off x rep).st = (if x.readsFar && (y.burst rep).1.poison then (y.burst rep).2.bump (F.FAR_ERR_POISON p)
      else (y.burst rep).2).add (F.FAR_ATOM_SAT p) ((s.far.getD p {}).access off x).2.2 := by
  unfold State.farAccess
  dsimp only
  rw [if_neg (by simp [hserves, hcap]), hy]

/-! ## What a stack reports (R242) -/

theorem State.setMemctl_self (s : State) (n : Nat) (c : MemCtl) (hn : n < s.mc.length) : (s.setMemctl n c).memctl n = c :=
  (getD_set_eq s.mc n n c {} hn).trans (if_pos rfl)

/-- A count that goes on as it would have in an earlier state that reads the same. -/
theorem State.get_bump_congr (s t : State) (f : Field) (h : Nat.ble f.lo f.hi && Nat.blt f.hi 64 = true) (he : t.get f = s.get f) :
    (t.bump f).get f = (s.bump f).get f := by
  have h : f.lo ≤ f.hi ∧ f.hi < 64 := by simpa using h
  rw [State.get_bump _ _ h.1 h.2, State.get_bump _ _ h.1 h.2, he]

/-- An error is counted and logged. -/
theorem State.eccNote_logs (s : State) (n pc : Nat) (r : Burst) (hn : n < s.mc.length) (hlog : (s.memctl n).log.length < 16)
    (hsev : r.sev = 1 ∨ r.sev = 2) (t : State) (ht : s.eccNote n pc true r = t) :
    (t.memctl n).log = (s.memctl n).log ++ [⟨r.sev, pc % 32, r.bank % 64, r.row % 2 ^ 18, s.now, s.epoch⟩]
    ∧ (r.sev = 1 → t.get (F.MC_ECC_CE n) = (s.bump (F.MC_ECC_CE n)).get (F.MC_ECC_CE n))
    ∧ (r.sev = 2 → t.get (F.MC_ECC_UE n) = (s.bump (F.MC_ECC_UE n)).get (F.MC_ECC_UE n)) := by
  obtain ⟨s1, hs1⟩ : ∃ s1, s.add (F.MC_ECC_CA_PARITY n) r.parity = s1 := ⟨_, rfl⟩
  have hmc : s1.mc = s.mc := by rw [← hs1]; rfl
  have hcad : s1.cad = s.cad := by rw [← hs1]; rfl
  have hget (f : Field) (hf : (F.MC_ECC_CA_PARITY n).apart f = true) : s1.get f = s.get f := by
    rw [← hs1]
    exact State.get_set_apart _ _ _ _ hf
  unfold State.eccNote at ht
  dsimp only at ht
  rw [hs1, if_neg (by simp; omega)] at ht
  generalize hf : (if r.sev = 1 then F.MC_ECC_CE n else F.MC_ECC_UE n) = f at ht
  have hctl : (s1.bump f).memctl n = s.memctl n := congrArg (fun l => l.getD n {}) hmc
  rw [hctl, if_neg (by omega)] at ht
  rw [← ht]
  refine ⟨?_, fun h1 => ?_, fun h2 => ?_⟩
  · rw [State.setMemctl_self _ _ _ (by simpa [hmc] using hn)]
  · rw [if_pos h1] at hf
    rw [← hf]
    exact State.get_bump_congr s s1 _ rfl (hget _ rfl)
  · rw [if_neg (by omega)] at hf
    rw [← hf]
    exact State.get_bump_congr s s1 _ rfl (hget _ rfl)

/-- The bytes of sums are as many as those added, of whole FP32 values. -/
theorem atomicSum_length (old new : List Byte) (h : new.length % 4 = 0) : (atomicSum old new).1.length = new.length := by
  have hbytes (l : List Nat) : (l.flatMap (bytesOf 4)).length = 4 * l.length := by
    induction l with
    | nil => rfl
    | cons v l ih => simp [ih, bytesOf]; omega
  have hpack (l : List Nat) : packValues 32 l = l.flatMap (bytesOf 4) := if_neg (by omega)
  unfold atomicSum
  dsimp only
  rw [hpack, hbytes, List.length_map, List.length_map, List.length_range]
  omega

/-- Bytes put at a place of near memory, and only there. -/
theorem Mem.store_only (m : Mem) (a : Nat) (bs : List Byte) (b : Nat) (hb : b < a ∨ a + bs.length ≤ b) : (m.store a bs).get b = m.get b :=
  (m.get_store a bs b).trans (if_neg (by omega))

theorem mcAccess_near {s : State} {r : MemReq} {pc off : Nat} (h : s.place r.addr = .near pc off) : mcAccess r s = s.request r false :=
  if_pos (State.place_near h)

theorem farAccess_far {s : State} {r : MemReq} {p off : Nat} (h : s.place r.addr = .far p off) : farAccess r s = s.request r false :=
  if_pos (State.place_far h).1

section
variable {s : State} {r : MemReq} (hs : s.powered) (hshape : s.shaped) (hdie : r.die < 4)
include hs hdie

/-- A write to near memory. -/
theorem mcAccess_writes {pc off : Nat} {bs : List Byte} (hplace : s.place r.addr = .near pc off)
    (hserves : s.serves (entMc (pc / 32)) = true)
    (hret : s.pcRetired pc = false) (hbs : r.data = some bs)
    (hin : 0 < bs.length ∧ r.addr % 256 + bs.length ≤ 256 ∧ s.requests r = true) : ∃ t, exec (.mcAccess r) s = .next t
      ∧ t.near.load (pc * pcBytes + off) bs.length = bs
      ∧ (∀ a, a < pc * pcBytes + off ∨ pc * pcBytes + off + bs.length ≤ a → t.near.get a = s.near.get a)
      ∧ t.far = s.far ∧ t.core = s.core ∧ regsBut [A.MC_ECC (pc / 32)] s t := by
  obtain ⟨-, -, ⟨mc, regs, freeCtr, hst⟩, -, hregs⟩ :=
    s.nearAccess_served ⟨r.die, r.requester⟩ r.addr pc off (.write bs) (reportOf r) hserves hret _ rfl
  have heq : mcAccess r s = (s.nearAccess ⟨r.die, r.requester⟩ r.addr pc off (.write bs) (reportOf r)).st := (mcAccess_near hplace).trans
      ((s.request_put r false bs hbs hin).trans (congrArg Done.st (State.memAccess_near _ _ _ hplace)))
  refine ⟨_, lively_powered s r.die 4 _ hdie hs.1 hs.2, ?_⟩
  rw [heq]
  refine ⟨?_, fun a ha => ?_, ?_, ?_, hregs rfl⟩
  · rw [hst]
    exact Mem.load_store _ _ _
  · rw [hst]
    exact Mem.store_only _ _ _ _ ha
  · rw [hst]
  · rw [hst]

/-- An atomic add in near memory. -/
theorem mcAtomicAdd_adds {pc off : Nat} {bs : List Byte} (hplace : s.place r.addr = .near pc off)
    (hserves : s.serves (entMc (pc / 32)) = true)
    (hret : s.pcRetired pc = false) (hbs : r.data = some bs)
    (hin : 0 < bs.length ∧ r.addr % 256 + bs.length ≤ 256 ∧ s.requests r = true) (hfour : bs.length % 4 = 0) :
    ∃ t, exec (.mcAtomicAdd r) s = .next t
      ∧ t.near.load (pc * pcBytes + off) bs.length = (atomicSum (s.near.load (pc * pcBytes + off) bs.length) bs).1
      ∧ (∀ a, a < pc * pcBytes + off ∨ pc * pcBytes + off + bs.length ≤ a → t.near.get a = s.near.get a)
      ∧ t.far = s.far ∧ t.core = s.core ∧ regsBut [A.MC_ATOM (pc / 32), A.MC_ECC (pc / 32)] s t := by
  obtain ⟨-, -, ⟨mc, regs, freeCtr, hst⟩, hregs, -⟩ :=
    s.nearAccess_served ⟨r.die, r.requester⟩ r.addr pc off (.atomic bs) (reportOf r) hserves hret _ rfl
  have hatomic : mcAtomicAdd r s = s.request r true :=
    if_pos ⟨by simp [isMemory, State.place_near hplace], by simp [hbs]⟩
  have heq : mcAtomicAdd r s = (s.nearAccess ⟨r.die, r.requester⟩ r.addr pc off (.atomic bs) (reportOf r)).st := hatomic.trans
      ((s.request_put r true bs hbs hin).trans (congrArg Done.st (State.memAccess_near _ _ _ hplace)))
  have hlen := atomicSum_length (s.near.load (pc * pcBytes + off) bs.length) bs hfour
  refine ⟨_, lively_powered s r.die 4 _ hdie hs.1 hs.2, ?_⟩
  rw [heq]
  refine ⟨?_, fun a ha => ?_, ?_, ?_, hregs⟩
  · rw [hst]
    exact Mem.load_store_of _ _ _ _ hlen
  · rw [hst]
    exact Mem.store_only _ _ _ _ (by rw [hlen]; exact ha)
  · rw [hst]
  · rw [hst]

/-- A read of far memory with poison. -/
theorem farAccess_poisoned {p off : Nat} (hplace : s.place r.addr = .far p off) (hserves : s.serves (entFar p) = true)
    (hcap : off < s.farCap p)
    (hr : r.data = none) (hin : 0 < r.len ∧ r.addr % 256 + r.len ≤ 256 ∧ s.requests r = true) (hpoison : r.poison = true) :
    ∃ t, exec (.farAccess r) s = .next t ∧ sameBytes s t
      ∧ t.get (F.FAR_ERR_POISON p) = (s.bump (F.FAR_ERR_POISON p)).get (F.FAR_ERR_POISON p) ∧ regsBut [A.FAR_ERR p] s t := by
  have hfars : s.far.set p ((s.far.getD p {}).access off (.read r.len)).2.1 = s.far := List.set_getD_self _ _ _
  have heq : farAccess r s = _ := (farAccess_far hplace).trans ((s.request_read r false hr hin).trans
    ((congrArg Done.st (State.memAccess_far _ _ _ hplace)).trans
      (s.farAccess_served r.addr p off (.read r.len) (reportOf r) hserves hcap s (by rw [hfars]))))
  have hbump : farAccess r s = (s.bump (F.FAR_ERR_POISON p)).add (F.FAR_ATOM_SAT p) 0 := by
    rw [heq]
    simp [reportOf, State.burst, Access.readsFar, hpoison, Mem.access]
  have hreg (a : Nat) : ((s.bump (F.FAR_ERR_POISON p)).add (F.FAR_ATOM_SAT p) 0).reg a = (s.bump (F.FAR_ERR_POISON p)).reg a :=
    State.add_zero_reg _ (F.FAR_ATOM_SAT p) (show 32 ≤ 63 by omega) (show 63 < 64 by omega) a
  refine ⟨_, lively_powered s r.die 4 _ hdie hs.1 hs.2, ?_⟩
  rw [hbump]
  refine ⟨sameBytes_of_mems rfl, State.get_congr _ (hreg _), fun a ha => (hreg a).trans ?_⟩
  exact ((Frame.refl [A.FAR_ERR p] s).bump (F.FAR_ERR_POISON p)).regs a ha

include hshape

/-- A read of near memory whose burst the device reports in error. -/
theorem mcAccess_logs {pc off : Nat} (hplace : s.place r.addr = .near pc off) (hserves : s.serves (entMc (pc / 32)) = true)
    (hret : s.pcRetired pc = false) (hpc : pc < 512) (hr : r.data = none)
    (hin : 0 < r.len ∧ r.addr % 256 + r.len ≤ 256 ∧ s.requests r = true) (hlog : (s.memctl (pc / 32)).log.length < 16)
    (hsev : r.sev = 1 ∨ r.sev = 2) : ∃ t, exec (.mcAccess r) s = .next t ∧ sameBytes s t ∧ regsBut [A.MC_ECC (pc / 32)] s t
      ∧ (t.memctl (pc / 32)).log
        = (s.memctl (pc / 32)).log ++ [⟨r.sev, pc % 32, r.bank % 64, r.row % 2 ^ 18, s.now, s.epoch⟩]
      ∧ (r.sev = 1 → t.get (F.MC_ECC_CE (pc / 32)) = (s.bump (F.MC_ECC_CE (pc / 32))).get (F.MC_ECC_CE (pc / 32)))
      ∧ (r.sev = 2 → t.get (F.MC_ECC_UE (pc / 32)) = (s.bump (F.MC_ECC_UE (pc / 32))).get (F.MC_ECC_UE (pc / 32))) := by
  obtain ⟨-, -, ⟨mc, regs, freeCtr, hst⟩, -, hregs⟩ :=
    s.nearAccess_served ⟨r.die, r.requester⟩ r.addr pc off (.read r.len) (reportOf r) hserves hret _ rfl
  have heq : mcAccess r s = _ := (mcAccess_near hplace).trans
      ((s.request_read r false hr hin).trans (congrArg Done.st (State.memAccess_near _ _ _ hplace)))
  have hmcs : pc / 32 < s.mc.length := by
    obtain ⟨-, hlen, -⟩ := hshape
    omega
  obtain ⟨t, ht⟩ : ∃ t, (s.grantMc (pc / 32)).eccNote (pc / 32) pc true ⟨r.sev, r.bank, r.row, r.parity, r.poison⟩ = t := ⟨_, rfl⟩
  have hctl : (s.grantMc (pc / 32)).memctl (pc / 32) = _ := State.setMemctl_self _ _ _ hmcs
  obtain ⟨hlog', hce, hue⟩ := State.eccNote_logs _ _ _ _ (by simpa [State.grantMc, State.setMemctl] using hmcs)
    (by rw [hctl]; exact hlog) hsev _ ht
  rw [hctl] at hlog'
  have hdone : (s.nearAccess ⟨r.die, r.requester⟩ r.addr pc off (.read r.len) (reportOf r)).st = t.add (F.MC_ATOM_SAT (pc / 32)) 0 := by
    unfold State.nearAccess
    dsimp only
    rw [if_neg (by simp [hserves, hret]), ← ht]
    rfl
  have hget (f : Field) : (t.add (F.MC_ATOM_SAT (pc / 32)) 0).get f = t.get f :=
    State.get_congr f (t.add_zero_reg (F.MC_ATOM_SAT (pc / 32)) (show 32 ≤ 63 by omega) (show 63 < 64 by omega) f.addr)
  refine ⟨_, lively_powered s r.die 4 _ hdie hs.1 hs.2, ?_⟩
  rw [heq]
  refine ⟨sameBytes_of_mems (by rw [hst]; rfl), hregs rfl, ?_⟩
  rw [hdone, hget, hget]
  exact ⟨hlog', hce, hue⟩

/-- A write to far memory. -/
theorem farAccess_writes {p off : Nat} {bs : List Byte} (hplace : s.place r.addr = .far p off) (hserves : s.serves (entFar p) = true)
    (hcap : off < s.farCap p) (hbs : r.data = some bs)
    (hin : 0 < bs.length ∧ r.addr % 256 + bs.length ≤ 256 ∧ s.requests r = true) : ∃ t, exec (.farAccess r) s = .next t
      ∧ (t.far.getD p {}).load off bs.length = bs
      ∧ (∀ a, a < off ∨ off + bs.length ≤ a → (t.far.getD p {}).get a = (s.far.getD p {}).get a)
      ∧ t.far.getD (1 - p) {} = s.far.getD (1 - p) {} ∧ t.near = s.near ∧ ∀ a, t.reg a = s.reg a := by
  have hp := (State.place_far hplace).2
  have hlen : p < s.far.length := by
    obtain ⟨-, -, -, -, -, -, -, hlen, -⟩ := hshape
    omega
  obtain ⟨y, hy⟩ : ∃ y : State, y = { s with far := s.far.set p ((s.far.getD p {}).access off (.write bs)).2.1 } := ⟨_, rfl⟩
  have heq : farAccess r s = _ := (farAccess_far hplace).trans ((s.request_put r false bs hbs hin).trans
    ((congrArg Done.st (State.memAccess_far _ _ _ hplace)).trans
      (s.farAccess_served r.addr p off (.write bs) (reportOf r) hserves hcap y hy)))
  have hwritten : y.far.getD p {} = (s.far.getD p {}).store off bs := by
    rw [hy]
    exact (getD_set_eq s.far p p _ {} hlen).trans (if_pos rfl)
  have hother : y.far.getD (1 - p) {} = s.far.getD (1 - p) {} := by
    rw [hy]
    exact (getD_set_eq s.far p (1 - p) _ {} hlen).trans (if_neg (by omega))
  have hsat : farAccess r s = y.add (F.FAR_ATOM_SAT p) 0 := heq
  refine ⟨_, lively_powered s r.die 4 _ hdie hs.1 hs.2, ?_⟩
  rw [hsat]
  refine ⟨?_, fun a ha => ?_, hother, by rw [hy]; rfl, fun a => ?_⟩
  · refine Eq.trans (congrArg (fun m : Mem => m.load off bs.length) hwritten) (Mem.load_store _ _ _)
  · refine Eq.trans (congrArg (fun m : Mem => m.get a) hwritten) (Mem.store_only _ _ _ _ ha)
  · rw [State.add_zero_reg _ (F.FAR_ATOM_SAT p) (show 32 ≤ 63 by omega) (show 63 < 64 by omega), hy]
    rfl

end

/-- Settles O44: one request within a granule reaches its pseudo-channel or its device. -/
theorem memoryAccesses : Obligations.MemoryAccesses := by
  unfold Obligations.MemoryAccesses
  intro s r hs hshape hdie near far inGranule
  refine ⟨fun pc off bs hnear hbs hin => ?_, fun pc off hnear hpc hr hin hlog hsev => ?_, fun pc off hplace hserves hret bs hbs hin => ?_,
    fun bs hmiss hbs hin => ?_, fun pc off bs hnear hbs hin hfour => ?_, fun p off bs hfarAt hbs hin => ?_,
    fun p off hfarAt hr hin hpoison => ?_⟩
  · obtain ⟨hplace, hserves, hret⟩ := hnear
    exact mcAccess_writes hs hdie hplace hserves hret hbs hin
  · obtain ⟨hplace, hserves, hret⟩ := hnear
    exact mcAccess_logs hs hshape hdie hplace hserves hret hpc hr hin hlog hsev
  · refine (lively_powered s r.die 4 (mcAccess r) hdie hs.1 hs.2 :).trans (congrArg Host.Outcome.next ?_)
    rw [mcAccess_near hplace, s.request_put r false bs hbs hin, State.memAccess_near _ _ _ hplace]
    unfold State.nearAccess
    dsimp only
    rw [if_pos (.inr hret), hserves]
    rfl
  · refine (lively_powered s r.die 4 (mcAccess r) hdie hs.1 hs.2 :).trans (congrArg Host.Outcome.next ?_)
    rw [mcAccess, if_pos (State.place_miss hmiss), s.request_put r false bs hbs hin]
    unfold State.memAccess
    rw [hmiss]
  · obtain ⟨hplace, hserves, hret⟩ := hnear
    exact mcAtomicAdd_adds hs hdie hplace hserves hret hbs hin hfour
  · obtain ⟨hplace, hserves, hcap⟩ := hfarAt
    exact farAccess_writes hs hshape hdie hplace hserves hcap hbs hin
  · obtain ⟨hplace, hserves, hcap⟩ := hfarAt
    exact farAccess_poisoned hs hdie hplace hserves hcap hr hin hpoison

end Sys2Proof.Machine

/-! Access codes of registers, data windows and the void responder (O57). -/
namespace Sys2Proof.Machine

/-! ## Access codes (R14) -/

theorem getLsbD_ofNat64 (n i : Nat) (hi : i < 64) : (BitVec.ofNat 64 n).getLsbD i = n.testBit i := by
  rw [BitVec.getLsbD_ofNat]
  simp [hi]

/-- Bits hi:lo of words that agree there. -/
theorem bits_congr (v w : Word) (hi lo : Nat) (h : ∀ i, lo ≤ i → i ≤ hi → v.getLsbD i = w.getLsbD i) : bits v hi lo = bits w hi lo := by
  apply Nat.eq_of_testBit_eq
  intro i
  simp only [bits, Nat.testBit_mod_two_pow, Nat.testBit_div_two_pow]
  by_cases hi' : i < hi + 1 - lo
  · have hb := h (i + lo) (by omega) (by omega)
    simp only [BitVec.getLsbD] at hb
    rw [hb]
  · simp [hi']

theorem unsigned_lt (w : Nat) (i : Int) : unsigned w i < 2 ^ w := by
  have hpos : (0 : Int) < (2 ^ w : Nat) := by exact_mod_cast Nat.two_pow_pos w
  have h := Int.emod_lt_of_pos i hpos
  have h0 := Int.emod_nonneg i hpos.ne'
  unfold unsigned
  omega

/-- Bit i of a register after a write. -/
theorem State.fieldWrite_bit (s : State) (a : Nat) (v : Word) (r : RegRow) (i : Nat) (hrow : rowAt a = some r) (hi : i < 64) :
    ((s.fieldWrite a v).reg a).getLsbD i
      = ((if (r.rw ||| if s.mstate ≤ msTrain then r.rwl else 0).testBit i then v.getLsbD i else (s.reg a).getLsbD i)
        && !(v.getLsbD i && r.w1c.testBit i)) := by
  unfold State.fieldWrite
  rw [hrow]
  dsimp only
  rw [State.reg_setReg_self]
  simp only [BitVec.getLsbD_and, BitVec.getLsbD_or, BitVec.getLsbD_not, getLsbD_ofNat64 _ _ hi, hi]
  cases (r.rw ||| if s.mstate ≤ msTrain then r.rwl else 0).testBit i <;> cases v.getLsbD i <;> simp

theorem State.fieldWrite_regs (s : State) (a : Nat) (v : Word) : Frame [a] s (s.fieldWrite a v) := by
  unfold State.fieldWrite
  split
  · exact Frame.refl _ s
  · exact (Frame.refl _ s).setReg a _ (.head _)

/-! ## Words of the register space (R410) -/

/-- Where a register's words are written: what its address decodes to. -/
theorem State.word_register (s : State) (o : Origin) (a : Nat) (v : Word) (hrec : s.boot.recovery = false) (hreg : isRegister a = true)
    (hfar : a < 0x300000002400 ∨ 0x300000002600 ≤ a) (hrow : (rowAt a).isSome = true) (hwin : ∀ x ∈ windowAt a, x.2.2 ≠ 0x10) :
    s.word o a (some v) = s.regWrite a v := by
  have hcore : ¬ (0x200000000000 ≤ a ∧ a < 0x200064000000) := by
    simp only [isRegister, Bool.or_eq_true, Bool.and_eq_true, decide_eq_true_eq] at hreg
    omega
  unfold State.word
  rw [if_neg (by simp [hrec]), if_neg hcore, if_pos hreg, if_neg (by omega)]
  dsimp only
  rw [if_pos ⟨hrow, hwin⟩]

theorem State.devWord_register (s : State) (o : Origin) (a : Nat) (v : Option Word) (hwin : ∀ x ∈ windowAt a, x.2.2 ≠ 0x10) :
    s.devWord o a v = s.word o a v := by
  unfold State.devWord State.through
  split
  · next h => exact absurd rfl (hwin _ h)
  · rfl

/-- A register written from port A. -/
theorem exec_registerWrite (s : State) (a : Nat) (v : Word) (t : State) (hs : s.powered) (hrec : s.boot.recovery = false)
    (hlt : a < 2 ^ 48) (hword : a % 8 = 0) (hreg : isRegister a = true)
    (hfar : a < 0x300000002400 ∨ 0x300000002600 ≤ a) (hrow : (rowAt a).isSome = true) (hwin : ∀ x ∈ windowAt a, x.2.2 ≠ 0x10)
    (ht : s.regWrite a v = .ok 0 t) : exec (.registerWrite a v) s = .next t := by
  have hlive : execRegisterWrite a v s = .next _ := live_powered s (registerWrite a v) hs.1 hs.2
  refine hlive.trans (congrArg Host.Outcome.next ?_)
  rw [registerWrite, if_neg (by omega), if_neg (by omega), State.portWord, s.devWord_register _ _ _ hwin,
    s.word_register _ _ _ hrec hreg hfar hrow hwin, ht]
  rfl

theorem mcArb_register : ∀ n < 16, isRegister (A.MC_ARB n) = true ∧ (rowAt (A.MC_ARB n)).isSome = true ∧ A.MC_ARB n % 8 = 0 := by
  decide +kernel

theorem State.regWrite_mcArb (s : State) (n : Nat) (v : Word) (hn : n < 16) :
    s.regWrite (A.MC_ARB n) v = .ok 0 (s.fieldWrite (A.MC_ARB n) v) := by
  have haddr : A.MC_ARB n = 0x300000020048 + 0x1000 * n := by
    simp only [A.MC_ARB, mcReg]
    omega
  have hn' : (A.MC_ARB n - 0x300000020000) / 0x1000 = n := by omega
  have ho : A.MC_ARB n % 0x1000 = 0x48 := by omega
  unfold State.regWrite
  repeat rw [if_neg (by omega)]
  rw [if_pos (by omega), hn', ho, State.mcWrite, if_neg (by omega), if_neg (by omega)]
  rfl

/-! ## Data windows (R407) -/

theorem windowAt_addr : ∀ c < 2, ∀ w < 4, windowAt (A.DW_ADDR c w) = some (c, w, 0) := by decide

theorem windowAt_data : ∀ c < 2, ∀ w < 4, windowAt (A.DW_DATA c w) = some (c, w, 0x10) := by decide

theorem dwAddr_codes : ∀ c < 2, ∀ w < 4, (rowAt (A.DW_ADDR c w)).map (fun r => (r.rw, r.rwl, r.w1c)) = some (2 ^ 48 - 1, 0, 0) := by
  decide +kernel

theorem State.regWrite_dwAddr (s : State) (c w : Nat) (v : Word) (hc : c < 2) (hw : w < 4) :
    s.regWrite (A.DW_ADDR c w) v = .ok 0 (s.dwAddr c w v) := by
  have haddr : A.DW_ADDR c w = 0x300000040C00 + (0x1000 * c + 0x40 * w) := by
    simp only [A.DW_ADDR, colokReg]
    omega
  have hwin := windowAt_addr c hc w hw
  unfold State.regWrite
  repeat rw [if_neg (by omega)]
  rw [if_pos (by omega)]
  dsimp only
  rw [if_neg (by omega), hwin]
  rfl

/-- The window's address register takes the low 48 bits, and its counts start anew. -/
theorem State.dwAddr_effect (s : State) (c w : Nat) (v : Word) (hc : c < 2) (hw : w < 4) :
    (s.dwAddr c w v).get (F.DW_ADDR_ADDR c w) = bits v 47 0 ∧ (s.dwAddr c w v).reg (A.DW_COUNT c w) = 0
      ∧ Frame [A.DW_ADDR c w, A.DW_COUNT c w] s (s.dwAddr c w v) := by
  have hrow := dwAddr_codes c hc w hw
  obtain ⟨r, hr, hbits⟩ := Option.map_eq_some_iff.mp hrow
  obtain ⟨hrw, hrwl, hw1c⟩ : r.rw = 2 ^ 48 - 1 ∧ r.rwl = 0 ∧ r.w1c = 0 := by simpa using hbits
  have hne : A.DW_ADDR c w ≠ A.DW_COUNT c w := by
    simp only [A.DW_ADDR, A.DW_COUNT]
    omega
  refine ⟨?_, State.reg_setReg_self _ _ _, ?_⟩
  · unfold State.dwAddr
    refine (State.get_congr (F.DW_ADDR_ADDR c w) (State.reg_setReg_ne _ _ _ _ hne)).trans (bits_congr _ _ 47 0 fun i _ hi => ?_)
    refine (s.fieldWrite_bit (A.DW_ADDR c w) v r i hr (by omega)).trans ?_
    rw [ hrw, hrwl, hw1c]
    have hbit : (2 ^ 48 - 1 : Nat).testBit i = true := by
      rw [Nat.testBit_two_pow_sub_one]
      exact decide_eq_true (by omega)
    rw [show (2 ^ 48 - 1 ||| if s.mstate ≤ msTrain then 0 else 0) = 2 ^ 48 - 1 by simp, hbit, Nat.zero_testBit]
    simp
  · exact ((s.fieldWrite_regs (A.DW_ADDR c w) v).mono (by simp)).setReg _ _ (by simp)

/-- After an access a window steps and counts. -/
theorem State.dwStep_ok (s : State) (c w : Nat) : ∃ t, s.dwStep c w stOk = t
    ∧ t.get (F.DW_ADDR_ADDR c w) = unsigned 48 ((s.get (F.DW_ADDR_ADDR c w) : Int) + signed 16 (s.get (F.DW_CTRL_INC c w) / 8 * 8))
    ∧ t.get (F.DW_COUNT_WORDS c w) = (s.get (F.DW_COUNT_WORDS c w) + 1) % 2 ^ 32 ∧ t.get (F.DW_COUNT_ERRS c w) = s.get
        (F.DW_COUNT_ERRS c w)
    ∧ Frame [A.DW_ADDR c w, A.DW_COUNT c w] s t ∧ t.mems = s.mems := by
  have hne (f g : Field) (hf : f.addr = A.DW_ADDR c w) (hg : g.addr = A.DW_COUNT c w) : f.addr ≠ g.addr := by
    rw [hf, hg]
    simp only [A.DW_ADDR, A.DW_COUNT]
    omega
  obtain ⟨s1, hs1⟩ : ∃ s1, s.set (F.DW_ADDR_ADDR c w)
    (unsigned 48 (Int.ofNat (s.get (F.DW_ADDR_ADDR c w)) + signed 16 (s.get (F.DW_CTRL_INC c w) / 8 * 8))) = s1 := ⟨_, rfl⟩
  have hcount (g : Field) (hg : g.addr = A.DW_COUNT c w) : s1.get g = s.get g := by
    rw [← hs1]
    exact State.get_set_ne _ _ _ _ (hne _ _ rfl hg).symm
  have hstep : s.dwStep c w stOk = s1.set (F.DW_COUNT_WORDS c w) (s.get (F.DW_COUNT_WORDS c w) + 1) := by
    rw [← hcount _ rfl, ← hs1]
    rfl
  refine ⟨_, hstep, ?_, ?_, ?_, ?_, by rw [← hs1]; rfl⟩
  · rw [State.get_set_ne _ _ _ _ (hne _ _ rfl rfl), ← hs1]
    exact State.get_set_lt _ (F.DW_ADDR_ADDR c w) _ (Nat.zero_le 47) (show 47 < 64 by omega) (unsigned_lt 48 _)
  · exact State.get_set_self _ (F.DW_COUNT_WORDS c w) _ (Nat.zero_le 31) (show 31 < 64 by omega)
  · exact (State.get_set_apart _ (F.DW_COUNT_WORDS c w) (F.DW_COUNT_ERRS c w) _ rfl).trans (hcount _ rfl)
  · rw [← hs1]
    exact ((Frame.refl _ s).set (F.DW_ADDR_ADDR c w) _).set (F.DW_COUNT_WORDS c w) _ (.tail _ (.head _))

theorem exec_dwAddrWrite (s : State) (c w : Nat) (v : Word) (hs : s.powered) (hrec : s.boot.recovery = false) (hc : c < 2) (hw : w < 4) :
    exec (.dwAddrWrite c w v) s = .next (s.dwAddr c w v) := by
  have hwin := windowAt_addr c hc w hw
  have hno : ∀ x ∈ windowAt (A.DW_ADDR c w), x.2.2 ≠ 0x10 := by
    rw [hwin]
    rintro x ⟨⟩
    exact Nat.zero_ne_add_one 15
  have haddr : A.DW_ADDR c w = 0x300000040C00 + (0x1000 * c + 0x40 * w) := by
    simp only [A.DW_ADDR, colokReg]
    omega
  have hreg : isRegister (A.DW_ADDR c w) = true := by
    simp only [isRegister, Bool.or_eq_true, Bool.and_eq_true, decide_eq_true_eq]
    omega
  have hrow : (rowAt (A.DW_ADDR c w)).isSome = true := by
    obtain ⟨r, hr, -⟩ := Option.map_eq_some_iff.mp (dwAddr_codes c hc w hw)
    rw [hr]
    rfl
  have hlive : execDwAddrWrite c w v s = .next _ := lively_powered s c 2 _ hc hs.1 hs.2
  refine hlive.trans (congrArg Host.Outcome.next ?_)
  rw [if_pos hw, State.portWord, s.devWord_register _ _ _ hno, s.word_register _ _ _ hrec hreg (by omega) hrow hno,
    s.regWrite_dwAddr c w v hc hw]
  rfl

/-- A word of near memory. -/
theorem State.word_near (s : State) (o : Origin) (a pc off : Nat) (v : Option Word) (hrec : s.boot.recovery = false)
    (hplace : s.place a = .near pc off) (d : Done) (hd : s.nearAccess o a pc off (match v with
      | none => .read 8
      | some w => .write (bytesOf 8 w.toNat)) = d) : s.word o a v = ⟨d.status, wordAt d.data 0, d.st⟩ := by
  have hlt := State.place_near hplace
  have hreg : ¬ isRegister a = true := by
    simp only [isRegister, Bool.or_eq_true, Bool.and_eq_true, decide_eq_true_eq]
    omega
  unfold State.word
  rw [if_neg (by simp [hrec]), if_neg (by omega), if_neg hreg, hplace]
  cases v with
  | none =>
    dsimp only
    rw [State.memAccess_near _ _ _ hplace, hd]
  | some w =>
    dsimp only
    rw [State.memAccess_near _ _ _ hplace, hd]

/-- A word through a window's data register that points at near memory. -/
theorem State.devWord_window (s : State) (o : Origin) (c w pc off : Nat) (v : Option Word) (hc : c < 2) (hw : w < 4)
    (hrec : s.boot.recovery = false) (hplace : s.place (s.get (F.DW_ADDR_ADDR c w) / 8 * 8) = .near pc off) (d : Done)
    (hd : s.nearAccess o (s.get (F.DW_ADDR_ADDR c w) / 8 * 8) pc off (match v with
      | none => .read 8
      | some w => .write (bytesOf 8 w.toNat)) = d) :
    s.devWord o (A.DW_DATA c w) v = ⟨d.status, wordAt d.data 0, d.st.dwStep c w d.status⟩ := by
  have hwin := windowAt_data c hc w hw
  have hnone := windowAt_eq_none (s.get (F.DW_ADDR_ADDR c w) / 8 * 8) (by have := State.place_near hplace; omega)
  have hinner : s.through o (s.get (F.DW_ADDR_ADDR c w) / 8 * 8) v 7 = s.word o (s.get (F.DW_ADDR_ADDR c w) / 8 * 8) v := by
    unfold State.through
    rw [hnone]
  unfold State.devWord State.through
  rw [hwin]
  refine (if_neg (by simp [hrec])).trans ?_
  rw [hinner, s.word_near o _ pc off v hrec hplace d hd]

/-- An access of a window to near memory: its effect on the memory, and the step of the window. -/
theorem State.window_effect (s : State) (c w pc off : Nat) (x : Access) (hw : w < 4)
    (hserves : s.serves (entMc (pc / 32)) = true) (hret : s.pcRetired pc = false)
    (hsat : (s.near.access (pc * pcBytes + off) x).2.2 = 0) (t : State)
    (ht : (s.nearAccess (colokOrigin c) (s.get (F.DW_ADDR_ADDR c w) / 8 * 8) pc off x).st.dwStep c w stOk = t) :
    t.mems = ({ s with near := (s.near.access (pc * pcBytes + off) x).2.1 } : State).mems
    ∧ t.get (F.DW_ADDR_ADDR c w) = unsigned 48 ((s.get (F.DW_ADDR_ADDR c w) : Int) + signed 16 (s.get (F.DW_CTRL_INC c w) / 8 * 8))
    ∧ t.get (F.DW_COUNT_WORDS c w) = (s.get (F.DW_COUNT_WORDS c w) + 1) % 2 ^ 32 ∧ t.get (F.DW_COUNT_ERRS c w) = s.get
        (F.DW_COUNT_ERRS c w)
    ∧ regsBut [A.DW_ADDR c w, A.DW_COUNT c w, A.MC_ECC (pc / 32)] s t := by
  obtain ⟨-, -, ⟨mc, regs, freeCtr, hst⟩, -, hregs⟩ :=
    s.nearAccess_served (colokOrigin c) (s.get (F.DW_ADDR_ADDR c w) / 8 * 8) pc off x none hserves hret _ rfl
  have hframe := hregs hsat
  generalize (s.nearAccess (colokOrigin c) (s.get (F.DW_ADDR_ADDR c w) / 8 * 8) pc off x).st = y at hst hframe ht
  obtain ⟨t', ht', haddr, hwords, herrs, hstep, hmems⟩ := y.dwStep_ok c w
  have hget (f : Field) (hf : f.addr = A.DW_ADDR c w ∨ f.addr = A.DW_CTRL c w ∨ f.addr = A.DW_COUNT c w) : y.get f = s.get f := by
    refine State.get_congr f (hframe _ ?_)
    simp only [A.DW_ADDR, A.DW_CTRL, A.DW_COUNT] at hf
    simp only [colokReg, A.MC_ECC, mcReg, List.mem_singleton] at hf ⊢
    omega
  rw [hget _ (.inl rfl), hget _ (.inr (.inl rfl))] at haddr
  rw [hget _ (.inr (.inr rfl))] at hwords herrs
  rw [← ht, ht']
  refine ⟨by rw [hmems, hst]; rfl, haddr, hwords, herrs, ?_⟩
  exact regsBut_trans (fun b hb => hframe b fun hm => hb (by simp_all)) fun b hb => hstep.regs b fun hm => hb (by simp_all)

/-! ## Absent far memory (R8) -/

theorem State.word_void (s : State) (o : Origin) (a : Nat) (hrec : s.boot.recovery = false) (hs0 : s.fuse.s0 = true)
    (hlo : 0x100000000000 ≤ a) (hhi : a < 0x120000000000) (h8 : a % 8 = 0) :
    (s.word o a none).status = stAbsent ∧ (s.word o a none).data = BitVec.ofNat 64 s.gradeCode := by
  have hreg : ¬ isRegister a = true := by
    simp only [isRegister, Bool.or_eq_true, Bool.and_eq_true, decide_eq_true_eq]
    omega
  obtain ⟨p, hplace⟩ : ∃ p, s.place a = .void p := by
    unfold State.place
    rw [if_neg (by omega), if_pos ⟨hlo, hhi⟩, if_pos hs0]
    exact ⟨_, rfl⟩
  have hcode : s.gradeCode = 0x950 := by
    unfold State.gradeCode State.gradeMask
    rw [if_pos hs0]
    decide
  have hword : s.word o a none = ⟨stAbsent, wordAt (s.voidRead a 8) 0, s.absentUnit (unitFar p) a⟩ := by
    unfold State.word
    rw [if_neg (by simp [hrec]), if_neg (by omega), if_neg hreg, hplace]
    have hmem : s.memAccess o a (.read 8) = ⟨stAbsent, s.voidRead a 8, s.absentUnit (unitFar p) a⟩ := by
      unfold State.memAccess
      rw [hplace]
    exact congrArg (fun d : Done => (⟨d.status, wordAt d.data 0, d.st⟩ : WordDone)) hmem
  have hbytes : s.voidRead a 8 = [0x50, 0x09, 0, 0, 0, 0, 0, 0] := by
    have hmod (i : Nat) (hi : i < 8) : (a + i) % 8 = i := by omega
    unfold State.voidRead
    simp [List.range_succ, hmod, hcode, h8]
  rw [hword, hbytes, hcode]
  exact ⟨rfl, (by decide : wordAt [0x50, 0x09, 0, 0, 0, 0, 0, 0] 0 = BitVec.ofNat 64 0x950)⟩

/-- Settles O57, register by register: the rows of the registers named, and near memory behind a window. -/
theorem registerAccess : Obligations.RegisterAccess := by
  unfold Obligations.RegisterAccess
  refine fun s hs => ⟨fun a v r i hrow hi => ?_, fun n v hn hrec => ?_, fun v hrec h2 h1 => ?_, fun c w hc hw hrec => ⟨fun v => ?_,
    fun v pc off hplace hserves hret => ⟨?_, ?_⟩⟩, fun o a hrec hs0 hlo hhi h8 => s.word_void o a hrec hs0 hlo hhi h8⟩
  · have hbit := s.fieldWrite_bit a v r i hrow hi
    rw [Nat.testBit_or] at hbit
    have hrwl : (if s.mstate ≤ msTrain then r.rwl else 0).testBit i = true ↔ s.get F.MODULE_STATE_STATE ≤ 3 ∧ r.rwl.testBit i = true := by
      by_cases h : s.mstate ≤ msTrain
      · rw [if_pos h]
        exact (and_iff_right h).symm
      · rw [if_neg h, Nat.zero_testBit]
        exact ⟨fun hf => absurd hf Bool.false_ne_true, fun hf => absurd hf.1 h⟩
    intro rw w1c
    have hset : (r.rw.testBit i || (if s.mstate ≤ msTrain then r.rwl else 0).testBit i) = true ↔ rw := by
      rw [Bool.or_eq_true, hrwl]
    refine ⟨fun hw hr => ?_, fun hw hr => ?_, fun hw hr => ?_, (s.fieldWrite_regs a v).regs⟩
    · rw [hbit, if_pos (hset.mpr hr), Bool.eq_false_iff.mpr hw]
      simp
    · rw [hbit, if_neg (mt hset.mp hr), Bool.eq_false_iff.mpr hw]
      simp
    · rw [hbit, if_neg (mt hset.mp hr), hw, Bool.and_true]
  · obtain ⟨hreg, hrow, h8⟩ := mcArb_register n hn
    have haddr : A.MC_ARB n = 0x300000020048 + 0x1000 * n := by
      simp only [A.MC_ARB, mcReg]
      omega
    exact exec_registerWrite s _ v _ hs hrec (by omega) h8 hreg (by omega) hrow (by rw [windowAt_eq_none _ (by omega)]; simp)
      (s.regWrite_mcArb n v hn)
  · refine exec_registerWrite s A.PWR_CTRL v _ hs hrec (by decide) (by decide) (by decide) (by decide) (by decide +kernel) (by decide) ?_
    have hmgmt : s.regWrite A.PWR_CTRL v = .ok 0 (s.mgmtWrite A.PWR_CTRL v) := by
      unfold State.regWrite
      repeat rw [if_neg (by decide)]
      rw [if_pos (by decide)]
    rw [hmgmt, State.mgmtWrite, if_pos rfl, if_neg (by omega), if_pos h1]
  · obtain ⟨haddr, hcount, hframe⟩ := s.dwAddr_effect c w v hc hw
    exact ⟨_, exec_dwAddrWrite s c w v hs hrec hc hw, haddr, hcount, hframe.regs, hframe.bytes⟩
  · obtain ⟨hstatus, -⟩ := s.nearAccess_served (colokOrigin c) (s.get (F.DW_ADDR_ADDR c w) / 8 * 8) pc off
      (.write (bytesOf 8 v.toNat)) none hserves hret _ rfl
    obtain ⟨hmems, haddr, hwords, herrs, hregs⟩ :=
      s.window_effect c w pc off (.write (bytesOf 8 v.toNat)) hw hserves hret rfl _ rfl
    have hnear := congrArg Prod.fst hmems
    have hlen : (bytesOf 8 v.toNat).length = 8 := by simp [bytesOf]
    have hlive : execDwDataWrite c w v s = .next _ := lively_powered s c 2 _ hc hs.1 hs.2
    refine ⟨_, hlive, ?_⟩
    rw [if_pos hw, State.portWord, s.devWord_window (colokOrigin c) c w pc off (some v) hc hw hrec hplace _ rfl]
    dsimp only
    rw [hstatus]
    refine ⟨?_, fun a ha => ?_, haddr, hwords, herrs, hregs⟩
    · refine (congrArg (fun m : Mem => m.load (pc * pcBytes + off) 8) hnear).trans ?_
      exact Mem.load_store_of _ _ _ _ hlen
    · refine (congrArg (fun m : Mem => m.get a) hnear).trans ?_
      exact Mem.store_only _ _ _ _ (by rw [hlen]; exact ha)
  · obtain ⟨hstatus, -⟩ := s.nearAccess_served (colokOrigin c) (s.get (F.DW_ADDR_ADDR c w) / 8 * 8) pc off
      (.read 8) none hserves hret _ rfl
    obtain ⟨hmems, haddr, hwords, -, hregs⟩ := s.window_effect c w pc off (.read 8) hw hserves hret rfl _ rfl
    have hlive : execDwDataRead c w s = .next _ := lively_powered s c 2 _ hc hs.1 hs.2
    refine ⟨_, hlive, ?_⟩
    rw [if_pos hw, State.portWord, s.devWord_window (colokOrigin c) c w pc off none hc hw hrec hplace _ rfl]
    dsimp only
    rw [hstatus]
    exact ⟨sameBytes_of_mems hmems, haddr, hwords, hregs⟩

end Sys2Proof.Machine

/-! Packets on their way: checks, credit, forwarding and age (O47). -/
namespace Sys2Proof.Machine

/-! ## The pump (R284 to R286, R302) -/

theorem union_nil (l : List Nat) : union l [] = l := rfl

/-- With nothing held the record of what waits for credit stays. -/
theorem State.starved_empty (s : State) (h : s.rt.held = []) :
    ({ s with rt := { s.rt with starved := union s.rt.starved s.starvedNow } } : State) = s := by
  have hstarved : s.starvedNow = [] := by
    unfold State.starvedNow
    rw [h]
    rfl
  rw [hstarved, union_nil]

/-- Nothing held, nothing to send. -/
theorem State.pumpAll_empty (s : State) (h : s.rt.held = []) : s.pumpAll = s := by
  have hpump : s.pump (s.rt.held.foldl (fun n h => n + h.outs.length) 0) = s := by
    rw [h]
    rfl
  unfold State.pumpAll
  rw [hpump]
  exact s.starved_empty h

theorem State.dropFor_frame (s : State) (p : Nat) : Frame [A.RT_DROP, A.FAULT_LOST] s (s.dropFor p) := by
  unfold State.dropFor
  refine Frame.foldl _ _ (fun s h _ hs => hs.trans (s.giveCredit_frame _ _ _ _)) (Frame.plain ?_)
  exact ((Frame.refl _ s).set F.RT_DROP_PORT_DOWN _).next (State.faultOnce_frame _ _ _ _ _) (by simp)

theorem State.sendOut_frame (l : List Nat) (s : State) (p i r cls : Nat) : Frame l s (s.sendOut p i r cls) := by
  unfold State.sendOut
  split
  · exact Frame.refl _ s
  · exact Frame.ite ((Frame.refl l s).plain.trans (State.giveCredit_frame l _ _ _ _)) (Frame.refl _ s).plain

theorem State.pumpAll_frame (s : State) : Frame [A.RT_DROP, A.FAULT_LOST] s s.pumpAll :=
  (State.pump_induct (Frame _ s) (fun x p h => h.trans (x.dropFor_frame p))
    (fun _ _ _ _ _ h => (Frame.plain h).trans (State.sendOut_frame _ _ _ _ _ _)) _ s (Frame.refl _ s)).plain

/-- One round of the pump where every output that is bound for is READY: the packet granted leaves. -/
theorem State.pump_sends (fuel : Nat) (s : State) (o i r k : Nat)
    (hkeep : (s.forN 12 fun s p => if s.rt.held.any (fun h => h.outs.any fun o => o.1 == p) && !s.unitReady (entPort p) then s.dropFor p
      else s) = s) (hgrant : (List.range 12).findSome? (fun p => (s.grant p).map fun g => (p, g)) = some (o, i, r, k)) :
    State.pump (fuel + 1) s = State.pump fuel ((s.noteOutbid o i).sendOut o i r k) := by
  delta State.pump State.pump._f
  generalize 12 = ports at hkeep hgrant ⊢
  dsimp only
  rw [hkeep, hgrant]

/-! ### A packet alone -/

theorem findSome_range_unique {α : Type} (n o : Nat) (f : Nat → Option α) (x : α) (ho : o < n) (hx : f o = some x)
    (hne : ∀ p, p ≠ o → f p = none) : (List.range n).findSome? f = some x := by
  induction n with
  | zero => omega
  | succ n ih =>
    rw [List.range_succ, List.findSome?_append]
    by_cases h : o < n
    · rw [ih h]
      rfl
    · have hon : o = n := by omega
      have hnone : (List.range n).findSome? f = none := List.findSome?_eq_none_iff.mpr fun p hp => hne p
          (by have := List.mem_range.mp hp; omega)
      rw [hnone, List.findSome?_singleton, ← hon, hx]
      rfl

/-- The credits that return for a packet that has left its buffer: those of a Spoke port's. -/
def Transit.credits (h : Transit) : List Egress := if h.src < 12 then [.credit h.src (h.pkt.vc * 2 + h.cls) h.pkt.beats] else []

theorem State.giveCredit_sent (s : State) (h : Transit) : s.giveCredit h.src h.pkt h.cls = { s with sent := s.sent ++ h.credits } := by
  unfold State.giveCredit Transit.credits
  split
  · rfl
  · rw [List.append_nil]

section
variable (s : State) (h : Transit) (o k : Nat) (hheld : s.rt.held = [h]) (houts : h.outs = [(o, k)])
include hheld houts

theorem State.eligible_alone (hcredit : s.hasCredit h (o, k) = true) : s.eligible o = [(0, 4 * h.src + h.pkt.vc, k)] := by
  unfold State.eligible State.canSend
  simp [hheld, houts, hcredit]

theorem State.eligible_other (p : Nat) (hp : p ≠ o) : s.eligible p = [] := by
  unfold State.eligible
  simp [hheld, houts, Ne.symm hp]

/-- A packet alone, bound for a port that is READY, leaves whole where the buffer beyond has credit for it, and frees its own buffer. -/
theorem State.pumpAll_alone (ho : o < 12) (hready : s.unitReady (entPort o) = true) (hloc : h.loc = false)
    (hcredit : s.hasCredit h (o, k) = true) :
    ∃ credit rr beats, s.pumpAll = { s with
      sent := s.sent ++ [.packet o k h.pkt] ++ h.credits
      rt := { s.rt with
        held := [], credit := credit, rr := rr, beats := beats, out := s.rt.out ++ [⟨o, h.pkt.vc * 2 + k, h.pkt.tag, h.pkt.beats⟩] } } :=
            by
  have hfuel : s.rt.held.foldl (fun n h => n + h.outs.length) 0 = 1 := by
    rw [hheld]
    simp [houts]
  have hkeep : (s.forN 12 fun s p => if s.rt.held.any (fun h => h.outs.any fun o => o.1 == p) && !s.unitReady (entPort p) then s.dropFor p
      else s) = s := by
    refine List.foldl_fixed' (fun p => if_neg ?_) _
    by_cases hp : p = o
    · rw [hp, hready]
      simp
    · simp [hheld, houts, Ne.symm hp]
  have hgrant : (List.range 12).findSome? (fun p => (s.grant p).map fun g => (p, g)) = some (o, 0, 4 * h.src + h.pkt.vc, k) := by
    refine findSome_range_unique 12 o _ _ ho ?_ fun p hp => ?_
    · rw [State.grant, s.eligible_alone h o k hheld houts hcredit]
      rfl
    · rw [State.grant, s.eligible_other h o k hheld houts p hp]
      rfl
  have hnote : s.noteOutbid o 0 = s := by
    unfold State.noteOutbid
    rw [s.eligible_alone h o k hheld houts hcredit]
    rfl
  have hsend : ∃ credit rr beats, s.sendOut o 0 (4 * h.src + h.pkt.vc) k = { s with
      sent := s.sent ++ [.packet o k h.pkt] ++ h.credits
      rt := { s.rt with
        held := [], credit := credit, rr := rr, beats := beats, out := s.rt.out ++ [⟨o, h.pkt.vc * 2 + k, h.pkt.tag, h.pkt.beats⟩] } } :=
            by
    have h0 : s.rt.held[0]? = some h := by rw [hheld]; rfl
    have hfilter : (h.outs.filter fun x => x.1 != o) = [] := by rw [houts]; simp
    unfold State.sendOut
    rw [h0]
    dsimp only
    rw [hfilter]
    simp only [List.length_nil, hloc, and_self, if_true]
    have herase : s.rt.held.eraseIdx 0 = [] := by rw [hheld]; rfl
    rw [State.giveCredit_sent, herase]
    exact ⟨_, _, _, rfl⟩
  obtain ⟨credit, rr, beats, hsend⟩ := hsend
  refine ⟨credit, rr, beats, ?_⟩
  rw [State.pumpAll, hfuel]
  have hpump : State.pump 1 s = s.sendOut o 0 (4 * h.src + h.pkt.vc) k := by
    rw [State.pump_sends 0 s _ _ _ _ hkeep hgrant, hnote]
    rfl
  rw [hpump, hsend]
  exact State.starved_empty _ rfl

end

/-! ## Units of ports -/

theorem State.unitReady_port (s : State) (p : Nat) (hp : p < 14) : s.unitReady (entPort p) =
    (s.get (F.UNIT_STATE_STATE (entPort p)) == 2) := by
  have habs : s.absent (entPort p) = false := by
    unfold State.absent entPort
    rw [if_neg (by omega), if_neg (by simp; omega)]
  rw [State.unitReady, s.unit_present _ habs]
  rfl

/-! ## Routing (R276, R284) -/

theorem routeOut_lt {e coll o k : Nat} (h : routeOut e coll = some (o, k)) : o < 12 := by
  unfold routeOut at h
  generalize (if e / 2 ^ 13 % 2 = 1 ∧ coll % 2 = 1 then e / 2 ^ 8 % 16 else e % 16) = out at h
  dsimp only at h
  split at h
  · next hc =>
    injection h with h
    injection h with ho _
    omega
  · exact absurd h (by simp)

theorem State.notePeak_rt (s : State) (src vc cls : Nat) : ∃ peak, s.notePeak src vc cls = { s with rt := { s.rt with peak := peak } } :=
    by
  unfold State.notePeak
  split <;> exact ⟨_, rfl⟩

/-- A packet joins those held. -/
def State.hold (s : State) (h : Transit) (peak : List Nat) : State :=
    { s with rt := { s.rt with held := s.rt.held ++ [h], peak := peak } }

/-- A packet for this module alone waits. -/
theorem State.pumpAll_waits (s : State) (h : Transit) (hheld : s.rt.held = [h]) (houts : h.outs = []) : s.pumpAll = s := by
  have hfuel : s.rt.held.foldl (fun n h => n + h.outs.length) 0 = 0 := by
    rw [hheld]
    simp [houts]
  have hstarved : s.starvedNow = [] := by
    unfold State.starvedNow
    rw [hheld]
    simp [houts]
  rw [State.pumpAll, hfuel]
  exact (congrArg (fun l => ({ s with rt := { s.rt with starved := union s.rt.starved l } } : State)) hstarved :)

/-- A packet that stays: it is held, and whatever can leave does. -/
theorem State.enqueue_held (s : State) (src cls : Nat) (p : Packet) (outs : List (Nat × Nat)) (loc : Bool)
    (hspec : (loc && p.spec) = false)
    (hstay : outs ≠ [] ∨ loc = true) : ∃ peak, s.enqueue src cls p outs loc
      = (s.hold ⟨src, cls, s.now, p, outs, loc⟩ peak).pumpAll := by
  have hne : ¬ (outs.length = 0 ∧ ((loc && p.spec && s.seq.discarded.contains p.stepTag) = true ∨ loc = false)) := by
    rintro ⟨h0, h | h⟩
    · rw [hspec] at h
      exact absurd h (by simp)
    · rcases hstay with h' | h'
      · exact h' (List.length_eq_zero_iff.mp h0)
      · rw [h] at h'
        exact absurd h' (by simp)
  unfold State.enqueue
  dsimp only
  rw [if_neg hne]
  simp only [hspec, Bool.false_and, Bool.not_false, Bool.and_true, Bool.false_eq_true, if_false]
  obtain ⟨peak, hpeak⟩ := State.notePeak_rt { s with rt := { s.rt with held := s.rt.held ++ [⟨src, cls, s.now, p, outs, loc⟩] } } src p.vc
      cls
  exact ⟨peak, congrArg State.pumpAll hpeak⟩

/-- A packet dropped on its way: counted, recorded, and its credit returned (R283, R284). -/
theorem State.drop_effect (s : State) (f : Field) (hf : f.addr ≠ A.FAULT_LOST) (code unit : Nat) (slow : Bool) (detail : Word) (src : Nat)
    (pkt : Packet) (cls : Nat) (hsrc : src < 12) (t : State)
        (ht : ((s.bump f).faultOnce code unit slow detail).giveCredit src pkt cls = t) :
    t.rt = s.rt ∧ t.sent = s.sent ++ [.credit src (pkt.vc * 2 + cls) pkt.beats] ∧ t.get f = (s.bump f).get f
    ∧ Frame [f.addr, A.FAULT_LOST] s t := by
  have hcredit : t = { (s.bump f).faultOnce code unit slow detail with
      sent := ((s.bump f).faultOnce code unit slow detail).sent ++ [.credit src (pkt.vc * 2 + cls) pkt.beats] } := ht ▸ if_pos hsrc
  have honly := (s.bump f).faultOnce_only code unit slow detail
  have hframe := (s.bump f).faultOnce_frame code unit slow detail
  generalize (s.bump f).faultOnce code unit slow detail = x at honly hframe hcredit
  have hrt : x.rt = s.rt := by rw [honly]; rfl
  have hsent : x.sent = s.sent := by rw [honly]; rfl
  have hx : Frame [f.addr, A.FAULT_LOST] s x := ((Frame.refl _ s).bump f).next hframe (by simp)
  rw [hcredit]
  refine ⟨hrt, by rw [hsent], hframe.get f (by simpa using hf), hx.plain⟩

section
variable (s : State) (p cls : Nat) (pkt : Packet) (hs : s.powered) (hp : p < 12) (hready : s.get (F.UNIT_STATE_STATE (entPort p)) = 2)
include hs hp hready

theorem exec_packetHop (hcheck : pkt.check = 0) : exec (.packetHop p cls pkt) s = .next (s.route p (cls % 2) pkt) := by
  have hlive : execPacketHop p cls pkt s = .next _ := lively_powered s p 12 (packetHop p cls pkt) hp hs.1 hs.2
  refine hlive.trans (congrArg Host.Outcome.next ?_)
  unfold packetHop
  rw [s.unitReady_port p (by omega), hready]
  dsimp only
  rw [if_neg (by simp), if_neg (by simp [hcheck])]

/-- A header that fails its check (R282). -/
theorem packetHop_discards (hcheck : pkt.check ≠ 0) : ∃ t, exec (.packetHop p cls pkt) s = .next t ∧ t.rt = s.rt
    ∧ t.sent = s.sent ++ [.credit p (pkt.vc * 2 + cls % 2) pkt.beats]
    ∧ t.get F.RT_STAT_HDR_CHECK = (s.bump F.RT_STAT_HDR_CHECK).get F.RT_STAT_HDR_CHECK ∧ regsBut [A.RT_STAT, A.FAULT_LOST] s t
    ∧ sameBytes s t := by
  have hlive : execPacketHop p cls pkt s = .next _ := lively_powered s p 12 (packetHop p cls pkt) hp hs.1 hs.2
  refine ⟨_, hlive, ?_⟩
  unfold packetHop
  rw [s.unitReady_port p (by omega), hready]
  dsimp only
  rw [if_neg (by simp), if_pos hcheck]
  obtain ⟨hrt, hsent, hcount, hframe⟩ := s.drop_effect F.RT_STAT_HDR_CHECK (by decide) 0x0502 (unitPort p) false _ p pkt (cls % 2) hp _
      rfl
  exact ⟨hrt, hsent, hcount, hframe.regs, hframe.bytes⟩

/-- A packet whose tag no bank has (R276). -/
theorem packetHop_stale (hcheck : pkt.check = 0) (hbank : s.bankOfTag pkt.tag = none) : ∃ t, exec (.packetHop p cls pkt) s = .next t
    ∧ t.rt = s.rt ∧ t.sent = s.sent ++ [.credit p (pkt.vc * 2 + cls % 2) pkt.beats]
    ∧ t.get F.RT_STAT_EPOCH_STALE = (s.bump F.RT_STAT_EPOCH_STALE).get F.RT_STAT_EPOCH_STALE ∧ regsBut [A.RT_STAT, A.FAULT_LOST] s t
    ∧ sameBytes s t := by
  refine ⟨_, exec_packetHop s p cls pkt hs hp hready hcheck, ?_⟩
  unfold State.route
  rw [hbank]
  dsimp only
  obtain ⟨hrt, hsent, hcount, hframe⟩ := s.drop_effect F.RT_STAT_EPOCH_STALE (by decide) 0x0503 (fabricUnit p) false _ p pkt (cls % 2) hp
      _ rfl
  exact ⟨hrt, hsent, hcount, hframe.regs, hframe.bytes⟩

/-- A packet for this module waits for its unit (R279). -/
theorem packetHop_local (b : Nat) (hcheck : pkt.check = 0) (hbank : s.bankOfTag pkt.tag = some b) (hmc : pkt.mcast = false)
    (hdst : pkt.dst = s.get F.RT_NODE_ID_ID) (hvalid : s.get F.RT_NODE_ID_VALID = 1) (hspec : pkt.spec = false) (hheld : s.rt.held = []) :
    ∃ t, exec (.packetHop p cls pkt) s = .next t ∧ t.rt.held = [⟨p, cls % 2, s.now, pkt, [], true⟩] ∧ t.sent = s.sent
      ∧ t.rt.credit = s.rt.credit ∧ (∀ a, t.reg a = s.reg a) ∧ sameBytes s t := by
  obtain ⟨peak, henq⟩ := s.enqueue_held p (cls % 2) pkt [] true (by simp [hspec]) (.inr rfl)
  have hroute : s.route p (cls % 2) pkt = (s.hold ⟨p, cls % 2, s.now, pkt, [], true⟩ peak).pumpAll := by
    unfold State.route
    rw [hbank]
    dsimp only
    rw [if_neg (by simp [hmc]), if_pos ⟨hdst, by simp [State.on, hvalid]⟩, henq]
  have hone : (s.hold ⟨p, cls % 2, s.now, pkt, [], true⟩ peak).rt.held = [⟨p, cls % 2, s.now, pkt, [], true⟩] := by
    simp [State.hold, hheld]
  refine ⟨_, exec_packetHop s p cls pkt hs hp hready hcheck, ?_⟩
  rw [hroute, State.pumpAll_waits _ _ hone rfl]
  exact ⟨hone, rfl, rfl, fun a => State.reg_congr a rfl rfl rfl rfl, sameBytes_of_mems rfl⟩

/-- A packet for another module leaves (R276, R284). -/
theorem packetHop_forwards (b o k : Nat) (hcheck : pkt.check = 0) (hbank : s.bankOfTag pkt.tag = some b) (hmc : pkt.mcast = false)
    (hdst : pkt.dst ≠ s.get F.RT_NODE_ID_ID) (hroute : routeOut (s.routeEntry b pkt.dst) pkt.coll = some (o, k)) (hop : o ≠ p)
    (hoready : s.get (F.UNIT_STATE_STATE (entPort o)) = 2) (hheld : s.rt.held = [])
    (hbeats : pkt.beats ≤ (s.rt.credit.getD o []).getD (pkt.vc * 2 + k) 0) : ∃ t, exec (.packetHop p cls pkt) s = .next t
      ∧ t.sent = s.sent ++ [.packet o k pkt, .credit p (pkt.vc * 2 + cls % 2) pkt.beats] ∧ t.rt.held = []
      ∧ t.rt.out = s.rt.out ++ [⟨o, pkt.vc * 2 + k, pkt.tag, pkt.beats⟩] ∧ (∀ a, t.reg a = s.reg a) ∧ sameBytes s t := by
  have ho := routeOut_lt hroute
  obtain ⟨peak, henq⟩ := s.enqueue_held p (cls % 2) pkt [(o, k)] false rfl (.inl (by simp))
  obtain ⟨h, hh⟩ : ∃ h : Transit, h = ⟨p, cls % 2, s.now, pkt, [(o, k)], false⟩ := ⟨_, rfl⟩
  rw [← hh] at henq
  have hroute : s.route p (cls % 2) pkt = (s.hold h peak).pumpAll := by
    unfold State.route
    rw [hbank]
    dsimp only
    rw [if_neg (by simp [hmc]), if_neg (fun hd => hdst hd.1), hroute]
    dsimp only
    rw [if_neg hop, henq]
  have hone : (s.hold h peak).rt.held = [h] := by
    simp [State.hold, hheld]
  have hregs (a : Nat) : (s.hold h peak).reg a = s.reg a := State.reg_congr a rfl rfl rfl rfl
  have hready' : (s.hold h peak).unitReady (entPort o) = true := by
    rw [State.unitReady_port _ o (by omega), State.get_congr _ (hregs _), hoready]
    rfl
  have hcredit : (s.hold h peak).hasCredit h (o, k) = true := by
    rw [hh]
    exact decide_eq_true hbeats
  obtain ⟨credit, rr, beats, hpump⟩ := (s.hold h peak).pumpAll_alone h o k hone (by rw [hh]) ho hready' (by rw [hh]) hcredit
  refine ⟨_, exec_packetHop s p cls pkt hs hp hready hcheck, ?_⟩
  rw [hroute, hpump]
  have hcredits : h.credits = [.credit p (pkt.vc * 2 + cls % 2) pkt.beats] := by
    rw [hh]
    exact if_pos hp
  have hpkt : h.pkt = pkt := by rw [hh]
  rw [hcredits, hpkt]
  exact ⟨List.append_assoc _ _ _, rfl, rfl, fun a => State.reg_congr a rfl rfl rfl rfl, sameBytes_of_mems rfl⟩

end

/-- CREDIT_RETURN with nothing held (R284, R295). -/
theorem exec_creditReturn (s : State) (p buf n : Nat) (hs : s.powered) (hp : p < 12) (hbuf : buf < 8) (hheld : s.rt.held = []) :
    exec (.creditReturn p buf n) s = .next { s with rt := { s.rt with
      credit := s.rt.credit.set p ((s.rt.credit.getD p []).set buf (min 34 ((s.rt.credit.getD p []).getD buf 0 + n)))
      out := payBack p buf n s.rt.out } } := by
  have hlive : execCreditReturn p buf n s = .next _ :=
    lively_powered s p 12 (fun s => if buf < 8 then creditReturn p buf n s else s) hp hs.1 hs.2
  refine hlive.trans (congrArg Host.Outcome.next ?_)
  rw [if_pos hbuf]
  exact State.pumpAll_empty _ hheld

/-- A packet too old is dropped (R288). -/
theorem ageLimit_drops (s : State) (p : Nat) (h : Transit) (hs : s.powered) (hp : p < 12) (hheld : s.rt.held = [h]) (hsrc : h.src = p)
    (hage : h.tick + max 1 (s.get (F.RT_AGE_A h.pkt.vc)) ≤ s.now) : ∃ t, exec (.ageLimit p 0) s = .next t ∧ t.rt =
        { s.rt with held := [] }
      ∧ t.get F.RT_DROP_AGE = (s.bump F.RT_DROP_AGE).get F.RT_DROP_AGE ∧ t.sent = s.sent ++ [.credit p (h.pkt.vc * 2 + h.cls) h.pkt.beats]
      ∧ regsBut [A.RT_DROP, A.FAULT_LOST] s t ∧ sameBytes s t := by
  have hlive : execAgeLimit p 0 s = .next _ := lively_powered s p 16 (ageLimit p 0) (by omega) hs.1 hs.2
  refine ⟨_, hlive, ?_⟩
  have hmine : ((List.range s.rt.held.length).filter fun k => ((s.rt.held[k]?).map (·.src)) == some p)[0]? = some 0 := by
    simp [hheld, hsrc, List.range_succ]
  have h0 : s.rt.held[0]? = some h := by
    rw [hheld]
    rfl
  obtain ⟨x, hx⟩ : ∃ x : State, { s with rt := { s.rt with held := s.rt.held.eraseIdx 0 } } = x := ⟨_, rfl⟩
  have hheldx : s.rt.held.eraseIdx 0 = [] := by
    rw [hheld]
    rfl
  have hxrt : x.rt = { s.rt with held := [] } := by rw [← hx, ← hheldx]
  have hxs : Frame [A.RT_DROP, A.FAULT_LOST] s x := by
    rw [← hx]
    exact (Frame.refl _ s).plain
  have hage' : ageLimit p 0 s = (((x.bump F.RT_DROP_AGE).transitDrop p 1 h.pkt.vc 1).giveCredit p h.pkt h.cls).pumpAll := by
    unfold ageLimit
    dsimp only
    rw [hmine]
    dsimp only
    rw [h0]
    dsimp only
    rw [if_neg (by omega), hx]
  obtain ⟨hrt, hsent, hcount, hframe⟩ := x.drop_effect F.RT_DROP_AGE (by decide) _ _ _ _ p h.pkt h.cls hp
    (((x.bump F.RT_DROP_AGE).transitDrop p 1 h.pkt.vc 1).giveCredit p h.pkt h.cls) rfl
  have hpump := State.pumpAll_empty _
      (by rw [hrt, hxrt] : (((x.bump F.RT_DROP_AGE).transitDrop p 1 h.pkt.vc 1).giveCredit p h.pkt h.cls).rt.held = [])
  rw [hage', hpump]
  refine ⟨hrt.trans hxrt, hcount.trans ?_, hsent.trans (by rw [← hx]), regsBut_trans hxs.regs hframe.regs, (hxs.trans hframe).bytes⟩
  exact State.get_bump_congr s x _ rfl (by rw [← hx]; rfl)

/-- Settles O47: a packet is dropped, waits alone, or is the one that the pump sends. -/
theorem packetRouting : Obligations.PacketRouting := by
  unfold Obligations.PacketRouting
  intro s p cls pkt hs hp hready credit
  refine ⟨packetHop_discards s p cls pkt hs hp hready, fun b hcheck hbank hmc hdst hvalid hspec hheld => ?_,
    fun b o k hcheck hbank hmc hdst hroute hop hoready hheld hbeats => ?_, packetHop_stale s p cls pkt hs hp hready,
    fun buf n hbuf hheld => exec_creditReturn s p buf n hs hp hbuf hheld,
    fun h hheld hsrc hage => ageLimit_drops s p h hs hp hheld hsrc hage⟩
  · exact packetHop_local s p cls pkt hs hp hready b hcheck hbank hmc hdst hvalid hspec hheld
  · exact packetHop_forwards s p cls pkt hs hp hready b o k hcheck hbank hmc hdst hroute hop hoready hheld hbeats

end Sys2Proof.Machine

/-! Banks of the routing table, and what an operation on one port leaves (O48). -/
namespace Sys2Proof.Machine

/-! ## What an operation on one port touches -/

/-- A register outside the page of port `p`, and none of those in which the module shows a unit's state. -/
def offPage (p a : Nat) : Prop :=
  (a < optReg p ∨ optReg p + 0x1000 ≤ a) ∧ a ≠ A.UNIT_STATE (entPort p) ∧ a ≠ A.MGMT_ERR ∧ a ≠ A.ALERT_CAUSE

/-- What an operation on port `p` leaves of the registers, from state `o` on. -/
structure PageOp (p : Nat) (o s : State) : Prop where
  regs : ∀ a, offPage p a → s.reg a = o.reg a

theorem State.setUnit_portFrame (s : State) (p st : Nat) (hp : p < 14) :
    Frame [A.UNIT_STATE (entPort p), A.MGMT_ERR, A.ALERT_CAUSE] s (s.setUnit (entPort p) st) := by
  have hfollow : (s.set (F.UNIT_STATE_STATE (entPort p)) st).reFollow (entPort p) st = s.set (F.UNIT_STATE_STATE (entPort p)) st :=
    if_pos (.inl (by unfold entPort; omega))
  have h1 : Frame [A.UNIT_STATE (entPort p), A.MGMT_ERR, A.ALERT_CAUSE] s (s.set (F.UNIT_STATE_STATE (entPort p)) st) :=
    (Frame.refl _ s).set _ _
  unfold State.setUnit
  rw [hfollow]
  exact (h1.next (State.post_frame _ _ _) (by simp)).next (State.colokAlert_frame _ _) (by simp)

namespace PageOp

theorem refl (p : Nat) (s : State) : PageOp p s s := ⟨fun _ _ => rfl⟩

theorem trans {p : Nat} {o s t : State} (h : PageOp p o s) (h' : PageOp p s t) : PageOp p o t :=
  ⟨fun a ha => (h'.regs a ha).trans (h.regs a ha)⟩

theorem ite {p : Nat} {o s t : State} {c : Prop} [Decidable c] (hs : PageOp p o s) (ht : PageOp p o t) : PageOp p o
    (if c then s else t) := by
  split
  · exact hs
  · exact ht

theorem foldl {p : Nat} {o : State} {α : Type} (f : State → α → State) (l : List α) (hf : ∀ s, ∀ a ∈ l, PageOp p o s → PageOp p o (f s a))
    {s : State} (hs : PageOp p o s) : PageOp p o (l.foldl f s) :=
  l.foldlRecOn f (motive := PageOp p o) hs fun s hs a ha => hf s a ha hs

section
variable {p : Nat} {o s : State} (hs : PageOp p o s)
include hs

theorem get (f : Field) (hf : offPage p f.addr) : s.get f = o.get f := State.get_congr f (hs.regs _ hf)

theorem frame {l : List Nat} {t : State} (h : Frame l s t) (hl : ∀ a ∈ l, ¬ offPage p a) : PageOp p o t :=
  hs.trans ⟨fun a ha => h.regs a fun hmem => hl a hmem ha⟩

theorem setReg (k : Nat) (w : Word) (hk : k < 0x1000) : PageOp p o (s.setReg (optReg p + k) w) :=
  hs.trans ⟨fun a ha => State.reg_setReg_ne _ _ _ _ fun e => by
    rcases ha.1 with h | h <;> omega⟩

/-- A field of the port's own page. -/
theorem set (f : Field) (v k : Nat) (hf : f.addr = optReg p + k) (hk : k < 0x1000) : PageOp p o (s.set f v) := by
  rw [State.set, hf]
  exact hs.setReg k _ hk

theorem plain {mgmt : Mgmt} {colok : List ColokPort} {opt : List Optic} {rt : Router} {sent : List Egress} {freeCtr : Nat} {pwr : Power} :
    PageOp p o { s with mgmt := mgmt, colok := colok, opt := opt, rt := rt, sent := sent, freeCtr := freeCtr, pwr := pwr } :=
  hs.trans ⟨fun a _ => State.reg_congr a rfl rfl rfl rfl⟩

theorem modOptic (q : Nat) (f : Optic → Optic) : PageOp p o (s.modOptic q f) := hs.plain

theorem setPhase (n : Nat) : PageOp p o (s.setPhase p n) := (hs.set _ _ 0x10 rfl (by omega)).modOptic _ _

theorem cage (q : Nat) (on : Bool) : PageOp p o (s.cage q on) := hs.plain

theorem portFresh (q : Nat) : PageOp p o (s.portFresh q) := hs.plain

theorem setUnit (st : Nat) (hp : p < 14) : PageOp p o (s.setUnit (entPort p) st) :=
  hs.frame (s.setUnit_portFrame p st hp) fun a ha ⟨_, h1, h2, h3⟩ => by
    simp only [List.mem_cons, List.not_mem_nil, or_false] at ha
    rcases ha with h | h | h <;> contradiction

theorem post (die : Nat) (e : Event) : PageOp p o (s.post die e) :=
  hs.frame (s.post_frame die e) fun _ ha h => h.2.2.1 (List.mem_singleton.mp ha)

theorem linkDown : PageOp p o (s.linkDown p) := by
  have h1 : PageOp p o (if p < 12 then s.set (F.SPK_CAD_DELAY_VALID p) 0 else s.colokDrop (p - 12)) := by
    split
    · exact hs.set _ _ 0 rfl (by omega)
    · next h =>
      have hpage : optReg p = colokReg (p - 12) := if_neg h
      have hseq : A.COLOK_SEQ (p - 12) = optReg p + 0x810 := by rw [hpage]; rfl
      unfold State.colokDrop State.setCk
      dsimp only
      rw [hseq]
      exact ((hs.plain.setReg _ _ (by omega)).set _ _ 0x808 (by rw [hpage]; rfl) (by omega))
  exact (h1.post _ _).ite h1

theorem spareOff : PageOp p o (s.spareOff p) := ((hs.set _ _ 0x10 rfl (by omega)).plain).ite hs

theorem ring (r v : Nat) (hr : r < 18) : PageOp p o (s.set (ringLocked p r) v) := by
  unfold ringLocked
  split
  · exact hs.set _ _ (0x180 + 0x8 * r) (Nat.add_assoc _ _ _) (by omega)
  · exact hs.set _ _ (0x200 + 0x8 * (r - 9)) (Nat.add_assoc _ _ _) (by omega)

theorem lane (f : Field) (l v : Nat) (hf : f.addr = A.LANE_STATE p l) (hl : l < 9) : PageOp p o (s.set f v) :=
  hs.set _ _ (0x100 + 0x8 * l) (hf.trans (Nat.add_assoc _ _ _)) (by omega)

theorem opticsFresh : PageOp p o (s.opticsFresh p) := by
  have hlanes : ∀ l ∈ List.range (laneCount p), l < 9 := fun l hl => by
    have hle : laneCount p ≤ 9 := by
      unfold laneCount
      split <;> omega
    exact (List.mem_range.mp hl).trans_le hle
  unfold State.opticsFresh
  extract_lets s1 s2 s3
  have h1 : PageOp p o s1 := foldl _ _ (fun s l hl hs => (((hs.lane _ l _ rfl (hlanes l hl)).lane _ l _ rfl (hlanes l hl)).ring l _
    (by have := hlanes l hl; omega)).ring (l + 9) _ (by have := hlanes l hl; omega)) hs
  have h2 : PageOp p o s2 := ((h1.set _ _ 0x10 rfl (by omega)).set _ _ 0x10 rfl (by omega)).set _ _ 0x10 rfl (by omega)
  have h3 : PageOp p o s3 := ((h2.set _ _ 0x70 rfl (by omega)).ite h2).set _ _ 0x48 rfl (by omega)
  exact h3.modOptic _ _

end
end PageOp

/-! ### A unit of a port -/

/-- The state of a port's unit, after a change of it. -/
theorem State.unit_port (s : State) (p : Nat) (hp : p < 14) : s.unit (entPort p) = s.get (F.UNIT_STATE_STATE (entPort p)) := by
  have habs : s.absent (entPort p) = false := by
    unfold State.absent entPort
    rw [if_neg (by omega), if_neg (by simp; omega)]
  exact s.unit_present _ habs

theorem State.setUnit_port (s : State) (p st : Nat) (hp : p < 14) (hst : st < 8) :
    (s.setUnit (entPort p) st).get (F.UNIT_STATE_STATE (entPort p)) = st :=
  s.setUnit_state _ _ (by unfold entPort; omega) hst

theorem portUnit_addr (p : Nat) (hp : p < 14) : 0x300000000200 ≤ A.UNIT_STATE (entPort p) ∧ A.UNIT_STATE (entPort p) < 0x300000000800 :=
    by
  simp only [A.UNIT_STATE, pageReg, entPort]
  omega

theorem portUnit_ne (p a : Nat) (hp : p < 14) (ha : a < 0x300000000200 ∨ 0x300000000800 ≤ a) :
    (F.UNIT_STATE_STATE (entPort p)).addr ≠ a := by
  have h := portUnit_addr p hp
  change A.UNIT_STATE (entPort p) ≠ a
  omega

theorem portUnit_drop (p : Nat) (hp : p < 14) : (F.UNIT_STATE_STATE (entPort p)).addr ∉ [A.RT_DROP, A.FAULT_LOST] := by
  simp only [List.mem_cons, List.not_mem_nil, or_false, not_or]
  exact ⟨portUnit_ne p _ hp (by decide), portUnit_ne p _ hp (by decide)⟩

theorem optReg_low (p : Nat) : 0x300000010000 ≤ optReg p := by
  simp only [optReg, spkReg, colokReg]
  split <;> omega

/-- The router and the fault ring lie off every port's page. -/
theorem offPage_drop (p : Nat) (hp : p < 14) : offPage p A.RT_DROP := by
  have h1 := (portUnit_addr p hp).2
  refine ⟨.inr ?_, fun e => ?_, by decide, by decide⟩
  · interval_cases p <;> decide
  · rw [← e] at h1
    exact absurd h1 (by decide)

/-- A field of a port's unit word that a change of its state leaves. -/
theorem State.setUnit_portField (s : State) (p st : Nat) (f : Field) (hp : p < 14) (hf : f.addr = A.UNIT_STATE (entPort p))
    (hapart : (F.UNIT_STATE_STATE (entPort p)).apart f = true) : (s.setUnit (entPort p) st).get f = s.get f := by
  obtain ⟨-, h2, h3⟩ : f.addr ∉ [A.RE_STATUS 0] ∧ f.addr ∉ [A.MGMT_ERR] ∧ f.addr ∉ [A.ALERT_CAUSE] := by
    rw [hf]
    simpa only [List.mem_cons, List.not_mem_nil, or_false, not_or] using unitState_apart (entPort p) (by unfold entPort; omega) 0
  have hfollow : (s.set (F.UNIT_STATE_STATE (entPort p)) st).reFollow (entPort p) st = s.set (F.UNIT_STATE_STATE (entPort p)) st :=
    if_pos (.inl (by unfold entPort; omega))
  unfold State.setUnit
  rw [hfollow, (State.colokAlert_frame _ _).get _ h3, (State.post_frame _ _ _).get _ h2]
  exact State.get_set_apart _ _ _ _ hapart

/-! ### A field that copies dropped for a port leave -/

/-- A field of RT_DROP but the count of copies dropped for a port that is not READY, or of another register. -/
def offDrop (f : Field) : Prop := F.RT_DROP_PORT_DOWN.apart f = true ∧ f.addr ≠ A.FAULT_LOST

theorem State.faultOnce_get (s : State) (code unit : Nat) (slow : Bool) (detail : Word) (f : Field) (hf : f.addr ≠ A.FAULT_LOST) :
    (s.faultOnce code unit slow detail).get f = s.get f :=
  (s.faultOnce_frame code unit slow detail).get f (by simpa using hf)

theorem State.giveCredits_get (s : State) (l : List Transit) (f : Field) :
    (l.foldl (fun s h => s.giveCredit h.src h.pkt h.cls) s).get f = s.get f := by
  refine List.foldlRecOn (motive := fun t : State => t.get f = s.get f) _ _ rfl fun t ht h _ => ?_
  exact ((t.giveCredit_frame [] h.src h.pkt h.cls).get f List.not_mem_nil).trans ht

theorem State.get_setHeld (s : State) (l : List Transit) (f : Field) : ({ s with rt := { s.rt with held := l } } : State).get f = s.get
    f :=
  State.get_congr f (State.reg_congr _ rfl rfl rfl rfl)

theorem State.dropFor_get (s : State) (p : Nat) (f : Field) (hf : offDrop f) : (s.dropFor p).get f = s.get f := by
  unfold State.dropFor
  dsimp only
  rw [State.giveCredits_get, State.get_setHeld, State.transitDrop, State.faultOnce_get _ _ _ _ _ f hf.2]
  exact State.get_set_apart _ _ _ _ hf.1

theorem State.noteOutbid_get (s : State) (p i : Nat) (f : Field) : (s.noteOutbid p i).get f = s.get f :=
  State.get_congr f (State.reg_congr _ rfl rfl rfl rfl)

theorem State.starved_get (s : State) (f : Field) :
    ({ s with rt := { s.rt with starved := union s.rt.starved s.starvedNow } } : State).get f = s.get f :=
  State.get_congr f (State.reg_congr _ rfl rfl rfl rfl)

theorem State.pumpAll_get (s : State) (f : Field) (hf : offDrop f) : s.pumpAll.get f = s.get f := by
  have hpump : ∀ n, (State.pump n s).get f = s.get f := fun n =>
    State.pump_induct (fun t => t.get f = s.get f) (fun t p h => (t.dropFor_get p f hf).trans h)
      (fun t p i r cls h => ((State.sendOut_frame [] _ p i r cls).get f List.not_mem_nil).trans ((t.noteOutbid_get p i f).trans h)) n s
          rfl
  unfold State.pumpAll
  dsimp only
  rw [State.starved_get, hpump]


/-! ## Banks of the routing table (R292 to R294) -/

/-- The fields of a bank in RT_BANK_STATUS. -/
def bankStateField (b : Nat) : Field := if b = 0 then F.RT_BANK_STATUS_B0_STATE else F.RT_BANK_STATUS_B1_STATE
def bankTagField (b : Nat) : Field := if b = 0 then F.RT_BANK_STATUS_B0_TAG else F.RT_BANK_STATUS_B1_TAG

theorem State.bankState_eq (s : State) (b : Nat) : s.bankState b = s.get (bankStateField b) := rfl
theorem State.bankTag_eq (s : State) (b : Nat) : s.bankTag b = s.get (bankTagField b) := rfl
theorem State.setBank_eq (s : State) (b st : Nat) : s.setBank b st = s.set (bankStateField b) st := rfl

theorem bankFields_apart : ∀ b < 2, (bankStateField b).apart (bankStateField (1 - b)) = true ∧ (bankStateField b).apart
    (bankTagField (1 - b)) = true
    ∧ (bankTagField b).apart (bankStateField (1 - b)) = true ∧ (bankTagField b).apart (bankTagField (1 - b)) = true
    ∧ (bankTagField b).apart (bankStateField b) = true ∧ (bankStateField b).apart (bankTagField b) = true := by
  decide

theorem bankField_addr : ∀ b, (bankStateField b).addr = A.RT_BANK_STATUS ∧ (bankTagField b).addr = A.RT_BANK_STATUS := by
  intro b
  unfold bankStateField bankTagField
  split <;> exact ⟨rfl, rfl⟩

theorem bankField_fits : ∀ b < 2, ∀ v < 4, (bankStateField b).fits v = true ∧ (bankTagField b).fits v = true := by decide


/-! ### The send epoch (R292, R294) -/

theorem find_bank (P : Nat → Bool) (b : Nat) (hb : b < 2) (h : P b = true) (h' : P (1 - b) = false) : (List.range 2).find? P = some b :=
    by
  have hr : List.range 2 = [0, 1] := rfl
  rw [hr]
  interval_cases b
  · exact List.find?_cons_of_pos h
  · rw [List.find?_cons_of_neg (by simpa using h')]
    exact List.find?_cons_of_pos h

/-- The switch at its slot to a bank that is LIVE with the tag: the bank of the old epoch retires. -/
theorem sendSwitch_effect (s : State) (b : Nat) (hb : b < 2) (hdue : s.stagedDue A.RT_SEND_ACT = true) (hlive : s.bankState b = 1)
    (htag : s.bankTag b = s.get F.RT_SEND_NEXT_EPOCH) (hother : s.bankTag (1 - b) ≠ s.bankTag b) (hsend : s.sendBank = some (1 - b))
    (t : State) (ht : sendSwitch s = t) :
    t.get F.RT_BANK_STATUS_SEND_EPOCH = s.bankTag b ∧ t.get F.RT_BANK_STATUS_SEND_VALID = 1 ∧ t.bankState (1 - b) = 2 ∧ t.bankState b = 1
      ∧ bits (t.reg A.RT_SEND_ACT) 63 63 = 0 ∧ Frame [A.RT_BANK_STATUS, A.RT_SEND_ACT] s t := by
  obtain ⟨s1, hs1⟩ : ∃ s1, s.stagedDone A.RT_SEND_ACT = s1 := ⟨_, rfl⟩
  have hget (f : Field) (hf : f.addr ≠ A.RT_SEND_ACT) : s1.get f = s.get f := hs1 ▸ s.get_stagedDone_ne _ f hf
  have hbank (f : Field) (hf : f.addr = A.RT_BANK_STATUS) : s1.get f = s.get f := hget f (by rw [hf]; decide)
  have hstate (c : Nat) : s1.bankState c = s.bankState c := hbank _ (bankField_addr c).1
  have htags (c : Nat) : s1.bankTag c = s.bankTag c := hbank _ (bankField_addr c).2
  have hsend1 : s1.sendBank = some (1 - b) := by
    rw [← hsend]
    simp only [State.sendBank, State.bankOfTag, State.on, hstate, htags, hbank _ (rfl : F.RT_BANK_STATUS_SEND_VALID.addr = _),
      hbank _ (rfl : F.RT_BANK_STATUS_SEND_EPOCH.addr = _)]
    rfl
  have hnext : s1.get F.RT_SEND_NEXT_EPOCH = s.bankTag b := (hget _ (by decide)).trans htag.symm
  have hfind : (List.range 2).find? (fun c => s1.bankState c == 1 && s1.bankTag c == s1.get F.RT_SEND_NEXT_EPOCH) = some b := by
    refine find_bank _ b hb ?_ ?_
    · rw [hstate, htags, hlive, hnext]
      simp
    · rw [htags, hnext]
      simp [hother]
  obtain ⟨x, hx⟩ : ∃ x, ({ s1.setBank (1 - b) 2 with rt := { s1.rt with life := s1.rt.life.set (1 - b) s1.slot } } : State) = x :=
      ⟨_, rfl⟩
  obtain ⟨y, hy⟩ : ∃ y, (x.set F.RT_BANK_STATUS_SEND_EPOCH (s.bankTag b)).set F.RT_BANK_STATUS_SEND_VALID 1 = y := ⟨_, rfl⟩
  have heq : t = { y with rt := { y.rt with used := y.rt.used.set b true } } := by
    rw [← ht, ← hy, ← hx]
    unfold sendSwitch
    rw [if_neg (by rw [hdue]; decide), hs1]
    dsimp only
    rw [hfind]
    dsimp only
    rw [hsend1, hnext]
    dsimp only
    rw [if_neg (by omega)]
  have hframe1 : Frame [A.RT_BANK_STATUS, A.RT_SEND_ACT] s s1 := hs1 ▸ (Frame.refl _ s).stagedDone _ (by simp)
  have hframex : Frame [A.RT_BANK_STATUS, A.RT_SEND_ACT] s1 x := by
    rw [← hx, State.setBank_eq]
    exact ((Frame.refl _ s1).set _ _ (by simp [(bankField_addr (1 - b)).1])).plain
  have hframey : Frame [A.RT_BANK_STATUS] x y := hy ▸ ((Frame.refl _ x).set _ _).set _ _
  have hstatex (c : Nat) (hc : c < 2) : y.bankState c = x.bankState c := by
    have h : ∀ c < 2, F.RT_BANK_STATUS_SEND_VALID.apart (bankStateField c) = true ∧ F.RT_BANK_STATUS_SEND_EPOCH.apart (bankStateField c) =
        true := by
      decide
    rw [State.bankState_eq, ← hy, State.get_set_apart _ _ _ _ (h c hc).1, State.get_set_apart _ _ _ _ (h c hc).2]
    rfl
  have hx' (f : Field) : x.get f = (s1.set (bankStateField (1 - b)) 2).get f := by
    rw [← hx]
    exact State.get_congr f (State.reg_congr _ rfl rfl rfl rfl)
  have hty (f : Field) : t.get f = y.get f := heq ▸ State.get_congr f (State.reg_congr _ rfl rfl rfl rfl)
  have hpart := bankFields_apart (1 - b) (by omega)
  rw [show 1 - (1 - b) = b by omega] at hpart
  refine ⟨?_, ?_, ?_, ?_, ?_, ?_⟩
  · rw [hty, ← hy, State.get_set_apart _ _ _ _ rfl, State.get_set_self _ _ _ (by decide) (by decide), State.bankTag_eq]
    have h : ∀ c < 2, (bankTagField c).hi + 1 - (bankTagField c).lo = 2 := by decide
    exact Nat.mod_eq_of_lt (by have := s.get_lt (bankTagField b); rw [h b hb] at this; exact this)
  · rw [hty, ← hy]
    exact State.get_set_fits _ _ _ rfl
  · rw [State.bankState_eq, hty, ← State.bankState_eq, hstatex _ (by omega), State.bankState_eq, hx']
    exact State.get_set_fits _ _ _ (bankField_fits _ (by omega) 2 (by omega)).1
  · rw [State.bankState_eq, hty, ← State.bankState_eq, hstatex _ hb, State.bankState_eq, hx', State.get_set_apart _ _ _ _ hpart.1,
      ← State.bankState_eq, hstate, hlive]
  · have hreg : t.reg A.RT_SEND_ACT = s1.reg A.RT_SEND_ACT := by
      rw [heq, ← hs1]
      refine (State.reg_congr _ rfl rfl rfl rfl).trans ((hframey.regs _ (by decide)).trans ?_)
      rw [hs1, ← hx]
      refine (State.reg_congr _ rfl rfl rfl rfl).trans (State.reg_setReg_ne _ _ _ _ ?_)
      exact ((bankField_addr (1 - b)).1 ▸ (by decide) : A.RT_SEND_ACT ≠ (bankStateField (1 - b)).addr)
    rw [hreg, ← hs1]
    exact State.stagedDone_armed _ _
  · rw [heq]
    exact ((hframe1.trans hframex).trans (hframey.mono (by simp))).plain

/-! ### A port that loses its link or is reset (R299, R305, R387) -/

theorem State.linkDown_valid (s : State) (p : Nat) (hp : p < 12) : (s.linkDown p).get (F.SPK_CAD_DELAY_VALID p) = 0 := by
  have h1 : (s.set (F.SPK_CAD_DELAY_VALID p) 0).get (F.SPK_CAD_DELAY_VALID p) = 0 :=
    State.get_set_fits _ _ _ rfl
  have hframe (die : Nat) (e : Event) : ((s.set (F.SPK_CAD_DELAY_VALID p) 0).post die e).get (F.SPK_CAD_DELAY_VALID p) = 0 := by
    refine (State.get_congr _ ((State.post_frame _ _ _).regs _ ?_)).trans h1
    simp only [F.SPK_CAD_DELAY_VALID, A.SPK_CAD_DELAY, optReg, spkReg, A.MGMT_ERR, mgmtReg, if_pos hp, List.mem_singleton]
    omega
  unfold State.linkDown
  dsimp only
  rw [if_pos hp]
  split
  · exact hframe _ _
  · exact h1

/-- A port that enters DETECT: its unit is STARTING, and off its page only the router's drops show what waited for it. -/
theorem State.enterDetect_effect (s : State) (p : Nat) (hp : p < 12) (htrip : (s.optic p).tripped = false) (t : State)
    (ht : s.enterDetect p = t) : t.get (F.UNIT_STATE_STATE (entPort p)) = 1
      ∧ ∀ f : Field, offPage p f.addr → offDrop f → t.get f = s.get f := by
  obtain ⟨u, hu⟩ : ∃ u, (((s.linkDown p).spareOff p).opticsFresh p).setPhase p 1 = u := ⟨_, rfl⟩
  obtain ⟨v, hv⟩ : ∃ v, u.setUnit (entPort p) usStarting = v := ⟨_, rfl⟩
  have heq : t = ((v.cage p true).portFresh p).pumpAll := by
    rw [← ht, ← hv, ← hu]
    unfold State.enterDetect
    rw [htrip]
    exact if_pos hp
  have hpage : PageOp p s v := hv ▸ hu ▸ ((((PageOp.refl p s).linkDown.spareOff).opticsFresh).setPhase 1).setUnit usStarting (by omega)
  have hunit : v.get (F.UNIT_STATE_STATE (entPort p)) = 1 := hv ▸ u.setUnit_port p 1 (by omega) (by omega)
  have hget (f : Field) : ((v.cage p true).portFresh p).get f = v.get f := State.get_congr f (State.reg_congr _ rfl rfl rfl rfl)
  refine ⟨?_, fun f hf hd => ?_⟩
  · rw [heq, (State.pumpAll_frame _).get _ (portUnit_drop p (by omega)), hget, hunit]
  · rw [heq, State.pumpAll_get _ _ hd, hget, hpage.get f hf]

theorem drop_page (a : Nat) (h : 0x300000010000 ≤ a) (h' : a < 0x300000020000) : a ∉ [A.RT_DROP, A.FAULT_LOST] := by
  have h1 : 0x300000020000 ≤ A.RT_DROP ∧ A.FAULT_LOST < 0x300000010000 := by decide
  simp only [List.mem_cons, List.not_mem_nil, or_false]
  omega

theorem linkLost_effect (s : State) (p : Nat) (hp : p < 12) (h7 : s.phase p = 7) (hready : s.get (F.UNIT_STATE_STATE (entPort p)) = 2)
    (hmiss : 4 ≤ (s.optic p).missSlots) (t : State) (ht : linkLost p s = t) : t.get (F.UNIT_STATE_STATE (entPort p)) = 3
      ∧ t.get (F.SPK_CAD_DELAY_VALID p) = 0 := by
  have hu : s.unitReady (entPort p) = true := by
    rw [s.unitReady_port p (by omega), hready]
    rfl
  obtain ⟨s1, hs1⟩ : ∃ s1, (if (s.optic p).linkFailed then s.set (F.OPT_STATE_FAIL_REASON p) 9 else s) = s1 := ⟨_, rfl⟩
  have heq : t = ((s1.linkDown p).setUnit (entPort p) usDraining).pumpAll := by
    rw [← ht, ← hs1]
    exact if_pos ⟨h7, hu, .inl hmiss⟩
  have hpaddr : A.SPK_CAD_DELAY p < 0x300000020000 ∧ 0x300000010000 ≤ A.SPK_CAD_DELAY p := by
    simp only [A.SPK_CAD_DELAY, optReg, spkReg, if_pos hp]
    omega
  refine ⟨?_, ?_⟩
  · rw [heq, (State.pumpAll_frame _).get _ (portUnit_drop p (by omega))]
    exact State.setUnit_port _ _ _ (by omega) (by decide)
  · rw [heq, (State.pumpAll_frame _).get _ (drop_page _ hpaddr.2 hpaddr.1), (State.setUnit_portFrame _ _ _ (by omega)).get _ ?_,
      s1.linkDown_valid p hp]
    have h1 := portUnit_addr p (by omega)
    have h2 : 0x300000020000 ≤ A.MGMT_ERR ∧ 0x300000020000 ≤ A.ALERT_CAUSE := by decide
    simp only [List.mem_cons, List.not_mem_nil, or_false, show (F.SPK_CAD_DELAY_VALID p).addr = A.SPK_CAD_DELAY p from rfl]
    omega

theorem portDrainDone_effect (s : State) (p : Nat) (hp : p < 12) (h7 : s.phase p = 7)
    (hdrain : s.get (F.UNIT_STATE_STATE (entPort p)) = 3)
    (hmiss : 4 ≤ (s.optic p).missSlots) (hpend : s.get (F.UNIT_STATE_ENABLE_PENDING (entPort p)) = 0) (hcredit : s.rt.credit.length = 12)
    (t : State) (ht : portDrainDone p s = t) : t.get (F.UNIT_STATE_STATE (entPort p)) = 4
      ∧ t.rt.credit.getD p [] = List.replicate 8 34 ∧ (∀ x ∈ t.rt.out, x.port ≠ p) := by
  obtain ⟨u, hu⟩ : ∃ u, s.setUnit (entPort p) usDown = u := ⟨_, rfl⟩
  have hfresh (f : Field) : (u.portFresh p).get f = u.get f := State.get_congr f (State.reg_congr _ rfl rfl rfl rfl)
  have hpend' : u.get (F.UNIT_STATE_ENABLE_PENDING (entPort p)) = 0 := by
    rw [← hu, State.setUnit_portField s p usDown _ (by omega) rfl rfl, hpend]
  have heq : t = u.portFresh p := by
    rw [← ht, portDrainDone, if_pos ⟨h7, by rw [s.unit_port p (by omega), hdrain]; rfl, .inl hmiss⟩]
    dsimp only
    rw [hu, if_neg]
    rw [State.on, hfresh, hpend']
    decide
  have hrt : u.rt = s.rt := hu ▸ s.setUnit_rt _ _
  refine ⟨?_, ?_, ?_⟩
  · rw [heq, hfresh, ← hu]
    exact s.setUnit_port p _ (by omega) (by decide)
  · rw [heq]
    refine (getD_set_eq _ _ _ _ _ (?_ : p < u.rt.credit.length)).trans (if_pos rfl)
    rw [hrt, hcredit]
    exact hp
  · rw [heq]
    intro x hx
    simpa using (List.mem_filter.mp hx).2

theorem State.transitDrop_only (s : State) (src reason vc n : Nat) : s.transitDrop src reason vc n = { s with
    regs := (s.transitDrop src reason vc n).regs, mgmt := (s.transitDrop src reason vc n).mgmt } := s.faultOnce_only _ _ _ _

theorem State.dropPort_get (s : State) (p reason : Nat) (f : Field) (hf : f.addr ≠ A.FAULT_LOST) : (s.dropPort p reason).get f = s.get
    f := by
  unfold State.dropPort
  dsimp only
  split
  · exact s.get_setHeld _ f
  · rw [State.transitDrop, State.faultOnce_get _ _ _ _ _ f hf, State.get_setHeld]

theorem State.dropPort_opt (s : State) (p reason : Nat) : (s.dropPort p reason).opt = s.opt := by
  unfold State.dropPort
  dsimp only
  split
  · rfl
  · rw [State.transitDrop_only]

/-- The reset of a READY Spoke port whose 12 V has not tripped: it trains from DETECT. -/
theorem State.resetPort_effect (s : State) (p : Nat) (hp : p < 12) (hready : s.get (F.UNIT_STATE_STATE (entPort p)) = 2)
    (htrip : (s.optic p).tripped = false) (t : State) (ht : s.resetPort p = t) : t.get (F.UNIT_STATE_STATE (entPort p)) = 1
      ∧ t.get F.RT_DROP_WDOG = s.get F.RT_DROP_WDOG := by
  obtain ⟨u, hu⟩ : ∃ u, ((s.bump F.RT_DROP_PORT_RESET).dropPort p 2).portFresh p = u := ⟨_, rfl⟩
  have hget (f : Field) (hf : f.addr ≠ A.FAULT_LOST) : u.get f = (s.bump F.RT_DROP_PORT_RESET).get f := by
    rw [← hu]
    exact (State.get_congr f (State.reg_congr _ rfl rfl rfl rfl)).trans (State.dropPort_get _ _ _ f hf)
  have hunit : u.unit (entPort p) = 2 := by
    rw [u.unit_port p (by omega), hget _ (portUnit_ne p _ (by omega) (by decide)), State.bump, State.add,
      State.get_set_ne _ _ _ _ (portUnit_ne p _ (by omega) (by decide)), hready]
  have hopt : u.opt = s.opt := by
    rw [← hu]
    exact (State.dropPort_opt _ _ _).trans (State.bump_opt _ _)
  obtain ⟨v, hv⟩ : ∃ v, u.set (F.OPT_STATE_ATTEMPTS p) 0 = v := ⟨_, rfl⟩
  have htrip' (x : State) (hx : x.opt = s.opt) : (x.optic p).tripped = false := by rw [State.optic, hx]; exact htrip
  have heq : t = (v.enterDetect p).modOptic p fun o => { o with trainEpochs := 0 } := by
    rw [← ht, State.resetPort, if_pos hp, hu]
    simp only [hunit]
    rw [State.retrainLost, htrip' u hopt, hv]
    rfl
  obtain ⟨h1, h2⟩ := v.enterDetect_effect p hp (htrip' v (by rw [← hv]; exact hopt)) _ rfl
  have hmod (f : Field) : t.get f = (v.enterDetect p).get f := heq ▸ State.get_congr f (State.reg_congr _ rfl rfl rfl rfl)
  refine ⟨(hmod _).trans h1, (hmod _).trans ((h2 _ (offPage_drop p (by omega)) ⟨rfl, by decide⟩).trans ?_)⟩
  have hne : F.RT_DROP_WDOG.addr ≠ (F.OPT_STATE_ATTEMPTS p).addr := fun e => by
    have h := (offPage_drop p (by omega)).1
    rw [show A.RT_DROP = optReg p + 0x10 from e] at h
    omega
  rw [← hv, State.get_set_ne _ _ _ _ hne, hget _ (by decide)]
  exact State.get_set_apart _ _ _ _ rfl

theorem arbWatchdog_effect (s : State) (p : Nat) (hp : p < 12) (hready : s.get (F.UNIT_STATE_STATE (entPort p)) = 2)
    (htrip : (s.optic p).tripped = false) (t : State) (ht : arbWatchdog p s = t) : t.get F.RST_STATUS_DOMAIN = 4
      ∧ t.get F.RST_STATUS_CAUSE = 3 ∧ t.get F.RT_DROP_WDOG = (s.bump F.RT_DROP_WDOG).get F.RT_DROP_WDOG
      ∧ t.get (F.UNIT_STATE_STATE (entPort p)) = 1 := by
  have hu : s.unitReady (entPort p) = true := by
    rw [s.unitReady_port p (by omega), hready]
    rfl
  obtain ⟨mine, hmine⟩ : ∃ mine, s.rt.held.filter (fun h => h.src == p) = mine := ⟨_, rfl⟩
  obtain ⟨u, hu'⟩ : ∃ u, (s.bump F.RT_DROP_WDOG).transitDrop p 5 (commonVc mine) mine.length = u := ⟨_, rfl⟩
  have heq : (u.resetPort p).rstStatus 4 3 s.epoch = t := by
    rw [← ht, ← hu', ← hmine]
    exact (if_pos hu).symm
  have hget (f : Field) (hf : f.addr ≠ A.FAULT_LOST) : u.get f = (s.bump F.RT_DROP_WDOG).get f := by
    rw [← hu']
    exact State.faultOnce_get _ _ _ _ _ f hf
  have hready' : u.get (F.UNIT_STATE_STATE (entPort p)) = 2 := by
    rw [hget _ (portUnit_ne p _ (by omega) (by decide)), State.bump, State.add, State.get_set_ne _ _ _ _
        (portUnit_ne p _ (by omega) (by decide)),
      hready]
  have htrip' : (u.optic p).tripped = false := by
    rw [State.optic, ← hu', State.transitDrop_only]
    exact htrip
  obtain ⟨h1, h2⟩ := u.resetPort_effect p hp hready' htrip' _ rfl
  obtain ⟨h3, h4⟩ := State.get_rstStatus _ t 4 3 s.epoch (by omega) (by omega) heq
  have hrst (f : Field) (hf : f.addr ≠ A.RST_STATUS) : t.get f = (u.resetPort p).get f := by
    rw [← heq]
    exact State.get_congr f (State.reg_setReg_ne _ _ _ _ hf)
  refine ⟨h3, h4, ?_, ?_⟩
  · rw [hrst _ (by decide), h2, hget _ (by decide)]
  · rw [hrst _ (portUnit_ne p _ (by omega) (by decide)), h1]

/-- Settles O48, command by command: each is one equation of the model's function, read field by field. -/
theorem banksAndLinks : Obligations.BanksAndLinks := by
  unfold Obligations.BanksAndLinks
  refine fun s hs => ⟨fun b hb tag htag hcheck => ?_, fun b hb tag htag hcheck => ?_, fun b hb hlive hused hsum => ?_,
    fun b hb hret hslot hlife hsum => ?_, fun b k hb harmed hslot hstaged hk hlive htag hother hsend => ?_, fun p hp hlen =>
        ⟨fun h7 hready hmiss => ?_,
    fun h7 hdrain hmiss hpend hcredit => ?_, fun hready htrip => ?_⟩⟩
  · have hlive : execBankCommit b tag s = .next _ := lively_powered s b 2 (bankCommit b (tag % 4)) hb hs.1 hs.2
    obtain ⟨x, hx⟩ : ∃ x, (s.set (bankStateField b) 1).set (bankTagField b) tag = x := ⟨_, rfl⟩
    have heq : bankCommit b (tag % 4) s = { x with rt := { x.rt with used := x.rt.used.set b false } } := by
      unfold bankCommit
      dsimp only
      rw [Nat.mod_eq_of_lt htag, if_neg (by omega), ← hx]
      rfl
    obtain ⟨h1, h2, h3, h4, h5, h6⟩ := bankFields_apart b hb
    obtain ⟨ha, hb'⟩ := bankField_addr b
    have hframe : Frame [A.RT_BANK_STATUS] s x := by
      rw [← hx]
      exact ((Frame.refl _ s).set _ _ (by simp [ha])).set _ _ (by simp [hb'])
    refine ⟨_, hlive, ?_⟩
    rw [heq]
    have hget (f : Field) : ({ x with rt := { x.rt with used := x.rt.used.set b false } } : State).get f = x.get f :=
      State.get_congr f (State.reg_congr _ rfl rfl rfl rfl)
    simp only [State.bankState_eq, State.bankTag_eq, hget]
    refine ⟨?_, ?_, ?_, ?_, hframe.plain.regs, hframe.bytes⟩
    · rw [← hx, State.get_set_apart _ _ _ _ h5]
      exact State.get_set_fits _ _ _ (bankField_fits b hb 1 (by omega)).1
    · rw [← hx]
      exact State.get_set_fits _ _ _ (bankField_fits b hb tag htag).2
    · rw [← hx, State.get_set_apart _ _ _ _ h3, State.get_set_apart _ _ _ _ h1]
    · rw [← hx, State.get_set_apart _ _ _ _ h4, State.get_set_apart _ _ _ _ h2]
  · have hlive : execBankCommit b tag s = .next _ := lively_powered s b 2 (bankCommit b (tag % 4)) hb hs.1 hs.2
    refine hlive.trans (congrArg Host.Outcome.next ?_)
    unfold bankCommit
    dsimp only
    rw [Nat.mod_eq_of_lt htag, if_pos hcheck]
  · have hlive' : execBankDiscard b s = .next _ := lively_powered s b 2 (bankDiscard b) hb hs.1 hs.2
    exact hlive'.trans (congrArg Host.Outcome.next (if_pos ⟨hlive, hused, hsum⟩))
  · have hlive : execBankRetire b s = .next _ := lively_powered s b 2 (bankRetire b) hb hs.1 hs.2
    exact hlive.trans (congrArg Host.Outcome.next (if_pos ⟨hret, beq_iff_eq.mpr hslot, hlife, hsum⟩))
  · have hlive' : execSendSwitch s = .next _ := live_powered s sendSwitch hs.1 hs.2
    obtain ⟨h1, h2, h3, h4, h5, hframe⟩ := sendSwitch_effect s b hb (s.stagedDue_of _ k harmed hslot hstaged hk) hlive htag hother hsend _
        rfl
    exact ⟨_, hlive', h1, h2, h3, h4, h5, hframe.regs, hframe.bytes⟩
  · have hlive : execLinkLost p s = .next _ := lively_powered s p 12 (linkLost p) hp hs.1 hs.2
    obtain ⟨h1, h2⟩ := linkLost_effect s p hp h7 hready hmiss _ rfl
    exact ⟨_, hlive, h1, h2, ((Keeps.refl s).linkLost p).bytes⟩
  · have hlive : execPortDrainDone p s = .next _ := lively_powered s p 12 (portDrainDone p) hp hs.1 hs.2
    obtain ⟨h1, h2, h3⟩ := portDrainDone_effect s p hp h7 hdrain hmiss hpend hcredit _ rfl
    exact ⟨_, hlive, h1, h2, h3, ((Keeps.refl s).portDrainDone p).bytes⟩
  · have hlive : execArbWatchdog p s = .next _ := lively_powered s p 12 (arbWatchdog p) hp hs.1 hs.2
    obtain ⟨h1, h2, h3, h4⟩ := arbWatchdog_effect s p hp hready htrip _ rfl
    exact ⟨_, hlive, h1, h2, h3, h4, ((Keeps.refl s).arbWatchdog p).bytes⟩

end Sys2Proof.Machine

/-! Frames on a Colok port: what its transmitter touches, and what each arrival does (O55). -/
namespace Sys2Proof.Machine

/-! ## What a Colok port's transmitter touches (R397, R400) -/

theorem State.ck_setCk (s : State) (c : Nat) (k : ColokPort) (hc : c < s.colok.length) : (s.setCk c k).ck c = k :=
  (getD_set_eq _ _ _ _ _ hc).trans (if_pos rfl)

theorem State.ck_congr {s t : State} (c : Nat) (h : t.colok = s.colok) : t.ck c = s.ck c := by rw [State.ck, State.ck, h]

/-- A frame as the link carries it: with the present ACK, and the CRC of what it then holds. -/
def sealFrame (f : Sys2Proof.Frame) (ack : Nat) : Sys2Proof.Frame :=
  let f1 := { f with w2 := putBits f.w2 31 0 ack }
  { f1 with crc := BitVec.ofNat 32 f1.sum }

theorem sealFrame_crc (f : Sys2Proof.Frame) (ack : Nat) : (sealFrame f ack).crc = BitVec.ofNat 32 (sealFrame f ack).sum := rfl

theorem sealFrame_seq (f : Sys2Proof.Frame) (ack : Nat) : (sealFrame f ack).seq = f.seq :=
  bits_putBits_disjoint _ _ _ _ _ _ (by decide) (by decide) (.inr (by decide))

theorem State.wire_eq (s : State) (c : Nat) (f : Sys2Proof.Frame) : s.wire c f =
    ({ s with sent := s.sent ++ [.frame c (sealFrame f (s.ckAck c))] } : State).setCk c { s.ck c with sentInSlot := true } := rfl

theorem State.wire_sent (s : State) (c : Nat) (f : Sys2Proof.Frame) : (s.wire c f).sent = s.sent ++
    [.frame c (sealFrame f (s.ckAck c))] := rfl

theorem State.wire_ck (s : State) (c : Nat) (f : Sys2Proof.Frame) (hc : c < s.colok.length) :
    (s.wire c f).ck c = { s.ck c with sentInSlot := true } := by
  rw [State.wire_eq]
  exact State.ck_setCk _ _ _ hc

theorem State.wire_frame (l : List Nat) (s : State) (c : Nat) (f : Sys2Proof.Frame) : Frame l s (s.wire c f) := (Frame.refl l s).plain

/-- What frames sent on Colok port `c` leave, from state `o` on: all of the port but its queues of frames to send, every register but the
port's counts of errors and the SEQ it sends next, and every other part. -/
structure CkSends (c : Nat) (o s : State) : Prop where
  ck : ∃ unacked ackTick sentInSlot outq,
    s.ck c = { o.ck c with unacked := unacked, ackTick := ackTick, sentInSlot := sentInSlot, outq := outq }
  len : s.colok.length = o.colok.length
  only : s = { o with regs := s.regs, colok := s.colok, sent := s.sent }
  get : ∀ f : Field, f.addr ≠ A.COLOK_STAT c → f.addr ≠ A.COLOK_SEQ c ∨ (F.COLOK_SEQ_TX_NEXT c).apart f = true → s.get f = o.get f

namespace CkSends
variable {c : Nat} {o s : State}

theorem refl (c : Nat) (s : State) : CkSends c s s := ⟨⟨_, _, _, _, rfl⟩, rfl, rfl, fun _ _ _ => rfl⟩

theorem trans {t : State} (h : CkSends c o s) (h' : CkSends c s t) : CkSends c o t := by
  obtain ⟨u, k, n, q, hck⟩ := h.ck
  obtain ⟨u', k', n', q', hck'⟩ := h'.ck
  refine ⟨⟨u', k', n', q', ?_⟩, h'.len.trans h.len, ?_, fun f hf hf' => (h'.get f hf hf').trans (h.get f hf hf')⟩
  · rw [hck', hck]
  · rw [h'.only, h.only]

section
variable (hs : CkSends c o s)
include hs

theorem ite {t : State} {p : Prop} [Decidable p] (ht : CkSends c o t) : CkSends c o (if p then s else t) := by
  split
  · exact hs
  · exact ht

/-- The port's queues of frames to send. -/
theorem queues (hc : c < s.colok.length) (u : List Sys2Proof.Frame) (k : Nat) (n : Bool) (q : List Sys2Proof.Frame) :
    CkSends c o (s.setCk c { s.ck c with unacked := u, ackTick := k, sentInSlot := n, outq := q }) := by
  refine hs.trans ⟨⟨u, k, n, q, s.ck_setCk c _ hc⟩, List.length_set, rfl, fun f _ _ => ?_⟩
  exact State.get_congr f (State.reg_congr _ rfl rfl rfl rfl)

theorem send (l : List Egress) : CkSends c o { s with sent := l } :=
  hs.trans ⟨⟨_, _, _, _, rfl⟩, rfl, rfl, fun f _ _ => State.get_congr f (State.reg_congr _ rfl rfl rfl rfl)⟩

theorem setField (f : Field) (v : Nat) (hf : ∀ g : Field, g.addr ≠ A.COLOK_STAT c →
    g.addr ≠ A.COLOK_SEQ c ∨ (F.COLOK_SEQ_TX_NEXT c).apart g = true → (s.set f v).get g = s.get g) : CkSends c o (s.set f v) :=
  hs.trans ⟨⟨_, _, _, _, rfl⟩, rfl, rfl, hf⟩

theorem stat (f : Field) (v : Nat) (hf : f.addr = A.COLOK_STAT c) : CkSends c o (s.set f v) :=
  hs.setField f v fun _ hg _ => State.get_set_ne _ _ _ _ fun e => hg (e.trans hf)

theorem next (v : Nat) : CkSends c o (s.set (F.COLOK_SEQ_TX_NEXT c) v) :=
  hs.setField _ v fun _ _ hg => hg.elim (fun h => State.get_set_ne _ _ _ _ h) (fun h => State.get_set_apart _ _ _ _ h)

theorem wire (hc : c < s.colok.length) (f : Sys2Proof.Frame) : CkSends c o (s.wire c f) :=
  (hs.send (s.sent ++ [Egress.frame c _])).queues hc _ _ true _

theorem drainOut (hc : c < o.colok.length) (n : Nat) : CkSends c o (s.drainOut c n) := by
  induction n generalizing s with
  | zero => exact hs
  | succ n ih =>
    have hlen : c < s.colok.length := hs.len ▸ hc
    unfold State.drainOut
    dsimp only
    split
    · exact hs
    · split
      · exact hs
      · refine ih (CkSends.next (CkSends.wire (hs.queues hlen _ _ _ _) ?_ _) _)
        exact hlen.trans_eq List.length_set.symm

theorem ackIn (hc : c < o.colok.length) (ack : Nat) : CkSends c o (s.ackIn c ack) := by
  have hlen : c < s.colok.length := hs.len ▸ hc
  exact (hs.ite (hs.queues hlen _ _ _ _)).drainOut hc _

theorem resendAll (hc : c < o.colok.length) : CkSends c o (s.resendAll c) := by
  have h1 : CkSends c o ((s.ck c).unacked.foldl (fun s f => (s.wire c f).bump (F.COLOK_STAT_RESENT c)) s) :=
    List.foldlRecOn (motive := CkSends c o) _ _ hs fun x hx f _ => (hx.wire (hx.len ▸ hc) f).stat _ _ rfl
  exact h1.queues (h1.len ▸ hc) _ _ _ _

theorem emit (hc : c < o.colok.length) (f : Sys2Proof.Frame) : CkSends c o (s.emit c f) :=
  (hs.queues (hs.len ▸ hc) _ _ _ _).drainOut hc _

end
end CkSends

/-! ## Where nothing is proxied -/

theorem State.forwardAll_none (s : State) (c n : Nat) (h : ∀ r ∈ (s.ck c).mbox, r.proxy = none ∨ r.started = true) : s.forwardAll c n =
    s := by
  cases n with
  | zero => rfl
  | succ n =>
    have hfind : (List.range (s.ck c).mbox.length).find? (fun i => ((s.ck c).mbox[i]?.any fun r => r.proxy.isSome && !r.started)
        && ckMayRun (s.ck c).mbox i) = none := by
      refine List.find?_eq_none.mpr fun i hi => ?_
      rw [List.getElem?_eq_getElem (List.mem_range.mp hi)]
      rcases h _ (List.getElem_mem (List.mem_range.mp hi)) with h | h <;> simp [h]
    unfold State.forwardAll
    dsimp only
    rw [hfind]

/-! ## A frame arrives (R399, R400, R403) -/

theorem colokPort_ready (s : State) (c : Nat) (hc : c < 2) (h7 : s.phase (12 + c) = 7)
    (h2 : s.get (F.UNIT_STATE_STATE (entPort (12 + c))) = 2) :
    s.phase (12 + c) ≠ 6 ∧ (s.phase (12 + c) = 7 ∧ (s.unit (entPort (12 + c)) = usReady ∨ s.unit (entPort (12 + c)) = usDraining))
      ∧ s.unit (entPort (12 + c)) = 2 := by
  have hu : s.unit (entPort (12 + c)) = 2 := (s.unit_port _ (by omega)).trans h2
  exact ⟨by omega, ⟨h7, .inl hu⟩, hu⟩

/-- The registers of a Colok port and of its unit lie apart. -/
theorem colok_apart : ∀ c < 2, (F.UNIT_STATE_STATE (entPort (12 + c))).addr ≠ A.COLOK_STAT c
    ∧ (F.UNIT_STATE_STATE (entPort (12 + c))).addr ≠ A.COLOK_SEQ c ∧ (F.COLOK_STATE_MAJOR c).addr ≠ A.COLOK_STAT c
    ∧ (F.COLOK_STATE_MAJOR c).addr ≠ A.COLOK_SEQ c ∧ (F.COLOK_SEQ_RX_EXPECT c).addr ≠ A.COLOK_STAT c
    ∧ (F.COLOK_SEQ_TX_NEXT c).apart (F.COLOK_SEQ_RX_EXPECT c) = true ∧ (F.UNIT_STATE_STATE (entPort (12 + c))).addr ≠ A.COLOK_STATE c
    ∧ A.COLOK_SEQ c ∉ [A.COLOK_STAT c] := by
  decide

/-- A request in order that the mailbox has room for joins it. -/
theorem colokFrame_accepted (s : State) (c : Nat) (f : Sys2Proof.Frame) (hs : s.colok.length = 2) (hc : c < 2) (h7 : s.phase (12 + c) = 7)
    (h2 : s.get (F.UNIT_STATE_STATE (entPort (12 + c))) = 2) (hgood : f.crc = BitVec.ofNat 32 f.sum)
    (hseq : f.seq = s.get (F.COLOK_SEQ_RX_EXPECT c)) (hroom : (s.ck c).mbox.length < 32) (hhold : (s.ck c).holdoff = false)
    (hproxy : bits f.w1 31 31 = 0) (hnone : ∀ r ∈ (s.ck c).mbox, r.proxy = none)
    (hform : (frameRequest f).malformed (s.countLimit c) = false) (h0 : f.op ≠ 0) (h9 : f.op ≠ 9) (t : State) (ht : colokFrame c f s = t)
        :
    (t.ck c).mbox = (s.ck c).mbox ++ [frameRequest f]
      ∧ t.get (F.COLOK_SEQ_RX_EXPECT c) = (s.get (F.COLOK_SEQ_RX_EXPECT c) + 1) % 2 ^ 32 ∧ (t.ck c).holdoff = false
      ∧ (t.ck c).nakSent = false := by
  obtain ⟨h6, hserve, hunit⟩ := colokPort_ready s c hc h7 h2
  obtain ⟨a1, a2, a3, a4, a5, a6, -, -⟩ := colok_apart c hc
  obtain ⟨s1, hs1⟩ : ∃ s1, s.wrapAdd (F.COLOK_SEQ_RX_EXPECT c) 1 = s1 := ⟨_, rfl⟩
  have hget1 (g : Field) (hg : g.addr ≠ A.COLOK_SEQ c) : s1.get g = s.get g := hs1 ▸ State.get_set_ne _ _ _ _ hg
  have hexp1 : s1.get (F.COLOK_SEQ_RX_EXPECT c) = (s.get (F.COLOK_SEQ_RX_EXPECT c) + 1) % 2 ^ 32 := by
    rw [← hs1]
    exact State.get_set_self _ _ _ (Nat.zero_le _) (show 31 < 64 by omega)
  have hck1 : s1.ck c = s.ck c := hs1 ▸ State.ck_congr c (State.wrapAdd_colok _ _ _)
  have hlen1 : s1.colok.length = 2 := by rw [← hs1, State.wrapAdd_colok, hs]
  obtain ⟨s2, hs2⟩ : ∃ s2, s1.setCk c { s1.ck c with nakSent := false, ackMoved := true } = s2 := ⟨_, rfl⟩
  have hlen2 : s2.colok.length = 2 := by
    rw [← hs2]
    exact List.length_set.trans hlen1
  have hck2 : s2.ck c = { s.ck c with nakSent := false, ackMoved := true } := by
    rw [← hs2, State.ck_setCk _ _ _ (by rw [hlen1]; exact hc), hck1]
  have hget2 (g : Field) : s2.get g = s1.get g := hs2 ▸ State.get_congr g (State.reg_congr _ rfl rfl rfl rfl)
  obtain ⟨s4, hs4⟩ : ∃ s4, (if bits f.w1 30 30 = 1 then (s2.ackIn c f.ack).resendAll c else s2.ackIn c f.ack) = s4 := ⟨_, rfl⟩
  have hsends : CkSends c s2 s4 := by
    have h := (CkSends.refl c s2).ackIn (by rw [hlen2]; exact hc) f.ack
    exact hs4 ▸ (h.resendAll (by rw [hlen2]; exact hc)).ite h
  obtain ⟨u, k, n, q, hck4⟩ := hsends.ck
  have hget4 (g : Field) (h : g.addr ≠ A.COLOK_STAT c) (h' : g.addr ≠ A.COLOK_SEQ c) : s4.get g = s.get g :=
    (hsends.get g h (.inl h')).trans ((hget2 g).trans (hget1 g h'))
  have hlen4 : c < s4.colok.length := by rw [hsends.len, hlen2]; exact hc
  obtain ⟨s5, hs5⟩ : ∃ s5, s4.setCk c { s4.ck c with holdoff := false } = s5 := ⟨_, rfl⟩
  have hlen5 : c < s5.colok.length := by
    rw [← hs5]
    exact hlen4.trans_eq List.length_set.symm
  have hck5 : s5.ck c = { s4.ck c with holdoff := false } := hs5 ▸ s4.ck_setCk c _ hlen4
  have hget5 (g : Field) : s5.get g = s4.get g := hs5 ▸ State.get_congr g (State.reg_congr _ rfl rfl rfl rfl)
  obtain ⟨s6, hs6⟩ : ∃ s6, s5.setCk c { s5.ck c with mbox := (s5.ck c).mbox ++ [frameRequest f] } = s6 := ⟨_, rfl⟩
  have hck6 : s6.ck c = { s5.ck c with mbox := (s.ck c).mbox ++ [frameRequest f] } := by
    rw [← hs6, s5.ck_setCk c _ hlen5, hck5, hck4, hck2]
  have hget6 (g : Field) : s6.get g = s4.get g :=
      (hs6 ▸ State.get_congr g (State.reg_congr _ rfl rfl rfl rfl) : s6.get g = s5.get g).trans (hget5 g)
  have hin : s4.requestIn c (frameRequest f) (bits f.w0 55 55 == 1) = s6 := by
    have hu4 : s4.unit (entPort (12 + c)) ≠ usDraining := by
      rw [s4.unit_port _ (by omega), hget4 _ a1 a2, h2]
      decide
    have hmax : s5.countLimit c = s.countLimit c := by
      rw [State.countLimit, State.ckMajor, hget5, hget4 _ a3 a4]
      rfl
    have hbox : ¬ (32 ≤ (s4.ck c).mbox.length ∨ (s4.ck c).holdoff = true ∧ (s4.ckMajor c == 2) = false ∧ (bits f.w0 55 55 == 1) =
        false) := by
      rw [hck4, hck2]
      simp [hhold, hroom]
    unfold State.requestIn
    dsimp only
    rw [if_neg hu4, if_neg hbox, hs5, hmax, hform, if_neg (by decide), hs6]
    refine s6.forwardAll_none c 32 fun r hr => .inl ?_
    rw [hck6] at hr
    rcases List.mem_append.mp hr with h | h
    · exact hnone r h
    · rw [List.mem_singleton.mp h, frameRequest]
      exact if_neg (by rw [hproxy]; decide)
  have heq : t = s6 := by
    rw [← ht, ← hin]
    unfold colokFrame
    dsimp only
    rw [if_neg h6, if_pos hserve, if_neg (by simp [hgood]), if_neg h0, if_neg h9, if_neg (not_not.mpr hseq), hs1, hs2, hs4]
  rw [heq]
  refine ⟨by rw [hck6], ?_, ?_, ?_⟩
  · rw [hget6, hsends.get _ a5 (.inr a6), hget2, hexp1]
  · rw [hck6, hck5]
  · rw [hck6, hck5, hck4, hck2]

/-- A frame that fails its CRC or comes out of order. -/
theorem colokFrame_discarded (s : State) (c : Nat) (f : Sys2Proof.Frame) (hc : c < 2) (h7 : s.phase (12 + c) = 7)
    (h2 : s.get (F.UNIT_STATE_STATE (entPort (12 + c))) = 2)
    (hbad : ¬ (f.crc = BitVec.ofNat 32 f.sum ∧ f.seq = s.get (F.COLOK_SEQ_RX_EXPECT c))) (h0 : f.op ≠ 0) (h9 : f.op ≠ 9) :
    colokFrame c f s = s.ckDiscard c := by
  obtain ⟨h6, hserve, -⟩ := colokPort_ready s c hc h7 h2
  unfold colokFrame
  dsimp only
  rw [if_neg h6, if_pos hserve]
  by_cases hgood : f.crc = BitVec.ofNat 32 f.sum
  · rw [if_neg (by simp [hgood]), if_neg h0, if_neg h9]
    exact if_pos fun h => hbad ⟨hgood, h⟩
  · exact if_pos (by simpa using hgood)

theorem State.ckDiscard_first (s : State) (c : Nat) (hs : s.colok.length = 2) (hc : c < 2) (hnak : (s.ck c).nakSent = false) (t : State)
    (ht : s.ckDiscard c = t) : ∃ g, t.sent = s.sent ++ [.frame c g] ∧ g.op = 0 ∧ bits g.w1 30 30 = 1 ∧ (t.ck c).nakSent = true
      ∧ (t.ck c).mbox = (s.ck c).mbox ∧ Frame [A.COLOK_STAT c] s t := by
  obtain ⟨s1, hs1⟩ : ∃ s1, s.bump (F.COLOK_STAT_FCS_ERR c) = s1 := ⟨_, rfl⟩
  have hck : s1.ck c = s.ck c := hs1 ▸ State.ck_congr c (State.bump_colok _ _)
  have hlen : c < s1.colok.length := by rw [← hs1, State.bump_colok, hs]; exact hc
  obtain ⟨s2, hs2⟩ : ∃ s2, s1.setCk c { s1.ck c with nakSent := true } = s2 := ⟨_, rfl⟩
  have hck2 : s2.ck c = { s.ck c with nakSent := true } := by rw [← hs2, s1.ck_setCk c _ hlen, hck]
  have hlen2 : c < s2.colok.length := by
    rw [← hs2]
    exact hlen.trans_eq List.length_set.symm
  have heq : t = s2.sendFlow c true := by
    rw [← ht, State.ckDiscard, hs1, hck, hnak, ← hs2, ← hck]
    rfl
  have hframe2 : Frame [A.COLOK_STAT c] s s2 := hs2 ▸ Frame.plain (hs1 ▸ (Frame.refl _ s).bump _)
  refine ⟨_, (?_ : t.sent = s.sent ++ [.frame c (sealFrame ⟨0, mkWord [(30, 30, 1)], 0, 0, [], 0⟩ (s2.ckAck c))]), ?_, ?_, ?_, ?_, ?_⟩
  · rw [heq, State.sendFlow, State.wire_sent, ← hs2, State.setCk_sent, ← hs1, State.bump_sent]
    rfl
  · exact (by decide : bits 0 63 60 = 0)
  · exact (by decide : bits (mkWord [(30, 30, 1)]) 30 30 = 1)
  · rw [heq, State.sendFlow, s2.wire_ck c _ hlen2, hck2]
  · rw [heq, State.sendFlow, s2.wire_ck c _ hlen2, hck2]
  · rw [heq]
    exact hframe2.trans (s2.wire_frame _ c _)

/-- The ACK of the only frame outstanding. -/
theorem colokFrame_acked (s : State) (c : Nat) (f g : Sys2Proof.Frame) (hc : c < 2) (h7 : s.phase (12 + c) = 7)
    (h2 : s.get (F.UNIT_STATE_STATE (entPort (12 + c))) = 2) (hgood : f.crc = BitVec.ofNat 32 f.sum) (h0 : f.op = 0)
        (h30 : bits f.w1 30 30 = 0)
    (hun : (s.ck c).unacked = [g]) (hack : f.ack = g.seq) (hout : (s.ck c).outq = []) (hs : s.colok.length = 2) :
    colokFrame c f s = s.setCk c { s.ck c with unacked := [], ackTick := s.now } := by
  obtain ⟨h6, hserve, -⟩ := colokPort_ready s c hc h7 h2
  have hleft : (s.ck c).unacked.filter (fun x => decide (2 ^ 31 ≤ (f.ack + 2 ^ 32 - x.seq) % 2 ^ 32)) = [] := by
    have hzero : (g.seq + 2 ^ 32 - g.seq) % 2 ^ 32 = 0 := by
      rw [Nat.add_sub_cancel_left, Nat.mod_self]
    rw [hun, hack, List.filter_cons_of_neg (by rw [hzero]; decide)]
    rfl
  unfold colokFrame
  dsimp only
  rw [if_neg h6, if_pos hserve, if_neg (by simp [hgood]), if_pos h0, if_neg (by rw [h30]; decide)]
  unfold State.ackIn
  dsimp only
  rw [hleft, if_neg (by rw [hun]; simp), State.ck_setCk _ _ _ (by rw [hs]; exact hc)]
  dsimp only
  rw [hout]
  rfl

/-! ## The versions of the two ends (R389, R402) -/

theorem agreeVersion_lt (loc far m n : Nat) (h : agreeVersion loc far = some (m, n)) : m < 8 ∧ n < 16 := by
  obtain ⟨k, hk, hmn⟩ := Option.map_eq_some_iff.mp h
  have hk8 : k < 8 := List.mem_range.mp (List.mem_reverse.mp (List.mem_of_find?_eq_some hk))
  have hn : nbits loc (4 * k + 3) (4 * k) < 16 := by
    unfold nbits
    have he : 4 * k + 3 + 1 - 4 * k = 4 := by omega
    rw [he]
    exact Nat.mod_lt _ (by decide)
  obtain ⟨rfl, rfl⟩ := Prod.mk.inj hmn
  exact ⟨hk8, (Nat.min_le_left _ _).trans_lt hn⟩

/-- A Colok port enters SERVICE. -/
theorem State.portService_colok (s : State) (c : Nat) (hc : c < 2) (t : State) (ht : s.portService (12 + c) = t) :
    t.phase (12 + c) = 7 ∧ t.get (F.UNIT_STATE_STATE (entPort (12 + c))) = 2
      ∧ Frame [A.OPT_STATE (12 + c), A.UNIT_STATE (entPort (12 + c)), A.MGMT_ERR, A.ALERT_CAUSE] s t := by
  obtain ⟨o, ho⟩ : ∃ o, (s.optic (12 + c)).trainEpochs = o := ⟨_, rfl⟩
  obtain ⟨s1, hs1⟩ : ∃ s1, ((s.setPhase (12 + c) 7).set (F.OPT_STATE_TRAIN_EPOCHS (12 + c)) o).set (F.OPT_STATE_FAIL_REASON (12 + c)) 0 =
      s1 :=
    ⟨_, rfl⟩
  obtain ⟨s2, hs2⟩ : ∃ s2, s1.setUnit (entPort (12 + c)) usReady = s2 := ⟨_, rfl⟩
  have heq : t = (s2.post (dieOfPort (12 + c)) (.portUp (12 + c))).modOptic (12 + c) fun o =>
      { o with missSlots := 0, linkFailed := false, reports := [] } := by
    rw [← ht, ← hs2, ← hs1, ← ho]
    unfold State.portService
    dsimp only
    rw [if_neg (by omega)]
  have hapart : ∀ c < 2, A.OPT_STATE (12 + c) ∉ [A.MGMT_ERR] ∧ A.UNIT_STATE (entPort (12 + c)) ∉ [A.MGMT_ERR]
      ∧ A.OPT_STATE (12 + c) ∉ [A.UNIT_STATE (entPort (12 + c)), A.MGMT_ERR, A.ALERT_CAUSE] := by
    decide
  obtain ⟨a1, a2, a3⟩ := hapart c hc
  have hpost (f : Field) (hf : f.addr ∉ [A.MGMT_ERR]) : t.get f = s2.get f := by
    rw [heq]
    exact (State.get_congr f (State.reg_congr _ rfl rfl rfl rfl)).trans ((s2.post_frame _ _).get f hf)
  have hphase : s1.get (F.OPT_STATE_PHASE (12 + c)) = 7 := by
    rw [← hs1, State.get_set_apart _ _ _ _ rfl, State.get_set_apart _ _ _ _ rfl]
    exact (State.get_congr _ (State.reg_congr _ rfl rfl rfl rfl)).trans (State.get_set_fits s (F.OPT_STATE_PHASE (12 + c)) 7 rfl)
  have hframe1 : Frame [A.OPT_STATE (12 + c), A.UNIT_STATE (entPort (12 + c)), A.MGMT_ERR, A.ALERT_CAUSE] s s1 := by
    rw [← hs1]
    exact (((Frame.refl _ s).set _ _).plain.set _ _).set _ _
  refine ⟨?_, ?_, ?_⟩
  · rw [State.phase, hpost _ a1, ← hs2, (s1.setUnit_portFrame _ _ (by omega)).get _ a3, hphase]
  · rw [hpost _ a2, ← hs2]
    exact s1.setUnit_port _ _ (by omega) (by decide)
  · rw [heq]
    have h2 := hframe1.next (hs2 ▸ s1.setUnit_portFrame (12 + c) usReady (by omega)) (by simp)
    exact (h2.next (s2.post_frame _ _) (by simp)).plain

/-- CAPS with a common major: the port serves under it. -/
theorem State.ckCapsIn_agreed (s : State) (c : Nat) (w : Word) (m n : Nat) (hc : c < 2)
    (href : (s.ck c).refused = false) (hagree : agreeVersion colokTab (bits w 47 16) = some (m, n)) (t : State) (ht : s.ckCapsIn c w = t)
        :
    t.phase (12 + c) = 7 ∧ t.get (F.UNIT_STATE_STATE (entPort (12 + c))) = 2 ∧ t.get (F.COLOK_STATE_MAJOR c) = m
      ∧ t.get (F.COLOK_STATE_MINOR c) = n ∧ t.get (F.COLOK_STATE_VER_VALID c) = 1 ∧ t.get (F.COLOK_STATE_FAR_TAB c) = bits w 47 16 := by
  obtain ⟨hm, hn⟩ := agreeVersion_lt _ _ _ _ hagree
  obtain ⟨s1, hs1⟩ : ∃ s1, s.set (F.COLOK_STATE_FAR_TAB c) (bits w 47 16) = s1 := ⟨_, rfl⟩
  obtain ⟨s2, hs2⟩ : ∃ s2, ((s1.set (F.COLOK_STATE_MAJOR c) m).set (F.COLOK_STATE_MINOR c) n).set (F.COLOK_STATE_VER_VALID c) 1 = s2 :=
      ⟨_, rfl⟩
  obtain ⟨s3, hs3⟩ : ∃ s3, s2.setCk c { s2.ck c with capsGot := true } = s3 := ⟨_, rfl⟩
  obtain ⟨s4, hs4⟩ : ∃ s4, (if (s3.ck c).capsSent then s3 else s3.sendCaps c) = s4 := ⟨_, rfl⟩
  have hck1 : (s1.ck c).refused = false := (congrArg ColokPort.refused (hs1 ▸ State.ck_congr c (State.set_colok _ _ _))).trans href
  have heq : s4.portService (12 + c) = t := by
    rw [← ht]
    symm
    unfold State.ckCapsIn
    dsimp only
    rw [hs1, if_neg (by rw [hck1]; decide), hagree]
    dsimp only
    rw [hs2, hs3, hs4]
  have hapart : ∀ c < 2, ∀ f ∈ [F.COLOK_STATE_MAJOR c, F.COLOK_STATE_MINOR c, F.COLOK_STATE_VER_VALID c, F.COLOK_STATE_FAR_TAB c],
      f.addr ∉ [A.OPT_STATE (12 + c), A.UNIT_STATE (entPort (12 + c)), A.MGMT_ERR, A.ALERT_CAUSE] := by
    intro c hc
    interval_cases c <;> decide
  obtain ⟨h1, h2, hframe⟩ := s4.portService_colok c hc t heq
  have hframe4 : Frame [] s2 s4 := by
    have h3 : Frame [] s2 s3 := hs3 ▸ (Frame.refl [] s2).plain
    exact hs4 ▸ h3.ite (h3.trans (s3.wire_frame [] c _)).plain
  have hget (f : Field) (hf : f ∈ [F.COLOK_STATE_MAJOR c, F.COLOK_STATE_MINOR c, F.COLOK_STATE_VER_VALID c, F.COLOK_STATE_FAR_TAB c]) :
      t.get f = s2.get f := (hframe.get f (hapart c hc f hf)).trans (hframe4.get f List.not_mem_nil)
  refine ⟨h1, h2, ?_, ?_, ?_, ?_⟩
  · rw [hget _ (by simp), ← hs2, State.get_set_apart _ _ _ _ rfl, State.get_set_apart _ _ _ _ rfl]
    exact State.get_set_lt _ _ _ (show 56 ≤ 63 by omega) (show 63 < 64 by omega) (hm.trans (show 8 < 2 ^ (63 + 1 - 56) by decide))
  · rw [hget _ (by simp), ← hs2, State.get_set_apart _ _ _ _ rfl]
    exact State.get_set_lt _ _ _ (show 48 ≤ 55 by omega) (show 55 < 64 by omega) (hn.trans (show 16 < 2 ^ (55 + 1 - 48) by decide))
  · rw [hget _ (by simp), ← hs2]
    exact State.get_set_fits _ _ _ rfl
  · rw [hget _ (by simp), ← hs2, State.get_set_apart _ _ _ _ rfl, State.get_set_apart _ _ _ _ rfl, State.get_set_apart _ _ _ _ rfl, ← hs1]
    exact State.get_set_lt _ _ _ (show 16 ≤ 47 by omega) (show 47 < 64 by omega) (bits_lt w 47 16)

/-- CAPS with no common major: refused until the port trains anew. -/
theorem State.ckCapsIn_refused (s : State) (c : Nat) (w : Word) (hs : s.colok.length = 2) (hc : c < 2)
    (href : (s.ck c).refused = false) (hagree : agreeVersion colokTab (bits w 47 16) = none) (t : State) (ht : s.ckCapsIn c w = t) :
    t.phase (12 + c) = s.phase (12 + c) ∧ (t.ck c).refused = true := by
  obtain ⟨s1, hs1⟩ : ∃ s1, s.set (F.COLOK_STATE_FAR_TAB c) (bits w 47 16) = s1 := ⟨_, rfl⟩
  obtain ⟨s2, hs2⟩ : ∃ s2, s1.set (F.COLOK_STATE_VER_VALID c) 0 = s2 := ⟨_, rfl⟩
  obtain ⟨s3, hs3⟩ : ∃ s3, s2.setCk c { s1.ck c with refused := true } = s3 := ⟨_, rfl⟩
  have hck1 : (s1.ck c).refused = false := (congrArg ColokPort.refused (hs1 ▸ State.ck_congr c (State.set_colok _ _ _))).trans href
  have heq : t = s3.versionRefused (12 + c) 2 0 (bits w 47 16) := by
    rw [← ht]
    unfold State.ckCapsIn
    dsimp only
    rw [hs1, if_neg (by rw [hck1]; decide), hagree]
    dsimp only
    rw [hs2, hs3]
  have hapart : ∀ c < 2, (F.OPT_STATE_PHASE (12 + c)).addr ≠ A.FAULT_LOST
      ∧ (F.OPT_STATE_PHASE (12 + c)).addr ≠ (F.COLOK_STATE_VER_VALID c).addr
      ∧ (F.OPT_STATE_PHASE (12 + c)).addr ≠ (F.COLOK_STATE_FAR_TAB c).addr := by
    decide
  obtain ⟨a1, a2, a3⟩ := hapart c hc
  have hlen2 : c < s2.colok.length := by rw [← hs2, State.set_colok, ← hs1, State.set_colok, hs]; exact hc
  refine ⟨?_, ?_⟩
  · have h3 : s3.get (F.OPT_STATE_PHASE (12 + c)) = s2.get (F.OPT_STATE_PHASE (12 + c)) :=
      hs3 ▸ State.get_congr _ (State.reg_congr _ rfl rfl rfl rfl)
    rw [State.phase, heq, State.versionRefused, State.faultOnce_get _ _ _ _ _ _ a1, h3, ← hs2, State.get_set_ne _ _ _ _ a2, ← hs1,
      State.get_set_ne _ _ _ _ a3]
    rfl
  · rw [heq, State.versionRefused, State.faultOnce_only]
    exact congrArg ColokPort.refused (hs3 ▸ s2.ck_setCk c _ hlen2)

theorem colokFrame_caps (s : State) (c : Nat) (f : Sys2Proof.Frame) (h6 : s.phase (12 + c) = 6) (hgood : f.crc = BitVec.ofNat 32 f.sum)
    (h9 : f.op = 9) : colokFrame c f s = s.ckCapsIn c f.w3 := by
  unfold colokFrame
  dsimp only
  rw [if_pos h6, if_neg (by simp [hgood]), if_pos h9]

/-- A command that brings a frame with an operation of its own. -/
theorem frameCmd_powered (s : State) (c : Nat) (f : Sys2Proof.Frame) (ops : Nat → Bool) (hs : s.powered) (hc : c < 2)
    (hop : ops f.op = true) :
    frameCmd c f ops s = .next (colokFrame c f s) :=
  (lively_powered s c 2 (fun s => if ops f.op then colokFrame c f s else s) hc hs.1 hs.2).trans
    (congrArg Host.Outcome.next (if_pos hop))

/-- Settles O55, frame by frame: each is one path through the arrival of a frame. -/
theorem colokFrames : Obligations.ColokFrames := by
  unfold Obligations.ColokFrames
  intro s c f hs hshape hc
  have hlen : s.colok.length = 2 := hshape.2.2.2.2.2.2.1
  have hbytes : sameBytes s (colokFrame c f s) := ((Keeps.refl s).colokFrame c f).bytes
  have hcmd (ops : Nat → Bool) (hop : ops f.op = true) := frameCmd_powered s c f ops hs hc hop
  refine ⟨fun ⟨h7, h2⟩ hgood hseq hroom hhold hproxy hnone hform => ?_, fun i ⟨h7, h2⟩ hbad hi => ?_,
    fun g ⟨h7, h2⟩ hgood h0 h30 hun hack hout => ?_, fun m n h6 hgood h9 href hagree => ?_, fun h6 hgood h9 hagree href => ?_⟩
  · have heffect (h0 : f.op ≠ 0) (h9 : f.op ≠ 9) (i : Instr) (hi : exec i s = .next (colokFrame c f s)) : ∃ t, exec i s = .next t
        ∧ (t.ck c).mbox = (s.ck c).mbox ++ [frameRequest f]
        ∧ t.get (F.COLOK_SEQ_RX_EXPECT c) = (s.get (F.COLOK_SEQ_RX_EXPECT c) + 1) % 2 ^ 32 ∧ (t.ck c).holdoff = false
        ∧ (t.ck c).nakSent = false ∧ sameBytes s t := by
      obtain ⟨h1, h2, h3, h4⟩ := colokFrame_accepted s c f hlen hc h7 h2 hgood hseq hroom hhold hproxy hnone hform h0 h9 _ rfl
      exact ⟨_, hi, h1, h2, h3, h4, hbytes⟩
    refine ⟨fun h => ?_, fun h => ?_, fun h => ?_, fun h => ?_, fun h => ?_⟩
    · exact heffect (by omega) (by omega) _ (hcmd (fun o => o == 1 || (6 ≤ o && o != 9)) (by rw [h]; decide))
    · exact heffect (by omega) (by omega) _ (hcmd (· == 2) (by rw [h]; decide))
    · exact heffect (by omega) (by omega) _ (hcmd (· == 3) (by rw [h]; decide))
    · exact heffect (by omega) (by omega) _ (hcmd (· == 4) (by rw [h]; decide))
    · exact heffect (by omega) (by omega) _ (hcmd (· == 5) (by rw [h]; decide))
  · have hop : f.op ≠ 0 ∧ f.op ≠ 9 := by
      rcases hi with ⟨h, -⟩ | ⟨h, -⟩ | ⟨h, -⟩ <;> omega
    have hrun : exec i s = .next (s.ckDiscard c) := by
      rw [← colokFrame_discarded s c f hc h7 h2 hbad hop.1 hop.2]
      rcases hi with ⟨h, rfl⟩ | ⟨h, rfl⟩ | ⟨h, rfl⟩
      · exact hcmd (fun o => o == 1 || (6 ≤ o && o != 9)) (by rw [h]; decide)
      · exact hcmd (· == 2) (by rw [h]; decide)
      · exact hcmd (· == 5) (by rw [h]; decide)
    refine ⟨fun hnak => ?_, fun hnak => ?_⟩
    · refine hrun.trans (congrArg Host.Outcome.next ?_)
      have hck : (s.bump (F.COLOK_STAT_FCS_ERR c)).ck c = s.ck c := State.ck_congr c (State.bump_colok _ _)
      rw [State.ckDiscard, hck, hnak]
      rfl
    · obtain ⟨g, h1, h2, h3, h4, h5, hframe⟩ := s.ckDiscard_first c hlen hc hnak _ rfl
      exact ⟨_, g, hrun, h1, h2, h3, h4, h5, hframe.regs, hframe.bytes⟩
  · exact (hcmd (· == 0) (by rw [h0]; decide)).trans (congrArg Host.Outcome.next
      (colokFrame_acked s c f g hc h7 h2 hgood h0 h30 hun hack hout hlen))
  · have hrun : exec (.caps c f) s = .next _ := hcmd (· == 9) (by rw [h9]; decide)
    have hcaps := colokFrame_caps s c f h6 hgood h9
    obtain ⟨h1, h2, h3, h4, h5, h6⟩ := s.ckCapsIn_agreed c f.w3 m n hc href hagree _ hcaps.symm
    exact ⟨_, hrun, h1, h2, h3, h4, h5, h6, hbytes⟩
  · have hrun : exec (.caps c f) s = .next _ := hcmd (· == 9) (by rw [h9]; decide)
    have hcaps := colokFrame_caps s c f h6 hgood h9
    obtain ⟨h1, h2⟩ := s.ckCapsIn_refused c f.w3 hlen hc href hagree _ hcaps.symm
    exact ⟨_, hrun, h1.trans h6, h2, hbytes⟩

end Sys2Proof.Machine

/-! Requests of a Colok port: run, answered, sent again, lost and timed out (O56). -/
namespace Sys2Proof.Machine

/-! ## A frame sent alone (R397, R400) -/

/-- With no frame held back and room in the window, a frame of the sequence goes out at once under the next SEQ. -/
theorem State.emit_alone (s : State) (c : Nat) (f : Sys2Proof.Frame) (hc : c < s.colok.length) (hout : (s.ck c).outq = [])
    (hroom : (s.ck c).unacked.length < 64) : ∃ g : Sys2Proof.Frame, (s.emit c f).sent = s.sent ++ [.frame c g] ∧ g.w0 = f.w0 ∧ g.w1 = f.w1
      ∧ g.w3 = f.w3 ∧ g.payload = f.payload ∧ g.crc = BitVec.ofNat 32 g.sum ∧ g.seq = s.get (F.COLOK_SEQ_TX_NEXT c) := by
  obtain ⟨s1, hs1⟩ : ∃ s1, s.setCk c { s.ck c with outq := (s.ck c).outq ++ [f] } = s1 := ⟨_, rfl⟩
  have hck1 : s1.ck c = { s.ck c with outq := [f] } := by rw [← hs1, s.ck_setCk c _ hc, hout, List.nil_append]
  have hlen1 : c < s1.colok.length := by
    rw [← hs1]
    exact hc.trans_eq List.length_set.symm
  have hsent1 : s1.sent = s.sent := by rw [← hs1, State.setCk_sent]
  have hnext1 : s1.get (F.COLOK_SEQ_TX_NEXT c) = s.get (F.COLOK_SEQ_TX_NEXT c) :=
    hs1 ▸ State.get_congr _ (State.reg_congr _ rfl rfl rfl rfl)
  obtain ⟨g, hg⟩ : ∃ g : Sys2Proof.Frame, { f with w2 := putBits f.w2 63 32 (s1.get (F.COLOK_SEQ_TX_NEXT c)) } = g := ⟨_, rfl⟩
  obtain ⟨u, k, n, hemit⟩ : ∃ u k n, s.emit c f =
      ((s1.setCk c { s1.ck c with outq := [], unacked := u, ackTick := k, sentInSlot := n }).wire c
      g).wrapAdd (F.COLOK_SEQ_TX_NEXT c) 1 := by
    refine ⟨(s.ck c).unacked ++ [g], if (s.ck c).unacked.isEmpty then s1.now else (s.ck c).ackTick, (s.ck c).sentInSlot, ?_⟩
    have hq : (s1.ck c).outq.length = 1 := by rw [hck1]; rfl
    rw [State.emit, hs1, hq, State.drainOut, hck1]
    dsimp only
    rw [if_neg (by omega), hg]
    rfl
  refine ⟨sealFrame g ((s1.setCk c { s1.ck c with outq := [], unacked := u, ackTick := k, sentInSlot := n }).ckAck c), ?_, ?_, ?_, ?_, ?_,
    sealFrame_crc _ _, ?_⟩
  · rw [hemit, State.wrapAdd_sent, State.wire_sent, State.setCk_sent, hsent1]
  · rw [← hg]
    rfl
  · rw [← hg]
    rfl
  · rw [← hg]
    rfl
  · rw [← hg]
    rfl
  · rw [sealFrame_seq, ← hg, Frame.seq, bits_putBits_self _ _ _ _ (by decide) (by decide), hnext1]
    have hlt := s.get_lt (F.COLOK_SEQ_TX_NEXT c)
    exact Nat.mod_eq_of_lt hlt

/-! ## A request that ends (R399, R404) -/

theorem respFrame_fields (tag addr status operand : Nat) (data : List Word) : bits (respFrame tag addr status operand data).w0 63 60 = 8
    ∧ bits (respFrame tag addr status operand data).w0 59 56 = status % 16 ∧ bits (respFrame tag addr status operand data).w1 63 48 = tag
        % 65536 := by
  refine ⟨?_, ?_, ?_⟩ <;>
    simp (disch := decide) only [respFrame, mkWord, List.foldl, bits_putBits_disjoint, bits_putBits_self] <;> rfl

theorem State.countStatus_colok (s : State) (c status : Nat) : (s.countStatus c status).colok = s.colok := by
  unfold State.countStatus
  split <;> simp only [State.bump_colok]

theorem State.countStatus_sent (s : State) (c status : Nat) : (s.countStatus c status).sent = s.sent := by
  unfold State.countStatus
  split <;> simp only [State.bump_sent]

theorem State.countStatus_frame (s : State) (c status : Nat) : Frame [A.COLOK_STAT c, A.COLOK_STAT2 c] s (s.countStatus c status) := by
  have h (f : Field) (hf : f.addr ∈ [A.COLOK_STAT c, A.COLOK_STAT2 c]) : Frame [A.COLOK_STAT c, A.COLOK_STAT2 c] s (s.bump f) :=
    (Frame.refl _ s).bump f hf
  unfold State.countStatus
  split
  · exact h _ (.head _)
  · exact h _ (.tail _ (.head _))
  · exact h _ (.head _)
  · exact h _ (.tail _ (.head _))
  · exact h _ (.tail _ (.head _))
  · exact Frame.refl _ s

/-- A request that ends has left the mailbox. -/
theorem State.finishRequest_mbox (s : State) (c i : Nat) (r : Request) (status operand : Nat) (data : List Word) (hc : c < s.colok.length)
    :
    ((s.finishRequest c i r status operand data).ck c).mbox = (s.ck c).mbox.eraseIdx i := by
  obtain ⟨s1, hs1⟩ : ∃ s1, s.setCk c { s.ck c with mbox := (s.ck c).mbox.eraseIdx i } = s1 := ⟨_, rfl⟩
  obtain ⟨s2, hs2⟩ : ∃ s2, s1.countStatus c status = s2 := ⟨_, rfl⟩
  have hlen1 : c < s1.colok.length := by
    rw [← hs1]
    exact hc.trans_eq List.length_set.symm
  have hck2 : s2.ck c = { s.ck c with mbox := (s.ck c).mbox.eraseIdx i } := by
    rw [← hs2, State.ck_congr c (s1.countStatus_colok c status), ← hs1, s.ck_setCk c _ hc]
  have hlen2 : c < s2.colok.length := by rw [← hs2, State.countStatus_colok]; exact hlen1
  unfold State.finishRequest State.respond
  dsimp only
  rw [hs1, hs2]
  split
  · rw [hck2]
  · obtain ⟨u, k, n, q, hck⟩ := ((CkSends.refl c s2).emit hlen2 (respFrame r.tag r.addr status operand data)).ck
    rw [hck, hck2]

/-- Its answer goes out at once where no frame waits. -/
theorem State.finishRequest_answers (s : State) (c i : Nat) (r : Request) (status operand : Nat) (data : List Word)
    (hlen : s.colok.length = 2)
    (hc : c < 2) (hmute : r.mute = false) (hout : (s.ck c).outq = []) (hroom : (s.ck c).unacked.length < 64) :
    ∃ f : Sys2Proof.Frame, (s.finishRequest c i r status operand data).sent = s.sent ++ [.frame c f] ∧ f.op = 8
      ∧ bits f.w0 59 56 = status % 16 ∧ bits f.w1 63 48 = r.tag % 65536 ∧ f.payload = data ∧ f.crc = BitVec.ofNat 32 f.sum
      ∧ f.seq = s.get (F.COLOK_SEQ_TX_NEXT c) := by
  obtain ⟨s1, hs1⟩ : ∃ s1, s.setCk c { s.ck c with mbox := (s.ck c).mbox.eraseIdx i } = s1 := ⟨_, rfl⟩
  obtain ⟨s2, hs2⟩ : ∃ s2, s1.countStatus c status = s2 := ⟨_, rfl⟩
  have hclen : c < s.colok.length := by omega
  have hck2 : s2.ck c = { s.ck c with mbox := (s.ck c).mbox.eraseIdx i } := by
    rw [← hs2, State.ck_congr c (s1.countStatus_colok c status), ← hs1, s.ck_setCk c _ hclen]
  have hlen2 : c < s2.colok.length := by
    rw [← hs2, State.countStatus_colok, ← hs1]
    exact hclen.trans_eq List.length_set.symm
  have hapart : ∀ c < 2, (F.COLOK_SEQ_TX_NEXT c).addr ∉ [A.COLOK_STAT c, A.COLOK_STAT2 c] := by decide
  have hnext : s2.get (F.COLOK_SEQ_TX_NEXT c) = s.get (F.COLOK_SEQ_TX_NEXT c) := by
    rw [← hs2, (s1.countStatus_frame c status).get _ (hapart c hc), ← hs1]
    exact State.get_congr _ (State.reg_congr _ rfl rfl rfl rfl)
  have hrun : s.finishRequest c i r status operand data = s2.emit c (respFrame r.tag r.addr status operand data) := by
    unfold State.finishRequest State.respond
    dsimp only
    rw [hs1, hmute, if_neg (by decide), hs2]
  obtain ⟨g, h1, h2, h3, -, h5, h6, h7⟩ := s2.emit_alone c (respFrame r.tag r.addr status operand data) hlen2 (by rw [hck2]; exact hout)
    (by rw [hck2]; exact hroom)
  obtain ⟨f1, f2, f3⟩ := respFrame_fields r.tag r.addr status operand data
  have hsent : s2.sent = s.sent := by rw [← hs2, State.countStatus_sent, ← hs1, State.setCk_sent]
  exact ⟨g, by rw [hrun, h1, hsent], by rw [Frame.op, h2, f1], by rw [h2, f2], by rw [h3, f3], h5, h6, h7.trans hnext⟩

/-! ## A request of one word (R398, R399) -/

/-- The words of a request for one word: its access at its address. -/
theorem State.runWords_one (s : State) (o : Origin) (r : Request) (v : Option Word) (hop : r.op = (if v.isSome then 1 else 2))
    (hcount : r.count = 1) (haddr : r.addr < 2 ^ 48) (hw : ∀ w, v = some w → r.words.getD 0 0 = w) : s.runWords o r =
    ((s.devWord o r.addr v).st, (s.devWord o r.addr v).status, if (s.devWord o r.addr v).status = stOk then noWord else 0,
      if v.isSome then [] else [(s.devWord o r.addr v).data]) := by
  have hstream : streamAddr r.addr 0 = r.addr := by
    unfold streamAddr
    split
    · rfl
    · rw [Nat.mul_zero, Nat.add_zero, Nat.mod_eq_of_lt haddr]
  have hops : r.op ≠ 5 ∧ ¬ (r.op = 3 ∨ r.op = 4) := by
    rw [hop]
    split <;> omega
  have hword : (if r.writes then some (r.words.getD 0 0) else none) = v := by
    cases v with
    | none =>
      have h : r.writes = false := by rw [Request.writes, hop]; rfl
      rw [h]
      rfl
    | some w =>
      have h : r.writes = true := by rw [Request.writes, hop]; rfl
      rw [h, hw w rfl]
      rfl
  have hwrites : r.writes = v.isSome := by
    rw [Request.writes, hop]
    cases v <;> rfl
  have hone : (List.range r.count).foldl (fun x i => Running.word x o r i) ((s, stOk, noWord, []) : Running)
      = ((s.devWord o r.addr v).st, (s.devWord o r.addr v).status, if (s.devWord o r.addr v).status = stOk then noWord else 0,
        if v.isSome then [] else [(s.devWord o r.addr v).data]) := by
    have hfold : (List.range r.count).foldl (fun x i => Running.word x o r i) ((s, stOk, noWord, []) : Running)
        = Running.word (s, stOk, noWord, []) o r 0 := by
      rw [hcount]
      rfl
    rw [hfold, Running.word]
    dsimp only
    rw [hstream, hword, hwrites, Running.next]
    dsimp only
    by_cases h : (s.devWord o r.addr v).status = stOk
    · rw [if_pos rfl, if_neg (fun h' => h'.2 h), if_pos h, List.nil_append]
    · rw [if_pos rfl, if_pos ⟨rfl, h⟩, if_neg h, List.nil_append]
  unfold State.runWords
  rw [if_neg hops.1]
  split
  · rw [if_neg fun h => hops.2 h.1]
    exact hone
  · exact hone

/-- The request at the front of a mailbox of one runs and is answered. -/
theorem requestComplete_one (s : State) (c : Nat) (r : Request) (v : Option Word) (hbox : (s.ck c).mbox = [r])
    (hop : r.op = (if v.isSome then 1 else 2)) (hcount : r.count = 1) (hproxy : r.proxy = none) (haddr : r.addr < 2 ^ 48)
    (hw : ∀ w, v = some w → r.words = [w]) (hbox' : ((s.devWord (colokOrigin c) r.addr v).st.ck c).mbox = [r]) :
    requestComplete c 0 s = (s.devWord (colokOrigin c) r.addr v).st.finishRequest c 0 r (s.devWord (colokOrigin c) r.addr v).status
      (if (s.devWord (colokOrigin c) r.addr v).status = stOk then noWord else 0)
      (if v.isSome then [] else [(s.devWord (colokOrigin c) r.addr v).data]) := by
  have hmay : ckMayRun [r] 0 = true := by
    unfold ckMayRun
    dsimp only [List.getElem?_cons_zero]
    split <;> rfl
  have hrun := s.runWords_one (colokOrigin c) r v hop hcount haddr fun w hv => congrArg (·.getD 0 0) (hw w hv)
  generalize s.devWord (colokOrigin c) r.addr v = d at *
  have hc : c < d.st.colok.length := by
    by_contra h
    have hnone : d.st.ck c = {} := by
      rw [State.ck, List.getD_eq_getElem?_getD, List.getElem?_eq_none (by omega)]
      rfl
    rw [hnone] at hbox'
    exact absurd hbox' (by simp)
  unfold requestComplete
  dsimp only
  rw [hbox]
  dsimp only [List.getElem?_cons_zero]
  rw [if_neg (by rw [hproxy, hmay]; simp), hrun]
  dsimp only
  rw [hbox']
  dsimp only [List.getElem?_cons_zero]
  refine State.forwardAll_none _ _ _ fun q hq => ?_
  rw [State.finishRequest_mbox _ _ _ _ _ _ _ hc, hbox'] at hq
  exact absurd hq List.not_mem_nil

/-! ## Resending, and the loss of the link (R400, R401) -/

theorem State.resendAll_one (s : State) (c : Nat) (g : Sys2Proof.Frame) (hlen : c < s.colok.length) (hun : (s.ck c).unacked = [g])
    (t : State)
    (ht : s.resendAll c = t) : (∃ f : Sys2Proof.Frame, t.sent = s.sent ++ [.frame c f] ∧ f.seq = g.seq ∧ f.payload = g.payload)
      ∧ (t.ck c).unacked = [g] ∧ (t.ck c).ackTick = s.now
      ∧ t.get (F.COLOK_STAT_RESENT c) = (s.bump (F.COLOK_STAT_RESENT c)).get (F.COLOK_STAT_RESENT c) ∧ Frame [A.COLOK_STAT c] s t := by
  obtain ⟨s1, hs1⟩ : ∃ s1, s.wire c g = s1 := ⟨_, rfl⟩
  obtain ⟨s2, hs2⟩ : ∃ s2, s1.bump (F.COLOK_STAT_RESENT c) = s2 := ⟨_, rfl⟩
  have heq : t = s2.setCk c { s2.ck c with ackTick := s.now } := by
    rw [← ht, State.resendAll, hun, List.foldl_cons, List.foldl_nil, hs1, hs2]
  have hck1 : s1.ck c = { s.ck c with sentInSlot := true } := hs1 ▸ s.wire_ck c g hlen
  have hck2 : s2.ck c = s1.ck c := hs2 ▸ State.ck_congr c (State.bump_colok _ _)
  have hlen2 : c < s2.colok.length := by
    rw [← hs2, State.bump_colok, ← hs1]
    exact hlen.trans_eq List.length_set.symm
  refine ⟨⟨sealFrame g (s.ckAck c), ?_, sealFrame_seq _ _, rfl⟩, ?_, ?_, ?_, ?_⟩
  · rw [heq, State.setCk_sent, ← hs2, State.bump_sent, ← hs1, State.wire_sent]
  · rw [heq, s2.ck_setCk c _ hlen2, hck2, hck1]
    exact hun
  · rw [heq, s2.ck_setCk c _ hlen2]
  · have hget1 : s1.get (F.COLOK_STAT_RESENT c) = s.get (F.COLOK_STAT_RESENT c) := hs1 ▸ (s.wire_frame [] c g).get _ List.not_mem_nil
    have hget : t.get (F.COLOK_STAT_RESENT c) = s2.get (F.COLOK_STAT_RESENT c) :=
      heq ▸ State.get_congr _ (State.reg_congr _ rfl rfl rfl rfl)
    rw [hget, ← hs2]
    exact State.get_bump_congr s s1 _ rfl hget1
  · rw [heq]
    exact (hs2 ▸ Frame.bump (hs1 ▸ s.wire_frame _ c g) _).plain

/-- A Colok port in service whose link is lost. -/
theorem colokLinkLost_effect (s : State) (c : Nat) (hlen : s.colok.length = 2) (hc : c < 2) (h7 : s.phase (12 + c) = 7)
    (h2 : s.get (F.UNIT_STATE_STATE (entPort (12 + c))) = 2) (hmiss : 4 ≤ (s.optic (12 + c)).missSlots) (t : State)
    (ht : colokLinkLost c s = t) : t.get (F.UNIT_STATE_STATE (entPort (12 + c))) = 4
      ∧ t.get (F.COLOK_STAT2_LINK_DOWN c) = (s.bump (F.COLOK_STAT2_LINK_DOWN c)).get (F.COLOK_STAT2_LINK_DOWN c)
      ∧ t.reg (A.COLOK_SEQ c) = 0 ∧ t.get (F.COLOK_STATE_VER_VALID c) = 0
      ∧ (t.ck c).mbox = (s.ck c).mbox.map fun r => { r with mute := true } := by
  obtain ⟨-, ⟨-, hserve⟩, -⟩ := colokPort_ready s c hc h7 h2
  obtain ⟨s1, hs1⟩ : ∃ s1, (if (s.optic (12 + c)).linkFailed then s.set (F.OPT_STATE_FAIL_REASON (12 + c)) 9 else s) = s1 := ⟨_, rfl⟩
  obtain ⟨s2, hs2⟩ : ∃ s2, s1.linkDown (12 + c) = s2 := ⟨_, rfl⟩
  obtain ⟨s3, hs3⟩ : ∃ s3, s2.bump (F.COLOK_STAT2_LINK_DOWN c) = s3 := ⟨_, rfl⟩
  have heq : t = s3.setUnit (entPort (12 + c)) usDown := by
    rw [← ht, ← hs3, ← hs2, ← hs1]
    exact if_pos ⟨h7, hserve, .inl hmiss⟩
  have hapart : ∀ c < 2, (F.COLOK_STAT2_LINK_DOWN c).addr ≠ A.OPT_STATE (12 + c) ∧ A.COLOK_SEQ c ≠ A.OPT_STATE (12 + c)
      ∧ (F.COLOK_STATE_VER_VALID c).addr ≠ A.OPT_STATE (12 + c)
      ∧ (∀ a ∈ [A.COLOK_SEQ c, A.COLOK_STATE c, A.COLOK_STAT2 c], a ∉ [A.UNIT_STATE (entPort (12 + c)), A.MGMT_ERR, A.ALERT_CAUSE])
      ∧ A.COLOK_STAT2 c ∉ [A.COLOK_SEQ c, A.COLOK_STATE c, A.MGMT_ERR] ∧ A.COLOK_SEQ c ≠ A.COLOK_STATE c
      ∧ A.COLOK_SEQ c ∉ [A.MGMT_ERR] ∧ A.COLOK_STATE c ∉ [A.MGMT_ERR] ∧ A.COLOK_SEQ c ≠ A.COLOK_STAT2 c ∧ A.COLOK_STATE c ≠ A.COLOK_STAT2
          c := by
    intro c hc
    interval_cases c <;> decide
  obtain ⟨a1, a2, a3, a4, a5, a6, a7, a8, a9, a10⟩ := hapart c hc
  have hframe1 : Frame [A.OPT_STATE (12 + c)] s s1 := hs1 ▸ ((Frame.refl _ s).set _ _).ite (Frame.refl _ s)
  have hck1 : s1.colok = s.colok := by
    rw [← hs1]
    split
    · exact State.set_colok _ _ _
    · rfl
  obtain ⟨d, hd⟩ : ∃ d, s1.colokDrop c = d := ⟨_, rfl⟩
  obtain ⟨h1, h2, h3, h4⟩ : d.reg (A.COLOK_SEQ c) = 0 ∧ d.get (F.COLOK_STATE_VER_VALID c) = 0
      ∧ (d.ck c).mbox = (s.ck c).mbox.map (fun r => { r with mute := true }) ∧ Frame [A.COLOK_SEQ c, A.COLOK_STATE c] s1 d := by
    obtain ⟨x, hx⟩ : ∃ x, s1.setCk c { mbox := (s1.ck c).mbox.map fun r => { r with mute := true } } = x := ⟨_, rfl⟩
    have hdx : (x.setReg (A.COLOK_SEQ c) 0).set (F.COLOK_STATE_VER_VALID c) 0 = d := by
      rw [← hd, ← hx]
      rfl
    refine ⟨?_, ?_, ?_, ?_⟩
    · rw [← hdx, State.set, State.reg_setReg_ne _ _ _ _ (by exact a6), State.reg_setReg_self]
    · rw [← hdx]
      exact State.get_set_fits _ _ _ rfl
    · rw [← hdx, State.ck_congr c (State.set_colok _ _ _), State.ck_congr c (State.setReg_colok _ _ _), ← hx,
        State.ck_setCk _ _ _ (by rw [hck1, hlen]; exact hc), State.ck_congr c hck1]
    · rw [← hdx, ← hx]
      exact (((Frame.refl _ s1).plain).setReg _ _).set _ _ (.tail _ (.head _))
  have hdown : s2 = d ∨ ∃ die e, s2 = d.post die e := by
    have h0 : (if 12 + c < 12 then s1.set (F.SPK_CAD_DELAY_VALID (12 + c)) 0 else s1.colokDrop (12 + c - 12)) = d := by
      rw [if_neg (by omega), Nat.add_sub_cancel_left, hd]
    rw [← hs2]
    unfold State.linkDown
    dsimp only
    rw [h0]
    split
    · exact .inr ⟨_, _, rfl⟩
    · exact .inl rfl
  have hframe2 : Frame [A.MGMT_ERR] d s2 ∧ s2.colok = d.colok := by
    rcases hdown with h | ⟨die, e, h⟩
    · rw [h]
      exact ⟨Frame.refl _ d, rfl⟩
    · exact ⟨h ▸ d.post_frame die e, by rw [h, State.post_only]⟩
  have hunit (f : Field) (hf : f.addr ∈ [A.COLOK_SEQ c, A.COLOK_STATE c, A.COLOK_STAT2 c]) : t.get f = s3.get f :=
    heq ▸ (s3.setUnit_portFrame _ _ (by omega)).get f (a4 _ hf)
  have hunit' : t.colok = s3.colok := by rw [heq, State.setUnit_only]
  refine ⟨heq ▸ s3.setUnit_port _ _ (by omega) (by decide), ?_, ?_, ?_, ?_⟩
  · rw [hunit _ (.tail _ (.tail _ (.head _))), ← hs3]
    refine State.get_bump_congr s s2 _ rfl ?_
    rw [hframe2.1.get _ (fun h => a5 (by simpa using .inr (.inr (List.mem_singleton.mp h)))),
      h4.get _ (fun h => a5 (List.mem_append_left [A.MGMT_ERR] h)), hframe1.get _ (by simpa using a1)]
  · rw [heq, (s3.setUnit_portFrame _ _ (by omega)).regs _ (a4 _ (.head _)), ← hs3, State.bump, State.add, State.set,
      State.reg_setReg_ne _ _ _ _ (show A.COLOK_SEQ c ≠ (F.COLOK_STAT2_LINK_DOWN c).addr from a9), hframe2.1.regs _ a7, h1]
  · rw [hunit _ (.tail _ (.head _)), ← hs3, State.bump, State.add, State.get_set_ne _ _ _ _ a10, hframe2.1.get _ a8, h2]
  · rw [State.ck_congr c hunit', ← hs3, State.ck_congr c (State.bump_colok _ _), State.ck_congr c hframe2.2, h3]

/-- Settles O56, part by part: a request that runs, its answer, the resending, the loss of the link, and the time-out of a proxied request. -/
theorem colokRequests : Obligations.ColokRequests := by
  unfold Obligations.ColokRequests
  intro s c hs hshape hc
  have hlen : s.colok.length = 2 := hshape.2.2.2.2.2.2.1
  refine ⟨fun r v hbox hop hcount hproxy hmute haddr hw hbox' => ?_, fun x r status operand data hbox hlen' hmute hout hroom hst hdata =>
      ?_,
    fun g h7 hun hack => ?_, fun h7 h2 hmiss => ?_, fun i r hi hr hstarted htime hall => ?_⟩
  · have hlive : execRequestComplete c 0 s = .next _ := lively_powered s c 2 (requestComplete c 0) hc hs.1 hs.2
    exact hlive.trans (congrArg Host.Outcome.next (requestComplete_one s c r v hbox hop hcount hproxy haddr hw hbox'))
  · obtain ⟨f, h1, h2, h3, h4, h5, h6, h7⟩ := x.finishRequest_answers c 0 r status operand data hlen' hc hmute hout hroom
    refine ⟨f, h1, ?_, h2, h3.trans (Nat.mod_eq_of_lt hst), h4, h5, h6, h7,
        ((Keeps.refl x).finishRequest c 0 r status operand data).bytes⟩
    rw [x.finishRequest_mbox _ _ _ _ _ _ (by omega), hbox]
    rfl
  · have hlive : execColokResendTimeout c s = .next _ := lively_powered s c 2 (colokResendTimeout c) hc hs.1 hs.2
    have heq : s.resendAll c = colokResendTimeout c s := (if_pos ⟨h7, by rw [hun]; rfl, hack⟩).symm
    obtain ⟨⟨f, h1, h2, h3⟩, h4, h5, h6, hframe⟩ := s.resendAll_one c g (by omega) hun _ heq
    exact ⟨_, f, hlive, h1, h2, h3, h4, h5, h6, hframe.regs, hframe.bytes⟩
  · have hlive : execColokLinkLost c s = .next _ := lively_powered s c 2 (colokLinkLost c) hc hs.1 hs.2
    obtain ⟨h3, h4, h5, h6, h8⟩ := colokLinkLost_effect s c hlen hc h7 h2 hmiss _ rfl
    refine ⟨_, hlive, h3, h4, h5, h6, fun r hr => ?_, ?_, ((Keeps.refl s).colokLinkLost c).bytes⟩
    · rw [h8] at hr
      obtain ⟨q, -, rfl⟩ := List.mem_map.mp hr
      rfl
    · rw [h8, List.length_map]
  · have hlive : execProxyTimeout (32 * c + i) s = .next _ := lively_powered s (32 * c + i) 64 (proxyTimeout (32 * c + i)) (by omega) hs.1
      hs.2
    refine hlive.trans (congrArg Host.Outcome.next ?_)
    unfold proxyTimeout
    have hdiv : (32 * c + i) / 32 = c ∧ (32 * c + i) % 32 = i := by omega
    dsimp only
    rw [hdiv.1, hdiv.2, hr]
    dsimp only
    rw [if_pos ⟨hstarted, htime⟩]
    refine State.forwardAll_none _ _ _ fun q hq => ?_
    rw [State.finishRequest_mbox _ _ _ _ _ _ _ (by omega)] at hq
    exact (hall q (List.mem_of_mem_eraseIdx hq)).symm

end Sys2Proof.Machine

/-! The start of a step: accepted, taken, missed, and the entry to RUN (O41). -/
namespace Sys2Proof.Machine

/-! ## What a start finds (R203, R204) -/

theorem State.on_of_one (s : State) (f : Field) (h : s.get f = 1) : s.on f = true := (s.on_iff f).mpr (by omega)

theorem State.on_of_zero (s : State) (f : Field) (h : s.get f = 0) : s.on f = false := by
  rw [State.on, h]
  rfl

/-- Register writes of a list, one after another, leave the registers that none of them names. -/
theorem State.foldl_setReg_reg {α : Type} (l : List α) (addr : α → Nat) (val : State → α → Word) (s : State) (a : Nat)
    (h : ∀ x ∈ l, addr x ≠ a) : (l.foldl (fun s x => s.setReg (addr x) (val s x)) s).reg a = s.reg a :=
  List.foldlRecOn (motive := fun t : State => t.reg a = s.reg a) _ _ rfl fun _ ht x hx =>
    (State.reg_setReg_ne _ _ _ _ (h x hx).symm).trans ht

theorem seqStartArm_accepted (s : State) (slot : Nat) (hmode : s.get F.SEQ_CTRL_APPLY_MODE = 0) (h1 : 1 ≤ s.get F.SEQ_PLAN_RUN_OFF)
    (h2 : s.get F.SEQ_PLAN_RUN_OFF < s.get F.SEQ_PLAN_VERDICT_OFF) (h3 : s.get F.SEQ_PLAN_VERDICT_OFF < s.get F.SEQ_PLAN_COMMIT_OFF)
    (h4 : 1 ≤ s.get F.SEQ_VCFG_VOTERS) (h5 : s.get F.SEQ_VCFG_VOTERS ≤ 65536) (h6 : s.slot + 2 ≤ slot) (hslot : slot < 2 ^ 56)
    (hmissed : s.get F.SEQ_STATE_MISSED = 0) (hpend : s.get F.SEQ_RETAIN_APPLY_PENDING = 0) (t : State) (ht : seqStartArm slot s = t) :
    t.get F.SEQ_START_ARMED = 1 ∧ t.get F.SEQ_START_START_SLOT = slot ∧ Frame [A.SEQ_START] s t := by
  obtain ⟨x, hx⟩ : ∃ x, s.set F.SEQ_START_START_SLOT slot = x := ⟨_, rfl⟩
  have hget (f : Field) (hf : f.addr ≠ A.SEQ_START) : x.get f = s.get f := hx ▸ State.get_set_ne _ _ _ _ hf
  have hstart : x.get F.SEQ_START_START_SLOT = slot := hx ▸ State.get_set_lt _ _ _ (by decide) (by decide) hslot
  have hnow : x.slot = s.slot := by
    rw [← hx]
    rfl
  have hping : x.pingPong = false := x.on_of_zero _ ((hget _ (by decide)).trans hmode)
  have heq : t = x.set F.SEQ_START_ARMED 1 := by
    rw [← ht, seqStartArm, hx]
    rw [hget _ (by decide), hget _ (by decide), hget _ (by decide), hget _ (by decide), hstart, hnow, hping]
    exact if_pos ⟨h1, h2, h3, h4, h5, h6, fun h => absurd h (by decide), x.on_of_zero _ ((hget _ (by decide)).trans hmissed),
      x.on_of_zero _ ((hget _ (by decide)).trans hpend)⟩
  refine ⟨heq ▸ State.get_set_fits _ _ _ rfl, ?_, ?_⟩
  · rw [heq, State.get_set_apart _ _ _ _ rfl, hstart]
  · rw [heq, ← hx]
    exact ((Frame.refl _ s).set _ _).set _ _

theorem seqStartArm_refused (s : State) (slot : Nat) (h : slot < s.slot + 2) (hslot : slot < 2 ^ 56) (t : State)
    (ht : seqStartArm slot s = t) :
    t.get F.SEQ_START_ARMED = 0 ∧ t.get F.SEQ_ERR_START_REFUSED = (s.bump F.SEQ_ERR_START_REFUSED).get F.SEQ_ERR_START_REFUSED
      ∧ Frame [A.SEQ_START, A.SEQ_ERR] s t := by
  obtain ⟨x, hx⟩ : ∃ x, s.set F.SEQ_START_START_SLOT slot = x := ⟨_, rfl⟩
  have hstart : x.get F.SEQ_START_START_SLOT = slot := hx ▸ State.get_set_lt _ _ _ (by decide) (by decide) hslot
  have hnow : x.slot = s.slot := by
    rw [← hx]
    rfl
  obtain ⟨y, hy⟩ : ∃ y, x.set F.SEQ_START_ARMED 0 = y := ⟨_, rfl⟩
  have heq : t = y.bump F.SEQ_ERR_START_REFUSED := by
    rw [← ht, ← hy, seqStartArm, hx]
    refine if_neg fun hc => ?_
    have h6 := hc.2.2.2.2.2.1
    rw [hstart, hnow] at h6
    omega
  have hframe : Frame [A.SEQ_START, A.SEQ_ERR] s y := hy ▸ hx ▸ ((Frame.refl _ s).set _ _).set _ _
  refine ⟨?_, ?_, heq ▸ hframe.bump _ (.tail _ (.head _))⟩
  · rw [heq, State.bump, State.add, State.get_set_ne _ _ _ _ (by decide), ← hy]
    exact State.get_set_fits _ _ _ rfl
  · rw [heq]
    refine State.get_bump_congr s y _ rfl ?_
    rw [← hy, State.get_set_ne _ _ _ _ (by decide), ← hx, State.get_set_ne _ _ _ _ (by decide)]

/-- A start that passes, or is not allowed, with nothing to arm anew. -/
theorem stepStart_missed (s : State) (harmed : s.get F.SEQ_START_ARMED = 1) (hslot : s.now % 256 = 0)
    (hle : s.get F.SEQ_START_START_SLOT ≤ s.slot) (hno : s.startAllowed = false) (hauto : s.get F.SEQ_CTRL_AUTO_NEXT = 0) (t : State)
    (ht : stepStart s = t) : t.get F.SEQ_START_ARMED = 0
      ∧ t.get F.SEQ_ERR_START_MISSED = (s.bump F.SEQ_ERR_START_MISSED).get F.SEQ_ERR_START_MISSED ∧ Frame [A.SEQ_START, A.SEQ_ERR] s t :=
          by
  have hat : s.atSlot = true := beq_iff_eq.mpr hslot
  obtain ⟨y, hy⟩ : ∃ y, s.set F.SEQ_START_ARMED 0 = y := ⟨_, rfl⟩
  have hauto' : (y.bump F.SEQ_ERR_START_MISSED).on F.SEQ_CTRL_AUTO_NEXT = false := by
    refine State.on_of_zero _ _ ?_
    rw [State.bump, State.add, State.get_set_ne _ _ _ _ (by decide), ← hy, State.get_set_ne _ _ _ _ (by decide), hauto]
  have heq : t = y.bump F.SEQ_ERR_START_MISSED := by
    rw [← ht, stepStart]
    rw [if_pos ⟨s.on_of_one _ harmed, hat, hle⟩, if_neg (by rw [hno]; simp), hy, State.rearm]
    exact if_neg fun h => absurd h.1 (by rw [hauto']; decide)
  have hframe : Frame [A.SEQ_START, A.SEQ_ERR] s y := hy ▸ (Frame.refl _ s).set _ _
  refine ⟨?_, ?_, heq ▸ hframe.bump _ (.tail _ (.head _))⟩
  · rw [heq, State.bump, State.add, State.get_set_ne _ _ _ _ (by decide), ← hy]
    exact State.get_set_fits _ _ _ rfl
  · rw [heq]
    exact State.get_bump_congr s y _ rfl (by rw [← hy, State.get_set_ne _ _ _ _ (by decide)])

/-! ## LOAD (R190, R204) -/

/-- The snapshots of the draw counts lie in the cores' pages. -/
theorem rngSnap_ne (n i a : Nat) (hn : n < 100) (hi : i < 2) (ha : 0x300000000000 ≤ a) : A.RNG_SNAP n i ≠ a := by
  simp only [A.RNG_SNAP, coreReg]
  omega

theorem State.mem_stepCores (s : State) (n : Nat) (h : n ∈ s.stepCores) : n < 100 := List.mem_range.mp (List.mem_of_mem_filter h)

/-- The footprints of the versions start from zero. -/
theorem State.footprints_zero (s : State) (v : Nat) (hv : v < 8) : (s.forN 8 fun s v => s.setReg (A.ACT_FOOT v) 0).reg (A.ACT_FOOT v) =
    0 := by
  have hall : ∀ n ≤ 8, ∀ v < n, (s.forN n fun s v => s.setReg (A.ACT_FOOT v) 0).reg (A.ACT_FOOT v) = 0 := by
    intro n hn
    induction n with
    | zero => exact fun v hv => absurd hv (Nat.not_lt_zero v)
    | succ n ih =>
      intro v hv
      have hstep : s.forN (n + 1) (fun s v => s.setReg (A.ACT_FOOT v) 0) = (s.forN n fun s v => s.setReg (A.ACT_FOOT v) 0).setReg
          (A.ACT_FOOT n) 0 := by
        simp only [State.forN, List.range_succ, List.foldl_append, List.foldl_cons, List.foldl_nil]
      rw [hstep]
      by_cases h : v = n
      · rw [h, State.reg_setReg_self]
      · rw [State.reg_setReg_ne _ _ _ _ (by simp only [A.ACT_FOOT]; omega)]
        exact ih (by omega) v (by omega)
  exact hall 8 le_rfl v hv

theorem State.footprints_reg (s : State) (a : Nat) (ha : ∀ v < 8, A.ACT_FOOT v ≠ a) :
    (s.forN 8 fun s v => s.setReg (A.ACT_FOOT v) 0).reg a = s.reg a :=
  State.foldl_setReg_reg _ A.ACT_FOOT (fun _ _ => 0) s a fun v hv => ha v (List.mem_range.mp hv)

/-- With no standing order the step arms no context. -/
theorem State.armStep_none (s : State) (start tag : Nat) (h : ∀ c < 16, s.get (F.RC_CFG_STEP_REL c) = 0) : s.armStep start tag = s := by
  have hall : ∀ n ≤ 16, (List.range n).foldl (fun s c =>
      if s.on (F.RC_CFG_STEP_REL c) ∧ s.on (F.RC_START_ARMED c) ∧ s.cxKind c ≠ 0 then
        if s.cxState c ≠ 0 then s.bump (F.RC_ERR_START_MISSED c)
        else s.cxArm c (start + s.get (F.RC_START_START c)) ((start + s.get (F.RC_START_START c)) * 256 + s.get (F.RC_DL_DL c)) true tag
      else s) s = s := by
    intro n hn
    induction n with
    | zero => rfl
    | succ n ih =>
      rw [List.range_succ, List.foldl_append, ih (by omega), List.foldl_cons, List.foldl_nil]
      exact if_neg fun hc => absurd hc.1 (by rw [s.on_of_zero _ (h n (by omega))]; decide)
  exact hall 16 le_rfl


/-- Entry to LOAD with no standing order and no start to arm anew. -/
theorem State.enterLoad_effect (s : State) (start : Nat) (hauto : s.get F.SEQ_CTRL_AUTO_NEXT = 0)
    (hrel : ∀ c < 16, s.get (F.RC_CFG_STEP_REL c) = 0) (t : State) (ht : s.enterLoad start = t) : t.get F.SEQ_STATE_STATE = 1
      ∧ t.get F.SEQ_START_ARMED = 0 ∧ t.seq.start = start ∧ t.seq.discarded = [] ∧ t.get F.SEQ_STATE_FAILED = 0
      ∧ ∀ v < 8, t.reg (A.ACT_FOOT v) = 0 := by
  obtain ⟨s1, hs1⟩ : ∃ s1, (s.set F.SEQ_START_ARMED 0).setSeq sqLoad = s1 := ⟨_, rfl⟩
  obtain ⟨s2, hs2⟩ : ∃ s2, s1.stepCores.foldl (fun x n => x.setReg (A.RNG_SNAP n (s.get F.SEQ_STEP_TAG % 2)) (x.reg (A.RNG_COUNT n))) s1 =
      s2 :=
    ⟨_, rfl⟩
  obtain ⟨s3, hs3⟩ : ∃ s3, ((s2.setReg A.SEQ_CHECK 0).setReg A.SEQ_VOTE 0).set F.SEQ_STATE_FAILED 0 = s3 := ⟨_, rfl⟩
  obtain ⟨s4, hs4⟩ : ∃ s4, (s3.forN 8 fun s v => s.setReg (A.ACT_FOOT v) 0) = s4 := ⟨_, rfl⟩
  obtain ⟨s5, hs5⟩ : ∃ s5, ({ s4 with seq := { s4.seq with start := start, normIn := false, discarded := [] } } : State) = s5 := ⟨_, rfl⟩
  have hreg5 (a : Nat) : s5.reg a = s4.reg a := hs5 ▸ State.reg_congr a rfl rfl rfl rfl
  have hreg4 (a : Nat) (ha : ∀ v < 8, A.ACT_FOOT v ≠ a) : s4.reg a = s3.reg a := hs4 ▸ s3.footprints_reg a ha
  have hreg2 (a : Nat) (ha : 0x300000000000 ≤ a) : s2.reg a = s1.reg a := by
    rw [← hs2]
    exact State.foldl_setReg_reg _ (fun n => A.RNG_SNAP n (s.get F.SEQ_STEP_TAG % 2)) (fun x n => x.reg (A.RNG_COUNT n)) s1 a
      fun n hn => rngSnap_ne n _ a (s1.mem_stepCores n hn) (Nat.mod_lt _ (by decide)) ha
  have hfoot : ∀ a ∈ [A.SEQ_STATE, A.SEQ_START, A.SEQ_CTRL], (∀ v < 8, A.ACT_FOOT v ≠ a) ∧ 0x300000000000 ≤ a := by decide
  have hget3 (f : Field) (hf : f.addr ∈ [A.SEQ_STATE, A.SEQ_START, A.SEQ_CTRL]) : s5.get f = s3.get f :=
    State.get_congr f ((hreg5 _).trans (hreg4 _ (hfoot _ hf).1))
  have hget1 (f : Field) (hf : f.addr ∈ [A.SEQ_STATE, A.SEQ_START, A.SEQ_CTRL])
      (hapart : f.addr ≠ A.SEQ_STATE ∨ F.SEQ_STATE_FAILED.apart f = true) :
      s5.get f = s1.get f := by
    have hne : ∀ a ∈ [A.SEQ_STATE, A.SEQ_START, A.SEQ_CTRL], a ≠ A.SEQ_VOTE ∧ a ≠ A.SEQ_CHECK := by decide
    have h3 : s3.get f = ((s2.setReg A.SEQ_CHECK 0).setReg A.SEQ_VOTE 0).get f := by
      rw [← hs3]
      exact hapart.elim (fun h => State.get_set_ne _ _ _ _ h) (fun h => State.get_set_apart _ _ _ _ h)
    rw [hget3 f hf, h3]
    refine State.get_congr f ?_
    rw [State.reg_setReg_ne _ _ _ _ (hne _ hf).1, State.reg_setReg_ne _ _ _ _ (hne _ hf).2, hreg2 _ (hfoot _ hf).2]
  have hrel5 (c : Nat) (hc : c < 16) : s5.get (F.RC_CFG_STEP_REL c) = 0 := by
    have haddr : 0x300000000000 ≤ A.RC_CFG c ∧ (∀ v < 8, A.ACT_FOOT v ≠ A.RC_CFG c) ∧ A.RC_CFG c ≠ A.SEQ_STATE ∧ A.RC_CFG c ≠ A.SEQ_VOTE
        ∧ A.RC_CFG c ≠ A.SEQ_CHECK ∧ A.RC_CFG c ≠ A.SEQ_START := by
      have h : ∀ c < 16, 0x300000000000 ≤ A.RC_CFG c ∧ (∀ v < 8, A.ACT_FOOT v ≠ A.RC_CFG c) ∧ A.RC_CFG c ≠ A.SEQ_STATE
          ∧ A.RC_CFG c ≠ A.SEQ_VOTE ∧ A.RC_CFG c ≠ A.SEQ_CHECK ∧ A.RC_CFG c ≠ A.SEQ_START := by decide
      exact h c hc
    obtain ⟨a1, a2, a3, a4, a5, a6⟩ := haddr
    refine (State.get_congr _ ?_).trans (hrel c hc)
    change s5.reg (A.RC_CFG c) = s.reg (A.RC_CFG c)
    have hframe1 : Frame [A.SEQ_START, A.SEQ_STATE] s s1 := hs1 ▸ ((Frame.refl _ s).set _ _).set _ _ (.tail _ (.head _))
    have hframe3 : Frame [A.SEQ_CHECK, A.SEQ_VOTE, A.SEQ_STATE] s2 s3 :=
      hs3 ▸ (((Frame.refl _ s2).setReg _ _).setReg _ _ (.tail _ (.head _))).set _ _ (.tail _ (.tail _ (.head _)))
    rw [hreg5, hreg4 _ a2, hframe3.regs _ (by simp [a3, a4, a5]), hreg2 _ a1, hframe1.regs _ (by simp [a3, a6])]
  have hauto5 : s5.on F.SEQ_CTRL_AUTO_NEXT = false := by
    refine s5.on_of_zero _ ?_
    rw [hget1 _ (by simp [F.SEQ_CTRL_AUTO_NEXT]) (.inl (by decide)), ← hs1, State.setSeq, State.get_set_ne _ _ _ _ (by decide),
      State.get_set_ne _ _ _ _ (by decide), hauto]
  have heq : t = s5 := by
    rw [← ht, State.enterLoad]
    dsimp only
    rw [hs1, hs2, hs3, hs4, hs5, hauto5, if_neg (by decide)]
    exact s5.armStep_none _ _ hrel5
  rw [heq]
  refine ⟨?_, ?_, ?_, ?_, ?_, fun v hv => ?_⟩
  · rw [hget1 _ (by simp [F.SEQ_STATE_STATE]) (.inr rfl), ← hs1]
    exact State.get_set_fits _ _ _ rfl
  · rw [hget1 _ (by simp [F.SEQ_START_ARMED]) (.inl (by decide)), ← hs1, State.setSeq, State.get_set_ne _ _ _ _ (by decide)]
    exact State.get_set_fits _ _ _ rfl
  · rw [← hs5]
  · rw [← hs5]
  · rw [hget3 _ (by simp [F.SEQ_STATE_FAILED]), ← hs3]
    exact State.get_set_fits _ _ _ rfl
  · rw [hreg5, ← hs4]
    exact s3.footprints_zero v hv

/-! ## RUN (R204, R205) -/

theorem State.stepCores_congr {s t : State} (hfuse : t.fuse = s.fuse)
    (hregs : ∀ n < 100, t.get (F.CORE_CTRL_MODE n) = s.get (F.CORE_CTRL_MODE n)) :
    t.stepCores = s.stepCores :=
  List.filter_congr fun n hn => by rw [State.siteEnabled_congr n hfuse, State.on, State.on, hregs n (List.mem_range.mp hn)]

theorem coreCtrl_ne (n a : Nat) (hn : n < 100) (ha : 0x300000000000 ≤ a) : (F.CORE_CTRL_MODE n).addr ≠ a := by
  simp only [F.CORE_CTRL_MODE, A.CORE_CTRL, coreReg]
  omega

/-- The inputs of the step were marked ready under its tag. -/
def State.inputsReady (s : State) : Bool := s.on F.SEQ_INPUT_READY_VALID && s.get F.SEQ_INPUT_READY_TAG == s.get F.SEQ_STEP_TAG

/-- The sequencer's part of the entry to RUN. -/
theorem State.enterRun_effect (s : State) (ok : Bool) (t : State)
    (ht : (let s1 := (s.set F.SEQ_STATE_INPUT_OK (boolBit ok)).setSeq sqRun
           if ok then s1 else s1.setCause 4) = t) :
    t.get F.SEQ_STATE_STATE = 2 ∧ t.get F.SEQ_STATE_INPUT_OK = boolBit ok ∧ (ok = false → t.get F.SEQ_STATE_FAILED = 1
      ∧ (t.get F.SEQ_VOTE_CAUSE).testBit 4 = true) ∧ (ok = true → Frame [A.SEQ_STATE] s t) ∧ Frame [A.SEQ_STATE, A.SEQ_VOTE] s t
      ∧ t.cores = s.cores ∧ t.fuse = s.fuse := by
  obtain ⟨s1, hs1⟩ : ∃ s1, (s.set F.SEQ_STATE_INPUT_OK (boolBit ok)).setSeq sqRun = s1 := ⟨_, rfl⟩
  rw [hs1] at ht
  have hstate : s1.get F.SEQ_STATE_STATE = 2 := hs1 ▸ State.get_set_fits _ _ _ rfl
  have hok : s1.get F.SEQ_STATE_INPUT_OK = boolBit ok := by
    rw [← hs1, State.setSeq, State.get_set_apart _ _ _ _ rfl]
    exact State.get_set_lt _ _ _ (by decide) (by decide) (by cases ok <;> decide)
  have hframe : Frame [A.SEQ_STATE] s s1 := hs1 ▸ ((Frame.refl _ s).set _ _).set _ _
  have hparts : s1.cores = s.cores ∧ s1.fuse = s.fuse := by
    rw [← hs1]
    exact ⟨rfl, rfl⟩
  cases ok with
  | true =>
    have heq : t = s1 := ht.symm
    rw [heq]
    exact ⟨hstate, hok, fun h => absurd h (by decide), fun _ => hframe, hframe.mono (by simp), hparts.1, hparts.2⟩
  | false =>
    have heq : t = s1.setCause 4 := ht.symm
    obtain ⟨y, hy⟩ : ∃ y, s1.set F.SEQ_VOTE_CAUSE (s1.get F.SEQ_VOTE_CAUSE ||| 2 ^ 4) = y := ⟨_, rfl⟩
    have hcause : s1.setCause 4 = y.set F.SEQ_STATE_FAILED 1 := by
      rw [← hy]
      rfl
    have hframe2 : Frame [A.SEQ_STATE, A.SEQ_VOTE] s y := hy ▸ (hframe.mono (by simp)).set _ _ (.tail _ (.head _))
    rw [heq, hcause]
    refine ⟨?_, ?_, fun _ => ⟨State.get_set_fits _ _ _ rfl, ?_⟩, fun h => absurd h (by decide), hframe2.set _ _, ?_, ?_⟩
    · rw [State.get_set_apart _ _ _ _ rfl, ← hy, State.get_set_ne _ _ _ _ (by decide), hstate]
    · rw [State.get_set_apart _ _ _ _ rfl, ← hy, State.get_set_ne _ _ _ _ (by decide), hok]
    · rw [State.get_set_ne _ _ _ _ (by decide), ← hy, State.get_set_self _ _ _ (by decide) (by decide)]
      change ((s1.get F.SEQ_VOTE_CAUSE ||| 2 ^ 4) % 2 ^ 8).testBit 4 = true
      rw [Nat.testBit_mod_two_pow, Nat.testBit_or, Nat.testBit_two_pow_self, Bool.or_true]
      rfl
    · rw [← hy]
      exact hparts.1
    · rw [← hy]
      exact hparts.2

/-- RUN_START at its slot. -/
theorem runStart_eq (s : State) (hst : s.get F.SEQ_STATE_STATE = 1) (hslot : s.now % 256 = 0)
    (hoff : s.seq.start + s.get F.SEQ_PLAN_RUN_OFF ≤ s.slot) (x : State)
    (hx : (let s1 := (s.set F.SEQ_STATE_INPUT_OK (boolBit s.inputsReady)).setSeq sqRun
           if s.inputsReady then s1 else s1.setCause 4) = x) :
    runStart s = x.stepCores.foldl (fun s n => if (s.coreAt n).state = 0 ∨ (s.coreAt n).state = 4 then s.enterRunning n else s) x := by
  rw [← hx]
  exact if_pos ⟨hst, beq_iff_eq.mpr hslot, hoff⟩

/-- Settles O41, clause by clause: each is one equation of the sequencer's function, read field by field. -/
theorem stepStarts : Obligations.StepStarts := by
  unfold Obligations.StepStarts
  refine fun s hs hshape => ⟨fun slot hmode h1 h2 h3 h4 h5 h6 hslot hmissed hpend => ?_, fun slot h hslot => ?_,
    fun harmed hslot hstart hallowed hauto hrel => ?_, fun harmed hslot hle hno hauto => ?_,
    fun hst hslot hoff hcores hvalid htag => ?_, fun n hn hst hslot hoff hcores hcore hvalid => ?_, fun hst hmode hhalt => ?_⟩
  · have hlive : execSeqStartArm slot s = .next _ := live_powered s (seqStartArm slot) hs.1 hs.2
    obtain ⟨r1, r2, hframe⟩ := seqStartArm_accepted s slot hmode h1 h2 h3 h4 h5 h6 hslot hmissed hpend _ rfl
    exact ⟨_, hlive, r1, r2, hframe.regs, hframe.bytes⟩
  · have hlive : execSeqStartArm slot s = .next _ := live_powered s (seqStartArm slot) hs.1 hs.2
    obtain ⟨r1, r2, hframe⟩ := seqStartArm_refused s slot h hslot _ rfl
    exact ⟨_, hlive, r1, r2, hframe.regs, hframe.bytes⟩
  · have hlive : execStepStart s = .next _ := live_powered s stepStart hs.1 hs.2
    have heq : s.enterLoad (s.get F.SEQ_START_START_SLOT) = stepStart s := by
      symm
      rw [stepStart, if_pos ⟨s.on_of_one _ harmed, beq_iff_eq.mpr hslot, hstart.le⟩, if_pos ⟨hstart, hallowed⟩]
    obtain ⟨r1, r2, r3, r4, r5, r6⟩ := s.enterLoad_effect _ hauto hrel _ heq
    exact ⟨_, hlive, r1, r2, r3.trans hstart, r4, r5, r6, ((Keeps.refl s).stepStart).bytes⟩
  · have hlive : execStepStart s = .next _ := live_powered s stepStart hs.1 hs.2
    obtain ⟨r1, r2, hframe⟩ := stepStart_missed s harmed hslot hle hno hauto _ rfl
    exact ⟨_, hlive, r1, r2, hframe.regs, hframe.bytes⟩
  · have hlive : execRunStart s = .next _ := live_powered s runStart hs.1 hs.2
    have hready : s.inputsReady = true := by
      rw [State.inputsReady, s.on_of_one _ hvalid, htag, beq_self_eq_true]
      rfl
    obtain ⟨x, hx⟩ : ∃ x, (let s1 := (s.set F.SEQ_STATE_INPUT_OK (boolBit s.inputsReady)).setSeq sqRun
           if s.inputsReady then s1 else s1.setCause 4) = x := ⟨_, rfl⟩
    obtain ⟨r1, r2, -, hframe, -, -, hfuse⟩ := s.enterRun_effect _ x hx
    have hnone : x.stepCores = [] := (State.stepCores_congr hfuse fun n hn =>
      (hframe hready).get _ (fun h => coreCtrl_ne n _ hn (by decide) (List.mem_singleton.mp h))).trans hcores
    have heq : runStart s = x := by
      rw [runStart_eq s hst hslot hoff x hx, hnone]
      rfl
    rw [hready] at r2
    exact ⟨x, heq ▸ hlive, r1, r2, (hframe hready).regs, (hframe hready).bytes⟩
  · have hlive : execRunStart s = .next _ := live_powered s runStart hs.1 hs.2
    have hready : s.inputsReady = false := by
      rw [State.inputsReady, s.on_of_zero _ hvalid]
      rfl
    obtain ⟨x, hx⟩ : ∃ x, (let s1 := (s.set F.SEQ_STATE_INPUT_OK (boolBit s.inputsReady)).setSeq sqRun
           if s.inputsReady then s1 else s1.setCause 4) = x := ⟨_, rfl⟩
    obtain ⟨r1, r2, r3, -, hframe, hsame, hfuse⟩ := s.enterRun_effect _ x hx
    obtain ⟨r3, r4⟩ := r3 hready
    have hhigh : ∀ a ∈ [A.SEQ_STATE, A.SEQ_VOTE], 0x300000000000 ≤ a := by decide
    have hone : x.stepCores = [n] := (State.stepCores_congr hfuse fun k hk =>
      hframe.get _ (fun h => coreCtrl_ne k _ hk (hhigh _ h) rfl)).trans hcores
    have hat : x.coreAt n = s.coreAt n := by rw [State.coreAt, hsame]; rfl
    have heq : x.enterRunning n = runStart s := by
      rw [runStart_eq s hst hslot hoff x hx, hone, List.foldl_cons, List.foldl_nil, if_pos (.inl (hat ▸ hcore))]
    obtain ⟨e1, e2, -, -, -, hrun⟩ := x.enterRunning_effect n (by rw [hsame, hshape.1]; exact hn) _ heq
    have hseq (f : Field) (hf : f.addr ∈ [A.SEQ_STATE, A.SEQ_VOTE]) : (runStart s).get f = x.get f := by
      refine hrun.get f fun h => ?_
      have hge := hhigh _ hf
      simp only [A.CORE_FAULT, A.ACC_FLAGS, A.TOP8_STATE, A.CONV_BFP_POS, coreReg, List.mem_cons, List.not_mem_nil, or_false] at h
      omega
    have hentry : x.get (F.CORE_ENTRY_ENTRY_PC n) = s.get (F.CORE_ENTRY_ENTRY_PC n) := by
      refine hframe.get _ fun h => ?_
      have hge := hhigh _ h
      simp only [F.CORE_ENTRY_ENTRY_PC, A.CORE_ENTRY, coreReg] at hge
      omega
    rw [hready] at r2
    refine ⟨_, hlive, ?_, ?_, ?_, ?_, e1, e2.trans hentry, ((Keeps.refl s).runStart).bytes⟩
    · rw [hseq _ (by simp [F.SEQ_STATE_STATE]), r1]
    · rw [hseq _ (by simp [F.SEQ_STATE_INPUT_OK]), r2]
      rfl
    · rw [hseq _ (by simp [F.SEQ_STATE_FAILED]), r3]
    · rw [hseq _ (by simp [F.SEQ_VOTE_CAUSE]), r4]
  · have hlive : execStepCoresHalted s = .next _ := live_powered s stepCoresHalted hs.1 hs.2
    refine hlive.trans (congrArg Host.Outcome.next ?_)
    have hall : s.allHalted = true := List.all_eq_true.mpr fun n hn => beq_iff_eq.mpr (hhalt n hn)
    have hping : (s.setSeq sqReduce).pingPong = false :=
      State.on_of_zero _ _ ((State.get_set_ne s F.SEQ_STATE_STATE F.SEQ_CTRL_APPLY_MODE sqReduce (by decide)).trans hmode)
    rw [stepCoresHalted, if_pos ⟨hst, hall⟩, State.tryApply, hping]
    exact if_neg fun h => absurd h.1 (by decide)

end Sys2Proof.Machine

/-! The verdict of a step, its commit slot, late verdicts and marks (O42). -/
namespace Sys2Proof.Machine

/-! ## The sequencer's mode through the work of other units -/

/-- SEQ_CTRL, which no unit writes, from state `o` on. -/
structure KeepsMode (o s : State) : Prop where
  mode : s.reg A.SEQ_CTRL = o.reg A.SEQ_CTRL

namespace KeepsMode

theorem refl (s : State) : KeepsMode s s := ⟨rfl⟩

theorem trans {o s t : State} (h : KeepsMode o s) (h' : KeepsMode s t) : KeepsMode o t := ⟨h'.mode.trans h.mode⟩

theorem ite {o s t : State} {c : Prop} [Decidable c] (hs : KeepsMode o s) (ht : KeepsMode o t) : KeepsMode o (if c then s else t) := by
  split
  · exact hs
  · exact ht

theorem foldl {o : State} {α : Type} (f : State → α → State) (l : List α) (hf : ∀ s, ∀ a ∈ l, KeepsMode o s → KeepsMode o (f s a))
    {s : State}
    (hs : KeepsMode o s) : KeepsMode o (l.foldl f s) :=
  l.foldlRecOn f (motive := KeepsMode o) hs fun s hs a ha => hf s a ha hs

section
variable {o s : State} (hs : KeepsMode o s)
include hs

theorem on (f : Field) (hf : f.addr = A.SEQ_CTRL) : s.on f = o.on f := by rw [State.on, State.on, State.get, State.get, hf, hs.mode]

theorem frame {l : List Nat} {t : State} (h : Frame l s t) (hl : A.SEQ_CTRL ∉ l) : KeepsMode o t := ⟨(h.regs _ hl).trans hs.mode⟩

theorem setReg (a : Nat) (w : Word) (ha : A.SEQ_CTRL ≠ a) : KeepsMode o (s.setReg a w) := ⟨(State.reg_setReg_ne _ _ _ _ ha).trans hs.mode⟩

theorem set (f : Field) (v : Nat) (hf : A.SEQ_CTRL ≠ f.addr) : KeepsMode o (s.set f v) := hs.setReg _ _ hf

theorem add (f : Field) (n : Nat) (hf : A.SEQ_CTRL ≠ f.addr) : KeepsMode o (s.add f n) := hs.set _ _ hf

theorem bump (f : Field) (hf : A.SEQ_CTRL ≠ f.addr) : KeepsMode o (s.bump f) := hs.add _ _ hf

/-- Updates of other parts of the module. -/
theorem plain {mgmt : Mgmt} {cores : List Core} {rt : Router} {mc : List MemCtl} {ctx : List Ctx} {seq : Seq} {near stage : Mem}
    {far : List Mem}
    {freeCtr : Nat} {sent : List Egress} : KeepsMode o { s with
      mgmt := mgmt, cores := cores, rt := rt, mc := mc, ctx := ctx, seq := seq, near := near, stage := stage, far := far
      freeCtr := freeCtr, sent := sent } :=
  ⟨(State.reg_congr _ rfl rfl rfl rfl).trans hs.mode⟩

theorem faultKey (key code unit : Nat) (slow : Bool) (detail : Word) : KeepsMode o (s.faultKey key code unit slow detail) :=
  hs.frame (s.faultKey_frame key code unit slow detail) (by decide)

theorem fault (code unit : Nat) (slow : Bool) (detail : Word) : KeepsMode o (s.fault code unit slow detail) :=
  hs.frame (s.fault_frame code unit slow detail) (by decide)

theorem faultOnce (code unit : Nat) (slow : Bool) (detail : Word) : KeepsMode o (s.faultOnce code unit slow detail) := hs.faultKey _ _ _ _
    _

theorem retired (ent : Nat) : KeepsMode o (s.retired ent) := hs.faultKey _ _ _ _ _

/-! ### Memory -/

theorem mcReg (f : Field) (n k v : Nat) (hf : f.addr = 0x300000020000 + 0x1000 * n + k) : KeepsMode o (s.set f v) :=
  hs.set f v (by rw [hf, show A.SEQ_CTRL = 0x300000001000 from rfl]; omega)

theorem farReg (f : Field) (n k v : Nat) (hf : f.addr = 0x300000002400 + 0x100 * n + k) : KeepsMode o (s.set f v) :=
  hs.set f v (by rw [hf, show A.SEQ_CTRL = 0x300000001000 from rfl]; omega)

theorem burst (rep : Option Burst) : KeepsMode o (s.burst rep).2 := by
  cases rep with
  | none => exact hs.plain
  | some r => exact hs

theorem eccNote (n pc : Nat) (reads : Bool) (r : Burst) : KeepsMode o (s.eccNote n pc reads r) := by
  have h1 := hs.mcReg (F.MC_ECC_CA_PARITY n) n 0x68 (min (s.get (F.MC_ECC_CA_PARITY n) + r.parity) (F.MC_ECC_CA_PARITY n).max) rfl
  have h2 : ∀ f : Field, f.addr = A.MC_ECC n → ∀ x, KeepsMode o x → KeepsMode o (x.bump f) := fun f hf x hx => hx.mcReg f n 0x68 _ hf
  unfold State.eccNote
  refine h1.ite ?_
  have h3 := h2 (if r.sev = 1 then F.MC_ECC_CE n else F.MC_ECC_UE n) (by split <;> rfl) _ h1
  exact (h2 _ rfl _ h3).ite h3.plain

theorem nearAccess (org : Origin) (a pc off : Nat) (x : Access) (rep : Option Burst) : KeepsMode o (s.nearAccess org a pc off x rep).st :=
    by
  have h1 : ∀ x, KeepsMode o x → ∀ f : Field, f.addr = A.MC_ATOM (pc / 32) → ∀ v, KeepsMode o (x.add f v) := fun x hx f hf v =>
    hx.mcReg f (pc / 32) 0x80 _ hf
  unfold State.nearAccess
  dsimp only
  split
  · have hadd := ((h1 s hs (F.MC_ATOM_RETIRED (pc / 32)) rfl (elements128 a x.size)).faultKey (0x10000 + pc) 0x0404 (unitMc (pc / 32))
      false
      (mkWord [(63, 59, pc % 32), (58, 54, org.at (dieOfStack (pc / 32)) a), (47, 0, a)])).ite (c := x.isAtomic = true) hs
    exact (hadd.retired _).ite hadd
  · exact h1 _ ((hs.plain.burst rep).plain.eccNote _ _ _ _) (F.MC_ATOM_SAT (pc / 32)) rfl _

theorem farAccess (a p off : Nat) (x : Access) (rep : Option Burst) : KeepsMode o (s.farAccess a p off x rep).st := by
  have h1 : ∀ x, KeepsMode o x → ∀ f : Field, f.addr = A.FAR_ERR p → KeepsMode o (x.bump f) := fun x hx f hf => hx.farReg f p 0x10 _ hf
  unfold State.farAccess
  extract_lets +onlyGivenNames dead beyond
  split
  · extract_lets +onlyGivenNames s1 s2
    have hs1 : KeepsMode o s1 := h1 _ ((h1 _ hs _ rfl).ite hs) _ rfl
    have hs2 : KeepsMode o s2 := (hs1.faultKey _ _ _ _ _).ite hs1
    exact (hs2.retired _).ite hs2
  · exact (((h1 _ (hs.plain.burst rep) _ rfl).ite (hs.plain.burst rep))).farReg (F.FAR_ATOM_SAT p) p 0x18 _ rfl

theorem memAccess (org : Origin) (a : Nat) (x : Access) (rep : Option Burst) : KeepsMode o (s.memAccess org a x rep).st := by
  unfold State.memAccess
  split
  · exact hs.nearAccess _ _ _ _ _ _
  · exact hs.bump _ (by decide)
  · exact hs.farAccess _ _ _ _ _
  · exact hs.fault _ _ _ _
  · split
    · split <;> exact hs
    · exact hs.retired _
  · exact hs

theorem memRead (org : Origin) (a n : Nat) (rep : Option Burst) : KeepsMode o (s.memRead org a n rep).st := by
  unfold State.memRead
  exact List.foldlRecOn (motive := fun d : Done => KeepsMode o d.st) _ _ hs fun d hd g _ => hd.memAccess _ _ _ _

/-! ### The router -/

theorem giveCredit (src : Nat) (p : Packet) (cls : Nat) : KeepsMode o (s.giveCredit src p cls) :=
  hs.frame (s.giveCredit_frame [] src p cls) List.not_mem_nil

theorem pumpAll : KeepsMode o s.pumpAll := hs.frame s.pumpAll_frame (by decide)

theorem unroutable (src : Nat) (p : Packet) (group : Bool) : KeepsMode o (s.unroutable src p group) := (hs.bump _ (by decide)).faultOnce _
    _ _ _

theorem enqueue (src cls : Nat) (p : Packet) (outs : List (Nat × Nat)) (loc : Bool) : KeepsMode o (s.enqueue src cls p outs loc) := by
  unfold State.enqueue
  extract_lets stale s1
  have h1 : KeepsMode o s1 := (hs.bump _ (by decide)).ite hs
  refine (h1.giveCredit _ _ _).ite (KeepsMode.pumpAll ?_)
  unfold State.notePeak
  exact h1.plain.ite h1.plain

theorem route (src cls : Nat) (p : Packet) : KeepsMode o (s.route src cls p) := by
  unfold State.route
  split
  · exact ((hs.bump _ (by decide)).faultOnce _ _ _ _).giveCredit _ _ _
  · refine ite ?_ (ite (hs.enqueue _ _ _ _ _) ?_)
    · split
      · exact (hs.unroutable _ _ _).giveCredit _ _ _
      · exact hs.enqueue _ _ _ _ _
    · split
      · exact (hs.unroutable _ _ _).giveCredit _ _ _
      · exact ((hs.unroutable _ _ _).giveCredit _ _ _).ite (hs.enqueue _ _ _ _ _)

theorem sendLocal (die : Nat) (x : Send) : KeepsMode o (s.sendLocal die x) := by
  unfold State.sendLocal
  dsimp only
  split
  · exact hs.unroutable _ _ _
  · exact hs.route _ _ _

/-! ### Contexts -/

theorem rcReg (f : Field) (c k v : Nat) (hf : f.addr = 0x300001100000 + k + 0x100 * c) : KeepsMode o (s.set f v) :=
  hs.set f v (by rw [hf, show A.SEQ_CTRL = 0x300000001000 from rfl]; omega)

theorem setCxState (c x : Nat) : KeepsMode o (s.setCxState c x) := (hs.rcReg (F.RC_STATUS_STATE c) c 0x858 x rfl).set F.COLL_LAYOUT_OPEN _
    (by decide)

theorem showRound (c : Nat) : KeepsMode o (s.showRound c) := by
  unfold State.showRound
  split
  · exact hs
  · exact hs.rcReg (F.RC_STATUS_ROUND c) c 0x858 _ rfl

theorem putRound (c : Nat) (x : Round) : KeepsMode o (s.putRound c x) := hs.plain.showRound c

theorem openRound (c r : Nat) : KeepsMode o (s.openRound c r) := by
  have h1 (t a n : Nat) : KeepsMode o (s.stepWrote t a n) := hs.ite hs.plain
  have h2 (a n : Nat) : KeepsMode o (s.cxWrote c a n) := (h1 _ _ _).ite hs
  exact ((h2 _ _).plain.showRound c).ite hs

theorem pelotonArrive (c : Nat) : KeepsMode o (s.pelotonArrive c) := ite (hs.plain.ite (hs.plain.sendLocal _ _)) hs

theorem rcActivate (c : Nat) : KeepsMode o (Machine.rcActivate c s) := by
  have h1 := hs.setCxState c 2
  exact ite (((h1.openRound c 0).openRound c 1).ite (ite ((h1.pelotonArrive c).ite h1) h1)) hs

theorem stray (c : Nat) : KeepsMode o (s.stray c) := hs.rcReg (F.RC_ERR_STRAY c) c 0x868 _ rfl

theorem localAdd (c : Nat) (x : Round) (off : Nat) (bs : List Byte) (chain : Option (Word × Bool × Bool)) : KeepsMode o
    (s.localAdd c x off bs chain) :=
  hs.plain.plain.putRound _ _

theorem sendVote : KeepsMode o s.sendVote := by
  unfold State.sendVote
  dsimp only
  split
  · exact (hs.localAdd _ _ _ _ _).ite (hs.stray _)
  · exact hs.stray _

/-! ### The sequencer -/

theorem setCause (c : Nat) : KeepsMode o (s.setCause c) := (hs.set _ _ (by decide)).set _ _ (by decide)

theorem verdictCauses (core apply : Bool) : KeepsMode o (s.verdictCauses core apply) := by
  have put {x : State} (hx : KeepsMode o x) (c : Nat) (b : Bool) : KeepsMode o (if b then x.setCause c else x) := (hx.setCause c).ite hx
  unfold State.verdictCauses
  extract_lets put' loss s0 s1 s2 s3 s4
  have h0 : KeepsMode o s0 := (hs.memRead _ _ _ _).ite hs
  have h1 : KeepsMode o s1 := put h0 _ _
  have h2 : KeepsMode o s2 := h1.ite ((h1.setCause 1).set _ _ (by decide))
  have h3 : KeepsMode o s3 := put h2 _ _
  have h4 : KeepsMode o s4 := put h3 _ _
  exact put (put h4 _ _) _ _

theorem seqStop (n : Nat) : KeepsMode o (s.seqStop n) := hs.plain.ite hs

end
end KeepsMode


/-! ## The verdict (R209, R213) -/

/-- VERDICT is entered at its slot: with no step pending and APPLY gated, the sequencer's state is VERDICT. -/
theorem verdictEntry_state (s : State) (hst : s.get F.SEQ_STATE_STATE = 3) (hmode : s.get F.SEQ_CTRL_APPLY_MODE = 0)
    (hpend : s.get F.SEQ_STEP_PEND_VALID = 0) (hslot : s.now % 256 = 0) (hoff : s.seq.start + s.get F.SEQ_PLAN_VERDICT_OFF ≤ s.slot)
    (t : State) (ht : verdictEntry s = t) : t.get F.SEQ_STATE_STATE = 4 := by
  have hx : s.seqState = sqReduce := hst
  have hping : s.pingPong = false := s.on_of_zero _ hmode
  obtain ⟨y, hy⟩ : ∃ y, s.verdictCauses false false = y := ⟨_, rfl⟩
  obtain ⟨z, hz⟩ : ∃ z, (y.forN 8 fun s v => s.set (F.ACT_PEAK_LAST_PEAK v) (s.get (F.ACT_FOOT_PEAK v))) = z := ⟨_, rfl⟩
  obtain ⟨w, hw⟩ : ∃ w, ((z.set F.SEQ_STEP_PEND_TAG (s.get F.SEQ_STEP_TAG)).set F.SEQ_STEP_PEND_VALID 1).setPend sqVerdict = w := ⟨_, rfl⟩
  obtain ⟨u, hu⟩ : ∃ u,
      ({ w with seq := { w.seq with pendStart := w.seq.start, pendCommit := none, pendCause := w.get F.SEQ_VOTE_CAUSE } }
    : State) = u := ⟨_, rfl⟩
  obtain ⟨v, hv⟩ : ∃ v, (rcActivate (u.get F.SEQ_VCFG_VCTX) u).sendVote = v := ⟨_, rfl⟩
  have hkeep : KeepsMode s v := by
    have h1 : KeepsMode s y := hy ▸ (KeepsMode.refl s).verdictCauses _ _
    have h2 : KeepsMode s z := by
      rw [← hz]
      have haddr : ∀ k < 8, A.SEQ_CTRL ≠ (F.ACT_PEAK_LAST_PEAK k).addr := by decide
      exact KeepsMode.foldl _ _ (fun x k hk h => h.set _ _ (haddr k (List.mem_range.mp hk))) h1
    have h3 : KeepsMode s w := hw ▸ ((h2.set _ _ (by decide)).set _ _ (by decide)).set _ _ (by decide)
    exact hv ▸ ((hu ▸ h3.plain : KeepsMode s u).rcActivate _).sendVote
  have hvping : v.pingPong = false := (hkeep.on _ rfl).trans hping
  have heq : t = v.setSeq sqVerdict := by
    rw [← ht, verdictEntry]
    dsimp only
    rw [if_pos ⟨.inr (.inl hx), s.on_of_zero _ hpend, beq_iff_eq.mpr hslot, hoff⟩, hx]
    simp only [if_neg (show ¬ sqReduce = sqApply by decide), if_neg (show ¬ sqReduce = sqRun by decide),
      show (sqReduce == sqRun && !s.allHalted) = false from rfl, show (sqReduce == sqApply && s.get F.UPD_STATUS_DONE != 0xFFFF) = false
          from rfl]
    rw [hy, hz, hw, hu, hv, hvping]
    rfl
  rw [heq]
  exact State.get_set_fits _ _ _ rfl

/-! ## Commit and rollback (R212, R215) -/

/-- What a commit leaves, whatever it found. -/
theorem State.commitStep_effect (s : State) (t : State) (ht : s.commitStep = t) : t.get F.SEQ_STATE_PSTATE = 5 ∧ t.get F.SEQ_STATE_MISSED
    = 0
    ∧ t.seq.held = none ∧ t.seq.late = none ∧ t.get F.SEQ_STEP_RETRIES = 0 := by
  unfold State.commitStep at ht
  extract_lets tag s1 s2 s3 s4 at ht
  obtain ⟨x, hx⟩ : ∃ x, s3.set F.SEQ_STEP_RETRIES 0 = x := ⟨_, rfl⟩
  have h4 : s4 = (x.set F.SEQ_STATE_MISSED 0).setPend sqCommit := by
    rw [← hx]
  have hget (f : Field) : t.get f = s4.get f := ht ▸ State.get_congr f (State.reg_congr _ rfl rfl rfl rfl)
  refine ⟨?_, ?_, by rw [← ht], by rw [← ht], ?_⟩
  · rw [hget, h4]
    exact State.get_set_fits _ _ _ rfl
  · rw [hget, h4, State.setPend, State.get_set_apart _ _ _ _ rfl]
    exact State.get_set_fits _ _ _ rfl
  · rw [hget, h4, State.setPend, State.get_set_ne _ _ _ _ (by decide), State.get_set_ne _ _ _ _ (by decide), ← hx]
    exact State.get_set_fits _ _ _ rfl

/-- The cadence stands while a rollback works. -/
theorem State.foldl_cad {α : Type} (f : State → α → State) (l : List α) (s : State) (hf : ∀ x a, (f x a).cad = x.cad) : (l.foldl f s).cad
    = s.cad :=
  List.foldlRecOn (motive := fun t : State => t.cad = s.cad) _ _ rfl fun t ht a _ => (hf t a).trans ht

theorem State.coreStop_cad (s : State) (n : Nat) : (coreStop n s).cad = s.cad := by
  unfold coreStop
  dsimp only
  split
  · rw [State.absentUnit, State.fault_only]
  · split <;> rfl

theorem State.rollCore_cad (s : State) (t n : Nat) : (s.rollCore t n).cad = s.cad := by
  rw [State.rollCore, State.setReg_cad, State.coreStop_cad]

theorem State.clearWorking_cad (s : State) (n b : Nat) : (s.clearWorking n b).cad = s.cad :=
  State.foldl_cad _ _ s fun x _ => State.foldl_cad _ _ x fun _ _ => rfl

theorem State.rollConv_cad (s : State) : s.rollConv.cad = s.cad := by
  refine State.foldl_cad _ _ s fun x n => ?_
  split
  · rw [State.convDiscard, State.clearWorking_cad, State.clearWorking_cad, State.setCore_cad]
  · rfl

theorem State.cxIdle_cad (s : State) (c : Nat) : (s.cxIdle c).cad = s.cad := by
  rw [State.cxIdle, State.setCxState, State.countOpen, State.set_cad, State.set_cad, State.setCx_cad]

theorem State.collRollback_cad (s : State) (t : Nat) : (s.collRollback t).cad = s.cad := by
  refine State.foldl_cad _ _ s fun x c => ?_
  extract_lets s1 k s2
  have h1 : s1.cad = x.cad := by
    unfold s1
    split
    · exact x.cxIdle_cad c
    · rfl
  have h2 : s2.cad = s1.cad := by
    unfold s2
    split
    · exact State.set_cad _ _ _
    · rfl
  rw [State.setCx_cad, h2, h1]

theorem State.spoilStep_cad (s : State) (ts : List Nat) : (s.spoilStep ts).cad = s.cad := by
  refine State.foldl_cad (fun s (w : Nat × Nat × Nat) => s.spoil w.2.1 w.2.2) _ s fun x w => ?_
  refine (State.foldl_cad _ _ { x with freeCtr := x.freeCtr + 1 } fun y g => ?_).trans rfl
  split <;> rfl

theorem State.rearm_effect (s : State) (start : Nat) (t : State) (ht : s.rearm start = t) : Frame [A.SEQ_START] s t ∧ t.seq = s.seq := by
  unfold State.rearm at ht
  dsimp only at ht
  split at ht
  · rw [← ht]
    exact ⟨((Frame.refl _ s).set _ _).set _ _, rfl⟩
  · rw [← ht]
    exact ⟨Frame.refl _ s, rfl⟩

/-- What a rollback leaves, whatever it found. -/
theorem State.rollbackStep_effect (s : State) (t : State) (ht : s.rollbackStep = t) : t.get F.SEQ_STATE_STATE = 7
    ∧ t.get F.SEQ_STEP_PEND_VALID = 0 ∧ t.seq.held = none ∧ t.seq.rbSlot = s.slot ∧ s.get F.SEQ_STEP_PEND_TAG ∈ t.seq.discarded := by
  unfold State.rollbackStep at ht
  extract_lets tag x head s1 s2 s3 s4 s5 s6 s6' q s7 at ht
  have h1 : s1.cad = s.cad := by
    unfold s1
    rw [State.fault_only]
  have h2 : s2.cad = s1.cad := (State.rollConv_cad _).trans (State.foldl_cad _ _ s1 fun y n => y.rollCore_cad tag n)
  have h3 : s3.cad = s2.cad := (State.collRollback_cad _ _).trans (State.foldl_cad _ _ s2 fun y d => rfl)
  have h4 : s4.cad = s3.cad := by
    refine (State.spoilStep_cad _ _).trans ?_
    split
    · exact State.collRollback_cad _ _
    · rfl
  have h5 : s5.cad = s4.cad := by
    unfold s5
    split
    · rw [State.set_cad, State.updStop, State.set_cad]
    · rfl
  have h6 : s6.cad = s5.cad := by
    unfold s6
    rw [State.set_cad, State.setPend, State.set_cad, State.set_cad, State.set_cad]
  have h7 (f : Field) : s7.get f = (s6.setSeq sqRollback).get f := State.get_congr f (State.reg_congr _ rfl rfl rfl rfl)
  have hheld : s7.seq.held = none := rfl
  have hslot : s7.seq.rbSlot = s6.slot := rfl
  have hdisc : s7.seq.discarded = if head then [tag, (tag + 1) % 65536] else [tag] := rfl
  clear_value s7
  obtain ⟨hframe, hseq⟩ := s7.rearm_effect s7.seq.pendStart t ht
  refine ⟨?_, ?_, ?_, ?_, ?_⟩
  · rw [hframe.get _ (by decide), h7]
    exact State.get_set_fits _ _ _ rfl
  · rw [hframe.get _ (by decide), h7, State.setSeq, State.get_set_ne _ _ _ _ (by decide)]
    unfold s6
    rw [State.get_set_ne _ _ _ _ (by decide), State.setPend, State.get_set_ne _ _ _ _ (by decide)]
    exact State.get_set_fits _ _ _ rfl
  · rw [hseq, hheld]
  · rw [hseq, hslot, State.slot, State.slot, h6, h5, h4, h3, h2, h1]
  · rw [hseq, hdisc]
    change tag ∈ (if head then [tag, (tag + 1) % 65536] else [tag])
    split <;> exact .head _

/-- COMMIT_SLOT at the slot of the pending step. -/
theorem commitSlot_eq (s : State) (hst : s.get F.SEQ_STATE_PSTATE = 4) (hmissed : s.get F.SEQ_STATE_MISSED = 0) (hslot : s.now % 256 = 0)
    (hoff : s.seq.pendStart + s.get F.SEQ_PLAN_COMMIT_OFF ≤ s.slot) : commitSlot s = match s.seq.held with
      | some (t, a) => if t = s.get F.SEQ_STEP_PEND_TAG then s.decideStep a else (s.set F.SEQ_STATE_MISSED 1).commitMissed 1
      | none => (s.set F.SEQ_STATE_MISSED 1).commitMissed 1 := by
  unfold commitSlot
  exact if_pos ⟨hst, s.on_of_zero _ hmissed, beq_iff_eq.mpr hslot, hoff⟩

/-- A mark for the step in VERDICT. -/
theorem seqMark_held (s : State) (a : Bool) (tag : Nat) (htag : tag < 65536) (hlc : s.get F.SEQ_RETAIN_LC_VALID = 0)
    (hvalid : s.get F.SEQ_STEP_PEND_VALID = 1) (hpend : s.get F.SEQ_STEP_PEND_TAG = tag) (hst : s.get F.SEQ_STATE_PSTATE = 4)
    (hmissed : s.get F.SEQ_STATE_MISSED = 0) (t : State) (ht : seqMark a tag s = t) : t.get F.SEQ_VERDICT_TAG = tag
      ∧ t.get F.SEQ_VERDICT_VALID = 1 ∧ t.get F.SEQ_VERDICT_REPLAYED = 1 ∧ (t.get F.SEQ_VERDICT_ACCEPT = 1 ↔ a = true)
      ∧ t.seq.held = some (tag, a) ∧ Frame [A.SEQ_VERDICT] s t := by
  obtain ⟨w, hw⟩ : ∃ w, mkWord [(18, 18, 1), (17, 17, boolBit a), (16, 16, 1), (15, 0, tag)] = w := ⟨_, rfl⟩
  have heq : t = { s.setReg A.SEQ_VERDICT w with seq := { s.seq with held := some (tag, a) } } := by
    rw [← ht, ← hw, seqMark, Nat.mod_eq_of_lt htag]
    dsimp only
    rw [if_neg (fun h => absurd h.1 (by rw [s.on_of_zero _ hlc]; decide)), if_pos ⟨s.on_of_one _ hvalid, hpend⟩]
    exact if_pos ⟨hst, s.on_of_zero _ hmissed⟩
  have hreg : t.reg A.SEQ_VERDICT = w := heq ▸ (State.reg_congr _ rfl rfl rfl rfl).trans (s.reg_setReg_self _ w)
  have hfields : bits w 15 0 = tag ∧ bits w 16 16 = 1 ∧ bits w 18 18 = 1 ∧ bits w 17 17 = boolBit a := by
    rw [← hw]
    refine ⟨?_, ?_, ?_, ?_⟩ <;> simp (disch := decide) only [mkWord, List.foldl, bits_putBits_disjoint, bits_putBits_self]
    · exact Nat.mod_eq_of_lt htag
    · rfl
    · rfl
    · cases a <;> rfl
  obtain ⟨f1, f2, f3, f4⟩ := hfields
  have hget (f : Field) (hf : f.addr = A.SEQ_VERDICT) : t.get f = bits w f.hi f.lo := by rw [State.get, hf, hreg]
  refine ⟨(hget _ rfl).trans f1, (hget _ rfl).trans f2, (hget _ rfl).trans f3, ?_, by rw [heq], heq ▸ ((Frame.refl _ s).setReg _ _).plain⟩
  rw [(hget F.SEQ_VERDICT_ACCEPT rfl).trans f4]
  cases a <;> decide

/-- Settles O42, clause by clause: the entry to VERDICT, the commit slot by the verdict held, a late verdict, and marks. -/
theorem stepVerdicts : Obligations.StepVerdicts := by
  unfold Obligations.StepVerdicts
  refine fun s hs hshape => ⟨fun hst hmode hpend hslot hoff => ?_, fun hst hmissed hslot hoff hheld => ?_,
    fun hst hmissed hslot hoff hheld _ => ?_, fun hst hmissed hslot hoff hheld => ?_, fun reason tick hlate htick hslot hvalid => ?_,
    fun a tag htag hlc hlast => ?_, fun a tag htag hlc hvalid hpend hst hmissed => ?_, fun a tag htag hlc hvalid => ?_⟩
  · have hlive : execVerdictEntry s = .next _ := live_powered s verdictEntry hs.1 hs.2
    exact ⟨_, hlive, verdictEntry_state s hst hmode hpend hslot hoff _ rfl⟩
  · have hlive : execCommitSlot s = .next _ := live_powered s commitSlot hs.1 hs.2
    have heq : s.commitStep = commitSlot s := by
      rw [commitSlot_eq s hst hmissed hslot hoff, hheld]
      exact (if_pos rfl).symm
    obtain ⟨h1, h2, h3, -, h5⟩ := s.commitStep_effect _ heq
    exact ⟨_, hlive, h1, h2, h3, h5⟩
  · have hlive : execCommitSlot s = .next _ := live_powered s commitSlot hs.1 hs.2
    have heq : s.rollbackStep = commitSlot s := by
      rw [commitSlot_eq s hst hmissed hslot hoff, hheld]
      exact (if_pos rfl).symm
    exact ⟨_, hlive, s.rollbackStep_effect _ heq⟩
  · have hlive : execCommitSlot s = .next _ := live_powered s commitSlot hs.1 hs.2
    have heq : commitSlot s = (s.set F.SEQ_STATE_MISSED 1).commitMissed 1 := by
      rw [commitSlot_eq s hst hmissed hslot hoff, hheld]
    have hframe := (s.set F.SEQ_STATE_MISSED 1).fault_frame 0x0302 unitSeq false
      (mkWord [(63, 48, (s.set F.SEQ_STATE_MISSED 1).get F.SEQ_STEP_PEND_TAG), (47, 40, 1),
          (39, 0, (s.set F.SEQ_STATE_MISSED 1).pendSlot)])
    refine ⟨_, hlive, ?_, ?_, ?_⟩
    · rw [heq]
      exact (hframe.get _ (by decide)).trans (State.get_set_fits _ _ _ rfl)
    · rw [heq]
      exact (hframe.get _ (by decide)).trans ((State.get_set_apart _ _ _ _ rfl).trans hst)
    · rw [heq]
      exact (((Frame.refl [A.SEQ_STATE, A.FAULT_LOST] s).set _ _).next hframe (by simp)).bytes
  · have hlive : execLateVerdictAct s = .next _ := live_powered s lateVerdictAct hs.1 hs.2
    have heq : (s.commitMissed reason).commitStep = lateVerdictAct s := by
      unfold lateVerdictAct
      rw [hlate]
      exact (if_pos ⟨beq_iff_eq.mpr hslot, htick, s.on_of_one _ hvalid⟩).symm
    obtain ⟨h1, -, -, h4, -⟩ := (s.commitMissed reason).commitStep_effect _ heq
    exact ⟨_, hlive, h1, h4⟩
  · have hlive : execSeqMark a tag s = .next _ := live_powered s (seqMark a tag) hs.1 hs.2
    refine hlive.trans (congrArg Host.Outcome.next ?_)
    rw [seqMark, Nat.mod_eq_of_lt htag]
    exact if_pos ⟨s.on_of_one _ hlc, hlast⟩
  · have hlive : execSeqMark a tag s = .next _ := live_powered s (seqMark a tag) hs.1 hs.2
    obtain ⟨h1, h2, h3, h4, h5, hframe⟩ := seqMark_held s a tag htag hlc hvalid hpend hst hmissed _ rfl
    exact ⟨_, hlive, h1, h2, h3, h4, h5, hframe.regs, hframe.bytes⟩
  · have hlive : execSeqMark a tag s = .next _ := live_powered s (seqMark a tag) hs.1 hs.2
    refine hlive.trans (congrArg Host.Outcome.next ?_)
    rw [seqMark]
    dsimp only
    rw [if_neg (fun h => absurd h.1 (by rw [s.on_of_zero _ hlc]; decide))]
    exact if_neg fun h => absurd h.1 (by rw [State.pendValid, s.on_of_zero _ hvalid]; decide)

end Sys2Proof.Machine

/-! What repair, map-out, temperature, training and the far links' commands do to a stack (R244 to R260). -/
namespace Sys2Proof.Machine

/-! ## Controllers and their registers -/

theorem State.memctl_setMemctl (s : State) (n : Nat) (c : MemCtl) (hn : n < s.mc.length) : (s.setMemctl n c).memctl n = c :=
  (getD_set_eq _ _ _ _ _ hn).trans (if_pos rfl)

theorem State.memctl_congr {s t : State} (n : Nat) (h : t.mc = s.mc) : t.memctl n = s.memctl n := by rw [State.memctl, State.memctl, h]

theorem State.setMemctl_get (s : State) (n : Nat) (c : MemCtl) (f : Field) : (s.setMemctl n c).get f = s.get f :=
  State.get_congr f (State.reg_congr _ rfl rfl rfl rfl)

theorem State.unit_mc (s : State) (n : Nat) (hn : n < 16) : s.unit (entMc n) = s.get (F.UNIT_STATE_STATE (entMc n)) := by
  refine s.unit_present _ ?_
  unfold State.absent entMc
  rw [if_neg (by omega), if_neg (by simp; omega)]

/-- The registers of the controllers lie apart from those in which a unit's state shows. -/
theorem mcPage_unit (n a : Nat) (hn : n < 16) (h : 0x300000020000 ≤ a) (h' : a < 0x300000030000) : a ∉ unitRegs (entMc n) := by
  simp only [unitRegs, A.UNIT_STATE, A.RE_STATUS, A.MGMT_ERR, A.ALERT_CAUSE, pageReg, mgmtReg, sbReg, reReg, entMc, List.mem_cons,
    List.not_mem_nil, or_false]
  omega

theorem mcPage (n k : Nat) (hn : n < 16) (hk : k < 0x1000) : 0x300000020000 ≤ mcReg n + k ∧ mcReg n + k < 0x300000030000 := by
  unfold mcReg
  omega

theorem mcPage_offset (n j k : Nat) (h : j ≠ k) : mcReg n + j ≠ mcReg n + k := by omega

theorem State.setUnit_mc (s : State) (n st : Nat) : (s.setUnit n st).mc = s.mc := by rw [State.setUnit_only]

/-- A field of a controller's register through a change of its unit. -/
theorem State.setUnit_mcField (s : State) (n k st : Nat) (f : Field) (hn : n < 16) (hk : k < 0x1000) (hf : f.addr = mcReg n + k) :
    (s.setUnit (entMc n) st).get f = s.get f :=
  (s.setUnit_frame _ st).get f (hf ▸ mcPage_unit n _ hn (mcPage n k hn hk).1 (mcPage n k hn hk).2)

/-- A controller stops: self refresh, and its unit is DOWN (R251). -/
theorem State.mcStop_effect (s : State) (n : Nat) (hn : n < 16) (hlen : s.mc.length = 16) (t : State) (ht : s.mcStop n = t) :
    t.memctl n = { s.memctl n with stop := true } ∧ t.get (F.MC_STATUS_SREF n) = 1 ∧ t.get (F.UNIT_STATE_STATE (entMc n)) = 4
      ∧ Frame (A.MC_STATUS n :: unitRegs (entMc n)) s t ∧ (∀ f : Field, f.addr = A.MC_STATUS n → (F.MC_STATUS_SREF n).apart f = true →
        t.get f = s.get f) := by
  obtain ⟨x, hx⟩ : ∃ x, s.setMemctl n { s.memctl n with stop := true } = x := ⟨_, rfl⟩
  obtain ⟨y, hy⟩ : ∃ y, x.set (F.MC_STATUS_SREF n) 1 = y := ⟨_, rfl⟩
  have heq : t = y.setUnit (entMc n) usDown := by rw [← ht, ← hy, ← hx]; rfl
  have hmc : y.mc = x.mc := hy ▸ State.set_mc _ _ _
  have hframe : Frame (A.MC_STATUS n :: unitRegs (entMc n)) s y := hy ▸ (hx ▸ (Frame.refl _ s).plain : Frame _ s x).set _ _
  refine ⟨?_, ?_, ?_, ?_, fun f hf hapart => ?_⟩
  · rw [heq, State.memctl_congr n (y.setUnit_mc _ _), State.memctl_congr n hmc, ← hx]
    exact s.memctl_setMemctl n _ (by omega)
  · rw [heq, y.setUnit_mcField n 8 _ _ hn (by omega) rfl, ← hy]
    exact State.get_set_fits _ _ _ rfl
  · rw [heq]
    exact y.setUnit_state _ _ (by unfold entMc; omega) (by decide)
  · rw [heq]
    exact hframe.next (y.setUnit_frame _ _) (List.subset_cons_self _ _)
  · rw [heq, y.setUnit_mcField n 8 _ f hn (by omega) hf, ← hy, State.get_set_apart _ _ _ _ hapart, ← hx]
    exact s.setMemctl_get n _ f

/-! ## Soft repair (R244) -/

theorem softRepair_effect (s : State) (n : Nat) (hn : n < 16) (hlen : s.mc.length = 16) (hdue : s.stagedDue (A.MC_PPR_ACT n) = true)
    (hready : s.get (F.UNIT_STATE_STATE (entMc n)) = 2) (t : State) (ht : softRepair n s = t) :
    (t.memctl n).repair = some (s.get (F.MC_PPR_NEXT_PC n), s.slot) ∧ t.get (F.MC_PPR_ACT_ARMED n) = 0 ∧ Frame [A.MC_PPR_ACT n] s t := by
  have hu : s.unitReady (entMc n) = true := by rw [State.unitReady, s.unit_mc n hn, hready]; rfl
  rw [softRepair, if_pos ⟨hdue, hu⟩] at ht
  refine ⟨?_, ?_, ?_⟩
  · rw [← ht, State.memctl_setMemctl _ _ _ (by exact hlen.symm ▸ hn)]
  · rw [← ht, State.setMemctl_get]
    exact s.stagedDone_armed _
  · rw [← ht]
    exact ((Frame.refl _ s).stagedDone _).plain

theorem softRepairDone_effect (s : State) (n : Nat) (x : Nat × Nat) (hlen : n < s.mc.length) (hx : (s.memctl n).repair = some x)
    (t : State)
    (ht : softRepairDone n s = t) : (t.memctl n).repair = none ∧ (t.memctl n).repaired = (s.memctl n).repaired
        ++ [(s.get (F.MC_PPR_NEXT_PC n), s.get (F.MC_PPR_NEXT_BANK n), s.get (F.MC_PPR_NEXT_ROW n), s.now)]
      ∧ t.get (F.MC_REPAIR_REPAIRS n) = (s.bump (F.MC_REPAIR_REPAIRS n)).get (F.MC_REPAIR_REPAIRS n) ∧ t.led = s.led
      ∧ Frame [A.MC_REPAIR n] s t := by
  unfold softRepairDone at ht
  dsimp only at ht
  rw [hx] at ht
  dsimp only at ht
  obtain ⟨y, hy⟩ : ∃ y, s.setMemctl n { s.memctl n with repair := none, repaired := (s.memctl n).repaired ++
    [(s.get (F.MC_PPR_NEXT_PC n), s.get (F.MC_PPR_NEXT_BANK n), s.get (F.MC_PPR_NEXT_ROW n), s.now)] } = y := ⟨_, rfl⟩
  rw [hy] at ht
  have hc : t.memctl n = y.memctl n := State.memctl_congr n (ht ▸ State.bump_mc _ _)
  have hget : y.get (F.MC_REPAIR_REPAIRS n) = s.get (F.MC_REPAIR_REPAIRS n) := hy ▸ s.setMemctl_get n _ _
  refine ⟨?_, ?_, ?_, ?_, ?_⟩
  · rw [hc, ← hy, s.memctl_setMemctl n _ hlen]
  · rw [hc, ← hy, s.memctl_setMemctl n _ hlen]
  · rw [← ht]
    exact State.get_bump_congr s y _ rfl hget
  · rw [← ht, State.bump_led, ← hy]
    rfl
  · rw [← ht, ← hy]
    exact (Frame.refl _ s).plain.bump _

/-! ## Map-out (R245) -/

/-- A power of two added where the bit is clear sets that bit. -/
theorem testBit_add_two_pow (x p j : Nat) (h : x.testBit p = false) : (x + 2 ^ p).testBit j = (x.testBit j || decide (j = p)) := by
  rcases Nat.lt_trichotomy j p with hj | hj | hj
  · rw [Nat.add_comm, Nat.testBit_two_pow_add_gt hj, decide_eq_false (by omega), Bool.or_false]
  · rw [hj, Nat.add_comm, Nat.testBit_two_pow_add_eq, h]
    simp
  · have hdiv : (x + 2 ^ p) / 2 ^ (p + 1) = x / 2 ^ (p + 1) := by
      have heven : x / 2 ^ p % 2 = 0 := by
        rw [Nat.testBit_eq_decide_div_mod_eq] at h
        have := of_decide_eq_false h
        omega
      rw [Nat.pow_succ, ← Nat.div_div_eq_div_mul, ← Nat.div_div_eq_div_mul, Nat.add_div_right _ (Nat.two_pow_pos p)]
      omega
    obtain ⟨i, rfl⟩ : ∃ i, j = p + 1 + i := ⟨j - (p + 1), by omega⟩
    have hx : ∀ y : Nat, y.testBit (p + 1 + i) = (y / 2 ^ (p + 1)).testBit i := fun y => by
      rw [Nat.testBit_div_two_pow, Nat.add_comm]
    rw [hx, hx, hdiv, decide_eq_false (by omega), Bool.or_false]

/-- One pseudo-channel of a map-out. -/
def State.retirePc (s : State) (n p : Nat) : State :=
  if bitAt (s.get (F.MC_PCRET_NEXT_RETIRE n)) p ∧ bitAt (s.get (F.MC_PCMAP_RETIRED n)) p = false then
    (s.set (F.MC_PCMAP_RETIRED n) (s.get (F.MC_PCMAP_RETIRED n) + 2 ^ p)).pcMappedOut n p (s.retireCause n p)
  else s

theorem mc_ne_faultLost (n k : Nat) : mcReg n + k ∉ [A.FAULT_LOST] := by
  simp only [mcReg, A.FAULT_LOST, pageReg, List.mem_singleton]
  omega

theorem State.retirePc_effect (s : State) (n p : Nat) (hp : p < 32) (j : Nat) :
    ((s.retirePc n p).get (F.MC_PCMAP_RETIRED n)).testBit j
      = ((s.get (F.MC_PCMAP_RETIRED n)).testBit j || (decide (j = p) && (s.get (F.MC_PCRET_NEXT_RETIRE n)).testBit p))
    ∧ (s.retirePc n p).get (F.MC_PCRET_NEXT_RETIRE n) = s.get (F.MC_PCRET_NEXT_RETIRE n)
    ∧ (s.retirePc n p).get (F.MC_PCRET_ACT_ARMED n) = s.get (F.MC_PCRET_ACT_ARMED n) := by
  unfold State.retirePc
  split
  · next hc =>
    have hlt : s.get (F.MC_PCMAP_RETIRED n) + 2 ^ p < 2 ^ 32 := by
      refine Nat.lt_pow_two_of_testBit _ fun i hi => ?_
      rw [testBit_add_two_pow _ _ _ hc.2, decide_eq_false (by omega), Bool.or_false]
      exact Nat.testBit_lt_two_pow ((s.get_lt (F.MC_PCMAP_RETIRED n)).trans_le (Nat.pow_le_pow_right (by decide) hi))
    obtain ⟨y, hy⟩ : ∃ y, s.set (F.MC_PCMAP_RETIRED n) (s.get (F.MC_PCMAP_RETIRED n) + 2 ^ p) = y := ⟨_, rfl⟩
    have hfault (f : Field) (k : Nat) (hf : f.addr = mcReg n + k) : (y.pcMappedOut n p (s.retireCause n p)).get f = y.get f :=
      (y.fault_frame _ _ _ _).get f (hf ▸ mc_ne_faultLost n k)
    rw [hy, hfault _ 0x10 rfl, hfault _ 0x18 rfl, hfault _ 0x20 rfl]
    refine ⟨?_, ?_, ?_⟩
    · have hget : y.get (F.MC_PCMAP_RETIRED n) = s.get (F.MC_PCMAP_RETIRED n) + 2 ^ p :=
        hy ▸ State.get_set_lt _ _ _ (show 32 ≤ 63 by omega) (show 63 < 64 by omega) hlt
      rw [hget, testBit_add_two_pow _ _ _ hc.2, show (s.get (F.MC_PCRET_NEXT_RETIRE n)).testBit p = true from hc.1, Bool.and_true]
    · rw [← hy]
      exact State.get_set_ne _ _ _ _ (mcPage_offset n 0x18 0x10 (by decide))
    · rw [← hy]
      exact State.get_set_ne _ _ _ _ (mcPage_offset n 0x20 0x10 (by decide))
  · next hc =>
    refine ⟨?_, rfl, rfl⟩
    by_cases hj : j = p
    · subst hj
      by_cases hold : (s.get (F.MC_PCMAP_RETIRED n)).testBit j = true
      · rw [hold, Bool.true_or]
      · have hnext : (s.get (F.MC_PCRET_NEXT_RETIRE n)).testBit j = false :=
          Bool.eq_false_iff.mpr fun h => hc ⟨h, Bool.eq_false_iff.mpr hold⟩
        rw [hnext, Bool.and_false, Bool.or_false]
    · rw [decide_eq_false hj, Bool.false_and, Bool.or_false]

/-- The map-out of a list of pseudo-channels. -/
theorem State.retirePcs_effect (s : State) (n k : Nat) (hk : k ≤ 32) :
    (∀ j < 32, (((List.range k).foldl (fun s p => s.retirePc n p) s).get (F.MC_PCMAP_RETIRED n)).testBit j
      = ((s.get (F.MC_PCMAP_RETIRED n)).testBit j || (decide (j < k) && (s.get (F.MC_PCRET_NEXT_RETIRE n)).testBit j)))
    ∧ ((List.range k).foldl (fun s p => s.retirePc n p) s).get (F.MC_PCRET_NEXT_RETIRE n) = s.get (F.MC_PCRET_NEXT_RETIRE n)
    ∧ ((List.range k).foldl (fun s p => s.retirePc n p) s).get (F.MC_PCRET_ACT_ARMED n) = s.get (F.MC_PCRET_ACT_ARMED n) := by
  induction k with
  | zero => exact ⟨fun j _ => by simp, rfl, rfl⟩
  | succ k ih =>
    obtain ⟨h1, h2, h3⟩ := ih (by omega)
    rw [List.range_succ, List.foldl_append, List.foldl_cons, List.foldl_nil]
    generalize (List.range k).foldl (fun s p => s.retirePc n p) s = x at *
    refine ⟨fun j hj => ?_, ?_, ?_⟩
    · rw [(x.retirePc_effect n k (by omega) j).1, h1 j hj, h2]
      by_cases hjk : j = k
      · subst hjk
        simp
      · have hlt : decide (j < k + 1) = decide (j < k) := decide_eq_decide.mpr (by omega)
        rw [decide_eq_false hjk, Bool.false_and, Bool.or_false, hlt]
    · rw [(x.retirePc_effect n k (by omega) 0).2.1, h2]
    · rw [(x.retirePc_effect n k (by omega) 0).2.2, h3]

theorem pcRetire_effect (s : State) (n : Nat) (hn : n < 16) (hdue : s.stagedDue (A.MC_PCRET_ACT n) = true)
    (hready : s.get (F.UNIT_STATE_STATE (entMc n)) = 2) (t : State) (ht : pcRetire n s = t) :
    (∀ p < 32, (t.get (F.MC_PCMAP_RETIRED n)).testBit p
      = ((s.get (F.MC_PCMAP_RETIRED n)).testBit p || (s.get (F.MC_PCRET_NEXT_RETIRE n)).testBit p)) ∧ t.get (F.MC_PCRET_ACT_ARMED n) =
          0 := by
  have hu : s.unitReady (entMc n) = true := by rw [State.unitReady, s.unit_mc n hn, hready]; rfl
  have heq : t = (List.range 32).foldl (fun s p => s.retirePc n p) (s.stagedDone (A.MC_PCRET_ACT n)) := by
    rw [← ht]
    exact if_pos ⟨hdue, hu⟩
  obtain ⟨h1, -, h3⟩ := (s.stagedDone (A.MC_PCRET_ACT n)).retirePcs_effect n 32 le_rfl
  rw [heq]
  refine ⟨fun p hp => ?_, h3.trans (s.stagedDone_armed _)⟩
  rw [h1 p hp, decide_eq_true hp, Bool.true_and]
  rw [s.get_stagedDone_ne (A.MC_PCRET_ACT n) (F.MC_PCMAP_RETIRED n) (mcPage_offset n 0x10 0x20 (by decide)),
    s.get_stagedDone_ne (A.MC_PCRET_ACT n) (F.MC_PCRET_NEXT_RETIRE n) (mcPage_offset n 0x18 0x20 (by decide))]


/-! ## Temperature (R249, R251, R252) -/

/-- The state after the pair of MC_THR has been taken, before a stop. -/
theorem thermalAction_effect (s : State) (n : Nat) (hn : n < 16) (hlen : s.mc.length = 16) (hdue : s.stagedDue (A.MC_THR_ACT n) = true)
    (hready : s.get (F.UNIT_STATE_STATE (entMc n)) = 2) (hstop : (s.memctl n).stop = false) (t : State) (ht : thermalAction n s = t) :
    ∃ x, x.memctl n = { s.memctl n with
        refx := s.get (F.MC_THR_NEXT_REFX n), throttle := s.on (F.MC_THR_NEXT_THROTTLE n), stop := s.on (F.MC_THR_NEXT_STOP n) }
      ∧ x.get (F.MC_THR_ACT_ARMED n) = 0 ∧ Frame [A.MC_THR_ACT n] s x ∧ x.mc.length = 16
      ∧ t = if s.on (F.MC_THR_NEXT_STOP n) then x.mcStop n else x := by
  have hu : s.unitReady (entMc n) = true := by rw [State.unitReady, s.unit_mc n hn, hready]; rfl
  obtain ⟨y, hy⟩ : ∃ y, s.stagedDone (A.MC_THR_ACT n) = y := ⟨_, rfl⟩
  have hmc : y.memctl n = s.memctl n := by rw [← hy]; rfl
  have hylen : y.mc.length = 16 := by rw [← hy]; exact hlen
  have hget (f : Field) (hf : f.addr = mcReg n + 0x28) : y.get f = s.get f := by
    rw [← hy]
    exact s.get_stagedDone_ne _ f (hf ▸ mcPage_offset n 0x28 0x30 (by decide))
  have hon (f : Field) (hf : f.addr = mcReg n + 0x28) : y.on f = s.on f := by rw [State.on, State.on, hget f hf]
  refine ⟨y.setMemctl n { s.memctl n with
    refx := s.get (F.MC_THR_NEXT_REFX n), throttle := s.on (F.MC_THR_NEXT_THROTTLE n), stop := s.on (F.MC_THR_NEXT_STOP n) },
    y.memctl_setMemctl n _ (by omega), ?_, ?_, List.length_set.trans hylen, ?_⟩
  · rw [State.setMemctl_get, ← hy]
    exact s.stagedDone_armed _
  · rw [← hy]
    exact ((Frame.refl _ s).stagedDone _).plain
  · rw [← ht, thermalAction, if_pos ⟨hdue, .inl hu⟩, hy]
    dsimp only
    rw [hmc, hstop, hget (F.MC_THR_NEXT_REFX n) rfl, hon (F.MC_THR_NEXT_STOP n) rfl, hon (F.MC_THR_NEXT_THROTTLE n) rfl, Bool.false_and,
        Bool.or_false]
    cases s.on (F.MC_THR_NEXT_STOP n) <;> rfl

theorem mapFind_filter {α : Type} (l : List (Nat × α)) (p : Nat → Bool) (a : Nat) (h : p a = true) :
    mapFind (l.filter fun c => p c.1) a = mapFind l a := by
  induction l with
  | nil => rfl
  | cons c l ih =>
    by_cases hc : p c.1 = true
    · rw [List.filter_cons, if_pos hc, mapFind_cons, mapFind_cons, ih]
    · rw [List.filter_cons, if_neg hc, mapFind_cons, ih, if_neg fun (e : c.1 = a) => hc (e ▸ h)]

/-- The loss of a stack's contents leaves the other stacks'. -/
theorem Mem.get_loseStack (m : Mem) (n a : Nat) (h : stackOfByte a ≠ n) : (m.loseStack n).get a = m.get a := by
  have hcells : mapFind (m.loseStack n).cells a = mapFind m.cells a :=
    mapFind_filter m.cells (fun b => stackOfByte b != n) a (bne_iff_ne.mpr h)
  rw [Mem.get, Mem.get, hcells, Mem.default_loseStack m n a h]

theorem State.loseStack_effect (s : State) (n : Nat) (t : State) (ht : s.loseStack n = t) :
    (∃ regs, t = { s with regs := regs, near := s.near.loseStack n })
    ∧ regsBut [A.SEQ_RETAIN, A.UPD_STATUS] s t := by
  obtain ⟨x, hx⟩ : ∃ x, ({ s with near := s.near.loseStack n } : State) = x := ⟨_, rfl⟩
  have hregs : ∀ a, x.reg a = s.reg a := fun a => hx ▸ State.reg_congr a rfl rfl rfl rfl
  have hframe : Frame [A.SEQ_RETAIN, A.UPD_STATUS] x t := by
    rw [← ht]
    unfold State.loseStack
    dsimp only
    rw [hx]
    exact (((Frame.refl _ x).set F.SEQ_RETAIN_APPLY_LOST 1).set F.UPD_STATUS_LOST 1 (.tail _ (.head _))).ite (Frame.refl _ x)
  refine ⟨?_, fun a ha => (hframe.regs a ha).trans (hregs a)⟩
  rw [← ht]
  unfold State.loseStack
  dsimp only
  split
  · exact ⟨_, rfl⟩
  · exact ⟨_, rfl⟩

/-- A stack too hot: it stops at once, and its contents are lost. -/
theorem catastrophicTemperature_effect (s : State) (n : Nat) (hn : n < 16) (hlen : s.mc.length = 16) (htrip : (s.memctl n).trip = false)
    (hstop : (s.memctl n).stop = false) (t : State) (ht : catastrophicTemperature n s = t) : t.get (F.MC_STATUS_THERM n) = 2
      ∧ (t.memctl n).trip = true ∧ (t.memctl n).stop = true ∧ t.get (F.MC_STATUS_SREF n) = 1 ∧ t.get (F.UNIT_STATE_STATE (entMc n)) = 4
      ∧ (∀ a, stackOfByte a ≠ n → t.near.get a = s.near.get a)
      ∧ t.far = s.far ∧ t.stage = s.stage ∧ t.side = s.side ∧ t.core = s.core ∧ t.flashA = s.flashA ∧ t.flashB = s.flashB := by
  obtain ⟨c, hc⟩ : ∃ c, s.memctl n = c := ⟨_, rfl⟩
  rw [hc] at htrip hstop
  obtain ⟨w, hw⟩ : ∃ w, s.loseStack n = w := ⟨_, rfl⟩
  obtain ⟨⟨regs, honly⟩, -⟩ := s.loseStack_effect n w hw
  obtain ⟨x, hx⟩ : ∃ x, w.setMemctl n { c with trip := true, kept := false, alive := false, cool := 0 } = x := ⟨_, rfl⟩
  obtain ⟨y, hy⟩ : ∃ y, x.set (F.MC_STATUS_THERM n) 2 = y := ⟨_, rfl⟩
  obtain ⟨z, hz⟩ : ∃ z, y.stackCritical n 0xFF true = z := ⟨_, rfl⟩
  have heq : z.mcStop n = t := by
    rw [← ht, catastrophicTemperature]
    rw [hc, hw, hx, htrip, hstop, hy, hz]
    rfl
  have hmcx : x.memctl n = { c with trip := true, kept := false, alive := false, cool := 0 } :=
    hx ▸ w.memctl_setMemctl n _ (by rw [honly]; exact hlen.symm ▸ hn)
  have hxlen : x.mc.length = 16 := by
    rw [← hx, honly]
    exact List.length_set.trans hlen
  have hyz : z = { y with regs := z.regs, sent := z.sent, mgmt := z.mgmt } := by
    rw [← hz, State.stackCritical, State.fault_only, State.alert_only]
  have hyx : y = { x with regs := y.regs } := hy ▸ State.set_only _ _ _
  have hmcz : z.mc = x.mc := by rw [hyz, hyx]
  have hframez : Frame [A.ALERT_CAUSE, A.FAULT_LOST] y z := by
    rw [← hz]
    exact ((y.alert_frame 0).mono (by simp)).next ((y.alert 0).fault_frame _ _ _ _) (by simp)
  have hmcframe (f : Field) (k : Nat) (hk : k < 0x1000) (hf : f.addr = mcReg n + k) : f.addr ∉ [A.ALERT_CAUSE, A.FAULT_LOST] := by
    rw [hf]
    intro h
    rcases List.mem_cons.mp h with h | h
    · have hlt : mcReg n + k < A.ALERT_CAUSE := by
        simp only [mcReg, A.ALERT_CAUSE, sbReg]
        omega
      exact absurd h hlt.ne
    · exact mc_ne_faultLost n k h
  obtain ⟨h1, h2, h3, hframe, h5⟩ := z.mcStop_effect n hn (by rw [hmcz, hxlen]) t heq
  have hmem : t.near = s.near.loseStack n ∧ t.far = s.far ∧ t.stage = s.stage ∧ t.side = s.side ∧ t.core = s.core ∧ t.flashA = s.flashA
      ∧ t.flashB = s.flashB := by
    rw [hframe.near, hframe.far, hframe.stage, hframe.side, hframe.core, hframe.flashA, hframe.flashB, hyz, hyx, ← hx, honly]
    exact ⟨rfl, rfl, rfl, rfl, rfl, rfl, rfl⟩
  obtain ⟨m1, m2, m3, m4, m5, m6, m7⟩ := hmem
  refine ⟨?_, ?_, ?_, h2, h3, fun a ha => ?_, m2, m3, m4, m5, m6, m7⟩
  · rw [h5 _ rfl rfl, hframez.get _ (hmcframe _ 8 (by decide) rfl), ← hy]
    exact State.get_set_fits _ _ _ rfl
  · rw [h1, State.memctl_congr n hmcz, hmcx]
  · rw [h1]
  · rw [m1, s.near.get_loseStack n a ha]

/-! ## Training (R248, R254) -/

/-- The registers that the first map writes. -/
def firstMapRegs : List Nat := A.MAP_STATUS :: sizeRegs ++ (List.range 16).map A.MC_PCMAP

theorem State.firstMap_effect (s : State) (t : State) (ht : s.firstMap = t) : Frame firstMapRegs s t ∧ t.mc = s.mc := by
  rw [← ht]
  unfold State.firstMap
  split
  · exact ⟨Frame.refl _ s, rfl⟩
  · dsimp only
    obtain ⟨u, hu⟩ : ∃ u, (s.forN 16 fun s n => s.set (F.MC_PCMAP_MAPPED n) (s.trainedPcs n)) = u := ⟨_, rfl⟩
    have h1 : Frame firstMapRegs s u := hu ▸ (Frame.refl _ s).forN 16 _ fun x k hk hx => hx.set _ _
      (List.mem_append_right _ (List.mem_map.mpr ⟨k, List.mem_range.mpr hk, rfl⟩))
    have hmc : u.mc = s.mc := hu ▸ State.forN_keeps (fun t => t.mc) s 16 _ fun _ _ _ => rfl
    rw [hu]
    have h2 : Frame firstMapRegs s u.countPcs := h1.countPcs (.head _)
    obtain ⟨v, hv⟩ : ∃ v, (List.range 16).foldl (fun (s : State) r =>
      s.set (F.MAP_RGN_SIZE_SIZE r) (((u.countPcs.imageRegions.find? fun g => g.idx == r).map Region.size).getD 0)) u.countPcs = v :=
          ⟨_, rfl⟩
    have h3 : Frame firstMapRegs s v := h2.next (hv ▸ u.countPcs.setSizes_frame _)
        (List.subset_cons_of_subset _ (List.subset_append_left _ _))
    have hmcv : v.mc = u.mc := hv ▸ List.foldlRecOn (motive := fun x : State => x.mc = u.mc) _ _ rfl fun x hx _ _ => hx
    unfold State.applyMap
    dsimp only
    rw [hv]
    exact ⟨(h3.wrapAdd F.MAP_STATUS_GEN 1 (.head _)).plain, hmcv.trans hmc⟩

theorem State.trainPcs_effect (s : State) (n : Nat) (failed : Nat → Bool) (t : State)
    (ht : (s.forN 32 fun s p => s.trainPc n p (failed p)) = t) :
    Frame [A.FAULT_LOST] s t ∧ t.mc = s.mc := by
  rw [← ht]
  refine ⟨(Frame.refl _ s).forN 32 _ fun x p _ hx => (hx.trans (x.fault_frame _ _ _ _)).ite hx, ?_⟩
  refine State.forN_keeps (fun t => t.mc) s 32 _ fun x p _ => ?_
  unfold State.trainPc
  split
  · rw [State.pcMappedOut, State.fault_only]
  · rfl

theorem mcTrain_fields (pass lanes attempts failed : Nat) (hf : failed < 2 ^ 32) :
    bits (mkWord [(63, 63, pass), (47, 40, lanes), (39, 32, attempts), (31, 0, failed)]) 63 63 = pass % 2
    ∧ bits (mkWord [(63, 63, pass), (47, 40, lanes), (39, 32, attempts), (31, 0, failed)]) 31 0 = failed := by
  refine ⟨?_, ?_⟩ <;> simp (disch := decide) only [mkWord, List.foldl, bits_putBits_disjoint, bits_putBits_self]
  · rfl
  · exact Nat.mod_eq_of_lt hf

/-- A controller's training ends. -/
theorem mcTrainDone_effect (s : State) (n : Nat) (r : Training) (hn : n < 16) (hlen : s.mc.length = 16)
    (hst : s.get (F.UNIT_STATE_STATE (entMc n)) = 1) (t : State) (ht : mcTrainDone n r s = t) :
    t.get (F.UNIT_STATE_STATE (entMc n)) = (if r.pass then 2 else 4) ∧ t.get (F.MC_TRAIN_PASS n) = boolBit r.pass
      ∧ t.get (F.MC_TRAIN_FAILED n) = (if r.pass then r.failed.toNat else 0xFFFFFFFF) ∧ t.get (F.MC_STATUS_SREF n) = 0
      ∧ (t.memctl n).trained = true ∧ (r.srefError = false → sameBytes s t) := by
  obtain ⟨c, hc⟩ : ∃ c, s.memctl n = c := ⟨_, rfl⟩
  obtain ⟨k, hk⟩ : ∃ k, (if r.pass then r.failed.toNat else 0xFFFFFFFF) = k := ⟨_, rfl⟩
  have hk32 : k < 2 ^ 32 := by
    rw [← hk]
    split
    · exact r.failed.isLt
    · decide
  obtain ⟨w, hw⟩ : ∃ w, mkWord [(63, 63, boolBit r.pass), (47, 40, r.lanes), (39, 32, r.attempts), (31, 0, k)] = w := ⟨_, rfl⟩
  obtain ⟨s1, hs1⟩ : ∃ s1, s.setReg (A.MC_TRAIN n) w = s1 := ⟨_, rfl⟩
  obtain ⟨x, hx⟩ : ∃ x, (s1.set (F.MC_STATUS_SREF n) 0).set (F.MC_STATUS_KEPT n) (boolBit (c.kept && !r.srefError)) = x := ⟨_, rfl⟩
  obtain ⟨s2, hs2⟩ : ∃ s2, x.setMemctl n { c with trained := true, untold := c.untold || !c.trained, kept := true, alive := r.pass } =
      s2 :=
    ⟨_, rfl⟩
  obtain ⟨s3, hs3⟩ : ∃ s3, (if r.srefError then s2.loseStack n else s2) = s3 := ⟨_, rfl⟩
  obtain ⟨s4, hs4⟩ : ∃ s4, s3.setUnit (entMc n) (if r.pass then usReady else usDown) = s4 := ⟨_, rfl⟩
  obtain ⟨s5, hs5⟩ : ∃ s5, (s4.forN 32 fun s p => s.trainPc n p (bitAt k p)) = s5 := ⟨_, rfl⟩
  have hrun : mcTrainDone n r s = if c.trained then s4 else if s5.mstate = msTrain ∧ s5.mcsTrained then s5.firstMap else s5 := by
    unfold mcTrainDone
    dsimp only
    rw [if_pos (.inl ((s.unit_mc n hn).trans hst)), hc, hk, hw, hs1, hx, hs2, hs3, hs4, hs5]
  have hstat : s1.mc = s.mc := by rw [← hs1]; rfl
  have hsxmc : x.mc = s.mc := by rw [← hx, State.set_mc, State.set_mc, hstat]
  have hm2 : (s2.memctl n).trained = true := by
    rw [← hs2, x.memctl_setMemctl n _ (by rw [hsxmc, hlen]; exact hn)]
  have h3 : s3.mc = s2.mc ∧ regsBut [A.SEQ_RETAIN, A.UPD_STATUS] s2 s3 ∧ (r.srefError = false → s3 = s2) := by
    rw [← hs3]
    by_cases h : r.srefError = true
    · rw [if_pos h]
      obtain ⟨⟨regs, honly⟩, hregs⟩ := s2.loseStack_effect n _ rfl
      exact ⟨by rw [honly], hregs, fun hf => absurd hf (by rw [h]; decide)⟩
    · rw [if_neg h]
      exact ⟨rfl, fun _ _ => rfl, fun _ => rfl⟩
  obtain ⟨h3mc, h3regs, h3same⟩ := h3
  obtain ⟨h5frame, h5mc⟩ := s4.trainPcs_effect n (bitAt k) s5 hs5
  obtain ⟨h6frame, h6mc⟩ := s5.firstMap_effect _ rfl
  have htail : Frame (A.FAULT_LOST :: firstMapRegs) s4 t ∧ t.mc = s4.mc := by
    rw [← ht, hrun]
    have h5 : Frame (A.FAULT_LOST :: firstMapRegs) s4 s5 := h5frame.mono (by simp)
    split
    · exact ⟨Frame.refl _ s4, rfl⟩
    · split
      · exact ⟨h5.next h6frame (List.subset_cons_self _ _), h6mc.trans h5mc⟩
      · exact ⟨h5, h5mc⟩
  have hapart : ∀ n < 16, ∀ a ∈ [A.UNIT_STATE (entMc n), A.MC_TRAIN n, A.MC_STATUS n], a ∉ A.FAULT_LOST :: firstMapRegs := by
    decide +kernel
  have htrain (f : Field) (hf : f.addr = A.MC_TRAIN n) : t.get f = bits w f.hi f.lo := by
    have hne : ∀ n < 16, A.MC_TRAIN n ∉ [A.SEQ_RETAIN, A.UPD_STATUS] ∧ A.MC_TRAIN n ≠ A.MC_STATUS n := by decide
    have h2 : s2.get f = s1.get f := by
      rw [← hs2, State.setMemctl_get, ← hx, State.get_set_ne _ _ _ _ (hf ▸ (hne n hn).2), State.get_set_ne _ _ _ _ (hf ▸ (hne n hn).2)]
    rw [htail.1.get f (hapart n hn _ (by simp [hf])), ← hs4, s3.setUnit_mcField n 0x90 _ f hn (by omega) hf,
      State.get_congr f (h3regs _ (hf ▸ (hne n hn).1)), h2, ← hs1, State.get, hf, State.reg_setReg_self]
  obtain ⟨w1, w2⟩ := mcTrain_fields (boolBit r.pass) r.lanes r.attempts k hk32
  rw [hw] at w1 w2
  refine ⟨?_, ?_, ?_, ?_, ?_, fun hsref => ?_⟩
  · rw [htail.1.get _ (hapart n hn _ (.head _)), ← hs4, s3.setUnit_state _ _ (by unfold entMc; omega) (by split <;> decide)]
    split <;> rfl
  · rw [htrain _ rfl]
    refine w1.trans ?_
    cases r.pass <;> rfl
  · rw [htrain _ rfl, hk]
    exact w2
  · have hne : ∀ n < 16, A.MC_STATUS n ∉ [A.SEQ_RETAIN, A.UPD_STATUS] := by decide
    have h3get : s3.get (F.MC_STATUS_SREF n) = s2.get (F.MC_STATUS_SREF n) := State.get_congr _ (h3regs _ (hne n hn))
    rw [htail.1.get _ (hapart n hn _ (.tail _ (.tail _ (.head _)))), ← hs4, s3.setUnit_mcField n 8 _ _ hn (by omega) rfl, h3get, ← hs2,
      State.setMemctl_get, ← hx, State.get_set_apart _ _ _ _ rfl]
    exact State.get_set_fits _ _ _ rfl
  · rw [State.memctl_congr n htail.2, ← hs4, State.memctl_congr n (s3.setUnit_mc _ _), State.memctl_congr n h3mc, hm2]
  · have hl : Frame [A.MC_TRAIN n, A.MC_STATUS n] s s2 := by
      rw [← hs2, ← hx, ← hs1]
      exact (((Frame.refl _ s).setReg (A.MC_TRAIN n) w).set (F.MC_STATUS_SREF n) 0 (.tail _ (.head _))).set
        (F.MC_STATUS_KEPT n) (boolBit (c.kept && !r.srefError)) (.tail _ (.head _)) |>.plain
    have h4 := s3.setUnit_frame (entMc n) (if r.pass then usReady else usDown)
    rw [hs4, h3same hsref] at h4
    have hall : Frame ([A.MC_TRAIN n, A.MC_STATUS n] ++ (unitRegs (entMc n) ++ (A.FAULT_LOST :: firstMapRegs))) s t :=
      ((hl.mono (List.subset_append_left _ _)).next h4 fun a ha => List.mem_append_right _ (List.mem_append_left _ ha)).next htail.1
        fun a ha => List.mem_append_right _ (List.mem_append_right _ ha)
    exact hall.bytes

/-! ## Far memory (R260) -/

theorem State.unit_far (s : State) (p : Nat) (hp : p < 2) (hs0 : s.fuse.s0 = false) : s.absent (entFar p) = false
    ∧ s.unit (entFar p) = s.get (F.UNIT_STATE_STATE (entFar p)) := by
  have habs : s.absent (entFar p) = false := by
    unfold State.absent entFar
    rw [if_neg (by omega), hs0, if_pos (by simp; omega)]
  exact ⟨habs, s.unit_present _ habs⟩

theorem farLinkDown_effect (s : State) (p : Nat) (hp : p < 2) (hlen : s.far.length = 2) (hs0 : s.fuse.s0 = false)
    (hready : s.get (F.UNIT_STATE_STATE (entFar p)) = 2) (t : State) (ht : farLinkDown p s = t) :
    t.get (F.UNIT_STATE_STATE (entFar p)) = 4 ∧ t.far.getD p {} = (s.far.getD p {}).lose ∧ t.far.getD (1 - p) {} = s.far.getD (1 - p) {}
      ∧ t.near = s.near ∧ t.get (F.FAR_ERR_LINK_DOWN p) = (s.bump (F.FAR_ERR_LINK_DOWN p)).get (F.FAR_ERR_LINK_DOWN p) := by
  have hu : s.unitReady (entFar p) = true := by rw [State.unitReady, (s.unit_far p hp hs0).2, hready]; rfl
  obtain ⟨x, hx⟩ : ∃ x, ({ s with far := s.far.set p (s.far.getD p {}).lose } : State) = x := ⟨_, rfl⟩
  obtain ⟨y, hy⟩ : ∃ y, x.setUnit (entFar p) usDown = y := ⟨_, rfl⟩
  have heq : t = y.bump (F.FAR_ERR_LINK_DOWN p) := by
    rw [← ht, farLinkDown, if_pos hu, hx, hy]
  have hyx : y.far = x.far ∧ y.near = x.near := by
    rw [← hy, State.setUnit_only]
    exact ⟨rfl, rfl⟩
  have hfar : t.far = s.far.set p (s.far.getD p {}).lose := by
    rw [heq, State.bump_far, hyx.1, ← hx]
  have hapart : ∀ p < 2, (F.UNIT_STATE_STATE (entFar p)).addr ≠ (F.FAR_ERR_LINK_DOWN p).addr
      ∧ (F.FAR_ERR_LINK_DOWN p).addr ∉ unitRegs (entFar p) := by decide
  obtain ⟨a1, a2⟩ := hapart p hp
  refine ⟨?_, ?_, ?_, ?_, ?_⟩
  · rw [heq, State.bump, State.add, State.get_set_ne _ _ _ _ a1, ← hy]
    exact x.setUnit_state _ _ (by unfold entFar; omega) (by decide)
  · rw [hfar, getD_set_eq _ _ _ _ _ (by omega), if_pos rfl]
  · rw [hfar, getD_set_eq _ _ _ _ _ (by omega), if_neg (by omega)]
  · rw [heq, State.bump_near, hyx.2, ← hx]
  · rw [heq]
    refine State.get_bump_congr s y _ rfl ?_
    rw [← hy, (x.setUnit_frame _ _).get _ a2, ← hx]
    exact State.get_congr _ (State.reg_congr _ rfl rfl rfl rfl)

theorem farRetrain_effect (s : State) (p : Nat) (hp : p < 2) (hs0 : s.fuse.s0 = false) (hdown : s.get (F.UNIT_STATE_STATE (entFar p)) = 4)
    :
    ((farRetrain p true s).get (F.UNIT_STATE_STATE (entFar p)) = 2 ∧ (farRetrain p true s).get (F.FAR_STATUS_CAP p) = min
        (Config.farCap p) 4096)
      ∧ (farRetrain p false s).get (F.UNIT_STATE_STATE (entFar p)) = 4 := by
  obtain ⟨habs, hunit⟩ := s.unit_far p hp hs0
  obtain ⟨x, hx⟩ : ∃ x, s.setUnit (entFar p) usStarting = x := ⟨_, rfl⟩
  have heq (ok : Bool) : farRetrain p ok s = if ok then (x.setUnit (entFar p) usReady).farReady p else x.setUnit (entFar p) usDown := by
    unfold farRetrain
    dsimp only
    rw [habs, if_neg (by decide), if_pos (show s.unit (entFar p) = usDown from hunit.trans hdown), hx]
  have hstate (st : Nat) (hst : st < 8) := x.setUnit_state (entFar p) st (by unfold entFar; omega) hst
  have hne : ∀ p < 2, (F.UNIT_STATE_STATE (entFar p)).addr ≠ A.FAR_STATUS p := by decide
  refine ⟨⟨?_, ?_⟩, ?_⟩
  · rw [heq, if_pos rfl, State.farReady, State.get_set_ne _ _ _ _ (hne p hp), State.get_set_ne _ _ _ _ (hne p hp),
      State.get_set_ne _ _ _ _ (hne p hp), hstate usReady (by decide)]
    rfl
  · rw [heq, if_pos rfl, State.farReady, State.get_set_apart _ _ _ _ rfl, State.get_set_apart _ _ _ _ rfl]
    exact State.get_set_lt _ _ _ (show 32 ≤ 47 by omega) (show 47 < 64 by omega)
      ((min_le_right _ _).trans_lt (show 4096 < 2 ^ (47 + 1 - 32) by decide))
  · rw [heq, if_neg (by decide), hstate usDown (by decide)]
    rfl

/-- Settles O46, field by field of what each service command writes, with the registers it leaves. -/
theorem stackService : Obligations.StackService := by
  unfold Obligations.StackService
  intro s hs hshape due
  have hlen : s.mc.length = 16 := hshape.2.1
  have hdue (a : Nat) (h : due a) : s.stagedDue a = true := by
    obtain ⟨harmed, hslot, k, hk, hle⟩ := h
    exact s.stagedDue_of a k harmed hslot hk hle
  refine ⟨fun n hn => ?_, fun p hp hs0 => ⟨fun hready => ?_, fun hdown => ?_⟩⟩
  · have hlive (f : State → State) : lively s n 16 f = .next (f s) := lively_powered s n 16 f hn hs.1 hs.2
    refine ⟨fun hd hready => ?_, fun x hx => ?_, fun hd hno => ?_, fun hd hready => ?_, fun hd hready hstop hno => ?_,
      fun hd hready hstop hyes => ?_, fun htrip hstop => ?_, fun r hst => ?_⟩
    · obtain ⟨h1, h2, hframe⟩ := softRepair_effect s n hn hlen (hdue _ hd) hready _ rfl
      exact ⟨_, hlive (softRepair n), h1, h2, hframe.regs, hframe.bytes⟩
    · obtain ⟨h1, h2, h3, h4, hframe⟩ := softRepairDone_effect s n x (by omega) hx _ rfl
      exact ⟨_, hlive (softRepairDone n), h1, h2, h3, h4, hframe.regs, hframe.bytes⟩
    · refine (hlive (softRepair n)).trans (congrArg Host.Outcome.next (if_neg fun h => hno ?_))
      rw [← s.unit_mc n hn]
      exact beq_iff_eq.mp h.2
    · obtain ⟨h1, h2⟩ := pcRetire_effect s n hn (hdue _ hd) hready _ rfl
      exact ⟨_, hlive (pcRetire n), h1, h2, ((Keeps.refl s).pcRetire n).bytes⟩
    · obtain ⟨x, h1, h2, hframe, -, heq⟩ := thermalAction_effect s n hn hlen (hdue _ hd) hready hstop _ rfl
      rw [s.on_of_zero _ hno, if_neg (by decide)] at heq
      refine ⟨x, (hlive (thermalAction n)).trans (congrArg Host.Outcome.next heq), by rw [h1], ?_, ?_, h2, hframe.regs, hframe.bytes⟩
      · rw [h1]
        exact s.on_iff_eq_one (F.MC_THR_NEXT_THROTTLE n) rfl
      · rw [h1]
        exact s.on_of_zero _ hno
    · obtain ⟨x, h1, -, hframe, hxlen, heq⟩ := thermalAction_effect s n hn hlen (hdue _ hd) hready hstop _ rfl
      rw [s.on_of_one _ hyes, if_pos rfl] at heq
      obtain ⟨r1, r2, r3, rframe, -⟩ := x.mcStop_effect n hn hxlen _ heq.symm
      refine ⟨_, hlive (thermalAction n), by rw [r1], r2, r3, ?_⟩
      exact ((hframe.mono (List.subset_append_left _ (A.MC_STATUS n :: unitRegs (entMc n)))).next rframe
          (List.subset_append_right _ _)).bytes
    · exact ⟨_, hlive (catastrophicTemperature n), catastrophicTemperature_effect s n hn hlen htrip hstop _ rfl⟩
    · exact ⟨_, hlive (mcTrainDone n r), mcTrainDone_effect s n r hn hlen hst _ rfl⟩
  · have hlive : execFarLinkDown p s = .next _ := lively_powered s p 2 (farLinkDown p) hp hs.1 hs.2
    exact ⟨_, hlive, farLinkDown_effect s p hp hshape.2.2.2.2.2.2.2.1 hs0 hready _ rfl⟩
  · have hlive (ok : Bool) : execFarRetrain p ok s = .next _ := lively_powered s p 2 (farRetrain p ok) hp hs.1 hs.2
    obtain ⟨⟨h1, h2⟩, h3⟩ := farRetrain_effect s p hp hs0 hdown
    exact ⟨⟨_, hlive true, h1, h2, ((Keeps.refl s).farRetrain p true).bytes⟩, _, hlive false, h3,
        ((Keeps.refl s).farRetrain p false).bytes⟩

end Sys2Proof.Machine

/-! Pelotons and the Caravan (O51). -/
namespace Sys2Proof.Machine

/-! ## The contexts through the work of other units -/

theorem State.siteOf_lt (s : State) (die k n : Nat) (hdie : die < 4) (h : s.siteOf die k = some n) : n < 100 := by
  have hmem : n ∈ s.dieSites die := List.mem_of_getElem? h
  obtain ⟨hmap, -⟩ := List.mem_filter.mp hmem
  obtain ⟨i, hi, rfl⟩ := List.mem_map.mp hmap
  have hi25 := List.mem_range.mp hi
  omega

/-- A fold over a range that acts at one index alone. -/
theorem State.forN_only (s : State) (n c : Nat) (f : State → Nat → State) (hc : c < n) (hf : ∀ x, ∀ i < n, i ≠ c → f x i = x) :
    s.forN n f = f s c := by
  have hbelow : ∀ m ≤ c, s.forN m f = s := fun m hm => by
    induction m with
    | zero => rfl
    | succ m ih => rw [State.forN, List.range_succ, List.foldl_append, ← State.forN, ih (by omega)]; exact hf _ _ (by omega) (by omega)
  have habove : ∀ m ≤ n, c < m → s.forN m f = f s c := fun m hm hlt => by
    induction m with
    | zero => omega
    | succ m ih =>
      rw [State.forN, List.range_succ, List.foldl_append, ← State.forN]
      by_cases h : c < m
      · rw [ih (by omega) h]
        exact hf _ _ (by omega) (by omega)
      · rw [hbelow m (by omega), show m = c by omega]
        rfl
  exact habove n le_rfl hc

/-- A register of the collective page. -/
def collPage (a : Nat) : Bool := decide (collReg ≤ a ∧ a < collReg + 0x2000)

/-- The contexts and their registers stand from state `o` on. -/
structure CollKept (o s : State) : Prop where
  ctx : s.ctx = o.ctx
  regs : ∀ a, collPage a = true → s.reg a = o.reg a

namespace CollKept

theorem refl (s : State) : CollKept s s := ⟨rfl, fun _ _ => rfl⟩

theorem trans {o s t : State} (h : CollKept o s) (h' : CollKept s t) : CollKept o t :=
  ⟨h'.ctx.trans h.ctx, fun a ha => (h'.regs a ha).trans (h.regs a ha)⟩

theorem ite {o s t : State} {c : Prop} [Decidable c] (hs : CollKept o s) (ht : CollKept o t) : CollKept o (if c then s else t) := by
  split
  · exact hs
  · exact ht

theorem foldl {o : State} {α : Type} (f : State → α → State) (l : List α) (hf : ∀ s, ∀ a ∈ l, CollKept o s → CollKept o (f s a))
    {s : State} (hs : CollKept o s) : CollKept o (l.foldl f s) :=
  l.foldlRecOn f (motive := CollKept o) hs fun s hs a ha => hf s a ha hs

section
variable {o s : State} (hs : CollKept o s)
include hs

theorem cx (c : Nat) : s.cx c = o.cx c := congrArg (fun l => l.getD c {}) hs.ctx

theorem get (f : Field) (hf : collPage f.addr = true) : s.get f = o.get f := State.get_congr f (hs.regs _ hf)

theorem on (f : Field) (hf : collPage f.addr = true) : s.on f = o.on f := by rw [State.on, State.on, hs.get f hf]

theorem frame {l : List Nat} {t : State} (h : Frame l s t) (hctx : t.ctx = s.ctx) (hl : ∀ a ∈ l, collPage a = false) : CollKept o t :=
  hs.trans ⟨hctx, fun a ha => h.regs a fun hmem => by simp [hl a hmem] at ha⟩

theorem set (f : Field) (v : Nat) (hf : collPage f.addr = false) : CollKept o (s.set f v) :=
  hs.frame ((Frame.refl [f.addr] s).set f v) rfl (by simpa using hf)

theorem bump (f : Field) (hf : collPage f.addr = false) : CollKept o (s.bump f) := hs.set _ _ hf

/-- Updates of other parts of the module. -/
theorem plain {mgmt : Mgmt} {cores : List Core} {rt : Router} {sent : List Egress} :
    CollKept o { s with mgmt := mgmt, cores := cores, rt := rt, sent := sent } :=
  hs.trans ⟨rfl, fun _ _ => State.reg_congr _ rfl rfl rfl rfl⟩

theorem faultKey (key code unit : Nat) (slow : Bool) (detail : Word) : CollKept o (s.faultKey key code unit slow detail) :=
  hs.frame (s.faultKey_frame key code unit slow detail) (by rw [State.faultKey_only]) (by decide)

theorem fault (code unit : Nat) (slow : Bool) (detail : Word) : CollKept o (s.fault code unit slow detail) :=
  hs.frame (s.fault_frame code unit slow detail) (by rw [State.fault_only]) (by decide)

theorem giveCredit (src : Nat) (p : Packet) (cls : Nat) : CollKept o (s.giveCredit src p cls) :=
  hs.frame (s.giveCredit_frame [] src p cls) (by rw [State.giveCredit_only]) (by decide)

theorem dropFor (p : Nat) : CollKept o (s.dropFor p) := by
  unfold State.dropFor
  exact foldl _ _ (fun x g _ hx => hx.giveCredit _ _ _) (plain (faultKey (hs.set F.RT_DROP_PORT_DOWN _ (by decide)) _ _ _ _ _))

theorem sendOut (p i r cls : Nat) : CollKept o (s.sendOut p i r cls) := by
  unfold State.sendOut
  split
  · exact hs
  · exact (hs.plain.giveCredit _ _ _).ite hs.plain

theorem pumpAll : CollKept o s.pumpAll :=
  (State.pump_induct (CollKept o) (fun _ p h => h.dropFor p) (fun _ p i r c h => (plain h).sendOut p i r c) _ s hs).plain

theorem unroutable (src : Nat) (p : Packet) (group : Bool) : CollKept o (s.unroutable src p group) :=
  (hs.bump _ (by decide)).faultKey _ _ _ _ _

theorem enqueue (src cls : Nat) (p : Packet) (outs : List (Nat × Nat)) (loc : Bool) : CollKept o (s.enqueue src cls p outs loc) := by
  unfold State.enqueue
  extract_lets stale s1
  have h1 : CollKept o s1 := (hs.bump _ (by decide)).ite hs
  refine (h1.giveCredit _ _ _).ite (pumpAll ?_)
  unfold State.notePeak
  exact h1.plain.plain.ite h1.plain

theorem route (src cls : Nat) (p : Packet) : CollKept o (s.route src cls p) := by
  have hlost (group : Bool) : CollKept o ((s.unroutable src p group).giveCredit src p cls) := (hs.unroutable _ _ _).giveCredit _ _ _
  unfold State.route
  split
  · exact ((hs.bump _ (by decide)).faultKey _ _ _ _ _).giveCredit _ _ _
  · refine ite ?_ (ite (hs.enqueue _ _ _ _ _) ?_)
    · split
      · exact hlost _
      · exact hs.enqueue _ _ _ _ _
    · split
      · exact hlost _
      · exact (hlost _).ite (hs.enqueue _ _ _ _ _)

theorem sendLocal (die : Nat) (x : Send) : CollKept o (s.sendLocal die x) := by
  unfold State.sendLocal
  dsimp only
  split
  · exact hs.unroutable _ _ _
  · exact hs.route _ _ _

/-! ### Signals -/

theorem counter (n i v : Nat) (hn : n < 100) (hi : i < 32) : CollKept o (s.set (F.CNT_VALUE n i) v) := by
  refine hs.set _ _ (decide_eq_false ?_)
  simp only [F.CNT_VALUE, A.CNT, coreReg, collReg]
  omega

theorem addCounter (n i inc src : Nat) (hn : n < 100) (hi : i < 32) : CollKept o (s.addCounter n i inc src) :=
  ((hs.counter n i _ hn hi).fault _ _ _ _).ite (((hs.counter n i _ hn hi).fault _ _ _ _).ite (hs.counter n i _ hn hi))

theorem coreSignal (die lcore ctr inc src : Nat) (hdie : die < 4) : CollKept o (s.coreSignal die lcore ctr inc src) := by
  unfold State.coreSignal
  have hb : CollKept o (s.bump F.RT_STAT_LOCAL_RETIRED) := hs.bump _ (by decide)
  split
  case h_1 n hn =>
    have hn100 : n < 100 := s.siteOf_lt die lcore n hdie hn
    refine (hb.faultKey _ _ _ _ _).ite ?_
    split
    · next h => exact hs.addCounter n ctr inc src hn100 (by omega)
    · exact hb
  case h_2 => exact hb.ite hs

theorem rcDone (c : Nat) : CollKept o (s.rcDone c) := by
  unfold State.rcDone
  exact (foldl _ _ (fun x d hd hx => (foldl _ _ (fun y k _ hy => (hy.coreSignal d k _ _ _ (List.mem_range.mp hd)).ite hy) hx).ite hx)
      hs).ite
    hs

end
end CollKept

/-! ## A context's own registers and record -/

theorem State.cx_setCx (s : State) (c m : Nat) (k : Ctx) (hc : c < s.ctx.length) : (s.setCx c k).cx m = if c = m then k else s.cx m :=
  (getD_set_eq s.ctx c m k {} hc).trans (by simp only [eq_comm]; rfl)

theorem State.cx_setCx_self (s : State) (c : Nat) (k : Ctx) (hc : c < s.ctx.length) : (s.setCx c k).cx c = k := by
  rw [s.cx_setCx c c k hc, if_pos rfl]

theorem State.setCxState_frame (s : State) (c x : Nat) : Frame [A.RC_STATUS c, A.COLL_LAYOUT] s (s.setCxState c x) :=
  ((Frame.refl _ s).set (F.RC_STATUS_STATE c) x).set F.COLL_LAYOUT_OPEN _ (.tail _ (.head _))

/-- A change of a context's state leaves the other fields of RC_STATUS. -/
theorem State.setCxState_get (s : State) (c x : Nat) (hc : c < 16) : (s.setCxState c x).cxState c = x % 4
    ∧ ∀ f : Field, f.addr = A.RC_STATUS c → (F.RC_STATUS_STATE c).apart f = true → (s.setCxState c x).get f = s.get f := by
  have hne : ∀ c < 16, A.RC_STATUS c ≠ A.COLL_LAYOUT := by decide
  refine ⟨?_, fun f hf hapart => ?_⟩
  · rw [State.cxState, State.setCxState, State.countOpen, State.get_set_ne _ _ _ _ (hne c hc)]
    exact State.get_set_self _ _ _ (show 0 ≤ 1 by omega) (show 1 < 64 by omega)
  · rw [State.setCxState, State.countOpen, State.get_set_ne _ _ _ _ (hf ▸ hne c hc)]
    exact State.get_set_apart _ _ _ _ hapart

/-- A context that goes to IDLE. -/
theorem State.cxIdle_effect (s : State) (c : Nat) (hc : c < 16) (hlen : s.ctx.length = 16) :
    (s.cxIdle c).cx c = { s.cx c with rounds := [], arrived := false, heard := 0, chained := false, stage := 0 }
      ∧ (∀ a, a ≠ A.RC_STATUS c → a ≠ A.COLL_LAYOUT → (s.cxIdle c).reg a = s.reg a)
      ∧ (∀ f : Field, f.addr = A.RC_STATUS c → (F.RC_STATUS_STATE c).apart f = true → (s.cxIdle c).get f = s.get f)
      ∧ (s.cxIdle c).cxState c = 0 := by
  obtain ⟨x, hx⟩ : ∃ x, s.setCx c { s.cx c with rounds := [], arrived := false, heard := 0, chained := false, stage := 0 } = x := ⟨_, rfl⟩
  have heq : s.cxIdle c = x.setCxState c 0 := by
    rw [State.cxIdle, hx]
  have hreg (a : Nat) : x.reg a = s.reg a := hx ▸ State.reg_congr a rfl rfl rfl rfl
  obtain ⟨h1, h2⟩ := x.setCxState_get c 0 hc
  rw [heq]
  refine ⟨?_, fun a ha hb => ?_, fun f hf hapart => (h2 f hf hapart).trans (State.get_congr f (hreg _)), h1⟩
  · rw [← s.cx_setCx_self c { s.cx c with rounds := [], arrived := false, heard := 0, chained := false, stage := 0 } (by omega), hx]
    rfl
  · rw [(x.setCxState_frame c 0).regs a (by simp [ha, hb]), hreg]

/-- The member's position rests on the routing tables and the context's configuration. -/
theorem State.cxPos_congr (s x : State) (c : Nat) (h : ∀ a < collReg, x.reg a = s.reg a) (hcfg : x.reg (A.RC_CFG c) = s.reg (A.RC_CFG c))
    :
    x.cxPos c = s.cxPos c := by
  have hget (f : Field) (hf : f.addr < collReg) : x.get f = s.get f := State.get_congr f (h _ hf)
  have hstate (b : Nat) : x.bankState b = s.bankState b := hget _ (by split <;> decide)
  have htag (b : Nat) : x.bankTag b = s.bankTag b := hget _ (by split <;> decide)
  have hfind (t : Nat) : x.bankOfTag t = s.bankOfTag t := by simp only [State.bankOfTag, hstate, htag]
  have hsend : x.sendBank = s.sendBank := by
    rw [State.sendBank, State.sendBank, State.on, State.on, hget _ (by decide), hget _ (by decide), hfind]
  have haxis : x.get (F.RC_CFG_AXIS c) = s.get (F.RC_CFG_AXIS c) := State.get_congr _ hcfg
  have hstage : x.get (F.RC_CFG_STAGE c) = s.get (F.RC_CFG_STAGE c) := State.get_congr _ hcfg
  have hax : s.get (F.RC_CFG_AXIS c) < 4 := bits_lt _ 53 52
  have hst : s.get (F.RC_CFG_STAGE c) < 2 := bits_lt _ 51 51
  rw [State.cxPos, State.cxPos, haxis, hstage, State.axisPos, State.axisPos, hsend]
  split
  case h_1 => rfl
  case h_2 b hb =>
    have hb2 : b < 2 := by
      rw [State.sendBank] at hb
      split at hb
      · exact List.mem_range.mp (List.mem_of_find?_eq_some hb)
      · exact absurd hb (by simp)
    have hentry (d : Nat) (hd : d < 2) : x.derailleur b (s.get (F.RC_CFG_STAGE c)) (s.get (F.RC_CFG_AXIS c)) d
        = s.derailleur b (s.get (F.RC_CFG_STAGE c)) (s.get (F.RC_CFG_AXIS c)) d := h _ (by
      simp only [A.DERAILLEUR, rtReg, collReg]
      omega)
    rw [hentry 0 (by omega), hentry 1 (by omega)]

/-! ## Arrival (R339) -/

/-- A member that has not arrived arrives: the registers of the collective page stand, and so do the other contexts. -/
theorem State.pelotonArrive_effect (s : State) (c : Nat) (hc : c < s.ctx.length) (hactive : s.cxActive c kPeloton = true)
    (hnew : (s.cx c).arrived = false) (t : State) (ht : s.pelotonArrive c = t) :
    (∀ a, collPage a = true → t.reg a = s.reg a) ∧ (t.cx c).arrived = true
      ∧ (s.isMaster c = true → (t.cx c).heard = (s.cx c).heard ||| 2 ^ s.cxPos c ∧ ∀ a, t.reg a = s.reg a) := by
  rw [State.pelotonArrive, if_pos ⟨hactive, hnew⟩] at ht
  dsimp only at ht
  by_cases hm : s.isMaster c = true
  · rw [if_pos hm, if_pos hm] at ht
    have hreg (a : Nat) : t.reg a = s.reg a := ht ▸ State.reg_congr a rfl rfl rfl rfl
    have hcx := ht ▸ s.cx_setCx_self c _ hc
    exact ⟨fun a _ => hreg a, by rw [hcx], fun _ => ⟨by rw [hcx], hreg⟩⟩
  · rw [if_neg hm, if_neg hm] at ht
    obtain ⟨x, hx⟩ : ∃ x, s.setCx c { s.cx c with arrived := true } = x := ⟨_, rfl⟩
    rw [hx] at ht
    have hkept : CollKept x t := ht ▸ (CollKept.refl x).sendLocal _ _
    refine ⟨fun a ha => (hkept.regs a ha).trans (hx ▸ State.reg_congr a rfl rfl rfl rfl), ?_, fun h => absurd h hm⟩
    rw [hkept.cx, ← hx, s.cx_setCx_self c _ hc]

/-- An arrival leaves every context's stage of the Caravan, and the registers of the collective page. -/
theorem State.pelotonArrive_stage (s : State) (c m : Nat) (hc : c < s.ctx.length) : ((s.pelotonArrive c).cx m).stage = (s.cx m).stage
    ∧ ∀ a, collPage a = true → (s.pelotonArrive c).reg a = s.reg a := by
  have hset (k : Ctx) (hk : k.stage = (s.cx c).stage) : ((s.setCx c k).cx m).stage = (s.cx m).stage := by
    rw [s.cx_setCx c m k hc]
    split
    · next h => rw [hk, h]
    · rfl
  have hreg (k : Ctx) (a : Nat) : (s.setCx c k).reg a = s.reg a := State.reg_congr a rfl rfl rfl rfl
  unfold State.pelotonArrive
  split
  · dsimp only
    split
    · exact ⟨hset _ rfl, fun a _ => hreg _ a⟩
    · have hkept (die : Nat) (x : Send) := (CollKept.refl (s.setCx c { s.cx c with arrived := true })).sendLocal die x
      exact ⟨by rw [(hkept _ _).cx]; exact hset _ rfl, fun a ha => ((hkept _ _).regs a ha).trans (hreg _ a)⟩
  · exact ⟨rfl, fun _ _ => rfl⟩

/-! ## Release (R340) -/

/-- The module has no chained peloton and no Caravan. -/
def State.unchained (s : State) : Prop := ∀ m < 16, s.get (F.RC_OUT_CHAIN m) = 0 ∧ s.cxKind m ≠ kCaravan

theorem State.freedBy_unchained (s : State) (h : s.unchained) (n : Nat) (cs : List Nat) : s.freedBy n cs = cs := by
  induction n with
  | zero => rfl
  | succ n ih =>
    have hnone : (List.range 16).filter (s.chainedTo cs) = [] := List.filter_eq_nil_iff.mpr fun m hm => by
      rw [State.chainedTo, s.on_of_zero _ (h m (List.mem_range.mp hm)).1]
      simp
    rw [State.freedBy, hnone, List.append_nil, ih]

theorem State.caravanWaits_unchained (s : State) (h : s.unchained) (cs : List Nat) : (List.range 16).filter (s.caravanWaits cs) = [] :=
  List.filter_eq_nil_iff.mpr fun m hm => by
    have hk : (s.cxKind m == kCaravan) = false := beq_eq_false_iff_ne.mpr (h m (List.mem_range.mp hm)).2
    rw [State.caravanWaits, State.cxActive, hk]
    simp

/-- With no chain and no Caravan a release acts on its peloton alone. -/
theorem State.pelotonSpread_unchained (s : State) (h : s.unchained) (c mask : Nat) (hc : c < 16) :
    s.pelotonSpread c mask = s.pelotonFree c mask := by
  unfold State.pelotonSpread
  dsimp only
  rw [s.freedBy_unchained h, s.caravanWaits_unchained h, State.forN_only _ 16 c _ hc, if_pos rfl]
  intro x i _ hne
  rw [if_neg hne, if_neg (by simpa using hne), if_neg (by simp)]

/-- A peloton that is freed begins its next generation, or goes to IDLE after its last. -/
theorem State.pelotonFree_effect (s : State) (c mask : Nat) (hc : c < 16) (hlen : s.ctx.length = 16) (t : State)
    (ht : s.pelotonFree c mask = t) : t.pgen c = (s.pgen c + 1) % 65536 ∧ (t.cx c).arrived = false ∧ (t.cx c).heard = 0
      ∧ bits (t.reg (A.RC_RESULT c)) 63 48 = mask % 65536 := by
  obtain ⟨x, hx⟩ : ∃ x, s.rcDone c = x := ⟨_, rfl⟩
  obtain ⟨y, hy⟩ : ∃ y, x.setReg (A.RC_RESULT c) (mkWord [(63, 48, mask)]) = y := ⟨_, rfl⟩
  obtain ⟨z, hz⟩ : ∃ z, (if (s.cx c).arrived then y else y.wrapAdd (F.RC_ARR_TARGET c) (y.get (F.RC_ARR_STEP c))) = z := ⟨_, rfl⟩
  obtain ⟨k, hk⟩ : ∃ k : Ctx, { s.cx c with arrived := false, heard := 0, chained := false } = k := ⟨_, rfl⟩
  have hkarr : k.arrived = false ∧ k.heard = 0 := hk ▸ ⟨rfl, rfl⟩
  obtain ⟨w, hw⟩ : ∃ w, (z.wrapAdd (F.RC_STATUS_PGEN c) 1).setCx c k = w := ⟨_, rfl⟩
  have heq : t = if s.pgen c + 1 = s.cxRounds c then w.cxIdle c else w := by
    rw [← ht, State.pelotonFree, ← hw, ← hk, ← hz, ← hy, ← hx]
  have hkept : CollKept s x := hx ▸ (CollKept.refl s).rcDone c
  have hne : ∀ c < 16, A.RC_STATUS c ≠ A.RC_RESULT c ∧ A.RC_STATUS c ≠ A.RC_ARR c ∧ A.RC_RESULT c ≠ A.RC_ARR c
      ∧ A.RC_STATUS c ≠ A.COLL_LAYOUT ∧ A.RC_RESULT c ≠ A.COLL_LAYOUT ∧ collPage (A.RC_STATUS c) = true := by decide
  obtain ⟨n1, n2, n3, n4, n5, hpage⟩ := hne c hc
  have hframe : Frame [A.RC_ARR c] y z := hz ▸ (Frame.refl _ y).ite ((Frame.refl _ y).wrapAdd (F.RC_ARR_TARGET c) _)
  have hzctx : z.ctx = s.ctx := by
    have hzy : z.ctx = y.ctx := by
      rw [← hz]
      split
      · rfl
      · exact State.wrapAdd_ctx _ _ _
    rw [hzy, ← hy, State.setReg_ctx, hkept.ctx]
  have hpgen : z.get (F.RC_STATUS_PGEN c) = s.pgen c := by
    rw [hframe.get _ (by simpa using (show (F.RC_STATUS_PGEN c).addr ≠ A.RC_ARR c from n2)), ← hy,
      State.get_congr _ (State.reg_setReg_ne _ _ _ _ n1), hkept.get _ hpage, State.pgen]
  have hwpgen : w.pgen c = (s.pgen c + 1) % 65536 := by
    rw [← hw, State.pgen, State.get_setCx, State.wrapAdd, hpgen]
    exact State.get_set_self _ _ _ (show 8 ≤ 23 by omega) (show 23 < 64 by omega)
  have hwcx : w.cx c = k := by
    rw [← hw]
    exact State.cx_setCx_self _ c k (by rw [State.wrapAdd_ctx, hzctx, hlen]; exact hc)
  have hwres : w.reg (A.RC_RESULT c) = mkWord [(63, 48, mask)] := by
    rw [← hw, State.reg_setCx, State.wrapAdd, State.reg_set_ne _ _ _ _ (show A.RC_RESULT c ≠ (F.RC_STATUS_PGEN c).addr from n1.symm),
        hframe.regs _ (by simpa using n3), ← hy, State.reg_setReg_self]
  have hres : bits (mkWord [(63, 48, mask)]) 63 48 = mask % 65536 := by
    simp (disch := decide) only [mkWord, List.foldl, bits_putBits_self]
    rfl
  rw [heq]
  split
  · obtain ⟨i1, i2, i3, i4⟩ := w.cxIdle_effect c hc (by rw [← hw]; exact List.length_set.trans (by rw [State.wrapAdd_ctx, hzctx, hlen]))
    refine ⟨?_, by rw [i1], by rw [i1], ?_⟩
    · rw [← hwpgen]
      exact i3 (F.RC_STATUS_PGEN c) rfl rfl
    · rw [i2 _ n1.symm n5, hwres, hres]
  · exact ⟨hwpgen, by rw [hwcx, hkarr.1], by rw [hwcx, hkarr.2], by rw [hwres, hres]⟩

/-- A release of a peloton whose module has no chain and no Caravan. -/
theorem State.pelotonRelease_effect (s : State) (c : Nat) (hc : c < 16) (hlen : s.ctx.length = 16) (hplain : s.unchained) (mask : Nat)
    (t : State) (ht : s.pelotonRelease c mask = t) : t.pgen c = (s.pgen c + 1) % 65536 ∧ (t.cx c).arrived = false ∧ (t.cx c).heard = 0
      ∧ bits (t.reg (A.RC_RESULT c)) 63 48 = mask % 65536 ∧ ∀ o, Keeps false o s → Keeps false o t := by
  obtain ⟨x, hx⟩ : ∃ x, s.sendRelease c mask = x := ⟨_, rfl⟩
  have hkept : CollKept s x := hx ▸ ((CollKept.refl s).sendLocal _ _).ite (CollKept.refl s)
  have haddr : ∀ m < 16, collPage (A.RC_OUT m) = true ∧ collPage (A.RC_CFG m) = true ∧ collPage (A.RC_STATUS m) = true := by decide
  have hxplain : x.unchained := fun m hm => by
    obtain ⟨hchain, hkind⟩ := hplain m hm
    refine ⟨(hkept.get _ (haddr m hm).1).trans hchain, ?_⟩
    rw [State.cxKind, hkept.get _ (haddr m hm).2.1]
    exact hkind
  rw [State.pelotonRelease, hx, x.pelotonSpread_unchained hxplain c mask hc] at ht
  obtain ⟨h1, h2, h3, h4⟩ := x.pelotonFree_effect c mask hc (by rw [hkept.ctx, hlen]) t ht
  have hpgen : x.pgen c = s.pgen c := hkept.get _ (haddr c hc).2.2
  refine ⟨by rw [h1, hpgen], h2, h3, h4, fun o ho => ?_⟩
  rw [← ht, ← hx]
  exact (ho.sendRelease c mask).pelotonFree c mask

/-- Settles O51, through what a member's arrival and a release leave of the contexts. -/
theorem pelotonsAndCaravan : Obligations.PelotonsAndCaravan := by
  unfold Obligations.PelotonsAndCaravan
  intro s c hs hshape hc plain
  have hlen : s.ctx.length = 16 := hshape.2.2.1
  have hlive (f : State → State) : lively s c 16 f = .next (f s) := lively_powered s c 16 f hc hs.1 hs.2
  refine ⟨fun n hactive hen hnew hsite hreached => ?_, fun hactive hmaster hslot hheard hall hchained hplain => ?_,
    fun hactive hmaster hslot hdl hpast hplain => ?_, fun hactive hstage hopen => ?_, fun hactive hstage hrecv => ?_⟩
  · obtain ⟨x, hx⟩ : ∃ x, s.wrapAdd (F.RC_ARR_TARGET c) (s.get (F.RC_ARR_STEP c)) = x := ⟨_, rfl⟩
    obtain ⟨t, ht⟩ : ∃ t, x.pelotonArrive c = t := ⟨_, rfl⟩
    have hrun : pelotonMemberArrive c s = t := by
      rw [pelotonMemberArrive]
      rw [hsite, s.on_of_one _ hen]
      dsimp only
      rw [if_pos ⟨hactive, rfl, hnew, hreached⟩, hx, ht]
    have hframe : Frame [A.RC_ARR c] s x := hx ▸ (Frame.refl _ s).wrapAdd (F.RC_ARR_TARGET c) _
    have hxctx : x.ctx = s.ctx := hx ▸ State.wrapAdd_ctx _ _ _
    have hxcx : x.cx c = s.cx c := congrArg (fun l => l.getD c {}) hxctx
    have hne : ∀ c < 16, A.RC_STATUS c ∉ [A.RC_ARR c] ∧ A.RC_CFG c ∉ [A.RC_ARR c] ∧ A.RC_OUT c ∉ [A.RC_ARR c]
      ∧ A.RT_NODE_ID ∉ [A.RC_ARR c] ∧ collPage (A.RC_ARR c) = true := by decide
    obtain ⟨n1, n2, n3, n4, hpage⟩ := hne c hc
    have hxactive : x.cxActive c kPeloton = true := by
      rw [← hactive, State.cxActive, State.cxActive, State.cxState, State.cxKind, hframe.get _ n1, hframe.get _ n2]
      rfl
    have hxmaster : x.isMaster c = s.isMaster c := by
      rw [State.isMaster, State.isMaster, hframe.get _ n3, hframe.get _ n4]
    obtain ⟨h1, h2, h3⟩ := x.pelotonArrive_effect c (by rw [hxctx, hlen]; exact hc) hxactive (by rw [hxcx, hnew]) t ht
    refine ⟨t, (hlive (pelotonMemberArrive c)).trans (congrArg _ hrun), h2, ?_, fun hm => ?_,
      hrun ▸ ((Keeps.refl s).pelotonMemberArrive c).bytes⟩
    · rw [State.get_congr _ (h1 _ hpage), ← hx]
      exact State.get_set_self _ _ _ (show 0 ≤ 31 by omega) (show 31 < 64 by omega)
    · obtain ⟨hheard, hregs⟩ := h3 (hxmaster.trans hm)
      refine ⟨?_, fun a ha => (hregs a).trans (hframe.regs a ha)⟩
      rw [hheard, hxcx, s.cxPos_congr x c (fun a ha => hframe.regs a ?_) (hframe.regs _ n2)]
      simp only [A.RC_ARR, List.mem_singleton]
      omega
  · obtain ⟨h1, h2, h3, h4, h5⟩ := s.pelotonRelease_effect c hc hlen hplain (s.cx c).heard _ rfl
    refine ⟨_, (hlive (pelotonMasterRelease c)).trans (congrArg _ ?_), h1, h2, h3, h4, (h5 s (Keeps.refl s)).bytes⟩
    rw [pelotonMasterRelease, if_pos ⟨hactive, hmaster, beq_iff_eq.mpr hslot, hheard, hall, hchained⟩,
      s.on_of_zero _ (hplain c hc).1, if_neg (by decide)]
  · obtain ⟨x, hx⟩ : ∃ x, (if s.cxMembers c &&& ((s.cx c).heard ^^^ 0xFFFF) = 0 then s else s.fault 0x0602 (unitCtx c) false
      (mkWord [(63, 60, c), (59, 44, s.pgen c), (43, 28, s.cxMembers c &&& ((s.cx c).heard ^^^ 0xFFFF)),
        (15, 0, ((List.range 16).filter (bitAt (s.cxMembers c &&& ((s.cx c).heard ^^^ 0xFFFF)))).length)])) = x := ⟨_, rfl⟩
    have hkept : CollKept s x := hx ▸ (CollKept.refl s).ite ((CollKept.refl s).fault _ _ _ _)
    have haddr : ∀ m < 16, collPage (A.RC_OUT m) = true ∧ collPage (A.RC_CFG m) = true ∧ collPage (A.RC_STATUS m) = true := by decide
    have hxplain : x.unchained := fun m hm => by
      obtain ⟨hchain, hkind⟩ := hplain m hm
      refine ⟨(hkept.get _ (haddr m hm).1).trans hchain, ?_⟩
      rw [State.cxKind, hkept.get _ (haddr m hm).2.1]
      exact hkind
    obtain ⟨h1, h2, h3, h4, h5⟩ := x.pelotonRelease_effect c hc (by rw [hkept.ctx, hlen]) hxplain (s.cx c).heard _ rfl
    have hpgen : x.pgen c = s.pgen c := hkept.get _ (haddr c hc).2.2
    refine ⟨_, (hlive (pelotonDeadline c)).trans (congrArg _ ?_), by rw [h1, hpgen], h2, h3, h4, ?_⟩
    · rw [pelotonDeadline]
      dsimp only
      rw [if_pos ⟨hactive, hmaster, beq_iff_eq.mpr hslot, hdl, hpast⟩, hx]
    · have hkeeps : Keeps false s x := hx ▸ (Keeps.refl s).ite ((Keeps.refl s).fault _ _ _ _)
      exact (h5 s hkeeps).bytes
  · obtain ⟨g, hg⟩ : ∃ g, s.get (F.RC_CARAVAN_NEW_GEN c) = g := ⟨_, rfl⟩
    have hg8 : g < 2 ^ 8 := hg ▸ bits_lt _ _ _
    obtain ⟨x, hx⟩ : ∃ x, (((s.set F.COLL_LAYOUT_CUR g).set (F.RC_STATUS_LGEN c) g).setCx c { s.cx c with stage := 1 }) = x := ⟨_, rfl⟩
    have hrun : caravanFence c s = x.pelotonArrive (s.get (F.RC_CARAVAN_PCTX c)) := by
      rw [caravanFence, if_pos ⟨hactive, hstage, hopen⟩]
      dsimp only
      rw [hg, hx]
    have hpctx : s.get (F.RC_CARAVAN_PCTX c) < 16 := bits_lt _ 55 52
    have hxlen : x.ctx.length = 16 := by rw [← hx]; exact List.length_set.trans hlen
    obtain ⟨hst, hregs⟩ := x.pelotonArrive_stage (s.get (F.RC_CARAVAN_PCTX c)) c (by omega)
    have hne : ∀ c < 16, A.COLL_LAYOUT ≠ A.RC_STATUS c ∧ collPage A.COLL_LAYOUT = true ∧ collPage (A.RC_STATUS c) = true := by decide
    obtain ⟨n1, n2, n3⟩ := hne c hc
    refine ⟨_, (hlive (caravanFence c)).trans (congrArg _ hrun), ?_, ?_, ?_, hrun ▸ ((Keeps.refl s).caravanFence c).bytes⟩
    · rw [State.get_congr _ (hregs _ n2), ← hx, State.get_setCx,
        State.get_set_ne _ _ _ _ (show F.COLL_LAYOUT_CUR.addr ≠ (F.RC_STATUS_LGEN c).addr from n1), hg]
      exact State.get_set_lt _ _ _ (show 0 ≤ 7 by omega) (show 7 < 64 by omega) hg8
    · rw [State.get_congr _ (hregs _ n3), ← hx, State.get_setCx, hg]
      exact State.get_set_lt _ _ _ (show 40 ≤ 47 by omega) (show 47 < 64 by omega) hg8
    · rw [hst, ← hx, State.cx_setCx_self _ c _ (by rw [State.set_ctx, State.set_ctx, hlen]; exact hc)]
  · obtain ⟨x, hx⟩ : ∃ x, s.setCx c { s.cx c with stage := 3 } = x := ⟨_, rfl⟩
    have hrun : caravanPhaseDone c s = x.pelotonArrive (s.get (F.RC_CARAVAN_PCTX c)) := by
      rw [caravanPhaseDone]
      dsimp only
      rw [if_pos ⟨hactive, hstage, hrecv⟩, hx]
    have hpctx : s.get (F.RC_CARAVAN_PCTX c) < 16 := bits_lt _ 55 52
    have hxlen : x.ctx.length = 16 := by rw [← hx]; exact List.length_set.trans hlen
    obtain ⟨hst, -⟩ := x.pelotonArrive_stage (s.get (F.RC_CARAVAN_PCTX c)) c (by omega)
    refine ⟨_, (hlive (caravanPhaseDone c)).trans (congrArg _ hrun), ?_, hrun ▸ ((Keeps.refl s).caravanPhaseDone c).bytes⟩
    rw [hst, ← hx, State.cx_setCx_self _ c _ (by rw [hlen]; exact hc)]

end Sys2Proof.Machine

/-! Collective contexts and their rounds (O50). -/
namespace Sys2Proof.Machine

/-! ## The rounds through the work of other units -/

/-- Every context's rounds stand from state `o` on. -/
structure RoundsKept (o s : State) : Prop where
  len : s.ctx.length = o.ctx.length
  rounds : ∀ m, (s.cx m).rounds = (o.cx m).rounds

namespace RoundsKept

theorem refl (s : State) : RoundsKept s s := ⟨rfl, fun _ => rfl⟩

theorem trans {o s t : State} (h : RoundsKept o s) (h' : RoundsKept s t) : RoundsKept o t :=
  ⟨h'.len.trans h.len, fun m => (h'.rounds m).trans (h.rounds m)⟩

theorem of_ctx {s t : State} (h : t.ctx = s.ctx) : RoundsKept s t :=
  ⟨congrArg List.length h, fun m => congrArg (fun l => (l.getD m {}).rounds) h⟩

theorem of_mem {s t : State} (h : MemOnly s t) : RoundsKept s t := by
  obtain ⟨_, _, _, _, _, _, rfl⟩ := h
  exact of_ctx rfl

theorem ite {o s t : State} {c : Prop} [Decidable c] (hs : RoundsKept o s) (ht : RoundsKept o t) : RoundsKept o (if c then s else t) := by
  split
  · exact hs
  · exact ht

theorem foldl {o : State} {α : Type} (f : State → α → State) (l : List α) (hf : ∀ s a, RoundsKept o s → RoundsKept o (f s a))
    {s : State} (hs : RoundsKept o s) : RoundsKept o (l.foldl f s) :=
  l.foldlRecOn f (motive := RoundsKept o) hs fun s hs a _ => hf s a hs

section
variable {o s : State} (hs : RoundsKept o s)
include hs

theorem next {t : State} (h : t.ctx = s.ctx) : RoundsKept o t := hs.trans (of_ctx h)

theorem snd_eq {t u : State} {α : Type} {p : α × State} {a : α} (h : RoundsKept s p.2) (e : p = (a, t)) (hu : u = t) : RoundsKept o u :=
    by
  subst hu
  rw [e] at h
  exact hs.trans h

theorem set (f : Field) (v : Nat) : RoundsKept o (s.set f v) := hs.next rfl

theorem setReg (a : Nat) (w : Word) : RoundsKept o (s.setReg a w) := hs.next rfl

theorem add (f : Field) (n : Nat) : RoundsKept o (s.add f n) := hs.next rfl

theorem plain {seq : Seq} {upd : List Upd} {stage : Mem} : RoundsKept o { s with seq := seq, upd := upd, stage := stage } := hs.next rfl

theorem setCx (c : Nat) (k : Ctx) (hk : k.rounds = (s.cx c).rounds) : RoundsKept o (s.setCx c k) := by
  refine hs.trans ⟨List.length_set, fun m => ?_⟩
  by_cases hc : c < s.ctx.length
  · rw [s.cx_setCx c m k hc]
    split
    · next h => rw [hk, h]
    · rfl
  · have hset : s.ctx.set c k = s.ctx := List.set_eq_of_length_le (by omega)
    rw [State.cx, State.setCx_ctx, hset, State.cx]

theorem fault (code unit : Nat) (slow : Bool) (detail : Word) : RoundsKept o (s.fault code unit slow detail) :=
  hs.next (by rw [State.fault_only])

theorem faultAt (code unit : Nat) (slow : Bool) (detail : Word) (time : Nat) : RoundsKept o (s.faultAt code unit slow detail time) :=
  hs.next (by rw [State.faultAt_only])

theorem memRead (org : Origin) (a n : Nat) (rep : Option Burst) : RoundsKept o (s.memRead org a n rep).st :=
  hs.trans (of_mem ((MemOnly.refl s).memRead _ _ _ _))

theorem memPut (org : Origin) (atomic : Bool) (a : Nat) (bs : List Byte) (rep : Option Burst) :
    RoundsKept o (s.memPut org atomic a bs rep).st :=
  hs.trans (of_mem ((MemOnly.refl s).memPut _ _ _ _ _))

theorem stepWrote (t a n : Nat) : RoundsKept o (s.stepWrote t a n) := hs.ite hs.plain

theorem cxWrote (c a n : Nat) : RoundsKept o (s.cxWrote c a n) := (hs.stepWrote _ _ _).ite hs

theorem cxPut (c a : Nat) (bs : List Byte) : RoundsKept o (s.cxPut c a bs) := (hs.memPut _ _ _ _ _).cxWrote _ _ _

theorem seqCheck (t csum pfail late : Nat) : RoundsKept o (s.seqCheck t csum pfail late) := (((hs.add _ _).add _ _).add _ _).ite hs

theorem sendRed (c r off : Nat) (bs : List Byte) (w2 : Word) (policy deadline : Nat) (fwd : Bool) (kind : Nat) :
    RoundsKept o (s.sendRed c r off bs w2 policy deadline fwd kind) :=
  hs.next ((CollKept.refl s).sendLocal _ _).ctx

theorem showRound (c : Nat) : RoundsKept o (s.showRound c) := by
  unfold State.showRound
  split
  · exact hs
  · exact hs.set _ _

theorem stray (c : Nat) : RoundsKept o (s.stray c) := hs.set _ _

/-! ### The update units -/

theorem updGroup (n k g : Nat) : RoundsKept o (s.updGroup n k g) := by
  unfold State.updGroup
  extract_lets +onlyGivenNames org t u fresh d rs s1 c rule mf gf
  have h1 : RoundsKept o s1 := by
    unfold s1 rs
    split
    · exact hs.memRead _ _ _ _
    · exact hs
  clear_value s1
  split
  next rp rm rv _ =>
  extract_lets +onlyGivenNames mw gw ap am av ax rd
  have hrd (x : State) (yes : Bool) (a w : Nat) : RoundsKept x (rd x yes a w).2 := by
    unfold rd
    split
    · exact (refl x).memRead _ _ _ _
    · exact refl x
  clear_value rd
  split
  next bp s2 e2 =>
  have h2 := h1.snd_eq (hrd _ _ _ _) e2 rfl
  split
  next bm s3 e3 =>
  have h3 := h2.snd_eq (hrd _ _ _ _) e3 rfl
  split
  next bv s4 e4 =>
  have h4 := h3.snd_eq (hrd _ _ _ _) e4 rfl
  split
  next bx s5 e5 => exact ((((h4.snd_eq (hrd _ _ _ _) e5 rfl).add _ _).set _ _).set _ _ |>.set _ _).plain

theorem updNext (n : Nat) : RoundsKept o (s.updNext n) := by
  have hdone {x : State} (hx : RoundsKept o x) (v : Nat) :
      RoundsKept o (if (x.set F.UPD_STATUS_DONE v).get F.UPD_STATUS_DONE = 0xFFFF then (x.set F.UPD_STATUS_DONE v).set
          F.UPD_STATUS_RUNNING 0
        else x.set F.UPD_STATUS_DONE v) := ((hx.set _ _).set _ _).ite (hx.set _ _)
  unfold State.updNext
  dsimp only
  split
  · exact hs.updGroup _ _ _
  · exact hdone (((hs.set _ _).set _ _).plain) _

theorem updStart (resume : Bool) : RoundsKept o (s.updStart resume) := by
  unfold State.updStart
  refine foldl _ _ (fun x n hx => ite hx.plain ?_) (((hs.set _ _).set _ _).add _ _)
  exact updNext (hx.ite (hx.setReg _ _)).plain n

theorem tryApply : RoundsKept o s.tryApply := ((hs.set _ _).updStart _).ite hs

/-! ### Results -/

theorem setCause (c : Nat) : RoundsKept o (s.setCause c) := (hs.set _ _).set _ _

theorem addCounter (n c inc src : Nat) : RoundsKept o (s.addCounter n c inc src) :=
  ((hs.set _ _).fault _ _ _ _).ite (((hs.set _ _).fault _ _ _ _).ite (hs.set _ _))

theorem normDeliver (t x : Nat) : RoundsKept o (s.normDeliver t x) := by
  unfold State.normDeliver
  extract_lets bad norm mx clip s1 s2 s3 s4
  have h1 : RoundsKept o s1 := (hs.setCause 1).ite hs
  have h3 : RoundsKept o s3 := (((h1.memPut _ _ _ _ _).stepWrote _ _ _).set _ _).set _ _
  have h4 : RoundsKept o s4 := (foldl _ _ (fun x n hx => hx.addCounter _ _ _ _) h3).ite h3
  exact (tryApply h4.plain).ite hs

theorem verdictDeliver (t : Nat) (r : List Nat) (marked : Bool) : RoundsKept o (s.verdictDeliver t r marked) :=
  hs.ite (((hs.setReg _ _).setReg _ _).setReg _ _).plain

theorem raiseMax (c r : Nat) (bs : List Byte) : RoundsKept o (s.raiseMax c r bs) := by
  unfold State.raiseMax
  refine ite ?_ hs
  exact hs.setCx c _ rfl

theorem resultHere (c r : Nat) (bs : List Byte) (marked sat : Bool) : RoundsKept o (s.resultHere c r bs marked sat) := by
  unfold State.resultHere
  extract_lets s1 tag v k s2' s2
  have h1 : RoundsKept o s1 := hs.raiseMax c r bs
  have h2' : RoundsKept o s2' := h1.setCx c _ rfl
  have h2 : RoundsKept o s2 := ((h2'.normDeliver _ _).ite h2').ite h1
  exact (h2.verdictDeliver _ _ _).ite h2

end
end RoundsKept

theorem State.showRound_frame {l : List Nat} {o : State} {c : Nat} (s : State) (hs : Frame l o s) (hl : A.RC_STATUS c ∈ l) :
    Frame l o (s.showRound c) := by
  unfold State.showRound
  split
  · exact hs
  · exact hs.set (F.RC_STATUS_ROUND c) _ hl

/-! ## Rounds and their phases -/

/-- Context c holds round n, in phase ph. -/
def State.roundIn (s : State) (c n ph : Nat) : Prop :=
  (∀ y ∈ (s.cx c).rounds, y.num = n → y.phase = ph) ∧ ∃ y ∈ (s.cx c).rounds, y.num = n

theorem State.roundIn.found {s : State} {c n ph : Nat} (h : s.roundIn c n ph) : ∃ y ∈ (s.cx c).rounds, y.num = n ∧ y.phase = ph := by
  obtain ⟨hall, y, hy, hn⟩ := h
  exact ⟨y, hy, hn, hall y hy hn⟩

theorem State.roundIn.keep {s t : State} {c n ph : Nat} (h : s.roundIn c n ph) (hk : RoundsKept s t) : t.roundIn c n ph := by
  rw [State.roundIn, hk.rounds c]
  exact h

theorem RoundsKept.putRound {s : State} {c : Nat} (x : Round) :
    RoundsKept (s.setCx c { s.cx c with rounds := (s.cx c).rounds.map fun y => if y.num = x.num then x else y }) (s.putRound c x) :=
  (RoundsKept.refl _).showRound c

/-- A round that is put back stands in its new phase. -/
theorem State.putRound_self (s : State) (c : Nat) (x : Round) (hc : c < s.ctx.length) (hmem : ∃ y ∈ (s.cx c).rounds, y.num = x.num) :
    (s.putRound c x).roundIn c x.num x.phase ∧ x ∈ ((s.putRound c x).cx c).rounds := by
  have hrounds : ((s.putRound c x).cx c).rounds = (s.cx c).rounds.map fun y => if y.num = x.num then x else y := by
    rw [(RoundsKept.putRound x).rounds c, s.cx_setCx_self c _ hc]
  obtain ⟨y, hy, hn⟩ := hmem
  have hx : x ∈ ((s.putRound c x).cx c).rounds := by
    rw [hrounds]
    exact List.mem_map.mpr ⟨y, hy, if_pos hn⟩
  refine ⟨⟨fun z hz hzn => ?_, x, hx, rfl⟩, hx⟩
  rw [hrounds] at hz
  obtain ⟨w, hw, hwz⟩ := List.mem_map.mp hz
  split at hwz
  · rw [← hwz]
  · next hne => exact absurd (hwz ▸ hzn) hne

/-- A round of another context that is put back. -/
theorem State.putRound_other (s : State) (k : Nat) (x : Round) (c n ph : Nat) (hk : k < s.ctx.length) (hne : k ≠ c)
    (h : s.roundIn c n ph) : (s.putRound k x).roundIn c n ph := by
  rw [State.roundIn, (RoundsKept.putRound x).rounds c, s.cx_setCx k c _ hk, if_neg hne]
  exact h

/-- CHAIN leaves a round that is being sent. -/
theorem State.chainTo_keeps (s : State) (c k r : Nat) (bs : List Byte) (w2 : Word) (sat marked : Bool) (hk : k < s.ctx.length)
    (h : s.roundIn c r 2) : (s.chainTo k r bs w2 sat marked).roundIn c r 2 := by
  have hstray : (s.stray k).roundIn c r 2 := h.keep ((RoundsKept.refl s).stray k)
  unfold State.chainTo
  split
  case h_2 => exact hstray
  case h_1 x hx =>
    split
    case isFalse => exact hstray
    case isTrue hopen =>
      have hnum : x.num = r := by simpa using List.find?_some hx
      have hne : k ≠ c := fun e => by
        have hmem : x ∈ (s.cx c).rounds := e ▸ List.mem_of_find?_eq_some hx
        have h2 := h.1 x hmem hnum
        omega
      exact State.putRound_other _ k _ c r 2 hk hne (h.keep (RoundsKept.of_ctx rfl))

/-! ## The close of a round (R327) -/

theorem State.exclude_effect (s : State) (c : Nat) (x : Round) (i : Nat) :
    RoundsKept s (s.exclude c x i).1 ∧ (s.exclude c x i).2.num = x.num := by
  unfold State.exclude
  refine List.foldlRecOn (motive := fun r : State × Round => RoundsKept s r.1 ∧ r.2.num = x.num) _ _ ⟨RoundsKept.refl s, rfl⟩ ?_
  rintro ⟨t, y⟩ ⟨h1, h2⟩ p -
  exact ⟨h1.plain, h2⟩

/-- A round that closes stands closed. -/
theorem State.close_effect (s : State) (c : Nat) (x : Round) (hc : c < s.ctx.length) (hmem : ∃ y ∈ (s.cx c).rounds, y.num = x.num) :
    (s.close c x).roundIn c x.num 1 := by
  unfold State.close
  extract_lets +onlyGivenNames nin dl pm inputs inp mask late rest pois inc
  have h1 : RoundsKept s ((late ++ pois).foldl (fun (r : State × Round) i => r.1.exclude c r.2 i) (s, x)).1
      ∧ ((late ++ pois).foldl (fun (r : State × Round) i => r.1.exclude c r.2 i) (s, x)).2.num = x.num := by
    refine List.foldlRecOn (motive := fun r : State × Round => RoundsKept s r.1 ∧ r.2.num = x.num) _ _ ⟨RoundsKept.refl s, rfl⟩ ?_
    rintro ⟨t, y⟩ ⟨h1, h2⟩ i -
    obtain ⟨h3, h4⟩ := t.exclude_effect c y i
    exact ⟨h1.trans h3, h4.trans h2⟩
  split
  next s1 x1 e1 =>
  rw [e1] at h1
  extract_lets +onlyGivenNames pos
  split
  next s2 x2 e2 =>
  have hfold (f : State × Round → Nat → State × Round) (hf : ∀ r i, RoundsKept r.1 (f r i).1 ∧ (f r i).2.num = r.2.num)
      (e : pos.foldl f (s1, x1) = (s2, x2)) : RoundsKept s s2 ∧ x2.num = x.num := by
    have h := List.foldlRecOn (motive := fun r : State × Round => RoundsKept s r.1 ∧ r.2.num = x.num) pos f h1 fun r hr i _ =>
      ⟨hr.1.trans (hf r i).1, (hf r i).2.trans hr.2⟩
    rwa [e] at h
  have hrewrites : RoundsKept s s2 ∧ x2.num = x.num := by
    refine hfold _ (fun r i => ?_) e2
    exact ⟨(RoundsKept.refl _).plain, rfl⟩
  obtain ⟨hkept, hnum⟩ := hrewrites
  extract_lets +onlyGivenNames sum lateAdd poison w2 x3 s3 head s4 held s5
  have hput : s3.roundIn c x.num 1 := by
    have h := (s2.putRound_self c x3 (by rw [hkept.len]; exact hc) (by rw [hkept.rounds]; exact hnum ▸ hmem)).1
    exact hnum ▸ h
  have h4 : RoundsKept s3 s4 := (RoundsKept.refl s3).ite ((RoundsKept.refl s3).faultAt _ _ _ _ _)
  have h5 : RoundsKept s3 s5 := h4.ite (h4.faultAt _ _ _ _ _)
  exact hput.keep ((h5.seqCheck _ _ _ _).ite h5)

/-! ## The outputs of a round (R330 to R332) -/

/-- A round that is sent stands in SENDING. -/
theorem State.sendRound_effect (s : State) (c : Nat) (x : Round) (hc : c < 16) (hlen : s.ctx.length = 16)
    (hmem : ∃ y ∈ (s.cx c).rounds, y.num = x.num) : (s.sendRound c x).roundIn c x.num 2 := by
  have hfold (f : State → Nat × Nat → State) (hf : ∀ t p, RoundsKept t (f t p)) (l : List (Nat × Nat)) (t : State) :
      RoundsKept t (l.foldl f t) := RoundsKept.foldl f l (fun u p hu => hu.trans (hf u p)) (RoundsKept.refl t)
  unfold State.sendRound
  extract_lets r bs diff spec sA s1 marked pm final pol dl parts fw2 s2 s3 s4 s5' s5
  have hA : RoundsKept s sA := (RoundsKept.refl s).fault _ _ _ _
  have h1 : RoundsKept s s1 := (RoundsKept.refl s).ite ((hA.seqCheck _ _ _ _).ite hA)
  have h2 : s2.roundIn c x.num 2 :=
    ((s1.putRound_self c { x with phase := 2, marked := marked, policy := final } (by rw [h1.len, hlen]; exact hc)
      (by rw [h1.rounds]; exact hmem)).1).keep (RoundsKept.of_ctx rfl)
  have hlen2 : s2.ctx.length = 16 := by
    have h := RoundsKept.putRound (s := s1) (c := c) { x with phase := 2, marked := marked, policy := final }
    exact h.len.trans (List.length_set.trans (h1.len.trans hlen))
  have h3 : RoundsKept s2 s3 := (hfold _ (fun t p => (RoundsKept.refl t).sendRed _ _ _ _ _ _ _ _ _) _ _).ite (RoundsKept.refl s2)
  have h4 : RoundsKept s2 s4 := (h3.trans (hfold _ (fun t p => (RoundsKept.refl t).sendRed _ _ _ _ _ _ _ _ _) _ _)).ite h3
  have h5' : RoundsKept s2 s5' := (h4.cxPut _ _ _).cxPut _ _ _
  have h5 : RoundsKept s2 s5 := (h5'.resultHere _ _ _ _ _).ite h4
  have hs5 := h2.keep h5
  split
  · exact s5.chainTo_keeps c _ _ _ _ _ _ (by rw [h5.len, hlen2]; exact bits_lt _ 59 56) hs5
  · exact hs5

/-- A round without outputs whose checksum holds: its result is shown. -/
theorem State.sendRound_silent (s : State) (c : Nat) (x : Round)
    (hsum : unsigned 64 (mantSum (s.stage.load (s.cxArea c x.num 1) (s.cxR c)) + x.corr - (x.expect : Int)) = 0)
    (hfwd : s.get (F.RC_OUT_FWD c) = 0) (hbcast : s.get (F.RC_OUT_BCAST c) = 0) (hstore : s.get (F.RC_OUT_STORE c) = 0)
    (hchain : s.get (F.RC_OUT_CHAIN c) = 0) (t : State) (ht : s.sendRound c x = t) :
    t.reg (A.RC_RESULT c) = x.word2 ∧ Frame [A.RC_RESULT c, A.RC_STATUS c] s t := by
  obtain ⟨y, hy⟩ : ∃ y, ∃ k, s.putRound c k = y ∧ t = y.setReg (A.RC_RESULT c) x.word2 := by
    unfold State.sendRound at ht
    dsimp only at ht
    rw [hsum, if_pos rfl, s.on_of_zero _ hfwd, s.on_of_zero _ hbcast, s.on_of_zero _ hstore, s.on_of_zero _ hchain] at ht
    exact ⟨_, _, rfl, ht.symm⟩
  obtain ⟨k, hk, heq⟩ := hy
  refine ⟨by rw [heq, State.reg_setReg_self], ?_⟩
  have hframe : Frame [A.RC_RESULT c, A.RC_STATUS c] s y := by
    rw [← hk]
    exact State.showRound_frame _ (Frame.refl _ s).plain (.tail _ (.head _))
  rw [heq]
  exact hframe.setReg (A.RC_RESULT c) x.word2

/-! ## A round opens (R324) -/

theorem Mem.get_zero (m : Mem) (lo n a : Nat) (h : lo ≤ a ∧ a < lo + n) : (m.zero lo n).get a = 0 := by
  unfold Mem.zero
  split
  · next hempty =>
    have hnone : mapFind (m.cells.filter fun c => c.1 < lo || lo + n ≤ c.1) a = none := by
      rw [mapFind, List.find?_eq_none.mpr]
      · rfl
      · intro c hc he
        have hout := (List.mem_filter.mp hc).2
        have hca : c.1 = a := beq_iff_eq.mp he
        rw [hca] at hout
        simp only [Bool.or_eq_true, decide_eq_true_eq] at hout
        omega
    have hgen : Mem.default { m with cells := m.cells.filter fun c => c.1 < lo || lo + n ≤ c.1 } a = 0 := by
      rw [Mem.default, Mem.genAt, hempty.1, hempty.2]
      rfl
    rw [Mem.get, hnone, hgen]
    rfl
  · rw [Mem.get_store, List.length_replicate, if_pos h, List.getD_replicate _ (by omega)]

theorem State.cxWrote_only (s : State) (c a n : Nat) : ∃ seq, s.cxWrote c a n = { s with seq := seq } := by
  unfold State.cxWrote State.stepWrote
  split
  · split
    · exact ⟨_, rfl⟩
    · exact ⟨_, rfl⟩
  · exact ⟨_, rfl⟩

theorem State.openRound_effect (s : State) (c r : Nat) (hc : c < s.ctx.length) (hr : r < s.cxRounds c) (t : State)
    (ht : s.openRound c r = t) :
    (t.cx c).rounds = (s.cx c).rounds ++ [{ num := r, ins := List.replicate (s.get (F.RC_CFG_NIN c) + 1) {} }]
      ∧ (∀ i < s.cxR c, t.stage.get (s.cxArea c r 1 + i) = 0) ∧ t.near = s.near ∧ t.ctx.length = s.ctx.length
      ∧ (∀ a, a ≠ A.RC_STATUS c → t.reg a = s.reg a) ∧ t.cxState c = s.cxState c := by
  rw [State.openRound, if_pos hr] at ht
  obtain ⟨seq, hw⟩ := s.cxWrote_only c (0x310000000000 + s.cxArea c r 0) (s.cxHalf c)
  dsimp only at ht
  rw [hw] at ht
  obtain ⟨x, hx⟩ : ∃ x : State, { s with
      seq := seq
      stage := s.stage.zero (s.cxArea c r 1) (s.cxR c)
      ctx := s.ctx.set c { s.cx c with
        rounds := (s.cx c).rounds ++ [{ num := r, ins := List.replicate (s.get (F.RC_CFG_NIN c) + 1) {} }] } } = x := ⟨_, rfl⟩
  have hshow : x.showRound c = t := hx ▸ ht
  have hkept : RoundsKept x t := hshow ▸ (RoundsKept.refl x).showRound c
  have hframe : Frame [A.RC_STATUS c] x t := hshow ▸ State.showRound_frame x (Frame.refl _ x) (.head _)
  have hxreg (a : Nat) : x.reg a = s.reg a := hx ▸ State.reg_congr a rfl rfl rfl rfl
  have hxcx : (x.cx c).rounds = (s.cx c).rounds ++ [{ num := r, ins := List.replicate (s.get (F.RC_CFG_NIN c) + 1) {} }] := by
    have h := s.cx_setCx_self c { s.cx c with
      rounds := (s.cx c).rounds ++ [{ num := r, ins := List.replicate (s.get (F.RC_CFG_NIN c) + 1) {} }] } hc
    rw [← hx]
    exact congrArg Ctx.rounds h
  have hxlen : x.ctx.length = s.ctx.length := hx ▸ List.length_set
  refine ⟨by rw [hkept.rounds, hxcx], fun i hi => ?_, ?_, hkept.len.trans hxlen, fun a ha => ?_, ?_⟩
  · rw [hframe.stage, ← hx]
    exact Mem.get_zero _ _ _ _ ⟨Nat.le_add_right _ _, by omega⟩
  · rw [hframe.near, ← hx]
  · rw [hframe.regs a (by simpa using ha), hxreg]
  · have hstate : t.cxState c = x.cxState c := by
      rw [← hshow, State.cxState, State.showRound]
      split
      · rfl
      · exact State.get_set_apart _ _ _ _ rfl
    rw [hstate]
    exact State.get_congr _ (hxreg _)

/-- The areas of a context rest on its configuration. -/
theorem State.cxArea_congr (s x : State) (c : Nat) (h : ∀ a, a ≠ A.RC_STATUS c → a ≠ A.COLL_LAYOUT → x.reg a = s.reg a) (hc : c < 16) :
    (∀ r k, x.cxArea c r k = s.cxArea c r k) ∧ x.cxR c = s.cxR c ∧ x.cxRounds c = s.cxRounds c ∧ x.cxKind c = s.cxKind c
      ∧ x.get (F.RC_CFG_NIN c) = s.get (F.RC_CFG_NIN c) := by
  have hne : ∀ c < 16, A.RC_CFG c ≠ A.RC_STATUS c ∧ A.RC_SEG c ≠ A.RC_STATUS c ∧ A.RC_CFG c ≠ A.COLL_LAYOUT ∧ A.RC_SEG c ≠
      A.COLL_LAYOUT := by
    decide
  obtain ⟨n1, n2, n3, n4⟩ := hne c hc
  have hcfg (f : Field) (hf : f.addr = A.RC_CFG c) : x.get f = s.get f := State.get_congr f (h _ (hf ▸ n1) (hf ▸ n3))
  have hseg (f : Field) (hf : f.addr = A.RC_SEG c) : x.get f = s.get f := State.get_congr f (h _ (hf ▸ n2) (hf ▸ n4))
  have hR : x.cxR c = s.cxR c := by rw [State.cxR, hseg _ rfl, State.cxR]
  have hnin := hcfg (F.RC_CFG_NIN c) rfl
  refine ⟨fun r k => ?_, hR, ?_, hcfg _ rfl, hnin⟩
  · rw [State.cxArea, State.cxHome, State.cxBase, State.cxHalf, hcfg _ rfl, hseg _ rfl, hnin, hR]
    rfl
  · rw [State.cxRounds, hcfg _ rfl, State.cxRounds]

/-- A reduction's context that is activated opens its first two rounds. -/
theorem rcActivate_effect (s : State) (c : Nat) (hc : c < 16) (hlen : s.ctx.length = 16) (hst : s.cxState c = 1) (hslot : s.now % 256 = 0)
    (hstart : (s.cx c).startSlot ≤ s.slot) (hkind : s.cxKind c = kReduce) (hnone : (s.cx c).rounds = []) (hrounds : 2 ≤ s.cxRounds c)
    (t : State) (ht : rcActivate c s = t) : t.cxState c = 2
      ∧ (t.cx c).rounds.map (fun x => (x.num, x.phase, x.ins)) = [0, 1].map
          (fun r => (r, 0, List.replicate (s.get (F.RC_CFG_NIN c) + 1) {}))
      ∧ (∀ i < s.cxR c, t.stage.get (s.cxArea c 1 1 + i) = 0) ∧ t.near = s.near := by
  obtain ⟨x, hx⟩ : ∃ x, s.setCxState c 2 = x := ⟨_, rfl⟩
  obtain ⟨y, hy⟩ : ∃ y, x.openRound c 0 = y := ⟨_, rfl⟩
  have hframe : Frame [A.RC_STATUS c, A.COLL_LAYOUT] s x := hx ▸ s.setCxState_frame c 2
  have hxctx : x.ctx = s.ctx := by rw [← hx]; rfl
  have hxcx : x.cx c = s.cx c := congrArg (fun l => l.getD c {}) hxctx
  obtain ⟨a1, a2, a3, a4, a5⟩ := s.cxArea_congr x c (fun a h1 h2 => hframe.regs a (by simp [h1, h2])) hc
  obtain ⟨y1, -, y3, y4, y5, y6⟩ := x.openRound_effect c 0 (by rw [hxctx, hlen]; exact hc) (by omega) y hy
  obtain ⟨b1, b2, b3, -, b5⟩ := x.cxArea_congr y c (fun a h1 _ => y5 a h1) hc
  have hrun : y.openRound c 1 = t := by
    rw [← ht, rcActivate, if_pos ⟨hst, beq_iff_eq.mpr hslot, hstart⟩]
    dsimp only
    rw [hx, a4, if_pos hkind, hy]
  obtain ⟨t1, t2, t3, -, -, t6⟩ := y.openRound_effect c 1 (by rw [y4, hxctx, hlen]; exact hc) (by omega) t hrun
  refine ⟨?_, ?_, fun i hi => ?_, by rw [t3, y3, hframe.near]⟩
  · rw [t6, y6, ← hx, (s.setCxState_get c 2 hc).1]
  · rw [t1, y1, hxcx, hnone, b5, a5]
    rfl
  · rw [← a1, ← b1]
    exact t2 i (by rw [b2, a2]; exact hi)

/-! ## Arming (R316) -/

/-- A context that is armed. -/
theorem State.cxArm_effect (s : State) (c slot d0 : Nat) (spec : Bool) (tag : Nat) (hc : c < 16) (hlen : s.ctx.length = 16) (t : State)
    (ht : s.cxArm c slot d0 spec tag = t) : t.cxState c = 1 ∧ t.get (F.RC_STATUS_ROUND c) = 0
      ∧ t.get (F.RC_STATUS_LGEN c) = s.get F.COLL_LAYOUT_CUR ∧ t.get (F.RC_STATUS_PGEN c) = 0 ∧ (t.cx c).startSlot = slot
      ∧ (t.cx c).d0 = d0 ∧ (t.cx c).rounds = [] ∧ Frame [A.RC_STATUS c, A.COLL_LAYOUT] s t := by
  obtain ⟨k, hk, hk1, hk2, hk3⟩ : ∃ k : Ctx, { s.cx c with
    startSlot := slot, d0 := d0, deadline := s.get (F.RC_DL_DL c) != 0, spec := spec, vote := false, rounds := [], arrived := false
    heard := 0, chained := false, stage := 0, recv := List.replicate 16 0 } = k ∧ k.startSlot = slot ∧ k.d0 = d0 ∧ k.rounds = [] :=
    ⟨_, rfl, rfl, rfl, rfl⟩
  obtain ⟨x, hx⟩ : ∃ x, s.setCx c k = x := ⟨_, rfl⟩
  obtain ⟨g, hg⟩ : ∃ g, s.get F.COLL_LAYOUT_CUR = g := ⟨_, rfl⟩
  have hg8 : g < 2 ^ 8 := hg ▸ bits_lt _ _ _
  obtain ⟨y, hy⟩ : ∃ y, ((x.set (F.RC_STATUS_ROUND c) 0).set (F.RC_STATUS_LGEN c) g).set (F.RC_STATUS_PGEN c) 0 = y := ⟨_, rfl⟩
  have heq : t = (y.set (F.RC_STATUS_TAG c) tag).setCxState c 1 := by
    rw [← ht, State.cxArm, hk, hx, hg, hy]
  obtain ⟨h1, h2⟩ := (y.set (F.RC_STATUS_TAG c) tag).setCxState_get c 1 hc
  have hget (f : Field) (hf : f.addr = A.RC_STATUS c) (hs : (F.RC_STATUS_STATE c).apart f = true)
      (htag : (F.RC_STATUS_TAG c).apart f = true) :
      t.get f = y.get f := by rw [heq, h2 f hf hs, State.get_set_apart _ _ _ _ htag]
  have hcx : t.cx c = k := by
    have hctx : t.ctx = x.ctx := by
      rw [heq, ← hy]
      rfl
    rw [State.cx, hctx, ← hx]
    exact s.cx_setCx_self c k (by omega)
  refine ⟨heq ▸ h1, ?_, ?_, ?_, by rw [hcx, hk1], by rw [hcx, hk2], by rw [hcx, hk3], ?_⟩
  · rw [hget _ rfl rfl rfl, ← hy, State.get_set_apart _ _ _ _ rfl, State.get_set_apart _ _ _ _ rfl]
    exact State.get_set_fits _ _ _ rfl
  · rw [hget _ rfl rfl rfl, ← hy, State.get_set_apart _ _ _ _ rfl, hg]
    exact State.get_set_lt _ _ _ (show 40 ≤ 47 by omega) (show 47 < 64 by omega) hg8
  · rw [hget _ rfl rfl rfl, ← hy]
    exact State.get_set_fits _ _ _ rfl
  · rw [heq, ← hy, ← hx]
    have hset : Frame [A.RC_STATUS c, A.COLL_LAYOUT] s (s.setCx c k) := (Frame.refl _ s).plain
    exact ((((hset.set (F.RC_STATUS_ROUND c) 0).set (F.RC_STATUS_LGEN c) g).set (F.RC_STATUS_PGEN c) 0).set (F.RC_STATUS_TAG c) tag).trans
      (State.setCxState_frame _ c 1)

/-- Settles O50, through what arming, activation, the close and the sending of a round leave of its context. -/
theorem contextsAndRounds : Obligations.ContextsAndRounds := by
  unfold Obligations.ContextsAndRounds
  intro s c hs hshape hc
  have hlen : s.ctx.length = 16 := hshape.2.2.1
  have hlive (f : State → State) : lively s c 16 f = .next (f s) := lively_powered s c 16 f hc hs.1 hs.2
  have hne : ∀ c < 16, A.COLL_LAYOUT ≠ A.RC_START c ∧ A.RC_START c ∉ [A.RC_STATUS c, A.COLL_LAYOUT] ∧ A.RC_CFG c ≠ A.RC_START c
    ∧ A.RC_DL c ≠ A.RC_START c ∧ A.RC_STATUS c ≠ A.RC_START c ∧ A.RC_ERR c ≠ A.RC_START c := by decide
  obtain ⟨n1, n2, n3, n4, n5, n6⟩ := hne c hc
  refine ⟨fun slot hslot hcheck hrel => ?_, fun slot hslot hbusy => ?_, ?_, fun hst hslot hstart hkind hnone hrounds => ?_,
    fun h x hh hfind hactive => ?_⟩
  · obtain ⟨x, hx⟩ : ∃ x, s.set (F.RC_START_START c) slot = x := ⟨_, rfl⟩
    obtain ⟨y, hy⟩ : ∃ y, x.set (F.RC_START_ARMED c) 1 = y := ⟨_, rfl⟩
    obtain ⟨t, ht⟩ : ∃ t, y.cxArm c slot (s.extend48 (s.get (F.RC_DL_DL c))) false 0 = t := ⟨_, rfl⟩
    have hframe : Frame [A.RC_START c] s x := hx ▸ (Frame.refl _ s).set (F.RC_START_START c) slot
    have hyframe : Frame [A.RC_START c] s y := hy ▸ hframe.set (F.RC_START_ARMED c) 1
    have hxrel : x.on (F.RC_CFG_STEP_REL c) = false :=
      x.on_of_zero _ ((hframe.get _ (by simpa using (show (F.RC_CFG_STEP_REL c).addr ≠ A.RC_START c from n3))).trans hrel)
    have hext : x.extend48 (x.get (F.RC_DL_DL c)) = s.extend48 (s.get (F.RC_DL_DL c)) := by
      rw [hframe.get _ (by simpa using (show (F.RC_DL_DL c).addr ≠ A.RC_START c from n4)), ← hx]
      rfl
    have hrun : rcArm c slot s = t := by
      rw [rcArm]
      dsimp only
      rw [Nat.mod_eq_of_lt hslot, hx]
      rw [hx] at hcheck
      rw [hcheck, if_neg (by decide), hxrel, hy, hext]
      exact ht
    have hyctx : y.ctx = s.ctx := by rw [← hy, ← hx]; rfl
    obtain ⟨h1, h2, h3, h4, h5, h6, h7, h8⟩ := y.cxArm_effect c slot _ false 0 hc (by rw [hyctx, hlen]) t ht
    refine ⟨t, (hlive (rcArm c slot)).trans (congrArg _ hrun), h1, ?_, h2, ?_, h4, h5, h6, h7, ?_, ?_⟩
    · rw [h8.get _ n2, ← hy]
      exact State.get_set_fits _ _ _ rfl
    · rw [h3, hyframe.get _ (by simpa using (show F.COLL_LAYOUT_CUR.addr ≠ A.RC_START c from n1))]
    · exact ((hyframe.mono (List.cons_subset_cons _ (List.nil_subset _))).next h8 (List.subset_cons_self _ _)).regs
    · exact ((hyframe.mono (List.cons_subset_cons _ (List.nil_subset _))).next h8 (List.subset_cons_self (A.RC_START c) _)).bytes
  · obtain ⟨x, hx⟩ : ∃ x, s.set (F.RC_START_START c) slot = x := ⟨_, rfl⟩
    have hxbusy : x.cxState c ≠ 0 := by
      rw [State.cxState, ← hx, State.get_set_ne _ _ _ _ (show (F.RC_STATUS_STATE c).addr ≠ (F.RC_START_START c).addr from n5)]
      exact hbusy
    have hcheck : x.armCheck c slot = 1 := by
      unfold State.armCheck
      dsimp only
      rw [if_pos hxbusy]
    have hrun : rcArm c slot s = (x.set (F.RC_START_LAST_REFUSE c) 1).bump (F.RC_ERR_REFUSED c) := by
      rw [rcArm]
      dsimp only
      rw [Nat.mod_eq_of_lt hslot, hx, hcheck, if_pos (by decide)]
    have hframe : Frame [A.RC_START c, A.RC_ERR c] s ((x.set (F.RC_START_LAST_REFUSE c) 1).bump (F.RC_ERR_REFUSED c)) := by
      rw [← hx]
      exact (((Frame.refl _ s).set (F.RC_START_START c) slot).set (F.RC_START_LAST_REFUSE c) 1).bump (F.RC_ERR_REFUSED c)
          (.tail _ (.head _))
    refine ⟨_, (hlive (rcArm c slot)).trans (congrArg _ hrun), ?_, ?_, ?_, hframe.regs, hframe.bytes⟩
    · rw [State.bump, State.add, State.get_set_ne _ _ _ _ (show (F.RC_START_LAST_REFUSE c).addr ≠ (F.RC_ERR_REFUSED c).addr from n6.symm)]
      exact State.get_set_fits _ _ _ rfl
    · rw [State.bump_ctx, State.set_ctx, ← hx, State.set_ctx]
    · refine State.get_bump_congr s _ _ rfl ?_
      rw [State.get_set_ne _ _ _ _ (show (F.RC_ERR_REFUSED c).addr ≠ (F.RC_START_LAST_REFUSE c).addr from n6), ← hx,
        State.get_set_ne _ _ _ _ (show (F.RC_ERR_REFUSED c).addr ≠ (F.RC_START_START c).addr from n6)]
  · obtain ⟨x, hx⟩ : ∃ x, s.set (F.RC_START_ARMED c) 0 = x := ⟨_, rfl⟩
    have hxctx : x.ctx = s.ctx := by rw [← hx]; rfl
    have hrun : rcAbort c s = x.cxIdle c := by rw [rcAbort, hx]
    obtain ⟨h1, h2, -, h4⟩ := x.cxIdle_effect c hc (by rw [hxctx, hlen])
    have hnot : A.RC_START c ≠ A.RC_STATUS c ∧ A.RC_START c ≠ A.COLL_LAYOUT := by simpa using n2
    refine ⟨_, (hlive (rcAbort c)).trans (congrArg _ hrun), h4, ?_, by rw [h1], fun a ha => ?_, hrun ▸ ((Keeps.refl s).rcAbort c).bytes⟩
    · rw [State.get_congr _ (h2 _ hnot.1 hnot.2), ← hx]
      exact State.get_set_fits _ _ _ rfl
    · obtain ⟨m1, m2, m3⟩ : a ≠ A.RC_START c ∧ a ≠ A.RC_STATUS c ∧ a ≠ A.COLL_LAYOUT := by simpa using ha
      rw [h2 a m2 m3, ← hx]
      exact State.reg_set_ne _ _ _ _ m1
  · exact ⟨_, hlive (rcActivate c), rcActivate_effect s c hc hlen hst hslot hstart hkind hnone hrounds _ rfl⟩
  · have hmem : x ∈ (s.cx c).rounds := List.mem_of_find?_eq_some hfind
    have hhas : ∃ y ∈ (s.cx c).rounds, y.num = x.num := ⟨x, hmem, rfl⟩
    have hclose : exec (.roundClose c h) s = .next (roundClose c h s) :=
      (hlive fun s => if h < 2 then roundClose c h s else s).trans (by rw [if_pos hh])
    have hsend : exec (.roundSend c h) s = .next (roundSend c h s) :=
      (hlive fun s => if h < 2 then roundSend c h s else s).trans (by rw [if_pos hh])
    have hdone : exec (.roundDone c h) s = .next (roundDone c h s) :=
      (hlive fun s => if h < 2 then roundDone c h s else s).trans (by rw [if_pos hh])
    have hsendRun (hph : x.phase = 1) : roundSend c h s = s.sendRound c x := by
      rw [roundSend, hfind]
      exact if_pos ⟨hactive, hph⟩
    refine ⟨fun hrole hph hdl => ?_, fun hrole hph => ?_, fun hph => ?_, fun hph hsum hfwd hbcast hstore hchain => ?_, fun hph hun => ?_,
      fun hph hun hlast => ?_, fun hph hun hmore hevery => ?_⟩
    · have hrun : roundClose c h s = s.close c x := by
        rw [roundClose, hfind]
        exact if_pos ⟨hactive, hrole, hph, hdl⟩
      exact ⟨_, hclose.trans (congrArg _ hrun), (s.close_effect c x (by omega) hhas).found⟩
    · refine hclose.trans (congrArg _ ?_)
      rw [roundClose, hfind]
      exact if_neg fun h => by omega
    · exact ⟨_, hsend.trans (congrArg _ (hsendRun hph)), (s.sendRound_effect c x hc hlen hhas).found⟩
    · obtain ⟨h1, h2⟩ := s.sendRound_silent c x hsum hfwd hbcast hstore hchain _ rfl
      exact ⟨_, hsend.trans (congrArg _ (hsendRun hph)), h1, h2.regs, h2.bytes⟩
    · refine hdone.trans (congrArg _ ?_)
      rw [roundDone, hfind]
      exact if_neg fun h => by simp [hun] at h
    · obtain ⟨y, hy⟩ : ∃ y, s.setCx c { s.cx c with rounds := (s.cx c).rounds.filter fun y => y.num != x.num } = y := ⟨_, rfl⟩
      obtain ⟨z, hz⟩ : ∃ z, (if s.on (F.RC_DONE_EVERY c) ∨ x.num + 1 = s.cxRounds c then y.rcDone c else y) = z := ⟨_, rfl⟩
      have hrun : roundDone c h s = z.cxIdle c := by
        rw [roundDone, hfind]
        dsimp only
        rw [if_pos ⟨hactive, hph, hun⟩, hy, hz, if_pos hlast]
      have hkept : CollKept y z := hz ▸ ((CollKept.refl y).rcDone c).ite (CollKept.refl y)
      have hzlen : z.ctx.length = 16 := by
        rw [hkept.ctx, ← hy]
        exact List.length_set.trans hlen
      obtain ⟨h1, -, -, h4⟩ := z.cxIdle_effect c hc hzlen
      exact ⟨_, hdone.trans (congrArg _ hrun), h4, by rw [h1]⟩
    · obtain ⟨y, hy⟩ : ∃ y, s.setCx c { s.cx c with rounds := (s.cx c).rounds.filter fun y => y.num != x.num } = y := ⟨_, rfl⟩
      have hreg (a : Nat) : y.reg a = s.reg a := hy ▸ State.reg_congr a rfl rfl rfl rfl
      have hylen : y.ctx.length = 16 := hy ▸ List.length_set.trans hlen
      obtain ⟨a1, a2, a3, -, -⟩ := s.cxArea_congr y c (fun a _ _ => hreg a) hc
      have hrun : roundDone c h s = y.openRound c (x.num + 2) := by
        rw [roundDone, hfind]
        dsimp only
        have hnotlast : x.num + 1 ≠ s.cxRounds c := by omega
        rw [if_pos ⟨hactive, hph, hun⟩, hy, s.on_of_zero _ hevery, if_neg hnotlast, if_neg (by simp [hnotlast])]
      obtain ⟨h1, h2, h3, -, -, h6⟩ := y.openRound_effect c (x.num + 2) (by omega) (by omega) _ rfl
      have hst : s.cxState c = 2 := by
        rw [State.cxActive, Bool.and_eq_true, beq_iff_eq] at hactive
        exact hactive.1
      refine ⟨_, hdone.trans (congrArg _ hrun), ?_, ⟨_, h1 ▸ List.mem_append_right _ (List.mem_singleton.mpr rfl), rfl, rfl⟩,
        fun i hi => ?_, ?_⟩
      · rw [h6, ← hst]
        exact State.get_congr _ (hreg _)
      · have harea : y.cxArea c (x.num + 2) 1 = s.cxArea c x.num 1 := by
          rw [a1, State.cxArea, State.cxArea, Nat.add_mod_right]
        rw [← harea]
        exact h2 i (by rw [a2]; exact hi)
      · rw [h3, ← hy]
        rfl

end Sys2Proof.Machine

/-! Optical ports: frames of the engine, failures and commands (O53). -/
namespace Sys2Proof.Machine

/-! ## A port's own registers through the work of other units -/

/-- A register of a port's page. -/
def portPage (a : Nat) : Bool :=
  decide ((0x300000010000 ≤ a ∧ a < 0x30000001C000) ∨ (0x300000040000 ≤ a ∧ a < 0x300000042000))

theorem portPage_reg (p k : Nat) (hp : p < 14) (hk : k < 0x1000) : portPage (optReg p + k) = true := by
  refine decide_eq_true ?_
  unfold optReg spkReg colokReg
  split <;> omega

/-- The ports and their pages stand from state `o` on, but for the registers of a list. -/
structure PortKept (l : List Nat) (o s : State) : Prop where
  opt : s.opt = o.opt
  pwr : s.pwr = o.pwr
  page : ∀ a, portPage a = true → a ∉ l → s.reg a = o.reg a

namespace PortKept

theorem refl (l : List Nat) (s : State) : PortKept l s s := ⟨rfl, rfl, fun _ _ _ => rfl⟩

theorem trans {l : List Nat} {o s t : State} (h : PortKept l o s) (h' : PortKept l s t) : PortKept l o t :=
  ⟨h'.opt.trans h.opt, h'.pwr.trans h.pwr, fun a ha hl => (h'.page a ha hl).trans (h.page a ha hl)⟩

theorem ite {l : List Nat} {o s t : State} {c : Prop} [Decidable c] (hs : PortKept l o s) (ht : PortKept l o t) :
    PortKept l o (if c then s else t) := by
  split
  · exact hs
  · exact ht

section
variable {l : List Nat} {o s : State} (hs : PortKept l o s)
include hs

theorem get (f : Field) (k p : Nat) (hp : p < 14) (hk : k < 0x1000) (hf : f.addr = optReg p + k) (hl : f.addr ∉ l) : s.get f = o.get f :=
  State.get_congr f (hs.page _ (hf ▸ portPage_reg p k hp hk) hl)

theorem optic (p : Nat) : s.optic p = o.optic p := congrArg (fun x => x.getD p {}) hs.opt

theorem frame {l' : List Nat} {t : State} (h : Frame l' s t) (hopt : t.opt = s.opt) (hpwr : t.pwr = s.pwr)
    (hl : ∀ a ∈ l', portPage a = false) : PortKept l o t :=
  hs.trans ⟨hopt, hpwr, fun a ha _ => h.regs a fun hmem => by simp [hl a hmem] at ha⟩

theorem setReg (a : Nat) (w : Word) (ha : a ∈ l) : PortKept l o (s.setReg a w) :=
  hs.trans ⟨rfl, rfl, fun _ _ hb => State.reg_setReg_ne _ _ _ _ fun e => hb (e ▸ ha)⟩

theorem set (f : Field) (v : Nat) (hf : f.addr ∈ l) : PortKept l o (s.set f v) := hs.setReg _ _ hf

theorem other (f : Field) (v : Nat) (hf : portPage f.addr = false) : PortKept l o (s.set f v) :=
  hs.frame ((Frame.refl [f.addr] s).set f v) rfl rfl (by simpa using hf)

/-- Updates of other parts of the module. -/
theorem plain {mgmt : Mgmt} {rt : Router} {colok : List ColokPort} {freeCtr : Nat} {sent : List Egress} :
    PortKept l o { s with mgmt := mgmt, rt := rt, colok := colok, freeCtr := freeCtr, sent := sent } :=
  hs.trans ⟨rfl, rfl, fun _ _ _ => State.reg_congr _ rfl rfl rfl rfl⟩

theorem faultKey (key code unit : Nat) (slow : Bool) (detail : Word) : PortKept l o (s.faultKey key code unit slow detail) :=
  hs.frame (s.faultKey_frame key code unit slow detail) (by rw [State.faultKey_only]) (by rw [State.faultKey_only]) (by decide)

theorem post (die : Nat) (e : Event) : PortKept l o (s.post die e) := hs.frame (s.post_frame die e) (by rw [State.post_only])
  (by rw [State.post_only]) (by decide)

theorem setUnit (p st : Nat) (hp : p < 14) : PortKept l o (s.setUnit (entPort p) st) := by
  refine hs.frame (s.setUnit_portFrame p st hp) (by rw [State.setUnit_only]) (by rw [State.setUnit_only]) fun a ha => ?_
  rcases List.mem_cons.mp ha with h | h
  · have hlow := portUnit_addr p hp
    exact decide_eq_false (by omega)
  · rcases List.mem_cons.mp h with h | h
    · exact h ▸ (by decide)
    · exact (List.mem_singleton.mp h) ▸ (by decide)

theorem giveCredit (src : Nat) (p : Packet) (cls : Nat) : PortKept l o (s.giveCredit src p cls) := hs.plain.ite hs

theorem dropFor (p : Nat) : PortKept l o (s.dropFor p) := by
  unfold State.dropFor
  refine List.foldlRecOn (motive := PortKept l o) _ _ (plain ?_) fun x hx h _ => hx.giveCredit _ _ _
  exact (hs.other F.RT_DROP_PORT_DOWN _ (by decide)).faultKey _ _ _ _ _

theorem sendOut (p i r cls : Nat) : PortKept l o (s.sendOut p i r cls) := by
  unfold State.sendOut
  split
  · exact hs
  · exact (hs.plain.giveCredit _ _ _).ite hs.plain

theorem pumpAll : PortKept l o s.pumpAll :=
  (State.pump_induct (PortKept l o) (fun _ p h => h.dropFor p) (fun _ p i r c h => (plain h).sendOut p i r c) _ s hs).plain

theorem portFresh (p : Nat) : PortKept l o (s.portFresh p) := hs.plain

end
end PortKept

/-- The registers in which the loss of a link shows. -/
def linkRegs (p : Nat) : List Nat := [A.SPK_CAD_DELAY p, A.COLOK_SEQ (p - 12), A.COLOK_STATE (p - 12)]

theorem State.linkDown_kept (s : State) (p : Nat) : PortKept (linkRegs p) s (s.linkDown p) := by
  have h1 : PortKept (linkRegs p) s (if p < 12 then s.set (F.SPK_CAD_DELAY_VALID p) 0 else s.colokDrop (p - 12)) := by
    have h0 := PortKept.refl (linkRegs p) s
    exact (h0.set _ _ (.head _)).ite ((h0.plain.setReg _ _ (.tail _ (.head _))).set _ _ (.tail _ (.tail _ (.head _))))
  exact (h1.post _ _).ite h1

/-- A port's page, but for the registers of the link. -/
theorem linkRegs_page (p k : Nat) (hk : 8 ≤ k ∧ k < 0x800) : optReg p + k ∉ linkRegs p := by
  simp only [linkRegs, A.SPK_CAD_DELAY, A.COLOK_SEQ, A.COLOK_STATE, List.mem_cons, List.not_mem_nil, or_false, not_or]
  unfold optReg spkReg colokReg
  split <;> omega

theorem State.linkDown_page (s : State) (p : Nat) (hp : p < 14) (f : Field) (k : Nat) (hk : 8 ≤ k ∧ k < 0x800)
    (hf : f.addr = optReg p + k) :
    (s.linkDown p).get f = s.get f :=
  (s.linkDown_kept p).get f k p hp (by omega) hf (hf ▸ linkRegs_page p k hk)

/-! ## The record of a port -/

theorem State.optic_setOptic (s : State) (p : Nat) (o : Optic) (hp : p < s.opt.length) : (s.setOptic p o).optic p = o :=
  (getD_set_eq s.opt p p o {} hp).trans (if_pos rfl)

theorem State.optic_modOptic (s : State) (p : Nat) (f : Optic → Optic) (hp : p < s.opt.length) : (s.modOptic p f).optic p = f
    (s.optic p) :=
  s.optic_setOptic p _ hp

theorem State.modOptic_length (s : State) (p : Nat) (f : Optic → Optic) : (s.modOptic p f).opt.length = s.opt.length := List.length_set

theorem State.get_modOptic (s : State) (p : Nat) (f : Optic → Optic) (g : Field) : (s.modOptic p f).get g = s.get g :=
  State.get_congr g (State.reg_congr _ rfl rfl rfl rfl)

/-- A port enters a phase. -/
theorem State.setPhase_effect (s : State) (p n : Nat) (hn : n < 16) : (s.setPhase p n).phase p = n
    ∧ ∀ f : Field, (f.addr ≠ A.OPT_STATE p ∨ (F.OPT_STATE_PHASE p).apart f = true) → (s.setPhase p n).get f = s.get f := by
  refine ⟨?_, fun f hf => ?_⟩
  · rw [State.phase, State.setPhase, State.get_modOptic]
    exact State.get_set_lt _ _ _ (show 60 ≤ 63 by omega) (show 63 < 64 by omega) hn
  · rw [State.setPhase, State.get_modOptic]
    rcases hf with hf | hf
    · exact State.get_set_ne _ _ _ _ hf
    · exact State.get_set_apart _ _ _ _ hf

/-! ## A port fails (R387) -/

theorem State.portFail_effect (s : State) (p reason : Nat) (hp : p < 14) (hreason : reason < 16) (t : State)
    (ht : s.portFail p reason = t) :
    t.phase p = 8 ∧ t.get (F.OPT_STATE_FAIL_REASON p) = reason ∧ t.get (F.UNIT_STATE_STATE (entPort p)) = 4
      ∧ t.opt = ((s.linkDown p).setPhase p 8).opt ∧ t.pwr = s.pwr := by
  obtain ⟨x, hx⟩ : ∃ x, ((s.linkDown p).setPhase p 8).set (F.OPT_STATE_FAIL_REASON p) reason = x := ⟨_, rfl⟩
  obtain ⟨y, hy⟩ : ∃ y, x.setUnit (entPort p) usDown = y := ⟨_, rfl⟩
  have heq : t = if p < 12 then (y.portFresh p).pumpAll else y := by
    rw [← ht, State.portFail, hx, hy]
  have hyt : PortKept [] y t := heq ▸ (((PortKept.refl [] y).portFresh p).pumpAll).ite (PortKept.refl [] y)
  have hxt : PortKept [] x t := (hy ▸ (PortKept.refl [] x).setUnit p usDown hp : PortKept [] x y).trans hyt
  have hstate (f : Field) (hf : f.addr = A.OPT_STATE p) : t.get f = x.get f := hxt.get f 0x10 p hp (by omega) hf List.not_mem_nil
  refine ⟨?_, ?_, ?_, hxt.opt.trans (hx ▸ rfl), ?_⟩
  · rw [State.phase, hstate _ rfl, ← hx, State.get_set_apart _ _ _ _ rfl]
    exact ((s.linkDown p).setPhase_effect p 8 (by omega)).1
  · rw [hstate _ rfl, ← hx]
    exact State.get_set_lt _ _ _ (show 56 ≤ 59 by omega) (show 59 < 64 by omega) hreason
  · have hunit : y.get (F.UNIT_STATE_STATE (entPort p)) = 4 := hy ▸ x.setUnit_port p usDown hp (by decide)
    rw [heq]
    split
    · rw [(State.pumpAll_frame _).get _ (portUnit_drop p hp)]
      exact (State.get_congr _ (State.reg_congr _ rfl rfl rfl rfl)).trans hunit
    · exact hunit
  · rw [hxt.pwr, ← hx]
    exact (s.linkDown_kept p).pwr

/-! ## Training starts (R387) -/

/-- The state of a port's training stands off the lanes' and the rings' registers. -/
theorem optState_ne (p : Nat) : (∀ l, A.OPT_STATE p ≠ A.LANE_STATE p l) ∧ (∀ r, A.OPT_STATE p ≠ (ringLocked p r).addr)
    ∧ A.OPT_STATE p ≠ A.SPK_STEER_STATUS p ∧ A.OPT_STATE p ≠ A.LINK_VER p := by
  refine ⟨fun l => ?_, fun r => ?_, ?_, ?_⟩
  · simp only [A.OPT_STATE, A.LANE_STATE]
    omega
  · unfold ringLocked
    split
    · simp only [A.OPT_STATE, F.RING_TX_LOCKED, A.RING_TX]
      omega
    · simp only [A.OPT_STATE, F.RING_RX_LOCKED, A.RING_RX]
      omega
  · simp only [A.OPT_STATE, A.SPK_STEER_STATUS]
    omega
  · simp only [A.OPT_STATE, A.LINK_VER]
    omega

/-- Training starts afresh: no lane is in use, and the phase and the attempts stand. -/
theorem State.opticsFresh_effect (s : State) (p : Nat) (hp : p < s.opt.length) : (s.opticsFresh p).get (F.OPT_STATE_LANE_OK p) = 0
      ∧ (∀ f : Field, f.addr = A.OPT_STATE p → (F.OPT_STATE_SPARE_USE p).apart f = true → (F.OPT_STATE_SPARE_PERM p).apart f = true →
          (F.OPT_STATE_LANE_OK p).apart f = true → (s.opticsFresh p).get f = s.get f)
      ∧ ((s.opticsFresh p).optic p).present = (s.optic p).present ∧ ((s.opticsFresh p).optic p).tripped = (s.optic p).tripped
      ∧ (s.opticsFresh p).opt.length = s.opt.length ∧ (s.opticsFresh p).pwr = s.pwr := by
  obtain ⟨n1, n2, n3, n4⟩ := optState_ne p
  obtain ⟨x, hx⟩ : ∃ x, (List.range (laneCount p)).foldl (fun s l =>
    (((s.set (F.LANE_STATE_ROLE p l) 0xF).set (F.LANE_STATE_HEALTH p l) 0).set (ringLocked p l) 0).set (ringLocked p (l + 9)) 0) s = x :=
    ⟨_, rfl⟩
  obtain ⟨y, hy⟩ : ∃ y, (x.set (F.OPT_STATE_SPARE_USE p) 0xF).set (F.OPT_STATE_SPARE_PERM p) 0 = y := ⟨_, rfl⟩
  obtain ⟨z, hz⟩ : ∃ z, y.set (F.OPT_STATE_LANE_OK p) 0 = z := ⟨_, rfl⟩
  obtain ⟨w, hw⟩ : ∃ w, (if p < 12 then z.set (F.SPK_STEER_STATUS_STATE p) 0 else z).set (F.LINK_VER_VALID p) 0 = w := ⟨_, rfl⟩
  obtain ⟨g, hg, hpresent, htripped⟩ : ∃ g : Optic → Optic, s.opticsFresh p = w.modOptic p g ∧ (∀ o, (g o).present = o.present)
      ∧ ∀ o, (g o).tripped = o.tripped := by
    rw [State.opticsFresh, hx, hy, hz, hw]
    exact ⟨_, rfl, fun _ => rfl, fun _ => rfl⟩
  have hxget (f : Field) (hf : f.addr = A.OPT_STATE p) : x.get f = s.get f := by
    rw [← hx]
    refine List.foldlRecOn (motive := fun t : State => t.get f = s.get f) _ _ rfl fun t ht l _ => ?_
    rw [State.get_set_ne _ _ _ _ (hf ▸ n2 _), State.get_set_ne _ _ _ _ (hf ▸ n2 _), State.get_set_ne _ _ _ _ (hf ▸ n1 l),
      State.get_set_ne _ _ _ _ (hf ▸ n1 l), ht]
  have hwget (f : Field) (hf : f.addr = A.OPT_STATE p) : w.get f = z.get f := by
    rw [← hw, State.get_set_ne _ _ _ _ (hf ▸ n4)]
    split
    · exact State.get_set_ne _ _ _ _ (hf ▸ n3)
    · rfl
  have hopt : w.opt = s.opt := by
    have hxopt : x.opt = s.opt := hx ▸ List.foldlRecOn (motive := fun t : State => t.opt = s.opt) _ _ rfl fun t ht l _ => ht
    rw [← hw, State.set_opt, ← hxopt]
    split
    · rw [State.set_opt, ← hz, ← hy]
      rfl
    · rw [← hz, ← hy]
      rfl
  have hpwr : w.pwr = s.pwr := by
    have hxpwr : x.pwr = s.pwr := hx ▸ List.foldlRecOn (motive := fun t : State => t.pwr = s.pwr) _ _ rfl fun t ht l _ => ht
    rw [← hw, State.set_pwr, ← hxpwr]
    split
    · rw [State.set_pwr, ← hz, ← hy]
      rfl
    · rw [← hz, ← hy]
      rfl
  have hoptic : (s.opticsFresh p).optic p = g (s.optic p) := by
    rw [hg, State.optic_modOptic _ _ _ (hopt ▸ hp), State.optic, hopt, State.optic]
  refine ⟨?_, fun f hf h1 h2 h3 => ?_, by rw [hoptic, hpresent], by rw [hoptic, htripped],
    by rw [hg, State.modOptic_length, hopt], by rw [hg]; exact hpwr⟩
  · rw [hg, State.get_modOptic, hwget _ rfl, ← hz]
    exact State.get_set_fits _ _ _ rfl
  · rw [hg, State.get_modOptic, hwget f hf, ← hz, State.get_set_apart _ _ _ _ h3, ← hy, State.get_set_apart _ _ _ _ h2,
      State.get_set_apart _ _ _ _ h1, hxget f hf]

theorem State.spareOff_effect (s : State) (p : Nat) :
    (∀ f : Field, (F.OPT_STATE_SPARE_LASER p).apart f = true → (s.spareOff p).get f = s.get f)
    ∧ (s.spareOff p).opt.length = s.opt.length := by
  unfold State.spareOff
  dsimp only
  split
  · refine ⟨fun f hf => ?_, ?_⟩
    · refine (State.get_congr f (State.reg_congr _ rfl rfl rfl rfl)).trans (State.get_set_apart _ _ _ _ hf)
    · exact List.length_set.trans List.length_set
  · exact ⟨fun _ _ => rfl, rfl⟩

/-- A port that enters DETECT. -/
theorem State.enterDetect_starts (s : State) (p : Nat) (hp : p < 14) (hlen : s.opt.length = 14) (htrip : (s.optic p).tripped = false)
    (t : State)
    (ht : s.enterDetect p = t) : t.phase p = 1 ∧ t.get (F.UNIT_STATE_STATE (entPort p)) = 1 ∧ t.get (F.OPT_STATE_LANE_OK p) = 0
      ∧ t.get (F.OPT_STATE_ATTEMPTS p) = s.get (F.OPT_STATE_ATTEMPTS p) ∧ t.opt.length = 14 := by
  obtain ⟨u, hu⟩ : ∃ u, (s.linkDown p).spareOff p = u := ⟨_, rfl⟩
  obtain ⟨v, hv⟩ : ∃ v, u.opticsFresh p = v := ⟨_, rfl⟩
  obtain ⟨x, hx⟩ : ∃ x, v.setPhase p 1 = x := ⟨_, rfl⟩
  obtain ⟨y, hy⟩ : ∃ y, x.setUnit (entPort p) usStarting = y := ⟨_, rfl⟩
  have heq : t = if p < 12 then ((y.cage p true).portFresh p).pumpAll else y.cage p true := by
    rw [← ht, State.enterDetect, htrip, hu, hv, hx]
    dsimp only
    rw [hy]
    rfl
  have hulen : u.opt.length = 14 := by rw [← hu, (State.spareOff_effect _ p).2, (s.linkDown_kept p).opt, hlen]
  obtain ⟨v1, v2, -, -, v5, -⟩ := u.opticsFresh_effect p (by omega)
  rw [hv] at v1 v2 v5
  have hvlen : v.opt.length = 14 := v5.trans hulen
  obtain ⟨x1, x2⟩ := v.setPhase_effect p 1 (by omega)
  rw [hx] at x1 x2
  obtain ⟨z, hz⟩ : ∃ z, y.cage p true = z := ⟨_, rfl⟩
  rw [hz] at heq
  have hzget (f : Field) : z.get f = y.get f := hz ▸ State.get_congr f (State.reg_congr _ rfl rfl rfl rfl)
  have hzt : PortKept [] z t := heq ▸ (((PortKept.refl [] z).portFresh p).pumpAll).ite (PortKept.refl [] z)
  have hxy : PortKept [] x y := hy ▸ (PortKept.refl [] x).setUnit p usStarting hp
  have hstate (f : Field) (hf : f.addr = A.OPT_STATE p) : t.get f = x.get f := by
    rw [hzt.get f 0x10 p hp (by omega) hf List.not_mem_nil, hzget, hxy.get f 0x10 p hp (by omega) hf List.not_mem_nil]
  refine ⟨?_, ?_, ?_, ?_, ?_⟩
  · rw [State.phase, hstate _ rfl, ← State.phase, x1]
  · have hunit : z.get (F.UNIT_STATE_STATE (entPort p)) = 1 := (hzget _).trans (hy ▸ x.setUnit_port p usStarting hp (by decide))
    rw [heq]
    split
    · rw [(State.pumpAll_frame _).get _ (portUnit_drop p hp)]
      exact (State.get_congr _ (State.reg_congr _ rfl rfl rfl rfl)).trans hunit
    · exact hunit
  · rw [hstate _ rfl, x2 _ (.inr rfl), v1]
  · rw [hstate _ rfl, x2 _ (.inr rfl), v2 _ rfl rfl rfl rfl, ← hu, (State.spareOff_effect _ p).1 _ rfl]
    exact s.linkDown_page p hp _ 0x10 (by omega) rfl
  · rw [hzt.opt, ← hz, show (y.cage p true).opt = y.opt from rfl, hxy.opt, ← hx]
    exact List.length_set.trans hvlen

/-! ## The cages' supply (R359) -/

theorem testBit_sub_two_pow (m p : Nat) (h : m.testBit p = true) : (m - 2 ^ p).testBit p = false := by
  have hle : 2 ^ p ≤ m := Nat.ge_two_pow_of_testBit h
  have hsum : m = 2 ^ p + (m - 2 ^ p) := by omega
  rw [hsum, Nat.testBit_two_pow_add_eq] at h
  simpa using h

theorem State.cage_off (s : State) (p : Nat) : (s.cage p false).pwr.cage12V.getLsbD p = false := by
  have hoff (m : Nat) (hm : m.testBit p = false) : (BitVec.ofNat 14 m).getLsbD p = false := by
    rw [BitVec.getLsbD_ofNat, hm, Bool.and_false]
  unfold State.cage
  dsimp only
  rw [if_neg (by decide)]
  split
  · next h => exact hoff _ (testBit_sub_two_pow _ p h)
  · next h => exact hoff _ (by simpa [bitAt] using h)

/-! ## Frames of the engine (R362) -/

section
variable (p : Nat) (f : BitVec 32) (s : State) (hcrc : nbits f.toNat 5 0 = crc6 f.toNat)
include hcrc

/-- A lane's monitor sample. -/
theorem upFrame_mon (htype : nbits f.toNat 31 28 = 9) (ht : nbits f.toNat 27 23 < laneCount p) : upFrame p f s =
    (s.modOptic p fun o => { o with upSeen := true }).modLane p (nbits f.toNat 27 23) fun r => { r with
      lockin := r.lockin + (if (s.optic p).window = 1 then -(nbits f.toNat 19 6 : Int) else (nbits f.toNat 19 6 : Int))
      level := r.level + nbits f.toNat 19 6, samples := r.samples + 1 } := by
  unfold upFrame
  dsimp only
  rw [if_neg (not_not.mpr hcrc)]
  split
  case h_1 =>
    rw [if_pos ht]
    simp only [beq_iff_eq]
  case h_5 h9 _ _ _ => exact absurd htype h9
  all_goals omega

/-- A sample of a laser's monitor. -/
theorem upFrame_laser (i : Nat) (hi : i < 2) (htype : nbits f.toNat 31 28 = 10) (ht : nbits f.toNat 27 23 = 24 + i) : upFrame p f s =
    (s.modOptic p fun o => { o with upSeen := true }).modOptic p fun o => { o with
      laserSum := o.laserSum.set i (o.laserSum.getD i 0 + nbits f.toNat 19 6)
      laserNum := o.laserNum.set i (o.laserNum.getD i 0 + 1) } := by
  have hsub : 24 + i - 24 = i := by omega
  unfold upFrame
  dsimp only
  rw [if_neg (not_not.mpr hcrc)]
  split
  case h_2 =>
    rw [ht, if_neg (by omega), if_pos (by omega), hsub]
  case h_5 _ h10 _ _ => exact absurd htype h10
  all_goals omega

/-- A sample of the reference. -/
theorem upFrame_reference (htype : nbits f.toNat 31 28 = 10) (ht : nbits f.toNat 27 23 = 26) : upFrame p f s =
    (s.modOptic p fun o => { o with upSeen := true }).modOptic p fun o => { o with
      refLockin := o.refLockin + (if (s.optic p).window = 1 then -(nbits f.toNat 19 6 : Int) else (nbits f.toNat 19 6 : Int))
      refSamples := o.refSamples + 1 } := by
  unfold upFrame
  dsimp only
  rw [if_neg (not_not.mpr hcrc)]
  split
  case h_2 =>
    rw [if_pos ht]
    simp only [beq_iff_eq]
  case h_5 _ h10 _ _ => exact absurd htype h10
  all_goals omega

theorem upFrame_regData (htype : nbits f.toNat 31 28 = 11) : upFrame p f s =
    (s.modOptic p fun o => { o with upSeen := true }).modOptic p fun o => { o with regRead := nbits f.toNat 19 6 } := by
  unfold upFrame
  dsimp only
  rw [if_neg (not_not.mpr hcrc)]
  split
  case h_3 => rfl
  case h_5 _ _ h11 _ => exact absurd htype h11
  all_goals omega

theorem upFrame_alert (htype : nbits f.toNat 31 28 = 12) : upFrame p f s =
    (s.modOptic p fun o => { o with upSeen := true }).modOptic p fun o => { o with alerts := o.alerts + 1 } := by
  unfold upFrame
  dsimp only
  rw [if_neg (not_not.mpr hcrc)]
  split
  case h_4 => rfl
  case h_5 _ _ _ h12 => exact absurd htype h12
  all_goals omega

end

/-! ## Commands of a port -/

/-- A port in SERVICE that is to train again (R387, R393). -/
theorem retrain_effect (s : State) (p : Nat) (hp : p < 14) (hlen : s.opt.length = 14) (h7 : s.phase p = 7)
    (htrip : (s.optic p).tripped = false)
    (t : State) (ht : retrain p s = t) : t.phase p = 1 ∧ t.get (F.UNIT_STATE_STATE (entPort p)) = 1 ∧ t.get (F.OPT_STATE_ATTEMPTS p) = 0
      ∧ t.get (F.OPT_STATE_LANE_OK p) = 0 := by
  obtain ⟨x, hx⟩ : ∃ x, s.post (dieOfPort p) (.retrain p) = x := ⟨_, rfl⟩
  obtain ⟨y, hy⟩ : ∃ y, x.set (F.OPT_STATE_ATTEMPTS p) 0 = y := ⟨_, rfl⟩
  obtain ⟨z, hz⟩ : ∃ z, y.enterDetect p = z := ⟨_, rfl⟩
  have hkept : PortKept [] s x := hx ▸ (PortKept.refl [] s).post _ _
  have hyopt : y.opt = s.opt := by rw [← hy, State.set_opt, hkept.opt]
  have hytrip : (y.optic p).tripped = false := by rw [State.optic, hyopt]; exact htrip
  obtain ⟨h1, h2, h3, h4, -⟩ := y.enterDetect_starts p hp (by rw [hyopt, hlen]) hytrip z hz
  have heq : t = z.modOptic p fun o => { o with trainEpochs := 0 } := by
    rw [← ht, retrain, if_pos h7, hx, State.retrainLost, hkept.optic, htrip, hy, hz]
    rfl
  have hget (f : Field) : t.get f = z.get f := heq ▸ z.get_modOptic p _ f
  refine ⟨by rw [State.phase, hget]; exact h1, by rw [hget, h2], ?_, by rw [hget, h3]⟩
  rw [hget, h4, ← hy]
  exact State.get_set_fits _ _ _ rfl

/-- The engine leaves its cage (R359, R387). -/
theorem engineRemoved_effect (s : State) (p : Nat) (hp : p < 14) (hlen : s.opt.length = 14) (t : State) (ht : engineRemoved p s = t) :
    t.phase p = 0 ∧ t.get (F.OPT_STATE_ACTIVE_LASER p) = 0 ∧ (t.optic p).present = false ∧ (t.optic p).tripped = (s.optic p).tripped
      ∧ t.pwr.cage12V.getLsbD p = false ∧ (s.get (F.UNIT_STATE_STATE (entPort p)) = 2 → t.get (F.UNIT_STATE_STATE (entPort p)) = 4) := by
  obtain ⟨x, hx⟩ : ∃ x, (s.linkDown p).setPhase p 0 = x := ⟨_, rfl⟩
  obtain ⟨y, hy⟩ : ∃ y, (x.cage p false).modOptic p (fun o => { o with lasers := 0 }) = y := ⟨_, rfl⟩
  obtain ⟨z, hz⟩ : ∃ z, y.opticsFresh p = z := ⟨_, rfl⟩
  obtain ⟨w, hw⟩ : ∃ w, z.set (F.OPT_STATE_ACTIVE_LASER p) 0 = w := ⟨_, rfl⟩
  obtain ⟨u, hu⟩ : ∃ u, w.modOptic p (fun o => { o with present := false, cleared := o.tripped }) = u := ⟨_, rfl⟩
  obtain ⟨v, hv⟩ : ∃ v, (if (s.unit (entPort p) == usReady || s.unit (entPort p) == usStarting) = true then u.setUnit (entPort p) usDown
    else u) = v := ⟨_, rfl⟩
  have heq : t = if p < 12 then (v.portFresh p).pumpAll else v := by
    rw [← ht, engineRemoved, State.portNone, hx, hy, hz, hw, hu, hv]
  have hxopt : x.opt = ((s.linkDown p).modOptic p fun o => { o with phaseEpochs := 0 }).opt := hx ▸ rfl
  have hplen : p < (s.linkDown p).opt.length := by rw [(s.linkDown_kept p).opt, hlen]; exact hp
  have hxtrip : (x.optic p).tripped = (s.optic p).tripped := by
    rw [State.optic, hxopt, ← State.optic, State.optic_modOptic _ _ _ hplen, (s.linkDown_kept p).optic]
  have hxlen : x.opt.length = 14 := by rw [hxopt, State.modOptic_length, (s.linkDown_kept p).opt, hlen]
  have hylen : y.opt.length = 14 := by rw [← hy, State.modOptic_length]; exact hxlen
  have hytrip : (y.optic p).tripped = (s.optic p).tripped := by
    rw [← hxtrip, ← hy, State.optic_modOptic _ _ _ (show p < (x.cage p false).opt.length from hxlen.symm ▸ hp)]
    rfl
  obtain ⟨-, z2, -, z4, z5, z6⟩ := y.opticsFresh_effect p (hylen.symm ▸ hp)
  rw [hz] at z2 z4 z5 z6
  have huoptic : u.optic p = { z.optic p with present := false, cleared := (z.optic p).tripped } := by
    have hwopt : w.opt = z.opt := hw ▸ State.set_opt _ _ _
    rw [← hu, State.optic_modOptic _ _ _ (by rw [hwopt, z5, hylen]; exact hp), State.optic, hwopt, State.optic]
  have huv : PortKept [] u v := hv ▸ ((PortKept.refl [] u).setUnit p usDown hp).ite (PortKept.refl [] u)
  have hut : PortKept [] u t := huv.trans (heq ▸ (((PortKept.refl [] v).portFresh p).pumpAll).ite (PortKept.refl [] v))
  have hstate (f : Field) (hf : f.addr = A.OPT_STATE p) : t.get f = w.get f := by
    rw [hut.get f 0x10 p hp (by omega) hf List.not_mem_nil, ← hu, State.get_modOptic]
  have hphase : y.phase p = 0 := by
    rw [State.phase, ← hy, State.get_modOptic]
    refine (State.get_congr _ (State.reg_congr _ rfl rfl rfl rfl)).trans (?_ : x.phase p = 0)
    rw [← hx]
    exact (State.setPhase_effect _ p 0 (by omega)).1
  refine ⟨?_, ?_, ?_, ?_, ?_, fun hready => ?_⟩
  · rw [State.phase, hstate _ rfl, ← hw, State.get_set_apart _ _ _ _ rfl, z2 _ rfl rfl rfl rfl]
    exact hphase
  · rw [hstate _ rfl, ← hw]
    exact State.get_set_fits _ _ _ rfl
  · rw [hut.optic, huoptic]
  · rw [hut.optic, huoptic, ← hytrip, ← z4]
  · rw [hut.pwr, ← hu, show (w.modOptic p _).pwr = w.pwr from rfl, ← hw, State.set_pwr, z6, ← hy]
    exact x.cage_off p
  · have hunit : v.get (F.UNIT_STATE_STATE (entPort p)) = 4 := by
      rw [← hv, s.unit_port p hp, hready, if_pos (by decide)]
      exact u.setUnit_port p usDown hp (by decide)
    rw [heq]
    split
    · rw [(State.pumpAll_frame _).get _ (portUnit_drop p hp)]
      exact (State.get_congr _ (State.reg_congr _ rfl rfl rfl rfl)).trans hunit
    · exact hunit

/-- An engine that draws too much (R359). -/
theorem overCurrent_effect (s : State) (p : Nat) (hp : p < 14) (hlen : s.opt.length = 14) (hcage : s.pwr.cage12V.getLsbD p = true)
    (t : State)
    (ht : overCurrent p s = t) : t.phase p = 8 ∧ t.get (F.OPT_STATE_FAIL_REASON p) = 10 ∧ (t.optic p).tripped = true
      ∧ t.pwr.cage12V.getLsbD p = false ∧ t.get (F.UNIT_STATE_STATE (entPort p)) = 4 := by
  obtain ⟨x, hx⟩ : ∃ x, s.cage p false = x := ⟨_, rfl⟩
  obtain ⟨y, hy⟩ : ∃ y, x.portFail p 10 = y := ⟨_, rfl⟩
  have heq : t = y.modOptic p fun o => { o with tripped := true, cleared := false, lasers := 0 } := by
    rw [← ht, overCurrent, if_pos (show bitAt s.pwr.cage12V.toNat p = true from hcage), hx, hy]
  obtain ⟨h1, h2, h3, h4, h5⟩ := x.portFail_effect p 10 hp (by omega) y hy
  have hylen : y.opt.length = 14 := by
    rw [h4]
    refine List.length_set.trans ?_
    rw [State.set_opt, (x.linkDown_kept p).opt, ← hx]
    exact hlen
  have hget (f : Field) : t.get f = y.get f := heq ▸ y.get_modOptic p _ f
  refine ⟨by rw [State.phase, hget]; exact h1, by rw [hget, h2], ?_, ?_, by rw [hget, h3]⟩
  · rw [heq, State.optic_modOptic _ _ _ (by omega)]
  · rw [heq, show (y.modOptic p _).pwr = y.pwr from rfl, h5, ← hx]
    exact s.cage_off p

/-- Settles O53, through what a frame, a failure, a new training and the removal of an engine leave of a port. -/
theorem enginesAndPorts : Obligations.EnginesAndPorts := by
  unfold Obligations.EnginesAndPorts
  intro s p hs hshape hp n good x
  have hlen : s.opt.length = 14 := hshape.2.2.2.2.2.1
  have hlive (f : State → State) : lively s p 14 f = .next (f s) := lively_powered s p 14 f hp hs.1 hs.2
  have hspoke (hp12 : p < 12) (f : State → State) : lively s p 12 f = .next (f s) := lively_powered s p 12 f hp12 hs.1 hs.2
  refine ⟨fun f l hgood hl => ?_, fun f i hi hgood => ?_, fun f hgood => ?_, fun f l hgood => ?_, fun f l hgood => ?_, fun f hbad => ?_,
    fun h0 h8 hmissed => ?_, fun hp12 hspare hwarm => ?_, fun hdriven htick => ?_, fun hdriven htick => ?_, fun hdriven htick => ?_,
    fun hdriven htick => ?_, fun h7 => ⟨fun l hl hp12 => ?_, fun hp12 => ?_, ?_, fun htrip => ?_⟩, ?_, fun hcage => ?_⟩
  · obtain ⟨hcrc, htype, ht⟩ := hgood
    refine (hlive (upFrame p f)).trans (congrArg _ ?_)
    rw [upFrame_mon p f s hcrc htype (ht.symm ▸ hl), show nbits f.toNat 27 23 = l from ht]
  · obtain ⟨hcrc, htype, ht⟩ := hgood
    exact (hlive (upFrame p f)).trans (congrArg _ (upFrame_laser p f s hcrc i hi htype ht))
  · obtain ⟨hcrc, htype, ht⟩ := hgood
    exact (hlive (upFrame p f)).trans (congrArg _ (upFrame_reference p f s hcrc htype ht))
  · obtain ⟨hcrc, htype, -⟩ := hgood
    exact (hlive (upFrame p f)).trans (congrArg _ (upFrame_regData p f s hcrc htype))
  · obtain ⟨hcrc, htype, -⟩ := hgood
    exact (hlive (upFrame p f)).trans (congrArg _ (upFrame_alert p f s hcrc htype))
  · exact (hlive (upFrame p f)).trans (congrArg _ (if_pos hbad))
  · obtain ⟨h1, h2, h3, -, -⟩ := s.portFail_effect p 11 hp (by omega) _ rfl
    have hrun : sidebandLost p s = s.portFail p 11 := if_pos ⟨h0, h8, hmissed⟩
    exact ⟨_, (hlive (sidebandLost p)).trans (congrArg _ hrun), h1, h2, h3, ((Keeps.refl s).portFail p 11).bytes⟩
  · obtain ⟨y, hy⟩ : ∃ y, s.set (F.OPT_STATE_SPARE_LASER p) 3 = y := ⟨_, rfl⟩
    have hrun : spareWarmTimeout p s = y.laserFade p 4 0xF false := by rw [spareWarmTimeout, if_pos ⟨hspare, hwarm⟩, hy]
    have hset : Frame [A.OPT_STATE p, A.FAULT_LOST] s y := hy ▸ (Frame.refl _ s).set (F.OPT_STATE_SPARE_LASER p) 3
    have hfade : Frame [A.FAULT_LOST] y (y.laserFade p 4 0xF false) := y.faultKey_frame _ _ _ _ _
    have hframe := hset.next hfade (List.subset_cons_self _ _)
    refine ⟨_, (hspoke hp12 (spareWarmTimeout p)).trans (congrArg _ hrun), ?_, hframe.regs, hframe.bytes⟩
    have hkept : PortKept [] y (y.laserFade p 4 0xF false) := (PortKept.refl [] y).faultKey _ _ _ _ _
    rw [hkept.get (F.OPT_STATE_SPARE_LASER p) 0x10 p hp (by omega) rfl List.not_mem_nil, ← hy]
    exact State.get_set_fits _ _ _ rfl
  · refine (hlive (dither p)).trans (congrArg _ ?_)
    rw [dither, if_pos ⟨hdriven, .inl htick⟩, if_pos htick]
  · refine (hlive (dither p)).trans (congrArg _ ?_)
    rw [dither, if_pos ⟨hdriven, .inr htick⟩, if_neg (by omega)]
  · refine (hlive (sample p)).trans (congrArg _ ?_)
    rw [sample, if_pos ⟨hdriven, .inl htick⟩, if_pos htick]
  · refine (hlive (sample p)).trans (congrArg _ ?_)
    rw [sample, if_pos ⟨hdriven, .inr htick⟩, if_neg (by omega)]
  · exact (hspoke hp12 fun s => if l < 8 then optCmd p 1 l s else s).trans (congrArg _ ((if_pos hl).trans (if_pos h7)))
  · exact (hspoke hp12 (optCmd p 2 0)).trans (congrArg _ (if_pos h7))
  · exact (hlive (optCmd p 3 0)).trans (congrArg _ (if_pos h7))
  · obtain ⟨h1, h2, h3, h4⟩ := retrain_effect s p hp hlen h7 htrip _ rfl
    exact ⟨_, hlive (retrain p), h1, h2, h3, h4, ((Keeps.refl s).retrain p).bytes⟩
  · obtain ⟨h1, h2, h3, h4, h5, h6⟩ := engineRemoved_effect s p hp hlen _ rfl
    exact ⟨_, hlive (engineRemoved p), h1, h2, h3, h4, h5, h6, ((Keeps.refl s).engineRemoved p).bytes⟩
  · obtain ⟨h1, h2, h3, h4, h5⟩ := overCurrent_effect s p hp hlen hcage _ rfl
    exact ⟨_, hlive (overCurrent p), h1, h2, h3, h4, h5, ((Keeps.refl s).overCurrent p).bytes⟩

end Sys2Proof.Machine

/-! The phases of a port's training and the version two ends agree on (O54). -/
namespace Sys2Proof.Machine

/-! ## Folds over the lanes and the rings of a port -/

/-- What the step for `a` of a fold reaches, and the steps for others leave, holds at the end. -/
theorem foldl_reaches {α : Type} (f : State → α → State) (I P : State → Prop) (l : List α) (a : α) (ha : a ∈ l)
    (hI : ∀ s, ∀ b ∈ l, I s → I (f s b)) (hset : ∀ s, I s → P (f s a)) (hkeep : ∀ s, ∀ b ∈ l, b ≠ a → I s → P s → P (f s b)) (s : State)
    (hs : I s) : P (l.foldl f s) := by
  have hlast : ∀ l' : List α, (∀ b ∈ l', b ∈ l) → ∀ t, I t → P t → P (l'.foldl f t) := by
    intro l'
    induction l' with
    | nil => exact fun _ t _ ht => ht
    | cons b l' ih =>
      intro hmem t hIt ht
      have hb := hmem b (.head _)
      refine ih (fun c hc => hmem c (.tail _ hc)) _ (hI t b hb hIt) ?_
      by_cases hba : b = a
      · exact hba ▸ hset t hIt
      · exact hkeep t b hb hba hIt ht
  obtain ⟨l1, l2, rfl⟩ := List.append_of_mem ha
  rw [List.foldl_append, List.foldl_cons]
  have h1 : I (l1.foldl f s) := List.foldlRecOn (motive := I) _ _ hs fun t ht b hb => hI t b (List.mem_append_left _ hb) ht
  exact hlast l2 (fun b hb => List.mem_append_right _ (.tail _ hb)) _ (hI _ a ha h1) (hset _ h1)

/-! ## Registers of a port's page -/

theorem State.get_set_page (s : State) (p : Nat) (f g : Field) (v j k : Nat) (hf : f.addr = optReg p + j) (hg : g.addr = optReg p + k)
    (hne : k ≠ j) : (s.set f v).get g = s.get g := s.get_set_ne f g v (by omega)

/-- A field of a ring's register: rings 0 to 8 are the modulators', 9 to 17 the drops'. -/
def ringOff (r : Nat) : Nat := if r < 9 then 0x180 + 0x8 * r else 0x200 + 0x8 * (r - 9)
def ringField (p r hi lo : Nat) : Field := ⟨optReg p + ringOff r, hi, lo⟩

theorem ringField_tx (p r hi lo : Nat) (h : r < 9) : (⟨A.RING_TX p r, hi, lo⟩ : Field) = ringField p r hi lo := by
  rw [ringField, ringOff, if_pos h, ← Nat.add_assoc]
  rfl

theorem ringField_rx (p r hi lo : Nat) (h : ¬ r < 9) : (⟨A.RING_RX p (r - 9), hi, lo⟩ : Field) = ringField p r hi lo := by
  rw [ringField, ringOff, if_neg h, ← Nat.add_assoc]
  rfl

theorem ringCode_eq (p r : Nat) : ringCode p r = ringField p r 63 50 := by
  unfold ringCode
  split
  · exact ringField_tx p r 63 50 ‹_›
  · exact ringField_rx p r 63 50 ‹_›

theorem ringTrained_eq (p r : Nat) : ringTrained p r = ringField p r 49 36 := by
  unfold ringTrained
  split
  · exact ringField_tx p r 49 36 ‹_›
  · exact ringField_rx p r 49 36 ‹_›

theorem ringFsr_eq (p r : Nat) : ringFsr p r = ringField p r 35 22 := by
  unfold ringFsr
  split
  · exact ringField_tx p r 35 22 ‹_›
  · exact ringField_rx p r 35 22 ‹_›

theorem ringCal_eq (p r : Nat) : ringCal p r = ringField p r 21 8 := by
  unfold ringCal
  split
  · exact ringField_tx p r 21 8 ‹_›
  · exact ringField_rx p r 21 8 ‹_›

theorem ringMirage_eq (p r : Nat) : ringMirage p r = ringField p r 1 1 := by
  unfold ringMirage
  split
  · exact ringField_tx p r 1 1 ‹_›
  · exact ringField_rx p r 1 1 ‹_›

theorem ringLocked_eq (p r : Nat) : ringLocked p r = ringField p r 0 0 := by
  unfold ringLocked
  split
  · exact ringField_tx p r 0 0 ‹_›
  · exact ringField_rx p r 0 0 ‹_›

theorem ringOff_ne (r r' : Nat) (h : r < 18) (h' : r' < 18) (hne : r ≠ r') : ringOff r ≠ ringOff r' := by
  unfold ringOff
  split <;> split <;> omega

theorem ringOff_range (r : Nat) (h : r < 18) : 0x180 ≤ ringOff r ∧ ringOff r < 0x280 := by
  unfold ringOff
  split <;> omega

theorem laneCount_le (p : Nat) : laneCount p ≤ 9 := by
  unfold laneCount
  split <;> omega

theorem ringsOf_lt (p r : Nat) (h : r ∈ ringsOf p) : r < 18 := by
  unfold ringsOf at h
  split at h
  · exact List.mem_range.mp h
  · simp only [List.mem_cons, List.not_mem_nil, or_false] at h
    omega

/-! ### Fields of one ring -/

section
variable (s : State) (p r : Nat)

theorem State.ring_same (hi lo v : Nat) (h : lo ≤ hi) (hhi : hi < 64) (hv : v < 2 ^ (hi + 1 - lo)) :
    (s.set (ringField p r hi lo) v).get (ringField p r hi lo) = v := s.get_set_lt _ v h hhi hv

theorem State.ring_apart (hi lo hi' lo' v : Nat) (h : (ringField p r hi lo).apart (ringField p r hi' lo') = true) :
    (s.set (ringField p r hi lo) v).get (ringField p r hi' lo') = s.get (ringField p r hi' lo') := s.get_set_apart _ _ v h

theorem State.ring_other (r' : Nat) (hi lo hi' lo' v : Nat) (hr : r < 18) (hr' : r' < 18) (hne : r' ≠ r) :
    (s.set (ringField p r hi lo) v).get (ringField p r' hi' lo') = s.get (ringField p r' hi' lo') :=
  s.get_set_page p _ _ v (ringOff r) (ringOff r') rfl rfl (ringOff_ne r' r hr' hr hne)

end

/-! ## Rings that a sweep has locked (R387) -/

/-- The step of a lane. -/
def State.sweepRing (s : State) (p r c : Nat) : State :=
  if c < 0x4000 then ((s.set (ringField p r 63 50) c).set (ringField p r 0 0) 1).set (ringField p r 1 1) 0 else s.set (ringField p r 0 0)
      0

theorem State.lockRings_eq (s : State) (p base : Nat) (locks : List Nat) : s.lockRings p base locks
    = (List.range (laneCount p)).foldl (fun s l => s.sweepRing p (base + l) (locks.getD l 0x4000)) s := by
  unfold State.lockRings State.sweepRing
  simp only [ringCode_eq, ringLocked_eq, ringMirage_eq]

theorem State.sweepRing_self (s : State) (p r c : Nat) :
    (c < 0x4000 → (s.sweepRing p r c).get (ringField p r 63 50) = c) ∧ (s.sweepRing p r c).get (ringField p r 0 0) = if c < 0x4000 then 1
        else 0
      := by
  unfold State.sweepRing
  by_cases h : c < 0x4000
  · rw [if_pos h, if_pos h]
    refine ⟨fun _ => ?_, ?_⟩
    · rw [State.ring_apart _ _ _ _ _ _ _ _ rfl, State.ring_apart _ _ _ _ _ _ _ _ rfl]
      exact State.ring_same _ _ _ 63 50 c (by omega) (by omega) (by omega)
    · rw [State.ring_apart _ _ _ _ _ _ _ _ rfl]
      exact State.ring_same _ _ _ 0 0 1 (by omega) (by omega) (by omega)
  · rw [if_neg h, if_neg h]
    exact ⟨fun h' => absurd h' h, State.ring_same _ _ _ 0 0 0 (by omega) (by omega) (by omega)⟩

theorem State.sweepRing_other (s : State) (p r c : Nat) (g : Field) (k : Nat) (hg : g.addr = optReg p + k) (hne : k ≠ ringOff r) :
    (s.sweepRing p r c).get g = s.get g := by
  unfold State.sweepRing
  split
  · rw [State.get_set_page _ p _ g _ _ k rfl hg hne, State.get_set_page _ p _ g _ _ k rfl hg hne, State.get_set_page _ p _ g _ _ k rfl hg
      hne]
  · exact State.get_set_page _ p _ g _ _ k rfl hg hne

/-- The rings of one direction after its sweep. -/
theorem State.lockRings_effect (s : State) (p base : Nat) (locks : List Nat) (hbase : base ≤ 9) (l : Nat) (hl : l < laneCount p) :
    (locks.getD l 0x4000 < 0x4000 → (s.lockRings p base locks).get (ringField p (base + l) 63 50) = locks.getD l 0x4000)
      ∧ (s.lockRings p base locks).get (ringField p (base + l) 0 0) = if locks.getD l 0x4000 < 0x4000 then 1 else 0 := by
  have h9 := laneCount_le p
  rw [s.lockRings_eq]
  refine foldl_reaches _ (fun _ => True)
      (fun t => (locks.getD l 0x4000 < 0x4000 → t.get (ringField p (base + l) 63 50) = locks.getD l 0x4000)
    ∧ t.get (ringField p (base + l) 0 0) = if locks.getD l 0x4000 < 0x4000 then 1 else 0) _ l (List.mem_range.mpr hl)
        (fun _ _ _ _ => trivial)
    (fun t _ => t.sweepRing_self p (base + l) _) (fun t b hb hne _ ht => ?_) s trivial
  have hb9 := List.mem_range.mp hb
  have hoff : ringOff (base + l) ≠ ringOff (base + b) := ringOff_ne _ _ (by omega) (by omega) (by omega)
  rw [t.sweepRing_other p _ _ _ _ rfl hoff, t.sweepRing_other p _ _ _ _ rfl hoff]
  exact ht

theorem State.lockRings_other (s : State) (p base : Nat) (locks : List Nat) (g : Field) (k : Nat) (hg : g.addr = optReg p + k)
    (hne : ∀ l < 9, k ≠ ringOff (base + l)) : (s.lockRings p base locks).get g = s.get g := by
  have h9 := laneCount_le p
  rw [s.lockRings_eq]
  refine List.foldlRecOn (motive := fun t : State => t.get g = s.get g) _ _ rfl fun t ht l hl => ?_
  exact (t.sweepRing_other p _ _ g k hg (hne l (by have := List.mem_range.mp hl; omega))).trans ht

theorem State.lockRings_opt (s : State) (p base : Nat) (locks : List Nat) : (s.lockRings p base locks).opt = s.opt := by
  rw [s.lockRings_eq]
  refine List.foldlRecOn (motive := fun t : State => t.opt = s.opt) _ _ rfl fun t ht l _ => ?_
  unfold State.sweepRing
  split
  · exact ht
  · exact ht

/-! ## The lane map (R387) -/

theorem laneState_addr (p l : Nat) : A.LANE_STATE p l = optReg p + (0x100 + 0x8 * l) := Nat.add_assoc _ _ _

/-- The lane map's step for a lane. -/
def State.mapLane (s : State) (p : Nat) (tx rx : List Nat) (l : Nat) : State :=
  ((s.set (F.LANE_STATE_ROLE p l) (if !tx.contains l then 0xF else if l = 8 then (missing p tx).getD 8 else l)).set
      (F.LANE_STATE_HEALTH p l)
    (if tx.contains l && rx.contains l then 0 else 2)).setLaneOk p l (tx.contains l && rx.contains l)

theorem State.mapLane_other (s : State) (p : Nat) (tx rx : List Nat) (l : Nat) (g : Field) (k : Nat) (hg : g.addr = optReg p + k)
    (hlane : k ≠ 0x100 + 0x8 * l) (hstate : k ≠ 0x10) : (s.mapLane p tx rx l).get g = s.get g := by
  rw [State.mapLane, State.setLaneOk, State.get_set_page _ p _ g _ 0x10 k rfl hg hstate,
    State.get_set_page _ p _ g _ _ k (laneState_addr p l) hg hlane, State.get_set_page _ p _ g _ _ k (laneState_addr p l) hg hlane]

theorem State.mapLane_self (s : State) (p : Nat) (tx rx : List Nat) (l : Nat) :
    (l < 8 → (s.mapLane p tx rx l).get (F.LANE_STATE_ROLE p l) = if tx.contains l then l else 15)
      ∧ (tx.contains l = false → (s.mapLane p tx rx l).get (F.LANE_STATE_ROLE p l) = 15)
      ∧ (s.mapLane p tx rx l).get (F.LANE_STATE_HEALTH p l) = if tx.contains l && rx.contains l then 0 else 2 := by
  have hokay (x : State) (b : Bool) (g : Field) (hg : g.addr = A.LANE_STATE p l) : (x.setLaneOk p l b).get g = x.get g :=
    x.get_set_page p _ g _ 0x10 _ rfl (hg.trans (laneState_addr p l)) (by omega)
  have hrole (v : Nat) (hv : v < 16) : (s.set (F.LANE_STATE_ROLE p l) v).get (F.LANE_STATE_ROLE p l) = v :=
    State.get_set_lt _ _ _ (show 60 ≤ 63 by omega) (show 63 < 64 by omega) hv
  rw [State.mapLane, hokay _ _ _ rfl, hokay _ _ _ rfl, State.get_set_apart _ _ _ _ rfl]
  refine ⟨fun h8 => ?_, fun hout => ?_, ?_⟩
  · by_cases h : tx.contains l = true
    · rw [h, if_pos rfl, if_neg (by decide), if_neg (by omega)]
      exact hrole l (by omega)
    · rw [Bool.not_eq_true] at h
      rw [h, if_pos (by decide), if_neg (by decide)]
      exact hrole 15 (by omega)
  · rw [hout, if_pos (by decide)]
    exact hrole 15 (by omega)
  · have hhealth : (if tx.contains l && rx.contains l then 0 else 2) < 2 ^ 2 := by split <;> omega
    exact State.get_set_lt _ _ _ (show 58 ≤ 59 by omega) (show 59 < 64 by omega) hhealth

theorem State.buildMap_effect (s : State) (p : Nat) (tx rx : List Nat) (t : State) (ht : s.buildMap p tx rx = t) :
    (∀ l < laneCount p, (l < 8 → t.get (F.LANE_STATE_ROLE p l) = if tx.contains l then l else 15)
      ∧ (tx.contains l = false → t.get (F.LANE_STATE_ROLE p l) = 15)
      ∧ t.get (F.LANE_STATE_HEALTH p l) = if tx.contains l && rx.contains l then 0 else 2)
    ∧ ∀ (g : Field) (k : Nat), g.addr = optReg p + k → 0x180 ≤ k → t.get g = s.get g := by
  have h9 := laneCount_le p
  obtain ⟨x, hx⟩ : ∃ x, (List.range (laneCount p)).foldl (fun s l => s.mapLane p tx rx l) s = x := ⟨_, rfl⟩
  have hrest (g : Field) (k : Nat) (hg : g.addr = optReg p + k) (hk : k ≠ 0x10) : t.get g = x.get g := by
    rw [← ht, State.buildMap]
    dsimp only
    rw [State.get_modOptic, ← hx]
    split
    · rw [State.get_set_page _ p _ g _ 0x10 k rfl hg hk, State.get_set_page _ p _ g _ 0x10 k rfl hg hk]
      rfl
    · rfl
  refine ⟨fun l hl => ?_, fun g k hg hk => ?_⟩
  · rw [hrest _ _ (laneState_addr p l) (by omega), hrest _ _ (laneState_addr p l) (by omega), ← hx]
    refine foldl_reaches _ (fun _ => True) (fun t => (l < 8 → t.get (F.LANE_STATE_ROLE p l) = if tx.contains l then l else 15)
      ∧ (tx.contains l = false → t.get (F.LANE_STATE_ROLE p l) = 15)
      ∧ t.get (F.LANE_STATE_HEALTH p l) = if tx.contains l && rx.contains l then 0 else 2) _ l (List.mem_range.mpr hl)
      (fun _ _ _ _ => trivial) (fun t _ => t.mapLane_self p tx rx l) (fun t b hb hne _ hP => ?_) s trivial
    rw [t.mapLane_other p tx rx b _ _ (laneState_addr p l) (by omega) (by omega),
      t.mapLane_other p tx rx b _ _ (laneState_addr p l) (by omega) (by omega)]
    exact hP
  · rw [hrest g k hg (by omega), ← hx]
    refine List.foldlRecOn (motive := fun t : State => t.get g = s.get g) _ _ rfl fun t ht l hl => ?_
    have hl9 := List.mem_range.mp hl
    exact (t.mapLane_other p tx rx l g k hg (by omega) (by omega)).trans ht

/-! ## The phases of training (R387) -/

theorem State.setPhase_page (s : State) (p n : Nat) (g : Field) (k : Nat) (hg : g.addr = optReg p + k) (hk : k ≠ 0x10) :
    (s.setPhase p n).get g = s.get g := by
  rw [State.setPhase, State.get_modOptic]
  exact s.get_set_page p _ g _ 0x10 k rfl hg hk

theorem ringOff_base (base l k : Nat) (hbase : base ≤ 9) (hl : l < 9) (hk : k < 0x180 ∨ 0x280 ≤ k) : k ≠ ringOff (base + l) := by
  have h := ringOff_range (base + l) (by omega)
  omega

theorem txLane_eq (p l : Nat) (hl : l < 9) (hi lo : Nat) : (⟨A.RING_TX p l, hi, lo⟩ : Field) = ringField p (0 + l) hi lo := by
  rw [Nat.zero_add]
  exact ringField_tx p l hi lo hl

theorem rxLane_eq (p l : Nat) (hi lo : Nat) : (⟨A.RING_RX p l, hi, lo⟩ : Field) = ringField p (9 + l) hi lo := by
  have h := ringField_rx p (9 + l) hi lo (by omega)
  rwa [show 9 + l - 9 = l by omega] at h

/-- The transmitting rings are locked (R387). -/
theorem txAcqDone_effect (s : State) (p : Nat) (locks : List Nat) (h3 : s.phase p = 3) (hneed : ringsNeeded p ≤ lockCount p locks)
    (t : State)
    (ht : txAcqDone p locks s = t) : t.phase p = 4
      ∧ (∀ l < laneCount p, locks.getD l 0x4000 < 0x4000 →
        t.get (F.RING_TX_CODE p l) = locks.getD l 0x4000 ∧ t.get (F.RING_TX_LOCKED p l) = 1)
      ∧ ∀ l < laneCount p, 0x4000 ≤ locks.getD l 0x4000 → t.get (F.RING_TX_LOCKED p l) = 0 := by
  have h9 := laneCount_le p
  obtain ⟨x, hx⟩ : ∃ x, s.lockRings p 0 locks = x := ⟨_, rfl⟩
  obtain ⟨y, hy⟩ : ∃ y, x.modOptic p (fun o => { o with txMap := laneMask (x.lockedLanes p 0) }) = y := ⟨_, rfl⟩
  have heq : t = y.setPhase p 4 := by
    rw [← ht, txAcqDone, if_pos ⟨h3, hneed⟩]
    dsimp only
    rw [hx, hy]
  have hring (r hi lo : Nat) (hr : r < 18) : t.get (ringField p r hi lo) = x.get (ringField p r hi lo) := by
    have hoff := ringOff_range r hr
    rw [heq, State.setPhase_page _ p 4 _ (ringOff r) rfl (by omega), ← hy, State.get_modOptic]
  refine ⟨heq ▸ (y.setPhase_effect p 4 (by omega)).1, fun l hl hlock => ?_, fun l hl hlock => ?_⟩
  · obtain ⟨h1, h2⟩ := s.lockRings_effect p 0 locks (by omega) l hl
    rw [hx] at h1 h2
    rw [show F.RING_TX_CODE p l = _ from txLane_eq p l (by omega) 63 50, show F.RING_TX_LOCKED p l = _ from txLane_eq p l (by omega) 0 0,
      hring _ _ _ (by omega), hring _ _ _ (by omega), h1 hlock, h2, if_pos hlock]
    exact ⟨rfl, rfl⟩
  · obtain ⟨-, h2⟩ := s.lockRings_effect p 0 locks (by omega) l hl
    rw [hx] at h2
    rw [show F.RING_TX_LOCKED p l = _ from txLane_eq p l (by omega) 0 0, hring _ _ _ (by omega), h2, if_neg (by omega)]

/-- A transmitted lane that works as training ends. -/
def State.txOkay (s : State) (p l : Nat) : Prop :=
  s.get (F.RING_TX_LOCKED p l) = 1 ∧ (∀ x ∈ (s.optic p).txMism, x.1 ≠ l) ∧ ∀ x ∈ (s.optic p).dips, x.1 ≠ l

theorem State.txWorks_contains (s : State) (p l : Nat) (hl : l < laneCount p) : (s.txWorks p).contains l = true ↔ s.txOkay p l := by
  have h9 := laneCount_le p
  have hlock : s.on (ringLocked p (0 + l)) = true ↔ s.get (F.RING_TX_LOCKED p l) = 1 := by
    rw [ringLocked_eq, ← txLane_eq p l (by omega) 0 0]
    exact s.on_iff_eq_one (F.RING_TX_LOCKED p l) rfl
  rw [List.contains_iff_mem, State.txWorks, List.mem_filter, State.lockedLanes, List.mem_filter, hlock, State.txOkay]
  simp only [List.mem_range, hl, true_and, Bool.and_eq_true, Bool.not_eq_true', List.any_eq_false, beq_iff_eq, ne_eq]

/-- The receiving rings are locked, and the lane map is built (R387). -/
theorem rxAcqDone_effect (s : State) (p : Nat) (locks : List Nat) (h4 : s.phase p = 4) (hneed : ringsNeeded p ≤ lockCount p locks)
    (t : State)
    (ht : rxAcqDone p locks s = t) : t.phase p = 5
      ∧ (∀ l < laneCount p, locks.getD l 0x4000 < 0x4000 →
        t.get (F.RING_RX_CODE p l) = locks.getD l 0x4000 ∧ t.get (F.RING_RX_LOCKED p l) = 1)
      ∧ (∀ l < laneCount p, l < 8 → s.txOkay p l → t.get (F.LANE_STATE_ROLE p l) = l)
      ∧ (∀ l < laneCount p, ¬ s.txOkay p l → t.get (F.LANE_STATE_ROLE p l) = 15)
      ∧ ∀ l < laneCount p, t.get (F.LANE_STATE_HEALTH p l) = 0 ↔ s.txOkay p l ∧ locks.getD l 0x4000 < 0x4000 := by
  have h9 := laneCount_le p
  obtain ⟨w, hw⟩ : ∃ w, s.lockRings p 9 locks = w := ⟨_, rfl⟩
  obtain ⟨x, hx⟩ : ∃ x, w.add (F.OPT_ERR_MIRAGE p) (locks.getD 9 0) = x := ⟨_, rfl⟩
  obtain ⟨y, hy⟩ : ∃ y, x.buildMap p (x.txWorks p) (x.lockedLanes p 9) = y := ⟨_, rfl⟩
  have heq : t = y.setPhase p 5 := by
    rw [← ht, rxAcqDone, if_pos ⟨h4, hneed⟩]
    dsimp only
    rw [hw, hx, hy]
  obtain ⟨hmap, hrest⟩ := x.buildMap_effect p _ _ y hy
  have hxw (r hi lo : Nat) (hr : r < 18) : x.get (ringField p r hi lo) = w.get (ringField p r hi lo) := by
    have hoff := ringOff_range r hr
    rw [← hx]
    exact State.get_set_page _ p _ _ _ 0x30 (ringOff r) rfl rfl (by omega)
  have hring (r hi lo : Nat) (hr : r < 18) : t.get (ringField p r hi lo) = w.get (ringField p r hi lo) := by
    have hoff := ringOff_range r hr
    rw [heq, State.setPhase_page _ p 5 _ (ringOff r) rfl (by omega), hrest _ _ rfl (by omega), hxw r hi lo hr]
  have hlane (f : Field) (l : Nat) (hf : f.addr = A.LANE_STATE p l) : t.get f = y.get f := by
    rw [heq]
    exact y.setPhase_page p 5 f _ (hf.trans (laneState_addr p l)) (by omega)
  have hxopt : x.opt = s.opt := by rw [← hx, State.add_opt, ← hw, State.lockRings_opt]
  have hokay (l : Nat) (hl : l < laneCount p) : (x.txWorks p).contains l = true ↔ s.txOkay p l := by
    have hlock : x.get (F.RING_TX_LOCKED p l) = s.get (F.RING_TX_LOCKED p l) := by
      rw [show F.RING_TX_LOCKED p l = _ from txLane_eq p l (by omega) 0 0, hxw _ _ _ (by omega), ← hw]
      exact s.lockRings_other p 9 locks _ _ rfl fun k hk => ringOff_ne _ _ (by omega) (by omega) (by omega)
    rw [x.txWorks_contains p l hl, State.txOkay, State.txOkay, hlock, State.optic, hxopt, State.optic]
  have hrx (l : Nat) (hl : l < laneCount p) : (x.lockedLanes p 9).contains l = true ↔ locks.getD l 0x4000 < 0x4000 := by
    obtain ⟨-, h2⟩ := s.lockRings_effect p 9 locks le_rfl l hl
    rw [List.contains_iff_mem, State.lockedLanes, List.mem_filter, List.mem_range, State.on, ringLocked_eq, hxw _ _ _ (by omega), ← hw,
        h2]
    by_cases h : locks.getD l 0x4000 < 0x4000
    · rw [if_pos h]
      exact ⟨fun _ => h, fun _ => ⟨hl, rfl⟩⟩
    · rw [if_neg h]
      exact ⟨fun hh => absurd hh.2 (by decide), fun hh => absurd hh h⟩
  refine ⟨heq ▸ (y.setPhase_effect p 5 (by omega)).1, fun l hl hlock => ?_, fun l hl h8 hwork => ?_, fun l hl hwork => ?_, fun l hl => ?_⟩
  · obtain ⟨h1, h2⟩ := s.lockRings_effect p 9 locks le_rfl l hl
    rw [hw] at h1 h2
    rw [show F.RING_RX_CODE p l = _ from rxLane_eq p l 63 50, show F.RING_RX_LOCKED p l = _ from rxLane_eq p l 0 0,
      hring _ _ _ (by omega), hring _ _ _ (by omega), h1 hlock, h2, if_pos hlock]
    exact ⟨rfl, rfl⟩
  · rw [hlane _ l rfl, (hmap l hl).1 h8, (hokay l hl).mpr hwork, if_pos rfl]
  · rw [hlane _ l rfl]
    refine (hmap l hl).2.1 ?_
    rw [← Bool.not_eq_true, hokay l hl]
    exact hwork
  · rw [hlane _ l rfl, (hmap l hl).2.2, ← hokay l hl, ← hrx l hl, ← Bool.and_eq_true]
    split
    · next h => exact ⟨fun _ => h, fun _ => rfl⟩
    · next h => exact ⟨fun e => absurd e (by decide), fun e => absurd e h⟩

/-- The engine is in its cage. -/
def State.engineSeen (s : State) (p : Nat) : State := s.modOptic p fun o => { o with present := true }

/-- In DETECT the engine's record is read. -/
theorem State.engineDetected_detect (s : State) (p : Nat) (e : EngineRecord) (h1 : s.phase p = 1) : engineDetected p e s =
    let s2 := (s.engineSeen p).setReg (A.LD_CAPS p) (e.caps &&& ~~~ maskBits 33 32)
    let s3 := (ringsOf p).foldl (fun s r => ((s.set (ringFsr p r) (bits (e.cal.getD r 0) 35 22)).set (ringCal p r)
      (bits (e.cal.getD r 0) 21 8)).set (ringCode p r) (bits (e.cal.getD r 0) 21 8)) s2
    let rec1 := if p < 12 then e.laser % 2 else 0
    let s4 := (s3.set (F.OPT_STATE_ACTIVE_LASER p) rec1).set (F.OPT_STATE_SPARE_LASER p) (if rec1 = 1 then 3 else 0)
    if bits e.caps 63 56 ≠ 1 then (s4.versionRefused p 3 (bits e.caps 63 56) 0).portFail p 2
    else (((if bitAt (s4.optic p).lasers (1 - rec1) then s4.laser p (1 - rec1) false else s4).set (F.LINK_VER_LD_MINOR p)
      (min 4 (bits e.caps 55 48))).laser p rec1 true).setPhase p 2 := by
  obtain ⟨x, hx⟩ : ∃ x, s.engineSeen p = x := ⟨_, rfl⟩
  have hph : x.phase p = 1 := by
    rw [← hx, State.phase]
    exact (s.get_modOptic p _ _).trans h1
  have hidle : ¬ (s.phase p = 0 ∧ ((s.mstate = msTrain ∧ s.unit (entPort p) = usOff) ∨ (s.boot.recovery = true ∧ 12 ≤ p))) := fun h => by
      omega
  rw [engineDetected, show (s.modOptic p fun o => { o with present := true }) = x from hx, hx]
  dsimp only
  rw [if_neg hidle, if_neg (fun h => h hph)]

/-- The engine is read and its laser goes on (R386, R387). -/
theorem engineDetected_effect (s : State) (p : Nat) (e : EngineRecord) (h1 : s.phase p = 1) (hmajor : bits e.caps 63 56 = 1)
    (t : State) (ht : engineDetected p e s = t) : t.phase p = 2 ∧ t.reg (A.LD_CAPS p) = e.caps &&& ~~~ maskBits 33 32
      ∧ t.get (F.OPT_STATE_ACTIVE_LASER p) = (if p < 12 then e.laser % 2 else 0)
      ∧ t.get (F.LINK_VER_LD_MINOR p) = min 4 (bits e.caps 55 48)
      ∧ ∀ r ∈ ringsOf p, t.get (ringCode p r) = bits (e.cal.getD r 0) 21 8 ∧ t.get (ringFsr p r) = bits (e.cal.getD r 0) 35 22 := by
  obtain ⟨x, hx⟩ : ∃ x, (s.engineSeen p).setReg (A.LD_CAPS p) (e.caps &&& ~~~ maskBits 33 32) = x := ⟨_, rfl⟩
  obtain ⟨y, hy⟩ : ∃ y, (ringsOf p).foldl
      (fun s r => ((s.set (ringField p r 35 22) (bits (e.cal.getD r 0) 35 22)).set (ringField p r 21 8)
    (bits (e.cal.getD r 0) 21 8)).set (ringField p r 63 50) (bits (e.cal.getD r 0) 21 8)) x = y := ⟨_, rfl⟩
  obtain ⟨c, hc⟩ : ∃ c, (if p < 12 then e.laser % 2 else 0) = c := ⟨_, rfl⟩
  have hc2 : c < 2 := by rw [← hc]; split <;> omega
  obtain ⟨z, hz⟩ : ∃ z, (y.set (F.OPT_STATE_ACTIVE_LASER p) c).set (F.OPT_STATE_SPARE_LASER p) (if c = 1 then 3 else 0) = z := ⟨_, rfl⟩
  obtain ⟨w, hw⟩ : ∃ w, (if bitAt (z.optic p).lasers (1 - c) then z.laser p (1 - c) false else z) = w := ⟨_, rfl⟩
  obtain ⟨u, hu⟩ : ∃ u, w.set (F.LINK_VER_LD_MINOR p) (min 4 (bits e.caps 55 48)) = u := ⟨_, rfl⟩
  have heq : t = (u.laser p c true).setPhase p 2 := by
    rw [← ht, s.engineDetected_detect p e h1]
    dsimp only
    simp only [ringCode_eq, ringFsr_eq, ringCal_eq]
    rw [hx, hy, hc, hz, if_neg (by rw [hmajor]; exact fun h => h rfl), hw, hu]
  have hlaser (v : State) (k : Nat) (on : Bool) (a : Nat) : (v.laser p k on).reg a = v.reg a := State.reg_congr a rfl rfl rfl rfl
  have hwreg (a : Nat) : w.reg a = z.reg a := by
    rw [← hw]
    split
    · exact hlaser _ _ _ a
    · rfl
  have hpage (g : Field) (k : Nat) (hg : g.addr = optReg p + k) (h10 : k ≠ 0x10) : t.get g = u.get g := by
    rw [heq, State.setPhase_page _ p 2 g k hg h10]
    exact State.get_congr g (hlaser _ _ _ _)
  have huy (g : Field) (k : Nat) (hg : g.addr = optReg p + k) (h10 : k ≠ 0x10) (h48 : k ≠ 0x48) : u.get g = y.get g := by
    rw [← hu, State.get_set_page _ p _ g _ 0x48 k rfl hg h48, State.get_congr g (hwreg _), ← hz,
      State.get_set_page _ p _ g _ 0x10 k rfl hg h10, State.get_set_page _ p _ g _ 0x10 k rfl hg h10]
  refine ⟨heq ▸ (State.setPhase_effect _ p 2 (by omega)).1, ?_, ?_, ?_, fun r hr => ?_⟩
  · have hcaps : t.reg (A.LD_CAPS p) = x.reg (A.LD_CAPS p) := by
      have hoff : ∀ a ∈ [A.OPT_STATE p, A.LINK_VER p], A.LD_CAPS p ≠ a := by
        simp only [A.LD_CAPS, A.OPT_STATE, A.LINK_VER, List.mem_cons, List.not_mem_nil, or_false]
        omega
      have hset (v : State) (n : Nat) : (v.setPhase p n).reg (A.LD_CAPS p) = v.reg (A.LD_CAPS p) :=
        (State.reg_congr _ rfl rfl rfl rfl).trans (State.reg_set_ne _ _ _ _ (hoff _ (.head _)))
      have hfold : y.reg (A.LD_CAPS p) = x.reg (A.LD_CAPS p) := by
        rw [← hy]
        refine List.foldlRecOn (motive := fun t : State => t.reg (A.LD_CAPS p) = x.reg (A.LD_CAPS p)) _ _ rfl fun v hv r hr => ?_
        have hring := ringOff_range r (ringsOf_lt p r hr)
        have hne (hi lo : Nat) : A.LD_CAPS p ≠ (ringField p r hi lo).addr := by
          simp only [A.LD_CAPS, ringField]
          omega
        rw [State.reg_set_ne _ _ _ _ (hne _ _), State.reg_set_ne _ _ _ _ (hne _ _), State.reg_set_ne _ _ _ _ (hne _ _), hv]
      rw [heq, hset, hlaser, ← hu, State.reg_set_ne _ _ _ _ (hoff _ (.tail _ (.head _))), hwreg, ← hz,
        State.reg_set_ne _ _ _ _ (hoff _ (.head _)), State.reg_set_ne _ _ _ _ (hoff _ (.head _)), hfold]
    rw [hcaps, ← hx]
    exact State.reg_setReg_self _ _ _
  · have hactive : t.get (F.OPT_STATE_ACTIVE_LASER p) = z.get (F.OPT_STATE_ACTIVE_LASER p) := by
      rw [heq, (State.setPhase_effect _ p 2 (by omega)).2 _ (.inr rfl), State.get_congr _ (hlaser _ _ _ _), ← hu,
        State.get_set_page _ p _ _ _ 0x48 0x10 rfl rfl (by omega), State.get_congr _ (hwreg _)]
    rw [hactive, ← hz, State.get_set_apart _ _ _ _ rfl, hc]
    exact State.get_set_lt _ _ _ (show 50 ≤ 50 by omega) (show 50 < 64 by omega) hc2
  · rw [hpage _ 0x48 rfl (by omega), ← hu]
    exact State.get_set_lt _ _ _ (show 4 ≤ 7 by omega) (show 7 < 64 by omega)
        ((min_le_left _ _).trans_lt (show 4 < 2 ^ (7 + 1 - 4) by decide))
  · have hr18 := ringsOf_lt p r hr
    have hoff := ringOff_range r hr18
    have hring (hi lo : Nat) : t.get (ringField p r hi lo) = y.get (ringField p r hi lo) := by
      rw [hpage _ (ringOff r) rfl (by omega), huy _ (ringOff r) rfl (by omega) (by omega)]
    rw [ringCode_eq, ringFsr_eq, hring, hring, ← hy]
    refine foldl_reaches _ (fun _ => True) (fun t => t.get (ringField p r 63 50) = bits (e.cal.getD r 0) 21 8
      ∧ t.get (ringField p r 35 22) = bits (e.cal.getD r 0) 35 22) _ r hr (fun _ _ _ _ => trivial) (fun v _ => ⟨?_, ?_⟩)
      (fun v b hb hne _ hP => ?_) x trivial
    · exact State.ring_same _ _ _ 63 50 _ (by omega) (by omega) (bits_lt _ 21 8)
    · rw [State.ring_apart _ _ _ _ _ _ _ _ rfl, State.ring_apart _ _ _ _ _ _ _ _ rfl]
      exact State.ring_same _ _ _ 35 22 _ (by omega) (by omega) (bits_lt _ 35 22)
    · have hb18 := ringsOf_lt p b hb
      rw [State.ring_other _ p b r _ _ _ _ _ hb18 hr18 hne.symm, State.ring_other _ p b r _ _ _ _ _ hb18 hr18 hne.symm,
        State.ring_other _ p b r _ _ _ _ _ hb18 hr18 hne.symm, State.ring_other _ p b r _ _ _ _ _ hb18 hr18 hne.symm,
        State.ring_other _ p b r _ _ _ _ _ hb18 hr18 hne.symm, State.ring_other _ p b r _ _ _ _ _ hb18 hr18 hne.symm]
      exact hP

/-- An engine of another major version fails the port (R387). -/
theorem engineDetected_refused (s : State) (p : Nat) (e : EngineRecord) (hp : p < 14) (h1 : s.phase p = 1)
    (hmajor : bits e.caps 63 56 ≠ 1)
    (t : State) (ht : engineDetected p e s = t) : t.phase p = 8 ∧ t.get (F.OPT_STATE_FAIL_REASON p) = 2
      ∧ t.get (F.UNIT_STATE_STATE (entPort p)) = 4 := by
  obtain ⟨x, hx⟩ : ∃ x : State, t = x.portFail p 2 := by
    rw [← ht, s.engineDetected_detect p e h1]
    dsimp only
    rw [if_pos hmajor]
    exact ⟨_, rfl⟩
  obtain ⟨h1, h2, h3, -, -⟩ := x.portFail_effect p 2 hp (by omega) t hx.symm
  exact ⟨h1, h2, h3⟩

/-- The step of a lane as the equalisation ends. -/
def State.eqLane (s : State) (p : Nat) (refs : List Nat) (l : Nat) : State :=
  (s.modLane p l fun r => { r with offLevel := refs.getD (1 + l) 0, refPower := refs.getD (10 + l) 0, refFar := 0 }).set
    (F.LANE_MARGIN_SNAP_REF p l) (refs.getD (19 + l) 0)

theorem margin_addr (p l : Nat) : A.LANE_MARGIN_SNAP p l = optReg p + (0x380 + 0x8 * l) := Nat.add_assoc _ _ _

/-- The equalisation ends (R387). -/
theorem eqDone_effect (s : State) (p : Nat) (refs : List Nat) (hp : p < s.opt.length) (h5 : s.phase p = 5) (t : State)
    (ht : eqDone p refs s = t) : t.phase p = 6
      ∧ (∀ r ∈ ringsOf p, s.get (ringLocked p r) = 1 → t.get (ringTrained p r) = s.get (ringCode p r))
      ∧ (∀ l < laneCount p, t.get (F.LANE_MARGIN_SNAP_REF p l) = refs.getD (19 + l) 0 % 65536) ∧ (t.optic p).laserRef = refs.getD 0 0 :=
          by
  have h9 := laneCount_le p
  obtain ⟨x, hx⟩ : ∃ x, (ringsOf p).foldl (fun s r => if s.on (ringField p r 0 0) then s.set (ringField p r 49 36)
    (s.get (ringField p r 63 50)) else s) s = x := ⟨_, rfl⟩
  obtain ⟨y, hy⟩ : ∃ y, (List.range (laneCount p)).foldl (fun s l => s.eqLane p refs l) x = y := ⟨_, rfl⟩
  obtain ⟨z, hz⟩ : ∃ z, y.modOptic p (fun o => { o with laserRef := refs.getD 0 0, monDrops := [], marDrops := [] }) = z := ⟨_, rfl⟩
  have heq : t = z.setPhase p 6 := by
    rw [← ht, eqDone, if_pos h5]
    simp only [ringLocked_eq, ringCode_eq, ringTrained_eq]
    rw [hx, ← hz, ← hy]
    rfl
  have hlen : y.opt.length = s.opt.length := by
    have hxopt : x.opt = s.opt := by
      rw [← hx]
      refine List.foldlRecOn (motive := fun t : State => t.opt = s.opt) _ _ rfl fun v hv r _ => ?_
      split
      · exact hv
      · exact hv
    rw [← hy, ← hxopt]
    exact List.foldlRecOn (motive := fun t : State => t.opt.length = x.opt.length) _ _ rfl fun v hv l _ => List.length_set.trans hv
  have hlane (v : State) (l : Nat) (g : Field) (k : Nat) (hg : g.addr = optReg p + k) (hne : k ≠ 0x380 + 0x8 * l) :
      (v.eqLane p refs l).get g = v.get g := by
    rw [State.eqLane, State.get_set_page _ p _ g _ _ k (margin_addr p l) hg hne]
    exact v.get_modOptic p _ g
  have hty (g : Field) (k : Nat) (hg : g.addr = optReg p + k) (h10 : k ≠ 0x10) : t.get g = y.get g := by
    rw [heq, State.setPhase_page _ p 6 g k hg h10, ← hz, State.get_modOptic]
  refine ⟨heq ▸ (State.setPhase_effect _ p 6 (by omega)).1, fun r hr hlock => ?_, fun l hl => ?_, ?_⟩
  · have hr18 := ringsOf_lt p r hr
    have hoff := ringOff_range r hr18
    rw [ringLocked_eq] at hlock
    rw [ringTrained_eq, ringCode_eq, hty _ (ringOff r) rfl (by omega)]
    have hyx : y.get (ringField p r 49 36) = x.get (ringField p r 49 36) := by
      rw [← hy]
      refine List.foldlRecOn (motive := fun t : State => t.get (ringField p r 49 36) = x.get (ringField p r 49 36)) _ _ rfl fun v hv l hl
          => ?_
      rw [hlane v l _ (ringOff r) rfl (by omega), hv]
    rw [hyx, ← hx]
    have hstep (v : State) (b : Nat) (hi lo : Nat) (h : (ringField p r 49 36).apart (ringField p r hi lo) = true) (hb : b < 18) :
        (if v.on (ringField p b 0 0) then v.set (ringField p b 49 36) (v.get (ringField p b 63 50)) else v).get (ringField p r hi lo)
          = v.get (ringField p r hi lo) := by
      split
      · by_cases hbr : r = b
        · rw [← hbr]
          exact State.ring_apart _ _ _ _ _ _ _ _ h
        · exact State.ring_other _ p b r _ _ _ _ _ hb hr18 hbr
      · rfl
    refine foldl_reaches _ (fun v => v.get (ringField p r 0 0) = 1 ∧ v.get (ringField p r 63 50) = s.get (ringField p r 63 50))
      (fun v => v.get (ringField p r 49 36) = s.get (ringField p r 63 50)) _ r hr (fun v b hb hI => ?_) (fun v hI => ?_)
      (fun v b hb hne _ hP => ?_) s ⟨hlock, rfl⟩
    · have hb18 := ringsOf_lt p b hb
      rw [hstep v b 0 0 rfl hb18, hstep v b 63 50 rfl hb18]
      exact hI
    · rw [v.on_of_one _ hI.1, if_pos rfl, hI.2]
      exact State.ring_same _ _ _ 49 36 _ (by omega) (by omega) (bits_lt _ 63 50)
    · split
      · rw [State.ring_other _ p b r _ _ _ _ _ (ringsOf_lt p b hb) hr18 hne.symm]
        exact hP
      · exact hP
  · rw [hty _ _ (margin_addr p l) (by omega), ← hy]
    refine foldl_reaches _ (fun _ => True) (fun v => v.get (F.LANE_MARGIN_SNAP_REF p l) = refs.getD (19 + l) 0 % 65536) _ l
      (List.mem_range.mpr hl) (fun _ _ _ _ => trivial) (fun v _ => ?_) (fun v b hb hne _ hP => ?_) x trivial
    · exact State.get_set_self _ _ _ (show 32 ≤ 47 by omega) (show 47 < 64 by omega)
    · rw [hlane v b _ _ (margin_addr p l) (by omega)]
      exact hP
  · have hzo : z.optic p = { y.optic p with laserRef := refs.getD 0 0, monDrops := [], marDrops := [] } :=
      hz ▸ y.optic_modOptic p _ (by omega)
    rw [heq, State.setPhase, State.optic_modOptic _ _ _ (by rw [State.set_opt, ← hz, State.modOptic_length]; omega)]
    exact congrArg Optic.laserRef hzo

/-- The far end's versions agree. -/
theorem State.versionsIn_agreed (s : State) (p tab m n : Nat) (hagree : agreeVersion spokeTab tab = some (m, n)) (t : State)
    (ht : s.versionsIn p tab = t) : t.get (F.LINK_VER_MAJOR p) = m ∧ t.get (F.LINK_VER_MINOR p) = n ∧ t.get (F.LINK_VER_VALID p) = 1
      ∧ (∀ (g : Field) (k : Nat), g.addr = optReg p + k → k ≠ 0x48 → t.get g = s.get g) ∧ t.opt = s.opt := by
  obtain ⟨hm, hn⟩ := agreeVersion_lt _ _ _ _ hagree
  have heq : t = (((s.set (F.LINK_VER_MAJOR p) m).set (F.LINK_VER_MINOR p) n).set (F.LINK_VER_FAR_TAB p) tab).set (F.LINK_VER_VALID p)
      1 := by
    rw [← ht, State.versionsIn, hagree]
  rw [heq]
  refine ⟨?_, ?_, State.get_set_fits _ _ _ rfl, fun g k hg hk => ?_, rfl⟩
  · rw [State.get_set_apart _ _ _ _ rfl, State.get_set_apart _ _ _ _ rfl, State.get_set_apart _ _ _ _ rfl]
    exact State.get_set_lt _ _ _ (show 48 ≤ 55 by omega) (show 55 < 64 by omega) (hm.trans (show 8 < 2 ^ (55 + 1 - 48) by decide))
  · rw [State.get_set_apart _ _ _ _ rfl, State.get_set_apart _ _ _ _ rfl]
    exact State.get_set_lt _ _ _ (show 40 ≤ 47 by omega) (show 47 < 64 by omega) (hn.trans (show 16 < 2 ^ (47 + 1 - 40) by decide))
  · rw [State.get_set_page _ p _ g _ 0x48 k rfl hg hk, State.get_set_page _ p _ g _ 0x48 k rfl hg hk,
      State.get_set_page _ p _ g _ 0x48 k rfl hg hk, State.get_set_page _ p _ g _ 0x48 k rfl hg hk]

/-- A Spoke port enters SERVICE. -/
theorem State.portService_effect (s : State) (p : Nat) (hp : p < 12) (t : State) (ht : s.portService p = t) : t.phase p = 7
      ∧ t.get (F.OPT_STATE_FAIL_REASON p) = 0 ∧ t.get (F.UNIT_STATE_STATE (entPort p)) = 2
      ∧ ∀ (g : Field), g.addr = A.LINK_VER p → t.get g = s.get g := by
  obtain ⟨x, hx⟩ : ∃ x, ((s.setPhase p 7).set (F.OPT_STATE_TRAIN_EPOCHS p) (s.optic p).trainEpochs).set (F.OPT_STATE_FAIL_REASON p) 0 =
      x :=
    ⟨_, rfl⟩
  obtain ⟨y, hy⟩ : ∃ y, x.setUnit (entPort p) usReady = y := ⟨_, rfl⟩
  obtain ⟨z, hz⟩ : ∃ z, (y.post (dieOfPort p) (.portUp p)).modOptic p
      (fun o => { o with missSlots := 0, linkFailed := false, reports := [] }) = z :=
    ⟨_, rfl⟩
  obtain ⟨w, hw⟩ : ∃ w, (match (s.optic p).farIdent with
      | some w => ((z.set (F.SPK_STATE_FAR_ID p) (bits w 47 32)).set (F.SPK_STATE_FAR_PORT p) (bits w 59 56)).set
          (F.SPK_STATE_FAR_VALID p) (bits w 55 55)
      | none => z.set (F.SPK_STATE_FAR_VALID p) 0) = w := ⟨_, rfl⟩
  have heq : t = (w.portFresh p).pumpAll := by
    rw [← ht, ← hw, ← hz, ← hy, ← hx, State.portService]
    exact if_pos hp
  have hspk : A.SPK_STATE p = optReg p + 0x808 := by
    rw [optReg, if_pos hp]
    rfl
  have hwz (g : Field) (hg : g.addr ≠ A.SPK_STATE p) : w.get g = z.get g := by
    rw [← hw]
    split
    · rw [State.get_set_ne _ _ _ _ hg, State.get_set_ne _ _ _ _ hg, State.get_set_ne _ _ _ _ hg]
    · exact State.get_set_ne _ _ _ _ hg
  have hwt : PortKept [] w t := heq ▸ ((PortKept.refl [] w).portFresh p).pumpAll
  have hxy : PortKept [] x (y.post (dieOfPort p) (.portUp p)) := hy ▸ ((PortKept.refl [] x).setUnit p usReady (by omega)).post _ _
  have hpage (g : Field) (k : Nat) (hg : g.addr = optReg p + k) (hk : k < 0x800) : t.get g = x.get g := by
    rw [hwt.get g k p (by omega) (by omega) hg List.not_mem_nil, hwz g (by rw [hg, hspk]; omega), ← hz, State.get_modOptic,
      hxy.get g k p (by omega) (by omega) hg List.not_mem_nil]
  refine ⟨?_, ?_, ?_, fun g hg => ?_⟩
  · rw [State.phase, hpage _ 0x10 rfl (by omega), ← hx, State.get_set_apart _ _ _ _ rfl, State.get_set_apart _ _ _ _ rfl]
    exact (s.setPhase_effect p 7 (by omega)).1
  · rw [hpage _ 0x10 rfl (by omega), ← hx]
    exact State.get_set_fits _ _ _ rfl
  · have hunit : y.get (F.UNIT_STATE_STATE (entPort p)) = 2 := hy ▸ x.setUnit_port p usReady (by omega) (by decide)
    have hz' : z.get (F.UNIT_STATE_STATE (entPort p)) = 2 := by
      rw [← hz, State.get_modOptic, (State.post_frame _ _ _).get _ ?_, hunit]
      exact List.mem_singleton.not.mpr (portUnit_ne p _ (by omega) (by decide))
    have hfresh : (w.portFresh p).get (F.UNIT_STATE_STATE (entPort p)) = w.get (F.UNIT_STATE_STATE (entPort p)) :=
      State.get_congr _ (State.reg_congr _ rfl rfl rfl rfl)
    rw [heq, (State.pumpAll_frame _).get _ (portUnit_drop p (by omega)), hfresh, hwz _ (portUnit_ne p _ (by omega) (by
        rw [hspk]
        have hlow := optReg_low p
        omega)), hz']
  · rw [hpage g 0x48 hg (by omega), ← hx, State.get_set_page _ p _ g _ 0x10 0x48 rfl hg (by omega),
      State.get_set_page _ p _ g _ 0x10 0x48 rfl hg (by omega), State.setPhase_page _ p 7 g 0x48 hg (by omega)]

/-- The versions agree and the port enters SERVICE (R387, R389). -/
theorem capsAgreed_effect (s : State) (p : Nat) (caps : Word) (m n : Nat) (hp : p < 12) (h6 : s.phase p = 6)
    (hagree : agreeVersion spokeTab (bits caps 31 0) = some (m, n)) (hdelay : s.get (F.SPK_CAD_DELAY_VALID p) = 1)
    (hsent : (s.optic p).doneSent = true) (hfar : (s.optic p).farDone = true) (t : State) (ht : capsAgreed p caps s = t) :
    t.phase p = 7 ∧ t.get (F.UNIT_STATE_STATE (entPort p)) = 2 ∧ t.get (F.LINK_VER_MAJOR p) = m ∧ t.get (F.LINK_VER_MINOR p) = n
      ∧ t.get (F.LINK_VER_VALID p) = 1 ∧ t.get (F.OPT_STATE_FAIL_REASON p) = 0 := by
  obtain ⟨x, hx⟩ : ∃ x, s.versionsIn p (bits caps 31 0) = x := ⟨_, rfl⟩
  obtain ⟨x1, x2, x3, x4, x5⟩ := s.versionsIn_agreed p _ m n hagree x hx
  have hxoptic : x.optic p = s.optic p := by rw [State.optic, x5, State.optic]
  have heq : x.portService p = t := by
    rw [← ht, capsAgreed, if_pos h6]
    dsimp only
    rw [hx, if_pos ⟨(x4 _ 0x10 rfl (by omega)).trans h6, x.on_of_one _ ((x4 _ 0 rfl (by omega)).trans hdelay), hxoptic ▸ hsent, hxoptic ▸
        hfar⟩]
  obtain ⟨h1, h2, h3, h4⟩ := x.portService_effect p hp t heq
  exact ⟨h1, h3, (h4 _ rfl).trans x1, (h4 _ rfl).trans x2, (h4 _ rfl).trans x3, h2⟩

/-- The versions do not agree (R389). -/
theorem capsAgreed_refused (s : State) (p : Nat) (caps : Word) (hp : p < 12) (h6 : s.phase p = 6)
    (hnone : agreeVersion spokeTab (bits caps 31 0) = none) (t : State) (ht : capsAgreed p caps s = t) :
    t.phase p = 8 ∧ t.get (F.OPT_STATE_FAIL_REASON p) = 8 ∧ t.get (F.UNIT_STATE_STATE (entPort p)) = 4 := by
  obtain ⟨x, hx⟩ : ∃ x : State, s.versionsIn p (bits caps 31 0) = x.portFail p 8 := by
    rw [State.versionsIn, hnone]
    exact ⟨_, rfl⟩
  obtain ⟨h1, h2, h3, -, -⟩ := x.portFail_effect p 8 (by omega) (by omega) _ rfl
  have heq : x.portFail p 8 = t := by
    rw [← ht, capsAgreed, if_pos h6]
    dsimp only
    rw [hx, if_neg (fun h => by omega)]
  rw [← heq]
  exact ⟨h1, h2, h3⟩

/-- A phase takes too long (R387). -/
theorem trainPhaseTimeout_effect (s : State) (p : Nat) (hp : p < 14) (hlen : s.opt.length = 14) (h1 : 1 ≤ s.phase p) (h6 : s.phase p ≤ 6)
    (hlimit : phaseLimit (s.phase p) ≤ (s.optic p).phaseEpochs) (hready : p < 12 ∨ (s.ck (p - 12)).refused = false) (t : State)
    (ht : trainPhaseTimeout p s = t) :
    (s.get (F.OPT_STATE_ATTEMPTS p) < 2 → (s.optic p).tripped = false → t.phase p = 1
        ∧ t.get (F.OPT_STATE_ATTEMPTS p) = s.get (F.OPT_STATE_ATTEMPTS p) + 1 ∧ t.get (F.UNIT_STATE_STATE (entPort p)) = 1)
      ∧ (2 ≤ s.get (F.OPT_STATE_ATTEMPTS p) → t.phase p = 8 ∧ t.get (F.OPT_STATE_FAIL_REASON p) = phaseReason (s.phase p)
        ∧ t.get (F.UNIT_STATE_STATE (entPort p)) = 4) := by
  obtain ⟨x, hx⟩ : ∃ x, (s.bump (F.OPT_STATE_ATTEMPTS p)).bump (F.OPT_ERR_TRAIN_FAIL p) = x := ⟨_, rfl⟩
  have hatt : x.get (F.OPT_STATE_ATTEMPTS p) = if s.get (F.OPT_STATE_ATTEMPTS p) = 127 then 127 else s.get (F.OPT_STATE_ATTEMPTS p) + 1 :=
      by
    rw [← hx, State.bump, State.add, State.get_set_page _ p _ _ _ 0x30 0x10 rfl rfl (by omega),
      State.get_bump _ _ (show 41 ≤ 47 by omega) (show 47 < 64 by omega)]
    by_cases h : s.get (F.OPT_STATE_ATTEMPTS p) = 127
    · rw [if_pos h, if_pos (show s.get (F.OPT_STATE_ATTEMPTS p) = (F.OPT_STATE_ATTEMPTS p).max from h), h]
    · rw [if_neg h, if_neg (show ¬ s.get (F.OPT_STATE_ATTEMPTS p) = (F.OPT_STATE_ATTEMPTS p).max from h)]
  have hrefused : ¬ (12 ≤ p ∧ (s.ck (p - 12)).refused = true) := fun h => by
    rcases hready with h12 | hr
    · omega
    · rw [hr] at h
      exact absurd h.2 (by decide)
  have heq : t = if 3 ≤ x.get (F.OPT_STATE_ATTEMPTS p) then x.portFail p (phaseReason (s.phase p)) else x.enterDetect p := by
    rw [← ht, trainPhaseTimeout]
    dsimp only
    rw [if_pos ⟨h1, h6, hlimit, hrefused⟩, hx]
  have hxopt : x.opt = s.opt := by rw [← hx, State.bump_opt, State.bump_opt]
  refine ⟨fun hfew htrip => ?_, fun hmany => ?_⟩
  · rw [if_neg (by omega)] at hatt
    rw [if_neg (by omega)] at heq
    obtain ⟨d1, d2, -, d4, -⟩ := x.enterDetect_starts p hp (by rw [hxopt, hlen]) (by rw [State.optic, hxopt]; exact htrip) t heq.symm
    exact ⟨d1, d4.trans hatt, d2⟩
  · have hreason : ∀ k ≤ 6, phaseReason k < 16 := by decide
    rw [if_pos (by rw [hatt]; split <;> omega)] at heq
    obtain ⟨d1, d2, d3, -, -⟩ := x.portFail_effect p _ hp (hreason _ h6) t heq.symm
    exact ⟨d1, d2, d3⟩

/-- The version that two ends agree on (R389): of the majors that both have, the highest, with the smaller minor. -/
theorem agreeVersion_spec (loc far : Nat) (hcommon : ∃ m, m < 8 ∧ nbits loc (4 * m + 3) (4 * m) ≠ 15 ∧ nbits far (4 * m + 3) (4 * m) ≠ 15)
    :
    ∃ m n, agreeVersion loc far = some (m, n) ∧ m < 8 ∧ n = min (nbits loc (4 * m + 3) (4 * m)) (nbits far (4 * m + 3) (4 * m))
      ∧ nbits loc (4 * m + 3) (4 * m) ≠ 15 ∧ nbits far (4 * m + 3) (4 * m) ≠ 15
      ∧ ∀ k, m < k → k < 8 → nbits loc (4 * k + 3) (4 * k) = 15 ∨ nbits far (4 * k + 3) (4 * k) = 15 := by
  have hfind : ∀ j, (∃ m < j, nbits loc (4 * m + 3) (4 * m) ≠ 15 ∧ nbits far (4 * m + 3) (4 * m) ≠ 15) →
      ∃ m < j, (List.range j).reverse.find? (fun m => nbits loc (4 * m + 3) (4 * m) != 0xF && nbits far (4 * m + 3) (4 * m) != 0xF) = some
          m
        ∧ nbits loc (4 * m + 3) (4 * m) ≠ 15 ∧ nbits far (4 * m + 3) (4 * m) ≠ 15
        ∧ ∀ k, m < k → k < j → nbits loc (4 * k + 3) (4 * k) = 15 ∨ nbits far (4 * k + 3) (4 * k) = 15 := by
    intro j
    induction j with
    | zero => exact fun ⟨m, hm, _⟩ => absurd hm (Nat.not_lt_zero _)
    | succ j ih =>
      rintro ⟨m, hm, h⟩
      rw [List.range_succ, List.reverse_append, List.reverse_singleton, List.singleton_append, List.find?_cons]
      by_cases hj : nbits loc (4 * j + 3) (4 * j) ≠ 15 ∧ nbits far (4 * j + 3) (4 * j) ≠ 15
      · have hb : (nbits loc (4 * j + 3) (4 * j) != 0xF && nbits far (4 * j + 3) (4 * j) != 0xF) = true := by simpa using hj
        rw [hb]
        exact ⟨j, Nat.lt_succ_self j, rfl, hj.1, hj.2, fun k hk hk' => by omega⟩
      · have hb : (nbits loc (4 * j + 3) (4 * j) != 0xF && nbits far (4 * j + 3) (4 * j) != 0xF) = false := by
          rw [← Bool.not_eq_true]
          simpa using hj
        have hmj : m < j := Nat.lt_of_le_of_ne (Nat.le_of_lt_succ hm) fun e => hj (e ▸ h)
        obtain ⟨i, hi, hfound, h1, h2, h3⟩ := ih ⟨m, hmj, h⟩
        rw [hb]
        refine ⟨i, hi.trans (Nat.lt_succ_self j), hfound, h1, h2, fun k hk hk' => ?_⟩
        rcases Nat.lt_succ_iff_lt_or_eq.mp hk' with hlt | rfl
        · exact h3 k hk hlt
        · by_contra hno
          exact hj (by simpa [not_or] using hno)
  obtain ⟨m, hm, hfound, h1, h2, h3⟩ := hfind 8 hcommon
  exact ⟨m, _, by rw [agreeVersion, hfound]; rfl, hm, rfl, h1, h2, h3⟩

/-- Settles O54, phase by phase, through what each leaves of the port's page. -/
theorem portTraining : Obligations.PortTraining := by
  unfold Obligations.PortTraining
  intro s p hs hshape hp works
  have hlen : s.opt.length = 14 := hshape.2.2.2.2.2.1
  have hlive (f : State → State) : lively s p 14 f = .next (f s) := lively_powered s p 14 f hp hs.1 hs.2
  have hspoke (hp12 : p < 12) (f : State → State) : lively s p 12 f = .next (f s) := lively_powered s p 12 f hp12 hs.1 hs.2
  refine ⟨fun e h1 hmajor => ?_, fun e h1 hmajor => ?_, fun h2 => ?_, fun locks h3 hneed => ?_, fun locks h4 hneed => ?_, fun refs h5 =>
      ?_,
    fun caps m n hp12 h6 hagree hdelay hsent hfar => ?_, fun caps hp12 h6 hnone => ?_, fun h1 h6 hlimit hready => ?_,
    agreeVersion_spec spokeTab⟩
  · obtain ⟨d1, d2, d3, d4, d5⟩ := engineDetected_effect s p e h1 hmajor _ rfl
    exact ⟨_, hlive (engineDetected p e), d1, d2, d3, d4, d5, ((Keeps.refl s).engineDetected p e).bytes⟩
  · obtain ⟨d1, d2, d3⟩ := engineDetected_refused s p e hp h1 hmajor _ rfl
    exact ⟨_, hlive (engineDetected p e), d1, d2, d3, ((Keeps.refl s).engineDetected p e).bytes⟩
  · exact (hlive (laserStable p)).trans (congrArg _ (if_pos h2))
  · obtain ⟨d1, d2, d3⟩ := txAcqDone_effect s p locks h3 hneed _ rfl
    exact ⟨_, hlive (txAcqDone p locks), d1, d2, d3, ((Keeps.refl s).txAcqDone p locks).bytes⟩
  · obtain ⟨d1, d2, d3, d4, d5⟩ := rxAcqDone_effect s p locks h4 hneed _ rfl
    exact ⟨_, hlive (rxAcqDone p locks), d1, d2, d3, d4, d5, ((Keeps.refl s).rxAcqDone p locks).bytes⟩
  · obtain ⟨d1, d2, d3, d4⟩ := eqDone_effect s p refs (by omega) h5 _ rfl
    exact ⟨_, hlive (eqDone p refs), d1, d2, d3, d4, ((Keeps.refl s).eqDone p refs).bytes⟩
  · obtain ⟨d1, d2, d3, d4, d5, d6⟩ := capsAgreed_effect s p caps m n hp12 h6 hagree hdelay hsent hfar _ rfl
    exact ⟨_, hspoke hp12 (capsAgreed p caps), d1, d2, d3, d4, d5, d6, ((Keeps.refl s).capsAgreed p caps).bytes⟩
  · obtain ⟨d1, d2, d3⟩ := capsAgreed_refused s p caps hp12 h6 hnone _ rfl
    exact ⟨_, hspoke hp12 (capsAgreed p caps), d1, d2, d3, ((Keeps.refl s).capsAgreed p caps).bytes⟩
  · obtain ⟨d1, d2⟩ := trainPhaseTimeout_effect s p hp hlen h1 h6 hlimit hready _ rfl
    have hbytes := ((Keeps.refl (wr := false) s).trainPhaseTimeout p).bytes
    refine ⟨fun hfew htrip => ?_, fun hmany => ?_⟩
    · obtain ⟨e1, e2, e3⟩ := d1 hfew htrip
      exact ⟨_, hlive (trainPhaseTimeout p), e1, e2, e3, hbytes⟩
    · obtain ⟨e1, e2, e3⟩ := d2 hmany
      exact ⟨_, hlive (trainPhaseTimeout p), e1, e2, e3, hbytes⟩

end Sys2Proof.Machine

/-! Link control words, steers and lane declarations of a port (O52). -/
namespace Sys2Proof.Machine

/-! ## Words received (R366) -/

/-- A word that passes its check, with no report, no beacon and no steer. -/
theorem lcwReceive_plain (s : State) (p lane cycle : Nat) (w : BitVec 128) (corr : Nat) (hlane : lane < laneCount p) (h4 : 4 ≤ s.phase p)
    (h7 : s.phase p ≤ 7) (hsync : nbits w.toNat 127 120 = 0x5A) (hcrc : nbits w.toNat 79 72 = crc8 w.toNat)
    (hkind : nbits w.toNat 115 112 = 1) (hop : nbits w.toNat 111 108 = 0) (hreport : nbits w.toNat 99 96 = 0) :
    lcwReceive p lane cycle w corr 0 s =
      ((((s.modLane p lane fun r => { r with came := true, corr := r.corr + corr }).set (F.LANE_STATE_LAST_ID p lane)
        (nbits w.toNat 119 116)).modLane p lane fun r =>
          { r with seen := true, wrong := nbits w.toNat 119 116 != lane }).takeBeacon p false) := by
  have hrep (x : State) : x.reportIn p 0 (nbits w.toNat 103 100) (nbits w.toNat 95 80) = x := by
    unfold State.reportIn
    simp
  have hsteer (x : State) : x.steerIn p 0 (nbits w.toNat 107 104) = x := if_pos (.inl rfl)
  have hgood : ¬ (nbits w.toNat 127 120 ≠ 0x5A ∨ nbits w.toNat 79 72 ≠ crc8 w.toNat) := by simp [hsync, hcrc]
  have hcodewords (c : Prop) : ¬ ((0 : Nat) ≠ 0 ∧ c) := fun h => h.1 rfl
  unfold lcwReceive
  dsimp only
  rw [if_neg (by omega), if_neg (hcodewords _), if_neg hgood, hop, hreport, hrep, hsteer, ite_self, hkind]
  rfl

/-- A word that fails its check counts against its lane. -/
theorem lcwReceive_bad (s : State) (p lane cycle : Nat) (w : BitVec 128) (corr : Nat) (hlane : lane < laneCount p) (h4 : 4 ≤ s.phase p)
    (h7 : s.phase p ≤ 7) (hbad : nbits w.toNat 127 120 ≠ 0x5A ∨ nbits w.toNat 79 72 ≠ crc8 w.toNat) :
    lcwReceive p lane cycle w corr 0 s =
      (((s.modLane p lane fun r => { r with came := true, corr := r.corr + corr }).bump (F.LANE_STATE_LCW_BAD p lane)).takeBeacon p
        false) := by
  have hcodewords (c : Prop) : ¬ ((0 : Nat) ≠ 0 ∧ c) := fun h => h.1 rfl
  unfold lcwReceive
  dsimp only
  rw [if_neg (by omega), if_neg (hcodewords _), if_pos hbad]
  rfl

/-! ## Words sent -/

theorem State.sendLcws_effect (s : State) (p : Nat) (hp : p < s.opt.length) : (∀ g : Field, (s.sendLcws p).get g = s.get g)
    ∧ ((s.sendLcws p).optic p).steerSlot = (s.optic p).steerSlot := by
  have hcaps : (∀ g : Field, (s.capsBody p).2.get g = s.get g) ∧ ((s.capsBody p).2.optic p).steerSlot = (s.optic p).steerSlot
      ∧ p < (s.capsBody p).2.opt.length := by
    unfold State.capsBody
    dsimp only
    split
    · exact ⟨fun g => s.get_modOptic p (fun o => { o with echoOwed := none }) g, by rw [s.optic_setOptic p _ hp],
        hp.trans_eq List.length_set.symm⟩
    · split
      · exact ⟨fun g => s.get_modOptic p (fun o => { o with pingSeq := (o.pingSeq + 1) % 2 ^ 32, pingSlot := s.slot, pingTick := s.now })
          g,
          by rw [s.optic_setOptic p _ hp], hp.trans_eq List.length_set.symm⟩
      · exact ⟨fun _ => rfl, rfl, hp⟩
  obtain ⟨body, s1, hs1, hget, hslot, hlen⟩ : ∃ body s1, (if 12 ≤ p then (0, s) else if s.phase p = 7 then (s.beaconOut.toNat, s)
      else if s.phase p = 6 then s.capsBody p else (0, s)) = (body, s1) ∧ (∀ g : Field, s1.get g = s.get g)
      ∧ (s1.optic p).steerSlot = (s.optic p).steerSlot ∧ p < s1.opt.length := by
    split
    · exact ⟨_, _, rfl, fun _ => rfl, rfl, hp⟩
    · split
      · exact ⟨_, _, rfl, fun _ => rfl, rfl, hp⟩
      · split
        · exact ⟨_, _, rfl, hcaps⟩
        · exact ⟨_, _, rfl, fun _ => rfl, rfl, hp⟩
  unfold State.sendLcws
  dsimp only
  rw [hs1]
  dsimp only
  split
  · refine ⟨fun g => (s1.get_modOptic p (fun o => { o with doneSent := true }) g).trans (hget g), ?_⟩
    exact (congrArg Optic.steerSlot (s1.optic_modOptic p (fun o => { o with doneSent := true }) hlen)).trans hslot
  · exact ⟨hget, hslot⟩

theorem State.resend_effect (s : State) (p : Nat) (hp : p < s.opt.length) : (∀ g : Field, (s.resend p).get g = s.get g)
    ∧ ((s.resend p).optic p).steerSlot = (s.optic p).steerSlot := by
  unfold State.resend
  split
  · exact s.sendLcws_effect p hp
  · exact ⟨fun _ => rfl, rfl⟩

/-! ## Steers (R376, R377) -/

/-- The steer engine works on an operation: its status, and the slot of its marker. -/
structure Steers (s : State) (p op k : Nat) : Prop where
  state : s.get (F.SPK_STEER_STATUS_STATE p) = 1
  op : s.get (F.SPK_STEER_STATUS_OP p) = op
  lane : s.get (F.SPK_STEER_STATUS_LANE p) = k
  retries : s.get (F.SPK_STEER_STATUS_RETRIES p) = 0

theorem Steers.congr {s t : State} {p op k : Nat} (h : Steers s p op k)
    (ht : ∀ g : Field, g.addr = A.SPK_STEER_STATUS p → t.get g = s.get g) :
    Steers t p op k :=
  ⟨(ht _ rfl).trans h.state, (ht _ rfl).trans h.op, (ht _ rfl).trans h.lane, (ht _ rfl).trans h.retries⟩

theorem State.steerRefuse_effect (s : State) (p op k src : Nat) (hop : op < 16) (hk : k < 16) (t : State)
    (ht : s.steerRefuse p op k src = t) : t.get (F.SPK_STEER_STATUS_STATE p) = 3 ∧ t.get (F.SPK_STEER_STATUS_OP p) = op
      ∧ t.get (F.SPK_STEER_STATUS_LANE p) = k ∧ (∀ g : Field, g.addr ≠ A.SPK_STEER_STATUS p → t.get g = s.get g) ∧ t.opt = s.opt
      ∧ t.cad = s.cad := by
  subst ht
  unfold State.steerRefuse
  refine ⟨State.get_set_fits _ _ _ rfl, ?_, ?_, fun g hg => ?_, rfl, rfl⟩
  · rw [State.get_set_apart _ _ _ _ rfl, State.get_set_apart _ _ _ _ rfl, State.get_set_apart _ _ _ _ rfl]
    exact State.get_set_lt _ _ _ (show 60 ≤ 63 by omega) (show 63 < 64 by omega) hop
  · rw [State.get_set_apart _ _ _ _ rfl, State.get_set_apart _ _ _ _ rfl]
    exact State.get_set_lt _ _ _ (show 56 ≤ 59 by omega) (show 59 < 64 by omega) hk
  · rw [State.get_set_ne _ _ _ _ hg, State.get_set_ne _ _ _ _ hg, State.get_set_ne _ _ _ _ hg,
      State.get_set_ne _ _ _ _ hg]

section
variable (s : State) (p op k src cause : Nat)

/-- A marker that cannot be set is refused. -/
theorem State.startSteer_refused (h : (op = 2 ∧ (s.get (F.OPT_STATE_SPARE_USE p) != k || s.on (F.OPT_STATE_SPARE_PERM p)) = true)
      ∨ (op ≠ 2 ∧ (s.get (F.OPT_STATE_SPARE_USE p) != 0xF || !s.laneOk p 8) = true)) :
    s.startSteer p op k src cause = s.steerRefuse p op k src := by
  rw [State.startSteer]
  dsimp only
  refine if_pos (.inl ?_)
  rcases h with ⟨h2, h⟩ | ⟨h2, h⟩
  · rw [if_pos h2]
    exact h
  · rw [if_neg h2]
    exact h

/-- The marker starts, whatever it is. -/
theorem State.steerMark_effect (hp : p < s.opt.length) (hop : op < 4) (hk : k < 8) (f : Optic → Optic)
    (hf : ∀ o, (f o).steerSlot = s.slot)
    (t : State) (ht : (((s.steerRefuse p op k src).set (F.SPK_STEER_STATUS_STATE p) 1).set (F.SPK_STEER_STATUS_RETRIES p) 0).modOptic p f
        = t) :
    Steers t p op k ∧ (t.optic p).steerSlot = s.slot ∧ (∀ g : Field, g.addr ≠ A.SPK_STEER_STATUS p → t.get g = s.get g)
      ∧ t.opt.length = s.opt.length := by
  obtain ⟨x, hx⟩ : ∃ x, s.steerRefuse p op k src = x := ⟨_, rfl⟩
  obtain ⟨-, hxop, hxk, hxget, hxopt, -⟩ := s.steerRefuse_effect p op k src (by omega) (by omega) x hx
  obtain ⟨y, hy⟩ : ∃ y, (x.set (F.SPK_STEER_STATUS_STATE p) 1).set (F.SPK_STEER_STATUS_RETRIES p) 0 = y := ⟨_, rfl⟩
  have hyopt : y.opt = s.opt := hy ▸ hxopt
  rw [hx, hy] at ht
  subst ht
  simp only [State.get_modOptic]
  refine ⟨⟨?_, ?_, ?_, ?_⟩, ?_, fun g hg => ?_, ?_⟩
  · rw [State.get_modOptic, ← hy, State.get_set_apart _ _ _ _ rfl]
    exact State.get_set_fits _ _ _ rfl
  · rw [State.get_modOptic, ← hy, State.get_set_apart _ _ _ _ rfl, State.get_set_apart _ _ _ _ rfl, hxop]
  · rw [State.get_modOptic, ← hy, State.get_set_apart _ _ _ _ rfl, State.get_set_apart _ _ _ _ rfl, hxk]
  · rw [State.get_modOptic, ← hy]
    exact State.get_set_fits _ _ _ rfl
  · rw [y.optic_modOptic p f (hyopt ▸ hp), hf]
  · rw [← hy, State.get_set_ne _ _ _ _ hg, State.get_set_ne _ _ _ _ hg, hxget g hg]
  · rw [State.modOptic_length, hyopt]

/-- TAKE and SPARE: lane 8 carries lane k. -/
theorem State.startSteer_takes (hp : p < s.opt.length) (hop : op = 1 ∨ op = 3) (hk : k < 8)
    (hidle : s.get (F.OPT_STATE_SPARE_USE p) = 15) (hok : s.laneOk p 8 = true) (t : State) (ht : s.startSteer p op k src cause = t) :
    Steers t p op k ∧ (t.optic p).steerSlot = s.slot ∧ t.get (F.OPT_STATE_SPARE_USE p) = k
      ∧ t.get (F.OPT_STATE_SPARE_PERM p) = (if op = 3 then 1 else 0) ∧ t.get (F.LANE_STATE_ROLE p 8) = k
      ∧ (∀ g : Field, g.addr ≠ A.SPK_STEER_STATUS p → g.addr ≠ A.OPT_STATE p → g.addr ≠ A.LANE_STATE p 8 → t.get g = s.get g)
      ∧ t.opt.length = s.opt.length := by
  have h2 : op ≠ 2 := by omega
  obtain ⟨x, hx⟩ : ∃ x, (((s.steerRefuse p op k src).set (F.SPK_STEER_STATUS_STATE p) 1).set (F.SPK_STEER_STATUS_RETRIES p) 0).modOptic p
    (fun o => { o with steerSlot := s.slot, steerCause := cause, steerLate := o.failTx.any fun x => x.1 == k }) = x := ⟨_, rfl⟩
  obtain ⟨hsteer, hslot, hget, hlen⟩ := s.steerMark_effect p op k src hp (by omega) hk _ (fun _ => rfl) x hx
  have heq : t = ((x.set (F.OPT_STATE_SPARE_USE p) k).set (F.OPT_STATE_SPARE_PERM p) (boolBit (op == 3))).set (F.LANE_STATE_ROLE p 8) k :=
      by
    rw [← ht, State.startSteer]
    dsimp only
    rw [if_neg h2, if_neg (by simp [hidle, hok]; omega), if_neg h2, hx]
  have hpage : A.OPT_STATE p = optReg p + 0x10 ∧ A.SPK_STEER_STATUS p = optReg p + 0x70 ∧ A.LANE_STATE p 8 = optReg p + 0x140 :=
    ⟨rfl, rfl, by rw [laneState_addr]⟩
  obtain ⟨a1, a2, a3⟩ := hpage
  refine ⟨hsteer.congr fun g hg => ?_, ?_, ?_, ?_, ?_, fun g h1 h2 h3 => ?_, by rw [heq]; exact hlen⟩
  · rw [heq, State.get_set_ne _ _ _ _ (show g.addr ≠ A.LANE_STATE p 8 by omega),
      State.get_set_ne _ _ _ _ (show g.addr ≠ A.OPT_STATE p by omega), State.get_set_ne _ _ _ _ (show g.addr ≠ A.OPT_STATE p by omega)]
  · rw [heq]
    exact hslot
  · rw [heq, State.get_set_ne _ _ _ _ (show A.OPT_STATE p ≠ A.LANE_STATE p 8 by omega), State.get_set_apart _ _ _ _ rfl]
    exact State.get_set_lt _ _ _ (show 52 ≤ 55 by omega) (show 55 < 64 by omega) (show k < 16 by omega)
  · rw [heq, State.get_set_ne _ _ _ _ (show A.OPT_STATE p ≠ A.LANE_STATE p 8 by omega)]
    rcases hop with rfl | rfl
    · exact State.get_set_fits _ _ _ rfl
    · exact State.get_set_fits _ _ _ rfl
  · rw [heq]
    exact State.get_set_lt _ _ _ (show 60 ≤ 63 by omega) (show 63 < 64 by omega) (show k < 16 by omega)
  · rw [heq, State.get_set_ne _ _ _ _ h3, State.get_set_ne _ _ _ _ h2, State.get_set_ne _ _ _ _ h2, hget g h1]

/-- RETURN: lane 8 goes on carrying lane k until the marker is acknowledged. -/
theorem State.startSteer_returns (hp : p < s.opt.length) (hk : k < 8) (huse : s.get (F.OPT_STATE_SPARE_USE p) = k)
    (hperm : s.get (F.OPT_STATE_SPARE_PERM p) = 0) (t : State) (ht : s.startSteer p 2 k src cause = t) :
    Steers t p 2 k ∧ (t.optic p).steerSlot = s.slot ∧ (∀ g : Field, g.addr ≠ A.SPK_STEER_STATUS p → t.get g = s.get g)
      ∧ t.opt.length = s.opt.length := by
  refine s.steerMark_effect p 2 k src hp (by omega) hk
    (fun o => { o with steerSlot := s.slot, steerCause := cause, steerLate := o.failTx.any fun x => x.1 == k }) (fun _ => rfl) t ?_
  rw [← ht, State.startSteer]
  dsimp only
  rw [if_pos rfl, if_neg (by simp [huse, State.on_of_zero _ _ hperm]; omega), if_pos rfl]

end

/-! ## The staged steer (R376) -/

section
variable (s : State) (p : Nat)

/-- A staged steer that is due for operation op on lane k. -/
structure SteerDue (op k : Nat) : Prop where
  due : s.stagedDue (A.SPK_STEER_ACT p) = true
  idle : s.get (F.SPK_STEER_STATUS_STATE p) ≠ 1
  service : s.phase p = 7
  ready : s.unitReady (entPort p) = true
  spare : s.spareDue p = false
  op : s.get (F.SPK_STEER_NEXT_OP p) = op
  lane : s.get (F.SPK_STEER_NEXT_LANE p) = k

theorem steer_starts (op k : Nat) (h : SteerDue s p op k) :
    steer p s = ((s.stagedDone (A.SPK_STEER_ACT p)).startSteer p op k 0 (s.optic p).spareCause).resend p := by
  rw [steer, if_pos ⟨h.due, h.idle, h.service, h.ready, h.spare⟩, h.op, h.lane]

/-- What the staged pair leaves of the port. -/
theorem stagedSteer_get (g : Field) (hg : g.addr ≠ A.SPK_STEER_ACT p) :
    (s.stagedDone (A.SPK_STEER_ACT p)).get g = s.get g := s.get_stagedDone_ne _ g hg

theorem steer_takes (op k : Nat) (h : SteerDue s p op k) (hp : p < s.opt.length) (hop : op = 1 ∨ op = 3) (hk : k < 8)
    (hidle : s.get (F.OPT_STATE_SPARE_USE p) = 15) (hok : s.laneOk p 8 = true) (t : State) (ht : steer p s = t) :
    Steers t p op k ∧ (t.optic p).steerSlot = s.slot ∧ t.get (F.OPT_STATE_SPARE_USE p) = k
      ∧ t.get (F.OPT_STATE_SPARE_PERM p) = (if op = 3 then 1 else 0) ∧ t.get (F.LANE_STATE_ROLE p 8) = k
      ∧ t.get (F.SPK_STEER_ACT_ARMED p) = 0 := by
  obtain ⟨x, hx⟩ : ∃ x, s.stagedDone (A.SPK_STEER_ACT p) = x := ⟨_, rfl⟩
  have hxget (g : Field) (hg : g.addr = A.OPT_STATE p) : x.get g = s.get g :=
    hx ▸ stagedSteer_get s p g (by rw [hg, A.OPT_STATE, A.SPK_STEER_ACT]; omega)
  obtain ⟨y, hy⟩ : ∃ y, x.startSteer p op k 0 (s.optic p).spareCause = y := ⟨_, rfl⟩
  have hxlen : x.opt.length = s.opt.length := hx ▸ rfl
  have hxok : x.laneOk p 8 = true := by rw [State.laneOk, hxget _ rfl]; exact hok
  obtain ⟨y1, y2, y3, y4, y5, y6, y7⟩ := x.startSteer_takes p op k 0 _ (hxlen ▸ hp) hop hk ((hxget _ rfl).trans hidle) hxok y hy
  obtain ⟨hget, hslot⟩ := y.resend_effect p (by omega)
  rw [steer_starts s p op k h, hx, hy] at ht
  subst ht
  refine ⟨y1.congr fun g _ => hget g, hslot.trans (y2.trans (hx ▸ rfl)), (hget _).trans y3, (hget _).trans y4, (hget _).trans y5, ?_⟩
  have hne : A.SPK_STEER_ACT p ≠ A.LANE_STATE p 8 := by rw [laneState_addr, A.SPK_STEER_ACT]; omega
  rw [hget, y6 _ (by simp only [F.SPK_STEER_ACT_ARMED, A.SPK_STEER_ACT, A.SPK_STEER_STATUS]; omega)
    (by simp only [F.SPK_STEER_ACT_ARMED, A.SPK_STEER_ACT, A.OPT_STATE]; omega) hne]
  exact hx ▸ s.stagedDone_armed _

theorem steer_returns (k : Nat) (h : SteerDue s p 2 k) (hp : p < s.opt.length) (hk : k < 8)
    (huse : s.get (F.OPT_STATE_SPARE_USE p) = k) (hperm : s.get (F.OPT_STATE_SPARE_PERM p) = 0) (t : State) (ht : steer p s = t) :
    Steers t p 2 k ∧ (t.optic p).steerSlot = s.slot ∧ t.get (F.OPT_STATE_SPARE_USE p) = k := by
  obtain ⟨x, hx⟩ : ∃ x, s.stagedDone (A.SPK_STEER_ACT p) = x := ⟨_, rfl⟩
  have hxget (g : Field) (hg : g.addr = A.OPT_STATE p) : x.get g = s.get g :=
    hx ▸ stagedSteer_get s p g (by rw [hg, A.OPT_STATE, A.SPK_STEER_ACT]; omega)
  obtain ⟨y, hy⟩ : ∃ y, x.startSteer p 2 k 0 (s.optic p).spareCause = y := ⟨_, rfl⟩
  have hxlen : x.opt.length = s.opt.length := hx ▸ rfl
  obtain ⟨y1, y2, y3, y4⟩ := x.startSteer_returns p k 0 _ (hxlen ▸ hp) hk ((hxget _ rfl).trans huse) ((hxget _ rfl).trans hperm) y hy
  obtain ⟨hget, hslot⟩ := y.resend_effect p (by omega)
  rw [steer_starts s p 2 k h, hx, hy] at ht
  subst ht
  refine ⟨y1.congr fun g _ => hget g, hslot.trans (y2.trans (hx ▸ rfl)), ?_⟩
  rw [hget, y3 _ (by simp only [F.OPT_STATE_SPARE_USE, A.SPK_STEER_STATUS, A.OPT_STATE]; omega), hxget _ rfl, huse]

theorem steer_refused (op k : Nat) (h : SteerDue s p op k) (hp : p < s.opt.length) (hop : op = 1 ∨ op = 3)
    (huse : s.get (F.OPT_STATE_SPARE_USE p) ≠ 15) (t : State) (ht : steer p s = t) :
    t.get (F.SPK_STEER_STATUS_STATE p) = 3 ∧ t.get (F.OPT_STATE_SPARE_USE p) = s.get (F.OPT_STATE_SPARE_USE p) := by
  obtain ⟨x, hx⟩ : ∃ x, s.stagedDone (A.SPK_STEER_ACT p) = x := ⟨_, rfl⟩
  have hxget (g : Field) (hg : g.addr = A.OPT_STATE p) : x.get g = s.get g :=
    hx ▸ stagedSteer_get s p g (by rw [hg, A.OPT_STATE, A.SPK_STEER_ACT]; omega)
  have hxuse : x.get (F.OPT_STATE_SPARE_USE p) ≠ 15 := by rw [hxget _ rfl]; exact huse
  obtain ⟨y, hy⟩ : ∃ y, x.steerRefuse p op k 0 = y := ⟨_, rfl⟩
  have hk : k < 16 := h.lane ▸ s.get_lt _
  obtain ⟨y1, -, -, y4, y5, -⟩ := x.steerRefuse_effect p op k 0 (by omega) hk y hy
  obtain ⟨hget, -⟩ := y.resend_effect p (by rw [y5, ← hx]; exact hp)
  rw [steer_starts s p op k h, hx, x.startSteer_refused p op k 0 _ (.inr ⟨by omega, by simp [hxuse]⟩), hy] at ht
  subst ht
  refine ⟨(hget _).trans y1, ?_⟩
  rw [hget, y4 _ (by simp only [F.OPT_STATE_SPARE_USE, A.SPK_STEER_STATUS, A.OPT_STATE]; omega), hxget _ rfl]

end

/-- An autonomous SPARE of the oldest failed lane. -/
theorem autoSpare_takes (s : State) (p k c : Nat) (l : List (Nat × Nat)) (hp : p < s.opt.length)
    (hauto : s.get (F.OPT_CTRL_AUTO_SPARE p) = 1) (hnow : s.now % 256 = 0) (hphase : s.phase p = 7)
    (hstate : s.get (F.SPK_STEER_STATUS_STATE p) ≠ 1) (hfail : (s.optic p).failTx = (k, c) :: l) (hk : k < 8)
    (hidle : s.get (F.OPT_STATE_SPARE_USE p) = 15) (hok : s.laneOk p 8 = true) (t : State) (ht : autoSpare p s = t) :
    Steers t p 3 k ∧ (t.optic p).steerSlot = s.slot ∧ t.get (F.OPT_STATE_SPARE_USE p) = k ∧ t.get (F.OPT_STATE_SPARE_PERM p) = 1
      ∧ t.get (F.LANE_STATE_ROLE p 8) = k := by
  have hat : s.atSlot = true := beq_iff_eq.mpr hnow
  obtain ⟨y, hy⟩ : ∃ y, s.startSteer p 3 k 1 c = y := ⟨_, rfl⟩
  obtain ⟨y1, y2, y3, y4, y5, -, y7⟩ := s.startSteer_takes p 3 k 1 c hp (.inr rfl) hk hidle hok y hy
  obtain ⟨hget, hslot⟩ := y.resend_effect p (by omega)
  rw [autoSpare, if_pos ⟨State.on_of_one _ _ hauto, hat, hphase, hstate⟩, hfail] at ht
  dsimp only at ht
  rw [hy] at ht
  subst ht
  exact ⟨y1.congr fun g _ => hget g, hslot.trans y2, (hget _).trans y3, (hget _).trans y4, (hget _).trans y5⟩

/-- A marker not acknowledged in time is sent again. -/
theorem steerRetry_again (s : State) (p : Nat) (hp : p < s.opt.length) (hstate : s.get (F.SPK_STEER_STATUS_STATE p) = 1)
    (hnow : s.now % 256 = 0) (hslot : (s.optic p).steerSlot + 5 ≤ s.slot) (hretries : s.get (F.SPK_STEER_STATUS_RETRIES p) < 3)
    (t : State) (ht : steerRetry p s = t) :
    t.get (F.SPK_STEER_STATUS_RETRIES p) = s.get (F.SPK_STEER_STATUS_RETRIES p) + 1 ∧ (t.optic p).steerSlot = s.slot
      ∧ t.get (F.OPT_ERR_STEER_RETRY p) = (s.bump (F.OPT_ERR_STEER_RETRY p)).get (F.OPT_ERR_STEER_RETRY p) := by
  have hat : s.atSlot = true := beq_iff_eq.mpr hnow
  obtain ⟨x, hx⟩ : ∃ x, s.bump (F.SPK_STEER_STATUS_RETRIES p) = x := ⟨_, rfl⟩
  obtain ⟨y, hy⟩ : ∃ y, (x.bump (F.OPT_ERR_STEER_RETRY p)).setOptic p { s.optic p with steerSlot := s.slot } = y := ⟨_, rfl⟩
  have heq : t = y.resend p := by
    rw [← ht, steerRetry, if_pos ⟨hstate, hat, hslot⟩, if_pos hretries, hx, hy]
  have hxopt : x.opt = s.opt := hx ▸ s.bump_opt _
  have hyopt : y.opt = s.opt.set p { s.optic p with steerSlot := s.slot } := by
    rw [← hy, State.setOptic, State.bump_opt, hxopt]
  have hyget (g : Field) : y.get g = (x.bump (F.OPT_ERR_STEER_RETRY p)).get g :=
    hy ▸ State.get_congr g (State.reg_congr _ rfl rfl rfl rfl)
  obtain ⟨hget, hslot⟩ := y.resend_effect p (by rw [hyopt, List.length_set]; exact hp)
  have hne : A.OPT_ERR p ≠ A.SPK_STEER_STATUS p := by simp only [A.OPT_ERR, A.SPK_STEER_STATUS]; omega
  subst heq
  refine ⟨?_, ?_, ?_⟩
  · rw [hget, hyget, State.bump, State.add, State.get_set_ne _ _ _ _ hne.symm, ← hx, State.get_bump _ _ (by decide : 40 ≤ 47)
      (by decide : 47 < 64)]
    exact if_neg fun h => absurd (h.symm.trans_lt hretries) (by simp [Field.max, F.SPK_STEER_STATUS_RETRIES])
  · rw [hslot, State.optic, hyopt, getD_set_eq s.opt p p _ {} hp, if_pos rfl]
  · rw [hget, hyget]
    exact State.get_bump_congr s x _ rfl (by rw [← hx, State.bump, State.add, State.get_set_ne _ _ _ _ hne])

/-! ## Lanes declared failed (R372, R378) -/

/-- A received lane fails. -/
theorem State.rxLaneFails_effect (s : State) (p l cause : Nat) (hp : p < s.opt.length) (hl : l < 9)
    (hfail : bitAt (s.optic p).rxFail l = false) (t : State) (ht : s.rxLaneFails p l cause = t) :
    t.get (F.LANE_STATE_HEALTH p l) = 2 ∧ bitAt (t.optic p).rxFail l = true ∧ t.laneOk p l = false
      ∧ ∀ g : Field, g.addr ≠ A.LANE_STATE p l → g.addr ≠ A.OPT_STATE p → t.get g = s.get g := by
  obtain ⟨x, hx⟩ : ∃ x, s.markFailed p l = x := ⟨_, rfl⟩
  obtain ⟨y, hy⟩ : ∃ y, (x.report p 4 l cause).modOptic p (fun o => { o with rxFail := o.rxFail ||| 2 ^ l }) = y := ⟨_, rfl⟩
  have hlink (y' : State) (hy' : t = y'.linkFail p ∨ t = y') (hlen : p < y'.opt.length) : (∀ g : Field, t.get g = y'.get g)
      ∧ (t.optic p).rxFail = (y'.optic p).rxFail := by
    rcases hy' with rfl | rfl
    · exact ⟨y'.get_modOptic p _, by rw [State.linkFail, State.optic_modOptic _ _ _ hlen]⟩
    · exact ⟨fun _ => rfl, rfl⟩
  have heq : t = y.linkFail p ∨ t = y := by
    rw [← ht, State.rxLaneFails, if_neg (by simp [hfail]), hx]
    dsimp only
    rw [hy]
    split
    · exact .inl rfl
    · split
      · split
        · exact .inl rfl
        · exact .inr rfl
      · split
        · exact .inr rfl
        · split
          · exact .inl rfl
          · exact .inr rfl
  have hxopt : x.opt = s.opt := hx ▸ rfl
  have hyget (g : Field) : y.get g = x.get g := by
    rw [← hy, State.get_modOptic]
    exact State.get_modOptic _ _ _ _
  have hrep : (x.report p 4 l cause).opt.length = s.opt.length := (x.modOptic_length p _).trans (congrArg _ hxopt)
  have hyfail : (y.optic p).rxFail = (s.optic p).rxFail ||| 2 ^ l := by
    rw [← hy, State.optic_modOptic _ _ _ (hrep ▸ hp), State.report, State.reportFor, State.optic_modOptic _ _ _ (hxopt ▸ hp),
      State.optic, hxopt, State.optic]
  obtain ⟨hget, hrx⟩ := hlink y heq (by rw [← hy, State.modOptic_length, hrep]; exact hp)
  have hne : A.OPT_STATE p ≠ A.LANE_STATE p l := by rw [laneState_addr, A.OPT_STATE]; omega
  refine ⟨?_, ?_, ?_, fun g h1 h2 => ?_⟩
  · rw [hget, hyget, ← hx, State.markFailed, State.setLaneOk, State.get_set_ne _ _ _ _ hne.symm]
    exact State.get_set_fits _ _ _ rfl
  · rw [hrx, hyfail, bitAt, Nat.testBit_or, Nat.testBit_two_pow_self, Bool.or_true]
  · rw [State.laneOk, hget, hyget, ← hx, State.markFailed, State.setLaneOk]
    have hmask : ∀ l < 9, Nat.testBit (511 - 2 ^ l) l = false := by decide
    have hread (u : State) (v : Nat) (hv : v < 2 ^ 9) : (u.set (F.OPT_STATE_LANE_OK p) v).get (F.OPT_STATE_LANE_OK p) = v :=
      State.get_set_lt _ _ _ (show 32 ≤ 40 by omega) (show 40 < 64 by omega) hv
    rw [if_neg Bool.false_ne_true, hread _ _ (Nat.and_le_right.trans_lt ((Nat.sub_le _ _).trans_lt (by decide))), bitAt, Nat.testBit_and,
        hmask l hl, Bool.and_false]
  · rw [hget, hyget, ← hx, State.markFailed, State.setLaneOk, State.get_set_ne _ _ _ _ h2, State.get_set_ne _ _ _ _ h1]

/-- Lanes declared failed: one received lane. -/
theorem laneDeclare_one (s : State) (p l : Nat) (hp : p < 12) (hl : l < 8) (hdue : s.stagedDue (A.SPK_LANE_ACT p) = true)
    (hready : s.unitReady (entPort p) = true) (htx : s.get (F.SPK_LANE_NEXT_TX_FAIL p) = 0)
    (hrx : s.get (F.SPK_LANE_NEXT_RX_FAIL p) = 2 ^ l) :
    laneDeclare p s = (s.stagedDone (A.SPK_LANE_ACT p)).rxLaneFails p l 4 := by
  have hzero (i : Nat) : bitAt 0 i = false := Nat.zero_testBit i
  have hlanes : ∀ l < 8, (List.range 9).filter (fun i => bitAt (2 ^ l) i) = [l] := by decide
  rw [laneDeclare, if_pos ⟨hdue, hready⟩, htx, hrx, laneCount, if_pos hp]
  simp only [hzero, Bool.false_eq_true, if_false]
  rw [← List.foldl_filter (f := fun (s : State) i => s.rxLaneFails p i 4), hlanes l hl]
  rfl

/-- Settles O52, from what the words, the steers and the failed lanes leave of the port. -/
theorem wordsAndSteers : Obligations.WordsAndSteers := by
  unfold Obligations.WordsAndSteers
  intro s p hs hshape hp idle took due
  have hlen : p < s.opt.length := by
    have h14 : s.opt.length = 14 := hshape.2.2.2.2.2.1
    omega
  have hspoke (f : State → State) : lively s p 12 f = .next (f s) := lively_powered s p 12 f hp hs.1 hs.2
  have hlanes (lane : Nat) (h : lane < 9) : lane < laneCount p := by
    rw [laneCount, if_pos hp]
    exact h
  have hdue (op k : Nat) (h : due op k) : SteerDue s p op k := by
    obtain ⟨harmed, hnow, ⟨a, ha, hle⟩, hstate, hphase, hop, hk, hunit, hspare⟩ := h
    refine ⟨s.stagedDue_of _ a harmed hnow ha hle, hstate, hphase, ?_, ?_, hop, hk⟩
    · rw [s.unitReady_port p (by omega), hunit]
      rfl
    · rcases hspare with h0 | hnil
      · rw [State.spareDue, State.on_of_zero _ _ h0, Bool.false_and]
      · rw [State.spareDue, hnil]
        exact Bool.and_false _
  have htook (t : State) (op k : Nat) (hsteer : Steers t p op k) (hslot : (t.optic p).steerSlot = s.slot) (hbytes : sameBytes s t) :
      took t op k := ⟨hsteer.state, hsteer.op, hsteer.lane, hsteer.retries, hslot, hbytes⟩
  refine ⟨fun lane cycle w corr hlane h4 h7 => ?_,
    fun op k hop hk hd hidle => ?_, fun k hk hd huse hperm => ?_, fun op k hop hd huse => ?_,
    fun hstate hnow hslot => ⟨fun hretries => ?_, fun hretries => ?_⟩, fun k c l hauto hnow hphase hstate hfail hk hidle => ?_,
    fun l harmed hnow hunit hslot hl htx hrx hfail => ?_, fun hphase w cycle => ⟨?_, fun hseq hw => ?_⟩⟩
  · have hlive (f : State → State) : lively s p 14 f = .next (f s) := lively_powered s p 14 f (by omega) hs.1 hs.2
    exact ⟨fun hsync hcrc hkind hop hrep => (hlive (lcwReceive p lane cycle w corr 0)).trans
        (congrArg _ (lcwReceive_plain s p lane cycle w corr (hlanes lane hlane) h4 h7 hsync hcrc hkind hop hrep)),
      fun hbad => (hlive (lcwReceive p lane cycle w corr 0)).trans
        (congrArg _ (lcwReceive_bad s p lane cycle w corr (hlanes lane hlane) h4 h7 hbad))⟩
  · obtain ⟨d1, d2, d3, d4, d5, d6⟩ := steer_takes s p op k (hdue op k hd) hlen hop hk hidle.1 hidle.2 _ rfl
    exact ⟨_, hspoke (steer p), htook _ op k d1 d2 ((Keeps.refl s).steer p).bytes, d3, d4, d5, d6⟩
  · obtain ⟨d1, d2, d3⟩ := steer_returns s p k (hdue 2 k hd) hlen hk huse hperm _ rfl
    exact ⟨_, hspoke (steer p), htook _ 2 k d1 d2 ((Keeps.refl s).steer p).bytes, d3⟩
  · obtain ⟨d1, d2⟩ := steer_refused s p op k (hdue op k hd) hlen hop huse _ rfl
    exact ⟨_, hspoke (steer p), d1, d2, ((Keeps.refl s).steer p).bytes⟩
  · obtain ⟨d1, d2, d3⟩ := steerRetry_again s p hlen hstate hnow hslot hretries _ rfl
    exact ⟨_, hspoke (steerRetry p), d1, d2, d3, ((Keeps.refl s).steerRetry p).bytes⟩
  · have hat : s.atSlot = true := beq_iff_eq.mpr hnow
    refine (hspoke (steerRetry p)).trans (congrArg _ ?_)
    rw [steerRetry, if_pos ⟨hstate, hat, hslot⟩, if_neg (by omega)]
  · obtain ⟨d1, d2, d3, d4, d5⟩ := autoSpare_takes s p k c l hlen hauto hnow hphase hstate hfail hk hidle.1 hidle.2 _ rfl
    exact ⟨_, hspoke (autoSpare p), htook _ 3 k d1 d2 ((Keeps.refl s).autoSpare p).bytes, d3, d4⟩
  · obtain ⟨a, ha, hle⟩ := hslot
    have hready : s.unitReady (entPort p) = true := by
      rw [s.unitReady_port p (by omega), hunit]
      rfl
    have heq := laneDeclare_one s p l hp hl (s.stagedDue_of _ a harmed hnow ha hle) hready htx hrx
    obtain ⟨d1, d2, d3, d4⟩ := (s.stagedDone (A.SPK_LANE_ACT p)).rxLaneFails_effect p l 4 hlen (by omega) hfail _ heq.symm
    have hne1 : A.SPK_LANE_ACT p ≠ A.LANE_STATE p l := by rw [laneState_addr, A.SPK_LANE_ACT]; omega
    have hne2 : A.SPK_LANE_ACT p ≠ A.OPT_STATE p := by rw [A.SPK_LANE_ACT, A.OPT_STATE]; omega
    refine ⟨_, lively_powered s p 14 (laneDeclare p) (by omega) hs.1 hs.2, d1, d2, d3, (d4 _ hne1 hne2).trans ?_,
      ((Keeps.refl s).laneDeclare p).bytes⟩
    exact s.stagedDone_armed _
  · refine (hspoke fun s => s.pingIn p w cycle).trans (congrArg _ ?_)
    rw [State.pingIn, if_pos ⟨hphase, hp⟩]
  · refine (hspoke fun s => s.echoIn p w cycle).trans (congrArg _ ?_)
    rw [State.echoIn, if_pos ⟨hphase, hp, hseq, hw⟩]

end Sys2Proof.Machine

/-! Signals of cores: their counters, streams and packets (O37). -/
namespace Sys2Proof.Machine

/-! ## Words of fields, and the packets of local sources (R278, R281, R282) -/

theorem bits_foldl_putBits (fs : List (Nat × Nat × Nat)) (x : Word) (hi lo : Nat)
    (h : (fs.all fun f => decide (f.2.1 ≤ f.1 ∧ f.1 < 64 ∧ (hi < f.2.1 ∨ f.1 < lo))) = true) :
    bits (fs.foldl (fun w f => putBits w f.1 f.2.1 f.2.2) x) hi lo = bits x hi lo := by
  induction fs generalizing x with
  | nil => rfl
  | cons f fs ih =>
    rw [List.all_cons, Bool.and_eq_true] at h
    obtain ⟨h1, h2, h3⟩ := of_decide_eq_true h.1
    rw [List.foldl_cons, ih _ h.2, bits_putBits_disjoint _ _ _ _ _ _ h1 h2 h3]

/-- Field i of a word made of fields, none of which lies over it. -/
theorem bits_mkWord (fs : List (Nat × Nat × Nat)) (i hi lo v : Nat) (hi' : fs[i]? = some (hi, lo, v)) (hlo : lo ≤ hi) (hhi : hi < 64)
    (hrest : ((fs.drop (i + 1)).all fun f => decide (f.2.1 ≤ f.1 ∧ f.1 < 64 ∧ (hi < f.2.1 ∨ f.1 < lo))) = true) :
    bits (mkWord fs) hi lo = v % 2 ^ (hi + 1 - lo) := by
  obtain ⟨hlt, hget⟩ := List.getElem?_eq_some_iff.mp hi'
  have hsplit : fs = fs.take i ++ (hi, lo, v) :: fs.drop (i + 1) := by
    rw [← hget, List.getElem_cons_drop, List.take_append_drop]
  rw [mkWord]
  conv_lhs => rw [hsplit]
  rw [List.foldl_append, List.foldl_cons, bits_foldl_putBits _ _ _ _ hrest, bits_putBits_self _ _ _ _ hlo hhi]

theorem crc10Step_lt (c : Nat) (b : Bool) : crc10Step c b < 2 ^ 10 := by
  unfold crc10Step
  dsimp only
  split
  · exact Nat.xor_lt_two_pow (Nat.mod_lt _ (by omega)) (by omega)
  · exact Nat.mod_lt _ (by omega)

theorem packetCrc_lt (p : Packet) : p.crc < 2 ^ 10 :=
  List.foldlRecOn (motive := fun c : Nat => c < 2 ^ 10) _ _ (by omega) fun c _ b _ => crc10Step_lt c b

/-- The header's check leaves its own bits out. -/
theorem packetCrc_hchk (p : Packet) (v : Nat) : ({ p with w0 := putBits p.w0 9 0 v } : Packet).crc = p.crc := by
  have hdown : bitsDown (putBits p.w0 9 0 v) 63 10 = bitsDown p.w0 63 10 := by
    refine List.map_congr_left fun i hi => ?_
    have hlt := List.mem_range.mp hi
    rw [putBits_getLsbD _ _ _ _ _ (by omega) (by omega), if_neg (by omega)]
  unfold Packet.crc
  rw [hdown]

/-- The fields of a packet that a local source sends. -/
theorem Send.packet_fields (x : Send) (src epoch : Nat) (p : Packet) (hp : x.packet src epoch = p) : p.dst = x.dst % 2 ^ 16
    ∧ p.kind = x.kind % 2 ^ 8 ∧ p.vc = x.vc % 2 ^ 2 ∧ p.tag = epoch % 2 ^ 2 ∧ p.mcast = x.mcast ∧ p.spec = x.spec
    ∧ p.len = (x.payload.length + 31) / 32 % 2 ^ 8 ∧ p.hchk = p.crc ∧ p.coll = x.coll % 2 ^ 8 ∧ p.w2 = x.w2 := by
  obtain ⟨w, hw⟩ : ∃ w, mkWord
      [(63, 48, x.dst), (47, 32, src), (31, 24, x.kind), (23, 22, x.vc), (21, 20, epoch), (19, 19, boolBit x.mcast),
      (18, 18, boolBit x.spec), (17, 10, (x.payload.length + 31) / 32)] = w := ⟨_, rfl⟩
  obtain ⟨q, hq⟩ : ∃ q : Packet, ⟨w, mkWord [(63, 48, x.tag), (47, 40, x.gen), (39, 32, x.coll), (31, 0, x.offset)], x.w2,
      mkWord [(63, 48, x.policy), (47, 0, x.deadline)], BitVec.ofNat 64 x.csum,
      x.payload ++ List.replicate ((32 - x.payload.length % 32) % 32) 0⟩ = q := ⟨_, rfl⟩
  have hqw : q.w0 = w := hq ▸ rfl
  have heq : p = { q with w0 := putBits w 9 0 q.crc } := by
    rw [← hp, ← hqw, ← hq, ← hw]
    rfl
  have hfield (hi lo : Nat) (h : 9 < lo) : bits p.w0 hi lo = bits w hi lo := by
    rw [heq]
    exact bits_putBits_disjoint _ _ _ _ _ _ (by omega) (by omega) (.inr h)
  have hbit (b : Bool) : (boolBit b % 2 ^ 1 == 1) = b := by cases b <;> rfl
  refine ⟨?_, ?_, ?_, ?_, ?_, ?_, ?_, ?_, ?_, ?_⟩
  · rw [Packet.dst, hfield 63 48 (by omega), ← hw]
    exact bits_mkWord _ 0 _ _ _ rfl (by omega) (by omega) rfl
  · rw [Packet.kind, hfield 31 24 (by omega), ← hw]
    exact bits_mkWord _ 2 _ _ _ rfl (by omega) (by omega) rfl
  · rw [Packet.vc, hfield 23 22 (by omega), ← hw]
    exact bits_mkWord _ 3 _ _ _ rfl (by omega) (by omega) rfl
  · rw [Packet.tag, hfield 21 20 (by omega), ← hw]
    exact bits_mkWord _ 4 _ _ _ rfl (by omega) (by omega) rfl
  · rw [Packet.mcast, hfield 19 19 (by omega), ← hw, bits_mkWord _ 5 _ _ _ rfl (by omega) (by omega) rfl]
    exact hbit _
  · rw [Packet.spec, hfield 18 18 (by omega), ← hw, bits_mkWord _ 6 _ _ _ rfl (by omega) (by omega) rfl]
    exact hbit _
  · rw [Packet.len, hfield 17 10 (by omega), ← hw]
    exact bits_mkWord _ 7 _ _ _ rfl (by omega) (by omega) rfl
  · rw [heq, ← hqw, packetCrc_hchk, Packet.hchk, bits_putBits_self _ _ _ _ (by omega) (by omega), Nat.mod_eq_of_lt (packetCrc_lt q)]
  · rw [Packet.coll, heq, ← hq]
    exact bits_mkWord _ 2 _ _ _ rfl (by omega) (by omega) rfl
  · rw [heq, ← hq]

/-- A packet of a local source for one other module leaves at once when nothing is held and its port has room (R276, R284). -/
theorem State.sendLocal_leaves (s : State) (die : Nat) (x : Send) (b o k : Nat) (hbank : s.sendBank = some b) (hmc : x.mcast = false)
    (hdst : x.dst < 2 ^ 16) (hother : x.dst ≠ s.get F.RT_NODE_ID_ID)
        (hroute : routeOut (s.routeEntry b x.dst) (x.coll % 2 ^ 8) = some (o, k))
    (hready : s.get (F.UNIT_STATE_STATE (entPort o)) = 2) (hheld : s.rt.held = []) (p : Packet)
    (hp : x.packet (s.get F.RT_NODE_ID_ID) (s.get F.RT_BANK_STATUS_SEND_EPOCH) = p)
    (hbeats : p.beats ≤ (s.rt.credit.getD o []).getD (p.vc * 2 + k) 0) :
    ∃ rt, s.sendLocal die x = { s with rt := rt, sent := s.sent ++ [.packet o k p] } ∧ rt.held = [] := by
  obtain ⟨hpdst, -, -, htag, hpmc, hspec, -, -, hcoll, -⟩ := x.packet_fields _ _ p hp
  have ho := routeOut_lt hroute
  have hdst' : p.dst = x.dst := hpdst.trans (Nat.mod_eq_of_lt hdst)
  have hb : s.bankOfTag p.tag = some b := by
    have hlt : s.get F.RT_BANK_STATUS_SEND_EPOCH < 2 ^ 2 := s.get_lt _
    rw [htag, Nat.mod_eq_of_lt hlt]
    unfold State.sendBank at hbank
    split at hbank
    · exact hbank
    · exact absurd hbank (by simp)
  obtain ⟨peak, henq⟩ := s.enqueue_held (12 + die) 0 p [(o, k)] false rfl (.inl (by simp))
  obtain ⟨h, hh⟩ : ∃ h : Transit, h = ⟨12 + die, 0, s.now, p, [(o, k)], false⟩ := ⟨_, rfl⟩
  rw [← hh] at henq
  have heq : s.sendLocal die x = (s.hold h peak).pumpAll := by
    rw [State.sendLocal, hp, hbank]
    dsimp only
    unfold State.route
    rw [hb]
    dsimp only
    rw [if_neg (by simp [hpmc, hmc]), if_neg (fun hd => hother (hdst' ▸ hd.1)), hdst', hcoll, hroute]
    dsimp only
    rw [if_neg (show ¬ o = 12 + die by omega), henq]
  have hone : (s.hold h peak).rt.held = [h] := by
    simp [State.hold, hheld]
  have hregs (a : Nat) : (s.hold h peak).reg a = s.reg a := State.reg_congr a rfl rfl rfl rfl
  have hready' : (s.hold h peak).unitReady (entPort o) = true := by
    rw [State.unitReady_port _ o (by omega), State.get_congr _ (hregs _), hready]
    rfl
  have hcredit : (s.hold h peak).hasCredit h (o, k) = true := by
    rw [hh]
    exact decide_eq_true hbeats
  obtain ⟨credit, rr, beats, hpump⟩ := (s.hold h peak).pumpAll_alone h o k hone (by rw [hh]) ho hready' (by rw [hh]) hcredit
  have hcredits : h.credits = [] := by
    rw [hh]
    exact if_neg (by simp)
  have hpkt : h.pkt = p := by rw [hh]
  rw [heq, hpump, hcredits, hpkt, List.append_nil]
  exact ⟨_, rfl, rfl⟩

/-! ## Signals (R103, R106, R343) -/

/-- The last issue of a word of SEQ alone: its operation acts on a state that is as before. -/
theorem State.standsAt.seqActs {s : State} {n w : Nat} (hst : s.standsAt n 1 w) (hparts : onlyParts [.seq] w)
    (hok : seqReserved w = false)
    (cmd : Instr) (sel : Bool → Nat → Bool) (hexec : exec cmd s = Machine.issueCmd n sel s) (hsel : sel s.fuse.s0 w = true)
    (hw : seqOp w ≠ 3) : ∃ y, coreGoes [] s y n (s.coreAt n)
      ∧ exec cmd s = .next ((y.seqAct n w).setCore n (((y.seqAct n w).coreAt n).ticked 0 (s.coreAt n).cyc)) := by
  have hlop : cwLop w = 0 := hparts .loop (by decide)
  have hword := controlWord_of w _ hparts (by simp) hok (loopReserved_idle w hlop)
  have hc := hst.ready
  have hquiet := agQuiet_of_idle w hword.ag
  have hpops := pops_none s n (s.coreAt n) w hquiet hword.pops
  have hcommit : coreGoes [] s (s.commitBundle n w) n (s.coreAt n) := (coreGoes.refl [] s n).commit hst.lt w [] [] hpops rfl hword.lanes
    hword.draw (hword.wordReserved _) (fun y hy => hy.fetch_quiet hst.lt w [] hquiet)
    (fun y hy => by
      rw [tmode_idle _ _ hword.tmode, State.tensorStage_idle]
      exact hy)
    fun y _ => y.agMoves_idle n w (s.coreAt n) hword.ag
  refine ⟨s.commitBundle n w, hcommit, hexec.trans ((hst.issueCmd sel hsel hw).trans (congrArg _ ?_))⟩
  rw [s.bundle_eq n w (boundChecks_quiet s n _ w hquiet) (by rw [hpops, popChecks_none])
    (by rw [pushes_none s n _ w hquiet _ _ hword.pushes, pushChecks_none])]
  dsimp only
  rw [if_pos hc.rep, if_pos (hc.rep.trans hc.one.symm), if_pos (hc.rep.trans hc.one.symm), State.loopOp_idle _ _ _ hlop,
    State.swapAct_idle _ _ _ hword.swap]
  rfl

theorem State.seqAct_signal (s : State) (n w : Nat) (hop : seqOp w = 4) : s.seqAct n w = (s.signalAct n (cwSeqArg w % 64)).nextPc n := by
  unfold State.seqAct
  rw [hop]
  rfl

section
variable (x : State) (n k : Nat)

theorem State.signalAct_local (hkind : x.get (F.SIG_DESC_KIND n k) = 0) (hctr : x.get (F.SIG_DESC_COUNTER n k) < 24) :
    x.signalAct n k = x.localSig n (x.get (F.SIG_DESC_COUNTER n k)) (x.get (F.SIG_DESC_INCREMENT n k)) := by
  unfold State.signalAct
  have h0 : bits (x.reg (A.SIG_DESC n k)) 63 60 = 0 := hkind
  dsimp only
  rw [h0]
  exact if_neg (not_le.mpr hctr)

theorem State.signalAct_remote (hkind : x.get (F.SIG_DESC_KIND n k) = 1) : x.signalAct n k = x.sendSignal n (x.reg (A.SIG_DESC n k)) := by
  unfold State.signalAct
  have h1 : bits (x.reg (A.SIG_DESC n k)) 63 60 = 1 := hkind
  dsimp only
  rw [h1]
  rfl

theorem State.signalAct_stream (hkind : x.get (F.SIG_DESC_KIND n k) = 2) :
    x.signalAct n k = (x.streamStart n (x.get (F.SIG_DESC_STREAM n k))).streamReserved 16 n := by
  unfold State.signalAct
  have h2 : bits (x.reg (A.SIG_DESC n k)) 63 60 = 2 := hkind
  dsimp only
  rw [h2]
  rfl

end

/-- The packet that a REMOTE signal of a core in MODE FREE sends. -/
theorem State.sendSignal_send (x : State) (n : Nat) (d : Word) :
    ∃ m : Send, x.sendSignal n d = x.sendLocal (dieOfSite n) m ∧ m.dst = bits d 51 36 ∧ m.kind = 3 ∧ m.vc = 2 ∧ m.mcast = false
      ∧ m.coll = 0 ∧ m.payload = []
      ∧ m.w2 = mkWord [(63, 48, bits d 15 0), (47, 46, bits d 35 34), (45, 41, bits d 33 29), (40, 36, bits d 59 55)] := by
  unfold State.sendSignal
  dsimp only
  exact ⟨_, rfl, rfl, rfl, rfl, rfl, rfl, rfl, rfl⟩

/-- A signal of the core itself: its counter changes, and a WAIT of the next cycle does not see it yet. -/
theorem State.localSig_effect (x : State) (n ctr inc : Nat) (hn : n < x.cores.length) (y : State) (hy : x.localSig n ctr inc = y) :
    (∀ a, y.reg a = (x.addCounter n ctr inc 0).reg a)
      ∧ (y.setCore n { y.coreAt n with cyc := (x.coreAt n).cyc + 1 }).seenValue n ctr = (x.get (F.CNT_VALUE n ctr) : Int)
      ∧ (y.setCore n { y.coreAt n with cyc := (x.coreAt n).cyc + 2 }).seenValue n ctr = (y.get (F.CNT_VALUE n ctr) : Int) := by
  obtain ⟨z, hz⟩ : ∃ z, x.addCounter n ctr inc 0 = z := ⟨_, rfl⟩
  obtain ⟨c, hc⟩ : ∃ c : Core, { z.coreAt n with
      lateSig := some (ctr, (z.get (F.CNT_VALUE n ctr) : Int) - (x.get (F.CNT_VALUE n ctr) : Int), (x.coreAt n).cyc + 1) } = c := ⟨_, rfl⟩
  have heq : y = z.setCore n c := by rw [← hy, State.localSig, hz, hc]
  have hzlen : z.cores.length = x.cores.length := by rw [← hz, State.addCounter_cores]
  have hylen : n < y.cores.length := by rw [heq, State.setCore_length, hzlen]; exact hn
  have hat : y.coreAt n = c := by rw [heq, State.coreAt_setCore_self _ _ _ (hzlen ▸ hn)]
  have hget : y.get (F.CNT_VALUE n ctr) = z.get (F.CNT_VALUE n ctr) := by rw [heq, State.get_setCore]
  have hseen (t : Nat) : (y.setCore n { y.coreAt n with cyc := t }).seenValue n ctr
      = if t = (x.coreAt n).cyc + 1 then (x.get (F.CNT_VALUE n ctr) : Int) else (y.get (F.CNT_VALUE n ctr) : Int) := by
    unfold State.seenValue
    rw [State.coreAt_setCore_self _ _ _ hylen, hat, ← hc]
    dsimp only
    rw [State.get_setCore, hget]
    by_cases h : t = (x.coreAt n).cyc + 1
    · rw [if_pos ⟨rfl, h.symm⟩, if_pos h]
      omega
    · rw [if_neg fun h' => h h'.2.symm, if_neg h]
  refine ⟨fun a => by rw [heq, hz, State.reg_setCore], ?_, ?_⟩
  · rw [hseen, if_pos rfl]
  · rw [hseen, if_neg (by omega)]

/-- A counter is clamped at 0 and at LIMIT (R343). -/
theorem State.addCounter_clamps (x : State) (n c inc src : Nat) (hc : c < 32) :
    let v : Int := (x.get (F.CNT_VALUE n c) : Int) + signed 16 inc
    let lim := x.get (F.CNT_LIMIT n c)
    (v < 0 → (x.addCounter n c inc src).get (F.CNT_VALUE n c) = 0)
      ∧ (0 ≤ v → 0 < signed 16 inc → (lim : Int) < v → (x.addCounter n c inc src).get (F.CNT_VALUE n c) = lim)
      ∧ (0 ≤ v → v ≤ lim → x.addCounter n c inc src = x.set (F.CNT_VALUE n c) v.toNat) := by
  intro v lim
  have hlost : A.CNT n c ∉ [A.FAULT_LOST] := by
    simp only [A.CNT, coreReg, A.FAULT_LOST, pageReg, List.mem_singleton]
    omega
  have hfault (y : State) (code unit : Nat) (slow : Bool) (d : Word) : (y.fault code unit slow d).get (F.CNT_VALUE n c)
      = y.get (F.CNT_VALUE n c) := (y.fault_frame code unit slow d).get _ hlost
  unfold State.addCounter
  dsimp only
  refine ⟨fun h => ?_, fun h0 hpos hlim => ?_, fun h0 hlim => ?_⟩
  · rw [if_pos h, hfault]
    exact State.get_set_fits _ _ _ rfl
  · rw [if_neg (not_lt.mpr h0), if_pos ⟨hpos, hlim⟩, hfault]
    exact State.get_set_lt _ _ _ (show 0 ≤ 31 by omega) (show 31 < 64 by omega) (x.get_lt (F.CNT_LIMIT n c))
  · rw [if_neg (not_lt.mpr h0), if_neg fun h => absurd h.2 (not_lt.mpr hlim)]

/-- A descriptor whose kind is no reserved one waits at the head (R110). -/
theorem State.streamReserved_waits (fuel : Nat) (s : State) (n : Nat) (h : ∀ e ∈ (s.coreAt n).squeue, s.get (F.SD_LOCAL_KIND n e) < 6) :
    s.streamReserved fuel n = s := by
  cases fuel with
  | zero => rfl
  | succ fuel =>
    unfold State.streamReserved
    dsimp only
    split
    · next d rest hq =>
      exact if_neg fun hc => absurd hc.2 (not_le.mpr (h d (hq ▸ .head _)))
    · rfl

section
variable {s : State} {n w : Nat} (hst : s.standsAt n 1 w) (hparts : onlyParts [.seq] w) (hop : cwSeqOp w = 4)
include hst hparts hop

theorem State.standsAt.localSignal (hkind : s.sigKind n w = 0) (hctr : s.get (F.SIG_DESC_COUNTER n (cwSeqArg w % 64)) < 24) (v : Int)
    (hv : v = (s.get (F.CNT_VALUE n (s.get (F.SIG_DESC_COUNTER n (cwSeqArg w % 64)))) : Int)
      + signed 16 (s.get (F.SIG_DESC_INCREMENT n (cwSeqArg w % 64))))
    (h0 : 0 ≤ v) (hlim : v ≤ s.get (F.CNT_LIMIT n (s.get (F.SIG_DESC_COUNTER n (cwSeqArg w % 64))))) :
    ∃ t, exec (.localSignal n) s = .next t
      ∧ coreGoes [A.CNT n (s.get (F.SIG_DESC_COUNTER n (cwSeqArg w % 64)))] s t n { (s.coreAt n).next with
        lateSig := some (s.get (F.SIG_DESC_COUNTER n (cwSeqArg w % 64)), signed 16 (s.get (F.SIG_DESC_INCREMENT n (cwSeqArg w % 64))),
          (s.coreAt n).cyc + 1) }
      ∧ (t.get (F.CNT_VALUE n (s.get (F.SIG_DESC_COUNTER n (cwSeqArg w % 64)))) : Int) = v := by
  obtain ⟨ctr, hctr'⟩ : ∃ ctr, s.get (F.SIG_DESC_COUNTER n (cwSeqArg w % 64)) = ctr := ⟨_, rfl⟩
  obtain ⟨inc, hinc⟩ : ∃ inc, s.get (F.SIG_DESC_INCREMENT n (cwSeqArg w % 64)) = inc := ⟨_, rfl⟩
  rw [hctr', hinc] at hv
  rw [hctr'] at hlim hctr
  rw [hctr', hinc]
  have hclamp (y : State) (hy : coreGoes [] s y n (s.coreAt n)) : y.addCounter n ctr inc 0 = y.set (F.CNT_VALUE n ctr) v.toNat := by
    have hclamps := (y.addCounter_clamps n ctr inc 0 (by omega)).2.2
    rw [hy.get (F.CNT_VALUE n ctr) List.not_mem_nil, hy.get (F.CNT_LIMIT n ctr) List.not_mem_nil, ← hv] at hclamps
    exact hclamps h0 hlim
  have hread (y : State) : (y.set (F.CNT_VALUE n ctr) v.toNat).get (F.CNT_VALUE n ctr) = v.toNat := by
    have hlt : s.get (F.CNT_LIMIT n ctr) < 2 ^ 32 := s.get_lt _
    exact State.get_set_lt _ _ _ (show 0 ≤ 31 by omega) (show 31 < 64 by omega) (show v.toNat < 2 ^ 32 by omega)
  obtain ⟨c, hc⟩ : ∃ c : Core, { s.coreAt n with lateSig := some (ctr, signed 16 inc, (s.coreAt n).cyc + 1) } = c := ⟨_, rfl⟩
  have hact (y : State) (hy : coreGoes [] s y n (s.coreAt n)) : y.signalAct n (cwSeqArg w % 64)
      = (y.set (F.CNT_VALUE n ctr) v.toNat).setCore n c := by
    have hk (f : Field) : y.get f = s.get f := hy.get f List.not_mem_nil
    rw [y.signalAct_local n _ ((hk _).trans hkind) (by rw [hk, hctr']; exact hctr), hk, hk, hctr', hinc, State.localSig, hclamp y hy]
    dsimp only
    have hdiff : ((v.toNat : Nat) : Int) - (s.get (F.CNT_VALUE n ctr) : Int) = signed 16 inc := by omega
    rw [hread, hk, hdiff, State.coreAt_congr n (State.set_cores _ _ _), hy.coreAt hst.lt, hc]
  have hok : seqReserved w = false := by simp [seqReserved, hop]
  have hop' : seqOp w = 4 := (seqOp_of w hok).trans hop
  obtain ⟨y, hy, hexec⟩ := hst.seqActs hparts hok (.localSignal n) _ rfl (by simp [hop', hkind]) (by omega)
  refine ⟨_, hexec, ?_⟩
  rw [y.seqAct_signal n w hop', hact y hy]
  have h1 : coreGoes [A.CNT n ctr] s (y.set (F.CNT_VALUE n ctr) v.toNat) n (s.coreAt n) :=
    (hy.mono (l' := [A.CNT n ctr]) (by simp)).set _ _ (.head _)
  have hpc : c.pc < 8191 := hc ▸ hst.ready.pc
  rw [State.setCore_nextPc _ _ _ (by rw [h1.len]; exact hst.lt) hpc]
  have h2 := h1.setCore { c with pc := c.pc + 1 }
  refine ⟨?_, ?_⟩
  · rw [h2.coreAt hst.lt]
    have h3 := h2.setCore (({ c with pc := c.pc + 1 } : Core).ticked 0 (s.coreAt n).cyc)
    convert h3 using 1
    simp [← hc, Core.ticked, Core.next, Core.spent, hst.ready.rep]
  · rw [State.get_setCore, State.get_setCore, hread]
    omega

theorem State.standsAt.streamStart (hkind : s.sigKind n w = 2) (d : Nat) (hd : s.get (F.SIG_DESC_STREAM n (cwSeqArg w % 64)) = d)
    (hroom : (s.coreAt n).squeue.length + (s.coreAt n).srun.length < 16)
    (hkinds : ∀ e ∈ (s.coreAt n).squeue ++ [d], s.get (F.SD_LOCAL_KIND n e) < 6) :
    ∃ t, exec (.streamStart n) s = .next t ∧ coreGoes [] s t n { (s.coreAt n).next with squeue := (s.coreAt n).squeue ++ [d] } := by
  have hok : seqReserved w = false := by simp [seqReserved, hop]
  have hop' : seqOp w = 4 := (seqOp_of w hok).trans hop
  obtain ⟨c, hc⟩ : ∃ c : Core, { s.coreAt n with squeue := (s.coreAt n).squeue ++ [d] } = c := ⟨_, rfl⟩
  have hpc : c.pc < 8191 := hc ▸ hst.ready.pc
  obtain ⟨t, ht, hgo⟩ := hst.seqGoes hparts hok (.streamStart n) _ rfl (by simp [hop', hkind]) (by omega) [] { c with pc := c.pc + 1 }
    fun y hy => by
      have hk (f : Field) : y.get f = s.get f := hy.get f List.not_mem_nil
      have h1 := hy.setCore c
      have hstart : y.streamStart n d = y.setCore n c := by
        rw [State.streamStart, hy.coreAt hst.lt, ← hc]
        exact if_neg (by omega)
      rw [y.seqAct_signal n w hop', y.signalAct_stream n _ ((hk _).trans hkind), hk, hd, hstart, State.streamReserved_waits,
        State.setCore_nextPc _ _ _ (by rw [hy.len]; exact hst.lt) hpc]
      · exact hy.setCore _
      · rw [h1.coreAt hst.lt, ← hc]
        exact fun e he => (hk _).trans_lt (hkinds e he)
  refine ⟨t, ht, ?_⟩
  convert hgo using 1
  simp [← hc, Core.ticked, Core.next, Core.spent, hst.ready.rep]

theorem State.standsAt.remoteSignal (hkind : s.sigKind n w = 1) (b o cls : Nat) (hheld : s.rt.held = []) (hbank : s.sendBank = some b)
    (hother : s.get (F.SIG_DESC_NODE_ID n (cwSeqArg w % 64)) ≠ s.get F.RT_NODE_ID_ID)
    (hroute : routeOut (s.routeEntry b (s.get (F.SIG_DESC_NODE_ID n (cwSeqArg w % 64)))) 0 = some (o, cls))
    (hready : s.get (F.UNIT_STATE_STATE (entPort o)) = 2) (hcredit : 1 ≤ (s.rt.credit.getD o []).getD (4 + cls) 0) :
    ∃ t p, exec (.remoteSignal n) s = .next t ∧ t.sent = s.sent ++ [.packet o cls p]
      ∧ p.dst = s.get (F.SIG_DESC_NODE_ID n (cwSeqArg w % 64)) ∧ p.kind = 3 ∧ p.check = 0
      ∧ bits p.w2 63 48 = s.get (F.SIG_DESC_INCREMENT n (cwSeqArg w % 64)) ∧ bits p.w2 47 46 = s.get (F.SIG_DESC_DIE n (cwSeqArg w % 64))
      ∧ bits p.w2 45 41 = s.get (F.SIG_DESC_LCORE n (cwSeqArg w % 64))
      ∧ bits p.w2 40 36 = s.get (F.SIG_DESC_COUNTER n (cwSeqArg w % 64)) ∧ t.cores = s.cores.set n (s.coreAt n).next ∧ t.rt.held = []
      ∧ (∀ a, t.reg a = s.reg a) ∧ sameBytes s t := by
  have hok : seqReserved w = false := by simp [seqReserved, hop]
  have hop' : seqOp w = 4 := (seqOp_of w hok).trans hop
  obtain ⟨y, hy, hexec⟩ := hst.seqActs hparts hok (.remoteSignal n) _ rfl (by simp [hop', hkind]) (by omega)
  have hk (f : Field) : y.get f = s.get f := hy.get f List.not_mem_nil
  obtain ⟨k, hkdef⟩ : ∃ k, cwSeqArg w % 64 = k := ⟨_, rfl⟩
  rw [hkdef] at hother hroute
  rw [hkdef]
  have hkind' : y.get (F.SIG_DESC_KIND n k) = 1 := by
    rw [hk, ← hkdef]
    exact hkind
  obtain ⟨m, hm, mdst, mkind, mvc, mmc, mcoll, mpay, mw2⟩ := y.sendSignal_send n (y.reg (A.SIG_DESC n k))
  rw [hy.reg _ List.not_mem_nil] at mdst mw2
  obtain ⟨p, hp⟩ : ∃ p, m.packet (y.get F.RT_NODE_ID_ID) (y.get F.RT_BANK_STATUS_SEND_EPOCH) = p := ⟨_, rfl⟩
  obtain ⟨pdst, pkind, pvc, -, pmc, -, plen, phchk, -, pw2⟩ := m.packet_fields _ _ p hp
  have hdstlt : m.dst < 2 ^ 16 := mdst ▸ bits_lt _ 51 36
  have hlen0 : p.len = 0 := by rw [plen, mpay]; rfl
  have hvc2 : p.vc = 2 := by
    rw [pvc, mvc]
    rfl
  have hkind3 : p.kind = 3 := by
    rw [pkind, mkind]
    rfl
  have hmc : p.mcast = false := pmc.trans mmc
  have hbeats : p.beats = 1 := by rw [Packet.beats, hlen0]
  have hrt : y.rt = s.rt := by rw [hy.eq]
  have hbank' : y.sendBank = some b := by
    rw [← hbank]
    simp only [State.sendBank, State.bankOfTag, State.bankState, State.bankTag, State.on, hk]
    rfl
  have hroute' : routeOut (y.routeEntry b m.dst) (m.coll % 2 ^ 8) = some (o, cls) := by
    rw [← hroute, mcoll, mdst, State.routeEntry, hy.reg _ List.not_mem_nil]
    rfl
  obtain ⟨rt, hleaves, hrtheld⟩ := y.sendLocal_leaves (dieOfSite n) m b o cls hbank' mmc hdstlt (by rw [mdst, hk]; exact hother) hroute'
    ((hk _).trans hready) (hrt ▸ hheld) p hp (by rw [hbeats, hvc2, hrt]; exact hcredit)
  obtain ⟨z, hz⟩ : ∃ z : State, { y with rt := rt, sent := y.sent ++ [.packet o cls p] } = z := ⟨_, rfl⟩
  have hzat : z.coreAt n = s.coreAt n := by
    rw [← hz]
    exact hy.coreAt hst.lt
  have hseq : y.seqAct n w = z.setCore n { s.coreAt n with pc := (s.coreAt n).pc + 1 } := by
    rw [y.seqAct_signal n w hop', hkdef, y.signalAct_remote n k hkind', hm, hleaves, hz, z.nextPc_of n (by rw [hzat]; exact hst.ready.pc),
      hzat]
  have hzlen : n < z.cores.length := by
    rw [← hz]
    exact hy.len ▸ hst.lt
  refine ⟨_, p, hexec, ?_⟩
  rw [hseq, State.coreAt_setCore_self _ _ _ hzlen, State.setCore_setCore]
  have hcore : (({ s.coreAt n with pc := (s.coreAt n).pc + 1 } : Core).ticked 0 (s.coreAt n).cyc) = (s.coreAt n).next :=
    Core.ticked_next _ hst.ready.rep
  rw [hcore]
  refine ⟨?_, ?_, hkind3, ?_, ?_, ?_, ?_, ?_, ?_, ?_, fun a => ?_, ?_⟩
  · rw [← hz]
    exact congrArg (· ++ [_]) (by rw [hy.eq])
  · rw [pdst, Nat.mod_eq_of_lt hdstlt, mdst]
    rfl
  · rw [Packet.check, if_neg (not_not.mpr phchk), if_neg (by omega), hkind3, hvc2, hmc]
    rfl
  · rw [pw2, mw2, bits_mkWord _ 0 _ _ _ rfl (by omega) (by omega) rfl]
    exact Nat.mod_eq_of_lt (bits_lt _ 15 0)
  · rw [pw2, mw2, bits_mkWord _ 1 _ _ _ rfl (by omega) (by omega) rfl]
    exact Nat.mod_eq_of_lt (bits_lt _ 35 34)
  · rw [pw2, mw2, bits_mkWord _ 2 _ _ _ rfl (by omega) (by omega) rfl]
    exact Nat.mod_eq_of_lt (bits_lt _ 33 29)
  · rw [pw2, mw2, bits_mkWord _ 3 _ _ _ rfl (by omega) (by omega) rfl]
    exact Nat.mod_eq_of_lt (bits_lt _ 59 55)
  · rw [← hz]
    exact (congrArg (List.set · n (s.coreAt n).next) hy.cores).trans (List.set_set _)
  · rw [← hz]
    exact hrtheld
  · rw [State.reg_setCore, ← hz]
    exact (State.reg_congr a rfl rfl rfl rfl).trans (hy.reg a List.not_mem_nil)
  · refine sameBytes_of_mems ?_
    rw [← hz, hy.eq]
    rfl

end

/-- Settles O37, from what a change of a counter, a stream's start and a packet of the core leave. -/
theorem signals : Obligations.Signals := by
  unfold Obligations.Signals
  refine ⟨fun s n w hi hp hop =>
      ⟨fun hkind => ?_, fun hkind => ?_, fun hkind => ?_, fun x k hx hkind hctr => ?_, fun x c inc src hc => ?_⟩,
    fun s n w hst hparts hop => ⟨fun hkind hctr h0 hlim => ?_, fun hkind hroom hkinds => ?_,
      fun b o cls hkind _ hheld hbank hother hroute hready hcredit => ?_⟩⟩
  · exact issueCmd_issues s n w _ hi hp (.inl (by omega)) (by simp [hop, hkind])
  · exact issueCmd_issues s n w _ hi hp (.inl (by omega)) (by simp [hop, hkind])
  · exact issueCmd_issues s n w _ hi hp (.inl (by omega)) (by simp [hop, hkind])
  · have hn : n < x.cores.length := by
      rw [hx.1]
      exact hi.2.2.1
    obtain ⟨h1, h2, h3⟩ := x.localSig_effect n _ _ hn _ (x.signalAct_local n k hkind hctr).symm
    exact ⟨h1, ((Keeps.refl x).signalAct n k).bytes, h2, h3⟩
  · exact x.addCounter_clamps n c inc src hc
  · exact hst.localSignal hparts hop hkind hctr _ rfl h0 hlim
  · exact hst.streamStart hparts hop hkind _ rfl hroom hkinds
  · exact hst.remoteSignal hparts hop hkind b o cls hheld hbank hother hroute hready hcredit

end Sys2Proof.Machine

/-! The tensor array's words: loads, multiply-accumulates and the exchange of buffers (O30). -/
namespace Sys2Proof.Machine

/-! ## Operations on their way (R92, R93) -/

theorem mem_pendInsert (p q : Pend) (l : List Pend) : q ∈ pendInsert p l ↔ q = p ∨ q ∈ l := by
  induction l with
  | nil => simp [pendInsert]
  | cons r l ih =>
    unfold pendInsert
    split
    · simp
    · rw [List.mem_cons, ih, List.mem_cons]
      tauto

/-- An operation that completes no sooner than the others goes behind them. -/
theorem pendInsert_last (p : Pend) (l : List Pend) (h : ∀ q ∈ l, ¬ (p.due < q.due ∨ (p.due = q.due ∧ p.rank < q.rank))) :
    pendInsert p l = l ++ [p] := by
  induction l with
  | nil => rfl
  | cons q l ih =>
    unfold pendInsert
    rw [if_neg (h q (.head _)), ih fun r hr => h r (.tail _ hr)]
    rfl

section
variable (c : Core) (k rank d : Nat) (op : Nat → PendOp)

/-- Operations of one cycle join those on their way. -/
theorem Core.defers_pend : ((List.range k).foldl (fun c i => c.defer (c.cyc + d) rank (op i)) c).cyc = c.cyc
    ∧ ∀ q ∈ ((List.range k).foldl (fun c i => c.defer (c.cyc + d) rank (op i)) c).pend,
      q ∈ c.pend ∨ ∃ i < k, q = ⟨c.cyc + d, rank, op i⟩ := by
  induction k with
  | zero => exact ⟨rfl, fun _ => .inl⟩
  | succ k ih =>
    obtain ⟨hcyc, hpend⟩ := ih
    rw [List.range_succ, List.foldl_append]
    refine ⟨hcyc, fun q hq => ?_⟩
    rcases (mem_pendInsert _ _ _).mp hq with h | h
    · exact .inr ⟨k, by omega, by rw [h, hcyc]⟩
    · rcases hpend q h with h | ⟨i, hi, h⟩
      · exact .inl h
      · exact .inr ⟨i, by omega, h⟩

/-- Operations of one cycle of a core with none on their way. -/
theorem Core.defers_eq (hpend : c.pend = []) : (List.range k).foldl (fun c i => c.defer (c.cyc + d) rank (op i)) c
    = { c with pend := (List.range k).map fun i => ⟨c.cyc + d, rank, op i⟩ } := by
  induction k with
  | zero =>
    change c = { c with pend := [] }
    rw [← hpend]
  | succ k ih =>
    rw [List.range_succ, List.foldl_append, ih, List.map_append]
    change ({ c with pend := pendInsert _ _ } : Core) = _
    rw [pendInsert_last]
    · rfl
    · intro q hq
      obtain ⟨i, -, rfl⟩ := List.mem_map.mp hq
      simp

end

/-! ## Pops (R97) -/

/-- A queue whose head has been popped. -/
def Queue.popped (q : Queue) : Queue := { q with ready := q.ready.drop 1, popTag := (q.popTag + 1) % 16 }

section
variable (c : Core)

theorem Core.pop_offers (q : Nat) (bs : List Byte) (h : c.offers q bs) : (c.pop q).1 = bs := by
  obtain ⟨e, rest, hready, -, hbytes⟩ := h
  unfold Core.pop
  dsimp only
  rw [hready]
  exact hbytes

/-- A pop leaves the other queues. -/
theorem Core.offers_pop (q q' : Nat) (bs : List Byte) (h : c.offers q' bs) (hne : q ≠ q') : (c.pop q).2.offers q' bs := by
  have hq : (c.pop q).2.queues.getD q' {} = c.queues.getD q' {} := by
    unfold Core.pop
    simp [List.getD_eq_getElem?_getD, List.getElem?_set_ne hne]
  unfold Core.offers
  rw [hq]
  exact h

theorem Core.pop_comm (q q' : Nat) (hne : q ≠ q') : ((c.pop q).2.pop q').2 = ((c.pop q').2.pop q).2 := by
  have h1 : ∀ r r', r ≠ r' → (c.pop r).2.queues.getD r' {} = c.queues.getD r' {} := fun r r' hr => by
    unfold Core.pop
    simp [List.getD_eq_getElem?_getD, List.getElem?_set_ne hr]
  have h2 (c' : Core) (r : Nat) : (c'.pop r).2 = { c' with queues := c'.queues.set r (c'.queues.getD r {}).popped } := rfl
  rw [h2 (c.pop q).2, h2 (c.pop q').2, h1 q q' hne, h1 q' q hne.symm, h2, h2]
  dsimp only
  rw [List.set_comm _ _ hne]

theorem Core.popAll_one (e q : Nat) (bs : List Byte) (h : c.offers q bs) : c.popAll [(e, q)] = ([(e, bs)], (c.pop q).2) := by
  change ([] ++ [(e, (c.pop q).1)], _) = _
  rw [c.pop_offers q bs h]
  rfl

theorem Core.popAll_two (e q e' q' : Nat) (bs bs' : List Byte) (h : c.offers q bs) (h' : c.offers q' bs') (hne : q ≠ q') :
    c.popAll [(e, q), (e', q')] = ([(e, bs), (e', bs')], ((c.pop q).2.pop q').2) := by
  change ([] ++ [(e, (c.pop q).1)] ++ [(e', ((c.pop q).2.pop q').1)], _) = _
  rw [c.pop_offers q bs h, (c.pop q).2.pop_offers q' bs' (c.offers_pop q q' bs' h' hne)]
  rfl

end

section
variable (s : State) (n : Nat) (c : Core)

/-- Pops of elements that their queues offer pass their checks. -/
theorem popChecks_offered (ps : List (Nat × Nat)) (hoffers : ∀ p ∈ ps, ∃ bs, c.offers p.2 bs)
    (hapart : ∀ i p, ps[i]? = some p → before ps i p.2 = 0) : s.popChecks n c ps = [] := by
  unfold State.popChecks
  rw [List.filterMap_eq_nil_iff]
  intro i hi
  cases hget : ps[i]? with
  | none => rfl
  | some p =>
    obtain ⟨bs, e, rest, hready, htag, -⟩ := hoffers p (List.mem_of_getElem? hget)
    dsimp only
    rw [hapart i p hget, hready]
    exact if_pos htag

theorem popChecks_one (e q : Nat) (bs : List Byte) (h : c.offers q bs) : s.popChecks n c [(e, q)] = [] := by
  refine popChecks_offered s n c _ (by simpa using ⟨bs, h⟩) fun i p hp => ?_
  obtain ⟨hlt, rfl⟩ := List.getElem?_eq_some_iff.mp hp
  obtain rfl : i = 0 := by simpa using hlt
  rfl

theorem popChecks_two (e q e' q' : Nat) (bs bs' : List Byte) (h : c.offers q bs) (h' : c.offers q' bs') (hne : q ≠ q') :
    s.popChecks n c [(e, q), (e', q')] = [] := by
  refine popChecks_offered s n c _ (by simpa using ⟨⟨bs, h⟩, ⟨bs', h'⟩⟩) fun i p hp => ?_
  obtain ⟨hlt, rfl⟩ := List.getElem?_eq_some_iff.mp hp
  obtain rfl | rfl : i = 0 ∨ i = 1 := by
    have : i < 2 := hlt
    omega
  · rfl
  · simp [before, hne]

/-- The pops of a word whose only enabled pop end is e. -/
theorem pops_one (w e : Nat) (hag : agQuiet w) (he : e < 4) (hends : ∀ i < 4, endOn (cwPop w i) = [e].contains i) :
    s.pops n c w = [(e, endQueue (cwPop w e))] := by
  have hon : (List.range 4).filterMap (fun i => if endOn (cwPop w i) then some (i, endQueue (cwPop w i)) else none)
      = ((List.range 4).filter fun i => i == e).map fun i => (i, endQueue (cwPop w i)) := by
    rw [← List.filterMap_eq_map, List.filterMap_filter]
    refine List.filterMap_congr fun i hi => ?_
    rw [hends i (List.mem_range.mp hi)]
    simp
  have hone : ∀ e < 4, (List.range 4).filter (fun i => i == e) = [e] := by decide
  rw [pops_ends s n c w hag, hon, hone e he]
  rfl

/-- The pops of a word whose enabled pop ends are a and b, in their order. -/
theorem pops_two (w a b : Nat) (hag : agQuiet w) (ha : a < 4) (hb : b < 4) (hne : a ≠ b)
    (hends : ∀ i < 4, endOn (cwPop w i) = [a, b].contains i) :
    s.pops n c w = [(a, endQueue (cwPop w a)), (b, endQueue (cwPop w b))] ∨ s.pops n c w =
        [(b, endQueue (cwPop w b)), (a, endQueue (cwPop w a))] := by
  have hon : (List.range 4).filterMap (fun i => if endOn (cwPop w i) then some (i, endQueue (cwPop w i)) else none)
      = ((List.range 4).filter fun i => i == a || i == b).map fun i => (i, endQueue (cwPop w i)) := by
    rw [← List.filterMap_eq_map, List.filterMap_filter]
    refine List.filterMap_congr fun i hi => ?_
    rw [hends i (List.mem_range.mp hi)]
    simp
  have htwo : ∀ a < 4, ∀ b < 4, a ≠ b → (List.range 4).filter (fun i => i == a || i == b) = [a, b]
      ∨ (List.range 4).filter (fun i => i == a || i == b) = [b, a] := by decide
  rw [pops_ends s n c w hag, hon]
  rcases htwo a ha b hb hne with h | h
  · exact .inl (by rw [h]; rfl)
  · exact .inr (by rw [h]; rfl)

end

/-! ## The tensor array's parts (R86, R128) -/

theorem State.doLoad_some (x : State) (n w : Nat) (popped : List (Nat × List Byte)) (bs : List Byte)
    (h : mapFind popped (cwSrcB w) = some bs) : x.doLoad n w popped = x.setCore n ((x.coreAt n).loads w bs) := by
  unfold State.doLoad
  rw [h]
  rfl

/-- The types of the accumulator tiles after an update of one. -/
def accType (ty tile : Nat) (int : Bool) : Nat := if int then ty ||| 2 ^ tile else if bitAt ty tile then ty - 2 ^ tile else ty

theorem testBit_accType (ty tile : Nat) (int : Bool) (i : Nat) : (accType ty tile int).testBit i = if i = tile then int else ty.testBit
    i := by
  unfold accType
  cases int with
  | true =>
    rw [if_pos rfl, Nat.testBit_or, Nat.testBit_two_pow]
    by_cases h : i = tile
    · simp [h]
    · simp [h, Ne.symm h]
  | false =>
    rw [if_neg Bool.false_ne_true]
    split
    · next h =>
      have hoff := testBit_sub_two_pow ty tile h
      have hon := testBit_add_two_pow (ty - 2 ^ tile) tile i hoff
      rw [Nat.sub_add_cancel (Nat.ge_two_pow_of_testBit h)] at hon
      by_cases hi : i = tile
      · rw [if_pos hi, hi, hoff]
      · rw [if_neg hi, hon, decide_eq_false hi, Bool.or_false]
    · next h =>
      by_cases hi : i = tile
      · rw [if_pos hi, hi]
        exact Bool.not_eq_true _ ▸ h
      · rw [if_neg hi]

theorem accType_lt (ty tile : Nat) (int : Bool) (hty : ty < 2 ^ 32) (ht : tile < 32) : accType ty tile int < 2 ^ 32 := by
  unfold accType
  have hpow : 2 ^ tile < 2 ^ 32 := Nat.pow_lt_pow_right (by omega) ht
  split
  · exact Nat.or_lt_two_pow hty hpow
  · split
    · exact (Nat.sub_le _ _).trans_lt hty
    · exact hty

section
variable (c : Core) (w : Nat) (init : Bool) (bs : List Byte)

/-- The rows and the half row at which a moving element of core c starts (R87). -/
def Core.macRow : Nat := if cwRowctl w = 1 then 0 else c.rowPtr.getD (cwTile w) 0
def Core.macHalf : Bool := if cwRowctl w = 1 then false else c.half.getD (cwTile w) false

/-- The parts of its rows that the first cycle of an element completes. -/
def macParts : List (Nat × Nat) := macRows (fmtWidth (cwFmtA w)) (fmtWidth (cwFmtB w)) 0

/-- Update i of the first cycle of an element. -/
def Core.macUpd (i : Nat) : MacUpd :=
  ⟨cwTile w, (c.macRow w + i) % 128, init, cwFmtA w, cwFmtB w, cwCpass w, if fmtWidth (cwFmtA w) = 16 ∧ c.macHalf w then 64 else 0,
    ((valuesOf bs (fmtWidth (cwFmtA w)) (fmtCount (cwFmtA w))).drop ((macParts w).getD i (0, 0)).1).take ((macParts w).getD i (0, 0)).2,
    c.active, c.pc, c.rep, cwMsat w⟩

/-- The core as the first cycle of an element leaves it. -/
def Core.macIssue : Core :=
  let c1 := (List.range (macParts w).length).foldl (fun c' i => c'.defer (c'.cyc + 12) 1 (.mac (c.macUpd w init bs i))) c
  { c1 with
    rowPtr := c1.rowPtr.set (cwTile w) (if cwRowctl w = 2 then c.macRow w
      else (c.macRow w + if fmtWidth (cwFmtA w) = 16 then (if c.macHalf w then 1 else 0) else (macParts w).length) % 128)
    half := c1.half.set (cwTile w) (if fmtWidth (cwFmtA w) = 16 ∧ cwRowctl w ≠ 2 then !c.macHalf w else c.macHalf w)
    held := if 1 < macCycles (fmtWidth (cwFmtA w)) (fmtWidth (cwFmtB w)) then some ⟨bs, cwFmtA w, cwFmtB w, 1⟩ else none }

theorem State.doMac_new (x : State) (n : Nat) (popped : List (Nat × List Byte)) (h : mapFind popped (cwSrcA w) = some bs)
    (hheld : (x.coreAt n).held = none) : x.doMac n w init popped
      = (x.setCore n ((x.coreAt n).macIssue w init bs)).set (F.ACC_TYPE_INT n)
        (accType (x.get (F.ACC_TYPE_INT n)) (cwTile w) (family (cwFmtA w) == 2)) := by
  have hs1 : (if (some bs).isNone = (x.coreAt n).held.isNone then x.seqErr n else x) = x := if_neg (by simp [hheld])
  have hty (ty : Nat) :
      (if family (cwFmtA w) = 2 then ty ||| 2 ^ cwTile w else if bitAt ty (cwTile w) = true then ty - 2 ^ cwTile w else ty)
      = accType ty (cwTile w) (family (cwFmtA w) == 2) := by
    simp only [accType, beq_iff_eq]
  unfold State.doMac
  rw [h]
  dsimp only
  rw [hs1, hty]
  rfl

/-- On a core with nothing on its way at a word's only issue. -/
theorem Core.macIssue_eq (hpend : c.pend = []) (hrep : c.rep = 0) : c.macIssue w init bs = c.macs w init bs := by
  unfold Core.macIssue
  rw [c.defers_eq (macParts w).length 1 12 (fun i => .mac (c.macUpd w init bs i)) hpend]
  unfold Core.macs Core.macUpd Core.macRow Core.macHalf
  dsimp only
  rw [hrep]
  by_cases h16 : fmtWidth (cwFmtA w) = 16
  · by_cases h1 : cwRowctl w = 1
    · simp [h16, h1, macParts, boolBit]
    · by_cases h2 : cwRowctl w = 2
      · simp [h16, h2, macParts]
      · have hb : (cwRowctl w != 1) = true := by simpa using h1
        simp [h16, h1, h2, hb, macParts, boolBit]
  · by_cases h1 : cwRowctl w = 1
    · simp [h16, h1, macParts]
    · have hsame := List.set_getD_self c.half (cwTile w) false
      rw [List.getD_eq_getElem?_getD] at hsame
      simp [h16, h1, macParts, hsame]

theorem Core.macIssue_pend : ∀ p ∈ (c.macIssue w init bs).pend, p ∈ c.pend ∨ (p.due = c.cyc + 12
    ∧ ∃ u, p.op = .mac u ∧ u.tile = cwTile w ∧ u.init = init ∧ u.fa = cwFmtA w ∧ u.fb = cwFmtB w ∧ u.stat = c.active) := by
  intro p hp
  rcases (c.defers_pend (macParts w).length 1 12 fun i => .mac (c.macUpd w init bs i)).2 p hp with h | ⟨i, -, h⟩
  · exact .inl h
  · exact .inr ⟨by rw [h], _, by rw [h], rfl, rfl, rfl, rfl, rfl⟩

end

/-! ## Words of the tensor array alone -/

/-- A word orders nothing but its tensor operation and its pops. -/
structure tensorWord (s0 : Bool) (w : Nat) : Prop where
  ag : ∀ a < 6, cwAg w a = 0
  seq : cwSeqOp w = 0
  loop : cwLop w = 0
  lanes : noLanes w
  draw : cwRdraw w = false
  pushes : ∀ i < 2, endOn (cwPush w i) = false
  ok : tensorReserved s0 w = false

theorem tensorWord_of (s0 : Bool) (w : Nat) (pops : List Nat) (h : onlyParts [.tensor, .ends] w) (hends : endsAre w pops [])
    (hok : tensorReserved s0 w = false) : tensorWord s0 w := by
  have hidle (p : Part) (hp : p ∉ [Part.tensor, Part.ends]) : partIdle w p := h p hp
  exact ⟨hidle .ag (by decide), hidle .seq (by decide), hidle .loop (by decide), ⟨hidle .vector (by decide), hidle .conv (by decide)⟩,
    hidle .draw (by decide), fun i hi => (hends.2 i hi).trans rfl, hok⟩

theorem tensorWord.wordReserved {s0 : Bool} {w : Nat} (hw : tensorWord s0 w) : wordReserved s0 w = false :=
  wordReserved_eq_false s0 w (seqReserved_idle w hw.seq) (loopReserved_idle w hw.loop) hw.ok
      (vectorReserved_idle w hw.lanes.vec hw.lanes.conv)
    (convReserved_idle s0 w hw.lanes.conv) fun a ha => by
      rw [hw.ag a ha]
      exact fun h => nomatch h

/-- A field written in both states. -/
theorem coreGoes.setBoth {s y : State} {n : Nat} {c : Core} (h : coreGoes [] s y n c) (f : Field) (v : Nat) :
    coreGoes [] (s.set f v) (y.set f v) n c := by
  refine ⟨congrArg (fun x : State => { x with regs := (y.set f v).regs }) h.eq, fun a _ => ?_⟩
  by_cases ha : a = f.addr
  · rw [ha, State.set, State.set, State.reg_setReg_self, State.reg_setReg_self, h.reg _ List.not_mem_nil]
  · rw [State.reg_set_ne _ _ _ _ ha, State.reg_set_ne _ _ _ _ ha, h.reg _ List.not_mem_nil]

theorem coreGoes.ofSet {s t : State} {n : Nat} {c : Core} (f : Field) (v : Nat) (h : coreGoes [] (s.set f v) t n c) :
    coreGoes [f.addr] s t n c ∧ t.get f = (s.set f v).get f := by
  refine ⟨⟨h.eq, fun a ha => ?_⟩, h.get f List.not_mem_nil⟩
  rw [h.reg a List.not_mem_nil, State.reg_set_ne _ _ _ _ (by simpa using ha)]

/-- What such a word leaves: the elements popped, the tensor array's part, the exchange of the buffers, and the next word. -/
theorem State.standsAt.tensorGoes {s : State} {n w : Nat} (hst : s.standsAt n 1 w) (hw : tensorWord s.fuse.s0 w) (cmd : Instr)
    (sel : Bool → Nat → Bool) (hexec : exec cmd s = Machine.issueCmd n sel s) (hsel : sel s.fuse.s0 w = true) (s' : State)
    (hn' : n < s'.cores.length) (popped : List (Nat × List Byte)) (c1 c2 c3 : Core)
    (hpop : (s.coreAt n).popAll (s.pops n (s.coreAt n) w) = (popped, c1))
    (hchecks : s.popChecks n (s.coreAt n) (s.pops n (s.coreAt n) w) = [])
    (htensor : ∀ y, coreGoes [] s y n c1 → coreGoes [] s' (y.tensorStage n w (tmode s.fuse.s0 w) popped) n c2)
    (hswap : ∀ y, coreGoes [] s' y n c2 → coreGoes [] s' (y.swapAct n w) n c3) (hflow : c3.flow = (s.coreAt n).flow) :
    ∃ t, exec cmd s = .next t ∧ coreGoes [] s' t n c3.next := by
  have hquiet := agQuiet_of_idle w hw.ag
  obtain ⟨hpc, hrep, hcyc, -⟩ := Core.flow_parts hflow
  have hseqOp : seqOp w = 0 := (seqOp_of w (seqReserved_idle w hw.seq)).trans hw.seq
  have hcommit : coreGoes [] s' (s.commitBundle n w) n c2 := (coreGoes.refl [] s n).commitTo hst.lt hn' w _ popped rfl hpop hw.lanes
      hw.draw
    hw.wordReserved (fun y hy => hy.fetch_quiet hst.lt w popped hquiet) htensor fun y _ => y.agMoves_idle n w c2 hw.ag
  refine ⟨_, hexec.trans (hst.issueCmd sel hsel (by omega)), ?_⟩
  have hgo := coreGoes.bundleTo (.refl [] s n) hst.lt hn' w hst.ready (boundChecks_quiet s n _ w hquiet) hchecks
    (by rw [pushes_none s n _ w hquiet _ _ hw.pushes, pushChecks_none]) hcommit (fun y hy => hy.loopOp_idle w hw.loop) fun y hy =>
      (hswap y hy).seqAct_next hn' w (.inl hseqOp) (by rw [hpc]; exact hst.ready.pc)
  rw [← hcyc] at hgo
  rw [← Core.ticked_next c3 (hrep.trans hst.ready.rep)]
  exact hgo

theorem tmode_of (s0 : Bool) (w m : Nat) (h : tmode s0 w = m) (hm : m ≠ 0) : tensorReserved s0 w = false ∧ cwTmode w = m := by
  unfold tmode at h
  split at h
  · exact absurd h.symm hm
  · next hok => exact ⟨Bool.not_eq_true _ ▸ hok, h⟩

section
variable {l : List Nat} {s y : State} {n : Nat} {c : Core} (h : coreGoes l s y n c) (hn : n < s.cores.length)
include h hn

theorem coreGoes.doLoad (w : Nat) (popped : List (Nat × List Byte)) (bs : List Byte) (hbs : mapFind popped (cwSrcB w) = some bs) :
    coreGoes l s (y.doLoad n w popped) n (c.loads w bs) := by
  rw [y.doLoad_some n w popped bs hbs, h.coreAt hn]
  exact h.setCore _

omit h hn in
theorem coreGoes.doMac (h : coreGoes [] s y n c) (hn : n < s.cores.length) (w : Nat) (init : Bool) (popped : List (Nat × List Byte))
    (bs : List Byte) (hbs : mapFind popped (cwSrcA w) = some bs) (hheld : c.held = none) (hpend : c.pend = []) (hrep : c.rep = 0) :
    coreGoes [] (s.set (F.ACC_TYPE_INT n) (accType (s.get (F.ACC_TYPE_INT n)) (cwTile w) (family (cwFmtA w) == 2)))
      (y.doMac n w init popped) n (c.macs w init bs) := by
  have hat := h.coreAt hn
  rw [y.doMac_new w init bs n popped hbs (by rw [hat]; exact hheld), hat, c.macIssue_eq w init bs hpend hrep, h.get _ List.not_mem_nil]
  exact (h.setCore _).setBoth _ _

end

theorem mapFind_one (e : Nat) (bs : List Byte) : mapFind [(e, bs)] e = some bs := by simp [mapFind]

theorem mapFind_pair (e e' : Nat) (bs bs' : List Byte) (hne : e ≠ e') : mapFind [(e, bs), (e', bs')] e = some bs
    ∧ mapFind [(e, bs), (e', bs')] e' = some bs' := by
  simp [mapFind, hne]

theorem Core.pop_flow (c : Core) (q : Nat) : (c.pop q).2.flow = c.flow := rfl

section
variable {s : State} {n w : Nat} (hst : s.standsAt n 1 w) (hparts : onlyParts [.tensor, .ends] w)
include hst hparts

theorem State.standsAt.swaps (htm : cwTmode w = 0) (hswap : cwSwap w = true) (hends : endsAre w [] []) :
    ∃ t, exec (.swap n) s = .next t
      ∧ coreGoes [] s t n { (s.coreAt n).next with active := (s.coreAt n).shadow, shadow := (s.coreAt n).active, shPtr := 0 } := by
  have hok : tensorReserved s.fuse.s0 w = false := tensorReserved_idle _ w htm
  have hw := tensorWord_of s.fuse.s0 w [] hparts hends hok
  have hpops := pops_none s n (s.coreAt n) w (agQuiet_of_idle w hw.ag) fun i hi => (hends.1 i hi).trans rfl
  refine hst.tensorGoes hw (.swap n) _ rfl (by simp [hswap, hok]) s hst.lt [] (s.coreAt n) (s.coreAt n)
    { s.coreAt n with active := (s.coreAt n).shadow, shadow := (s.coreAt n).active, shPtr := 0 } (by rw [hpops]; rfl)
    (by rw [hpops, popChecks_none]) (fun y hy => ?_) (fun y hy => ?_) rfl
  · rw [tmode_idle _ _ htm, State.tensorStage_idle]
    exact hy
  · have hswaps : y.swapAct n w = y.setCore n
      { s.coreAt n with active := (s.coreAt n).shadow, shadow := (s.coreAt n).active, shPtr := 0 } := by
      rw [State.swapAct, hswap, hy.fuse, hok, hy.coreAt hst.lt]
      rfl
    rw [hswaps]
    exact hy.setCore _

variable (hswap : cwSwap w = false)
include hswap

theorem State.standsAt.loads (bs : List Byte) (htm : tmode s.fuse.s0 w = 1) (hends : endsAre w [cwSrcB w] [])
    (hoffers : (s.coreAt n).offers (endQueue (cwPop w (cwSrcB w))) bs) :
    ∃ t, exec (.load n) s = .next t ∧ coreGoes [] s t n (((s.coreAt n).pop (endQueue (cwPop w (cwSrcB w)))).2.loads w bs).next := by
  obtain ⟨hok, -⟩ := tmode_of _ _ _ htm (by omega)
  have hw := tensorWord_of s.fuse.s0 w _ hparts hends hok
  have hsrc : cwSrcB w < 4 := Nat.mod_lt _ (by decide)
  have hpops := pops_one s n (s.coreAt n) w (cwSrcB w) (agQuiet_of_idle w hw.ag) hsrc hends.1
  refine hst.tensorGoes hw (.load n) _ rfl (by simp [htm]) s hst.lt [(cwSrcB w, bs)] ((s.coreAt n).pop (endQueue (cwPop w (cwSrcB w)))).2
    (((s.coreAt n).pop (endQueue (cwPop w (cwSrcB w)))).2.loads w bs) _ (hpops ▸ (s.coreAt n).popAll_one _ _ bs hoffers)
    (hpops ▸ popChecks_one s n _ _ _ bs hoffers) (fun y hy => ?_) (fun y hy => ?_) rfl
  · rw [htm]
    exact hy.doLoad hst.lt w _ bs (mapFind_one _ bs)
  · rw [y.swapAct_idle n w hswap]
    exact hy

/-- A MAC of an element popped, with what is loaded beside it. -/
theorem State.standsAt.macs (m : Nat) (hm : hasMac m = true) (htm : tmode s.fuse.s0 w = m) (cmd : Instr)
    (hexec : exec cmd s = Machine.issueCmd n (fun g w => tmode g w == m) s) (pops : List Nat) (hends : endsAre w pops [])
    (hheld : (s.coreAt n).held = none) (popped : List (Nat × List Byte)) (taken : Core)
    (hpop : (s.coreAt n).popAll (s.pops n (s.coreAt n) w) = (popped, taken))
    (hchecks : s.popChecks n (s.coreAt n) (s.pops n (s.coreAt n) w) = []) (hkeeps : taken = { s.coreAt n with queues := taken.queues })
    (bs : List Byte) (hbs : mapFind popped (cwSrcA w) = some bs) (c2 : Core)
    (hflow : c2.flow = (taken.macs w (m == 4 || m == 5) bs).flow)
    (hload : ∀ (o : State) y, n < o.cores.length → coreGoes [] o y n (taken.macs w (m == 4 || m == 5) bs) →
      coreGoes [] o (if hasLoad m then y.doLoad n w popped else y) n c2) :
    ∃ t, exec cmd s = .next t ∧ coreGoes [A.ACC_TYPE n] s t n c2.next
      ∧ ∀ i < 32, (t.get (F.ACC_TYPE_INT n)).testBit i
        = if i = cwTile w then family (cwFmtA w) == 2 else (s.get (F.ACC_TYPE_INT n)).testBit i := by
  obtain ⟨v, hv⟩ : ∃ v, accType (s.get (F.ACC_TYPE_INT n)) (cwTile w) (family (cwFmtA w) == 2) = v := ⟨_, rfl⟩
  have hm0 : m ≠ 0 := fun h => absurd hm (by rw [h]; decide)
  obtain ⟨hok, -⟩ := tmode_of _ _ _ htm hm0
  have hw := tensorWord_of s.fuse.s0 w _ hparts hends hok
  have hn' : n < (s.set (F.ACC_TYPE_INT n) v).cores.length := by
    rw [State.set_cores]
    exact hst.lt
  have hflowTaken : (taken.macs w (m == 4 || m == 5) bs).flow = (s.coreAt n).flow := by
    rw [hkeeps]
    rfl
  obtain ⟨t, ht, hgo⟩ := hst.tensorGoes hw cmd _ hexec (by simp [htm]) (s.set (F.ACC_TYPE_INT n) v) hn' popped taken c2 c2 hpop hchecks
    (fun y hy => by
      rw [htm]
      unfold State.tensorStage
      dsimp only
      rw [if_pos hm]
      refine hload _ _ hn' ?_
      rw [← hv]
      exact hy.doMac hst.lt w _ popped bs hbs (by rw [hkeeps]; exact hheld) (by rw [hkeeps]; exact hst.ready.pend)
        (by rw [hkeeps]; exact hst.ready.rep))
    (fun y hy => by
      rw [y.swapAct_idle n w hswap]
      exact hy) (hflow.trans hflowTaken)
  obtain ⟨hgo', hget⟩ := coreGoes.ofSet _ _ hgo
  refine ⟨t, ht, hgo', fun i _ => ?_⟩
  have htile : cwTile w < 32 := Nat.mod_lt _ (by decide)
  have hlt : v < 2 ^ 32 := hv ▸ accType_lt _ _ _ (s.get_lt _) htile
  have hread : (s.set (F.ACC_TYPE_INT n) v).get (F.ACC_TYPE_INT n) = v :=
    State.get_set_lt _ _ _ (show 0 ≤ 31 by omega) (show 31 < 64 by omega) hlt
  rw [hget, hread, ← hv, testBit_accType]

/-- MACs without a load. -/
theorem State.standsAt.macOnly (m : Nat) (hm : m = 2 ∨ m = 4) (htm : tmode s.fuse.s0 w = m) (cmd : Instr)
    (hexec : exec cmd s = Machine.issueCmd n (fun g w => tmode g w == m) s) (hends : endsAre w [cwSrcA w] [])
    (hheld : (s.coreAt n).held = none) (bs : List Byte) (hoffers : (s.coreAt n).offers (endQueue (cwPop w (cwSrcA w))) bs) :
    ∃ t, exec cmd s = .next t
      ∧ coreGoes [A.ACC_TYPE n] s t n (((s.coreAt n).pop (endQueue (cwPop w (cwSrcA w)))).2.macs w (m == 4 || m == 5) bs).next
      ∧ ∀ i < 32, (t.get (F.ACC_TYPE_INT n)).testBit i
        = if i = cwTile w then family (cwFmtA w) == 2 else (s.get (F.ACC_TYPE_INT n)).testBit i := by
  have hsrc : cwSrcA w < 4 := Nat.mod_lt _ (by decide)
  have hquiet := agQuiet_of_idle w (hparts .ag (by decide))
  have hpops := pops_one s n (s.coreAt n) w (cwSrcA w) hquiet hsrc hends.1
  have hload : hasLoad m = false := by rcases hm with rfl | rfl <;> rfl
  refine hst.macs hparts hswap m (by rcases hm with rfl | rfl <;> rfl) htm cmd hexec _ hends hheld [(cwSrcA w, bs)] _
    (hpops ▸ (s.coreAt n).popAll_one _ _ bs hoffers) (hpops ▸ popChecks_one s n _ _ _ bs hoffers) rfl bs (mapFind_one _ bs) _ rfl
    fun o y _ hy => ?_
  rw [hload]
  exact hy

/-- MACs with a load. -/
theorem State.standsAt.macLoads (m : Nat) (hm : m = 3 ∨ m = 5) (htm : tmode s.fuse.s0 w = m) (cmd : Instr)
    (hexec : exec cmd s = Machine.issueCmd n (fun g w => tmode g w == m) s) (hne : cwSrcA w ≠ cwSrcB w)
    (hqne : endQueue (cwPop w (cwSrcA w)) ≠ endQueue (cwPop w (cwSrcB w))) (hends : endsAre w [cwSrcA w, cwSrcB w] [])
    (hheld : (s.coreAt n).held = none) (bs bs' : List Byte) (hoffers : (s.coreAt n).offers (endQueue (cwPop w (cwSrcA w))) bs)
    (hoffers' : (s.coreAt n).offers (endQueue (cwPop w (cwSrcB w))) bs') :
    ∃ t, exec cmd s = .next t
      ∧ coreGoes [A.ACC_TYPE n] s t n ((((((s.coreAt n).pop (endQueue (cwPop w (cwSrcA w)))).2.pop
        (endQueue (cwPop w (cwSrcB w)))).2.macs w (m == 4 || m == 5) bs)).loads w bs').next
      ∧ ∀ i < 32, (t.get (F.ACC_TYPE_INT n)).testBit i
        = if i = cwTile w then family (cwFmtA w) == 2 else (s.get (F.ACC_TYPE_INT n)).testBit i := by
  have ha : cwSrcA w < 4 := Nat.mod_lt _ (by decide)
  have hb : cwSrcB w < 4 := Nat.mod_lt _ (by decide)
  have hquiet := agQuiet_of_idle w (hparts .ag (by decide))
  have hload : hasLoad m = true := by rcases hm with rfl | rfl <;> rfl
  obtain ⟨popped, hpop, hchecks, hfa, hfb⟩ : ∃ popped, (s.coreAt n).popAll (s.pops n (s.coreAt n) w)
      = (popped, (((s.coreAt n).pop (endQueue (cwPop w (cwSrcA w)))).2.pop (endQueue (cwPop w (cwSrcB w)))).2)
      ∧ s.popChecks n (s.coreAt n) (s.pops n (s.coreAt n) w) = [] ∧ mapFind popped (cwSrcA w) = some bs
      ∧ mapFind popped (cwSrcB w) = some bs' := by
    rcases pops_two s n (s.coreAt n) w _ _ hquiet ha hb hne hends.1 with hpops | hpops
    · obtain ⟨h1, h2⟩ := mapFind_pair (cwSrcA w) (cwSrcB w) bs bs' hne
      rw [hpops]
      exact ⟨_, (s.coreAt n).popAll_two _ _ _ _ bs bs' hoffers hoffers' hqne, popChecks_two s n _ _ _ _ _ bs bs' hoffers hoffers' hqne,
          h1, h2⟩
    · obtain ⟨h1, h2⟩ := mapFind_pair (cwSrcB w) (cwSrcA w) bs' bs hne.symm
      rw [hpops, (s.coreAt n).pop_comm _ _ hqne]
      exact ⟨_, (s.coreAt n).popAll_two _ _ _ _ bs' bs hoffers' hoffers hqne.symm,
        popChecks_two s n _ _ _ _ _ bs' bs hoffers' hoffers hqne.symm, h2, h1⟩
  refine hst.macs hparts hswap m (by rcases hm with rfl | rfl <;> rfl) htm cmd hexec _ hends hheld popped _ hpop hchecks rfl bs hfa _
    rfl fun o y hn hy => ?_
  rw [if_pos hload]
  exact hy.doLoad hn w popped bs' hfb

end

/-- Settles O30, from the pops of a word and what a LOAD and the first cycle of a MAC leave. -/
theorem tensorOperations : Obligations.TensorOperations := by
  unfold Obligations.TensorOperations
  refine ⟨fun s n w hi hp hw => ⟨fun htm => ?_, fun htm => ?_, fun htm => ?_, fun htm => ?_, fun htm => ?_, fun hswap hok => ?_,
    fun x popped bs hx hbs => ?_, fun x popped bs init hx hbs hheld => ?_, fun x hx hswap hok => ?_⟩,
    fun s n w hst hparts => ⟨fun htm hswap hends => hst.swaps hparts htm hswap hends, fun hswap => ⟨fun bs htm hends hoffers =>
      hst.loads hparts hswap bs htm hends hoffers, fun hheld => ?_⟩⟩⟩
  · exact issueCmd_issues s n w _ hi hp hw (by simp [htm])
  · exact issueCmd_issues s n w _ hi hp hw (by simp [htm])
  · exact issueCmd_issues s n w _ hi hp hw (by simp [htm])
  · exact issueCmd_issues s n w _ hi hp hw (by simp [htm])
  · exact issueCmd_issues s n w _ hi hp hw (by simp [htm])
  · exact issueCmd_issues s n w _ hi hp hw (by simp [hswap, hok])
  · have hn : n < x.cores.length := by
      rw [hx.1]
      exact hi.2.2.1
    rw [x.doLoad_some n w popped bs hbs, State.coreAt_setCore_self _ _ _ hn]
    exact ⟨rfl, rfl⟩
  · have hn : n < x.cores.length := by
      rw [hx.1]
      exact hi.2.2.1
    rw [x.doMac_new w init bs n popped hbs hheld, State.coreAt_congr n (State.set_cores _ _ _), State.coreAt_setCore_self _ _ _ hn]
    exact (x.coreAt n).macIssue_pend w init bs
  · have hn : n < x.cores.length := by
      rw [hx.1]
      exact hi.2.2.1
    have hswaps : x.swapAct n w = x.setCore n
        { x.coreAt n with active := (x.coreAt n).shadow, shadow := (x.coreAt n).active, shPtr := 0 } := by
      rw [State.swapAct, hswap, hok]
      rfl
    rw [hswaps, State.coreAt_setCore_self _ _ _ hn]
    exact ⟨rfl, rfl, rfl⟩
  · refine ⟨fun bs hends hoffers => ⟨fun htm => ?_, fun htm => ?_⟩, fun x y hne hqne hends hx hy => ⟨fun htm => ?_, fun htm => ?_⟩⟩
    · exact hst.macOnly hparts hswap 2 (.inl rfl) htm (.mac n) rfl hends hheld bs hoffers
    · exact hst.macOnly hparts hswap 4 (.inr rfl) htm (.macInit n) rfl hends hheld bs hoffers
    · exact hst.macLoads hparts hswap 3 (.inl rfl) htm (.macLoad n) rfl hne hqne hends hheld x y hx hy
    · exact hst.macLoads hparts hswap 5 (.inr rfl) htm (.macInitLoad n) rfl hne hqne hends hheld x y hx hy

end Sys2Proof.Machine

/-! The address generators' commands (O28). -/
namespace Sys2Proof.Machine

/-! ## Folds and maps in which one entry alone acts -/

/-- A fold whose step for `a` takes `P` to `Q`, and whose other steps keep each. -/
theorem foldl_once {σ α : Type} (f : σ → α → σ) (P Q : σ → Prop) (l : List α) (a : α) (ha : a ∈ l) (hnodup : l.Nodup)
    (hP : ∀ s, ∀ b ∈ l, b ≠ a → P s → P (f s b)) (hstep : ∀ s, P s → Q (f s a)) (hQ : ∀ s, ∀ b ∈ l, b ≠ a → Q s → Q (f s b)) (s : σ)
    (hs : P s) : Q (l.foldl f s) := by
  obtain ⟨l1, l2, rfl⟩ := List.append_of_mem ha
  have hne1 : ∀ b ∈ l1, b ≠ a := fun b hb e => (List.disjoint_of_nodup_append hnodup) (e ▸ hb) (.head _)
  have hne2 : ∀ b ∈ l2, b ≠ a := fun b hb e => (List.nodup_cons.mp hnodup.of_append_right).1 (e ▸ hb)
  rw [List.foldl_append, List.foldl_cons]
  have h1 : P (l1.foldl f s) := List.foldlRecOn (motive := P) _ _ hs fun t ht b hb => hP t b (List.mem_append_left _ hb) (hne1 b hb) ht
  exact List.foldlRecOn (motive := Q) _ _ (hstep _ h1) fun t ht b hb =>
    hQ t b (List.mem_append_right _ (.tail _ hb)) (hne2 b hb) ht

theorem filterMap_once {α β : Type} (g : α → Option β) (l : List α) (a : α) (ha : a ∈ l) (hnodup : l.Nodup)
    (hg : ∀ b ∈ l, b ≠ a → g b = none) : l.filterMap g = (g a).toList := by
  obtain ⟨l1, l2, rfl⟩ := List.append_of_mem ha
  have hne1 : ∀ b ∈ l1, b ≠ a := fun b hb e => (List.disjoint_of_nodup_append hnodup) (e ▸ hb) (.head _)
  have hne2 : ∀ b ∈ l2, b ≠ a := fun b hb e => (List.nodup_cons.mp hnodup.of_append_right).1 (e ▸ hb)
  have h1 : l1.filterMap g = [] := List.filterMap_eq_nil_iff.mpr fun b hb => hg b (List.mem_append_left _ hb) (hne1 b hb)
  have h2 : l2.filterMap g = [] := List.filterMap_eq_nil_iff.mpr fun b hb => hg b (List.mem_append_right _ (.tail _ hb)) (hne2 b hb)
  rw [List.filterMap_append, h1, List.nil_append, List.filterMap_cons, h2]
  cases g a <;> rfl

/-! ## Where a word leaves the address generators (R82, R83) -/

theorem State.loopOp_still (s : State) (n w : Nat) : ((s.loopOp n w).coreAt n).agIdx = (s.coreAt n).agIdx
    ∧ ((s.loopOp n w).coreAt n).agSet = (s.coreAt n).agSet := by
  have hset (c : Core) (hc : (c.agIdx, c.agSet) = ((s.coreAt n).agIdx, (s.coreAt n).agSet)) :
      ((s.setCore n c).coreAt n).agIdx = (s.coreAt n).agIdx ∧ ((s.setCore n c).coreAt n).agSet = (s.coreAt n).agSet := by
    have h := s.coreAt_setCore_part (fun c => (c.agIdx, c.agSet)) n c hc
    exact ⟨congrArg Prod.fst h, congrArg Prod.snd h⟩
  unfold State.loopOp
  dsimp only
  split
  · exact ⟨rfl, rfl⟩
  · split
    · exact hset _ rfl
    · exact hset _ rfl
    · exact hset _ rfl
    · exact ⟨rfl, rfl⟩

/-- After its commit a word leaves the address generators. -/
theorem issuedWord_ags (s t : State) (n w : Nat) (hp : s.passes n w) (ht : issuedWord s t n w) :
    (t.coreAt n).agIdx = (((s.atIssue n).commitBundle n w).coreAt n).agIdx
      ∧ (t.coreAt n).agSet = (((s.atIssue n).commitBundle n w).coreAt n).agSet := by
  obtain ⟨hbound, hpop, hpush⟩ := hp
  obtain ⟨y, hy⟩ : ∃ y, (s.atIssue n).commitBundle n w = y := ⟨_, rfl⟩
  obtain ⟨z, hz⟩ : ∃ z, (if ((s.atIssue n).coreAt n).rep = 0 then y.loopOp n w else y) = z := ⟨_, rfl⟩
  obtain ⟨u, hu⟩ : ∃ u, (if ((s.atIssue n).coreAt n).rep = cwRepeat w then (z.swapAct n w).seqAct n w else z) = u := ⟨_, rfl⟩
  have hz' : (z.coreAt n).agIdx = (y.coreAt n).agIdx ∧ (z.coreAt n).agSet = (y.coreAt n).agSet := by
    rw [← hz]
    split
    · exact y.loopOp_still n w
    · exact ⟨rfl, rfl⟩
  have hu' : u.still n = z.still n := by
    rw [← hu]
    split
    · exact (State.seqAct_still _ n w).trans (z.swapAct_still n w)
    · rfl
  have ht' := ht.1
  rw [(s.atIssue n).bundle_eq n w hbound hpop hpush, hy] at ht'
  dsimp only at ht'
  rw [hz, hu] at ht'
  have htu : t.still n = u.still n := by
    rw [ht']
    exact State.still_setCore _ n _ (by rfl)
  have hstill : (t.coreAt n).still = (z.coreAt n).still := htu.trans hu'
  rw [hy]
  exact ⟨(congrArg (fun p => p.2.1) hstill : _).trans hz'.1, (congrArg (fun p => p.2.2) hstill : _).trans hz'.2⟩

/-- What one address generator's command leaves of it, and of the others. -/
theorem State.agMove_other (s : State) (n w : Nat) (c : Core) (a b : Nat) (h : b ≠ a) :
    (s.agMove n w c b).agIdx.getD a [] = c.agIdx.getD a [] ∧ (s.agMove n w c b).agSet.getD a 0 = c.agSet.getD a 0 := by
  have hset {α : Type} (l : List α) (x d : α) : (l.set b x).getD a d = l.getD a d := by
    simp [List.getD_eq_getElem?_getD, List.getElem?_set_ne h]
  unfold State.agMove
  dsimp only
  split
  · exact ⟨hset _ _ _, rfl⟩
  · exact ⟨hset _ _ _, rfl⟩
  · exact ⟨hset _ _ _, rfl⟩
  · exact ⟨hset _ _ _, hset _ _ _⟩
  · exact ⟨rfl, rfl⟩

theorem State.agMove_lengths (s : State) (n w : Nat) (c : Core) (b : Nat) : (s.agMove n w c b).agIdx.length = c.agIdx.length
    ∧ (s.agMove n w c b).agSet.length = c.agSet.length := by
  unfold State.agMove
  dsimp only
  split <;> simp

/-- The core after an advance of address generator a at level l. -/
def State.advanced (s : State) (n : Nat) (c : Core) (a l : Nat) : Core :=
  { c with agIdx := c.agIdx.set a (agAdvance (s.agCount n a (c.agSet.getD a 0)) l (c.agIdx.getD a [])) }

section
variable (s : State) (n w : Nat) (c : Core) (a : Nat)

theorem State.agMove_advance (l : Nat) (h : agCmd (cwAg w a) = .step l ∨ agCmd (cwAg w a) = .issueStep l) : s.agMove n w c a
    = { c with agIdx := c.agIdx.set a (agAdvance (s.agCount n a (c.agSet.getD a 0)) l (c.agIdx.getD a [])) } := by
  unfold State.agMove
  rcases h with h | h <;> rw [h]

theorem State.agMove_stays (h : agCmd (cwAg w a) = .issue ∨ agCmd (cwAg w a) = .flush) : s.agMove n w c a = c := by
  unfold State.agMove
  rcases h with h | h <;> rw [h]

theorem State.agMove_reset (h : agCmd (cwAg w a) = .reset) : s.agMove n w c a
    = { c with agIdx := c.agIdx.set a [0, 0, 0, 0, 0, 0], tbuf := if a < 4 then c.tbuf.set a {} else c.tbuf } := by
  unfold State.agMove
  rw [h]

theorem State.agMove_select (k : Nat) (h : agCmd (cwAg w a) = .select k) : s.agMove n w c a
    = { c with agIdx := c.agIdx.set a [0, 0, 0, 0, 0, 0], agSet := c.agSet.set a k, tbuf := if a < 4 then c.tbuf.set a {} else c.tbuf } :=
        by
  unfold State.agMove
  rw [h]

end

/-- Where the commands of a word leave address generator a. -/
theorem State.agMoves_at (x : State) (n w : Nat) (c : Core) (a : Nat) (ha : a < 6) (hidx : c.agIdx.length = 6) (hset : c.agSet.length = 6)
    :
    ∃ c', c'.agIdx.length = 6 ∧ c'.agSet.length = 6 ∧ c'.agIdx.getD a [] = c.agIdx.getD a [] ∧ c'.agSet.getD a 0 = c.agSet.getD a 0
      ∧ ((List.range 6).foldl (x.agMove n w) c).agIdx.getD a [] = (x.agMove n w c' a).agIdx.getD a []
      ∧ ((List.range 6).foldl (x.agMove n w) c).agSet.getD a 0 = (x.agMove n w c' a).agSet.getD a 0 := by
  refine foldl_once (x.agMove n w)
    (fun d => d.agIdx.length = 6 ∧ d.agSet.length = 6 ∧ d.agIdx.getD a [] = c.agIdx.getD a [] ∧ d.agSet.getD a 0 = c.agSet.getD a 0)
    (fun e => ∃ c' : Core, c'.agIdx.length = 6 ∧ c'.agSet.length = 6 ∧ c'.agIdx.getD a [] = c.agIdx.getD a []
      ∧ c'.agSet.getD a 0 = c.agSet.getD a 0 ∧ e.agIdx.getD a [] = (x.agMove n w c' a).agIdx.getD a []
      ∧ e.agSet.getD a 0 = (x.agMove n w c' a).agSet.getD a 0)
    (List.range 6) a (List.mem_range.mpr ha) List.nodup_range ?_ ?_ ?_ c ⟨hidx, hset, rfl, rfl⟩
  · rintro d b - hb ⟨h1, h2, h3, h4⟩
    obtain ⟨l1, l2⟩ := x.agMove_lengths n w d b
    obtain ⟨o1, o2⟩ := x.agMove_other n w d a b hb
    exact ⟨l1.trans h1, l2.trans h2, o1.trans h3, o2.trans h4⟩
  · rintro d ⟨h1, h2, h3, h4⟩
    exact ⟨d, h1, h2, h3, h4, rfl, rfl⟩
  · rintro e b - hb ⟨c', h1, h2, h3, h4, h5, h6⟩
    obtain ⟨o1, o2⟩ := x.agMove_other n w e a b hb
    exact ⟨c', h1, h2, h3, h4, o1.trans h5, o2.trans h6⟩

/-- The address generator's command, from the state a word's commit leaves. -/
theorem issuedWord_ag (s t : State) (n w a : Nat) (hi : s.issuesWord n w) (hp : s.passes n w) (ha : a < 6)
    (hidx : (s.coreAt n).agIdx.length = 6) (hset : (s.coreAt n).agSet.length = 6) (ht : issuedWord s t n w) :
    ∃ (x : State) (c : Core), (∀ f, x.get f = ((s.atIssue n).commitBundle n w).get f) ∧ c.agIdx.length = 6 ∧ c.agSet.length = 6
      ∧ c.agIdx.getD a [] = (s.coreAt n).agIdx.getD a [] ∧ c.agSet.getD a 0 = (s.coreAt n).agSet.getD a 0
      ∧ (t.coreAt n).agIdx.getD a [] = (x.agMove n w c a).agIdx.getD a [] ∧ (t.coreAt n).agSet.getD a 0 = (x.agMove n w c a).agSet.getD a
          0 := by
  obtain ⟨h1, h2⟩ := issuedWord_ags s t n w hp ht
  obtain ⟨x, heq, hlen, hctl⟩ := (s.atIssue n).commitBundle_keepsCtl n w
  obtain ⟨hilen, hictl⟩ := s.atIssue_keepsCtl n
  have hx : (x.coreAt n).ctl = (s.coreAt n).ctl := hctl.trans hictl
  have hxidx : (x.coreAt n).agIdx = (s.coreAt n).agIdx := (congrArg Core.agIdx hx :)
  have hxset : (x.coreAt n).agSet = (s.coreAt n).agSet := (congrArg Core.agSet hx :)
  have hn : n < x.cores.length := by
    rw [hlen, hilen, hi.2.1.1]
    exact hi.2.2.1
  obtain ⟨c, c1, c2, c3, c4, c5, c6⟩ := x.agMoves_at n w (x.coreAt n) a ha (hxidx ▸ hidx) (hxset ▸ hset)
  refine ⟨x, c, fun f => by rw [heq]; rfl, c1, c2, c3.trans (by rw [hxidx]), c4.trans (by rw [hxset]), ?_, ?_⟩
  · rw [h1, heq, State.agStage, State.coreAt_setCore_self _ _ _ hn, c5]
  · rw [h2, heq, State.agStage, State.coreAt_setCore_self _ _ _ hn, c6]

section
variable (s : State) (n w a : Nat) (hi : s.issuesWord n w) (hp : s.passes n w) (hw : s.noWait n w) (ha : a < 6)
  (hidx : (s.coreAt n).agIdx.length = 6) (hset : (s.coreAt n).agSet.length = 6)
include hi hp hw ha hidx hset

/-- A command that advances an address generator. -/
theorem advance_issues (l : Nat) (h : agCmd (cwAg w a) = .step l ∨ agCmd (cwAg w a) = .issueStep l) (cmd : Instr) (p : AgCmd → Bool)
    (hexec : exec cmd s = agIssue n a p s) (hcmd : p (agCmd (cwAg w a)) = true) : ∃ t, exec cmd s = .next t ∧ issuedWord s t n w
      ∧ (t.coreAt n).agIdx.getD a [] = agAdvance (((s.atIssue n).commitBundle n w).agCount n a ((s.coreAt n).agSet.getD a 0)) l
        ((s.coreAt n).agIdx.getD a []) := by
  obtain ⟨t, ht, hissued⟩ := issueCmd_issues s n w (fun _ w => decide (a < 6) && p (agCmd (cwAg w a))) hi hp hw (by simp [ha, hcmd])
  obtain ⟨x, c, hget, c1, c2, c3, c4, c5, -⟩ := issuedWord_ag s t n w a hi hp ha hidx hset hissued
  refine ⟨t, hexec.trans ht, hissued, c5.trans ?_⟩
  have hcount : x.agCount n a (c.agSet.getD a 0) = ((s.atIssue n).commitBundle n w).agCount n a ((s.coreAt n).agSet.getD a 0) := by
    funext k
    simp only [State.agCount, hget, c4]
  rw [x.agMove_advance n w c a l h]
  dsimp only
  rw [getD_set_eq _ _ _ _ _ (by omega), if_pos rfl, hcount, c3]

/-- A command that leaves an address generator. -/
theorem leave_issues (h : agCmd (cwAg w a) = .issue ∨ agCmd (cwAg w a) = .flush) (cmd : Instr) (p : AgCmd → Bool)
    (hexec : exec cmd s = agIssue n a p s) (hcmd : p (agCmd (cwAg w a)) = true) : ∃ t, exec cmd s = .next t ∧ issuedWord s t n w
      ∧ (t.coreAt n).agIdx.getD a [] = (s.coreAt n).agIdx.getD a [] := by
  obtain ⟨t, ht, hissued⟩ := issueCmd_issues s n w (fun _ w => decide (a < 6) && p (agCmd (cwAg w a))) hi hp hw (by simp [ha, hcmd])
  obtain ⟨x, c, -, -, -, c3, -, c5, -⟩ := issuedWord_ag s t n w a hi hp ha hidx hset hissued
  refine ⟨t, hexec.trans ht, hissued, c5.trans ?_⟩
  rw [x.agMove_stays n w c a h, c3]

theorem reset_issues (h : agCmd (cwAg w a) = .reset) : ∃ t, exec (.agReset n a) s = .next t ∧ issuedWord s t n w
    ∧ (t.coreAt n).agIdx.getD a [] = [0, 0, 0, 0, 0, 0] := by
  obtain ⟨t, ht, hissued⟩ := issueCmd_issues s n w (fun _ w => decide (a < 6) && (agCmd (cwAg w a) == .reset)) hi hp hw (by simp [ha, h])
  obtain ⟨x, c, -, c1, -, -, -, c5, -⟩ := issuedWord_ag s t n w a hi hp ha hidx hset hissued
  refine ⟨t, ht, hissued, c5.trans ?_⟩
  rw [x.agMove_reset n w c a h]
  exact (getD_set_eq _ _ _ _ _ (by omega)).trans (if_pos rfl)

theorem select_issues (k : Nat) (h : agCmd (cwAg w a) = .select k) : ∃ t, exec (.agSelect n a) s = .next t ∧ issuedWord s t n w
    ∧ (t.coreAt n).agSet.getD a 0 = k ∧ (t.coreAt n).agIdx.getD a [] = [0, 0, 0, 0, 0, 0] := by
  obtain ⟨t, ht, hissued⟩ := issueCmd_issues s n w (fun _ w => decide (a < 6) && AgCmd.isSelect (agCmd (cwAg w a))) hi hp hw
    (by simp [ha, h, AgCmd.isSelect])
  obtain ⟨x, c, -, c1, c2, -, -, c5, c6⟩ := issuedWord_ag s t n w a hi hp ha hidx hset hissued
  refine ⟨t, ht, hissued, c6.trans ?_, c5.trans ?_⟩
  · rw [x.agMove_select n w c a k h]
    exact (getD_set_eq _ _ _ _ _ (by omega)).trans (if_pos rfl)
  · rw [x.agMove_select n w c a k h]
    exact (getD_set_eq _ _ _ _ _ (by omega)).trans (if_pos rfl)

end

/-! ## Words of one address generator alone (R82 to R84) -/

/-- A word orders nothing but a command of address generator a. -/
structure agWord (w a : Nat) : Prop where
  lt : a < 6
  others : ∀ b < 6, b ≠ a → cwAg w b = 0
  ok : agCmd (cwAg w a) ≠ .reserved
  seq : cwSeqOp w = 0
  loop : cwLop w = 0
  tmode : cwTmode w = 0
  swap : cwSwap w = false
  lanes : noLanes w
  draw : cwRdraw w = false
  pops : ∀ i < 4, endOn (cwPop w i) = false
  pushes : ∀ i < 2, endOn (cwPush w i) = false

theorem agWord_of (w a : Nat) (h : onlyParts [.ag] w) (ha : a < 6) (hothers : ∀ b < 6, b ≠ a → cwAg w b = 0)
    (hok : agCmd (cwAg w a) ≠ .reserved) : agWord w a := by
  have hidle (p : Part) (hp : p ∉ [Part.ag]) : partIdle w p := h p hp
  obtain ⟨htm, hswap⟩ := hidle .tensor (by decide)
  obtain ⟨hpops, hpushes⟩ := hidle .ends (by decide)
  exact ⟨ha, hothers, hok, hidle .seq (by decide), hidle .loop (by decide), htm, hswap,
      ⟨hidle .vector (by decide), hidle .conv (by decide)⟩,
    hidle .draw (by decide), hpops, hpushes⟩

section
variable {w a : Nat} (hw : agWord w a)
include hw

theorem agWord.idle (b : Nat) (hb : b < 6) (hne : b ≠ a) : agCmd (cwAg w b) = .idle := by
  rw [hw.others b hb hne, agCmd_zero]

theorem agWord.wordReserved (s0 : Bool) : wordReserved s0 w = false :=
  wordReserved_eq_false s0 w (seqReserved_idle w hw.seq) (loopReserved_idle w hw.loop) (tensorReserved_idle s0 w hw.tmode)
    (vectorReserved_idle w hw.lanes.vec hw.lanes.conv) (convReserved_idle s0 w hw.lanes.conv) fun b hb => by
      by_cases hba : b = a
      · rw [hba]
        exact hw.ok
      · rw [hw.idle b hb hba]
        exact fun h => nomatch h

/-- A read port's part of such a word. -/
theorem agWord.fetch {s y : State} {n : Nat} {c1 c2 : Core} (hn : n < s.cores.length) (popped : List (Nat × List Byte))
    (h : coreGoes [] s y n c1)
    (ha : a < 4) (hfetch : ∀ y, coreGoes [] s y n c1 → coreGoes [] s (State.agFetch n w y a) n c2) :
    coreGoes [] s (([4, 5] : List Nat).foldl (State.agStore n w popped) ((List.range 4).foldl (State.agFetch n w) y)) n c2 := by
  have hquiet (b : Nat) (hb : b < 6) (hne : b ≠ a) : (agCmd (cwAg w b)).access = false ∧ agCmd (cwAg w b) ≠ .flush := by
    rw [hw.idle b hb hne]
    exact ⟨rfl, fun h => nomatch h⟩
  have hstep (c : Core) (u : State) (b : Nat) (hb : b ∈ List.range 4) (hne : b ≠ a) (hu : coreGoes [] s u n c) :
      coreGoes [] s (State.agFetch n w u b) n c := by
    obtain ⟨h1, h2⟩ := hquiet b (by have := List.mem_range.mp hb; omega) hne
    exact hu.agFetch_idle hn w b h1 h2
  have h7 : coreGoes [] s ((List.range 4).foldl (State.agFetch n w) y) n c2 :=
    foldl_once (State.agFetch n w) (fun u => coreGoes [] s u n c1) (fun u => coreGoes [] s u n c2) (List.range 4) a
        (List.mem_range.mpr ha)
      List.nodup_range (hstep c1) hfetch (hstep c2) y h
  exact (h7.agStore_idle w popped 4 (hquiet 4 (by omega) (by omega)).1).agStore_idle w popped 5 (hquiet 5 (by omega) (by omega)).1

/-- A write port's part of such a word. -/
theorem agWord.store {s y : State} {n : Nat} {c1 c2 : Core} (hn : n < s.cores.length) (popped : List (Nat × List Byte))
    (h : coreGoes [] s y n c1)
    (ha : 4 ≤ a) (hstore : ∀ y, coreGoes [] s y n c1 → coreGoes [] s (State.agStore n w popped y a) n c2) :
    coreGoes [] s (([4, 5] : List Nat).foldl (State.agStore n w popped) ((List.range 4).foldl (State.agFetch n w) y)) n c2 := by
  have hquiet (b : Nat) (hb : b < 6) (hne : b ≠ a) : (agCmd (cwAg w b)).access = false ∧ agCmd (cwAg w b) ≠ .flush := by
    rw [hw.idle b hb hne]
    exact ⟨rfl, fun h => nomatch h⟩
  have h7 : coreGoes [] s ((List.range 4).foldl (State.agFetch n w) y) n c1 :=
    List.foldlRecOn (motive := fun u : State => coreGoes [] s u n c1) _ _ h fun u hu b hb => by
      have hb4 := List.mem_range.mp hb
      obtain ⟨h1, h2⟩ := hquiet b (by omega) (by omega)
      exact hu.agFetch_idle hn w b h1 h2
  have hstep (c : Core) (u : State) (b : Nat) (hb : b ∈ [4, 5]) (hne : b ≠ a) (hu : coreGoes [] s u n c) :
      coreGoes [] s (State.agStore n w popped u b) n c := by
    have hb6 : b < 6 := by
      rcases List.mem_cons.mp hb with rfl | hb
      · omega
      · rw [List.mem_singleton.mp hb]
        omega
    exact hu.agStore_idle w popped b (hquiet b hb6 hne).1
  have hmem : a ∈ [4, 5] := by
    have := hw.lt
    have h45 : a = 4 ∨ a = 5 := by omega
    simpa using h45
  exact foldl_once (State.agStore n w popped) (fun u => coreGoes [] s u n c1) (fun u => coreGoes [] s u n c2) [4, 5] a hmem (by decide)
    (hstep c1) hstore (hstep c2) _ h7

/-- What such a word leaves: the elements popped, the port's part, where its command leaves the generator, and the next word. -/
theorem State.standsAt.agGoes {s : State} {n : Nat} (hst : s.standsAt n 1 w) (cmd : Instr) (p : AgCmd → Bool)
    (hexec : exec cmd s = agIssue n a p s) (hcmd : p (agCmd (cwAg w a)) = true) (popped : List (Nat × List Byte)) (c1 c2 c3 : Core)
    (hbound : s.boundChecks n (s.coreAt n) w = []) (hpop : (s.coreAt n).popAll (s.pops n (s.coreAt n) w) = (popped, c1))
    (hpops : s.popChecks n (s.coreAt n) (s.pops n (s.coreAt n) w) = [])
    (hpushes : ∀ v cp, s.pushChecks n (s.coreAt n) (s.pops n (s.coreAt n) w) (s.pushes n (s.coreAt n) w v cp) = [])
    (hfetch : ∀ y, coreGoes [] s y n c1 →
      coreGoes [] s (([4, 5] : List Nat).foldl (State.agStore n w popped) ((List.range 4).foldl (State.agFetch n w) y)) n c2)
    (hmove : ∀ y, coreGoes [] s y n c2 → y.agMove n w c2 a = c3) (hflow : c3.flow = (s.coreAt n).flow) :
    ∃ t, exec cmd s = .next t ∧ coreGoes [] s t n c3.next := by
  obtain ⟨hpc, hrep, hcyc, -⟩ := Core.flow_parts hflow
  have hseqOp : seqOp w = 0 := (seqOp_of w (seqReserved_idle w hw.seq)).trans hw.seq
  have hmoves (y : State) (hy : coreGoes [] s y n c2) : (List.range 6).foldl (y.agMove n w) c2 = c3 :=
    foldl_once (y.agMove n w) (· = c2) (· = c3) (List.range 6) a (List.mem_range.mpr hw.lt) List.nodup_range
      (fun c b hb hne hc => (y.agMove_idle n w c b (hw.others b (List.mem_range.mp hb) hne)).trans hc)
      (fun c hc => by rw [hc, hmove y hy])
      (fun c b hb hne hc => (y.agMove_idle n w c b (hw.others b (List.mem_range.mp hb) hne)).trans hc) c2 rfl
  have hcommit : coreGoes [] s (s.commitBundle n w) n c3 := (coreGoes.refl [] s n).commit hst.lt w _ popped rfl hpop hw.lanes hw.draw
    (hw.wordReserved _) hfetch
    (fun y hy => by
      rw [tmode_idle _ _ hw.tmode, State.tensorStage_idle]
      exact hy) hmoves
  refine ⟨_, hexec.trans (hst.issueCmd (fun _ w => decide (a < 6) && p (agCmd (cwAg w a))) (by simp [hw.lt, hcmd]) (by omega)), ?_⟩
  have hgo := coreGoes.bundle (.refl [] s n) hst.lt w hst.ready hbound hpops (hpushes _ _) hcommit (fun y hy => hy.loopOp_idle w hw.loop)
    fun y hy => by
      rw [y.swapAct_idle n w hw.swap]
      exact hy.seqAct_next hst.lt w (.inl hseqOp) (by rw [hpc]; exact hst.ready.pc)
  rw [← hcyc] at hgo
  rw [← Core.ticked_next c3 (hrep.trans hst.ready.rep)]
  exact hgo

variable (s : State) (n : Nat) (c : Core)

theorem agWord.boundChecks (h : (agCmd (cwAg w a)).access = true → s.agOut n c a = none) : s.boundChecks n c w = [] := by
  rw [State.boundChecks, List.filterMap_eq_nil_iff]
  intro b hb
  by_cases hba : b = a
  · rw [hba]
    split
    · next hacc => rw [h hacc]
    · rfl
  · rw [hw.idle b (List.mem_range.mp hb) hba]
    rfl

theorem agWord.pops_read (h : a < 4 ∨ (agCmd (cwAg w a)).access = false) : s.pops n c w = [] := by
  have hquiet (b : Nat) (hb : 4 ≤ b) (hb6 : b < 6) : (agCmd (cwAg w b)).access = false := by
    by_cases hba : b = a
    · rcases h with h | h
      · omega
      · rw [hba, h]
    · rw [hw.idle b hb6 hba]
      rfl
  have h4 := hquiet 4 (by omega) (by omega)
  have h5 := hquiet 5 (by omega) (by omega)
  simp [State.pops, h4, h5, List.range_succ, hw.pops 0 (by omega), hw.pops 1 (by omega), hw.pops 2 (by omega), hw.pops 3 (by omega)]

theorem agWord.pops_write (ha : 4 ≤ a) (h : (agCmd (cwAg w a)).access = true) : s.pops n c w = [(8 + a, s.agQueue n c a)] := by
  have hends : (List.range 4).filterMap (fun i => if endOn (cwPop w i) then some (i, endQueue (cwPop w i)) else none) = [] := by
    rw [List.filterMap_eq_nil_iff]
    intro i hi
    rw [hw.pops i (List.mem_range.mp hi)]
    rfl
  have hmem : a ∈ [4, 5] := by
    have := hw.lt
    have h45 : a = 4 ∨ a = 5 := by omega
    simpa using h45
  rw [State.pops, hends, List.nil_append, filterMap_once _ [4, 5] a hmem (by decide) fun b hb hne => ?_]
  · rw [h]
    rfl
  · have hb6 : b < 6 := by
      rcases List.mem_cons.mp hb with rfl | hb
      · omega
      · rw [List.mem_singleton.mp hb]
        omega
    rw [hw.idle b hb6 hne]
    rfl

/-- Read port a of a word pushes: a column of a square, or the element read. -/
def State.agPushes (s : State) (n : Nat) (c : Core) (w a : Nat) : Bool :=
  if s.agTranspose n c a then (tbufStep (s.agWidth n c a) (agCmd (cwAg w a)) [] (c.tbuf.getD a {})).1.isSome else
      (agCmd (cwAg w a)).access

/-- The pushes of such a word are those of its read port. -/
theorem agWord.pushes_eq (v : Nat) (cp : Bool) :
    s.pushes n c w v cp = if a < 4 ∧ s.agPushes n c w a = true then [(8 + a, s.agQueue n c a)] else [] := by
  have hends : ((List.range 2).flatMap fun i => if endOn (cwPush w i) then
      (if v = 23 ∨ (v ≠ 0 ∧ cwVdst w = i) then [(4 + i, endQueue (cwPush w i))] else [])
        ++ (if cp ∧ (cwConv w).cdst = i then [(4 + i, endQueue (cwPush w i))] else []) else []) = [] := by
    simp [List.range_succ, hw.pushes 0 (by omega), hw.pushes 1 (by omega)]
  have hags : s.pushes n c w v cp
      = (List.range 4).filterMap fun b => if s.agPushes n c w b then some (8 + b, s.agQueue n c b) else none := by
    unfold State.pushes
    dsimp only
    rw [hends, List.append_nil]
    rfl
  have hidle (b : Nat) (hb : b ∈ List.range 4) (hne : b ≠ a) :
      (if s.agPushes n c w b then some (8 + b, s.agQueue n c b) else none) = none := by
    have hb4 := List.mem_range.mp hb
    refine if_neg ?_
    rw [State.agPushes, hw.idle b (by omega) hne]
    simp [tbufStep, AgCmd.access]
  rw [hags]
  by_cases ha : a < 4
  · rw [filterMap_once _ (List.range 4) a (List.mem_range.mpr ha) List.nodup_range hidle]
    by_cases h : s.agPushes n c w a = true
    · rw [if_pos h, if_pos ⟨ha, h⟩]
      rfl
    · rw [if_neg h, if_neg fun h' => h h'.2]
      rfl
  · rw [if_neg fun h => ha h.1, List.filterMap_eq_nil_iff]
    exact fun b hb => hidle b hb fun h => ha (h ▸ List.mem_range.mp hb)

end

/-- Nothing is in flight to a queue. -/
theorem Core.readyFor.flight_at {c : Core} {w : Nat} (h : c.readyFor w) (q : Nat) : (c.queues.getD q {}).flight = [] := by
  by_cases hq : q < c.queues.length
  · rw [List.getD_eq_getElem?_getD, List.getElem?_eq_getElem hq]
    exact h.flight _ (List.getElem_mem hq)
  · rw [List.getD_eq_getElem?_getD, List.getElem?_eq_none (by omega)]
    rfl

/-- One push into a queue with room passes its check. -/
theorem pushChecks_one (s : State) (n e q : Nat) (hflight : ((s.coreAt n).queues.getD q {}).flight = []) (h : s.roomFor n q) :
    s.pushChecks n (s.coreAt n) [] [(e, q)] = [] := by
  have hroom : ¬ s.get (F.QCFG_DEPTH n q) < ((s.coreAt n).queues.getD q {}).ready.length - before [] ([] : List (Nat × Nat)).length q
      + ((s.coreAt n).queues.getD q {}).flight.length + before [(e, q)] 0 q + 1 := by
    have hlt : ((s.coreAt n).queues.getD q {}).ready.length < s.get (F.QCFG_DEPTH n q) := h
    have h0 : before [(e, q)] 0 q = 0 := rfl
    rw [hflight, h0]
    simp only [List.length_nil]
    omega
  change List.filterMap _ [0] = []
  rw [List.filterMap_cons, List.filterMap_nil]
  dsimp only [List.getElem?_cons_zero]
  rw [if_neg hroom]

section
variable {w a : Nat} (hw : agWord w a) {s : State} {n : Nat} (hst : s.standsAt n 1 w)
include hw hst

theorem agWord.pushChecks (h : a < 4 → s.agPushes n (s.coreAt n) w a = true → s.roomFor n (s.agQueue n (s.coreAt n) a)) (v : Nat)
    (cp : Bool) :
    s.pushChecks n (s.coreAt n) (s.pops n (s.coreAt n) w) (s.pushes n (s.coreAt n) w v cp) = [] := by
  rw [hw.pushes_eq]
  split
  · next hp =>
    rw [hw.pops_read s n (s.coreAt n) (.inl hp.1)]
    exact pushChecks_one s n _ _ (hst.ready.flight_at _) (h hp.1 hp.2)
  · rfl

/-- A word that pops nothing. -/
theorem agWord.goes (cmd : Instr) (p : AgCmd → Bool) (hexec : exec cmd s = agIssue n a p s) (hcmd : p (agCmd (cwAg w a)) = true)
    (c2 c3 : Core)
    (hread : a < 4 ∨ (agCmd (cwAg w a)).access = false) (hout : (agCmd (cwAg w a)).access = true → s.agOut n (s.coreAt n) a = none)
    (hroom : a < 4 → s.agPushes n (s.coreAt n) w a = true → s.roomFor n (s.agQueue n (s.coreAt n) a))
    (hfetch : a < 4 → ∀ y, coreGoes [] s y n (s.coreAt n) → coreGoes [] s (State.agFetch n w y a) n c2)
    (hstore : 4 ≤ a → c2 = s.coreAt n) (hmove : ∀ y, coreGoes [] s y n c2 → y.agMove n w c2 a = c3) (hflow : c3.flow = (s.coreAt n).flow)
        :
    ∃ t, exec cmd s = .next t ∧ coreGoes [] s t n c3.next := by
  have hpops := hw.pops_read s n (s.coreAt n) hread
  refine State.standsAt.agGoes hw hst cmd p hexec hcmd [] (s.coreAt n) c2 c3 (hw.boundChecks s n _ hout) (by rw [hpops]; rfl)
      (by rw [hpops, popChecks_none])
    (hw.pushChecks hst hroom) (fun y hy => ?_) hmove hflow
  by_cases ha : a < 4
  · exact hw.fetch hst.lt [] hy ha (hfetch ha)
  · rw [hstore (by omega)]
    exact hw.store hst.lt [] hy (by omega) fun u hu => hu.agStore_idle w [] a (hread.resolve_left ha)

end

/-! ## What the commands read (R82 to R84) -/

section
variable {l : List Nat} {s y : State} {n : Nat} {c : Core} (h : coreGoes [] s y n c)
include h

theorem coreGoes.agTranspose (c' : Core) (a : Nat) : y.agTranspose n c' a = s.agTranspose n c' a := by
  simp only [State.agTranspose, State.on, h.get _ List.not_mem_nil]

theorem coreGoes.agQueue (c' : Core) (a : Nat) : y.agQueue n c' a = s.agQueue n c' a := by
  simp only [State.agQueue, h.get _ List.not_mem_nil]

theorem coreGoes.agWidth (c' : Core) (a : Nat) : y.agWidth n c' a = s.agWidth n c' a := by
  simp only [State.agWidth, h.get _ List.not_mem_nil]

theorem coreGoes.agAddr (c' : Core) (a : Nat) : y.agAddr n c' a = s.agAddr n c' a := by
  simp only [State.agAddr, h.get _ List.not_mem_nil]

theorem coreGoes.agOut (c' : Core) (a : Nat) : y.agOut n c' a = s.agOut n c' a := by
  simp only [State.agOut, h.get _ List.not_mem_nil, h.agAddr]

theorem coreGoes.agCount (a k : Nat) : y.agCount n a k = s.agCount n a k := by
  funext j
  simp only [State.agCount, h.get _ List.not_mem_nil]

/-- An advance goes by the counts of the state before. -/
theorem coreGoes.agMove_advance (w a l : Nat) (c' : Core) (hcmd : agCmd (cwAg w a) = .step l ∨ agCmd (cwAg w a) = .issueStep l) :
    y.agMove n w c' a = s.advanced n c' a l := by
  rw [y.agMove_advance n w c' a l hcmd, h.agCount]
  rfl

/-- A read within bounds that no stream disturbs. -/
theorem coreGoes.agRead (hn : n < s.cores.length) (c' : Core) (a : Nat) (hout : s.agOut n c' a = none) (hsrun : c.srun = []) :
    y.agRead n c' a = s.core.load (storeAddr n (s.agAddr n c' a)) 128 := by
  have hstream (e : Nat) : y.streaming n 0 e = false := by
    have hat : (y.coreAt n).srun = [] := by rw [h.coreAt hn, hsrun]
    change ((y.coreAt n).srun.any _) = false
    rw [hat]
    rfl
  rw [State.agRead, h.agOut, hout, h.agAddr, hstream, h.core]
  rfl

/-- A read port pushes the element it reads. -/
theorem coreGoes.agFetch_reads (hn : n < s.cores.length) (w a : Nat) (hacc : (agCmd (cwAg w a)).access = true)
    (htr : s.agTranspose n c a = false) (hout : s.agOut n c a = none) (hsrun : c.srun = []) : coreGoes [] s (State.agFetch n w y a) n
      (c.push (s.agQueue n c a) (c.cyc + 6) (s.core.load (storeAddr n (s.agAddr n c a)) 128)) := by
  unfold State.agFetch
  dsimp only
  rw [h.coreAt hn, h.agTranspose, htr, hacc, h.agQueue, h.agRead hn c a hout hsrun]
  exact h.setCore _

/-- A port that pushes nothing and is no transpose port. -/
theorem coreGoes.agFetch_none (hn : n < s.cores.length) (w a : Nat) (hacc : (agCmd (cwAg w a)).access = false)
    (htr : s.agTranspose n c a = false) : coreGoes [] s (State.agFetch n w y a) n c := by
  unfold State.agFetch
  dsimp only
  rw [h.coreAt hn, h.agTranspose, htr, hacc]
  exact h

/-- A FLUSH of a transpose port that holds an incomplete square pushes its first column. -/
theorem coreGoes.agFetch_flush (hn : n < s.cores.length) (w a : Nat) (hcmd : agCmd (cwAg w a) = .flush) (htr : s.agTranspose n c a = true)
    (hfull : (c.tbuf.getD a {}).full = []) (hfill : (c.tbuf.getD a {}).fill ≠ []) : coreGoes [] s (State.agFetch n w y a) n
      (({ c with tbuf := c.tbuf.set a { fill := [], full := (c.tbuf.getD a {}).fill, pushed := 1 } } : Core).push (s.agQueue n c a)
          (c.cyc + 6)
        (columnOf (c.tbuf.getD a {}).fill (s.agWidth n c a) 0)) := by
  have hstep (wd : Nat) (row : List Byte) : tbufStep wd .flush row (c.tbuf.getD a {})
      = (some (columnOf (c.tbuf.getD a {}).fill wd 0), { fill := [], full := (c.tbuf.getD a {}).fill, pushed := 1 }) := by
    have hlen : (c.tbuf.getD a {}).fill.length ≠ 0 := fun h0 => hfill (List.length_eq_zero_iff.mp h0)
    unfold tbufStep
    dsimp only
    rw [if_neg (by decide), if_pos rfl, hfull, if_neg (by simp), if_pos hlen]
  unfold State.agFetch
  dsimp only
  rw [h.coreAt hn, h.agTranspose, htr, hcmd, hstep, h.agQueue, h.agWidth]
  exact h.setCore _

/-- A write port stores the element popped 3 cycles later. -/
theorem coreGoes.agStore_writes (hn : n < s.cores.length) (w a : Nat) (popped : List (Nat × List Byte)) (bs : List Byte)
    (hacc : (agCmd (cwAg w a)).access = true) (hbs : mapFind popped (8 + a) = some bs) (hpend : c.pend = []) :
    coreGoes [] s (State.agStore n w popped y a) n { c with pend := [⟨c.cyc + 3, 0, .store (s.agAddr n c a) bs⟩] } := by
  unfold State.agStore
  dsimp only
  rw [h.coreAt hn, hacc, h.agAddr, hbs, Core.defer, hpend]
  exact h.setCore _

end

/-! ## The commands at a core that stands at such a word -/

section
variable {w a : Nat} (hparts : onlyParts [.ag] w) (ha : a < 6) (hothers : ∀ b < 6, b ≠ a → cwAg w b = 0) {s : State} {n : Nat}
  (hst : s.standsAt n 1 w)
include hparts ha hothers hst

/-- A command that neither reads, writes nor flushes. -/
theorem agMove_goes (cmd : Instr) (p : AgCmd → Bool) (hexec : exec cmd s = agIssue n a p s) (hcmd : p (agCmd (cwAg w a)) = true)
    (hok : agCmd (cwAg w a) ≠ .reserved) (hacc : (agCmd (cwAg w a)).access = false) (hflush : agCmd (cwAg w a) ≠ .flush) (c3 : Core)
    (hmove : ∀ y, coreGoes [] s y n (s.coreAt n) → y.agMove n w (s.coreAt n) a = c3) (hflow : c3.flow = (s.coreAt n).flow) :
    ∃ t, exec cmd s = .next t ∧ coreGoes [] s t n c3.next := by
  have hw := agWord_of w a hparts ha hothers hok
  have hpush : s.agPushes n (s.coreAt n) w a = false := by
    rw [State.agPushes, hacc]
    simp [tbufStep, hacc, hflush]
  exact hw.goes hst cmd p hexec hcmd (s.coreAt n) c3 (.inr hacc) (by simp [hacc]) (by simp [hpush])
    (fun _ y hy => hy.agFetch_idle hst.lt w a hacc hflush) (fun _ => rfl) hmove hflow

theorem agStep_goes (l : Nat) (h : agCmd (cwAg w a) = .step l) : ∃ t, exec (.agStep n a) s = .next t
    ∧ coreGoes [] s t n { (s.coreAt n).next with
      agIdx := (s.coreAt n).agIdx.set a (agAdvance (s.agCount n a ((s.coreAt n).agSet.getD a 0)) l ((s.coreAt n).agIdx.getD a [])) } :=
  agMove_goes hparts ha hothers hst (.agStep n a) AgCmd.isStep rfl (by rw [h]; rfl) (by rw [h]; simp) (by rw [h]; rfl) (by rw [h]; simp)
    (s.advanced n (s.coreAt n) a l) (fun y hy => hy.agMove_advance w a l _ (.inl h)) rfl

theorem agReset_goes (h : agCmd (cwAg w a) = .reset) : ∃ t, exec (.agReset n a) s = .next t
    ∧ coreGoes [] s t n { (s.coreAt n).next with agIdx := (s.coreAt n).agIdx.set a [0, 0, 0, 0, 0, 0]
                                                 tbuf := if a < 4 then (s.coreAt n).tbuf.set a {} else (s.coreAt n).tbuf } :=
  agMove_goes hparts ha hothers hst (.agReset n a) (· == .reset) rfl (by rw [h]; rfl) (by rw [h]; simp) (by rw [h]; rfl) (by rw [h]; simp)
    { s.coreAt n with agIdx := (s.coreAt n).agIdx.set a [0, 0, 0, 0, 0, 0]
                      tbuf := if a < 4 then (s.coreAt n).tbuf.set a {} else (s.coreAt n).tbuf }
    (fun y _ => y.agMove_reset n w _ a h) rfl

theorem agSelect_goes (k : Nat) (h : agCmd (cwAg w a) = .select k) : ∃ t, exec (.agSelect n a) s = .next t
    ∧ coreGoes [] s t n { (s.coreAt n).next with agIdx := (s.coreAt n).agIdx.set a [0, 0, 0, 0, 0, 0], agSet := (s.coreAt n).agSet.set a k
                                                 tbuf := if a < 4 then (s.coreAt n).tbuf.set a {} else (s.coreAt n).tbuf } :=
  agMove_goes hparts ha hothers hst (.agSelect n a) AgCmd.isSelect rfl (by rw [h]; rfl) (by rw [h]; simp) (by rw [h]; rfl)
      (by rw [h]; simp)
    { s.coreAt n with agIdx := (s.coreAt n).agIdx.set a [0, 0, 0, 0, 0, 0], agSet := (s.coreAt n).agSet.set a k
                      tbuf := if a < 4 then (s.coreAt n).tbuf.set a {} else (s.coreAt n).tbuf }
    (fun y _ => y.agMove_select n w _ a k h) rfl

theorem flush_goes_none (h : agCmd (cwAg w a) = .flush) (htr : s.agTranspose n (s.coreAt n) a = false) :
    ∃ t, exec (.flush n a) s = .next t ∧ coreGoes [] s t n (s.coreAt n).next := by
  have hw := agWord_of w a hparts ha hothers (by rw [h]; simp)
  have hacc : (agCmd (cwAg w a)).access = false := by rw [h]; rfl
  have hpush : s.agPushes n (s.coreAt n) w a = false := by rw [State.agPushes, htr, hacc]; rfl
  exact hw.goes hst (.flush n a) (· == .flush) rfl (by rw [h]; rfl) (s.coreAt n) (s.coreAt n) (.inr hacc) (by simp [hacc])
      (by simp [hpush])
    (fun _ y hy => hy.agFetch_none hst.lt w a hacc htr) (fun _ => rfl)
    (fun y _ => y.agMove_stays n w _ a (.inr h)) rfl

theorem flush_goes_column (h : agCmd (cwAg w a) = .flush) (htr : s.agTranspose n (s.coreAt n) a = true)
    (hfull : ((s.coreAt n).tbuf.getD a {}).full = []) (hfill : ((s.coreAt n).tbuf.getD a {}).fill ≠ [])
    (hroom : s.roomFor n (s.agQueue n (s.coreAt n) a)) : ∃ t, exec (.flush n a) s = .next t
      ∧ coreGoes [] s t n { ((s.coreAt n).push (s.agQueue n (s.coreAt n) a) ((s.coreAt n).cyc + 6)
          (columnOf ((s.coreAt n).tbuf.getD a {}).fill (s.agWidth n (s.coreAt n) a) 0)).next with
        tbuf := (s.coreAt n).tbuf.set a { fill := [], full := ((s.coreAt n).tbuf.getD a {}).fill, pushed := 1 } } := by
  have hw := agWord_of w a hparts ha hothers (by rw [h]; simp)
  have hacc : (agCmd (cwAg w a)).access = false := by rw [h]; rfl
  have ha4 : a < 4 := by
    unfold State.agTranspose at htr
    exact of_decide_eq_true (Bool.and_eq_true _ _ ▸ htr).1
  exact hw.goes hst (.flush n a) (· == .flush) rfl (by rw [h]; rfl) _ _ (.inl ha4) (by simp [hacc]) (fun _ _ => hroom)
    (fun _ y hy => hy.agFetch_flush hst.lt w a h htr hfull hfill) (fun h4 => absurd ha4 (by omega))
    (fun y _ => y.agMove_stays n w _ a (.inr h)) rfl

theorem read_goes (hacc : (agCmd (cwAg w a)).access = true) (ha4 : a < 4) (htr : s.agTranspose n (s.coreAt n) a = false)
    (hout : s.agOut n (s.coreAt n) a = none) (hsrun : (s.coreAt n).srun = []) (hroom : s.roomFor n (s.agQueue n (s.coreAt n) a))
    (cmd : Instr) (p : AgCmd → Bool) (hexec : exec cmd s = agIssue n a p s) (hcmd : p (agCmd (cwAg w a)) = true) (c2 c3 : Core)
    (hc2 : (s.coreAt n).push (s.agQueue n (s.coreAt n) a) ((s.coreAt n).cyc + 6)
      (s.core.load (storeAddr n (s.agAddr n (s.coreAt n) a)) 128) = c2)
    (hmove : ∀ y, coreGoes [] s y n c2 → y.agMove n w c2 a = c3) (hflow : c3.flow = (s.coreAt n).flow) :
    ∃ t, exec cmd s = .next t ∧ coreGoes [] s t n c3.next := by
  have hok : agCmd (cwAg w a) ≠ .reserved := fun h => by rw [h] at hacc; exact absurd hacc (by decide)
  have hw := agWord_of w a hparts ha hothers hok
  exact hw.goes hst cmd p hexec hcmd c2 c3 (.inl ha4) (fun _ => hout) (fun _ _ => hroom)
    (fun _ y hy => hc2 ▸ hy.agFetch_reads hst.lt w a hacc htr hout hsrun) (fun h4 => absurd ha4 (by omega)) hmove hflow

theorem write_goes (hacc : (agCmd (cwAg w a)).access = true) (ha4 : 4 ≤ a) (hout : s.agOut n (s.coreAt n) a = none) (bs : List Byte)
    (hoffers : (s.coreAt n).offers (s.agQueue n (s.coreAt n) a) bs)
    (cmd : Instr) (p : AgCmd → Bool) (hexec : exec cmd s = agIssue n a p s) (hcmd : p (agCmd (cwAg w a)) = true) (c2 c3 : Core)
    (hc2 : ({ ((s.coreAt n).pop (s.agQueue n (s.coreAt n) a)).2 with
      pend := [⟨(s.coreAt n).cyc + 3, 0, .store (s.agAddr n (s.coreAt n) a) bs⟩] } : Core) = c2)
    (hmove : ∀ y, coreGoes [] s y n c2 → y.agMove n w c2 a = c3) (hflow : c3.flow = (s.coreAt n).flow) :
    ∃ t, exec cmd s = .next t ∧ coreGoes [] s t n c3.next := by
  have hok : agCmd (cwAg w a) ≠ .reserved := fun h => by rw [h] at hacc; exact absurd hacc (by decide)
  have hw := agWord_of w a hparts ha hothers hok
  have hpops := hw.pops_write s n (s.coreAt n) ha4 hacc
  refine State.standsAt.agGoes hw hst cmd p hexec hcmd [(8 + a, bs)] ((s.coreAt n).pop (s.agQueue n (s.coreAt n) a)).2 c2 c3
    (hw.boundChecks s n _ fun _ => hout) (hpops ▸ (s.coreAt n).popAll_one _ _ bs hoffers) (hpops ▸ popChecks_one s n _ _ _ bs hoffers)
    (hw.pushChecks hst fun h4 => absurd h4 (by omega)) (fun y hy => ?_) hmove hflow
  exact hw.store hst.lt [(8 + a, bs)] hy ha4 fun u hu => hc2 ▸ hu.agStore_writes hst.lt w a _ bs hacc (mapFind_one _ bs) hst.ready.pend

end

/-- Settles O28, from where a word's commit leaves each generator, and its port's part of the bundle. -/
theorem addressGenerators : Obligations.AddressGenerators := by
  unfold Obligations.AddressGenerators
  refine ⟨fun s n w a hi hp hw ha hidx hset => ⟨fun l h => ?_, fun h => ?_, fun l h => ?_, fun h => ?_, fun k h => ?_, fun h => ?_⟩,
    fun s n w a hst hparts ha hothers => ⟨fun l h => ?_, fun h => ?_, fun k h => ?_, fun h htr => ?_, fun h htr hfull hfill hroom => ?_,
      fun ha4 htr hout hsrun hroom => ⟨fun h => ?_, fun l h => ?_⟩, fun bs ha4 hout hoffers => ⟨fun h => ?_, fun l h => ?_⟩⟩⟩
  · exact advance_issues s n w a hi hp hw ha hidx hset l (.inr h) (.issueStep n a) AgCmd.isIssueStep rfl (by rw [h]; rfl)
  · exact leave_issues s n w a hi hp hw ha hidx hset (.inl h) (.issue n a) (· == .issue) rfl (by rw [h]; rfl)
  · exact advance_issues s n w a hi hp hw ha hidx hset l (.inl h) (.agStep n a) AgCmd.isStep rfl (by rw [h]; rfl)
  · exact reset_issues s n w a hi hp hw ha hidx hset h
  · exact select_issues s n w a hi hp hw ha hidx hset k h
  · exact leave_issues s n w a hi hp hw ha hidx hset (.inr h) (.flush n a) (· == .flush) rfl (by rw [h]; rfl)
  · exact agStep_goes hparts ha hothers hst l h
  · exact agReset_goes hparts ha hothers hst h
  · exact agSelect_goes hparts ha hothers hst k h
  · exact flush_goes_none hparts ha hothers hst h htr
  · exact flush_goes_column hparts ha hothers hst h htr hfull hfill hroom
  · exact read_goes hparts ha hothers hst (by rw [h]; rfl) ha4 htr hout hsrun hroom (.issue n a) (· == .issue) rfl (by rw [h]; rfl) _ _
      rfl
      (fun y _ => y.agMove_stays n w _ a (.inl h)) rfl
  · exact read_goes hparts ha hothers hst (by rw [h]; rfl) ha4 htr hout hsrun hroom (.issueStep n a) AgCmd.isIssueStep rfl
      (by rw [h]; rfl) _
      (s.advanced n _ a l) rfl (fun y hy => hy.agMove_advance w a l _ (.inr h)) rfl
  · exact write_goes hparts ha hothers hst (by rw [h]; rfl) ha4 hout bs hoffers (.issue n a) (· == .issue) rfl (by rw [h]; rfl) _ _ rfl
      (fun y _ => y.agMove_stays n w _ a (.inl h)) rfl
  · exact write_goes hparts ha hothers hst (by rw [h]; rfl) ha4 hout bs hoffers (.issueStep n a) AgCmd.isIssueStep rfl (by rw [h]; rfl) _
      (s.advanced n _ a l) rfl (fun y hy => hy.agMove_advance w a l _ (.inr h)) rfl

end Sys2Proof.Machine

/-! Words of the vector engine alone, and operations that work lane by lane (O31). -/
namespace Sys2Proof.Machine

/-! ## The lanes' part of a bundle (R88, R89, R138) -/

/-- Quiet address generators leave the state. -/
theorem State.fetch_quiet (x : State) (n w : Nat) (popped : List (Nat × List Byte)) (hag : agQuiet w) :
    ([4, 5] : List Nat).foldl (State.agStore n w popped) ((List.range 4).foldl (State.agFetch n w) x) = x := by
  have hfetch : (List.range 4).foldl (State.agFetch n w) x = x :=
    List.foldlRecOn (motive := fun u : State => u = x) _ _ rfl fun u hu a ha => by
      obtain ⟨hacc, hflush⟩ := hag a (by have := List.mem_range.mp ha; omega)
      have hstep (wd : Nat) (row : List Byte) (t : TBuf) : tbufStep wd (agCmd (cwAg w a)) row t = (none, t) := by
        simp [tbufStep, hacc, hflush]
      have hsame : x.setCore n { x.coreAt n with tbuf := (x.coreAt n).tbuf.set a ((x.coreAt n).tbuf.getD a {}) } = x := by
        rw [List.set_getD_self, State.setCore, State.coreAt, List.set_getD_self]
      rw [hu, State.agFetch]
      dsimp only
      rw [hstep, hacc]
      dsimp only
      rw [hsame]
      split
      · rfl
      · rfl
  rw [hfetch]
  change State.agStore n w popped (State.agStore n w popped x 4) 5 = x
  simp [State.agStore, (hag 4 (by omega)).1, (hag 5 (by omega)).1]

/-- From the vector operation's result to the pushes of a bundle. -/
def State.laneStage (y : State) (n w : Nat) (s0 : Bool) (popped : List (Nat × List Byte)) (row seed cnt : Nat) (accUnit : Holder)
    (vbytes : List Byte) : State :=
  let vlanes := sourceVals (vCode (cwVfmt w)) vbytes (vLanes (cwVfmt w))
  let r := (y.vecTo n w (vop s0 w) row vbytes).convStage n w (convOn s0 w) row seed cnt (convUnit (cwConv w) popped accUnit vlanes)
  r.2.pushStage n w (vecPushes (vop s0 w) w ((y.coreAt n).cyc + 8) vbytes ++ r.1)

/-- A word orders nothing but lane operations, draws and pushes, and no part of it is a reserved encoding. -/
structure laneWord (s0 : Bool) (w : Nat) : Prop where
  seq : cwSeqOp w = 0
  loop : cwLop w = 0
  ag : ∀ a < 6, cwAg w a = 0
  tmode : cwTmode w = 0
  swap : cwSwap w = false
  pops : ∀ i < 4, endOn (cwPop w i) = false
  vec : vectorReserved w = false
  fused : vectorFused s0 w = false
  conv : convReserved s0 w = false

section
variable {s0 : Bool} {w : Nat} (hw : laneWord s0 w)
include hw

theorem laneWord.wordReserved : wordReserved s0 w = false :=
  wordReserved_eq_false s0 w (seqReserved_idle w hw.seq) (loopReserved_idle w hw.loop) (tensorReserved_idle s0 w hw.tmode) hw.vec hw.conv
    fun a ha => by
      rw [hw.ag a ha]
      exact fun h => nomatch h

theorem laneWord.vop : vop s0 w = cwVop w := if_neg (by simp [hw.vec, hw.fused])

theorem laneWord.pops_none (s : State) (n : Nat) (c : Core) : s.pops n c w = [] :=
  Machine.pops_none s n c w (agQuiet_of_idle w hw.ag) hw.pops

/-- The end of a bundle of such a word is the lanes' part of it. -/
theorem laneWord.bundleRest {l : List Nat} {s x : State} {n : Nat} {c2 : Core} (hn : n < s.cores.length) (row seed cnt : Nat) (accUnit : Holder)
    (vbytes : List Byte) (hlane : coreGoes l s (x.laneStage n w s0 [] row seed cnt accUnit vbytes) n c2) :
    coreGoes l s (x.bundleRest n w s0 [] row seed cnt accUnit vbytes) n c2 := by
  unfold State.bundleRest
  dsimp only
  rw [x.fetch_quiet n w [] (agQuiet_of_idle w hw.ag), tmode_idle _ _ hw.tmode, State.tensorStage_idle]
  unfold State.agStage
  rw [State.agMoves_idle _ n w _ hw.ag]
  exact hlane.coreAt hn ▸ hlane.setCore _

/-- The commit of such a word, from what the vector engine leaves. -/
theorem laneWord.commit {l : List Nat} {s s' y : State} {n : Nat} {c2 : Core} (hs0 : s.fuse.s0 = s0) (hn : n < s'.cores.length)
    (row ptr : Nat) (bs : List Byte)
    (hrow : vecRow (Machine.vop s0 w != 0 || convOn s0 w) (cwVrowctl w) (s.coreAt n).vPtr = (row, ptr))
    (hvec : (s.bundleStart n w).vecStage n (s.coreAt n) w (Machine.vop s0 w) (convOn s0 w) [] row = (bs, y))
    (hlane : ∀ seed cnt, coreGoes l s' (y.laneStage n w s0 [] row seed cnt
      (sourceVals (cwConv w).cfrom ((s.bundleStart n w).accRow n (cwVtile w) row) 128) bs) n c2) :
    coreGoes l s' (s.commitBundle n w) n c2 := by
  have hpop : (s.coreAt n).popAll (s.pops n (s.coreAt n) w) = ([], s.coreAt n) := by
    rw [hw.pops_none]
    rfl
  rw [s.commitBundle_eq n w]
  dsimp only
  rw [hs0, hpop, hrow]
  dsimp only
  rw [hvec]
  exact hw.bundleRest hn _ _ _ _ _ (hlane _ _)

/-- Such a word, from what its commit leaves of the core to the next word. -/
theorem laneWord.goes {l : List Nat} {s s' : State} {n : Nat} {c2 : Core} (hst : s.standsAt n 1 w) (hs0 : s.fuse.s0 = s0) (cmd : Instr)
    (sel : Bool → Nat → Bool) (hexec : exec cmd s = Machine.issueCmd n sel s) (hsel : sel s0 w = true) (hn' : n < s'.cores.length)
    (hpush : s.pushChecks n (s.coreAt n) [] (s.pushes n (s.coreAt n) w (Machine.vop s0 w) (s.convPushes n (s.coreAt n) w)) = [])
    (hcommit : coreGoes l s' (s.commitBundle n w) n c2) (hflow : c2.flow = (s.coreAt n).flow) :
    ∃ t, exec cmd s = .next t ∧ coreGoes l s' t n c2.next := by
  have hseqOp : seqOp w = 0 := (seqOp_of w (seqReserved_idle w hw.seq)).trans hw.seq
  have hpops := hw.pops_none s n (s.coreAt n)
  obtain ⟨hpc, hrep, hcyc, -⟩ := Core.flow_parts hflow
  refine ⟨_, hexec.trans (hst.issueCmd sel (hs0 ▸ hsel) (by omega)), ?_⟩
  have hgo := coreGoes.bundleTo (.refl [] s n) hst.lt hn' w hst.ready (boundChecks_quiet s n _ w (agQuiet_of_idle w hw.ag))
    (by rw [hpops, popChecks_none]) (by rw [hpops, hs0]; exact hpush) hcommit (fun y hy => hy.loopOp_idle w hw.loop) fun y hy => by
      rw [y.swapAct_idle n w hw.swap]
      exact hy.seqAct_next hn' w (.inl hseqOp) (by rw [hpc]; exact hst.ready.pc)
  rw [← hcyc] at hgo
  rw [← Core.ticked_next c2 (hrep.trans hst.ready.rep)]
  exact hgo

end

/-! ## The vector engine (R89, R155) -/

/-- An accumulator row of a core without streams in progress. -/
theorem coreGoes.accRow {l : List Nat} {s y : State} {n : Nat} {c : Core} (h : coreGoes l s y n c) (hn : n < s.cores.length)
    (hsrun : c.srun = []) (t r : Nat) : y.accRow n t r = s.core.load (accAddr n t r) 512 := by
  have hstream : y.streaming n 5 (t * 128 + r) = false := by
    have hat : (y.coreAt n).srun = [] := by rw [h.coreAt hn, hsrun]
    change ((y.coreAt n).srun.any _) = false
    rw [hat]
    rfl
  rw [State.accRow, hstream, h.core]
  rfl

section
variable (x : State) (n : Nat) (k : Core) (w : Nat) (popped : List (Nat × List Byte)) (row : Nat)

theorem State.vecOperand_row (hf : cwVfmt w = 0) : x.vecOperand n k w popped row 4 = (x.accRow n (cwVtile w) row, x) := by
  simp [State.vecOperand, hf]

theorem State.vecOperand_reg : x.vecOperand n k w popped row 5 = (k.vregs.getD (cwVreg w) [], x) := by simp [State.vecOperand]

theorem State.vecResult_move (hv : cwVop w = 1) :
    x.vecResult n k w popped row = x.vecOperand n k w popped row (cwVsrcA w) := by
  simp [State.vecResult, hv]

/-- The vector operations that work lane by lane. -/
def laneVop (v : Nat) : Prop := 2 ≤ v ∧ v ≤ 13 ∨ v = 17

/-- Lane i of a packed row of FP32 codes. -/
theorem valueAt_lanes (g : Nat → Nat) (i : Nat) (hi : i < 128) :
    valueAt (packValues 32 ((List.range 128).map g)) 32 i = g i % 2 ^ 32 := by
  rw [valueAt_packValues 4 i _ (by simpa using hi)]
  rw [List.getD_eq_getElem?_getD, List.getElem?_map, List.getElem?_range hi, Option.map_some, Option.getD_some]

section
variable (hf : cwVfmt w = 0)
include hf

/-- The result of an operation that works lane by lane on FP32. -/
theorem State.vecResult_lanes (hv : laneVop (cwVop w)) : x.vecResult n k w popped row =
    (packValues 32 ((List.range 128).map fun i => laneOp (cwVop w) 0
        ((valuesOf (x.vecOperand n k w popped row (cwVsrcA w)).1 32 128).getD i 0)
        ((valuesOf ((x.vecOperand n k w popped row (cwVsrcA w)).2.vecOperand n k w popped row (cwVsrcB w)).1 32 128).getD i 0)
        ((valuesOf (k.vregs.getD (cwVreg w) []) 32 128).getD i 0)),
      ((x.vecOperand n k w popped row (cwVsrcA w)).2.vecOperand n k w popped row (cwVsrcB w)).2) := by
  have hw : vWidth 0 = 32 := rfl
  have hl : vLanes 0 = 128 := rfl
  obtain ⟨v, hvop⟩ : ∃ v, cwVop w = v := ⟨_, rfl⟩
  rw [hvop] at hv
  have h1 : v ≠ 1 := by unfold laneVop at hv; omega
  have h14 : ¬ (v = 14 ∨ v = 15) := by unfold laneVop at hv; omega
  have h16 : v ≠ 16 := by unfold laneVop at hv; omega
  have h18 : v ≠ 18 := by unfold laneVop at hv; omega
  have h19 : v ≠ 19 := by unfold laneVop at hv; omega
  have h20 : v ≠ 20 := by unfold laneVop at hv; omega
  have h21 : ¬ (v = 21 ∨ v = 22) := by unfold laneVop at hv; omega
  have h23 : v ≠ 23 := by unfold laneVop at hv; omega
  unfold State.vecResult
  dsimp only
  rw [hvop, hf, if_neg h1, if_neg h14, if_neg h16, if_neg h18, if_neg h19, if_neg h20, if_neg h21, if_neg h23, valuesOf_length, hw, hl]

theorem State.valueAt_vecResult (hv : laneVop (cwVop w)) (i : Nat) (hi : i < 128) :
    valueAt (x.vecResult n k w popped row).1 32 i = laneOp (cwVop w) 0
      (valueAt (x.vecOperand n k w popped row (cwVsrcA w)).1 32 i)
      (valueAt ((x.vecOperand n k w popped row (cwVsrcA w)).2.vecOperand n k w popped row (cwVsrcB w)).1 32 i)
      (valueAt (k.vregs.getD (cwVreg w) []) 32 i) % 2 ^ 32 := by
  rw [x.vecResult_lanes n k w popped row hf hv, valueAt_lanes _ i hi, valuesOf_getD _ _ _ i hi, valuesOf_getD _ _ _ i hi,
    valuesOf_getD _ _ _ i hi]

end

end

/-! ## A word of the vector engine alone -/

theorem State.vectorWord.lane {s : State} {n w v : Nat} (h : s.vectorWord n w v 0 4) (hv : v < 24) : laneWord s.fuse.s0 w := by
  obtain ⟨-, hparts, hs0, -, hvop, hvf, -, -, -, hctl⟩ := h
  obtain ⟨htm, hswap⟩ := hparts .tensor (by decide)
  obtain ⟨hpops, -⟩ := hparts .ends (by decide)
  refine ⟨hparts .seq (by decide), hparts .loop (by decide), hparts .ag (by decide), htm, hswap, hpops, ?_, ?_,
    convReserved_idle _ w (hparts .conv (by decide))⟩
  · simp [vectorReserved, hvop, hvf, hctl]
    omega
  · simp [vectorFused, hs0]

/-- What a word of the vector engine alone leaves, from the bytes of its result. -/
theorem State.vectorWord.goes {s : State} {n w v : Nat} (h : s.vectorWord n w v 0 4) (hv : v < 24) (hv0 : v ≠ 0) (hv23 : v ≠ 23)
    (cmd : Instr) (sel : Bool → Nat → Bool) (hexec : exec cmd s = issueCmd n sel s) (hsel : sel s.fuse.s0 w = true)
    (p : List Byte → Prop)
    (hres : ∀ (x : State) c, coreGoes [] s x n c → c.srun = [] →
      ∃ bs y, x.vecResult n (s.coreAt n) w [] (s.vectorRow n w).1 = (bs, y) ∧ coreGoes [] s y n c ∧ p bs) :
    ∃ t bs, exec cmd s = .next t ∧ s.vectorGoes t [] n w bs ∧ p bs := by
  have hw := h.lane hv
  obtain ⟨hst, hparts, -, hsrun, hvop, -, -, -, hdst, -⟩ := h
  have hconv : (cwConv w).cto = 0 := hparts .conv (by decide)
  have hv' : vop s.fuse.s0 w = v := hw.vop.trans hvop
  have hcv : convOn s.fuse.s0 w = false := convOn_idle _ _ hconv
  have hon : (vop s.fuse.s0 w != 0 || convOn s.fuse.s0 w) = true := by simp [hv', hv0]
  have hpops := hw.pops_none s n (s.coreAt n)
  obtain ⟨-, hpushEnds⟩ := hparts .ends (by decide)
  have h5 := (coreGoes.refl [] s n).bundleStart hst.lt w [] hpops hw.wordReserved hw.fused (hparts .draw (by decide)) (.inl hcv)
  rw [hon] at h5
  obtain ⟨c5, hc5⟩ : ∃ c5 : Core, { s.coreAt n with vPtr := (s.vectorRow n w).2 } = c5 := ⟨_, rfl⟩
  have hc5' : ({ ((s.coreAt n).popAll []).2 with vPtr := (vecRow true (cwVrowctl w) (s.coreAt n).vPtr).2 } : Core) = c5 := hc5
  rw [hc5'] at h5
  obtain ⟨bs, y, hvec, hy, hp⟩ := hres _ c5 h5 (hc5 ▸ hsrun)
  have hcommit : coreGoes [] s (s.commitBundle n w) n (c5.defer (c5.cyc + 8) 0 (.vreg (cwVreg w) bs)) := by
    refine hw.commit rfl hst.lt (s.vectorRow n w).1 (s.vectorRow n w).2 bs (by rw [hon]; rfl)
      (by rw [State.vecStage, hv', if_neg hv0, hvec]) fun _ _ => ?_
    have hto (row : Nat) : y.vecTo n w v row bs = y.setCore n (c5.defer (c5.cyc + 8) 0 (.vreg (cwVreg w) bs)) := by
      have hnot : ¬ (v = 0 ∨ v = 23 ∨ cwVdst w < 2) := by omega
      unfold State.vecTo
      dsimp only
      rw [hy.coreAt hst.lt, if_neg hnot, if_pos hdst]
    have hnone : vecPushes v w ((y.coreAt n).cyc + 8) bs = [] := by
      unfold vecPushes
      rw [if_neg hv0, if_neg hv23, if_neg (by omega)]
    unfold State.laneStage
    dsimp only
    rw [hv', hcv, State.convStage_idle, hto, hnone]
    exact hy.setCore _
  obtain ⟨t, ht, hgo⟩ := hw.goes hst rfl cmd sel hexec hsel hst.lt
    (by rw [pushes_none s n _ w (agQuiet_of_idle w hw.ag) _ _ hpushEnds, pushChecks_none]) hcommit (by rw [← hc5]; rfl)
  refine ⟨t, bs, ht, ?_, hp⟩
  have hpend : (s.coreAt n).pend = [] := hst.ready.pend
  unfold State.vectorGoes
  convert hgo using 1
  rw [← hc5]
  simp [Core.defer, Core.next, Core.spent, hpend, pendInsert]

/-- The operands of such a word, and the result of an operation that works lane by lane. -/
theorem State.vectorWord.lanes {s : State} {n w v : Nat} (h : s.vectorWord n w v 0 4) (hv : laneVop v) (cmd : Instr)
    (hexec : exec cmd s = issueCmd n (fun s0 w => vop s0 w == v) s) (f : Nat → Nat → Nat) (hf : ∀ a b, laneOp v 0 a b b = f a b) :
    ∃ t bs, exec cmd s = .next t ∧ s.vectorGoes t [] n w bs
      ∧ ∀ i < 128, valueAt bs 32 i = f (valueAt (s.rowBytes n w) 32 i) (valueAt (s.vregBytes n w) 32 i) % 2 ^ 32 := by
  obtain ⟨hv24, hv0, hv23⟩ : v < 24 ∧ v ≠ 0 ∧ v ≠ 23 := by
    unfold laneVop at hv
    omega
  have hvop : vop s.fuse.s0 w = v := (h.lane hv24).vop.trans h.2.2.2.2.1
  refine h.goes hv24 hv0 hv23 cmd _ hexec (by simp [hvop]) _ fun x c hx hsrun => ?_
  obtain ⟨hst, -, -, -, hop, hvf, ha, hb, -⟩ := h
  have hrow := hx.accRow hst.lt hsrun (cwVtile w) (s.vectorRow n w).1
  obtain ⟨bs, y, hres⟩ : ∃ bs y, x.vecResult n (s.coreAt n) w [] (s.vectorRow n w).1 = (bs, y) := ⟨_, _, rfl⟩
  refine ⟨bs, y, hres, ?_, fun i hi => ?_⟩
  · obtain rfl : x = y := by
      rw [x.vecResult_lanes n _ w _ _ hvf (by rw [hop]; exact hv), ha, hb, x.vecOperand_row _ _ _ _ _ hvf, State.vecOperand_reg] at hres
      exact congrArg Prod.snd hres
    exact hx
  · have hval := x.valueAt_vecResult n (s.coreAt n) w [] (s.vectorRow n w).1 hvf (by rw [hop]; exact hv) i hi
    rw [hres, ha, hb, x.vecOperand_row _ _ _ _ _ hvf, State.vecOperand_reg, hop, hrow] at hval
    rw [hf] at hval
    rw [State.rowBytes, State.vregBytes]
    dsimp only at hval
    exact hval

theorem State.vectorWord.move {s : State} {n w : Nat} (h : s.vectorWord n w 1 0 4) :
    ∃ t bs, exec (.move n) s = .next t ∧ s.vectorGoes t [] n w bs ∧ bs = s.rowBytes n w := by
  have hvop : vop s.fuse.s0 w = 1 := (h.lane (by omega)).vop.trans h.2.2.2.2.1
  refine h.goes (by omega) (by omega) (by omega) (.move n) (fun g w => vop g w == 1) rfl (by simp [hvop]) _ fun x c hx hsrun => ?_
  obtain ⟨hst, -, -, -, hop, hvf, ha, -⟩ := h
  refine ⟨_, x, ?_, hx, hx.accRow hst.lt hsrun (cwVtile w) (s.vectorRow n w).1⟩
  rw [x.vecResult_move n _ w _ _ hop, ha, x.vecOperand_row _ _ _ _ _ hvf]

theorem ofBytes_lt (bs : List Byte) : ofBytes bs < 256 ^ bs.length := by
  induction bs with
  | nil => simp [ofBytes]
  | cons b bs ih =>
    have hb : b.toNat < 256 := b.isLt
    rw [ofBytes, List.length_cons, Nat.pow_succ]
    omega

theorem valueAt_lt (bs : List Byte) (i : Nat) : valueAt bs 32 i < 2 ^ 32 := by
  refine (ofBytes_lt _).trans_le ?_
  have hlen : (List.take 4 (List.drop (i * 4) bs)).length ≤ 4 := List.length_take_le _ _
  exact (Nat.pow_le_pow_right (by omega) hlen).trans (by norm_num)

theorem State.vecResult_select (x : State) (n : Nat) (k : Core) (w : Nat) (popped : List (Nat × List Byte)) (row : Nat)
    (hv : cwVop w = 18) (hf : cwVfmt w = 0) (ba bb : List Byte) (x1 x2 : State)
    (ha : x.vecOperand n k w popped row (cwVsrcA w) = (ba, x1)) (hb : x1.vecOperand n k w popped row (cwVsrcB w) = (bb, x2)) :
    x.vecResult n k w popped row = (packValues 32 ((List.range 128).map fun i =>
      if valueAt (x2.freeBytes 256).1 4 i % 2 = 1 then (valuesOf ba 32 128).getD i 0 else (valuesOf bb 32 128).getD i 0),
      (x2.freeBytes 256).2) := by
  have hw : vWidth 0 = 32 := rfl
  have hl : vLanes 0 = 128 := rfl
  unfold State.vecResult
  dsimp only
  rw [hv, hf, ha]
  dsimp only
  rw [hb, hw, hl, valuesOf_length]
  rfl

theorem State.vectorWord.select {s : State} {n w : Nat} (h : s.vectorWord n w 18 0 4) :
    ∃ t bs, exec (.select n) s = .next t ∧ s.vectorGoes t [] n w bs
      ∧ ∀ i < 128, valueAt bs 32 i = valueAt (s.rowBytes n w) 32 i ∨ valueAt bs 32 i = valueAt (s.vregBytes n w) 32 i := by
  have hvop : vop s.fuse.s0 w = 18 := (h.lane (by omega)).vop.trans h.2.2.2.2.1
  refine h.goes (by omega) (by omega) (by omega) (.select n) (fun g w => vop g w == 18) rfl (by simp [hvop]) _ fun x c hx hsrun => ?_
  obtain ⟨hst, -, -, -, hop, hvf, ha, hb, -⟩ := h
  have hrow := hx.accRow hst.lt hsrun (cwVtile w) (s.vectorRow n w).1
  have hsel := x.vecResult_select n (s.coreAt n) w [] (s.vectorRow n w).1 hop hvf _ _ x x (by rw [ha, x.vecOperand_row _ _ _ _ _ hvf])
    (by rw [hb, State.vecOperand_reg])
  have hlt (bs : List Byte) (i : Nat) : valueAt bs 32 i % 2 ^ 32 = valueAt bs 32 i :=
    Nat.mod_eq_of_lt (valueAt_lt bs i)
  refine ⟨_, _, hsel, hx.freeBytes 256, fun i hi => ?_⟩
  rw [valueAt_lanes _ i hi, valuesOf_getD _ _ _ i hi, valuesOf_getD _ _ _ i hi, hrow]
  split
  · exact .inl (hlt _ i)
  · exact .inr (hlt _ i)

/-! ## Order of FP32 values -/

theorem FV.ltFin_asymm (a b : FV) (h : a.ltFin b = true) : b.ltFin a = false := by
  simp only [FV.ltFin, decide_eq_true_eq, decide_eq_false_iff_not, min_comm b.exp] at *
  omega

theorem FV.lt_asymm (a b : FV) (h : a.lt b = true) : b.lt a = false := by
  cases a with
  | nan => simp [FV.lt] at h
  | inf p =>
    cases b with
    | nan => rfl
    | inf q => cases p <;> cases q <;> simp_all [FV.lt]
    | fin q m e => simpa [FV.lt] using h
  | fin p m e =>
    cases b with
    | nan => rfl
    | inf q => simpa [FV.lt] using h
    | fin q m' e' => exact FV.ltFin_asymm _ _ h

section
variable (a b c : Nat) (ha : f32 a ≠ .nan) (hb : f32 b ≠ .nan)
include ha hb

theorem laneOp_max_min (h : (f32 a).lt (f32 b) = true) : laneOp 6 0 a b c = b ∧ laneOp 7 0 a b c = a
    ∧ laneOp 6 0 b a c = b ∧ laneOp 7 0 b a c = a := by
  have hnot := FV.lt_asymm _ _ h
  simp only [f32] at *
  simp [laneOp, vForm, ha, hb, h, hnot]

theorem laneOp_cmpGt : laneOp 17 0 a b c = (Config.cmpCode ((f32 b).lt (f32 a)) 0).toNat % 2 ^ 32 := by
  have hnot : ¬ (f32 a = .nan ∨ f32 b = .nan) := by simp [ha, hb]
  exact if_neg hnot

end

theorem laneOp_abs_neg (a b c : Nat) (ha : f32 a ≠ .nan) : laneOp 8 0 a b c = a % 2 ^ 31 ∧ laneOp 9 0 a b c = (a + 2 ^ 31) % 2 ^ 32 := by
  have hsign : ffF32.signPos = 31 := rfl
  simp only [f32] at ha
  simp [laneOp, vForm, ha, hsign, vWidth]

/-- The lanes of an operation that works lane by lane, and the issue of its word. -/
theorem lanes_issue (s : State) (n w v : Nat) (cmd : Instr) (hv : laneVop v)
    (hexec : exec cmd s = issueCmd n (fun s0 w => vop s0 w == v) s) (f : Nat → Nat → Nat → Nat) (hf : ∀ a b c, laneOp v 0 a b c = f a b c)
    (hi : s.issuesWord n w) (hp : s.passes n w) (hw : s.noWait n w) (hs0 : s.fuse.s0 = false) :
    (vop false w = v → ∃ t, exec cmd s = .next t ∧ issuedWord s t n w)
      ∧ ∀ (x : State) (k : Core) popped row, cwVop w = v → cwVfmt w = 0 → ∀ i < 128,
        valueAt (x.vecResult n k w popped row).1 32 i = f (valueAt (x.vecOperand n k w popped row (cwVsrcA w)).1 32 i)
          (valueAt ((x.vecOperand n k w popped row (cwVsrcA w)).2.vecOperand n k w popped row (cwVsrcB w)).1 32 i)
          (valueAt (k.vregs.getD (cwVreg w) []) 32 i) % 2 ^ 32 := by
  refine ⟨fun hop => hexec ▸ issueCmd_issues s n w _ hi hp hw (by simp [hs0, hop]), fun x k popped row hop hvf i hi => ?_⟩
  rw [x.valueAt_vecResult n k w popped row hvf (by rw [hop]; exact hv) i hi, hop, hf]

/-- Settles O31, from the stages of a bundle whose lanes alone order anything, and the values of its packed result. -/
theorem vectorArithmetic : Obligations.VectorArithmetic := by
  unfold Obligations.VectorArithmetic
  refine ⟨fun s n w hi hp hw hs0 => ?_, fun s n w hi hp hw hs0 => ?_, fun s n w => ?_⟩
  · refine ⟨⟨fun hop => issueCmd_issues s n w _ hi hp hw (by simp [hs0, hop]), fun x k popped row hop =>
        congrArg Prod.fst (x.vecResult_move n k w popped row hop)⟩, ?_⟩
    exact ⟨lanes_issue s n w 2 (.add n) (by simp [laneVop]) rfl _ (fun _ _ _ => rfl) hi hp hw hs0,
      lanes_issue s n w 3 (.sub n) (by simp [laneVop]) rfl _ (fun _ _ _ => rfl) hi hp hw hs0,
      lanes_issue s n w 4 (.mul n) (by simp [laneVop]) rfl _ (fun _ _ _ => rfl) hi hp hw hs0,
      lanes_issue s n w 5 (.fma n) (by simp [laneVop]) rfl _ (fun _ _ _ => rfl) hi hp hw hs0⟩
  · have issues (v : Nat) (cmd : Instr) (hexec : exec cmd s = issueCmd n (fun s0 w => vop s0 w == v) s) (hop : vop false w = v) :
        ∃ t, exec cmd s = .next t ∧ issuedWord s t n w :=
      hexec ▸ issueCmd_issues s n w _ hi hp hw (by simp [hs0, hop])
    refine ⟨issues 6 _ rfl, issues 7 _ rfl, issues 8 _ rfl, issues 9 _ rfl, issues 17 _ rfl, issues 18 _ rfl, ?_⟩
    intro a b c _ _ ha hb
    obtain ⟨habs, hneg⟩ := laneOp_abs_neg a b c ha
    refine ⟨fun hlt => ?_, fun hlt => ?_, habs, hneg, laneOp_cmpGt a b c ha hb⟩
    · obtain ⟨hmax, hmin, -⟩ := laneOp_max_min a b c ha hb hlt
      exact ⟨hmax, hmin⟩
    · obtain ⟨-, -, hmax, hmin⟩ := laneOp_max_min b a c hb ha hlt
      exact ⟨hmax, hmin⟩
  · have one (v : Nat) (hv : laneVop v) (cmd : Instr) (hexec : exec cmd s = issueCmd n (fun s0 w => vop s0 w == v) s)
        (h : s.vectorWord n w v 0 4) := h.lanes hv cmd hexec (fun a b => laneOp v 0 a b b) fun _ _ => rfl
    exact ⟨fun h => h.move, one 2 (by simp [laneVop]) (.add n) rfl, one 3 (by simp [laneVop]) (.sub n) rfl,
      one 4 (by simp [laneVop]) (.mul n) rfl, one 5 (by simp [laneVop]) (.fma n) rfl, one 6 (by simp [laneVop]) (.max n) rfl,
      one 7 (by simp [laneVop]) (.min n) rfl, one 8 (by simp [laneVop]) (.abs n) rfl, one 9 (by simp [laneVop]) (.neg n) rfl,
      one 17 (by simp [laneVop]) (.cmpGt n) rfl, fun h => h.select⟩
end Sys2Proof.Machine

/-! Words of the conversion unit: rows, captures and draws (O33). -/
namespace Sys2Proof.Machine

/-! ## What a conversion reads (R135, R175) -/

/-- State y agrees with s in what the conversions of core n read: they differ in the counts of its conversion tags. -/
structure SameConv (s y : State) (n : Nat) : Prop where
  reg : ∀ a, a < coreReg n + 0x1400 ∨ coreReg n + 0x1500 ≤ a → y.reg a = s.reg a
  free : y.freeCtr = s.freeCtr
  autoBank : (y.coreAt n).autoBank = (s.coreAt n).autoBank
  autoNew : (y.coreAt n).autoNew = (s.coreAt n).autoNew

namespace SameConv

section
variable {s y : State} {n : Nat} (h : SameConv s y n)
include h

theorem get (f : Field) (hf : f.addr < coreReg n + 0x1400 ∨ coreReg n + 0x1500 ≤ f.addr) : y.get f = s.get f :=
  State.get_congr f (h.reg _ hf)

theorem on (f : Field) (hf : f.addr < coreReg n + 0x1400 ∨ coreReg n + 0x1500 ≤ f.addr) : y.on f = s.on f := by
  rw [State.on, h.get f hf]
  rfl

theorem bankOf (hn : n < 100) : y.bankOf n = s.bankOf n := by
  rw [State.bankOf, h.on _ (.inl (show coreReg n + 0x0 < _ by omega)), h.get F.SEQ_STEP_TAG (.inr ?_),
    h.get (F.CONV_CTRL_FREE_BANK n) (.inl (show coreReg n + 0x1000 < _ by omega))]
  · rfl
  · simp only [F.SEQ_STEP_TAG, A.SEQ_STEP, coreReg, seqReg]
    omega

theorem slotVal (b k i : Nat) : y.slotVal n b k i = s.slotVal n b k i := by
  have hword : y.reg (A.SCALE_WORD n b (32 * k + i / 4)) = s.reg (A.SCALE_WORD n b (32 * k + i / 4)) :=
    h.reg _ (.inr (show _ ≤ coreReg n + 0x8000 + 0x4000 * b + 0x8 * (32 * k + i / 4) by omega))
  unfold State.slotVal
  dsimp only
  rw [hword, h.on _ (.inl (show coreReg n + 0x1008 < _ by omega)), h.autoBank, h.autoNew, h.free]

theorem scaleAt (b k i row : Nat) (hk : k < 64) : y.scaleAt n b k i row = s.scaleAt n b k i row := by
  rw [State.scaleAt, h.get (F.SCALE_CFG_MODE n k) (.inl (show coreReg n + 0x1100 + 0x8 * k < _ by omega)), h.slotVal, h.slotVal,
      h.slotVal,
    h.slotVal, h.slotVal]
  rfl

theorem factor (b k i row : Nat) (hk : k < 64) : y.factor n b k i row = s.factor n b k i row := by
  rw [State.factor, h.scaleAt b k i row hk, h.on (F.SCALE_CFG_DIR n k) (.inl (show coreReg n + 0x1100 + 0x8 * k < _ by omega))]
  rfl

theorem targetFmt (cto : Nat) : y.targetFmt n cto = s.targetFmt n cto := by
  rw [State.targetFmt, h.get (F.TABLE_CFG_F_OFMT n) (.inr (show _ ≤ coreReg n + 0x1818 by omega)),
    h.get (F.TABLE_CFG_D_OFMT n) (.inr (show _ ≤ coreReg n + 0x1820 by omega))]
  rfl

theorem tableEval (deriv : Bool) (v : FV) : y.tableEval n deriv v = s.tableEval n deriv v := by
  have hentry (k : Nat) : y.reg (if deriv then A.DERIV_ENTRY n k else A.FUNC_ENTRY n k)
      = s.reg (if deriv then A.DERIV_ENTRY n k else A.FUNC_ENTRY n k) := by
    refine h.reg _ (.inr ?_)
    split
    · exact (show _ ≤ coreReg n + 0x19000 + 0x8 * k by omega)
    · exact (show _ ≤ coreReg n + 0x18000 + 0x8 * k by omega)
  unfold State.tableEval
  dsimp only
  simp only [hentry, h.get (F.TABLE_CFG_F_EMIN n) (.inr (show _ ≤ coreReg n + 0x1818 by omega)),
    h.get (F.TABLE_CFG_D_EMIN n) (.inr (show _ ≤ coreReg n + 0x1820 by omega))]

/-- One value without block fixed-point. -/
theorem convOne (b row : Nat) (ci : ConvIn) (md : RMode) (i v : Nat) (hssel : ci.ssel < 64) (hfrom : ci.cfrom ≠ 12) (hto : ci.cto ≠ 12) :
    y.convOne n b row ci md i v = s.convOne n b row ci md i v := by
  have hisel : (if ci.cto == 15 then s.get (F.TABLE_CFG_D_ISEL n) else s.get (F.TABLE_CFG_F_ISEL n)) < 64 := by
    split
    · exact s.get_lt (F.TABLE_CFG_D_ISEL n)
    · exact s.get_lt (F.TABLE_CFG_F_ISEL n)
  unfold State.convOne
  dsimp only
  rw [if_neg hfrom, if_neg hto, h.targetFmt, h.get (F.TABLE_CFG_F_ISEL n) (.inr (show _ ≤ coreReg n + 0x1818 by omega)),
    h.get (F.TABLE_CFG_D_ISEL n) (.inr (show _ ≤ coreReg n + 0x1820 by omega)), h.factor _ _ _ _ hssel, h.factor _ _ _ _ hisel,
        h.tableEval]
  simp only [if_neg hfrom, if_neg hto]

theorem capIndex (k i row : Nat) (hk : k < 8) : y.capIndex n k i row = s.capIndex n k i row := by
  rw [State.capIndex, h.get (F.HIST_CFG_MODE n k) (.inl (show coreReg n + 0x1300 + 0x8 * k < _ by omega))]
  rfl

end

end SameConv

/-- The registers that count the conversions under a tag. -/
abbrev tagRegs (n tag : Nat) : List Nat := [A.CONV_TAG_A n tag, A.CONV_TAG_B n tag]

/-- State y is s after some of the conversions under a tag, with core n as c. -/
structure Converting (tag : Nat) (s y : State) (n : Nat) (c : Core) : Prop where
  goes : coreGoes (tagRegs n tag) s y n c
  same : SameConv s y n

theorem SameConv.set {s y : State} {n : Nat} (h : SameConv s y n) (f : Field) (v : Nat)
    (hf : coreReg n + 0x1400 ≤ f.addr ∧ f.addr < coreReg n + 0x1500) : SameConv s (y.set f v) n :=
  ⟨fun a ha => (y.reg_set_ne f v a (by omega)).trans (h.reg a ha), h.free, h.autoBank, h.autoNew⟩

theorem Converting.convCount {tag : Nat} {s y : State} {n : Nat} {c : Core} (h : Converting tag s y n c) (htag : tag < 16) (k : CvKind) :
    Converting tag s (y.convCount n tag k) n c := by
  have hset (f : Field) (v : Nat) (hf : f.addr ∈ tagRegs n tag) : Converting tag s (y.set f v) n c := by
    refine ⟨h.goes.set f v hf, h.same.set f v ?_⟩
    simp only [tagRegs, A.CONV_TAG_A, A.CONV_TAG_B, List.mem_cons, List.not_mem_nil, or_false] at hf
    omega
  cases k with
  | plain => exact h
  | sat => exact hset (F.CONV_TAG_A_SAT_COUNT n tag) _ (by simp [F.CONV_TAG_A_SAT_COUNT])
  | flush => exact hset (F.CONV_TAG_A_FLUSH_COUNT n tag) _ (by simp [F.CONV_TAG_A_FLUSH_COUNT])
  | poison => exact hset (F.CONV_TAG_B_POISON_COUNT n tag) _ (by simp [F.CONV_TAG_B_POISON_COUNT])

/-- What value i of a conversion captures (R147). -/
def State.captured (s : State) (n row : Nat) (ci : ConvIn) (i : Nat) (r : (Nat × CvKind) × FV) : List (Nat × Nat) :=
  if ci.rmax ∧ r.2.isFin then [(s.capIndex n ci.chist i row, (ffF32.roundSat r.2.abs).1)] else []

/-- The codes and captures of values in their order. -/
theorem Converting.convert {s : State} {n : Nat} {c : Core} (b row : Nat) (ci : ConvIn) (draw g : Nat → Nat) (hrnd : ci.rnd = 0)
    (hssel : ci.ssel < 64) (hfrom : ci.cfrom ≠ 12) (hto : ci.cto ≠ 12) (htag : ci.ctag < 16) (hhist : ci.chist < 8) (k i : Nat)
        (y : State)
    (h : Converting ci.ctag s y n c) (out : ConvOut) (hout : y.convert n b row ci draw i ((List.range' i k).map g) = out) :
    out.codes = (List.range' i k).map (fun j => (s.convOne n b row ci .near j (g j)).1.1)
      ∧ out.caps = (List.range' i k).flatMap (fun j => s.captured n row ci j (s.convOne n b row ci .near j (g j)))
      ∧ Converting ci.ctag s out.st n c := by
  induction k generalizing i y out with
  | zero =>
    rw [← hout]
    exact ⟨rfl, rfl, h⟩
  | succ k ih =>
    rw [List.range'_succ, List.map_cons, State.convert, hrnd] at hout
    have hone := h.same.convOne b row ci .near i (g i) hssel hfrom hto
    have hbfp (x : State) : x.bfpStep n ci = x := if_neg (by simp [hfrom, hto])
    rw [if_neg (by omega : ¬ 0 = 1), if_neg (by omega : ¬ 0 = 2), hone, hbfp, h.same.capIndex _ _ _ hhist] at hout
    obtain ⟨hcodes, hcaps, hst⟩ := ih (i + 1) _ (h.convCount htag (s.convOne n b row ci .near i (g i)).1.2) _ rfl
    rw [← hout, List.range'_succ]
    refine ⟨?_, ?_, hst⟩
    · rw [List.map_cons, hcodes]
    · rw [List.flatMap_cons, hcaps]
      rfl

/-! ## A whole row converted to an 8-bit format (R138) -/

theorem fmtWidth_eight_ne (t : Nat) (h : fmtWidth t = 8) : convG t = 128 ∧ fmtCount t = 128 := by
  rw [convG, fmtCount, h]
  exact ⟨rfl, rfl⟩

/-- The plan of a row of 128 values into an empty packer of an 8-bit format. -/
theorem State.convPlan_row (s : State) (n : Nat) (c : Core) (ci : ConvIn) (u : Holder) (hholder : c.holder = none)
    (hpack : c.packers.getD ci.cdst {} = {}) (hwidth : fmtWidth (s.targetFmt n ci.cto) = 8) (hlen : u.vals.length = 128) :
    s.convPlan n c ci (some u) = ⟨u, [], 128, true, 0⟩ := by
  obtain ⟨hg, hcount⟩ := fmtWidth_eight_ne _ hwidth
  unfold State.convPlan
  dsimp only
  rw [hholder, hpack, hg, hcount]
  simp [hlen, boolBit]

theorem valuesOf_range' (bs : List Byte) (w n : Nat) : valuesOf bs w n = (List.range' 0 n).map (valueAt bs w) := by
  rw [valuesOf, List.range_eq_range']

/-- The captures of a row of FP32 codes under a word's conversion (R147). -/
def State.rowCaps (s : State) (n w row : Nat) (bs : List Byte) : List (Nat × Nat) :=
  (List.range 128).flatMap fun i => s.captured n row (cwConv w) i (s.convOne n (s.bankOf n) row (cwConv w) .near i (valueAt bs 32 i))

theorem State.rowCaps_eq (s : State) (n w row : Nat) (bs : List Byte) : s.rowCaps n w row bs =
    if (cwConv w).rmax then (List.range 128).flatMap fun i =>
      if (s.convOne n (s.bankOf n) row (cwConv w) .near i (valueAt bs 32 i)).2.isFin then
        [(s.capIndex n (cwConv w).chist i row,
          (ffF32.roundSat (s.convOne n (s.bankOf n) row (cwConv w) .near i (valueAt bs 32 i)).2.abs).1)] else []
    else [] := by
  cases hmax : (cwConv w).rmax
  · simp [State.rowCaps, State.captured, hmax]
  · simp [State.rowCaps, State.captured, hmax]

/-- The codes of a row of FP32 codes under a word's conversion. -/
def State.rowCodes (s : State) (n w row : Nat) (bs : List Byte) : List Nat :=
  (List.range 128).map fun i => (s.convOne n (s.bankOf n) row (cwConv w) .near i (valueAt bs 32 i)).1.1

theorem cwConv_bounds (w : Nat) : (cwConv w).ssel < 64 ∧ (cwConv w).ctag < 16 ∧ (cwConv w).chist < 8 ∧ (cwConv w).cdst < 2 :=
  ⟨Nat.mod_lt _ (by decide), Nat.mod_lt _ (by decide), Nat.mod_lt _ (by decide), Nat.mod_lt _ (by decide)⟩

theorem State.targetFmt_ne (s : State) (n cto : Nat) (h : fmtWidth (s.targetFmt n cto) = 8) : cto ≠ 12 := by
  rintro rfl
  have htwelve : s.targetFmt n 12 = 12 := by simp [State.targetFmt]
  rw [htwelve] at h
  exact absurd h (by decide)

/-- A core on which a capture is on its way. -/
def Core.caps (c : Core) (h b : Nat) (caps : List (Nat × Nat)) : Core :=
  { c with pend := if caps = [] then [] else [⟨c.cyc + 7, 0, .cap h b caps⟩] }

/-- The conversion of a whole row: what it pushes, its captures, and its counts. -/
theorem Converting.convStage {w : Nat} {s y : State} {n : Nat} {c : Core} (h : Converting (cwConv w).ctag s y n c)
    (hn : n < s.cores.length)
    (hn100 : n < 100) (row seed cnt : Nat) (bs : List Byte) (hcsrc : (cwConv w).csrc = 4) (hfrom : (cwConv w).cfrom = 10)
    (hrnd : (cwConv w).rnd = 0) (hholder : c.holder = none) (hpack : c.packers.getD (cwConv w).cdst {} = {}) (hpend : c.pend = [])
    (hwidth : fmtWidth (s.targetFmt n (cwConv w).cto) = 8) (hend : endOn (cwPush w (cwConv w).cdst) = true) :
    ∃ z, y.convStage n w true row seed cnt (some (sourceVals (cwConv w).cfrom bs 128))
        = ([((cwConv w).cdst, c.cyc + 7, packValues 8 (s.rowCodes n w row bs))], z)
      ∧ coreGoes (tagRegs n (cwConv w).ctag) s z n (c.caps (cwConv w).chist (s.bankOf n) (s.rowCaps n w row bs)) := by
  obtain ⟨hssel, htag, hhist, -⟩ := cwConv_bounds w
  have hto := s.targetFmt_ne n _ hwidth
  have hplan := y.convPlan_row n c (cwConv w) (sourceVals (cwConv w).cfrom bs 128) hholder hpack (by rw [h.same.targetFmt]; exact hwidth)
    (valuesOf_length _ _ _)
  have hvals : ((sourceVals (cwConv w).cfrom bs 128).vals.take 128) = (List.range' 0 128).map (valueAt bs 32) := by
    rw [sourceVals, hfrom, List.take_of_length_le (by simp)]
    exact valuesOf_range' bs 32 128
  have hself : ({ cwConv w with cfrom := (sourceVals (cwConv w).cfrom bs 128).fmt } : ConvIn) = cwConv w := rfl
  have hrest : (sourceVals (cwConv w).cfrom bs 128).vals.drop 128 = [] := List.drop_of_length_le (by simp [sourceVals])
  obtain ⟨out, hout⟩ : ∃ out, y.convert n (s.bankOf n) row (cwConv w) (fun l => drawLane seed cnt l) 0
      ((List.range' 0 128).map (valueAt bs 32)) = out := ⟨_, rfl⟩
  obtain ⟨hcodes, hcaps, hst⟩ := Converting.convert (s.bankOf n) row (cwConv w) _ _ hrnd hssel (by omega) hto htag hhist 128 0 y h out
      hout
  rw [← List.range_eq_range'] at hcodes hcaps
  replace hcodes : out.codes = s.rowCodes n w row bs := hcodes
  replace hcaps : out.caps = s.rowCaps n w row bs := hcaps
  unfold State.convStage
  dsimp only
  rw [h.goes.coreAt hn, hplan, h.same.bankOf hn100]
  dsimp only
  rw [hvals, hself, show (sourceVals (cwConv w).cfrom bs 128).next = 0 from rfl, hout, hrest, if_pos
      (show ([] : List Nat).length = 0 from rfl),
    if_neg (by omega : ¬ 0 = 1), hend, h.same.targetFmt, hwidth, List.nil_append, hcodes, hcaps, hst.goes.coreAt hn, hcsrc]
  refine ⟨_, rfl, ?_⟩
  have hsame : ({ c with holder := none, packers := c.packers.set (cwConv w).cdst {} } : Core) = c := by
    rw [← hholder, ← hpack, List.set_getD_self]
  have hcore : (if (s.rowCaps n w row bs).length = 0 then c
      else c.defer (c.cyc + 7) 0 (.cap (cwConv w).chist (s.bankOf n) (s.rowCaps n w row bs)))
      = c.caps (cwConv w).chist (s.bankOf n) (s.rowCaps n w row bs) := by
    by_cases hnil : s.rowCaps n w row bs = []
    · rw [if_pos (by rw [hnil]; rfl), Core.caps, if_pos hnil, ← hpend]
    · rw [if_neg (by simpa using hnil), Core.caps, if_neg hnil, Core.defer, hpend]
      rfl
  rw [← hcore]
  convert hst.goes.setCore _ using 2
  · exact hsame.symm
  · exact congrArg (fun c' : Core => c'.defer (c.cyc + 7) 0 (.cap (cwConv w).chist (s.bankOf n) (s.rowCaps n w row bs))) hsame.symm

/-! ## The word of a conversion -/

/-- A word whose only enabled push end takes the conversion's codes. -/
theorem pushes_conv (s : State) (n : Nat) (c : Core) (w : Nat) (hag : agQuiet w)
    (hends : ∀ i < 2, endOn (cwPush w i) = [(cwConv w).cdst].contains i) :
    s.pushes n c w 0 true = [(4 + (cwConv w).cdst, endQueue (cwPush w (cwConv w).cdst))] := by
  have hags : ((List.range 4).filterMap fun a =>
      let cmd := agCmd (cwAg w a)
      let yes := if s.agTranspose n c a then (tbufStep (s.agWidth n c a) cmd [] (c.tbuf.getD a {})).1.isSome else cmd.access
      if yes then some (8 + a, s.agQueue n c a) else none) = [] := by
    rw [List.filterMap_eq_nil_iff]
    intro a ha
    obtain ⟨h1, h2⟩ := hag a (by have := List.mem_range.mp ha; omega)
    simp [tbufStep, h1, h2]
  obtain ⟨-, -, -, hlt⟩ := cwConv_bounds w
  unfold State.pushes
  dsimp only
  rw [hags]
  obtain hd | hd : (cwConv w).cdst = 0 ∨ (cwConv w).cdst = 1 := by omega
  · simp [List.range_succ, hends 0 (by omega), hends 1 (by omega), hd]
  · simp [List.range_succ, hends 0 (by omega), hends 1 (by omega), hd]

theorem State.pushStage_one (z : State) (n w : Nat) (p : Nat × Nat × List Byte) : z.pushStage n w [p] = State.pushOne n w z p := by
  unfold State.pushStage
  by_cases h : p.1 = 0
  · simp [h]
  · simp [h]

theorem State.bundleStart_freeCtr (s : State) (n w : Nat) : (s.bundleStart n w).freeCtr = s.freeCtr := by
  have hseq (x : State) : (x.seqErr n).freeCtr = x.freeCtr := rfl
  have herr (x : State) (s0 : Bool) : (x.countErrs n w s0).freeCtr = x.freeCtr := by
    unfold State.countErrs
    dsimp only
    split <;> split <;> rfl
  unfold State.bundleStart
  dsimp only
  rw [State.setCore_freeCtr, State.wrapAdd_freeCtr, herr]
  rfl

theorem convOn_parts (s0 : Bool) (w : Nat) (h : convOn s0 w = true) : (cwConv w).cto ≠ 0 ∧ convReserved s0 w = false := by
  simpa [convOn] using h

section
variable {s : State} {n w : Nat} (hst : s.standsAt n 1 w) (hparts : onlyParts [.conv, .ends] w) (hends : endsAre w [] [(cwConv w).cdst])
  (hon : convOn s.fuse.s0 w = true) (hctl : cwVrowctl w ≠ 3)
include hparts hends hon hctl

theorem laneWord_conv : laneWord s.fuse.s0 w := by
  obtain ⟨htm, hswap⟩ := hparts .tensor (by decide)
  have hvop : cwVop w = 0 := hparts .vector (by decide)
  refine ⟨hparts .seq (by decide), hparts .loop (by decide), hparts .ag (by decide), htm, hswap, fun i hi => (hends.1 i hi).trans rfl, ?_,
    vectorFused_idle _ _ hvop, (convOn_parts _ _ hon).2⟩
  simp [vectorReserved, hvop, hctl]

include hst

theorem State.standsAt.converts (hcsrc : (cwConv w).csrc = 4) (hfrom : (cwConv w).cfrom = 10) (hrnd : (cwConv w).rnd = 0)
    (hsrun : (s.coreAt n).srun = []) (hholder : (s.coreAt n).holder = none) (hpack : (s.coreAt n).packers.getD (cwConv w).cdst {} = {})
    (hwidth : fmtWidth (s.targetFmt n (cwConv w).cto) = 8) (hroom : s.roomFor n (endQueue (cwPush w (cwConv w).cdst))) (cmd : Instr)
    (sel : Bool → Nat → Bool) (hexec : exec cmd s = Machine.issueCmd n sel s) (hsel : sel s.fuse.s0 w = true) :
    ∃ t, exec cmd s = .next t ∧ coreGoes (tagRegs n (cwConv w).ctag) s t n (Core.next
      ((({ s.coreAt n with vPtr := (s.vectorRow n w).2 } : Core).caps (cwConv w).chist (s.bankOf n)
        (s.rowCaps n w (s.vectorRow n w).1 (s.rowBytes n w))).push (endQueue (cwPush w (cwConv w).cdst)) ((s.coreAt n).cyc + 7)
        (packValues 8 (s.rowCodes n w (s.vectorRow n w).1 (s.rowBytes n w))))) := by
  have hw := laneWord_conv hparts hends hon hctl
  have hlt := hst.lt
  have hvop : vop s.fuse.s0 w = 0 := vop_idle _ _ (hparts .vector (by decide))
  have hactive : (vop s.fuse.s0 w != 0 || convOn s.fuse.s0 w) = true := by simp [hon]
  have hpops := hw.pops_none s n (s.coreAt n)
  have hquiet := agQuiet_of_idle w hw.ag
  have hend : endOn (cwPush w (cwConv w).cdst) = true := by
    rw [hends.2 _ (cwConv_bounds w).2.2.2]
    simp
  have hpush : s.pushChecks n (s.coreAt n) [] (s.pushes n (s.coreAt n) w (vop s.fuse.s0 w) (s.convPushes n (s.coreAt n) w)) = [] := by
    have hcp : s.convPushes n (s.coreAt n) w = true := by
      unfold State.convPushes
      dsimp only
      rw [hon, if_neg (by omega), if_pos hcsrc, Option.map_some,
        s.convPlan_row n (s.coreAt n) _ _ hholder hpack hwidth (List.length_replicate ..)]
      rfl
    rw [hvop, hcp, pushes_conv s n _ w hquiet hends.2]
    exact pushChecks_one s n _ _ (hst.ready.flight_at _) hroom
  have h5 := (coreGoes.refl [] s n).bundleStart hlt w [] hpops hw.wordReserved hw.fused (hparts .draw (by decide)) (.inr (by omega))
  rw [hactive] at h5
  obtain ⟨c5, hc5⟩ : ∃ c5 : Core, { s.coreAt n with vPtr := (s.vectorRow n w).2 } = c5 := ⟨_, rfl⟩
  have hc5' : ({ ((s.coreAt n).popAll []).2 with vPtr := (vecRow true (cwVrowctl w) (s.coreAt n).vPtr).2 } : Core) = c5 := hc5
  rw [hc5'] at h5
  have hsame : SameConv s (s.bundleStart n w) n := by
    refine ⟨fun a _ => h5.reg a List.not_mem_nil, s.bundleStart_freeCtr n w, ?_, ?_⟩
    · rw [h5.coreAt hlt, ← hc5]
    · rw [h5.coreAt hlt, ← hc5]
  have hrow : (s.bundleStart n w).accRow n (cwVtile w) (s.vectorRow n w).1 = s.rowBytes n w := h5.accRow hlt (hc5 ▸ hsrun) _ _
  have hcommit : coreGoes (tagRegs n (cwConv w).ctag) s (s.commitBundle n w) n
      ((c5.caps (cwConv w).chist (s.bankOf n) (s.rowCaps n w (s.vectorRow n w).1 (s.rowBytes n w))).push
        (endQueue (cwPush w (cwConv w).cdst)) (c5.cyc + 7) (packValues 8 (s.rowCodes n w (s.vectorRow n w).1 (s.rowBytes n w)))) := by
    refine hw.commit rfl hlt (s.vectorRow n w).1 (s.vectorRow n w).2 [] (by rw [hactive]; rfl) (y := s.bundleStart n w) ?_ fun seed cnt =>
        ?_
    · rw [State.vecStage, hvop, if_pos rfl, if_neg (by simp [hcsrc])]
    · obtain ⟨z, hz, hzgo⟩ := Converting.convStage (w := w) ⟨h5.mono (List.nil_subset _), hsame⟩ hlt hst.2.2.1 (s.vectorRow n w).1 seed
        cnt
        (s.rowBytes n w) hcsrc hfrom hrnd (hc5 ▸ hholder) (hc5 ▸ hpack) (hc5 ▸ hst.ready.pend) hwidth hend
      have hunit (u v : Holder) : convUnit (cwConv w) [] u v = some u := by
        rw [convUnit, if_neg (by omega), if_pos hcsrc]
      unfold State.laneStage
      dsimp only
      rw [hvop, State.vecTo_idle, hon, hunit, hrow, hz, vecPushes, if_pos rfl, List.nil_append, State.pushStage_one, State.pushOne, if_pos
          hend, hzgo.coreAt hlt]
      exact hzgo.setCore _
  have hcyc : (s.coreAt n).cyc = c5.cyc := by rw [← hc5]
  rw [hc5, hcyc]
  exact hw.goes hst rfl cmd sel hexec hsel hlt hpush hcommit (by rw [← hc5]; rfl)

end

/-! ## A draw (R143) -/

/-- A word that orders a draw alone advances RNG_COUNT. -/
theorem State.standsAt.draws {s : State} {n w : Nat} (hst : s.standsAt n 1 w) (hparts : onlyParts [.draw] w) (hdraw : cwRdraw w = true) :
    ∃ t, exec (.rdraw n) s = .next t ∧ coreGoes [A.RNG_COUNT n] s t n (s.coreAt n).next
      ∧ t.get (F.RNG_COUNT_COUNT n) = (s.get (F.RNG_COUNT_COUNT n) + 1) % 2 ^ 64 := by
  have hlt := hst.lt
  obtain ⟨htm, hswap⟩ := hparts .tensor (by decide)
  obtain ⟨hpopEnds, hpushEnds⟩ := hparts .ends (by decide)
  have hv : cwVop w = 0 := hparts .vector (by decide)
  have hc : (cwConv w).cto = 0 := hparts .conv (by decide)
  have hw : laneWord s.fuse.s0 w := ⟨hparts .seq (by decide), hparts .loop (by decide), hparts .ag (by decide), htm, hswap, hpopEnds,
    vectorReserved_idle w hv hc, vectorFused_idle _ w hv, convReserved_idle _ w hc⟩
  have hvop : vop s.fuse.s0 w = 0 := vop_idle _ _ hv
  have hcv : convOn s.fuse.s0 w = false := convOn_idle _ _ hc
  have hpops := hw.pops_none s n (s.coreAt n)
  obtain ⟨f, hf⟩ : ∃ f, F.RNG_COUNT_COUNT n = f := ⟨_, rfl⟩
  have hstart : coreGoes [] (s.set f (s.get f + 1)) (s.bundleStart n w) n (s.coreAt n) := by
    have h3 := ((coreGoes.refl [] s n).setCore (s.coreAt n)).countErrs w s.fuse.s0 hw.wordReserved hw.fused
    have h4 := h3.setBoth f (s.get f + 1)
    have hone : boolBit (cwRdraw w) + boolBit (convOn s.fuse.s0 w && (cwConv w).rnd == 1) = 1 := by simp [hdraw, hcv, boolBit]
    unfold State.bundleStart
    dsimp only
    have hwrap : ((s.setCore n (s.coreAt n)).countErrs n w s.fuse.s0).wrapAdd f 1
        = ((s.setCore n (s.coreAt n)).countErrs n w s.fuse.s0).set f (s.get f + 1) := by
      rw [State.wrapAdd, h3.get f List.not_mem_nil]
    have hnone : ((s.coreAt n).popAll []).2 = s.coreAt n := rfl
    rw [hpops, hone, hvop, hcv, hf, hnone, hwrap, h4.coreAt (by rw [State.set_cores]; exact hlt)]
    exact h4.setCore _
  have hcommit : coreGoes [] (s.set f (s.get f + 1)) (s.commitBundle n w) n (s.coreAt n) := by
    refine hw.commit rfl (by rw [State.set_cores]; exact hlt) (s.coreAt n).vPtr (s.coreAt n).vPtr [] (by rw [hvop, hcv]; rfl)
      (by rw [State.vecStage, hvop, hcv]; rfl) fun seed cnt => ?_
    unfold State.laneStage
    dsimp only
    rw [hvop, hcv, State.vecTo_idle, State.convStage_idle]
    exact hstart
  obtain ⟨t, ht, hgo⟩ := hw.goes hst rfl (.rdraw n) (fun _ w => cwRdraw w) rfl hdraw (by rw [State.set_cores]; exact hlt)
    (by rw [pushes_none s n _ w (agQuiet_of_idle w hw.ag) _ _ hpushEnds, pushChecks_none]) hcommit rfl
  obtain ⟨hgo', hget⟩ := hgo.ofSet
  rw [← hf] at hgo' hget
  refine ⟨t, ht, hgo', hget.trans ?_⟩
  exact State.get_set_self _ _ _ (Nat.zero_le 63) (show 63 < 64 by omega)

/-- Lane l of draw n in arithmetic modulo 2^64. -/
theorem drawLane_eq (seed n l : Nat) (hseed : seed < 2 ^ 64) :
    let mix := fun x : Nat => (x ^^^ (x / 2 ^ 29)) * 0xA24BAED4963EE407 % 2 ^ 64
    let x := mix (mix (mix ((n * 128 + l) % 2 ^ 64 ^^^ seed)))
    drawLane seed n l = (x ^^^ (x / 2 ^ 32)) % 2 ^ 32 := by
  have hmix (v : Word) : ((v ^^^ (v >>> 29)) * 0xA24BAED4963EE407#64).toNat = (v.toNat ^^^ (v.toNat / 2 ^ 29)) * 0xA24BAED4963EE407 % 2 ^
      64 := by
    rw [BitVec.toNat_mul, BitVec.toNat_xor, BitVec.toNat_ushiftRight, Nat.shiftRight_eq_div_pow]
    rfl
  intro mix x
  unfold drawLane
  dsimp only
  rw [BitVec.toNat_xor, BitVec.toNat_ushiftRight, Nat.shiftRight_eq_div_pow, hmix, hmix, hmix, BitVec.toNat_xor, BitVec.toNat_ofNat,
    BitVec.toNat_ofNat, Nat.mod_eq_of_lt hseed]

/-! ## One value converted (R142, R174) -/

theorem State.convOne_scaled (x : State) (n b row i c : Nat) (ci : ConvIn) (hto : ci.cto < 12) (hfrom : ci.cfrom ≠ 12)
    (hexact : ¬ (ci.cfrom = 2 ∧ ci.cto = 1)) : x.convOne n b row ci .near i c
      = (encodeFmt ci.cto .near ((decodeFmt ci.cfrom c).mul (x.factor n b ci.ssel i row)), decodeFmt ci.cfrom c) := by
  have htable : ¬ (ci.cto = 14 ∨ ci.cto = 15) := by omega
  have hexact' (p : Prop) : ¬ (ci.cfrom = 2 ∧ ci.cto = 1 ∧ p) := fun h => hexact ⟨h.1, h.2.1⟩
  have htarget : x.targetFmt n ci.cto = ci.cto := if_neg htable
  unfold State.convOne
  dsimp only
  rw [if_neg htable, if_neg (by omega : ¬ ci.cto = 12), if_neg hfrom, if_neg hfrom, if_neg (hexact' _), htarget]

theorem State.convOne_block (x : State) (n b row i c : Nat) (ci : ConvIn) (hto : ci.cto = 12) : x.convOne n b row ci .near i c
      = (encodeFmt 12 .near
          (((if ci.cfrom = 12 then (decodeFmt 12 c).scale2 (x.bfpExp n) else decodeFmt ci.cfrom c)).scale2 (-(x.bfpExp n))),
        if ci.cfrom = 12 then (decodeFmt 12 c).scale2 (x.bfpExp n) else decodeFmt ci.cfrom c) := by
  have htable : ¬ (ci.cto = 14 ∨ ci.cto = 15) := by omega
  have hraw : (if ci.cfrom = 12 then (decodeFmt ci.cfrom c).scale2 (x.bfpExp n) else decodeFmt ci.cfrom c)
      = if ci.cfrom = 12 then (decodeFmt 12 c).scale2 (x.bfpExp n) else decodeFmt ci.cfrom c := by
    split
    · next h => rw [h]
    · rfl
  unfold State.convOne
  dsimp only
  rw [if_neg htable, if_pos hto, hraw]

/-- Settles O33, from what a whole row's conversion pushes, captures and counts. -/
theorem conversions : Obligations.Conversions := by
  unfold Obligations.Conversions
  refine ⟨fun s n w hi hp hw => ?_, fun s n w hst => ⟨?_, fun hparts hdraw => hst.draws hparts hdraw⟩,
    fun seed n l hseed => drawLane_eq seed n l hseed⟩
  · refine ⟨fun hon hto => issueCmd_issues s n w _ hi hp hw (by simp [hon, hto]), fun hon hto => issueCmd_issues s n w _ hi hp hw
        (by simp [hon, hto]), fun hon hto => issueCmd_issues s n w _ hi hp hw (by simp [hon, hto]), fun hon hmax =>
        issueCmd_issues s n w _ hi hp hw (by simp [hon, hmax]), fun hdraw => issueCmd_issues s n w _ hi hp hw hdraw, ?_, ?_⟩
    · exact fun x b row i c ci hto hfrom hexact => x.convOne_scaled n b row i c ci hto hfrom hexact
    · exact fun x b row i c ci hto => x.convOne_block n b row i c ci hto
  · intro hparts hends hon hcsrc hfrom hrnd hctl hsrun hholder hpack hwidth hroom
    have goes (cmd : Instr) (sel : Bool → Nat → Bool) (hexec : exec cmd s = issueCmd n sel s) (hsel : sel s.fuse.s0 w = true) :=
      hst.converts hparts hends hon hctl hcsrc hfrom hrnd hsrun hholder hpack hwidth hroom cmd sel hexec hsel
    simp only [State.rowCaps_eq] at goes
    exact ⟨fun hto => goes (.conv n) _ rfl (by simp [hon, hto]), fun hto => goes (.functionTable n) _ rfl (by simp [hon, hto]),
      fun hto => goes (.derivativeTable n) _ rfl (by simp [hon, hto]), fun hmax => goes (.historyCapture n) _ rfl (by simp [hon, hmax])⟩

end Sys2Proof.Machine

/-! Streams: starts, moves and completions (O38). -/
namespace Sys2Proof.Machine

/-! ## What the moves of a stream leave (R110, R117, R236) -/

/-- The registers in which the memory controllers count. -/
abbrev eccRegs : List Nat := (List.range 16).flatMap fun k => [A.MC_ECC k, A.MC_ATOM k]

/-- State s is o with this near memory and these core stores, after accesses to near memory. -/
structure Moves (o s : State) (near core : Mem) : Prop where
  eq : ∃ mc regs freeCtr, s = { o with near := near, core := core, mc := mc, regs := regs, freeCtr := freeCtr }
  regs : regsBut eccRegs o s

/-- Byte b of the address space is byte m of near memory, at a controller that serves. -/
def State.liesAt (s : State) (b m : Nat) : Prop :=
  ∃ pc off, s.place b = .near pc off ∧ s.serves (entMc (pc / 32)) = true ∧ s.pcRetired pc = false ∧ pc < 512 ∧ m = pc * pcBytes + off

theorem mem_eccRegs (a : Nat) : a ∈ eccRegs ↔ ∃ k < 16, a = A.MC_ECC k ∨ a = A.MC_ATOM k := by simp [eccRegs, List.mem_flatMap]

theorem Moves.refl (s : State) : Moves s s s.near s.core := ⟨⟨_, _, _, rfl⟩, regsBut_refl _ s⟩

section
variable {o s : State} {u v : Mem} (h : Moves o s u v)
include h

theorem Moves.near : s.near = u := by
  obtain ⟨_, _, _, heq⟩ := h.eq
  rw [heq]

theorem Moves.core : s.core = v := by
  obtain ⟨_, _, _, heq⟩ := h.eq
  rw [heq]

theorem Moves.cores : s.cores = o.cores := by
  obtain ⟨_, _, _, heq⟩ := h.eq
  rw [heq]

theorem Moves.place (b : Nat) : s.place b = o.place b := by
  obtain ⟨_, _, _, heq⟩ := h.eq
  rw [heq]
  rfl

theorem Moves.store (a : Nat) (bs : List Byte) : Moves o { s with core := s.core.store a bs } u (v.store a bs) := by
  obtain ⟨_, _, _, heq⟩ := h.eq
  exact ⟨⟨_, _, _, by rw [heq]⟩, h.regs⟩

theorem Moves.serves (k : Nat) (hk : k < 16) : s.serves (entMc k) = o.serves (entMc k) := by
  have hget : s.get (F.UNIT_STATE_STATE (entMc k)) = o.get (F.UNIT_STATE_STATE (entMc k)) := by
    refine State.get_congr _ (h.regs _ ?_)
    rw [mem_eccRegs]
    rintro ⟨j, hj, he | he⟩
    · simp only [F.UNIT_STATE_STATE, A.UNIT_STATE, entMc, A.MC_ECC, mcReg, pageReg] at he
      omega
    · simp only [F.UNIT_STATE_STATE, A.UNIT_STATE, entMc, A.MC_ATOM, mcReg, pageReg] at he
      omega
  have habsent : s.absent (entMc k) = o.absent (entMc k) := by
    obtain ⟨_, _, _, heq⟩ := h.eq
    rw [heq]
    rfl
  rw [State.serves, State.unit, habsent, hget]
  rfl

theorem Moves.pcRetired (pc : Nat) : s.pcRetired pc = o.pcRetired pc := by
  have hget : s.get (F.MC_PCMAP_RETIRED (pc / 32)) = o.get (F.MC_PCMAP_RETIRED (pc / 32)) := by
    refine State.get_congr _ (h.regs _ ?_)
    rw [mem_eccRegs]
    rintro ⟨j, hj, he | he⟩
    · simp only [F.MC_PCMAP_RETIRED, A.MC_PCMAP, A.MC_ECC, mcReg] at he
      omega
    · simp only [F.MC_PCMAP_RETIRED, A.MC_PCMAP, A.MC_ATOM, mcReg] at he
      omega
  rw [State.pcRetired, hget]
  rfl

/-- An access to one granule of near memory. -/
theorem Moves.access {b m : Nat} (hl : o.liesAt b m) (org : Origin) (x : Access) :
    (s.memAccess org b x none).data = (u.access m x).1 ∧ Moves o (s.memAccess org b x none).st (u.access m x).2.1 v := by
  obtain ⟨pc, off, hplace, hserves, hret, hpc, rfl⟩ := hl
  obtain ⟨-, hdata, honly, hregs, -⟩ := s.nearAccess_served org b pc off x none (by rw [h.serves _ (by omega), hserves])
      (by rw [h.pcRetired, hret]) _ rfl
  rw [s.memAccess_near org x none (by rw [h.place, hplace])]
  rw [h.near] at hdata honly
  refine ⟨hdata, ?_, fun a ha => ?_⟩
  · obtain ⟨_, _, _, heq⟩ := h.eq
    obtain ⟨_, _, _, honly⟩ := honly
    exact ⟨_, _, _, honly.trans (by rw [heq])⟩
  · rw [mem_eccRegs] at ha
    refine (hregs a fun hmem => ha ⟨pc / 32, by omega, ?_⟩).trans (h.regs a (by rw [mem_eccRegs]; exact ha))
    simpa [or_comm] using hmem

theorem Moves.read {b m : Nat} (hl : o.liesAt b m) (org : Origin) (n : Nat) (hn : 0 < n) (hin : b % 256 + n ≤ 256) :
    (s.memRead org b n none).data = u.load m n ∧ Moves o (s.memRead org b n none).st u v := by
  rw [s.memRead_one org b n none hn hin]
  exact h.access hl org (.read n)

theorem Moves.read_two {b m m' : Nat} (hl : o.liesAt b m) (hl' : o.liesAt (b + 256) m') (org : Origin) (hb : b % 256 = 0) :
    (s.memRead org b 512 none).data = u.load m 256 ++ u.load m' 256 ∧ Moves o (s.memRead org b 512 none).st u v := by
  obtain ⟨hdata, h1⟩ := h.access hl org (.read 256)
  obtain ⟨hdata', h2⟩ := h1.access hl' org (.read 256)
  unfold State.memRead
  rw [show 512 = 256 + 256 from rfl, granules_two b (b / 256) 256 rfl (by omega)]
  refine ⟨?_, h2⟩
  rw [List.foldl_cons, List.foldl_cons, List.foldl_nil]
  dsimp only
  rw [hdata, hdata', List.nil_append]
  rfl

/-- The access that an atomic add or a write of bytes makes. -/
def putAccess (atomic : Bool) (bs : List Byte) : Access := if atomic then .atomic bs else .write bs

theorem Moves.put {b m : Nat} (hl : o.liesAt b m) (org : Origin) (atomic : Bool) (bs : List Byte) (hbs : 0 < bs.length)
    (hin : b % 256 + bs.length ≤ 256) : Moves o (s.memPut org atomic b bs none).st (u.access m (putAccess atomic bs)).2.1 v := by
  rw [s.memPut_one org atomic b bs none hbs hin]
  exact (h.access hl org (putAccess atomic bs)).2

theorem Moves.put_two {b m m' : Nat} (hl : o.liesAt b m) (hl' : o.liesAt (b + 256) m') (org : Origin) (hb : b % 256 = 0) (atomic : Bool)
    (x y : List Byte) (hx : x.length = 256) (hy : y.length = 256) : Moves o (s.memPut org atomic b (x ++ y) none).st
      ((u.access m (putAccess atomic x)).2.1.access m' (putAccess atomic y)).2.1 v := by
  obtain ⟨-, h1⟩ := h.access hl org (putAccess atomic x)
  obtain ⟨-, h2⟩ := h1.access hl' org (putAccess atomic y)
  have hlen : (x ++ y).length = 256 + 256 := by rw [List.length_append, hx, hy]
  have hfst : ((x ++ y).drop (b - b)).take 256 = x := by
    rw [Nat.sub_self, List.drop_zero, List.take_left' hx]
  have hsnd : ((x ++ y).drop (b + 256 - b)).take 256 = y := by
    rw [Nat.add_sub_cancel_left, List.drop_left' hx, ← hy, List.take_length]
  unfold State.memPut
  rw [hlen, granules_two b (b / 256) 256 rfl (by omega)]
  rw [List.foldl_cons, List.foldl_cons, List.foldl_nil]
  dsimp only
  rw [hfst, hsnd]
  exact h2

end

/-! ## Two stores and what stands between them (R12) -/

theorem Mem.load_congr (u v : Mem) (a n : Nat) (h : ∀ b, a ≤ b → b < a + n → v.get b = u.get b) : v.load a n = u.load a n :=
  List.map_congr_left fun i hi => h (a + i) (by omega) (by have := List.mem_range.mp hi; omega)

theorem Mem.load_store_apart (u : Mem) (a : Nat) (bs : List Byte) (b n : Nat) (h : a + bs.length ≤ b ∨ b + n ≤ a) :
    (u.store a bs).load b n = u.load b n :=
  Mem.load_congr _ _ _ _ fun c _ _ => u.store_only a bs c (by omega)

theorem Mem.load_add (u : Mem) (a k l : Nat) : u.load a (k + l) = u.load a k ++ u.load (a + k) l := by
  rw [Mem.load, List.range_add, List.map_append, List.map_map]
  refine congrArg (_ ++ ·) (List.map_congr_left fun i _ => ?_)
  rw [Function.comp_apply, Nat.add_assoc]

theorem Mem.store_append (u : Mem) (a : Nat) (x y : List Byte) : u.store a (x ++ y) = (u.store a x).store (a + x.length) y := by
  induction x generalizing u a with
  | nil => rfl
  | cons b x ih =>
    rw [List.cons_append, Mem.store, ih, List.length_cons, Mem.store]
    congr 1
    omega

/-- Memories u and v differ in k bytes at x and k bytes at y alone. -/
abbrev sameBut (u v : Mem) (x y k : Nat) : Prop := ∀ b, (b < x ∨ x + k ≤ b) → (b < y ∨ y + k ≤ b) → v.get b = u.get b

theorem Mem.store_two (u : Mem) (m m' k : Nat) (x y : List Byte) (hx : x.length = k) (hy : y.length = k)
    (hapart : m + k ≤ m' ∨ m' + k ≤ m) : ((u.store m x).store m' y).load m k = x ∧ ((u.store m x).store m' y).load m' k = y
      ∧ sameBut u ((u.store m x).store m' y) m m' k := by
  refine ⟨?_, Mem.load_store_of _ _ _ _ hy, fun b hb hb' => ?_⟩
  · rw [Mem.load_store_apart _ _ _ _ _ (by omega), Mem.load_store_of _ _ _ _ hx]
  · rw [Mem.store_only _ _ _ _ (by omega), Mem.store_only _ _ _ _ (by omega)]

theorem Mem.store_one (u : Mem) (m k : Nat) (x : List Byte) (hx : x.length = k) : (u.store m x).load m k = x
    ∧ sameBut u (u.store m x) m m k :=
  ⟨Mem.load_store_of _ _ _ _ hx, fun b hb _ => Mem.store_only _ _ _ _ (by omega)⟩

/-- What bytes put at m by a write or an atomic add read as then. -/
def Mem.putBytes (u : Mem) (m : Nat) (atomic : Bool) (bs : List Byte) : List Byte :=
  if atomic then (atomicSum (u.load m bs.length) bs).1 else bs

theorem Mem.access_put (u : Mem) (m : Nat) (atomic : Bool) (bs : List Byte) :
    (u.access m (putAccess atomic bs)).2.1 = u.store m (u.putBytes m atomic bs) := by
  cases atomic with
  | false => rfl
  | true => rfl

theorem Mem.putBytes_atomic (u : Mem) (m k : Nat) (bs : List Byte) (h : bs.length = k) :
    u.putBytes m true bs = (atomicSum (u.load m k) bs).1 := h ▸ if_pos rfl

theorem Mem.putBytes_length (u : Mem) (m : Nat) (atomic : Bool) (bs : List Byte) (h : bs.length % 4 = 0) :
    (u.putBytes m atomic bs).length = bs.length := by
  cases atomic with
  | false => rfl
  | true => exact atomicSum_length _ _ h

theorem Mem.access_put_two (u : Mem) (m m' k : Nat) (atomic : Bool) (x y : List Byte) (hx : x.length = k) (hy : y.length = k)
    (hk : k % 4 = 0)
    (hapart : m + k ≤ m' ∨ m' + k ≤ m) :
    ((u.access m (putAccess atomic x)).2.1.access m' (putAccess atomic y)).2.1
      = (u.store m (u.putBytes m atomic x)).store m' (u.putBytes m' atomic y) := by
  have hlen := u.putBytes_length m atomic x (by omega)
  rw [Mem.access_put, Mem.access_put]
  unfold Mem.putBytes
  rw [Mem.load_store_apart _ _ _ _ _ (by unfold Mem.putBytes at hlen; omega)]

/-! ## A stream of one move (R110, R117) -/

section
variable {s : State} {n : Nat} (hmode : s.get (F.CORE_CTRL_MODE n) = 0)
include hmode

theorem State.streamTag_free : s.streamTag n = none := by
  rw [State.streamTag, s.on_of_zero _ hmode]
  rfl

theorem State.streamRead_free (a w : Nat) : s.streamRead n a w =
    ((s.memRead (streamOrigin n) a w).data, (s.memRead (streamOrigin n) a w).st) := by
  unfold State.streamRead
  rw [State.streamTag_free hmode]

theorem State.streamWrite_free (kind a : Nat) (bs : List Byte) (ha : a < 0x006000000000) :
    s.streamWrite n kind a bs = (s.memPut (streamOrigin n) (kind == 2 || kind == 4) a bs).st := by
  have hplace (d off : Nat) : s.place a ≠ .stage d off := by
    unfold State.place
    rw [if_pos ha]
    split <;> exact fun h => nomatch h
  unfold State.streamWrite
  rw [State.streamTag_free hmode]
  dsimp only
  split
  · next d off h => exact absurd h (hplace d off)
  · rfl

end

/-- The one move of a stream of one element or row, and the state it leaves. -/
theorem streamBegin_one (s : State) (n d : Nat) (kind a f : Nat) (hstate : (s.coreAt n).state ≠ 2) (hqueue : (s.coreAt n).squeue = [d])
    (hrun : (s.coreAt n).srun = []) (hn : n < s.cores.length) (hkind : s.get (F.SD_LOCAL_KIND n d) = kind)
    (hmoves : s.streamMoves n d = [(a, f)]) (u v : Mem) (hmove : Moves s (s.streamMove n kind (a, f)) u v) :
    ∃ t, streamBegin kind n s = t ∧ t.coreAt n = { s.coreAt n with squeue := [], srun := [s.streamRun n d] } ∧ t.far = s.far
      ∧ t.stage = s.stage ∧ (t.near = u ∧ t.core = v) ∧ regsBut eccRegs s t := by
  obtain ⟨x, hx⟩ : ∃ x, s.streamMove n kind (a, f) = x := ⟨_, rfl⟩
  rw [hx] at hmove
  have hat : x.coreAt n = s.coreAt n := State.coreAt_congr n hmove.cores
  obtain ⟨c, hc⟩ : ∃ c : Core, { s.coreAt n with squeue := [], srun := [s.streamRun n d] } = c := ⟨_, rfl⟩
  have hbegin : streamBegin kind n s = x.setCore n c := by
    have hcatch : s.catchUp n = s := if_neg hstate
    have hself : (x.setCore n c).coreAt n = c := x.coreAt_setCore_self n c (by rw [hmove.cores]; exact hn)
    unfold streamBegin
    dsimp only
    rw [hcatch, hqueue]
    dsimp only
    rw [if_pos ⟨by rw [hrun]; decide, hkind⟩, hmoves, List.foldl_cons, List.foldl_nil, hx, hat, hrun, List.nil_append, hc,
        State.streamReserved]
    dsimp only
    rw [hself, ← hc]
  obtain ⟨mc, regs, freeCtr, heq⟩ := hmove.eq
  refine ⟨x.setCore n c, hbegin, ?_, ?_, ?_, ⟨hmove.near, hmove.core⟩, hmove.regs⟩
  · rw [x.coreAt_setCore_self n c (by rw [hmove.cores]; exact hn), hc]
  · rw [heq]
    rfl
  · rw [heq]
    rfl

section
variable {s : State} {n d : Nat} (hrows : s.get (F.SD_SHAPE_ROWS n d) = 1) (hlen : s.get (F.SD_SHAPE_ROW_LEN n d) = 1)
include hrows hlen

/-- The one move of a stream of one element or row. -/
theorem State.streamMoves_one : s.streamMoves n d
    = [(s.get (F.SD_ADDR_ADDR n d), (s.streamRun n d).first % if s.get (F.SD_LOCAL_KIND n d) < 3 then 65536 else 4096)] := by
  have haddr : s.get (F.SD_ADDR_ADDR n d) < 2 ^ 48 := s.get_lt (F.SD_ADDR_ADDR n d)
  have hsigned (st : Int) : unsigned 48 (Int.ofNat (s.get (F.SD_ADDR_ADDR n d)) + Int.ofNat 0 * st) = s.get (F.SD_ADDR_ADDR n d) := by
    have h0 : Int.ofNat (s.get (F.SD_ADDR_ADDR n d)) + Int.ofNat 0 * st = (s.get (F.SD_ADDR_ADDR n d) : Int) := by simp
    rw [h0, unsigned]
    omega
  have hr : (s.streamRun n d).rows = 1 := hrows
  have hl : (s.streamRun n d).len = 1 := hlen
  unfold State.streamMoves
  dsimp only
  rw [hr, hl]
  simp only [List.range_one, List.flatMap_cons, List.flatMap_nil, List.map_cons, List.map_nil, List.append_nil, Nat.zero_mul,
    Nat.add_zero, hsigned]
  rfl

theorem State.streamMoves_element (hkind : s.get (F.SD_LOCAL_KIND n d) < 3) :
    s.streamMoves n d = [(s.get (F.SD_ADDR_ADDR n d), s.get (F.SD_LOCAL_LOCAL n d))] := by
  have hlocal : s.get (F.SD_LOCAL_LOCAL n d) < 2 ^ 16 := s.get_lt (F.SD_LOCAL_LOCAL n d)
  have hfirst : (s.streamRun n d).first = s.get (F.SD_LOCAL_LOCAL n d) := if_pos hkind
  rw [State.streamMoves_one hrows hlen, hfirst, if_pos hkind, Nat.mod_eq_of_lt (show _ < 65536 from hlocal)]

theorem State.streamMoves_row (hkind : ¬ s.get (F.SD_LOCAL_KIND n d) < 3) : s.streamMoves n d
    = [(s.get (F.SD_ADDR_ADDR n d), (s.get (F.SD_LOCAL_TILE n d) * 128 + s.get (F.SD_LOCAL_LOCAL n d)) % 4096)] := by
  have hfirst : (s.streamRun n d).first = s.get (F.SD_LOCAL_TILE n d) * 128 + s.get (F.SD_LOCAL_LOCAL n d) := if_neg hkind
  rw [State.streamMoves_one hrows hlen, hfirst, if_neg hkind]

end

/-! ## What one move leaves -/

section
variable {s : State} {n : Nat} (hmode : s.get (F.CORE_CTRL_MODE n) = 0) {a m : Nat} (hl : s.liesAt a m)
include hmode hl

omit hmode in
theorem State.liesAt.lt : a < 0x006000000000 := by
  obtain ⟨pc, off, hplace, -⟩ := hl
  exact State.place_near hplace

theorem State.streamMove_load (e : Nat) (ha : a % 256 + 128 ≤ 256) :
    Moves s (s.streamMove n 0 (a, e)) s.near (s.core.store (storeAddr n e) (s.near.load m 128)) := by
  obtain ⟨hdata, hst⟩ := (Moves.refl s).read hl (streamOrigin n) 128 (by omega) ha
  have hmove : s.streamMove n 0 (a, e) = { (s.memRead (streamOrigin n) a 128).st with
      core := (s.memRead (streamOrigin n) a 128).st.core.store (storeAddr n e) (s.memRead (streamOrigin n) a 128).data } := by
    change { (s.streamRead n a 128).2 with core := (s.streamRead n a 128).2.core.store (storeAddr n e) (s.streamRead n a 128).1 } = _
    rw [State.streamRead_free hmode]
  rw [hmove, hdata]
  exact hst.store _ _

theorem State.streamMove_put (kind e : Nat) (hkind : kind = 1 ∨ kind = 2) (ha : a % 256 + 128 ≤ 256) :
    Moves s (s.streamMove n kind (a, e)) (s.near.store m (s.near.putBytes m (kind == 2) (s.core.load (storeAddr n e) 128))) s.core := by
  have hlen : (s.core.load (storeAddr n e) 128).length = 128 := by simp [Mem.load]
  have hmove : s.streamMove n kind (a, e) = (s.memPut (streamOrigin n) (kind == 2) a (s.core.load (storeAddr n e) 128)).st := by
    have hflag : (kind == 2 || kind == 4) = (kind == 2) := by rcases hkind with rfl | rfl <;> rfl
    have hwrite : s.streamMove n kind (a, e) = s.streamWrite n kind a (s.core.load (storeAddr n e) 128) := by
      rcases hkind with rfl | rfl <;> rfl
    rw [hwrite, State.streamWrite_free hmode _ _ _ hl.lt, hflag]
  rw [hmove, ← Mem.access_put]
  exact (Moves.refl s).put hl (streamOrigin n) (kind == 2) _ (by omega) (by omega)

variable {m' : Nat} (hl' : s.liesAt (a + 256) m') (ha : a % 256 = 0)
include hl' ha

theorem State.streamMove_loadRow (f : Nat) : Moves s (s.streamMove n 5 (a, f)) s.near
    ((s.core.store (accAddr n (f / 128) (f % 128)) (s.near.load m 256)).store (accAddr n (f / 128) (f % 128) + 256)
        (s.near.load m' 256)) := by
  obtain ⟨hdata, hst⟩ := (Moves.refl s).read_two hl hl' (streamOrigin n) ha
  have hlen : (s.near.load m 256).length = 256 := by simp [Mem.load]
  have hmove : s.streamMove n 5 (a, f) = { (s.memRead (streamOrigin n) a 512).st with
      core := (s.memRead (streamOrigin n) a 512).st.core.store (accAddr n (f / 128) (f % 128)) (s.memRead (streamOrigin n) a 512).data
          } := by
    change { (s.streamRead n a 512).2 with
      core := (s.streamRead n a 512).2.core.store (accAddr n (f / 128) (f % 128)) (s.streamRead n a 512).1 } = _
    rw [State.streamRead_free hmode]
  have hsplit := s.core.store_append (accAddr n (f / 128) (f % 128)) (s.near.load m 256) (s.near.load m' 256)
  rw [hlen] at hsplit
  rw [hmove, hdata, ← hsplit]
  exact hst.store _ _

theorem State.streamMove_putRow (kind f row : Nat) (hkind : kind = 3 ∨ kind = 4) (hrow : accAddr n (f / 128) (f % 128) = row)
    (hapart : m + 256 ≤ m' ∨ m' + 256 ≤ m) : Moves s (s.streamMove n kind (a, f))
      ((s.near.store m (s.near.putBytes m (kind == 4) (s.core.load row 256))).store m'
        (s.near.putBytes m' (kind == 4) (s.core.load (row + 256) 256))) s.core := by
  have hload (b : Nat) : (s.core.load b 256).length = 256 := by simp [Mem.load]
  have hmove : s.streamMove n kind (a, f)
      = (s.memPut (streamOrigin n) (kind == 4) a (s.core.load row 256 ++ s.core.load (row + 256) 256)).st := by
    have hflag : (kind == 2 || kind == 4) = (kind == 4) := by rcases hkind with rfl | rfl <;> rfl
    have hwrite : s.streamMove n kind (a, f) = s.streamWrite n kind a (s.core.load row (256 + 256)) := by
      rw [← hrow]
      rcases hkind with rfl | rfl <;> rfl
    rw [hwrite, State.streamWrite_free hmode _ _ _ hl.lt, hflag, Mem.load_add]
  rw [hmove, ← Mem.access_put_two _ _ _ 256 _ _ _ (hload _) (hload _) (by omega) hapart]
  exact (Moves.refl s).put_two hl hl' (streamOrigin n) ha (kind == 4) _ _ (hload _) (hload _)

end

/-! ## A start begins to run (R104, R110) -/

theorem streamBegin_runs (s0 : State) (n d : Nat) (rest : List Nat) (hqueue : (s0.coreAt n).squeue = d :: rest)
    (hrun : (s0.coreAt n).srun.length < 4) (k : Nat) (hkind : (s0.catchUp n).get (F.SD_LOCAL_KIND n d) = k) (moved : State)
    (hmoved : ((s0.catchUp n).streamMoves n d).foldl (fun s m => s.streamMove n k m) (s0.catchUp n) = moved) :
    streamBegin k n s0 = (moved.setCore n { moved.coreAt n with
      squeue := rest, srun := (moved.coreAt n).srun ++ [(s0.catchUp n).streamRun n d] }).streamReserved 16 n := by
  have hctl : ((s0.catchUp n).coreAt n).ctl = (s0.coreAt n).ctl := by
    unfold State.catchUp
    dsimp only
    split
    · exact ((KeepsCtl.refl n s0).settle _).ctl
    · rfl
  have hqueue' : ((s0.catchUp n).coreAt n).squeue = d :: rest := (congrArg Core.squeue hctl :).trans hqueue
  have hrun' : ((s0.catchUp n).coreAt n).srun = (s0.coreAt n).srun := (congrArg Core.srun hctl :)
  unfold streamBegin
  dsimp only
  rw [hqueue']
  dsimp only
  rw [if_pos ⟨by rw [hrun']; exact hrun, hkind⟩, hmoved]

/-! ## A stream completes (R110) -/

theorem streamComplete_counts (s : State) (n i : Nat) (r : StreamRun) (hn : n < s.cores.length) (hrun : (s.coreAt n).srun[i]? = some r)
    (hqueue : (s.coreAt n).squeue = []) (hsc : r.sc < 8) (hlim : s.get (F.CNT_VALUE n (24 + r.sc)) < s.get (F.CNT_LIMIT n (24 + r.sc)))
    (t : State) (ht : streamComplete n i s = t) : (t.coreAt n).srun = (s.coreAt n).srun.eraseIdx i
      ∧ t.get (F.CNT_VALUE n (24 + r.sc)) = s.get (F.CNT_VALUE n (24 + r.sc)) + 1 ∧ regsBut [A.CNT n (24 + r.sc)] s t ∧ sameBytes s t :=
          by
  obtain ⟨c, hc⟩ : ∃ c : Core, { s.coreAt n with
    srun := (s.coreAt n).srun.eraseIdx i, pend := (s.coreAt n).pend.map (s.raceOp n r) } = c := ⟨_, rfl⟩
  obtain ⟨x, hx⟩ : ∃ x, s.setCore n c = x := ⟨_, rfl⟩
  have hat : x.coreAt n = c := by rw [← hx, s.coreAt_setCore_self n c hn]
  have hframe : Frame [A.CNT n (24 + r.sc)] s x := hx ▸ (Frame.refl _ s).setCore n c
  have hget (f : Field) : x.get f = s.get f := by rw [← hx]; rfl
  obtain ⟨-, -, hclamp⟩ := x.addCounter_clamps n (24 + r.sc) 1 2 (by omega)
  have hone : signed 16 1 = 1 := rfl
  have hset : x.addCounter n (24 + r.sc) 1 2 = x.set (F.CNT_VALUE n (24 + r.sc)) (s.get (F.CNT_VALUE n (24 + r.sc)) + 1) := by
    rw [hone, hget, hget] at hclamp
    rw [hclamp (by omega) (by omega)]
    rfl
  have heq : t = x.set (F.CNT_VALUE n (24 + r.sc)) (s.get (F.CNT_VALUE n (24 + r.sc)) + 1) := by
    have hstill : x.streamReserved 16 n = x := by
      rw [State.streamReserved]
      dsimp only
      rw [hat, ← hc]
      dsimp only
      rw [hqueue]
    rw [← ht, ← hset, streamComplete]
    dsimp only
    rw [hrun]
    dsimp only
    rw [hc, hx, hstill]
  have hlast : Frame [A.CNT n (24 + r.sc)] s t := heq ▸ hframe.set (F.CNT_VALUE n (24 + r.sc)) _
  refine ⟨?_, ?_, hlast.regs, hlast.bytes⟩
  · rw [heq, State.coreAt_congr n (State.set_cores _ _ _), hat, ← hc]
  · have hmax : s.get (F.CNT_LIMIT n (24 + r.sc)) < 2 ^ 32 := s.get_lt (F.CNT_LIMIT n (24 + r.sc))
    rw [heq]
    exact State.get_set_lt _ _ _ (Nat.zero_le 31) (show 31 < 64 by omega) (show _ < 2 ^ 32 by omega)

/-! ## The commands of a stream of one move -/

section
variable {s : State} {n d : Nat} (hs : s.powered) (hshape : s.shaped) (hn : n < 100) (hstate : (s.coreAt n).state ≠ 2)
  (hqueue : (s.coreAt n).squeue = [d]) (hrun : (s.coreAt n).srun = [])
include hs hshape hn hstate hqueue hrun

/-- The command of a stream of one move, from what its move leaves. -/
theorem stream_runs (cmd : Instr) (kind a f : Nat) (hexec : exec cmd s = lively s n 100 (streamBegin kind n))
    (hkind : s.get (F.SD_LOCAL_KIND n d) = kind) (hmoves : s.streamMoves n d = [(a, f)]) (u v : Mem)
    (hmove : Moves s (s.streamMove n kind (a, f)) u v) (p : State → Prop) (hp : ∀ t : State, t.near = u → t.core = v → p t) :
    ∃ t, exec cmd s = .next t ∧ t.coreAt n = { s.coreAt n with squeue := [], srun := [s.streamRun n d] } ∧ t.far = s.far
      ∧ t.stage = s.stage ∧ p t ∧ regsBut eccRegs s t := by
  have hlt : n < s.cores.length := by
    rw [hshape.1]
    exact hn
  obtain ⟨t, ht, hcore, hfar, hstage, ⟨hnear, hcores⟩, hregs⟩ :=
    streamBegin_one s n d kind a f hstate hqueue hrun hlt hkind hmoves u v hmove
  exact ⟨t, hexec.trans ((lively_powered s n 100 _ hn hs.1 hs.2).trans (congrArg Host.Outcome.next ht)), hcore, hfar, hstage,
    hp t hnear hcores, hregs⟩

end

/-- Settles O38, from what one granule, or two, of near memory give a stream and take from it. -/
theorem streams : Obligations.Streams := by
  unfold Obligations.Streams
  refine ⟨fun s0 n d rest hs hshape hn hqueue hrun => ?_, fun s n i r hs hshape hn hrun hqueue hsc hlim => ?_,
    fun s n d hs hshape hn hstate hqueue hrun hmode hrows hlen => ?_⟩
  · intro s k moved runs
    have one (kind : Nat) (cmd : Instr) (hexec : exec cmd s0 = lively s0 n 100 (streamBegin kind n)) (hk : k = kind) : runs cmd :=
      ⟨_, hexec.trans (lively_powered s0 n 100 _ hn hs.1 hs.2), hk ▸ streamBegin_runs s0 n d rest hqueue hrun k rfl moved rfl⟩
    refine ⟨one 0 _ rfl, one 1 _ rfl, one 2 _ rfl, one 3 _ rfl, one 4 _ rfl, one 5 _ rfl, fun x m hmode => ?_, fun x m hmode hm =>
        ⟨?_, ?_⟩⟩
    · change (x.streamRead n m.1 128).2.core.store _ (x.streamRead n m.1 128).1 = _
      rw [State.streamRead_free hmode]
    · exact State.streamWrite_free hmode 1 _ _ hm
    · exact State.streamWrite_free hmode 4 _ _ hm
  · have hlt : n < s.cores.length := by
      rw [hshape.1]
      exact hn
    exact ⟨_, lively_powered s n 100 _ hn hs.1 hs.2, streamComplete_counts s n i r hlt hrun hqueue hsc hlim _ rfl⟩
  · intro kind a e f row lies runs only
    have run (cmd : Instr) (k g : Nat) (hexec : exec cmd s = lively s n 100 (streamBegin k n)) (hk : kind = k)
        (hmoves : s.streamMoves n d = [(a, g)]) (u v : Mem) (hmove : Moves s (s.streamMove n k (a, g)) u v) (p : State → Prop)
        (hp : ∀ t : State, t.near = u → t.core = v → p t) : runs cmd p :=
      stream_runs hs hshape hn hstate hqueue hrun cmd k a g hexec hk hmoves u v hmove p hp
    have hload (u : Mem) (b k : Nat) : (u.load b k).length = k := by simp [Mem.load]
    refine ⟨fun m hl ha => ?_, fun m m' hl hl' ha _ hapart => ?_⟩
    · have element (hk : kind < 3) := State.streamMoves_element hrows hlen hk
      refine ⟨fun hk => ?_, fun hk => ?_, fun hk => ?_⟩
      · refine run _ 0 _ rfl hk (element (by omega)) _ _ (State.streamMove_load hmode hl _ ha) _ fun t hnear hcore => ?_
        obtain ⟨hread, hbut⟩ := s.core.store_one e 128 (s.near.load m 128) (hload _ _ _)
        rw [hcore, hnear]
        exact ⟨hread, hbut, rfl⟩
      · refine run _ 1 _ rfl hk (element (by omega)) _ _ (State.streamMove_put hmode hl 1 _ (.inl rfl) ha) _ fun t hnear hcore => ?_
        obtain ⟨hread, hbut⟩ := s.near.store_one m 128 (s.core.load e 128) (hload _ _ _)
        rw [hcore, hnear]
        exact ⟨hread, hbut, rfl⟩
      · refine run _ 2 _ rfl hk (element (by omega)) _ _ (State.streamMove_put hmode hl 2 _ (.inr rfl) ha) _ fun t hnear hcore => ?_
        have hput := s.near.putBytes_atomic m 128 (s.core.load e 128) (hload _ _ _)
        obtain ⟨hread, hbut⟩ := s.near.store_one m 128 _ ((s.near.putBytes_length m true _ (by rw [hload])).trans (hload s.core e 128))
        rw [hcore, hnear]
        exact ⟨hread.trans hput, hbut, rfl⟩
    · have rowMove (hk : ¬ kind < 3) := State.streamMoves_row hrows hlen hk
      refine ⟨fun hk => ?_, fun hk => ?_, fun hk => ?_⟩
      · refine run _ 3 _ rfl hk (rowMove (by omega)) _ _ (State.streamMove_putRow hmode hl hl' ha 3 f row (.inl rfl) rfl hapart) _
          fun t hnear hcore => ?_
        obtain ⟨hread, hread', hbut⟩ := s.near.store_two m m' 256 (s.core.load row 256) (s.core.load (row + 256) 256) (hload _ _ _)
          (hload _ _ _) hapart
        rw [hcore, hnear]
        exact ⟨hread, hread', hbut, rfl⟩
      · refine run _ 4 _ rfl hk (rowMove (by omega)) _ _ (State.streamMove_putRow hmode hl hl' ha 4 f row (.inr rfl) rfl hapart) _
          fun t hnear hcore => ?_
        have hput := s.near.putBytes_atomic m 256 (s.core.load row 256) (hload _ _ _)
        have hput' := s.near.putBytes_atomic m' 256 (s.core.load (row + 256) 256) (hload _ _ _)
        obtain ⟨hread, hread', hbut⟩ := s.near.store_two m m' 256 _ _
          ((s.near.putBytes_length m true _ (by rw [hload])).trans (hload s.core row 256))
          ((s.near.putBytes_length m' true _ (by rw [hload])).trans (hload s.core (row + 256) 256)) hapart
        rw [hcore, hnear]
        exact ⟨hread.trans hput, hread'.trans hput', hbut, rfl⟩
      · refine run _ 5 _ rfl hk (rowMove (by omega)) _ _ (State.streamMove_loadRow hmode hl hl' ha f) _ fun t hnear hcore => ?_
        obtain ⟨hread, hread', hbut⟩ := s.core.store_two row (row + 256) 256 (s.near.load m 256) (s.near.load m' 256) (hload _ _ _)
          (hload _ _ _) (.inl (Nat.le_refl _))
        rw [hcore, hnear]
        exact ⟨hread, hread', hbut, rfl⟩

end Sys2Proof.Machine

/-! Packets for this module reach their units (O49). -/
namespace Sys2Proof.Machine

/-! ## A packet for this module is taken (R279, R284) -/

/-- The state without the packet it held: the packet has left its buffer, whose credit returns. -/
def State.taken (s : State) (l : Transit) : State := { s with rt := { s.rt with held := [] }, sent := s.sent ++ l.credits }

section
variable {s : State} {l : Transit} (hs : s.powered) (hheld : s.rt.held = [l]) (hloc : l.loc = true) (houts : l.outs = [])
include hheld hloc houts

omit hloc in
theorem State.acceptAt_taken : s.acceptAt 0 l = s.taken l := by
  unfold State.acceptAt
  rw [if_pos (by rw [houts]; rfl)]
  rw [State.giveCredit_sent, State.pumpAll_empty]
  · unfold State.taken
    rw [hheld]
    rfl
  · rw [hheld]
    rfl

/-- The packet of its kind is taken and applied. -/
theorem State.takeLocal_taken (hspec : l.pkt.spec = false) (kind : Nat) (hkind : l.pkt.kind = kind) (f : State → Transit → State) :
    s.takeLocal kind f = f (s.taken l) l := by
  have hfirst : s.firstOf kind = some 0 := by
    have hacc : s.acceptable kind = [0] := by
      unfold State.acceptable
      rw [hheld]
      simp [hloc, hkind]
    rw [State.firstOf, hacc]
    rfl
  unfold State.takeLocal
  rw [hfirst, hheld]
  dsimp only [List.getElem?_cons_zero]
  rw [State.acceptAt_taken hheld houts, if_neg (by simp [hspec])]

include hs in
/-- A command that takes a packet. -/
theorem taken_runs (hspec : l.pkt.spec = false) (cmd : Instr) (kind : Nat) (f : State → Transit → State)
    (hexec : exec cmd s = live s fun s => s.takeLocal kind f) (hkind : l.pkt.kind = kind) : exec cmd s = .next (f (s.taken l) l) := by
  rw [hexec, live_powered s _ hs.1 hs.2, State.takeLocal_taken hheld hloc houts hspec kind hkind]

end

/-! ## Writes, atomic adds and signals (R103, R170, R279, R280) -/

theorem State.memPut_one_status (s : State) (o : Origin) (atomic : Bool) (a : Nat) (bs : List Byte) (hn : 0 < bs.length)
    (h : a % 256 + bs.length ≤ 256) : (s.memPut o atomic a bs).status = (s.memAccess o a (putAccess atomic bs)).status := by
  unfold State.memPut
  rw [granules_one a _ hn h]
  simp [putAccess]

section
variable {s : State} {l : Transit} {pc off : Nat} (hplace : s.place (bits l.pkt.w2 47 0) = .near pc off)
  (hserves : s.serves (entMc (pc / 32)) = true) (hret : s.pcRetired pc = false) (hspec : l.pkt.spec = false)
include hplace hserves hret hspec

/-- A packet whose payload lies in one granule of near memory. -/
theorem State.packetPut_near (die : Nat) (atomic : Bool) (hn : 0 < l.pkt.payload.length)
    (hin : bits l.pkt.w2 47 0 % 256 + l.pkt.payload.length ≤ 256) :
    (s.taken l).packetPut die l.pkt atomic
      = ((s.taken l).nearAccess ⟨die, 27⟩ (bits l.pkt.w2 47 0) pc off (putAccess atomic l.pkt.payload) none).st := by
  have hmem : isMemory (bits l.pkt.w2 47 0) = true := by simp [isMemory, State.place_near hplace]
  have haccess := State.memAccess_near (s := s.taken l) ⟨die, 27⟩ (putAccess atomic l.pkt.payload) none hplace
  obtain ⟨hok, -⟩ := (s.taken l).nearAccess_served ⟨die, 27⟩ (bits l.pkt.w2 47 0) pc off (putAccess atomic l.pkt.payload) none hserves
      hret _ rfl
  have hstatus := (s.taken l).memPut_one_status ⟨die, 27⟩ atomic (bits l.pkt.w2 47 0) l.pkt.payload hn hin
  rw [haccess, hok] at hstatus
  unfold State.packetPut
  dsimp only
  rw [hmem, hspec, hstatus, if_neg (show ¬ (stOk = stRetired ∧ _) from fun h => absurd h.1 (by decide)),
    State.memPut_one _ _ _ _ _ _ hn hin]
  exact congrArg Done.st haccess

/-- What a write leaves of near memory. -/
theorem State.packetPut_leaves (die : Nat) (atomic : Bool) (hn : 0 < l.pkt.payload.length)
    (hin : bits l.pkt.w2 47 0 % 256 + l.pkt.payload.length ≤ 256) (halign : atomic = true → l.pkt.payload.length % 4 = 0) (t : State)
    (ht : (s.taken l).packetPut die l.pkt atomic = t) : t.rt = (s.taken l).rt ∧ t.sent = (s.taken l).sent
      ∧ t.near.load (pc * pcBytes + off) l.pkt.payload.length = s.near.putBytes (pc * pcBytes + off) atomic l.pkt.payload
      ∧ (∀ b, b < pc * pcBytes + off ∨ pc * pcBytes + off + l.pkt.payload.length ≤ b → t.near.get b = s.near.get b)
      ∧ (atomic = false → regsBut [A.MC_ECC (pc / 32)] s t) := by
  obtain ⟨-, -, ⟨mc, regs, freeCtr, honly⟩, -, hregs⟩ := (s.taken l).nearAccess_served ⟨die, 27⟩ (bits l.pkt.w2 47 0) pc off
    (putAccess atomic l.pkt.payload) none hserves hret _ rfl
  rw [State.packetPut_near hplace hserves hret hspec die atomic hn hin] at ht
  rw [ht] at honly hregs
  have hlen : (s.near.putBytes (pc * pcBytes + off) atomic l.pkt.payload).length = l.pkt.payload.length := by
    cases atomic with
    | false => rfl
    | true => exact s.near.putBytes_length _ true _ (halign rfl)
  have hnear : t.near = s.near.store (pc * pcBytes + off) (s.near.putBytes (pc * pcBytes + off) atomic l.pkt.payload) := by
    rw [← Mem.access_put, honly]
    rfl
  refine ⟨by rw [honly], by rw [honly], ?_, fun b hb => ?_, fun h => hregs (by rw [h]; rfl)⟩
  · rw [hnear, Mem.load_store_of _ _ _ _ hlen]
  · rw [hnear, Mem.store_only _ _ _ _ (by rw [hlen]; exact hb)]

end

theorem State.signalPacket_core (y : State) (p : Packet) (k : Nat) (hcore : bits p.w2 45 41 < 24)
    (hsite : y.siteOf (bits p.w2 47 46) (bits p.w2 45 41) = some k) (hserves : y.serves (entCore k) = true)
    (hctr : 16 ≤ bits p.w2 40 36 ∧ bits p.w2 40 36 ≤ 23) :
    y.signalPacket p = y.addCounter k (bits p.w2 40 36) (bits p.w2 63 48) 1 := by
  unfold State.signalPacket
  dsimp only
  rw [if_neg (by omega), if_neg (by omega), State.coreSignal, hsite]
  dsimp only
  rw [hserves, if_neg Bool.noConfusion, if_pos hctr]

/-! ## Reduction packets (R325, R326, R333) -/

/-- A packet that passes the checks of R325 as a piece of input i of round x. -/
structure State.fits (y : State) (role : Nat) (p : Packet) (i : Nat) (x : Round) : Prop where
  active : y.cxActive (packetCtx p) kReduce = true
  role : y.get (F.RC_CFG_ROLE (packetCtx p)) = role
  tag : p.stepTag = y.cxTag (packetCtx p)
  gen : p.layoutGen = y.get F.COLL_LAYOUT_CUR
  rounds : (y.cx (packetCtx p)).rounds = [x]
  opened : x.phase = 0
  num : x.num % 8 = p.coll / 32
  whole : (x.ins.getD i {}).broken = false
  mask : (x.ins.getD i {}).got = true → (x.ins.getD i {}).mask = bits p.w2 63 48
  deadline : p.deadline = y.cxDeadline (packetCtx p) x.num % 2 ^ 48
  offset : p.offset * 32 = (x.ins.getD i {}).bytes
  room : p.offset * 32 + p.payload.length ≤ y.cxR (packetCtx p)
  members : (bits p.w2 63 48 &&& y.get (F.RC_IN_MASK (packetCtx p) i)) = bits p.w2 63 48

/-- The input a packet comes from. -/
def State.redInput (y : State) (role : Nat) (p : Packet) : Option Nat :=
  if role = 0 then (y.cxInputs (packetCtx p)).find? fun i => y.get (F.RC_IN_SRC_ID (packetCtx p) i) == p.srcId
  else if y.on (F.RC_IN_VALID (packetCtx p) 0) ∧ y.get (F.RC_IN_SRC_ID (packetCtx p) 0) = p.srcId then some 0 else none

/-- A context that runs for a step notes a packet of no step. -/
def State.voted (y : State) (p : Packet) : State :=
  if (y.cx (packetCtx p)).spec && !p.spec then y.setCx (packetCtx p) { y.cx (packetCtx p) with vote := true } else y

/-- What an accepted contribution adds to the log of its input. -/
def noteInput (p : Packet) (inp j : RedInput) : RedInput :=
  let j1 := if inp.got then j else
    { j with mask := bits p.w2 63 48, included := bits p.w2 47 32, poisonIn := bits p.w2 31 16, lateIn := bits p.w2 15 0 }
  { j1 with csum := (j1.csum + p.w4.toNat) % 2 ^ 64, sat := j1.sat || bitAt p.policy 12, marked := j1.marked || bitAt p.policy 13 }

theorem State.redPacket_fits (y : State) (role : Nat) (p : Packet) (i : Nat) (x : Round) (hfrom : y.redInput role p = some i)
    (h : y.fits role p i x) : y.redPacket role p =
      if role = 1 then (y.voted p).receive (packetCtx p) x p
      else State.addInput { y.voted p with
          stage := (y.voted p).stage.store ((y.voted p).cxArea (packetCtx p) x.num (2 + i) + p.offset * 32) p.payload }
        (packetCtx p) x i (p.offset * 32) p.payload (noteInput p (x.ins.getD i {})) := by
  have hfound : (y.cx (packetCtx p)).rounds.find? (fun x => x.phase == 0 && x.num % 8 == p.coll / 32) = some x := by
    rw [h.rounds]
    simp [h.opened, h.num]
  have hbad : ((x.ins.getD i {}).broken || p.deadline != y.cxDeadline (packetCtx p) x.num % 2 ^ 48 || p.offset * 32 !=
      (x.ins.getD i {}).bytes
      || decide (y.cxR (packetCtx p) < p.offset * 32 + p.payload.length)
      || (bits p.w2 63 48 &&& y.get (F.RC_IN_MASK (packetCtx p) i)) != bits p.w2 63 48
      || ((x.ins.getD i {}).got && bits p.w2 63 48 != (x.ins.getD i {}).mask)) = false := by
    have hmask : ((x.ins.getD i {}).got && bits p.w2 63 48 != (x.ins.getD i {}).mask) = false := by
      cases hgot : (x.ins.getD i {}).got with
      | false => rfl
      | true => rw [h.mask hgot, bne_self_eq_false]; rfl
    rw [h.whole, hmask, ← h.deadline, h.offset, h.members, ← h.offset]
    simpa using h.room
  unfold State.redPacket
  dsimp only
  rw [if_neg (by simp [h.active, h.role])]
  change (match y.redInput role p with | none => _ | some i => _) = _
  rw [hfrom]
  dsimp only
  rw [if_neg (by simp [h.tag]), if_neg (by simp [h.gen]), hfound]
  dsimp only
  rw [hbad]
  rfl

theorem State.voted_only (y : State) (p : Packet) : ∃ ctx, y.voted p = { y with ctx := ctx } := by
  unfold State.voted
  split
  · exact ⟨_, rfl⟩
  · exact ⟨_, rfl⟩

theorem RoundsKept.voted (y : State) (p : Packet) : RoundsKept y (y.voted p) :=
  ((RoundsKept.refl y).setCx _ _ (by rfl)).ite (RoundsKept.refl y)

/-- A context's only round that is put back. -/
theorem State.putRound_one (y : State) (c : Nat) (x z : Round) (hc : c < y.ctx.length) (hrounds : (y.cx c).rounds = [x])
    (hnum : x.num = z.num) :
    ((y.putRound c z).cx c).rounds = [z] := by
  rw [(RoundsKept.putRound z).rounds c, y.cx_setCx_self c _ hc, hrounds]
  exact congrArg (fun y => [y]) (if_pos hnum)

theorem State.putRound_stage (y : State) (c : Nat) (z : Round) : (y.putRound c z).stage = y.stage ∧ (y.putRound c z).rt = y.rt
    ∧ (y.putRound c z).near = y.near := by
  unfold State.putRound State.showRound
  dsimp only
  split
  · exact ⟨rfl, rfl, rfl⟩
  · exact ⟨rfl, rfl, rfl⟩

theorem noteInput_kept (p : Packet) (inp j : RedInput) : (noteInput p inp j).bytes = j.bytes ∧ (noteInput p inp j).got = j.got := by
  unfold noteInput
  dsimp only
  split
  · exact ⟨rfl, rfl⟩
  · exact ⟨rfl, rfl⟩

theorem State.cxArea_apart (y : State) (c r i off n : Nat) (h : off + n ≤ y.cxR c) :
    y.cxArea c r 1 + off + n ≤ y.cxArea c r (2 + i) + off := by
  have hstep : y.cxArea c r (2 + i) = y.cxArea c r 1 + (1 + i) * y.cxR c := by
    unfold State.cxArea
    rw [Nat.add_assoc _ (1 * _), ← Nat.add_mul]
    congr 2
    omega
  have hone : y.cxR c ≤ (1 + i) * y.cxR c := Nat.le_mul_of_pos_left _ (by omega)
  omega

/-- Mantissas added to a memory change no more bytes than they come in. -/
theorem Mem.addMants_store (m : Mem) (a : Nat) (bs : List Byte) : ∃ l : List Byte, (m.addMants 1 a bs).1 = m.store a l
    ∧ l.length ≤ bs.length := by
  have hpack (l : List Nat) : (packValues 32 l).length = 4 * l.length := by
    have hflat : packValues 32 l = l.flatMap (bytesOf 4) := if_neg (by omega)
    rw [hflat]
    simp [List.length_flatMap, Nat.mul_comm]
  refine ⟨_, rfl, ?_⟩
  rw [hpack]
  simp only [List.length_map, List.length_zip, mants, valuesOf_length, Mem.load, List.length_range]
  omega

/-- An accepted contribution is logged, kept and added into SUM. -/
theorem State.redPacket_contrib (y : State) (p : Packet) (i : Nat) (x : Round) (hc : packetCtx p < y.ctx.length) (hi : i < x.ins.length)
    (hfrom : y.redInput 0 p = some i) (h : y.fits 0 p i x) (t : State) (ht : y.redPacket 0 p = t) :
    ∃ z, (t.cx (packetCtx p)).rounds = [z] ∧ z.num = x.num
      ∧ (z.ins.getD i {}).bytes = (x.ins.getD i {}).bytes + p.payload.length ∧ (z.ins.getD i {}).got = true
      ∧ t.stage.load (y.cxArea (packetCtx p) x.num (2 + i) + p.offset * 32) p.payload.length = p.payload ∧ t.rt = y.rt ∧ t.near =
          y.near := by
  have hvoted := RoundsKept.voted y p
  obtain ⟨ctx, honly⟩ := y.voted_only p
  have hrounds : ((y.voted p).cx (packetCtx p)).rounds = [x] := (hvoted.rounds _).trans h.rounds
  have hlen : packetCtx p < (y.voted p).ctx.length := hvoted.len ▸ hc
  have harea (k : Nat) : (y.voted p).cxArea (packetCtx p) x.num k = y.cxArea (packetCtx p) x.num k := by rw [honly]; rfl
  have hvrt : (y.voted p).rt = y.rt ∧ (y.voted p).near = y.near := by rw [honly]; exact ⟨rfl, rfl⟩
  rw [y.redPacket_fits 0 p i x hfrom h, if_neg (by omega)] at ht
  generalize y.voted p = v at *
  obtain ⟨v1, hv1⟩ : ∃ v1 : State, { v with stage := v.stage.store (v.cxArea (packetCtx p) x.num (2 + i) + p.offset * 32) p.payload } =
      v1 :=
    ⟨_, rfl⟩
  have hstage1 : v1.stage = v.stage.store (y.cxArea (packetCtx p) x.num (2 + i) + p.offset * 32) p.payload := by
    rw [← hv1, harea]
  rw [hv1] at ht
  unfold State.addInput at ht
  dsimp only at ht
  obtain ⟨inp, hinp⟩ : ∃ inp : RedInput, noteInput p (x.ins.getD i {}) { x.ins.getD i {} with
      bytes := (x.ins.getD i {}).bytes + p.payload.length, got := true
      poison := (x.ins.getD i {}).poison + poisons p.payload, stamp := v1.now } = inp := ⟨_, rfl⟩
  obtain ⟨hbytes, hgot⟩ := noteInput_kept p (x.ins.getD i {}) { x.ins.getD i {} with
      bytes := (x.ins.getD i {}).bytes + p.payload.length, got := true
      poison := (x.ins.getD i {}).poison + poisons p.payload, stamp := v1.now }
  rw [hinp] at ht hbytes hgot
  obtain ⟨z, hz⟩ : ∃ z : Round, { x with
      ins := x.ins.set i inp
      corr := x.corr + (v1.stage.addMants 1 (v1.cxArea (packetCtx p) x.num 1 + p.offset * 32) p.payload).2.1
      sat := x.sat || (v1.stage.addMants 1 (v1.cxArea (packetCtx p) x.num 1 + p.offset * 32) p.payload).2.2 } = z := ⟨_, rfl⟩
  rw [hz] at ht
  have hins : z.ins.getD i {} = inp := by
    rw [← hz]
    exact (getD_set_eq x.ins i i inp {} hi).trans (if_pos rfl)
  obtain ⟨w, hw⟩ : ∃ w : State, { v1 with
    stage := (v1.stage.addMants 1 (v1.cxArea (packetCtx p) x.num 1 + p.offset * 32) p.payload).1 } = w := ⟨_, rfl⟩
  rw [hw] at ht
  have hwctx : w.ctx = v.ctx := by rw [← hw, ← hv1]
  obtain ⟨hstage, hrt, hnear⟩ := w.putRound_stage (packetCtx p) z
  rw [ht] at hstage hrt hnear
  refine ⟨z, ?_, by rw [← hz], by rw [hins, hbytes], by rw [hins, hgot], ?_, ?_, ?_⟩
  · rw [← ht]
    refine w.putRound_one _ x z (by rw [hwctx]; exact hlen) ?_ (by rw [← hz])
    rw [State.cx, hwctx]
    exact hrounds
  · obtain ⟨bs, hadd, hshort⟩ := v1.stage.addMants_store (v1.cxArea (packetCtx p) x.num 1 + p.offset * 32) p.payload
    have harea1 : v1.cxArea (packetCtx p) x.num 1 = y.cxArea (packetCtx p) x.num 1 := by
      rw [← harea, ← hv1]
      rfl
    have hapart := y.cxArea_apart (packetCtx p) x.num i (p.offset * 32) p.payload.length h.room
    rw [hstage, ← hw]
    dsimp only
    rw [hadd, harea1, Mem.load_store_apart _ _ _ _ _ (.inl (by omega)), hstage1, Mem.load_store]
  · rw [hrt, ← hw, ← hv1]
    exact hvrt.1
  · rw [hnear, ← hw, ← hv1]
    exact hvrt.2

/-- The rounds of the contexts and the staging memory are kept. -/
structure KeptOpen (o s : State) : Prop where
  rounds : RoundsKept o s
  stage : s.stage = o.stage

section
variable {o s : State} (h : KeptOpen o s)
include h

theorem KeptOpen.sendRed (c r off : Nat) (bs : List Byte) (w2 : Word) (policy deadline : Nat) (fwd : Bool) (kind : Nat) :
    KeptOpen o (s.sendRed c r off bs w2 policy deadline fwd kind) := by
  refine ⟨h.rounds.sendRed c r off bs w2 policy deadline fwd kind, Eq.trans ?_ h.stage⟩
  obtain ⟨-, -, hstage, -⟩ := (State.mems_eq_iff _ _).mp
      (((Keeps.refl (wr := false) s).sendRed c r off bs w2 policy deadline fwd kind).same rfl)
  exact hstage

theorem KeptOpen.cxPut (c a : Nat) (bs : List Byte) : KeptOpen o (s.cxPut c a bs) := by
  refine ⟨h.rounds.cxPut c a bs, Eq.trans ?_ h.stage⟩
  obtain ⟨_, _, _, _, _, _, hput⟩ := (MemOnly.refl s).memPut ⟨s.cxHome c, 27⟩ false a bs none
  obtain ⟨seq, hwrote⟩ := (s.memPut ⟨s.cxHome c, 27⟩ false a bs).st.cxWrote_only c a bs.length
  rw [State.cxPut, hwrote, hput]

theorem KeptOpen.ite {t : State} {c : Prop} [Decidable c] (ht : KeptOpen o t) : KeptOpen o (if c then s else t) := by
  split
  · exact h
  · exact ht

end

/-- A piece of a result that is not the last is logged, kept as it arrives, and passed on. -/
theorem State.receive_open (v : State) (c : Nat) (x : Round) (p : Packet) (hc : c < v.ctx.length) (hi : 0 < x.ins.length)
    (hlast : x.last = false) (hmore : bitAt p.policy 11 = false) (hrounds : (v.cx c).rounds = [x]) (t : State)
    (ht : v.receive c x p = t) : ∃ z, (t.cx c).rounds = [z] ∧ z.num = x.num
      ∧ (z.ins.getD 0 {}).bytes = (x.ins.getD 0 {}).bytes + p.payload.length ∧ z.phase = 0
      ∧ t.stage.load (v.cxArea c x.num 1 + p.offset * 32) p.payload.length = p.payload := by
  unfold State.receive at ht
  extract_lets +onlyGivenNames r off inp n last full csum inp1 x1 s1 dl s2 s3 s4 at ht
  have hfull : full = false := by
    unfold full last
    rw [hlast, hmore]
    rfl
  rw [hfull, if_neg Bool.noConfusion] at ht
  have hins : x1.ins.getD 0 {} = inp1 := (getD_set_eq x.ins 0 0 inp1 {} hi).trans (if_pos rfl)
  have hphase : x1.phase = 0 := by
    change (if full then 2 else 0) = 0
    rw [hfull]
    rfl
  have h4 : KeptOpen s1 s4 := by
    have h1 : KeptOpen s1 s1 := ⟨RoundsKept.refl s1, rfl⟩
    have h2 : KeptOpen s1 s2 := (h1.sendRed _ _ _ _ _ _ _ _ _).ite h1
    have h3 : KeptOpen s1 s3 := (h2.sendRed _ _ _ _ _ _ _ _ _).ite h2
    exact (h3.cxPut _ _ _).ite h3
  obtain ⟨u, hu⟩ : ∃ u : State, { v with stage := v.stage.store (v.cxArea c r 1 + off) p.payload } = u := ⟨_, rfl⟩
  have hs1 : s1 = (u.putRound c x1).setReg (A.RC_RESULT c) p.w2 := by rw [← hu]
  have hround1 : (s1.cx c).rounds = [x1] := by
    rw [hs1]
    exact u.putRound_one c x x1 (by rw [← hu]; exact hc) (by rw [← hu]; exact hrounds) rfl
  have hstage1 : s1.stage = v.stage.store (v.cxArea c r 1 + off) p.payload := by
    rw [hs1, State.setReg_stage, (u.putRound_stage c x1).1, ← hu]
  refine ⟨x1, ?_, rfl, ?_, hphase, ?_⟩
  · rw [← ht, h4.rounds.rounds, hround1]
  · rw [hins]
  · rw [← ht, h4.stage, hstage1, Mem.load_store]

/-- An accepted piece of a result. -/
theorem State.redPacket_result (y : State) (p : Packet) (x : Round) (hc : packetCtx p < y.ctx.length) (hi : 0 < x.ins.length)
    (hlast : x.last = false) (hmore : bitAt p.policy 11 = false) (hfrom : y.redInput 1 p = some 0) (h : y.fits 1 p 0 x) (t : State)
    (ht : y.redPacket 1 p = t) : ∃ z, (t.cx (packetCtx p)).rounds = [z] ∧ z.num = x.num
      ∧ (z.ins.getD 0 {}).bytes = (x.ins.getD 0 {}).bytes + p.payload.length ∧ z.phase = 0
      ∧ t.stage.load (y.cxArea (packetCtx p) x.num 1 + p.offset * 32) p.payload.length = p.payload := by
  have hvoted := RoundsKept.voted y p
  obtain ⟨ctx, honly⟩ := y.voted_only p
  have harea : (y.voted p).cxArea (packetCtx p) x.num 1 = y.cxArea (packetCtx p) x.num 1 := by
    rw [honly]
    rfl
  rw [y.redPacket_fits 1 p 0 x hfrom h, if_pos rfl] at ht
  rw [← harea]
  exact (y.voted p).receive_open (packetCtx p) x p (hvoted.len ▸ hc) hi hlast hmore ((hvoted.rounds _).trans h.rounds) t ht

theorem State.redDeliver_serves (y : State) (role : Nat) (p : Packet) (hctx : y.serves (entCtx (packetCtx p)) = true)
    (hstage : y.serves (entStage (y.cxHome (packetCtx p))) = true) : y.redDeliver role p = y.redPacket role p := by
  unfold State.redDeliver
  dsimp only
  rw [hctx, if_neg Bool.noConfusion, if_pos hstage]

/-! ## Peloton and Caravan packets (R340, R346) -/

section
variable (y : State) (p : Packet) (hserves : y.serves (entCtx (packetCtx p)) = true) (hours : p.layoutGen = y.get F.COLL_LAYOUT_CUR)
include hserves hours

theorem State.pelotonPacket_current (release : Bool) (hactive : y.cxActive (packetCtx p) kPeloton = true)
    (hgen : bits p.w2 47 32 = y.pgen (packetCtx p)) : y.pelotonPacket p release
      = if release then y.pelotonSpread (packetCtx p) (bits p.w2 63 48)
        else y.setCx (packetCtx p)
            { y.cx (packetCtx p) with heard := (y.cx (packetCtx p)).heard ||| bits p.w2 63 48, heardAt := y.now } := by
  unfold State.pelotonPacket
  dsimp only
  rw [hserves, hactive, if_neg Bool.noConfusion, if_neg Bool.noConfusion, if_neg (by simp [hours]), if_neg (by simp [hgen])]

theorem State.caravanPacket_current (die : Nat) (hactive : y.cxActive (packetCtx p) kCaravan = true)
    (hround : y.get (F.RC_STATUS_ROUND (packetCtx p)) = p.policy % 16) : y.caravanPacket die p
      = (y.setCx (packetCtx p) { y.cx (packetCtx p) with
          recv := (y.cx (packetCtx p)).recv.set (p.policy % 16)
            ((y.cx (packetCtx p)).recv.getD (p.policy % 16) 0 + p.payload.length) }).packetPut die p false := by
  unfold State.caravanPacket
  dsimp only
  rw [hserves, hactive, if_neg Bool.noConfusion, if_neg Bool.noConfusion, if_neg (by simp [hours]), if_neg (by simp [hround])]

end

/-! ## The proxy (R409) -/

theorem countOk_one (limit n : Nat) (h : countOk limit 1 n = true) : n = 1 := by simpa [countOk] using h

theorem State.sendLocal_unroutable (s : State) (die : Nat) (x : Send) (hbank : s.sendBank = none) : s.sendLocal die x
    = s.unroutable (12 + die) (x.packet (s.get F.RT_NODE_ID_ID) (s.get F.RT_BANK_STATUS_SEND_EPOCH)) x.mcast := by
  unfold State.sendLocal
  dsimp only
  rw [hbank]

/-- The answer of the proxy to a request, which finds no route. -/
theorem State.mgmtAnswer_unroutable (s : State) (die : Nat) (p : Packet) (status operand : Nat) (data : List Word)
    (hdst : p.srcId < 2 ^ 16)
    (hbank : s.sendBank = none) : ∃ q : Packet, q.kind = 0x21 ∧ q.dst = p.srcId
      ∧ s.mgmtAnswer die p status operand data = s.unroutable (12 + die) q false := by
  unfold State.mgmtAnswer State.sendMgmt
  rw [State.sendLocal_unroutable _ _ _ hbank]
  refine ⟨_, (Send.packet_fields _ _ _ _ rfl).2.1, ?_, rfl⟩
  obtain ⟨hqdst, -⟩ := Send.packet_fields _ _ _ _ rfl
  exact hqdst.trans (Nat.mod_eq_of_lt hdst)

theorem State.mgmtRun_write (s : State) (l : Transit) (hop : (frameRequest (mgmtFrame l.pkt)).op = 1)
    (hok : ({ frameRequest (mgmtFrame l.pkt) with proxy := some 0 } : Request).malformed 96 = false) (d : WordDone)
    (hd : s.devWord ⟨dieOfSrc l.src, 27⟩ (frameRequest (mgmtFrame l.pkt)).addr (some ((frameRequest (mgmtFrame l.pkt)).words.getD 0 0)) =
        d) :
    s.mgmtRun l = d.st.mgmtAnswer (dieOfSrc l.src) l.pkt d.status (if d.status = stOk then noWord else 0) [] := by
  obtain ⟨r, hr⟩ : ∃ r : Request, { frameRequest (mgmtFrame l.pkt) with proxy := some 0 } = r := ⟨_, rfl⟩
  have hrop : r.op = 1 := by rw [← hr]; exact hop
  have haddr : r.addr = (frameRequest (mgmtFrame l.pkt)).addr := by rw [← hr]
  have hwords : r.words = (frameRequest (mgmtFrame l.pkt)).words := by rw [← hr]
  rw [hr] at hok
  have hcount : r.count = 1 := by
    refine countOk_one 96 r.count ?_
    have hok' := hok
    simp only [Request.malformed, Bool.or_eq_false_iff, Bool.not_eq_false', hrop] at hok'
    exact hok'.1.1.2
  have hlt : r.addr < 2 ^ 48 := haddr ▸ bits_lt (mgmtFrame l.pkt).w0 47 0
  have hrun := s.runWords_one ⟨dieOfSrc l.src, 27⟩ r (some (r.words.getD 0 0)) hrop hcount hlt fun w hw => Option.some.inj hw
  rw [haddr, hwords, hd] at hrun
  unfold State.mgmtRun
  dsimp only
  rw [hr, hok, hrun]
  rfl

/-- The request at the front of the proxy's mailbox, which has come alone. -/
theorem mgmtReq_taken {s : State} {l : Transit} (hheld : s.rt.held = [l]) (hloc : l.loc = true) (houts : l.outs = [])
    (hspec : l.pkt.spec = false) (hkind : l.pkt.kind = 0x20) (hempty : s.rt.mailbox = []) : mgmtReq s = (s.taken l).mgmtRun l := by
  have hbox : (s.taken l).rt.mailbox = [] := hempty
  have hin : s.proxyIn 1 = { s.taken l with rt := { (s.taken l).rt with mailbox := [l] } } := by
    rw [State.proxyIn, State.takeLocal_taken hheld hloc houts hspec 0x20 hkind, hempty]
    dsimp only
    rw [hbox]
    rfl
  have hself : ({ s.taken l with rt := { (s.taken l).rt with mailbox := [] } } : State) = s.taken l := by rw [← hbox]
  unfold mgmtReq
  have hone : s.rt.held.length = 1 := by
    rw [hheld]
    rfl
  dsimp only
  rw [hone, hin]
  exact congrArg (fun x : State => x.mgmtRun l) hself

/-- A response goes back on the Colok port whose only request it answers. -/
theorem State.mgmtBack_answers (y : State) (l : Transit) (r : Request) (hcolok : y.colok.length = 2)
    (hfind : y.mgmtFind l.pkt = some (0, 0, r))
    (hbox : (y.ck 0).mbox = [r]) (hmute : r.mute = false) (hout : (y.ck 0).outq = []) (hroom : (y.ck 0).unacked.length < 64)
    (hstatus : bits (mgmtFrame l.pkt).w0 59 56 = 0) (t : State) (ht : y.mgmtBack l = t) :
    ∃ f : Sys2Proof.Frame, (t.ck 0).mbox = [] ∧ t.sent = y.sent ++ [.frame 0 f] ∧ f.op = 8 ∧ bits f.w0 59 56 = 0
      ∧ bits f.w1 63 48 = r.tag % 65536 ∧ f.payload = (mgmtFrame l.pkt).payload.take (mgmtFrame l.pkt).count := by
  have hmbox (status operand : Nat) (data : List Word) : ((y.finishRequest 0 0 r status operand data).ck 0).mbox = [] := by
    rw [State.finishRequest_mbox _ _ _ _ _ _ _ (by omega), hbox]
    rfl
  unfold State.mgmtBack at ht
  rw [hfind] at ht
  dsimp only at ht
  rw [State.forwardAll_none _ _ _ fun q hq => absurd hq (by rw [hmbox]; exact List.not_mem_nil), hstatus] at ht
  obtain ⟨f, hsent, hop, hw0, htag, hdata, -⟩ := y.finishRequest_answers 0 0 r 0 (bits (mgmtFrame l.pkt).w3 31 0)
    ((mgmtFrame l.pkt).payload.take (mgmtFrame l.pkt).count) hcolok (by omega) hmute hout hroom
  rw [← ht]
  exact ⟨f, hmbox _ _ _, hsent, hop, hw0, htag, hdata⟩

theorem find?_only {p : Nat → Bool} {i : Nat} {l : List Nat} (hi : i ∈ l) (honly : ∀ j ∈ l, p j = true ↔ j = i) : l.find? p = some i := by
  obtain ⟨j, hj⟩ := Option.isSome_iff_exists.mp (List.find?_isSome.mpr ⟨i, hi, (honly i hi).mpr rfl⟩)
  rw [hj, (honly j (List.mem_of_find?_eq_some hj)).mp (List.find?_some hj)]

theorem sameBytes_taken {s t : State} {l : Transit} (h : sameBytes (s.taken l) t) : sameBytes s t := h

/-- Settles O49, from the state without the packet and what its unit does with it. -/
theorem localDeliveries : Obligations.LocalDeliveries := by
  unfold Obligations.LocalDeliveries
  intro s l hs hshape hheld hloc houts hspec y a n c ours m
  have run (cmd : Instr) (kind : Nat) (f : State → Transit → State) (hexec : exec cmd s = live s fun s => s.takeLocal kind f)
      (hkind : l.pkt.kind = kind) : exec cmd s = .next (f (s.taken l) l) :=
    taken_runs hs hheld hloc houts hspec cmd kind f hexec hkind
  have hctx : s.ctx.length = 16 := hshape.2.2.1
  refine ⟨fun pc off hkind hplace hserves hret hn hin => ?_, fun pc off hkind hplace hserves hret hn hin halign => ?_,
    fun k hkind hcore hsite hserves hlo hhi => ?_, ?_, ?_, fun hkind hserves hactive hours hgen => ?_,
    fun hkind hc hserves hactive hours hgen hplain => ?_, fun hkind hserves hactive hours hround => ?_, ?_, ?_⟩
  · obtain ⟨hrt, hsent, hload, hbut, hregs⟩ := State.packetPut_leaves hplace hserves hret hspec (dieOfSrc l.src) false hn hin
      (fun h => absurd h Bool.noConfusion) _ rfl
    exact ⟨_, run .pktWrite 1 _ rfl hkind, hrt, hload, hsent, hregs rfl, hbut⟩
  · obtain ⟨hrt, -, hload, hbut, -⟩ := State.packetPut_leaves hplace hserves hret hspec (dieOfSrc l.src) true hn hin (fun _ => halign) _
      rfl
    exact ⟨_, run .atomicAdd 2 _ rfl hkind, hrt, hload.trans (s.near.putBytes_atomic _ _ _ rfl), hbut⟩
  · exact (run .signal 3 _ rfl hkind).trans (congrArg Host.Outcome.next
      (State.signalPacket_core (s.taken l) l.pkt k hcore hsite hserves ⟨hlo, hhi⟩))
  · intro i x hkind hc hserves hactive hrole hstage hi hsrc hin htag hours hrounds hphase hnum hwhole hmask hdl hoff hroom hmem
    have hfrom : (s.taken l).redInput 0 l.pkt = some i := by
      rw [State.redInput, if_pos rfl]
      exact find?_only hin fun j hj => beq_iff_eq.trans (hsrc j hj)
    obtain ⟨z, hz, hznum, hbytes, hgot, hload, hrt, hnear⟩ := (s.taken l).redPacket_contrib l.pkt i x (hctx.symm ▸ hc) hi hfrom
      ⟨hactive, hrole, htag, hours, hrounds, hphase, hnum, hwhole, hmask, hdl, hoff, hroom, hmem⟩ _ rfl
    refine ⟨_, z, (run .redContrib 0x10 _ rfl hkind).trans (congrArg Host.Outcome.next ?_), hz, hznum, hbytes, hgot, hload, hrt, hnear⟩
    exact State.redDeliver_serves _ 0 l.pkt hserves hstage
  · intro x hkind hc hlast hserves hactive hrole hstage hvalid hsrc htag hours hrounds hphase hnum hins hwhole hmask hdl hoff hroom hmem
      hmore
    have hfrom : (s.taken l).redInput 1 l.pkt = some 0 := by
      rw [State.redInput, if_neg (by omega)]
      exact if_pos ⟨State.on_of_one (s.taken l) _ hvalid, hsrc⟩
    obtain ⟨z, hz, hznum, hbytes, hzphase, hload⟩ := (s.taken l).redPacket_result l.pkt x (hctx.symm ▸ hc)
      (List.length_pos_iff.mpr hins) hlast hmore hfrom
      ⟨hactive, hrole, htag, hours, hrounds, hphase, hnum, hwhole, hmask, hdl, hoff, hroom, hmem⟩ _ rfl
    refine ⟨_, z, (run .redResult 0x11 _ rfl hkind).trans (congrArg Host.Outcome.next ?_), hz, hznum, hbytes, hzphase, hload⟩
    exact State.redDeliver_serves _ 1 l.pkt hserves hstage
  · refine (run .pelotonArrive 0x12 _ rfl hkind).trans (congrArg Host.Outcome.next ?_)
    exact State.pelotonPacket_current (s.taken l) l.pkt hserves hours false hactive hgen
  · obtain ⟨h1, h2, h3, h4⟩ := (s.taken l).pelotonFree_effect c m hc hctx _ rfl
    have hmask : m < 2 ^ 16 := bits_lt l.pkt.w2 63 48
    refine ⟨_, (run .pelotonRelease 0x13 _ rfl hkind).trans (congrArg Host.Outcome.next ?_), h1, h2, h3, h4.trans
        (Nat.mod_eq_of_lt hmask),
      sameBytes_taken (l := l) ((Keeps.refl (s.taken l)).pelotonFree c m).bytes⟩
    exact (State.pelotonPacket_current (s.taken l) l.pkt hserves hours true hactive hgen).trans
      ((s.taken l).pelotonSpread_unchained hplain c m hc)
  · refine (run .caravan 0x14 _ rfl hkind).trans (congrArg Host.Outcome.next ?_)
    exact State.caravanPacket_current (s.taken l) l.pkt hserves hours (dieOfSrc l.src) hactive hround
  · intro f d hkind hempty hop hok hbank
    obtain ⟨q, hqkind, hqdst, hanswer⟩ := d.st.mgmtAnswer_unroutable (dieOfSrc l.src) l.pkt d.status
        (if d.status = stOk then noWord else 0) []
      (bits_lt l.pkt.w0 47 32) hbank
    refine ⟨q, hqkind, hqdst, (live_powered s mgmtReq hs.1 hs.2 : execMgmtReq s = _).trans (congrArg Host.Outcome.next ?_)⟩
    rw [mgmtReq_taken hheld hloc houts hspec hkind hempty, (s.taken l).mgmtRun_write l hop hok d rfl, hanswer]
  · intro r hkind hfind hbox hmute hout hroom hstatus
    obtain ⟨-, -, -, -, -, -, hcolok, -⟩ := hshape
    obtain ⟨f, hmbox, hrest⟩ := (s.taken l).mgmtBack_answers l r hcolok hfind hbox hmute hout hroom hstatus _ rfl
    obtain ⟨hsent, hop, hw0, htag, hdata⟩ := hrest
    exact ⟨_, f, run .mgmtResp 0x21 _ rfl hkind, hmbox, hsent, hop, hw0, htag, hdata,
      sameBytes_taken (l := l) ((Keeps.refl (s.taken l)).mgmtBack l).bytes⟩

end Sys2Proof.Machine

/-! A slot boundary that a held beacon moves (O12). -/
namespace Sys2Proof.Machine

/-- Tick 0 of a module with SYNC UNSET whose port 0 is in SERVICE and holds the beacon of slot 1, not yet evaluated (R366): BEACON_EN and the
port's DELAY_VALID are set, and the beacon says ALIGNED and HOPS 0. -/
def beaconWaits : State :=
  (State.reset.set F.CAD_CTRL_BEACON_EN 1).set (F.SPK_CAD_DELAY_VALID 0) 1 |>.set (F.OPT_STATE_PHASE 0) 7
    |>.modOptic 0 fun o => { o with beaconWait := some (0, 0, 0, mkWord [(63, 8, 1), (3, 3, 1)]) }

theorem beaconWaits_powered : beaconWaits.powered := ⟨rfl, rfl⟩

/-- The boundary taken is the one of tick 0. -/
theorem beaconWaits_slotTaken : (slotBoundary beaconWaits).cad.slotTaken = some 0 := by decide +kernel

/-- The beacon, evaluated as its slot ends, has set the count to the start of slot 1 (R56). -/
theorem beaconWaits_now : (slotBoundary beaconWaits).now = 256 := by decide +kernel

/-- Refutes O12: a beacon that a port in SERVICE still holds is evaluated as its slot ends, and in UNSET it sets the count (R56), after the
boundary was taken: at `beaconWaits` the command takes tick 0 and leaves the count at 256. -/
theorem not_marksFallOnTheirTicks : ¬ Obligations.MarksFallOnTheirTicks := by
  unfold Obligations.MarksFallOnTheirTicks
  intro h
  obtain ⟨-, ⟨t, hrun, htaken, -⟩, -⟩ := h beaconWaits beaconWaits_powered
  have hlive : exec .slotBoundary beaconWaits = .next (slotBoundary beaconWaits) :=
    live_powered beaconWaits slotBoundary beaconWaits_powered.1 beaconWaits_powered.2
  obtain rfl : slotBoundary beaconWaits = t := Host.Outcome.next.inj (hlive.symm.trans hrun)
  rw [beaconWaits_slotTaken, beaconWaits_now] at htaken
  exact absurd htaken (by decide)

end Sys2Proof.Machine
